-- ==== Sys2Proof/Word.lean ====
section
/-!
DEFINITION. The words of the BX-9400 model: bytes, 64-byte lines, 256-bit keys, and the keyed store used for every
sparse table of the device (a list of key and value pairs, keys strictly rising).
-/
namespace Sys2Proof

/-- One byte. -/
abbrev Byte := BitVec 8
/-- One 64-byte line, byte 0 in bits 7..0 (all multi-byte fields are little-endian). -/
abbrev Line := BitVec 512
/-- A 256-bit data key as it stands unwrapped on die (R280). -/
abbrev Key := BitVec 256

/-- A sparse table: pairs of key and value with strictly rising keys. -/
abbrev AMap (α : Type) := List (Nat × α)

end Sys2Proof
end

