-- ==== Sys2Proof/Syntax.lean ====
section
/-!
DEFINITION. The commands of the BX-9400: one constructor of `Instr` for each row of the opcode table. A command is what
the outside hands the device (a request of a head, a command of an interface, an event on a pin) or an internal event
whose moment the model leaves to the outside (a response of a package, a timer's end).
-/
namespace Sys2Proof

/-- A read request of a head: the head (0 or 1), the request's tag and the host physical address. -/
structure HostReq where
  head : Nat
  tag : Nat
  hpa : Nat
  deriving DecidableEq, Repr

/-- A write request of a head, with its data, its byte enables (all set for MemWr) and the CXL Poison bit. -/
structure HostWr where
  head : Nat
  tag : Nat
  hpa : Nat
  data : Line
  be : BitVec 64
  poison : Bool
  deriving DecidableEq, Repr

/-- How a management command arrives: the interface (0 H0 mailbox, 1 H1 mailbox, 2 MCTP), whether inside a secured SPDM
session, and the length of the request payload in bytes. -/
structure CmdHdr where
  iface : Nat
  secured : Bool
  len : Nat
  deriving DecidableEq, Repr

/-- What leaves a rail's band (R358): under-voltage, over-voltage, over-current. -/
inductive RailKind where
  | uv | ov | oc
  deriving DecidableEq, Repr

/-- The filtered inputs of R461 whose short pulses are counted. -/
inductive FilteredPin where
  | pwrfailN | resetN | perst0N | perst1N | throtN | vhold
  | mpgood (g : Nat)
  deriving DecidableEq, Repr

/-- How a media grain that reaches its slice verifies (R285, R297, R298): every line and counter, the same with one copy of an
orchard entry bad, a failed line MAC of the line asked for, or an orchard entry of a level both of whose copies have failed. -/
inductive GrainCheck where
  | ok | repaired | macFail
  | orphan (level : Nat)
  deriving DecidableEq, Repr

/-- A media grain on its way to a slice: the token epoch it carries (R111), and how it verifies. -/
structure GrainAnswer where
  epoch : Nat
  check : GrainCheck
  deriving DecidableEq, Repr

/-- What resets a head (R94): its PERSTn_N, a hot reset, or a link-down reset. -/
inductive HeadReset where
  | perst | hot | linkDown
  deriving DecidableEq, Repr

/-- What JTAG does through DBG_ACCESS once debug is unlocked (R309, R443, R445): a line of the DPA space read or written as
master 0, an access to BX space, or a management processor halted or let go. -/
inductive DbgAcc where
  | dpaRead (dpa : Nat)
  | dpaWrite (dpa : Nat) (data : Line)
  | barRead (addr size : Nat)
  | barWrite (addr size data : Nat)
  | halt (stop : Bool)
  deriving DecidableEq, Repr

/-- How a line of the DRAM tier verifies where a slice reads it (R287): without error, with an error that its stack corrected,
failing in the copy of one stack, or failing in every copy; `ecc` says whether the stack's ECC fails, rather than the MAC. -/
inductive TierCheck where
  | ok
  | corrected (stack : Nat)
  | oneCopy (stack : Nat) (ecc : Bool)
  | everyCopy (ecc : Bool)
  deriving DecidableEq, Repr

/-- The DRAM tier's answer to a sector read: the token epoch it carries (R111), and how the line verifies. -/
structure TierAnswer where
  epoch : Nat
  check : TierCheck
  deriving DecidableEq, Repr

/-- How the stored pointers of a queue read at an access (R222): both copies good, one good, or past settling. -/
inductive PtrCheck where
  | ok | repaired | lost
  deriving DecidableEq, Repr

/-- How an entry of the tally cache reads (R241): both copies good, one good, or the entry of a counter lost in both. -/
inductive CacheCheck where
  | ok | repaired
  | lost (set counter : Nat)
  deriving DecidableEq, Repr

/-- What a package's tables declare at identification (R347, R354): the suspensions of CAPS, and its REFTABLE. -/
structure PkgCaps where
  susp : Nat
  refs : List Nat
  deriving DecidableEq, Repr

/-- The commands, in the order of the opcode table; each docstring is the rule and the sense of its row. -/
inductive Instr where
  /-- R74: A host MemRd or MemRdData of one 64-byte line is accepted at a head, stamped, decoded to a region and passed to its owning slice. -/
  | memRd (r : HostReq)
  /-- R74: A host full-line MemWr is accepted, logged to the buddy and written through to the DRAM tier. -/
  | memWr (head : Nat) (tag : Nat) (hpa : Nat) (data : Line) (poison : Bool)
  /-- R109: A host partial write with byte enables is accepted and merged into the verified old line, or poisons the line if the old line does not verify. -/
  | memWrPtl (w : HostWr)
  /-- R115: A MemSpecRd hint is handled as a single run-ahead lookup into the run-ahead buffer, or dropped. -/
  | memSpecRd (r : HostReq)
  /-- R74: A MemInv or MemInvNT completes with NDR Cmp and moves no data. -/
  | memInv (r : HostReq)
  /-- R74: A back-invalidate or other unsupported M2S flit is dropped and a host-interface event is raised. -/
  | unsupportedM2sMessage (head : Nat) (tag : Nat) (opcode : Nat)
  /-- R209: A write to a queue's enqueue aperture is applied to frame assembly of that queue. -/
  | enqueueLine (w : HostWr) (ptr : PtrCheck)
  /-- R211: A read of the dequeue aperture returns a line of the queue's head frame, or the empty header. -/
  | dequeueRead (r : HostReq) (ptr : PtrCheck)
  /-- R212: A RELEASE doorbell removes up to COUNT frames from the queue head if EXPECTED_SEQ matches the head SEQ. -/
  | release (w : HostWr) (ptr : PtrCheck)
  /-- R212: An ABORT doorbell drops the queue's open frame and frees its cells and buffer entry. -/
  | abort (w : HostWr) (ptr : PtrCheck)
  /-- R213: A read of a queue's doorbell line returns the queue status line. -/
  | doorbellStatusRead (r : HostReq) (ptr : PtrCheck)
  /-- R214: A read of the enqueue aperture is answered with poison and raises a host-interface event. -/
  | enqueueApertureRead (r : HostReq)
  /-- R214: A write to the dequeue aperture is discarded and raises a host-interface event. -/
  | dequeueApertureWrite (w : HostWr)
  /-- R235: A write to the tally window carrying four update records is accepted and forwarded to the tally engine. -/
  | updateLine (w : HostWr)
  /-- R234: A read of the tally window is answered with poison and raises a host-interface event. -/
  | tallyWindowRead (r : HostReq)
  /-- R233: A read of a counter-window line returns the exact values of eight counters as of the read's stamp. -/
  | counterWindowRead (r : HostReq)
  /-- R233: A write to a counter-window line sets the enabled counters, replacing every earlier-stamped increment. -/
  | counterWindowWrite (w : HostWr)
  /-- R61: A write through the shadow window copies the page into the delta on first write and applies the write there. -/
  | shadowWrite (w : HostWr)
  /-- R57: A shadow-window read returns the delta page's contents, or the main window's for pages not in the delta. -/
  | shadowRead (r : HostReq)
  /-- R60: A COMMIT doorbell at control offset 0 makes the delta the committed contents at its stamp and increments EPOCH. -/
  | commit (w : HostWr)
  /-- R61: A DISCARD doorbell drops the open delta when EXPECTED_EPOCH matches. -/
  | discard (w : HostWr)
  /-- R59: A read of control offset 0x040 returns the shadow status line. -/
  | statusLineRead (r : HostReq)
  /-- R105: The buddy log acknowledges an acceptance record, and the write's completion is sent. -/
  | buddyRecordAck (slice : Nat) (entry : Nat)
  /-- R107: A DRAM-tier sector read returns hit or miss, and the read is resolved or its media read is issued. -/
  | dramTierReadResult (slice : Nat) (entry : Nat) (answer : TierAnswer)
  /-- R107: A media grain, read directly or rebuilt, reaches the slice and is decrypted and verified for the response. -/
  | mediaGrainDelivered (slice : Nat) (entry : Nat) (answer : GrainAnswer)
  /-- R104: Every target stack acknowledges a write, and the tracking-table entry reaches DONE. -/
  | dramTierWriteAck (slice : Nat) (entry : Nat)
  /-- R104: The queue or tally engine acknowledges a request, and the tracking-table entry reaches DONE. -/
  | engineAck (slice : Nat) (entry : Nat)
  /-- R122: A slice receives a next-line prefetch from another slice and drops it or reads and fills the sector. -/
  | nextLinePrefetch (slice : Nat) (nth : Nat)
  /-- R113: A slice whose host entries are full and whose oldest entry has waited over 200 ns starts lookups for queued ingress reads. -/
  | runAhead (slice : Nat)
  /-- R114: A run-ahead buffer entry is invalidated 2 µs after it was filled. -/
  | runAheadEntryExpiry (slice : Nat) (line : Nat)
  /-- R123: The DRAM tier answers ACCEPT or DECLINE to a victim-hold clean offer. -/
  | cleanOfferAnswer (slice : Nat) (hold : Nat) (accept : Bool)
  /-- R123: The DRAM tier acknowledges offer data, and the victim-hold entry is freed. -/
  | offerDataAck (slice : Nat) (hold : Nat)
  /-- R125: A line-cache way takes a corrected or uncorrected ECC error, which is counted and may disable the way. -/
  | lineCacheEccError (slice : Nat) (set : Nat) (way : Nat) (corrected : Bool)
  /-- R125: A 1 s window of corrected way errors ends and the count restarts. -/
  | wayErrorWindowEnd (slice : Nat)
  /-- R127: A write of 1 to a bit of SLC_WAY_TEST starts the built-in test of a disabled way. -/
  | slcWayTestWrite (slice : Nat) (mask : Nat)
  /-- R127: A way test ends, re-enabling the way on a pass or logging the failure. -/
  | wayTestDone (slice : Nat) (way : Nat) (pass : Bool)
  /-- R144: A direct or suspended read has not delivered by its predicted time plus RESCUE_SLIP, and a rescue read-around starts. -/
  | rescueSlipExpiry (read : Nat)
  /-- R142: A suspension reaches SUS_HOLD and the program or clear resumes. -/
  | susHoldExpiry (die : Nat)
  /-- R148: A request passes its deadline unanswered, becomes overdue and moves to rank 2 at its die queues. -/
  | deadlinePassed (slice : Nat) (entry : Nat)
  /-- R149: A request has no response at its answer instant, and the head answers it with poison or a normal completion. -/
  | answerInstant (head : Nat) (rid : Nat)
  /-- R88: A 4 µs DevLoad window ends and the value for the next window is computed. -/
  | devloadWindowEnd
  /-- R151: Each second of timebase adds W to the wear credit, up to its capacity. -/
  | wearCreditAccrual
  /-- R161: The DRAM tier starts write-back of a dirty persistent page by snapshot when it ages, or on dirty-data pressure. -/
  | writeBackStart (lpn : Nat)
  /-- R164: The verify reads of a programmed band row complete, and map entries move for pages still current. -/
  | bandRowVerified (band : Nat) (row : Nat) (member : Nat) (errors : Nat)
  /-- R171: The cullet engine, running below the free-block threshold, picks the highest-scoring FULL band and relocates its valid pages. -/
  | culletVictimSelection
  /-- R60: The management cluster folds a committed delta map into the translation map as background work. -/
  | commitFold (region : Nat)
  /-- R170: The gather zone takes ready blocks, one gather band at a time, while free blocks exceed twice FREE_LOW. -/
  | gatherZoneGrowth
  /-- R170: The gather zone returns or compacts gather bands while free blocks are below FREE_LOW. -/
  | gatherZoneShrink
  /-- R191: The lehr copies the valid pages of a band that is due for refresh into new lehr-stream bands. -/
  | lehrRefresh
  /-- R192: The lehr reads rows holding valid data so that each is scanned within SCAN_DAYS. -/
  | mediaScan (band : Nat) (row : Nat)
  /-- R167: The lehr schedules the clear of a free block to keep a die's ready count. -/
  | clearScheduled (die : Nat)
  /-- R185: A die's drift sentinel is reprogrammed every 24 h of powered time. -/
  | sentinelReprogram (die : Nat)
  /-- R196: Staged pages move from gather bands into dense bands once a dense window reopens. -/
  | stagedPageMove
  /-- R248: Re-mirroring of dirty pages after a stack loss ends. -/
  | remirrorComplete
  /-- R217: A volatile queue over SPILL_HI, or pool use over SPILL_POOL, writes a spill page of 16 closed-frame cells to the gather zone. -/
  | spill (queue : Nat)
  /-- R218: The oldest spill page is read back into pool cells when the head segment falls below HEAD_WIN. -/
  | spillPagePrefetch (queue : Nat) (decoded : Bool)
  /-- R220: An open frame is closed or dropped once every request stamped before its boundary has been applied. -/
  | tailTimeout (queue : Nat)
  /-- R229: Every 1 ms the pointers of changed persistent queues are recorded in the intent journal. -/
  | qptrJournal
  /-- R237: Once every slice's watermark lies beyond an item's key, the tally engine merges and applies that item. -/
  | tallyMerge (check : CacheCheck)
  /-- R239: FOLD_NS after a side's first pending record, its deltas are folded into the home line. -/
  | tallyFold (set : Nat) (counter : Nat) (side : Nat)
  /-- R242: A counter set's epoch boundary is merged, flipping the side and starting a snapshot under AUTO_SNAP. -/
  | epochBoundary (set : Nat)
  /-- R245: The boundary B given by TALLY SNAPSHOT AT is reached and merged, starting the snapshot. -/
  | tallyAtBoundary (set : Nat)
  /-- R243: The copier finishes a snapshot bank and writes its header with STATE 1. -/
  | snapshotCopyComplete (set : Nat)
  /-- R252: Every 4 ms the device samples the bank and recomputes B_energy, B_gather and the effective quench budget. -/
  | housekeepingRound (sense : Nat)
  /-- R258: Every FLUSH_US, or when 256 KiB has gathered, the journal partition is mirrored into the gather zone. -/
  | journalFlush
  /-- R258: Every 10 s a CHECKPOINT record and a startup checkpoint are written. -/
  | checkpoint
  /-- R258: The timebase comes within 5 s of the stamp ceiling, and a ceiling record raises the ceiling. -/
  | ceilingRecord
  /-- R259: Every 1 s the wear credit, dose counters and SNAP_ID are journalled. -/
  | meter
  /-- R256: A through sheet is cut 400 ns after its first record and programmed to a through pair. -/
  | throughSheetCut
  /-- R256: Both copies of a through sheet have programmed and one has been read back, so the writes it holds complete. -/
  | throughSheetProgrammed (sheet : Nat) (corrected : Nat)
  /-- R265: All accepted work completes during a quench freeze, and the quench moves to INDEX or SEAL. -/
  | drainComplete
  /-- R265: 100 µs after T_q, open acceptance records become PENDING records and the quench moves on. -/
  | drainTimeout
  /-- R267: The dirty-page index and its end record are verified, and quench moves to PAGES. -/
  | indexVerified
  /-- R267: Every saved page's quench row is verified, and quench moves to META. -/
  | pagesVerified
  /-- R267: Quench metadata is verified, and the seal is written. -/
  | metadataVerified
  /-- R267: One seal copy verifies, and the quench takes its ending: RESET, DOWN, WARM or HOLD. -/
  | sealVerified (vBank : Nat) (eUsed : Nat)
  /-- R267: PWRFAIL_N high and VIN good have held 10 ms, so a sealed quench takes a warm return or system reset. -/
  | supplyGood
  /-- R267: The warm return's restore completes, and acceptance resumes with hold-up unverified. -/
  | restoreComplete
  /-- R305: At the RH_MBPS pace a sweep step re-keys the page at boundary D and moves D. -/
  | reheatStep (sweep : Nat)
  /-- R306: A sweep step reaches 2 µs and is abandoned without effect. -/
  | reheatStepTimeout (sweep : Nat)
  /-- R306: An abandoned step is retried RH_RETRY_US after its abandonment. -/
  | reheatStepRetry (sweep : Nat)
  /-- R131: A recoverable slice fault is detected, and the slice is reset and replayed from its buddy log. -/
  | sliceFault (slice : Nat)
  /-- R328: A media complex fault is detected, and its reads are served by read-around while it resets and replays its operation log. -/
  | mediaComplexFault (complex : Nat)
  /-- R225: A fault in the queue or tally pipeline resets the pipeline and replays unacknowledged records. -/
  | pipelineFault
  /-- R328: A DRAM stack is lost; mirrors serve, re-mirror starts, and volatile contents in the stack are poisoned or reset. -/
  | dramStackFailure (stack : Nat)
  /-- R174: A media package becomes FAILED, reads go to read-around and its bands become rebuild bands. -/
  | packageFailure (package : Nat)
  /-- R328: An internal head error resets the host interface logic above the link layer. -/
  | headInternalError (head : Nat)
  /-- R326: An uncorrectable error in the crossbar, journal controller or UST raises quench trigger 7 and a system reset. -/
  | fatalError
  /-- R317: A unit's recovery or test completes, and it returns to ONLINE or DEGRADED. -/
  | recoveryComplete (unit : Nat)
  /-- R328: A recovery is not complete within its budget, so the unit goes FAILED with cause 4 and its fallback acts. -/
  | recoveryBudgetExceeded (unit : Nat)
  /-- R332: A DRAINING unit becomes idle and reaches QUIESCED, OFF or RETIRED. -/
  | unitIdle (unit : Nat)
  /-- R385: The idle-handshake timeout expires and reset is asserted on the unit. -/
  | idleHandshakeTimeout (unit : Nat)
  /-- R385: A unit reset's hold time ends and the unit's domain is released. -/
  | unitResetRelease (unit : Nat)
  /-- R473: A STARTING unit passes initialisation and becomes ONLINE or DEGRADED. -/
  | initialisationPassed (unit : Nat)
  /-- R473: A unit commanded ONLINE from OFF has not passed initialisation within its bound and goes FAILED with cause 8. -/
  | startBoundExpiry (unit : Nat)
  /-- R330: A REPAIR built-in test ends, returning the unit to service or to FAILED. -/
  | builtInTestDone (unit : Nat) (pass : Bool)
  /-- R337: A STATE DIGEST snapshot is freed 60 s after its last page read. -/
  | stateDigestExpiry (iface : Nat)
  /-- R345: An M-link in DETECT gets no block lock within 1 ms and tries the next mode, or fails. -/
  | detectTimeout (link : Nat)
  /-- R345: A TRAIN control block from the package is checked against WIRING in LOCK. -/
  | trainBlockReceived (link : Nat) (port : Nat) (ptype : Nat) (reversed : Bool) (polarity : Nat)
  /-- R345: Both receivers choose presets, and the link moves to DESKEW. -/
  | eqComplete (link : Nat)
  /-- R345: ALIGN is seen on both lanes within skew, and the link moves to CHECK. -/
  | deskewComplete (link : Nat)
  /-- R345: 100 µs of PRBS31 frames pass without CRC error, and the link becomes ACTIVE. -/
  | checkPass (link : Nat)
  /-- R343: 32 consecutive invalid sync headers lose block lock, and the link enters RECOVERY. -/
  | blockLockLost (link : Nat)
  /-- R345: An M-link in RECOVERY does not pass within 50 µs and falls back to full training. -/
  | recoveryTimeout (link : Nat)
  /-- R344: A received M-link frame fails its CRC or LEN check and is dropped and counted. -/
  | frameCrcFailure (link : Nat) (tag : (Option Nat))
  /-- R341: A home port has been ONLINE for 1 s, and dies re-homed away from it return. -/
  | homePortReturn (link : Nat)
  /-- R346: A DATA frame with stored grains arrives from a package and is ECC-decoded. -/
  | dataResponse (link : Nat) (tag : Nat) (errors : (List Nat))
  /-- R346: A DONE frame reports the outcome of a program, clear, resume, reset, query or sentinel program. -/
  | doneResponse (link : Nat) (tag : Nat) (stat : Nat)
  /-- R346: A SUSPENDED frame reports that a die's program or clear is suspended. -/
  | suspendedResponse (link : Nat) (tag : Nat)
  /-- R346: A SENTINEL_DATA frame reports measured reference boundaries, from which the off-time dose is computed. -/
  | sentinelDataResponse (link : Nat) (tag : Nat) (positions : (List Nat))
  /-- R350: An M-link command's response has not arrived in time, and the command is reissued or queried. -/
  | commandReissueTimeout (link : Nat) (tag : Nat)
  /-- R353: A package holds SDA low for 2 µs, and the device reads ALERT from each package on the bus. -/
  | sidebandAlert (package : Nat) (alert : Nat)
  /-- R354: Every 100 ms the device polls the empty sideband addresses and detects presence or silence. -/
  | sidebandPoll (package : Nat) (ack : Bool) (crc : Nat) (ptype : Nat) (dies : Nat) (serial : Nat) (caps : PkgCaps)
  /-- R364: V_AON becomes good, the always-on domain is released and the sequencer starts at step 1. -/
  | powerOn (bootSel : Nat) (headMode : Bool) (sqRole : Bool)
  /-- R356: Both supplies fail and V_AON falls, so the next start is a power-on reset. -/
  | powerLoss
  /-- R356: VIN12 has held 10.8 V or more for 10 ms, letting the sequencer leave step 2. -/
  | vinGood (mv : Nat)
  /-- R263: A filtered fall of PWRFAIL_N is quench trigger 1. -/
  | pwrfailNLow
  /-- R263: VIN12 below 10.4 V for 2 µs is quench trigger 2. -/
  | vin12Low (mv : Nat)
  /-- R263: VAUX3 below 3.05 V with VIN good is quench trigger 3. -/
  | vaux3Low (mv : Nat)
  /-- R371: A running module rail leaves ±8 % or exceeds its current limit, which is quench trigger 4. -/
  | railFault (rail : Nat) (kind : RailKind) (mv : Nat) (current : Nat)
  /-- R358: A rail makes a warning excursion between ±4 % and ±8 %, which is counted with an event. -/
  | railWarn (rail : Nat) (kind : RailKind) (mv : Nat)
  /-- R357: A regulator loses one phase, which is a corrected fault that is counted with a warning event. -/
  | phaseLost (rail : Nat)
  /-- R364: An enabled rail becomes good, and the sequencer enables the next rail of its step. -/
  | railGood (rail : Nat) (mv : Nat)
  /-- R369: An enabled rail fails to rise within RISE_MS; it is switched off and its dependants fail. -/
  | railRiseTimeout (rail : Nat)
  /-- R364: A power-up step completes and the sequencer enters the next step. -/
  | sequencerStepAdvance
  /-- R366: The rails of a power-down step have fallen and the sequencer enters the next down step. -/
  | sequencerDownStep
  /-- R268: A rail has not fallen within DISCH_MS after switch-off, and it is actively discharged. -/
  | dischargeTimeout (rail : Nat)
  /-- R268: A rail collapses out of order during quench or power-down, and its dependants are switched off. -/
  | railCollapse (rail : Nat)
  /-- R373: A filtered rise of MPGOODg at step 8 starts its 1 ms stable period. -/
  | mpgoodRise (group : Nat)
  /-- R373: A filtered fall of MPGOODg while the group is up latches the group off. -/
  | mpgoodFall (group : Nat)
  /-- R373: MPGOODg fails to rise and hold within MPG_RISE_MS, and the group fails to rise. -/
  | mpgRiseTimeout (group : Nat)
  /-- R376: Every 1 ms a master sequencer broadcasts its target frame on the SQ bus. -/
  | sqFrameBroadcast
  /-- R376: A follower receives a target frame and checks its CRC. -/
  | sqFrameReceived (id : Nat) (target : Nat) (seq : Nat) (crc : Nat)
  /-- R377: SQ_STEP has read high for 2 µs, and every ready sequencer enters its next step. -/
  | sqStepHigh
  /-- R377: SQ_STEP stays low, or no frame arrives, for SQ_UP_MS; the sequencer raises a warning and alerts. -/
  | sqUpTimeout
  /-- R378: SQ_DOWN_MS passes after a down step completes, and the sequencer moves on as a down timeout. -/
  | sqDownTimeout
  /-- R383: A filtered low on RESET_N is quench trigger 7 and leads to a system reset after the seal. -/
  | resetNAssert
  /-- R383: RESET_N rises, and the device leaves the held system reset and restarts. -/
  | resetNRelease
  /-- R94: PERST0_N or PERST1_N, a hot reset or a link-down reset resets one head as a unit. -/
  | perstAssert (head : Nat) (how : HeadReset)
  /-- R97: PERSTn_N rises and the head starts link training. -/
  | perstRelease (head : Nat)
  /-- R94: A Function Level Reset clears a head's CXL.io function state only. -/
  | functionLevelReset (head : Nat)
  /-- R96: A head's link reaches L0, and the head becomes ONLINE, DEGRADED or PCIe-only. -/
  | linkUp (head : Nat) (rate : Nat) (width : Nat) (cxl : Bool) (lowLatency : Bool) (reversed : Bool)
  /-- R95: A head's link goes down; accepted requests finish inside the device and their completions are discarded. -/
  | linkLoss (head : Nat)
  /-- R92: A received flit fails its IDE integrity check, and the stream goes insecure and is treated as a link loss. -/
  | ideIntegrityFailure (head : Nat) (io : Bool)
  /-- R461: A pulse on a filtered input is shorter than its filter and is only counted. -/
  | inputGlitch (pin : FilteredPin)
  /-- R461: I3C_SCL is held low for more than 100 ms and the target interface resets. -/
  | i3cSclStuck
  /-- R388: A write of RST_WDT.KICK restarts the management watchdog. -/
  | watchdogKick
  /-- R388: The watchdog is not restarted within PERIOD_MS, causing a core reset. -/
  | watchdogExpiry
  /-- R384: The core reset hold ends, and domains are released in order and the journal is replayed. -/
  | coreResetHoldEnd
  /-- R389: An external clock source toggles for 1 ms within tolerance and becomes ready. -/
  | clockSourceReady (source : Nat)
  /-- R394: A PLL reference stops being ready, and the PLL enters holdover and falls back. -/
  | clockSourceLost (source : Nat)
  /-- R395: A PLL loses lock while its reference is ready; its domains are gated while it relocks. -/
  | pllLockLoss (pll : Nat)
  /-- R395: A PLL fails to relock within 100 µs, which is an internal fatal error. -/
  | pllRelockTimeout (pll : Nat)
  /-- R393: A write of CLK_SRC_SEL is checked against ready sources and switches PLL references or WCLK. -/
  | clkSrcSelWrite (value : Nat)
  /-- R393: A PLL relocks to its new reference and leaves holdover. -/
  | pllSwitchDone (pll : Nat)
  /-- R398: A read of CLK_TB_LO returns the low timebase and latches the upper half into CLK_TB_HI. -/
  | clkTbLoRead
  /-- R403: A sensor sample is taken and stamped, updating throttle fractions, doses, windows and thermal outputs. -/
  | temperatureSample (sensor : Nat) (raw : Nat) (selfCheckOk : Bool)
  /-- R184: No valid package temperature sample for 100 ms, so the package counts as 95 °C and its dose advances at that rate. -/
  | sampleLossTimeout (package : Nat)
  /-- R406: A filtered low on THROT_N sets F_EXT to THROT_FRAC. -/
  | throtNFall
  /-- R406: A filtered rise on THROT_N starts the 1 ms hold of F_EXT. -/
  | throtNRise
  /-- R406: 1 ms after THROT_N rises, F_EXT becomes 0. -/
  | throtHoldExpiry
  /-- R406: The stuck timer passes THROT_STUCK_S, raising external throttle stuck. -/
  | throtStuckTimeout
  /-- R413: An MCTP event notification has been transmitted, and the next one in the queue starts. -/
  | mctpNotificationSent
  /-- R423: A counter group's interval boundary takes a snapshot of its counters. -/
  | pmcIntervalBoundary (group : Nat)
  /-- R423: 4 µs after a boundary the snapshot is published and SNAP_SEQ increments. -/
  | pmcSnapshotPublish (group : Nat)
  /-- R41: Every 1 ms of a TIERPLAN roll the next slice is quiesced, reconfigured and resumed. -/
  | tierplanSliceRoll
  /-- R37: 60 s without a staging chunk ends the session with STAGE_ORDER and leaves the slot INVALID. -/
  | stagingTimeout
  /-- R440: 60 s without a firmware transfer part ends the session as Abort. -/
  | fwTransferTimeout
  /-- R441: New firmware loads and starts after an online activation, and commands are accepted again. -/
  | fwLoadComplete
  /-- R442: New firmware fails to restart the watchdog within 2 s of its start, and the device falls back to the other slot. -/
  | fwStartTimeout
  /-- R442: After 1 h without a watchdog reset, the firmware security floor rises to the running version. -/
  | fwFloorRaise
  /-- R444: A debug-unlock nonce expires after 60 s. -/
  | nonceExpiry
  /-- R433: The block clears of Sanitize finish and the background command completes. -/
  | sanitizeComplete
  /-- R432: Identify returns vendor ID, device ID and serial number. -/
  | identify (c : CmdHdr)
  /-- R432: Returns the progress of the interface's background command. -/
  | backgroundOperationStatus (c : CmdHdr)
  /-- R86: Returns records of one of the interface's event logs. -/
  | getEventRecords (c : CmdHdr) (log : Nat)
  /-- R86: Clears records of one of the interface's event logs. -/
  | clearEventRecords (c : CmdHdr) (log : Nat) (all : Bool) (handles : (List Nat))
  /-- R86: Returns the event interrupt policy. -/
  | getEventInterruptPolicy (c : CmdHdr)
  /-- R86: Sets the event interrupt policy. -/
  | setEventInterruptPolicy (c : CmdHdr) (policy : (List Byte))
  /-- R440: Reports the two firmware slots and online activation support. -/
  | getFwInfo (c : CmdHdr)
  /-- R440: Transfers a whole firmware object to the inactive slot and validates it. -/
  | transferFwFull (c : CmdHdr) (slot : Nat) (data : (List Byte))
  /-- R440: Opens a firmware transfer session with its first part. -/
  | transferFwInitiate (c : CmdHdr) (slot : Nat) (off : Nat) (data : (List Byte))
  /-- R440: Adds a part to the open firmware transfer. -/
  | transferFwContinue (c : CmdHdr) (off : Nat) (data : (List Byte))
  /-- R440: Ends the firmware transfer and validates the object. -/
  | transferFwEnd (c : CmdHdr) (off : Nat) (data : (List Byte))
  /-- R440: Aborts the firmware transfer session. -/
  | transferFwAbort (c : CmdHdr)
  /-- R441: Marks the new slot active and reloads management firmware online as a background command. -/
  | activateFwOnline (c : CmdHdr) (slot : Nat)
  /-- R441: Marks a firmware slot to take effect at the next power-on or system reset. -/
  | activateFwNextReset (c : CmdHdr) (slot : Nat)
  /-- R432: Returns the host time mapped from the timebase. -/
  | getTimestamp (c : CmdHdr)
  /-- R86: Sets the device-wide mapping of timebase onto host time. -/
  | setTimestamp (c : CmdHdr) (time : Nat)
  /-- R432: Reports the Command Effects Log as the only log. -/
  | getSupportedLogs (c : CmdHdr)
  /-- R432: Returns the Command Effects Log. -/
  | getLog (c : CmdHdr) (uuid : (List Byte)) (off : Nat) (n : Nat)
  /-- R79: Reports the DPA limit as total and persistent capacity, with poison list limits. -/
  | identifyMemoryDevice (c : CmdHdr)
  /-- R79: Reports partition information as R79 gives. -/
  | getPartitionInfo (c : CmdHdr)
  /-- R79: Is refused with Unsupported. -/
  | setPartitionInfo (c : CmdHdr)
  /-- R432: Reads the label storage area. -/
  | getLsa (c : CmdHdr) (off : Nat) (n : Nat)
  /-- R432: Writes the label storage area, kept through the metadata stream. -/
  | setLsa (c : CmdHdr) (off : Nat) (data : (List Byte))
  /-- R198: Returns health status, media status, life used, temperature and counts. -/
  | getHealthInfo (c : CmdHdr)
  /-- R199: Returns the alert thresholds. -/
  | getAlertConfiguration (c : CmdHdr)
  /-- R199: Sets the programmable warning thresholds. -/
  | setAlertConfiguration (c : CmdHdr) (valid : Nat) (enable : Nat) (life : Nat) (high : Nat) (low : Nat) (volErr : Nat) (persErr : Nat)
  /-- R432: Returns the stored shutdown state. -/
  | getShutdownState (c : CmdHdr)
  /-- R432: Stores the shutdown state in the journal. -/
  | setShutdownState (c : CmdHdr) (state : Nat)
  /-- R83: Returns the stored-poisoned lines in a DPA range, consistent as of acceptance. -/
  | getPoisonList (c : CmdHdr) (start : Nat) (n : Nat)
  /-- R84: Stores one line poisoned with source Injected. -/
  | injectPoison (c : CmdHdr) (dpa : Nat)
  /-- R84: Stores data to one line and ends its poison. -/
  | clearPoison (c : CmdHdr) (dpa : Nat) (data : Line)
  /-- R99: Scan Media commands are answered Unsupported. -/
  | scanMedia (c : CmdHdr) (which : Nat)
  /-- R433: Erases all keys, map entries, poison and dirty data, then clears every data block, as a background command. -/
  | sanitize (c : CmdHdr)
  /-- R433: Erases all keys, map entries, poison and dirty data in the foreground. -/
  | secureErase (c : CmdHdr)
  /-- R432: A standard command not listed, such as a dynamic capacity command, is answered Unsupported. -/
  | unsupportedCommand (c : CmdHdr) (opcode : Nat)
  /-- R71: Reports two heads with one logical device each, over MCTP. -/
  | getMultiHeadedInfo (c : CmdHdr) (start : Nat) (limit : Nat)
  /-- R383: The MCTP Get Endpoint ID command is answered, even in system reset. -/
  | getEndpointId
  /-- R383: The MCTP Get MCTP Version Support command is answered, even in system reset. -/
  | getMctpVersionSupport
  /-- R81: A DOE CDAT read returns entries of the table in force at its acceptance. -/
  | cdatTableAccess (head : Nat) (entry : Nat)
  /-- R90: DOE Discovery reports the supported protocols. -/
  | doeDiscovery (head : Nat) (index : Nat)
  /-- R91: An SPDM measurement request returns the signed measurements of indices 1 to 5. -/
  | getMeasurements (iface : Nat) (index : Nat)
  /-- R91: Writes the owner certificate chain to slot 1 in a secured session. -/
  | setCertificate (iface : Nat) (slot : Nat) (chain : (List Byte))
  /-- R91: An SPDM key exchange opens a secured session. -/
  | keyExchange (iface : Nat)
  /-- R92: An IDE_KM KEY_PROG programs an IDE key set. -/
  | keyProg (head : Nat) (io : Bool) (set : Nat) (dir : Nat) (key : (List Byte))
  /-- R92: An IDE_KM K_SET_GO switches a stream to a key set at the next flit boundary. -/
  | kSetGo (head : Nat) (io : Bool) (set : Nat)
  /-- R92: An IDE_KM K_SET_STOP stops a key set. -/
  | kSetStop (head : Nat) (io : Bool) (set : Nat)
  /-- R87: Global Persistent Flush phase 1 completes at once. -/
  | gpfPhase1 (head : Nat)
  /-- R87: Global Persistent Flush phase 2 completes at once. -/
  | gpfPhase2 (head : Nat)
  /-- R337: STATE DIGEST with SNAPSHOT_ID 0 captures the device state at its stamp and returns page 0. -/
  | stateDigestCapture (c : CmdHdr) (qgFirst : Nat) (qgCount : Nat)
  /-- R338: STATE DIGEST naming a snapshot returns one page of it. -/
  | stateDigestPageRead (c : CmdHdr) (id : Nat) (page : Nat)
  /-- R437: Returns sequencer step, reset cause, quench state, supplies, clocks, temperature, timebase and serial. -/
  | deviceStatus (c : CmdHdr)
  /-- R317: Commands a unit ONLINE under the expected generation. -/
  | unitSetStateOnline (c : CmdHdr) (unit : Nat) (gen : Nat)
  /-- R317: Commands a unit to DRAINING under the expected generation. -/
  | unitSetStateDraining (c : CmdHdr) (unit : Nat) (gen : Nat)
  /-- R317: Commands a unit to drain to QUIESCED. -/
  | unitSetStateQuiesced (c : CmdHdr) (unit : Nat) (gen : Nat)
  /-- R317: Commands a unit to drain to OFF. -/
  | unitSetStateOff (c : CmdHdr) (unit : Nat) (gen : Nat)
  /-- R317: Commands a unit reset with the idle handshake. -/
  | unitSetStateReset (c : CmdHdr) (unit : Nat) (gen : Nat)
  /-- R330: Commands a FAILED or RETIRED unit into RESETTING for test and initialisation. -/
  | unitSetStateRepair (c : CmdHdr) (unit : Nat) (gen : Nat)
  /-- R317: Commands a unit to RETIRED, or releases a region under R65. -/
  | unitSetStateRetire (c : CmdHdr) (unit : Nat) (gen : Nat)
  /-- R322: Returns state, cause and generation of one unit or a range, with UST_SEQ. -/
  | unitGetState (c : CmdHdr) (first : Nat) (count : Nat)
  /-- R37: An IMAGE STAGE chunk without LAST opens or continues a staging session. -/
  | imageStageChunk (c : CmdHdr) (off : Nat) (data : (List Byte))
  /-- R37: An IMAGE STAGE chunk with LAST closes the session and starts validation. -/
  | imageStageLast (c : CmdHdr) (off : Nat) (data : (List Byte))
  /-- R35: Background validation of a staged image ends, marking the slot STAGED or INVALID. -/
  | imageValidationDone
  /-- R38: Validates, plans and commits a staged or previous image, applying live sections at T_act. -/
  | imageActivate (c : CmdHdr) (slot : Nat) (dryRun : Bool) (commitSvn : Bool) (seq : Nat)
  /-- R434: Returns image status, slots and the image in force. -/
  | imageQuery (c : CmdHdr)
  /-- R279: KEY LOAD with MODE 0 unwraps a slot key into an EMPTY slot. -/
  | keyLoadDataKey (c : CmdHdr) (slot : Nat) (gen : Nat) (reserved : Bool) (blob : (List Byte))
  /-- R277: KEY LOAD with MODE 1 installs the owner secret while every slot is EMPTY. -/
  | keyLoadOwnerSecret (c : CmdHdr) (slot : Nat) (gen : Nat) (secret : (List Byte))
  /-- R279: Erases an ACTIVE slot's key and makes it EMPTY. -/
  | keyRetire (c : CmdHdr) (slot : Nat) (gen : Nat)
  /-- R303: Starts a reheat sweep of a range from key index k to a new slot. -/
  | reheatStart (c : CmdHdr) (region : Nat) (k : Nat) (gen : Nat) (j : Nat) (base : Nat) (limit : Nat) (blob : (List Byte))
  /-- R308: Pauses a running sweep. -/
  | reheatPause (c : CmdHdr) (sweep : Nat)
  /-- R308: Resumes a paused sweep. -/
  | reheatResume (c : CmdHdr) (sweep : Nat)
  /-- R434: Returns the state of the four sweeps. -/
  | reheatStatus (c : CmdHdr)
  /-- R62: REGION COMMIT with COMMIT acts as a commit doorbell stamped at acceptance. -/
  | regionCommitCommit (c : CmdHdr) (region : Nat) (expected : Nat)
  /-- R62: REGION COMMIT with DISCARD acts as a discard doorbell stamped at acceptance. -/
  | regionCommitDiscard (c : CmdHdr) (region : Nat) (expected : Nat)
  /-- R205: Sets a queue's key index, depth limit or tail timeout. -/
  | queueParam (c : CmdHdr) (queue : Nat) (ki : (Option Nat)) (maxKib : (Option Nat)) (timeoutUs : (Option Nat))
  /-- R223: Resets one queue at the command's stamp. -/
  | queueResetQueue (c : CmdHdr) (queue : Nat) (gen : Nat)
  /-- R223: Resets a whole queue group through RESETTING. -/
  | queueResetGroup (c : CmdHdr) (group : Nat) (gen : Nat)
  /-- R245: Takes a commanded snapshot of a counter set at the acceptance stamp. -/
  | tallySnapshotNow (c : CmdHdr) (set : Nat)
  /-- R245: Schedules a commanded snapshot at a given boundary B. -/
  | tallySnapshotAt (c : CmdHdr) (set : Nat) (b : Nat)
  /-- R385: RESET at unit level resets one unit with the idle handshake. -/
  | resetUnit (c : CmdHdr) (unit : Nat) (gen : Nat)
  /-- R384: RESET at core level drains and then runs a core reset after the response. -/
  | resetCore (c : CmdHdr)
  /-- R383: RESET at system level raises quench trigger 7 and a system reset after the seal. -/
  | resetSystem (c : CmdHdr)
  /-- R436: The QUENCH command starts a quench at its acceptance stamp with the requested ending. -/
  | quench (c : CmdHdr) (ending : Nat)
  /-- R444: DEBUG UNLOCK phase 0 returns a fresh nonce and the serial number. -/
  | debugUnlockChallenge (c : CmdHdr)
  /-- R444: DEBUG UNLOCK phase 1 checks key and signature and unlocks debug or counts a failure. -/
  | debugUnlockResponse (c : CmdHdr) (slot : Nat) (pubkey : (List Byte)) (sig : (List Byte))
  /-- R438: Returns the media health record of the requested scope. -/
  | mediaHealth (c : CmdHdr) (scope : Nat) (pkg : Nat) (die : Nat) (first : Nat) (count : Nat)
  /-- R176: Drains or retires a package for removal and identifies a replacement. -/
  | packageReplace (c : CmdHdr) (pkg : Nat) (evacuate : Bool) (gen : Nat)
  /-- R300: Poisons the written lines under an orchard entry and regrafts the subtree. -/
  | orchardRegraft (c : CmdHdr) (level : Nat) (index : Nat) (force : Bool)
  /-- R443: JTAG EXTEST, effective only while RESET_N is low. -/
  | extest (data : (List Byte))
  /-- R443: JTAG IDCODE shifts out the device identity. -/
  | idcode
  /-- R443: JTAG SAMPLE/PRELOAD captures or loads the boundary register. -/
  | samplePreload (data : (List Byte))
  /-- R443: JTAG CLAMP, effective only while RESET_N is low. -/
  | clamp (data : (List Byte))
  /-- R443: JTAG HIGHZ, effective only while RESET_N is low. -/
  | highz (data : (List Byte))
  /-- R443: JTAG DBG_CHAL shifts out the debug-unlock challenge. -/
  | dbgChal
  /-- R443: JTAG DBG_RESP shifts in the debug-unlock response, completing at Update-DR. -/
  | dbgResp (request : (List Byte))
  /-- R443: JTAG DBG_ACCESS performs a master 0 access to DPA space or BAR2 once debug is unlocked. -/
  | dbgAccess (a : DbgAcc)
  /-- R443: JTAG BYPASS selects the one-bit bypass register. -/
  | bypass (data : (List Byte))
  /-- R310: A write of 1 to CRY_CTL.LOCKDOWN enters lockdown. -/
  | cryLockdownWrite
  /-- R373: A write of 1 to a PWR_MPG.LATCH bit re-arms a latched media rail group and raises it. -/
  | mpgLatchWrite (mask : Nat)
  /-- R375: A write of 1 to PWR_SQ_CTL.LEAVE takes the device out of sequencer cooperation. -/
  | sqLeaveWrite
  /-- R309: DBG_MA_CTL.GO with WRITE 0 reads a line as master 3 under its rights. -/
  | dbgMaRead
  /-- R309: DBG_MA_CTL.GO with WRITE 1 writes a line as master 3 under its rights. -/
  | dbgMaWrite
  /-- R77: A write setting Commit on an HDM decoder commits it, or fails it above 2^48. -/
  | hdmDecoderCommit (head : Nat) (n : Nat) (hpaBase : Nat) (hpaSize : Nat) (ways : Nat) (gran : Nat) (skip : Nat) (target : Nat) (lock : Bool)
  /-- R448: A write to any BX-space register field without a behaviour of its own sets, clears or ignores it as its access type gives. -/
  | registerWrite (head : Nat) (addr : Nat) (size : Nat) (data : Nat)
  /-- R345: An M-link in DETECT or RECOVERY gains block lock on every lane of its mode and moves to LOCK. -/
  | blockLockAcquired (link : Nat)
  /-- R354: A package reports PWR_GOOD over the sideband after its isolation switch closes, so its enabled ports start training. -/
  | pwrGood (package : Nat)
  /-- R356: VAUX3 has held 3.14 V or more for 10 ms. -/
  | vaux3Good (mv : Nat)
  /-- R395: A PLL that lost lock while its reference was ready relocks within 100 µs, and its gated domains run again. -/
  | pllRelocked (pll : Nat)
  /-- R97: After PERSTn_N rises, a head's configuration space becomes ready and Memory_Info_Valid becomes 1. -/
  | configSpaceReady (head : Nat)
  /-- R269: The restart at step 9 completes and Memory Active is reported, so acceptance starts. -/
  | memoryActive
  /-- R300: The background rewriting of an ORCHARD REGRAFT ends and ORC_STATUS.REGRAFT clears. -/
  | regraftComplete
  /-- R261: The drain before a core reset ends, when all accepted work is complete or after 100 µs; PENDING records are appended, stacks enter self-refresh and reset is asserted. -/
  | coreResetDrainEnd
  /-- R436: A RESET at core or system level takes effect once its response has left the interface, or 1 ms after acceptance. -/
  | resetTakesEffect
  deriving DecidableEq, Repr

end Sys2Proof
end

