-- ==== Sys2Proof/Config.lean ====
section
/-!
DEFINITION. What the spec leaves open, as constants without a body: nothing in Lean can see a value of them, so every
statement holds whatever they are. `free` gives the free values (the spec says that some value results and not which);
the others stand for algorithms that the spec names and whose standards are outside it (FIPS, NIST, IETF, CXL).
-/
namespace Sys2Proof.Config

/-- A free value: `site` names the place of the spec that leaves it open, `n` is the state's free-value counter. -/
opaque free (site n : Nat) : Nat
/-- A free line (a read whose contents the spec leaves unpredictable). -/
opaque freeLine (site n : Nat) : Line
/-- SHA-384 (R26, R35, R91): 48 bytes. -/
opaque sha384 (bytes : List Byte) : List Byte
/-- ECDSA P-384 verification of a digest under a public key (R26): key, signature, digest. -/
opaque ecdsaVerify (pubkey sig digest : List Byte) : Bool
/-- RFC 3394 unwrap under the KEK derived from the owner secret (R277, R279): none when the integrity check fails. -/
opaque keyUnwrap (ownerSecret : List Byte) (slot gen : Nat) (blob : List Byte) : Option Key
/-- The ciphertext form of a line under a key (R286, R276), as CIPHERTEXT rights return it. -/
opaque cipherLine (key : Key) (lineAddr : Nat) (plain : Line) : Line
/-- The answer of a standard protocol whose layout the spec leaves to its standard (SPDM, CXL CCI): opaque bytes. -/
opaque stdReply (code : Nat) (request : List Byte) (n : Nat) : List Byte
/-- The code that IMAGE QUERY gives a slot state: EMPTY to INVALID in the order of R30, then ACTIVE-NPO (R434 names no
code). -/
opaque slotCode (state : Nat) : Nat
/-- The fields of a firmware header, whose places R440 does not give: version string, security version, lowest FORMAT. -/
opaque fwHeader (header : List Byte) : List Byte × Nat × Nat
/-- Identities that the spec names and does not give (R72, R85, R432, R443): PCI-SIG vendor, subsystem, the vendor record
UUID, the JEDEC manufacturer identity; the digest of the boot ROM (R91). -/
opaque vendorId : Nat
opaque subsystemId : Nat
opaque vendorUuid : List Byte
opaque jedecId : Nat
opaque bootRomDigest : List Byte
/-- The payload of an event record of a CXL type (R85), by the type and the record's fields (R416): 80 bytes. -/
opaque cxlPayload (rtype : Nat) (fields : List Byte) : List Byte
/-- The effects that the Command Effects Log gives an opcode (R432). -/
opaque effectsOf (opcode : Nat) : Nat
/-- The device's signature over measurements (R91) and over digests. -/
opaque deviceSign (bytes : List Byte) : List Byte
/-- The hash of a 4 KiB page number that indexes the DRAM-presence predictor (R106). -/
opaque predHash : Nat → Nat
/-- The set of the tally cache, 0 to 16,383, that an entry lies in (R238), by counter set × 2^28 + counter number. -/
opaque talIndex : Nat → Nat
/-- The event source that reports the step OPEN to OVERFLOW of a shadow (R61): R469 lists none for it. -/
opaque overflowSource : Nat

end Sys2Proof.Config
end

