-- ==== Sys2Proof/Machine/Store.lean ====
section
/-!
DEFINITION. The operations of the keyed store `AMap`, and plain arithmetic that later files share: saturating counts,
bit fields, little-endian bytes, truncated division.
-/
namespace Sys2Proof

/-- The value stored under a key. -/
def AMap.find {α : Type} (m : AMap α) (k : Nat) : Option α :=
  match m with
  | [] => none
  | (k', v) :: r => if k' = k then some v else AMap.find r k

/-- The value stored under a key, or `dflt`. -/
def AMap.findD {α : Type} (m : AMap α) (k : Nat) (dflt : α) : α := (m.find k).getD dflt

/-- Store a value under a key, keeping the keys rising. -/
def AMap.put {α : Type} (m : AMap α) (k : Nat) (v : α) : AMap α :=
  match m with
  | [] => [(k, v)]
  | (k', v') :: r =>
    if k < k' then (k, v) :: (k', v') :: r
    else if k = k' then (k, v) :: r
    else (k', v') :: AMap.put r k v

/-- Remove a key. -/
def AMap.del {α : Type} (m : AMap α) (k : Nat) : AMap α := m.filter (fun p => p.1 != k)

/-- Change the value under a key, when there is one. -/
def AMap.alter {α : Type} (m : AMap α) (k : Nat) (f : α → α) : AMap α :=
  match m.find k with
  | some v => m.put k (f v)
  | none => m

/-- Keep the entries whose key and value pass the test. -/
def AMap.keep {α : Type} (m : AMap α) (p : Nat → α → Bool) : AMap α := m.filter (fun e => p e.1 e.2)

/-- Count one more in a window; windows that ended a second ago go. -/
def AMap.countIn (m : AMap Nat) (now key : Nat) : AMap Nat :=
  (m.keep (fun k _ => decide (now / 1000000 < k / 65536 + 1000))).put key (m.findD key 0 + 1)

/-- The keys, rising. -/
def AMap.keys {α : Type} (m : AMap α) : List Nat := m.map (·.1)

/-- Whether a key is present. -/
def AMap.has {α : Type} (m : AMap α) (k : Nat) : Bool := (m.find k).isSome

/-- The keys of a table rise strictly: the canonical form. -/
def AMap.wf {α : Type} (m : AMap α) : Bool :=
  match m with
  | [] => true
  | (k, _) :: r => (match r with | [] => true | (k', _) :: _ => decide (k < k')) && AMap.wf r

/-- A sorted set of numbers, as a list without repeats. -/
def setInsert (l : List Nat) (n : Nat) : List Nat :=
  match l with
  | [] => [n]
  | a :: r => if n < a then n :: a :: r else if n = a then a :: r else a :: setInsert r n

/-- Remove a number from a set. -/
def setErase (l : List Nat) (n : Nat) : List Nat := l.filter (· != n)

/-- The union of two rising lists. -/
def mergeSet (a b : List Nat) : List Nat :=
  match a with
  | [] => b
  | x :: r => b.takeWhile (fun y => decide (y < x)) ++ x :: mergeSet r (b.dropWhile (fun y => decide (y ≤ x)))

/-- A count of `w` bits that saturates ("saturates; a write sets the value"). -/
def satAdd (w a b : Nat) : Nat := min (a + b) (2 ^ w - 1)

/-- A count of `w` bits that wraps. -/
def wrapAdd (w a b : Nat) : Nat := (a + b) % 2 ^ w

/-- Bits `lo + width - 1 .. lo` of a number. -/
def bits (x lo width : Nat) : Nat := (x >>> lo) % 2 ^ width

/-- Bit `i` of a number. -/
def bit (x i : Nat) : Bool := x.testBit i

/-- `x` with bit `i` set or cleared. -/
def setBit (x i : Nat) (v : Bool) : Nat :=
  if v then (if x.testBit i then x else x + 2 ^ i) else (if x.testBit i then x - 2 ^ i else x)

/-- 1 for true. -/
def b2n (b : Bool) : Nat := if b then 1 else 0

/-- The number of set bits among the lowest `n`. -/
def popcount (x n : Nat) : Nat := (List.range n).countP (fun i => x.testBit i)

/-- Division rounded up. -/
def ceilDiv (a b : Nat) : Nat := (a + b - 1) / b

/-- `a` rounded up to a multiple of `m`. -/
def roundUp (a m : Nat) : Nat := ceilDiv a m * m

/-- The `n` little-endian bytes of a number. -/
def leBytes (n x : Nat) : List Byte :=
  match n with
  | 0 => []
  | k + 1 => BitVec.ofNat 8 x :: leBytes k (x / 256)

/-- The number that little-endian bytes spell. -/
def leNat (l : List Byte) : Nat :=
  match l with
  | [] => 0
  | b :: r => b.toNat + 256 * leNat r

/-- `n` bytes from offset `off`, short where the list ends. -/
def slice {α : Type} (l : List α) (off n : Nat) : List α := (l.drop off).take n

/-- The little-endian number of `n` bytes at offset `off`. -/
def leAt (l : List Byte) (off n : Nat) : Nat := leNat (slice l off n)

/-- Byte `i` of a line. -/
def lineByte (l : Line) (i : Nat) : Byte := l.extractLsb' (8 * i) 8

/-- The 64 bytes of a line. -/
def lineBytes (l : Line) : List Byte := (List.range 64).map (lineByte l)

/-- The line that bytes spell (bytes past the end of the list are 0). -/
def lineOf (bs : List Byte) : Line := BitVec.ofNat 512 (leNat (bs.take 64))

/-- The little-endian number of `n` bytes at offset `off` of a line. -/
def lineAt (l : Line) (off n : Nat) : Nat := bits l.toNat (8 * off) (8 * n)

/-- `old` with the bytes that the enable mask names taken from `new`. -/
def mergeBytes (old new : Line) (be : BitVec 64) : Line :=
  lineOf ((List.range 64).map (fun i => if be.getLsbD i then lineByte new i else lineByte old i))

/-- `n` copies of a zero byte. -/
def zeros (n : Nat) : List Byte := List.replicate n 0

/-- Exclusive or of the `w`-bit groups of `x`, `n` of them. -/
def xorFold (w x n : Nat) : Nat :=
  (List.range n).foldl (fun acc i => acc ^^^ bits x (w * i) w) 0

/-- The first element that a test holds for, with its place. -/
def findIdxOf {α : Type} (l : List α) (p : α → Bool) : Option Nat :=
  match l with
  | [] => none
  | a :: r => if p a then some 0 else (findIdxOf r p).map (· + 1)

/-- Change the element at a place. -/
def modifyAt {α : Type} (l : List α) (i : Nat) (f : α → α) : List α :=
  match l, i with
  | [], _ => []
  | a :: r, 0 => f a :: r
  | a :: r, i + 1 => a :: modifyAt r i f

end Sys2Proof
end

