-- ==== Sys2Proof/Machine/Cfg.lean ====
section
/-!
DEFINITION. The Asben image as the device holds it once read (R24, R29): one structure per section record, field names
as the layout tables give them. `Cfg` is the configuration in force: the live and rolling sections of the ACTIVE image
and the next-power-on sections that are applied (R43).
-/
namespace Sys2Proof.Machine

/-- Region types of R48. -/
inductive RType where
  | table | scratch | counter | queue
  deriving DecidableEq, Repr

/-- A region record (R48). `heads` is FLAGS[5:4]; `latclass` 0 A, 1 B, 2 C; `placement` 0 hot to 3 pinned. -/
structure RegionRec where
  number : Nat
  rtype : RType
  persist : Bool
  shadow : Bool
  strict : Bool
  pool : Bool
  heads : Nat
  latclass : Nat
  placement : Nat
  ways : Nat
  aliasW : Nat
  aliasPos : Nat
  keyBase : Nat
  setId : Nat
  shadowDelta : Nat
  base : Nat
  size : Nat
  uid : Nat
  deriving DecidableEq, Repr

/-- A queue set record (R203). -/
structure QueueSet where
  setId : Nat
  persist : Bool
  overwrite : Bool
  deliver : Bool
  spillEn : Bool
  groupFirst : Nat
  groupCount : Nat
  keyBase : Nat
  keyMode : Nat
  stack : Nat
  timeoutUs : Nat
  ringPages : Nat
  poolQuota : Nat
  headWin : Nat
  spillHi : Nat
  maxKib : Nat
  deriving DecidableEq, Repr

/-- A counter set record (R231). -/
structure CounterSet where
  setId : Nat
  persist : Bool
  autoSnap : Bool
  count : Nat
  epochMs : Nat
  snapRegion : Nat
  snapOffset : Nat
  deriving DecidableEq, Repr

/-- A key-slot allocation record (R311): `kind` 0 region, 1 queue set, 2 spare. -/
structure AllocRec where
  first : Nat
  count : Nat
  kind : Nat
  owner : Nat
  deriving DecidableEq, Repr

/-- A rights record (R311): `rights` 0 NONE, 1 CIPHERTEXT, 2 PLAINTEXT-READ, 3 PLAINTEXT-RW. -/
structure RightsRec where
  first : Nat
  count : Nat
  master : Nat
  rights : Nat
  deriving DecidableEq, Repr

/-- CRYPTOPOLICY (R311). -/
structure CryptoCfg where
  allocs : List AllocRec
  rights : List RightsRec
  keyPaths : Nat
  lockOnOrphan : Bool
  unlockTries : Nat
  rhMbps : Nat
  rhRetryUs : Nat
  deriving DecidableEq, Repr

/-- LATENCY (R136). -/
structure LatencyCfg where
  dlA : Nat
  dlB : Nat
  dlC : Nat
  limit : Nat
  susMax : Nat
  susHold : Nat
  rescueSlip : Nat
  occTh : List Nat
  dirtyTh : List Nat
  thermSev : Nat
  wearTh1 : Nat
  wearTh2 : Nat
  missEvtRate : Nat
  deriving DecidableEq, Repr

/-- TIERPLAN (R470). -/
structure TierCfg where
  waysInUse : Nat
  mecK : Nat
  quenchMib : Nat
  mapMib : Nat
  poolMib : Nat
  tableMib : Nat
  tallyMib : Nat
  journalMib : Nat
  dirtyMib : Nat
  deriving DecidableEq, Repr

/-- A THERMAL group record (R408); temperatures in °C, signed. -/
structure ThermGroup where
  round : Bool
  slope : Nat
  tStart : Int
  tWarn : Int
  deriving DecidableEq, Repr

/-- THERMAL (R408): groups die, DRAM, media. -/
structure ThermalCfg where
  throtFrac : Nat
  throtPolicy : Nat
  throtStuckS : Nat
  tResume : Nat
  die : ThermGroup
  dram : ThermGroup
  media : ThermGroup
  deriving DecidableEq, Repr

/-- An EVENTS record (R417). -/
structure EventRec where
  first : Nat
  count : Nat
  en : Bool
  sev : Nat
  route : Nat
  vector : Nat
  deriving DecidableEq, Repr

/-- EVENTS (R417); the section's defaults when it is absent are R418's. -/
structure EventsCfg where
  rate : Nat
  eid : Nat
  records : List EventRec
  deriving DecidableEq, Repr

/-- A PMCPRESETS preset (R426). `cfgs` are the 16 counter configurations, PMC_CFGn[31:0]. -/
structure PresetRec where
  group : Nat
  start : Bool
  clearOnSnap : Bool
  intervalUs : Nat
  cfgs : List Nat
  deriving DecidableEq, Repr

/-- SEQUENCER (R363). -/
structure SeqCfg where
  sqPart : Nat
  fallPct : Nat
  dischMs : Nat
  mpgFallMs : Nat
  sqUpMs : Nat
  sqDownMs : Nat
  sqTarget : Nat
  restartMax : Nat
  deriving DecidableEq, Repr

/-- POWERTREE (R361); `edges` are (CHILD, PARENT) domain codes of R362. -/
structure PowerCfg where
  holdC : Nat
  holdVmin : Nat
  holdDiv : Nat
  holdEff : Nat
  riseMs : Nat
  mpgRiseMs : Nat
  mpgStaggerMs : Nat
  denseCap : Nat
  edges : List (Nat × Nat)
  deriving DecidableEq, Repr

/-- A CLOCKPLAN PLL record (R391); `refAlt` 0xFF none. -/
structure PllRec where
  refPri : Nat
  refAlt : Nat
  multInt : Nat
  multFrac : Nat
  div0 : Nat
  div1 : Nat
  deriving DecidableEq, Repr

/-- CLOCKPLAN (R391). -/
structure ClockCfg where
  xtal0 : Nat
  xtal1 : Nat
  refclkUse : Nat
  wclkSrc : Nat
  dclkMhz : Nat
  plls : List PllRec
  deriving DecidableEq, Repr

/-- A WIRING hot-add entry (R471). -/
structure HotAdd where
  position : Nat
  ptype : Nat
  portMask : Nat
  deriving DecidableEq, Repr

/-- WIRING (R471): `link` entry m is (package, port) of MLm. -/
structure WiringCfg where
  pkgCount : Nat
  pkgType : Nat
  link : List (Nat × Nat)
  hotAdd : List HotAdd
  deriving DecidableEq, Repr

/-- BANDGEOM (R181): `ring` entries are (package, die). -/
structure BandCfg where
  reservePct : Nat
  gatherCeil : Nat
  freeLow : Nat
  freeMin : Nat
  ageSplit : Nat
  wbAge : Nat
  openMax : List Nat
  ring : List (Nat × Nat)
  deriving DecidableEq, Repr

/-- IDENT (R439): `headExpect` are H0 width, H0 rate, H1 width, H1 rate. -/
structure IdentCfg where
  imageName : List Byte
  boardString : List Byte
  lsaKib : Nat
  headExpect : List Nat
  serialBind : Nat
  deriving DecidableEq, Repr

/-- The configuration in force. `digests` are the section digests of the image, by section ID; `npoDigests` those of the
next-power-on sections that are applied. -/
structure Cfg where
  uid : Nat
  svn : Nat
  version : Nat
  ident : IdentCfg
  clock : ClockCfg
  power : PowerCfg
  wiring : WiringCfg
  band : BandCfg
  tier : TierCfg
  regions : List RegionRec
  queueSets : List QueueSet
  counterSets : List CounterSet
  crypto : CryptoCfg
  thermal : ThermalCfg
  events : Option EventsCfg
  presets : Option (List PresetRec)
  latency : LatencyCfg
  seq : SeqCfg
  digests : AMap (List Byte)
  deriving DecidableEq, Repr

/-- The SEQUENCER defaults, used in steps 1 to 4 and while no image is in force (R363, R472). -/
def SeqCfg.default : SeqCfg :=
  { sqPart := 1, fallPct := 10, dischMs := 20, mpgFallMs := 1, sqUpMs := 100, sqDownMs := 100, sqTarget := 9,
    restartMax := 3 }

/-! ## Sizes -/

/-- Dies of a package (R3). -/
def typeDies (t : Nat) : Nat := if t = 2 then 16 else 8

/-- Raw dense capacity (R2). -/
def Cfg.raw (c : Cfg) : Nat := c.wiring.pkgCount * typeDies c.wiring.pkgType * 2 ^ 34

/-- Usable capacity (R181). -/
def Cfg.usable (c : Cfg) : Nat := c.raw * 8 * (100 - c.band.reservePct) / 1000 / 2 ^ 28 * 2 ^ 28

/-- Counter-window size of a region (R55). -/
def Cfg.cw (c : Cfg) (r : RegionRec) : Nat :=
  match c.counterSets.find? (fun s => s.setId = r.setId) with
  | some s => roundUp (8 * s.count) (2 ^ 28)
  | none => 0

/-- The span of a region (R55). -/
def Cfg.span (c : Cfg) (r : RegionRec) : Nat :=
  match r.rtype with
  | .queue => 17 * 2 ^ 28
  | .counter => c.cw r + 2 ^ 28
  | .table => if r.shadow then 2 * r.size + 2 ^ 28 else r.size
  | .scratch => r.size

/-- The extent of a region (R46). -/
def Cfg.extent (c : Cfg) (r : RegionRec) : Nat := if r.aliasW = 0 then c.span r else 2 ^ (r.aliasPos + r.aliasW)

/-- The ring region of a set: the lowest-numbered QUEUE region that names it (R203). -/
def Cfg.ringRegion (c : Cfg) (set : Nat) : Option Nat :=
  (c.regions.find? (fun r => r.rtype = .queue && r.setId = set)).map (·.number)

/-- The persistent size of a region (R50). -/
def Cfg.persistentSize (c : Cfg) (r : RegionRec) : Nat :=
  if !r.persist then 0 else
  match r.rtype with
  | .table => r.size + r.shadowDelta * 2 ^ 30
  | .scratch => 0
  | .counter => c.cw r
  | .queue =>
    if c.ringRegion r.setId = some r.number then
      match c.queueSets.find? (fun q => q.setId = r.setId) with
      | some q => q.groupCount * 512 * q.ringPages * 4096
      | none => 0
    else 0

/-- The sum of the persistent sizes. -/
def Cfg.persistentTotal (c : Cfg) : Nat := (c.regions.map c.persistentSize).foldl (· + ·) 0

/-- What volatile TABLE, SCRATCH and COUNTER regions take of the table-page partition (R50). -/
def Cfg.volatileBytes (c : Cfg) : Nat :=
  ((c.regions.filter (fun r => !r.persist && r.rtype ≠ .queue)).map
    (fun r => if r.rtype = .counter then c.cw r else r.size)).foldl (· + ·) 0

end Sys2Proof.Machine
end

