-- ==== Sys2Proof/Machine/ImageParse.lean ====
section
/-!
DEFINITION. The Asben image (R25 to R36): its header and directory, each section's record with the range checks of step 7
of R35, and the cross-section checks of step 8.
-/
namespace Sys2Proof.Machine

/-- A number within bounds, both included. -/
def inR (x lo hi : Nat) : Bool := decide (lo ≤ x) && decide (x ≤ hi)

/-- Reserved bytes are 0. -/
def zero (b : List Byte) (off n : Nat) : Bool := (slice b off n).all (· = 0)

/-- The number of one byte. -/
def u8 (b : List Byte) (off : Nat) : Nat := leAt b off 1
def u16 (b : List Byte) (off : Nat) : Nat := leAt b off 2
def u32 (b : List Byte) (off : Nat) : Nat := leAt b off 4
def u64 (b : List Byte) (off : Nat) : Nat := leAt b off 8

/-- A byte as a signed number. -/
def s8 (b : List Byte) (off : Nat) : Int := (BitVec.ofNat 8 (u8 b off)).toInt

/-- A value where the checks hold. -/
def checked {α : Type} (ok : Bool) (v : α) : Option α := if ok then some v else none

/-- `n` records of `size` bytes from `off`. -/
def records (b : List Byte) (off size n : Nat) : List (List Byte) :=
  (List.range n).map (fun i => slice b (off + i * size) size)

/-- Parse every record, or none. -/
def allSome {α β : Type} (f : α → Option β) (l : List α) : Option (List β) :=
  match l with
  | [] => some []
  | a :: r => match f a, allSome f r with
    | some x, some xs => some (x :: xs)
    | _, _ => none

/-- Strictly rising numbers. -/
def rising (l : List Nat) : Bool :=
  match l with
  | [] => true
  | a :: r => (match r with | [] => true | b :: _ => decide (a < b)) && rising r

/-- No repeats. -/
def distinct {α : Type} [BEq α] (l : List α) : Bool :=
  match l with
  | [] => true
  | a :: r => !r.contains a && distinct r

/-! ## Sections (step 7 of R35) -/

/-- IDENT (R439); a head has 16 lanes, 8 in two-head mode (R68). -/
def parseIdent (b : List Byte) (headMode : Bool) : Option IdentCfg :=
  let lanes := if headMode then 8 else 16
  let w := fun x => x = 0 || (x ∈ [1, 2, 4, 8, 16] && decide (x ≤ lanes))
  -- ASCII, padded with 0
  let name := fun (s : List Byte) => s.all (fun c => decide (c.toNat < 128)) &&
    (s.dropWhile (fun c => decide (c.toNat ≠ 0))).all (fun c => decide (c.toNat = 0))
  let r := fun x => x = 0 || inR x 3 6
  checked (b.length = 128 && name (slice b 0 32) && name (slice b 0x20 32) && decide (u32 b 0x40 ≤ 1024) && u32 b 0x40 % 4 = 0 && zero b 0x50 48 &&
      w (u8 b 0x44) && r (u8 b 0x45) && (!headMode || (w (u8 b 0x46) && r (u8 b 0x47))))
    { imageName := slice b 0 32, boardString := slice b 0x20 32, lsaKib := u32 b 0x40
      headExpect := [u8 b 0x44, u8 b 0x45, u8 b 0x46, u8 b 0x47], serialBind := u64 b 0x48 }

/-- Nominal frequency of a PLL reference in MHz (R389). -/
def refMhz (code : Nat) : Nat := [400, 25, 50, 100].getD code 0

/-- A PLL record with its domains' nominal frequencies in MHz, first and second output (R390, R391). -/
def parsePll (b : List Byte) (f0 f1 : Nat) : Option PllRec :=
  let vco := refMhz (u8 b 0) * (u16 b 2 * 2 ^ 24 + u32 b 4)
  let near := fun f div => f = 0 || (div ≠ 0 &&
    (let t := f * div * 2 ^ 24
     decide ((if t ≤ vco then vco - t else t - vco) * 1000000 ≤ 200 * t)))
  checked (decide (u8 b 0 ≤ 3) && (decide (u8 b 1 ≤ 3) || u8 b 1 = 0xFF) && inR (u16 b 2) 8 256 &&
      decide (u32 b 4 < 2 ^ 24) && inR (u8 b 8) 1 16 && decide (u8 b 9 ≤ 16) && zero b 10 6 &&
      inR vco (3200 * 2 ^ 24) (6400 * 2 ^ 24) && near f0 (u8 b 8) && near f1 (u8 b 9))
    { refPri := u8 b 0, refAlt := u8 b 1, multInt := u16 b 2, multFrac := u32 b 4, div0 := u8 b 8, div1 := u8 b 9 }

/-- CLOCKPLAN (R391): PLL_F names neither REFCLK nor FOSC as primary reference, only PLL_A names REFCLK. -/
def parseClock (b : List Byte) : Option ClockCfg :=
  let dclk := u16 b 4
  let freqs := [(1000, 0), (1600, 1200), (2000, 800), (1400, 0), (dclk, 0), (1000, 0)]
  match allSome (fun i => parsePll (slice b (16 + 16 * i) 16) (freqs.getD i (0, 0)).1 (freqs.getD i (0, 0)).2)
      (List.range 6) with
  | none => none
  | some ps =>
    let p := fun i => (ps.map (fun (x : PllRec) => (x.refPri, x.refAlt))).getD i (0, 0)
    checked (b.length = 112 && decide (u8 b 0 ≤ 2) && decide (u8 b 1 ≤ 2) && decide (u8 b 2 ≤ 1) && decide (u8 b 3 ≤ 1) &&
        inR dclk 800 1600 && zero b 6 10 && (p 5).1 ≠ 3 && (p 5).1 ≠ 0 &&
        [1, 2, 3, 4, 5].all (fun i => (p i).1 ≠ 3 && (p i).2 ≠ 3))
      { xtal0 := u8 b 0, xtal1 := u8 b 1, refclkUse := u8 b 2, wclkSrc := u8 b 3, dclkMhz := dclk, plls := ps }

/-- POWERTREE (R361). -/
def parsePower (b : List Byte) : Option PowerCfg :=
  let n := u8 b 13
  let es := records b 0x20 4 n
  checked (decide (n ≤ 64) && b.length = 0x20 + 4 * n && decide (u32 b 0 ≤ 1000000) && inR (u16 b 4) 800 6000 &&
      inR (u16 b 6) 100 10000 && inR (u8 b 8) 50 100 && inR (u8 b 9) 1 20 && inR (u16 b 10) 1 1000 &&
      decide (u8 b 12 ≤ 50) && zero b 14 2 && inR (u32 b 16) 1000 700000 && zero b 20 12 && es.all (fun e => zero e 2 2))
    { holdC := u32 b 0, holdVmin := u16 b 4, holdDiv := u16 b 6, holdEff := u8 b 8, riseMs := u8 b 9
      mpgRiseMs := u16 b 10, mpgStaggerMs := u8 b 12, denseCap := u32 b 16
      edges := es.map (fun e => (u8 e 0, u8 e 1)) }

/-- SEQUENCER (R363). -/
def parseSeq (b : List Byte) : Option SeqCfg :=
  checked (b.length = 32 && decide (u8 b 0 ≤ 1) && inR (u8 b 1) 5 10 && inR (u8 b 2) 5 20 && inR (u8 b 3) 1 50 &&
      inR (u16 b 4) 10 10000 && inR (u16 b 6) 1 1000 && inR (u8 b 8) 1 9 && inR (u8 b 9) 1 10 && zero b 10 22)
    { sqPart := u8 b 0, fallPct := u8 b 1, dischMs := u8 b 2, mpgFallMs := u8 b 3, sqUpMs := u16 b 4
      sqDownMs := u16 b 6, sqTarget := u8 b 8, restartMax := u8 b 9 }

/-- WIRING (R471). -/
def parseWiring (b : List Byte) : Option WiringCfg :=
  let n := u8 b 0
  let h := u8 b 2
  let es := (List.range 128).map (fun i => u16 b (0x10 + 2 * i))
  let link := es.map (fun e => (bits e 0 6, bits e 6 3))
  let hs := records b 0x110 4 h
  let ports := fun p => (link.filter (fun e => e.1 = p)).map (·.2)
  checked (n ∈ [16, 32, 64] && u8 b 1 ∈ [1, 2] && decide (h ≤ 64) && zero b 3 13 && b.length = 0x110 + 4 * h &&
      es.all (fun e => bits e 9 7 = 0) &&
      link.all (fun e => decide (e.1 < n) && decide (e.2 < 128 / n)) &&
      rising (hs.map (fun e => u8 e 0)) &&
      hs.all (fun e => decide (u8 e 0 < n) && u8 e 1 = u8 b 1 && zero e 3 1 && decide (2 ≤ popcount (u8 e 2) 8) &&
        (List.range 8).all (fun k => !(u8 e 2).testBit k || (ports (u8 e 0)).contains k)))
    { pkgCount := n, pkgType := u8 b 1, link
      hotAdd := hs.map (fun e => { position := u8 e 0, ptype := u8 e 1, portMask := u8 e 2 }) }

/-- BANDGEOM (R181). -/
def parseBand (b : List Byte) : Option BandCfg :=
  let n := u16 b 0
  let rs := (List.range n).map (fun i => u16 b (0x20 + 2 * i))
  let om := (List.range 5).map (fun i => u8 b (0x0E + i))
  checked (inR n 128 1024 && u8 b 2 = 1 && inR (u8 b 3) 15 30 && inR (u8 b 8) 2 10 && inR (u8 b 9) 1 (u8 b 8 - 1) &&
      inR (u16 b 10) 1 10080 && inR (u16 b 12) 100 60000 && om.all (fun x => inR x 1 64) && decide (2 ≤ om.getD 4 0) &&
      zero b 0x13 13 && b.length = 0x20 + 2 * n && rs.all (fun e => bits e 10 6 = 0))
    { reservePct := u8 b 3, gatherCeil := u32 b 4, freeLow := u8 b 8, freeMin := u8 b 9, ageSplit := u16 b 10
      wbAge := u16 b 12, openMax := om, ring := rs.map (fun e => (bits e 0 6, bits e 6 4)) }

/-- TIERPLAN (R470). -/
def parseTier (b : List Byte) : Option TierCfg :=
  let m := fun off lo hi => inR (u32 b off) lo hi && u32 b off % 256 = 0
  checked (b.length = 64 && inR (u8 b 0) 12 24 && zero b 1 1 && inR (u16 b 2) 64 256 && inR (u32 b 4) 512 16384 &&
      u32 b 4 % 64 = 0 && m 8 256 12288 && m 12 0 65536 && m 16 0 98304 && m 20 256 4096 && m 24 256 4096 &&
      m 28 512 49152 && zero b 32 32)
    { waysInUse := u8 b 0, mecK := u16 b 2, quenchMib := u32 b 4, mapMib := u32 b 8, poolMib := u32 b 12
      tableMib := u32 b 16, tallyMib := u32 b 20, journalMib := u32 b 24, dirtyMib := u32 b 28 }

/-- A region record (R48), within the attributes that R49 permits and the multiples of R46. The KEY_BASE of a QUEUE region
is checked against its range alone (R51). A TABLE or SCRATCH record with SIZE 0 is refused: R48 gives SIZE no lower bound
(DESIGN CHOICE, log 86). -/
def parseRegion (b : List Byte) : Option RegionRec :=
  let f := u8 b 2
  let ty : Option RType := match u8 b 1 with
    | 1 => some .table | 2 => some .scratch | 3 => some .counter | 4 => some .queue | _ => none
  match ty with
  | none => none
  | some t =>
    let persist := f.testBit 0
    let shadow := f.testBit 1
    let pool := f.testBit 3
    let mem := t = .table || t = .scratch
    checked (decide (u8 b 0 ≤ 63) && bits f 6 2 = 0 && bits f 4 2 ≠ 0 && decide (u8 b 3 ≤ 2) && decide (u8 b 4 ≤ 3) &&
        decide (u8 b 5 ≤ 24) && decide (u8 b 6 ≤ 8) && (u8 b 6 = 0 || inR (u8 b 7) 28 47) && decide (u16 b 8 ≤ 4095) &&
        (t = .queue || decide (u16 b 8 + 2 ^ u8 b 6 - 1 ≤ 4095)) && decide (u8 b 10 ≤ 63) && (!mem || u8 b 10 = 0) &&
        (if shadow then inR (u8 b 11) 1 8 else u8 b 11 = 0) && zero b 12 4 && u64 b 16 % 2 ^ 28 = 0 &&
        u64 b 24 % 2 ^ 28 = 0 && (if mem then u64 b 24 ≠ 0 else u64 b 24 = 0) && zero b 40 24 &&
        (!shadow || (t = .table && persist)) && (t ≠ .scratch || !persist) && (mem || (u8 b 5 = 0 && !pool)))
      { number := u8 b 0, rtype := t, persist, shadow, strict := f.testBit 2, pool, heads := bits f 4 2
        latclass := u8 b 3, placement := u8 b 4, ways := u8 b 5, aliasW := u8 b 6, aliasPos := u8 b 7
        keyBase := u16 b 8, setId := u8 b 10, shadowDelta := u8 b 11, base := u64 b 16, size := u64 b 24
        uid := u64 b 32 }

/-- REGIONS (R48). -/
def parseRegions (b : List Byte) : Option (List RegionRec) :=
  let n := u16 b 0
  match allSome parseRegion (records b 16 64 n) with
  | none => none
  | some rs => checked (decide (n ≤ 64) && zero b 2 14 && b.length = 16 + 64 * n && rising (rs.map (·.number))) rs

/-- A queue set record (R203). -/
def parseQueueSet (b : List Byte) : Option QueueSet :=
  let f := u8 b 1
  let p := f.testBit 0
  let rp := u32 b 12
  checked (decide (u8 b 0 ≤ 63) && bits f 4 4 = 0 && (p || !f.testBit 1) && (!p || !f.testBit 3) && decide (u16 b 2 ≤ 255) &&
      inR (u16 b 4) 1 256 && decide (u16 b 2 + u16 b 4 ≤ 256) && decide (u16 b 6 ≤ 4095) && decide (u8 b 8 ≤ 1) &&
      (decide (u8 b 9 ≤ 3) || u8 b 9 = 0xFF) && inR (u16 b 10) 10 60000 &&
      (if p then inR rp 16 1048576 && rp = 2 ^ rp.log2 else rp = 0) && decide (u32 b 16 ≤ 65536) &&
      inR (u16 b 20) 64 1024 && decide (256 ≤ u16 b 22) && decide (u32 b 24 ≤ 4194304) && zero b 28 4)
    { setId := u8 b 0, persist := p, overwrite := f.testBit 1, deliver := f.testBit 2, spillEn := f.testBit 3
      groupFirst := u16 b 2, groupCount := u16 b 4, keyBase := u16 b 6, keyMode := u8 b 8, stack := u8 b 9
      timeoutUs := u16 b 10, ringPages := rp, poolQuota := u32 b 16, headWin := u16 b 20, spillHi := u16 b 22
      maxKib := u32 b 24 }

/-- QUEUESETS (R203). -/
def parseQueueSets (b : List Byte) : Option (List QueueSet) :=
  let n := u16 b 0
  match allSome parseQueueSet (records b 16 32 n) with
  | none => none
  | some rs => checked (decide (n ≤ 64) && zero b 2 14 && b.length = 16 + 32 * n && rising (rs.map (·.setId))) rs

/-- A counter set record (R231). -/
def parseCounterSet (b : List Byte) : Option CounterSet :=
  let f := u8 b 1
  checked (decide (u8 b 0 ≤ 63) && bits f 2 6 = 0 && zero b 2 2 && inR (u32 b 4) 1 268435456 &&
      decide (u32 b 8 ≤ 86400000) && (decide (u8 b 12 ≤ 63) || u8 b 12 = 0xFF) && zero b 13 3 && u64 b 16 % 4096 = 0 &&
      zero b 24 8)
    { setId := u8 b 0, persist := f.testBit 0, autoSnap := f.testBit 1, count := u32 b 4, epochMs := u32 b 8
      snapRegion := u8 b 12, snapOffset := u64 b 16 }

/-- TALLY (R231). -/
def parseTally (b : List Byte) : Option (List CounterSet) :=
  let n := u16 b 0
  match allSome parseCounterSet (records b 16 32 n) with
  | none => none
  | some rs => checked (decide (n ≤ 64) && zero b 2 14 && b.length = 16 + 32 * n && rising (rs.map (·.setId))) rs

/-- CRYPTOPOLICY (R311). -/
def parseCrypto (b : List Byte) : Option CryptoCfg :=
  let na := u16 b 0
  let nr := u16 b 2
  let as_ := records b 32 8 na
  let rs := records b (32 + 8 * na) 8 nr
  checked (inR na 1 64 && decide (nr ≤ 64) && bits (u8 b 4) 3 5 = 0 && bits (u8 b 5) 1 7 = 0 && inR (u8 b 6) 1 15 &&
      zero b 7 1 && inR (u16 b 8) 16 16000 && inR (u16 b 10) 10 10000 && zero b 12 20 && b.length = 32 + 8 * (na + nr) &&
      as_.all (fun a => inR (u16 a 2) 1 4096 && decide (u16 a 0 + u16 a 2 ≤ 4096) && decide (u8 a 4 ≤ 2) &&
        decide (u8 a 5 ≤ 63) && (u8 a 4 ≠ 2 || u8 a 5 = 0) && zero a 6 2) &&
      rs.all (fun a => inR (u16 a 2) 1 4096 && decide (u16 a 0 + u16 a 2 ≤ 4096) && decide (u8 a 4 ≤ 3) &&
        decide (u8 a 5 ≤ 3) && zero a 6 2))
    { allocs := as_.map (fun a => { first := u16 a 0, count := u16 a 2, kind := u8 a 4, owner := u8 a 5 })
      rights := rs.map (fun a => { first := u16 a 0, count := u16 a 2, master := u8 a 4, rights := u8 a 5 })
      keyPaths := u8 b 4, lockOnOrphan := (u8 b 5).testBit 0, unlockTries := u8 b 6, rhMbps := u16 b 8
      rhRetryUs := u16 b 10 }

/-- A THERMAL group record (R408). -/
def parseThermGroup (b : List Byte) : Option ThermGroup :=
  checked (decide (u8 b 0 ≤ 1) && inR (u8 b 1) 1 90 && decide ((40 : Int) ≤ s8 b 2) && decide (s8 b 2 ≤ 105) &&
      decide ((45 : Int) ≤ s8 b 3) && decide (s8 b 3 ≤ 109) && zero b 4 12)
    { round := u8 b 0 = 1, slope := u8 b 1, tStart := s8 b 2, tWarn := s8 b 3 }

/-- THERMAL (R408). -/
def parseThermal (b : List Byte) : Option ThermalCfg :=
  match parseThermGroup (slice b 16 16), parseThermGroup (slice b 32 16), parseThermGroup (slice b 48 16) with
  | some x, some y, some z =>
    checked (b.length = 64 && decide (u8 b 0 ≤ 90) && decide (u8 b 1 ≤ 1) && inR (u16 b 2) 1 3600 && inR (u8 b 4) 60 100 &&
        zero b 5 11)
      { throtFrac := u8 b 0, throtPolicy := u8 b 1, throtStuckS := u16 b 2, tResume := u8 b 4, die := x, dram := y
        media := z }
  | _, _, _ => none

/-- An EVENTS record (R417). -/
def parseEventRec (b : List Byte) : Option EventRec :=
  checked (decide (u16 b 0 ≤ 1023) && inR (u16 b 2) 1 1024 && decide (u16 b 0 + u16 b 2 ≤ 1024) && bits (u8 b 4) 3 5 = 0 &&
      bits (u8 b 5) 4 4 = 0 && zero b 7 1)
    { first := u16 b 0, count := u16 b 2, en := (u8 b 4).testBit 0, sev := bits (u8 b 4) 1 2, route := u8 b 5
      vector := u8 b 6 }

/-- EVENTS (R417). -/
def parseEvents (b : List Byte) : Option EventsCfg :=
  let n := u16 b 0
  match allSome parseEventRec (records b 16 8 n) with
  | none => none
  | some rs =>
    checked (decide (n ≤ 1024) && inR (u16 b 2) 1 255 && zero b 5 11 && b.length = 16 + 8 * n)
      { rate := u16 b 2, eid := u8 b 4, records := rs }

/-- A preset (R426). -/
def parsePreset (b : List Byte) : Option PresetRec :=
  checked (decide (u8 b 0 ≤ 31) && bits (u8 b 1) 2 6 = 0 && decide (u32 b 2 ≤ 10000000) && zero b 6 10)
    { group := u8 b 0, start := (u8 b 1).testBit 0, clearOnSnap := (u8 b 1).testBit 1, intervalUs := u32 b 2
      cfgs := (List.range 16).map (fun i => u32 b (16 + 4 * i)) }

/-- PMCPRESETS (R426). -/
def parsePresets (b : List Byte) : Option (List PresetRec) :=
  let n := u16 b 0
  match allSome parsePreset (records b 16 80 n) with
  | none => none
  | some rs => checked (decide (n ≤ 32) && zero b 2 14 && b.length = 16 + 80 * n) rs

/-- LATENCY (R136). -/
def parseLatency (b : List Byte) : Option LatencyCfg :=
  let t := fun off => [u8 b off, u8 b (off + 1), u8 b (off + 2)]
  checked (b.length = 64 && inR (u32 b 0) 900 4000 && inR (u32 b 4) 3600 40000 && inR (u32 b 8) 8000 1000000 &&
      inR (u32 b 12) 50 10000 && inR (u8 b 16) 1 64 && inR (u8 b 17) 2 50 && inR (u16 b 18) 50 500 &&
      (t 0x14 ++ t 0x17).all (fun x => inR x 1 99) && inR (u8 b 0x1A) 1 90 && inR (u8 b 0x1B) 1 99 &&
      inR (u8 b 0x1C) 1 99 && zero b 0x1E 34)
    { dlA := u32 b 0, dlB := u32 b 4, dlC := u32 b 8, limit := u32 b 12, susMax := u8 b 16, susHold := u8 b 17
      rescueSlip := u16 b 18, occTh := t 0x14, dirtyTh := t 0x17, thermSev := u8 b 0x1A, wearTh1 := u8 b 0x1B
      wearTh2 := u8 b 0x1C, missEvtRate := u8 b 0x1D }

/-! ## Header and directory (steps 1 to 6 of R35) -/

/-- A directory entry: ID, offset, length, digest. -/
structure DirEnt where
  id : Nat
  off : Nat
  len : Nat
  digest : List Byte
  deriving DecidableEq, Repr

/-- The directory of an image. -/
def directory (b : List Byte) : List DirEnt :=
  (records b (u32 b 0x30) 64 (u16 b 0x2C)).map (fun e =>
    { id := u8 e 0, off := u32 e 4, len := u32 e 8, digest := slice e 16 48 })

/-- The bytes of a section. -/
def sectionOf (b : List Byte) (id : Nat) : Option (List Byte) :=
  ((directory b).find? (fun e => e.id = id)).map (fun e => slice b e.off e.len)

/-- Bytes between the parts are 0 (R25). -/
def gapsZero (b : List Byte) : Bool :=
  let n := u16 b 0x2C
  let parts := [(0, 128), (u32 b 0x30, 64 * n), (u32 b 0x34, 256)] ++ (directory b).map (fun e => (e.off, e.len))
  b.zipIdx.all (fun x => x.1 = 0 || parts.any (fun p => decide (p.1 ≤ x.2) && decide (x.2 < p.1 + p.2)))

/-- Step 1: the header with R25; the result code. -/
def checkHeader (b : List Byte) : Nat :=
  if slice b 0 4 ≠ [0x41, 0x53, 0x42, 0x4E] then 0x01
  else if u16 b 4 ≠ 1 || u16 b 6 ≠ 128 then 0x02
  else if 4 * 2 ^ 20 < u32 b 8 then 0x03
  else if u32 b 8 ≠ b.length || b.length % 256 ≠ 0 || u32 b 0x34 + 256 ≠ b.length || !inR (u16 b 0x2C) 10 15 ||
      decide (65535 < u32 b 12) || decide (7 < u32 b 0x14) || decide (u32 b 0x30 < 128) ||
      decide (u32 b 0x34 < u32 b 0x30 + 64 * u16 b 0x2C) || !((directory b).all (fun e => e.off % 256 = 0)) ||
      !gapsZero b then 0x02
  else 0

/-- The section IDs that must be present (R28). -/
def requiredIds : List Nat := [1, 2, 3, 4, 5, 6, 7, 0x0A, 0x0B, 0x0E, 0x0F]

/-- Steps 5 and 6: the directory; the result code. -/
def checkDirectory (b : List Byte) : Nat :=
  let ds := directory b
  let ids := ds.map (·.id)
  if !(ds.all (fun e => inR e.id 1 15 && decide (e.off + e.len ≤ u32 b 0x34)) && distinct ids) then 0x02
  else if !(ds.all (fun e => Config.sha384 (slice b e.off e.len) = e.digest)) then 0x09
  else if !(requiredIds.all ids.contains) then 0x0A
  else 0

/-! ## Step 7: the sections as one configuration -/

/-- A section's parse, or the ID of the section found invalid. -/
def need {α : Type} (id : Nat) (x : Option α) : Except Nat α :=
  match x with
  | some v => .ok v
  | none => .error id

/-- An optional section: its parse where it is present, a default where it is absent. -/
def opt {α : Type} (b : List Byte) (id : Nat) (dflt : α) (f : List Byte → Option α) : Except Nat α :=
  match sectionOf b id with
  | none => .ok dflt
  | some s => need id (f s)

/-- Every section of an image (step 7 of R35): the configuration it spells, or the first section found invalid. -/
def parseSections (b : List Byte) (headMode : Bool) : Except Nat Cfg := do
  let sec := fun (id : Nat) => (sectionOf b id).getD []
  let ident ← need 1 (parseIdent (sec 1) headMode)
  let clock ← need 2 (parseClock (sec 2))
  let power ← need 3 (parsePower (sec 3))
  let wiring ← need 4 (parseWiring (sec 4))
  let band ← need 5 (parseBand (sec 5))
  let tier ← need 6 (parseTier (sec 6))
  let regions ← need 7 (parseRegions (sec 7))
  let queueSets ← opt b 8 [] parseQueueSets
  let counterSets ← opt b 9 [] parseTally
  let crypto ← need 0x0A (parseCrypto (sec 0x0A))
  let thermal ← need 0x0B (parseThermal (sec 0x0B))
  let events ← opt b 0x0C none (fun s => (parseEvents s).map some)
  let presets ← opt b 0x0D none (fun s => (parsePresets s).map some)
  let latency ← need 0x0E (parseLatency (sec 0x0E))
  let seq ← need 0x0F (parseSeq (sec 0x0F))
  pure { uid := u64 b 0x38, svn := u32 b 12, version := u32 b 0x10, ident, clock, power, wiring, band, tier, regions
         queueSets, counterSets, crypto, thermal, events, presets, latency, seq
         digests := (directory b).foldl (fun (m : AMap (List Byte)) e => m.put e.id e.digest) [] }

/-! ## Step 8: the sections against each other -/

/-- DRAM tier of an ordering code in MiB (R1): part 1 is BX-9400-48E. -/
def tierMib (part : Nat) : Nat := if part = 1 then 49152 else 98304

/-- Every key index of a range falls in slots allocated to an owner. -/
def Cfg.allocated (c : Cfg) (kind owner lo n : Nat) : Bool :=
  (List.range n).all (fun i => c.crypto.allocs.any (fun a =>
    a.kind = kind && a.owner = owner && decide (a.first ≤ lo + i) && decide (lo + i < a.first + a.count)))

/-- Ranges (first, count) that do not overlap. -/
def disjoint (l : List (Nat × Nat)) : Bool :=
  match l with
  | [] => true
  | a :: r => r.all (fun b => decide (a.1 + a.2 ≤ b.1) || decide (b.1 + b.2 ≤ a.1)) && disjoint r

/-- The rules of R339. -/
def wiringOk (w : WiringCfg) : Bool :=
  w.link.length = 128 && distinct w.link &&
  (List.range w.pkgCount).all (fun p =>
    let ms := (List.range 128).filter (fun m => ((w.link[m]?).map (·.1)) = some p)
    ms.length = 128 / w.pkgCount && distinct (ms.map (· / 16)))

/-- The ring of R157 and R181: every die once, any 10 consecutive entries in 10 packages. -/
def ringOk (w : WiringCfg) (b : BandCfg) : Bool :=
  let n := w.pkgCount * typeDies w.pkgType
  b.ring.length = n && distinct b.ring &&
  b.ring.all (fun e => decide (e.1 < w.pkgCount) && decide (e.2 < typeDies w.pkgType)) &&
  (List.range n).all (fun j =>
    let ps := (List.range 10).map (fun i => (b.ring.getD ((j + i) % n) (0, 0)).1)
    distinct ps)

/-- A domain code of R362 that may depend on others. -/
def isDomain (c : Nat) : Bool := inR c 0x21 0x40 || inR c 0x50 0x57

/-- The codes that a code depends on within `n` edges. -/
def reach (es : List (Nat × Nat)) (n c : Nat) : List Nat :=
  match n with
  | 0 => []
  | k + 1 =>
    let ps := (es.filter (fun e => e.1 = c)).map (·.2)
    (ps ++ (reach es k c).flatMap (fun x => (es.filter (fun e => e.1 = x)).map (·.2))).eraseDups

/-- Every domain of the tree exists, and the tree has no cycle (R362). -/
def edgesOk (es : List (Nat × Nat)) : Bool :=
  es.all (fun e => isDomain e.1 && (decide (e.2 ≤ 8) || isDomain e.2)) &&
  es.all (fun e => !(reach es 40 e.1).contains e.1)

/-- Regions that do not overlap, lie in the DPA space, and keep the alias rules of R46. -/
def Cfg.placedOk (c : Cfg) : Bool :=
  disjoint (c.regions.map (fun r => (r.base, c.extent r))) &&
  c.regions.all (fun r => decide (r.base + c.extent r ≤ 2 ^ 48) &&
    (r.aliasW = 0 || (r.base % c.extent r = 0 && decide (c.span r ≤ 2 ^ r.aliasPos))))

/-- The rules of R232 for one counter set. -/
def Cfg.counterSetOk (c : Cfg) (s : CounterSet) : Bool :=
  let named := c.regions.filter (fun r => r.rtype = .counter && r.setId = s.setId)
  decide (named.length ≤ 1) && named.all (fun r => r.persist = s.persist) &&
  (!s.autoSnap || (s.epochMs ≠ 0 && s.snapRegion ≠ 0xFF)) &&
  (s.snapRegion = 0xFF ||
    c.regions.any (fun r => r.number = s.snapRegion && r.rtype = .table &&
      decide (s.snapOffset + 2 * (4096 + roundUp (8 * s.count) 4096) ≤ r.size)))

/-- Step 8 of R35: the section that the failing check names. R136 names no step for its rising triples and for WEAR_TH2
below WEAR_TH1: they are checked here, with the rest of LATENCY (DESIGN CHOICE, log 86). -/
def Cfg.cross (c : Cfg) (part : Nat) : Option Nat :=
  let t := c.tier
  let lt3 := fun (l : List Nat) => rising l
  let l := c.latency
  if !wiringOk c.wiring then some 4
  else if !ringOk c.wiring c.band then some 4
  else if !inR (c.band.gatherCeil * 2 ^ 30) (5 * (2 * t.quenchMib * 2 ^ 20 + 2 * 2 ^ 30)) (c.raw / 4) then some 5
  else if tierMib part < t.mapMib + t.poolMib + t.tableMib + t.tallyMib + t.journalMib + 2 * t.dirtyMib ||
      decide (t.dirtyMib < t.quenchMib) then some 6
  else if t.tableMib * 2 ^ 20 < c.volatileBytes then some 7
  else if c.usable < c.persistentTotal then some 7
  else if !c.placedOk then some 7
  else if !(c.regions.all (fun r => match r.rtype with
      | .queue => c.queueSets.any (fun q => q.setId = r.setId && q.persist = r.persist)
      | .counter => c.counterSets.any (fun s => s.setId = r.setId)
      | _ => true)) then some 7
  else if !(c.counterSets.all c.counterSetOk) then some 9
  else if !disjoint (c.queueSets.map (fun q => (q.groupFirst, q.groupCount))) then some 8
  else if !disjoint (c.crypto.allocs.map (fun a => (a.first, a.count))) then some 0x0A
  else if !(c.regions.all (fun r => r.rtype = .queue || c.allocated 0 r.number r.keyBase (2 ^ r.aliasW)) &&
      c.queueSets.all (fun q => c.allocated 1 q.setId q.keyBase (if q.keyMode = 1 then q.groupCount else 1))) then some 7
  else if t.waysInUse < (c.regions.map (·.ways)).foldl (· + ·) 0 then some 7
  else if !(decide (l.dlA ≤ l.dlB) && decide (l.dlB ≤ l.dlC) && decide (l.dlC < l.limit * 1000) && lt3 l.occTh &&
      lt3 l.dirtyTh && decide (l.wearTh2 < l.wearTh1)) then some 0x0E
  else if !edgesOk c.power.edges then some 3
  else if !([c.thermal.die, c.thermal.dram, c.thermal.media].all (fun g => decide (g.tStart < g.tWarn)) &&
      decide (c.thermal.die.tWarn < 110)) then some 0x0B
  else none

end Sys2Proof.Machine
end

