-- ==== Sys2Proof/Machine/DataParts.lean ====
section
/-!
DEFINITION. The parts of the device's state that carry data: heads, slices and the line cache, pages in the DRAM tier,
media, M-links and packages, queues, counters, persistence and quench, keys and the orchard. The default value of each
field is its value at reset. All times are timebase stamps in ns.
-/
namespace Sys2Proof.Machine

/-! ## Stored lines and pages -/

/-- A stored line: its plaintext, the key index it was written under and the slot key in force then (R52, R286): it
verifies under a request's key index when index and key match. -/
structure Cell where
  data : Line
  ki : Nat
  key : Key
  deriving DecidableEq, Repr

/-- A page the DRAM tier holds, by page number: an LPN below 2^32 for a persistent page, a number above for a volatile
one. `lines` are the lines the tier holds; `written` those written since the page's last media copy. -/
structure TPage where
  lines : AMap Cell := []
  dirty : Bool := false
  covered : Bool := false
  version : Nat := 0
  dirtiedAt : Nat := 0
  /-- The mirror pair of a dirty page, the one stack of a volatile page or clean copy (R248, R474). -/
  copies : List Nat := []
  unpers : Bool := false
  written : List Nat := []
  usedAt : Nat := 0
  /-- The retained quench image that restored the page and that no write has left behind (R271). -/
  image : Option Nat := none
  /-- The version that a verified band row holds and whose MAP_SET is not mirrored yet (R260). -/
  landed : Option Nat := none
  deriving DecidableEq, Repr

/-- A page's media copy, under the map entry that locates it. -/
structure MPage where
  lpn : Nat
  lines : AMap Cell
  writtenAt : Nat
  /-- The clean version that MAP_SET carries (R259). -/
  version : Nat := 0
  /-- The counters that each line is encrypted under, MAJOR × 64 + minor (R282). -/
  ctrs : AMap Nat := []
  deriving DecidableEq, Repr

/-- An orchard leaf (R281): major counter and the minors that are not 0. -/
structure Leaf where
  major : Nat := 0
  minors : AMap Nat := []
  deriving DecidableEq, Repr

/-- An orchard entry as its stored copies hold it (R289 to R291): a leaf, or the counters of a node's children that are not
0, by slot; its counter in its parent that its MAC under K_orch was made under; and the order of its write. The MAC is
ideal: it matches exactly the contents, place and counter that it was made over (log 94). -/
structure OrcStored where
  leaf : Leaf := {}
  ctrs : AMap Nat := []
  ctr : Nat
  seq : Nat
  deriving DecidableEq, Repr

/-- An entry in the orchard cache (R291, R292): changed since it was last written, how far each of its own counters has
advanced since then (of a leaf: the minors by line, MAJOR as 64), and when it was last written. -/
structure OrcLine where
  key : Nat
  changed : Bool := false
  adv : AMap Nat := []
  writtenAt : Nat := 0
  deriving DecidableEq, Repr

/-- The orchard (R289 to R293): the counter of each entry in its parent, by entry; the cache, most recently used first; the
stored entries; and the number of the next write. -/
structure OrcS where
  ctr : AMap Nat := []
  cache : List OrcLine := []
  stored : AMap OrcStored := []
  seq : Nat := 1
  deriving DecidableEq, Repr

/-- A page of the map as the map-page cache holds it, or, of a map that is not paged, a page that has changed (R160):
whether it differs from its media copy, and the number of changes to it. -/
structure MapLine where
  page : Nat
  dirty : Bool := false
  ver : Nat := 0
  deriving DecidableEq, Repr

/-! ## Bands, blocks and dies (R157 to R197) -/

inductive BandState where
  | opened | full | victim
  deriving DecidableEq, Repr

/-- A band (R158, R159): its band set, the blocks of its 10 members, its stream (R162; 5 is the gather zone), state,
verified rows, the package dose counters recorded at its first row (R184), the dose adjustment (R185, R190) in 1/1024
eq-h, and its flags. -/
structure Band where
  set : Nat
  blocks : List Nat
  stream : Nat
  state : BandState
  openedAt : Nat
  closedAt : Nat := 0
  rows : Nat := 0
  base : List Nat := []
  adj : Int := 0
  urgent : Bool := false
  early : Bool := false
  rebuild : Bool := false
  /-- The refresh-overdue event of R191 has been raised. -/
  overdue : Bool := false
  /-- The stream that the pages of a band being drained are copied into. -/
  copyTo : Nat := 2
  deriving DecidableEq, Repr

/-- A page in a row that is filled or programmed: its version (for write-back), the entry it had, its lines. A page of the
metadata stream has its metadata key for an LPN, and a page of the orchard the entries written in it. -/
structure RowPage where
  lpn : Nat
  version : Option Nat
  src : Nat
  lines : AMap Cell
  entries : List (Nat × OrcStored) := []
  deriving DecidableEq, Repr

/-- A band row being filled; programmed once its 8 slots are filled (R164). -/
structure RowFill where
  band : Nat
  row : Nat
  pages : List RowPage
  deriving DecidableEq, Repr

/-- Dense block states (R167). -/
inductive BlkState where
  | free | clearing | ready | opened | full | victim | gather | retired | absent
  deriving DecidableEq, Repr

/-- A dense block's record (R166, R200). -/
structure Block where
  wear : Nat := 0
  state : BlkState := .free
  reads : Nat := 0
  maxCb : Nat := 0
  marked : Bool := false
  ladder : Nat := 0
  deep : Nat := 0
  deriving DecidableEq, Repr

/-- A program or clear on a die (R140, R142): `clear` or program, its predicted end, suspensions so far, and whether it
is suspended and since when. -/
structure DieOp where
  clear : Bool
  endAt : Nat
  opid : Nat
  suspends : Nat := 0
  suspended : Option Nat := none
  /-- Suspensions for through programs, which count toward CAPS alone (R255). -/
  prio : Nat := 0
  band : Nat := 0
  row : Nat := 0
  block : Nat := 0
  deriving DecidableEq, Repr

/-- What an M-link command was sent for. -/
inductive CmdUse where
  | grain (read : Nat) (member : Bool)
  | sheet (band row pos : Nat)
  | clear (block : Nat)
  | sentinel (measure : Bool)
  | control
  | query (opid : Nat)
  | scan (band row : Nat)
  | thru (sheet : Nat)
  deriving DecidableEq, Repr

/-- A read in a die's operation queue (R140): what it is for, its rank, its deadline, and its place in the order of issue. -/
structure QRead where
  use : CmdUse
  rank : Nat
  deadline : Nat
  seq : Nat
  deriving DecidableEq, Repr

/-- A program or clear that waits for its die (R140, rank 5): the M-link opcode, what it is for, its duration, the place of a
sheet or the block of a clear, the stream of the band, and whether the row holds pages that a rebuild moves. -/
structure ProgReq where
  die : Nat
  op : Nat
  use : CmdUse
  dur : Nat
  band : Nat := 0
  row : Nat := 0
  pos : Nat := 0
  block : Nat := 0
  stream : Nat := 0
  rebuild : Bool := false
  deriving DecidableEq, Repr

/-- A die: its running program or clear, the reads queued for it, when the read it serves ends, its next OPID, the
sentinel's last program (R185), and the M-link it is homed on (R341). -/
structure Die where
  op : Option DieOp := none
  queue : List QRead := []
  freeAt : Nat := 0
  opid : Nat := 0
  sentinelDose : Nat := 0
  sentinelAt : Nat := 0
  fallback : Bool := false
  home : Option Nat := none
  /-- The sentinel has been measured, or could not be, and is to be programmed (R185). -/
  sentinelDue : Bool := false
  /-- The through program that the die runs, by its predicted end (R255). -/
  thru : Option Nat := none
  deriving DecidableEq, Repr

/-- Why a media read of a slice's entry runs, and the state it has reached (R141, R143, R144, R188). -/
inductive MPath where
  | direct | suspend | around
  deriving DecidableEq, Repr

structure MRead where
  slice : Nat
  entry : Nat
  /-- The map entry read from, the page and the grain within it. -/
  loc : Nat
  lpn : Nat
  grain : Nat
  die : Nat
  path : MPath
  predicted : Nat
  deadline : Nat
  /-- Ladder step reached on the direct path (R188); 0 before a failed decode. -/
  step : Nat := 0
  /-- Member grains that have arrived on the read-around path, and members tried. -/
  members : List Nat := []
  arrived : Nat := 0
  rescue : Bool := false
  ready : Bool := false
  lost : Bool := false
  contention : Bool := false
  overdue : Bool := false
  /-- The token epoch of the entry that issued it (R111). -/
  epoch : Nat := 0
  /-- A speculative read that the DRAM tier's answer has not yet made a demand (R106, R140). -/
  spec : Bool := false
  /-- Its rank of R140: 2 overdue, 3 demand, 4 speculative, 6 background. -/
  rank : Nat := 3
  /-- The reference set that its last READ used (R186). -/
  refs : Nat := 0
  /-- The READs of step 4 that have arrived (R188). -/
  soft : Nat := 0
  /-- It met a fault: read-around is its only path, or its command was reissued (R143, R147, R154). -/
  fault : Bool := false
  /-- The orchard entry that it fetches (R294), and whether from the second stored copy (R297). -/
  goal : Option Nat := none
  again : Bool := false
  /-- Of a data read: the levels of the entries fetched for it. -/
  fetched : List Nat := []
  deriving DecidableEq, Repr

/-- An outstanding M-link command (R346, R350), kept under link × 4096 + tag. -/
structure MCmd where
  op : Nat
  die : Nat
  opid : Nat
  issuedAt : Nat
  use : CmdUse
  /-- The reference set that a READ names, in half steps (R186, R188). -/
  refs : Nat := 0
  deriving DecidableEq, Repr

/-- Link training (R345): the state, the mode tried, stamps of full trainings, CRC errors in the present 1 ms window. -/
structure LinkS where
  train : Nat := 0
  mode : Nat := 0
  since : Nat := 0
  fulls : List Nat := []
  crc : Nat × Nat := (0, 0)
  enabled : Bool := false
  activeAt : Nat := 0
  /-- Training that follows a RECOVERY: the presets are kept (R345). -/
  rec_ : Bool := false
  deriving DecidableEq, Repr

/-- A package as the sideband knows it (R353, R354): presence, identity, power, windows (R195), dose counter (R184). -/
structure PkgS where
  present : Bool := false
  serial : Nat := 0
  ptype : Nat := 0
  dies : Nat := 16
  caps : Nat := 64
  pwrGood : Bool := false
  portEn : Nat := 0
  missed : Nat := 0
  denseClosed : Bool := false
  fastClosed : Bool := false
  /-- Stamp of the last sample, and the temperature that counts since, in 1/16 °C, 16-bit two's complement (R184). -/
  doseAt : Nat := 0
  temp : Option Nat := none
  rebuilt : Bool := true
  replacing : Bool := false
  /-- REFTABLE as the package supplied it at identification: the reference voltages of sets 0 to 31, 15 boundaries each
  (R186). -/
  refTable : List Nat := []
  deriving DecidableEq, Repr

structure MediaS where
  /-- Global segment of (region × 2 + delta) × 2^20 + segment index (R155). -/
  segs : AMap Nat := []
  /-- Map entries that are not 0xFFFF_FFFF, by LPN (R159). -/
  map : AMap Nat := []
  /-- Media copies by map entry. -/
  pages : AMap MPage := []
  bands : AMap Band := []
  nextBand : Nat := 0
  rows : List RowFill := []
  /-- Block records by die × 1024 + block; dies are package × 16 + die number. -/
  blocks : AMap Block := []
  dies : AMap Die := []
  reads : AMap MRead := []
  nextRead : Nat := 0
  /-- The next place in the order of the die queues (R140). -/
  nextQ : Nat := 0
  /-- Programs and clears that wait for their dies, oldest first (R140, R164). -/
  progs : List ProgReq := []
  /-- Bytes that dense sheet programs have taken in the present 100 µs, of all packages (under 64) and of each (R374, R404),
  those of a rebuild (under 65, R174), and governed ones in the present 10 ms (R152): (window, bytes). -/
  denseWin : AMap (Nat × Nat) := []
  govWin : Nat × Nat := (0, 0)
  cmds : AMap MCmd := []
  nextTag : Nat := 0
  links : AMap LinkS := []
  pkgs : AMap PkgS := []
  /-- Cumulative dose of each package, in 2^-48 of 1/1024 eq-h, up to its last sample (R184). -/
  doses : AMap Nat := []
  leaves : AMap Leaf := []
  /-- Pages of the map in the map-page cache, most recently used first (R160). -/
  mapCache : List MapLine := []
  /-- Where each page of the metadata stream lies, by metadata key: its location in map-entry form and the number of its
  write; for orchard pages this is the orchard directory (R160, R293). -/
  metaLoc : AMap (Nat × Nat) := []
  /-- Pages of the band and block tables that have changed since they were last written (R162). -/
  tables : List Nat := []
  /-- Gather bands that the gather zone holds (R169), and blocks whose use waits for a startup checkpoint (R258). -/
  gather : List Nat := []
  gatherPending : List Nat := []
  /-- Gather bands returned by the zone, until a startup checkpoint omits them (R258). -/
  gatherReturn : List Nat := []
  /-- Wear credit in bytes, and whether it has ever started (R151). -/
  credit : Int := 0
  creditInit : Bool := false
  accruedAt : Nat := 0
  /-- Corrected errors that Get Health Info reports (R198): DRAM-tier errors, and grains delivered after step 1 of the
  ladder or later or rebuilt after a failed decode. -/
  corrVol : Nat := 0
  corrPers : Nat := 0
  /-- The rows scanned in this pass (R192): band × 4,096 + row. -/
  scanned : List Nat := []
  /-- Pages staged in gather bands (R196), oldest first. -/
  staged : List Nat := []
  initSpare : Nat := 0
  /-- The stack remirror that runs (R248), and pages still to be mirrored. -/
  remirror : Bool := false
  deriving DecidableEq, Repr

/-! ## Requests and slices (R100 to R134) -/

/-- What a request asks for. -/
inductive ReqKind where
  | read | write | partialWrite
  | enqueue | dequeue | doorbell | qstatus
  | tally | counterRead | counterWrite
  | commitDoorbell | statusRead
  deriving DecidableEq, Repr

/-- An accepted host request (R13): where it came from, its DPA, region and offset with alias bits removed, key index,
stamp, deadline and answer instant, and what it carries. -/
structure Req where
  rid : Nat
  head : Nat
  tag : Nat
  kind : ReqKind
  dpa : Nat
  region : Nat
  off : Nat
  ki : Nat
  stamp : Nat
  deadline : Nat
  answerAt : Nat
  latclass : Nat
  data : Line
  be : BitVec 64
  poison : Bool
  /-- Every host entry of the carrying slice was in use at the stamp (R147 code 5). -/
  full : Bool := false
  deriving DecidableEq, Repr

/-- What a read returns, fixed when the owning slice accepts it (R15): data, or poison with its reason. -/
inductive RdVal where
  | data (l : Line)
  | stored
  | macFail
  | offline
  deriving DecidableEq, Repr

/-- Tracking-table entry states (R104). FREE entries are not kept; a DONE entry is kept while its completion has not been
sent. -/
inductive TtState where
  | accepted | ordered | lookup | write | engine | done
  deriving DecidableEq, Repr

/-- A complete frame. `lines` holds a volatile frame's lines (a persistent frame's lie in its ring pages, from cell
`cell`); `stack` is the stack of each cell, and `spilled` the cells that a spill page holds. -/
structure Frame where
  len : Nat
  user : Nat
  flags : Nat
  seq : Nat
  stamp : Nat
  lines : AMap Cell := []
  /-- Lines stored poisoned. -/
  bad : List Nat := []
  cell : Nat := 0
  stack : List Nat := []
  spilled : List Nat := []
  deriving DecidableEq, Repr

/-- The open frame of a queue (R209); `opener` is the request that carried its line 0. -/
structure OpenFrame where
  opener : Option Req := none
  len : Nat
  user : Nat
  line0 : Line
  openedAt : Nat
  timeoutUs : Nat
  lines : AMap Cell := []
  bad : List Nat := []
  cell : Nat := 0
  stack : List Nat := []
  deriving DecidableEq, Repr

/-- Frame assembly: IDLE, OPEN, DROPPING with its open stamp, timeout and last line (R209). -/
inductive Asm where
  | idle
  | opened (f : OpenFrame)
  | dropping (at_ timeoutUs lastLine : Nat)
  deriving DecidableEq, Repr

/-- What a doorbell changed at its acceptance, to be taken back where every record of it is lost (R150, R226): the frames
that a RELEASE released, the assembly and ring position that an ABORT ended; the pages that a COMMIT committed, where it
did, with the stamp and the result that stood before. -/
inductive Undo where
  | none
  | queue (q : Nat) (frames : List Frame) (asm : Option (Asm × Nat))
  | commit (region : Nat) (pages : Option Nat) (committedAt result : Nat)
  | discard (region state : Nat) (spill : List Nat) (result : Nat)
  deriving DecidableEq, Repr

/-- A tracking-table entry. -/
structure TtEntry where
  req : Req
  state : TtState
  /-- The acceptance sequence number (R128). -/
  seq : Nat
  /-- The buddy log, or the journal when solo, has acknowledged the acceptance record. -/
  acked : Bool := false
  /-- The write's completion waits for a through sheet (R255). -/
  through : Bool := false
  /-- The completion of a write has been sent. -/
  sent : Bool := false
  val : Option RdVal := none
  /-- The older same-line entry it is linked behind: its entry, its request number, and whether it writes. -/
  behind : Option (Nat × Nat × Bool) := none
  overdue : Bool := false
  /-- The request was replayed (R131): its miss cause is FAULT. -/
  replayed : Bool := false
  /-- The conditions of R147 that held, as a mask of their codes. -/
  cause : Nat := 0
  /-- The engine has applied the request (R130). -/
  applied : Bool := false
  /-- The line lay on media, and not in the DRAM tier, when the request was accepted. -/
  media : Bool := false
  undo : Undo := .none
  /-- The token epoch of the entry's present use (R104, R111). -/
  epoch : Nat := 0
  /-- When the entry entered LOOKUP (R113). -/
  lookupAt : Nat := 0
  /-- A DRAM-tier read, and a map lookup in the DRAM tier, are out for the entry (R106). -/
  dramOut : Bool := false
  mapOut : Bool := false
  deriving DecidableEq, Repr

/-- A line-cache way's sector (R116), under set × 24 + way. -/
structure LcWay where
  sector : Nat
  region : Nat
  ki : Nat
  lines : AMap Line
  deriving DecidableEq, Repr

/-- A victim-hold entry (R123): offered, or its data sent. -/
structure HoldEntry where
  sector : Nat
  region : Nat
  ki : Nat
  lines : AMap Line
  sending : Bool := false
  deriving DecidableEq, Repr

/-- A run-ahead slot (R113 to R115): the line, region and key index of its lookup; `filledAt` is when its result landed in
the run-ahead buffer (R114), none while the lookup is out. -/
structure RaEntry where
  slot : Nat
  line : Nat
  region : Nat
  ki : Nat
  off : Nat
  stamp : Nat
  epoch : Nat := 0
  filledAt : Option Nat := none
  deriving DecidableEq, Repr

/-- A next-line prefetch on its way to a slice (R121). -/
structure PfReq where
  sector : Nat
  region : Nat
  ki : Nat
  /-- The slice, entry and epoch of the read that issued it: the parts of its token (R111). -/
  slice : Nat := 0
  entry : Nat := 0
  epoch : Nat := 0
  deriving DecidableEq, Repr

/-- An internal entry that a prefetch occupies (R102, R122), with its own token epoch. -/
structure IntEntry where
  pf : PfReq
  epoch : Nat := 0
  deriving DecidableEq, Repr

structure SliceS where
  /-- Host entries under 0 to 8,191, replayed records for which no host entry was free under 8,192 to 12,287 (R102). -/
  tt : AMap TtEntry := []
  /-- Internal entries of prefetches, under 8,192 to 12,287 (R102). -/
  int : AMap IntEntry := []
  /-- The token epoch of each entry and run-ahead slot (12,288 + slot), 6 bits, where it is not 0 (R111). -/
  epochs : AMap Nat := []
  /-- The map-entry cache: the LPNs whose map entries it holds (R106). -/
  mec : List Nat := []
  /-- The DRAM-presence predictor: the two-bit counters that are not 0 (R106). -/
  pred : AMap Nat := []
  /-- The tree pseudo-LRU bits of each set, 31 of them, where not all are 0 (R116, R120). -/
  plru : AMap Nat := []
  /-- The log that this slice keeps of its buddy's accepted requests that are not done (R128, R129), by the buddy's entry. -/
  blog : AMap TtEntry := []
  /-- The slice's own acceptance records in the journal partition, written while it runs solo (R132), by its entry. -/
  solo : AMap TtEntry := []
  /-- Records that a replay has still to enter into the tracking table (R131, R133): the slice and entry that each had. -/
  replayQ : List (Nat × Nat × TtEntry) := []
  /-- Ingress of both heads in the order of R103. -/
  ingress : List Req := []
  /-- Acceptance sequence number. -/
  seq : Nat := 0
  ways : AMap LcWay := []
  /-- Corrected errors per way: (window, count) (R125). -/
  ce : AMap (Nat × Nat) := []
  hold : AMap HoldEntry := []
  ra : List RaEntry := []
  pf : List PfReq := []
  /-- The share of this slice is carried by its buddy (R133). -/
  adoptedAway : Bool := false
  /-- When a TIERPLAN roll last quiesced the slice (R41). -/
  planned : Nat := 0
  deriving DecidableEq, Repr

/-! ## Heads (R68 to R98) -/

/-- An HDM decoder (R77). `target` is this device's position in the interleave set. -/
structure Decoder where
  hpaBase : Nat := 0
  hpaSize : Nat := 0
  ways : Nat := 1
  gran : Nat := 256
  skip : Nat := 0
  target : Nat := 0
  committed : Bool := false
  locked : Bool := false
  errNotCommitted : Bool := false
  deriving DecidableEq, Repr

/-- A head's PCIe function as configuration space presents it (R72, R73, R87, R99): BAR sizes in KiB, the DVSECs and extended
capabilities by ID, what the DVSEC for CXL devices and the GPF DVSEC report, the MSI-X vectors and DOE instances. -/
structure ConfigSpace where
  deviceId : Nat := 0x9400
  classCode : Nat := 0x05
  subclass : Nat := 0x02
  progIf : Nat := 0x10
  revision : Nat
  serial : Nat
  bar0Kib : Nat := 128
  bar2Kib : Nat := 65536
  msixVectors : Nat := 256
  dvsecs : List Nat := [0x0000, 0x0005, 0x0007, 0x0008]
  doe : Nat := 1
  cacheCapable : Bool := false
  ioCapable : Bool := true
  memCapable : Bool := true
  memHwInit : Bool := false
  hdmCount : Nat := 1
  viralCapable : Bool := false
  cxlReset : Bool := false
  backInvalidate : Bool := false
  range2 : Nat := 0
  memActiveTimeout : Nat := 1
  gpfPhase2Ns : Nat := 1000
  gpfPhase2Mw : Nat := 0
  deriving DecidableEq, Repr

/-- An IDE stream's key sets (R92): the two sets per direction by slot, the one in use, and whether it is secure. -/
structure IdeS where
  keys : AMap (List Byte) := []
  active : Option Nat := none
  secure : Bool := false
  deriving DecidableEq, Repr

structure HeadS where
  /-- Requests accepted and not yet answered, by request number (R149). -/
  live : AMap Req := []
  decoders : AMap Decoder := []
  /-- PERSTn_N is low. -/
  perst : Bool := true
  perstRiseAt : Nat := 0
  /-- Configuration space, once it is ready; before that, configuration requests get Configuration Request Retry Status
  (R97). -/
  config : Option ConfigSpace := none
  memInfoValid : Bool := false
  /-- Memory_Active as the head reports it: 0 in PCIe-only mode (R93). -/
  memActive : Bool := false
  /-- DVSEC range 1 as the head reports it: the DPA limit at the head's last reset (R73). -/
  range1 : Nat := 0
  memIde : IdeS := {}
  ioIde : IdeS := {}
  /-- A secured SPDM session stands, and what its keys derive from (R91). -/
  spdm : Bool := false
  spdmSecret : Nat := 0
  /-- Width and rate at which the link last trained. -/
  trained : Nat × Nat := (0, 0)
  /-- CDAT sequence (R81). -/
  cdatSeq : Nat := 0
  /-- Highest occupancy in the present DevLoad window (R88). -/
  occPeak : Nat := 0
  deriving DecidableEq, Repr

/-! ## Shadow view (R57 to R62) -/

/-- A region's shadow state: 0 IDLE, 1 OPEN, 2 OVERFLOW. `delta` maps page to delta page; `folding` are committed pages
whose delta entries the fold has still to move; `spill` are lines written past the limit; `dropped` is a discarded delta
whose pages stay until the doorbell's request is done (R150). -/
structure ShadowS where
  state : Nat := 0
  epoch : Nat := 0
  committedAt : Nat := 0
  delta : AMap Nat := []
  folding : AMap Nat := []
  spill : List Nat := []
  dropped : AMap Nat := []
  deriving DecidableEq, Repr

/-! ## Queues (R202 to R230) -/

/-- A queue's descriptor (R204). -/
structure QDesc where
  /-- What QUEUE PARAM set; none: the set's value (R205). -/
  ki : Option Nat := none
  maxKib : Option Nat := none
  timeoutUs : Option Nat := none
  headSeq : Nat := 0
  tailSeq : Nat := 0
  frames : List Frame := []
  asm : Asm := .idle
  drops : Nat := 0
  resets : Nat := 0
  newest : Nat := 0
  /-- The next cell of a log ring (R227). -/
  ringTail : Nat := 0
  /-- Spill pages held, as the number of pages. -/
  spillPages : Nat := 0
  deriving DecidableEq, Repr

structure QenS where
  queues : AMap QDesc := []
  /-- Home stack moves under R224, by group. -/
  rehomed : AMap Nat := []
  /-- The queue or tally pipeline is in recovery since (R225). -/
  recovering : Option Nat := none
  /-- The queues whose first drop of a 1 ms window has raised an event, under window × 65,536 + queue (R208). -/
  dropWin : AMap Nat := []
  /-- Persistent queues changed since the last QPTR records (R229), and the pointers last journalled. -/
  changed : List Nat := []
  /-- Head SEQ, tail SEQ and the ring cell of the head. -/
  journalled : AMap (Nat × Nat × Nat) := []
  /-- Pool use has exceeded SPILL_POOL and has not fallen 5 points below it since (R217). -/
  spilling : Bool := false
  /-- Queues whose stored pointers are bad (R222), with the copies lost: 1 is repaired, 2 is past settling. -/
  ptrBad : AMap Nat := []
  deriving DecidableEq, Repr

/-! ## Tally (R231 to R246) -/

/-- An item waiting for the merge (R237): a request, or a boundary of a set. -/
structure TalItem where
  stamp : Nat
  head : Nat
  order : Nat
  slice : Nat
  entry : Nat
  req : Req
  deriving DecidableEq, Repr

/-- A tally cache entry (R238): pending deltas and first stamps of the two sides. -/
structure TalEntry where
  d0 : Nat := 0
  d1 : Nat := 0
  at0 : Option Nat := none
  at1 : Option Nat := none
  /-- When it was last used, as a number of uses: the least recently used is evicted (R239). -/
  used : Nat := 0
  deriving DecidableEq, Repr

/-- A snapshot copy under way (R243). -/
structure SnapCopy where
  id : Nat
  boundary : Nat
  epoch : Nat
  bank : Nat
  /-- The target as it was at the boundary (R232): its region and the offset of the bank. -/
  region : Nat
  offset : Nat
  /-- Home lines already copied. -/
  copied : List Nat := []
  deriving DecidableEq, Repr

structure TalSet where
  side : Nat := 0
  copy : Option SnapCopy := none
  /-- A pending AT boundary (R245). -/
  at_ : Option Nat := none
  /-- SNAP_ID of the last snapshot started. -/
  snapId : Nat := 0
  lastBank : Nat := 0
  /-- The last epoch boundary taken. -/
  lastBoundary : Nat := 0
  deriving DecidableEq, Repr

structure TalS where
  items : List TalItem := []
  nextOrder : Nat := 0
  /-- Pending deltas by set × 2^28 + counter. -/
  cache : AMap TalEntry := []
  uses : Nat := 0
  sets : AMap TalSet := []
  deriving DecidableEq, Repr

/-! ## Persistence and quench (R247 to R275) -/

/-- A through record (R255). `sheet` is the through sheet that holds it. -/
structure ThruRec where
  seq : Nat
  lpn : Nat
  sub : Nat
  version : Nat
  cell : Cell
  sheet : Nat
  deriving DecidableEq, Repr

/-- A through sheet: cut, programmed. The entries (slice, entry) whose completion waits for it, and the pair of through dies
to which it has been issued (R255, R256). -/
structure ThruSheet where
  firstAt : Nat
  cut : Bool := false
  programmed : Bool := false
  waiters : List (Nat × Nat) := []
  dies : List Nat := []
  deriving DecidableEq, Repr

/-- A saved page of a quench image. -/
structure SavedPage where
  lpn : Nat
  version : Nat
  lines : AMap Cell
  written : List Nat
  deriving DecidableEq, Repr

/-- Quench metadata (R266): what a restart takes from a seal. -/
structure QMeta where
  queues : AMap QDesc
  sets : AMap TalSet
  pendings : List TtEntry
  /-- The dirty orchard nodes. -/
  entries : List (Nat × OrcStored) := []
  deriving DecidableEq, Repr

/-- A quench image (R266, R271): index (lpn, version), counts, pages saved, whether the end record and the seal stand. -/
structure QImage where
  id : Nat
  trigger : Nat
  ending : Nat
  tq : Nat
  index : List (Nat × Nat)
  unsaved : List (Nat × Nat)
  indexEnd : Bool := false
  pages : List SavedPage := []
  sealed : Option Nat := none
  jseq : Nat := 0
  qmeta : Option QMeta := none
  /-- The ROOT field of the seal: the counters of the root node (R292). -/
  root : List Nat := []
  deriving DecidableEq, Repr

/-- The quench under way, and what the last power-down left (R263 to R272). `ending`: 0 power-down, 1 restart, 2 by
supply state, 3 system reset. -/
structure QuenchS where
  id : Nat := 0
  trigger : Nat := 0
  ending : Nat := 0
  tq : Nat := 0
  sawReset : Bool := false
  drainAt : Nat := 0
  pendings : List TtEntry := []
  /-- Retained quench images, oldest first (R271). -/
  images : List QImage := []
  vStart : Nat := 0
  /-- The bank voltage at the seal and the energy used since the trigger, mJ (R253). -/
  vEnd : Nat := 0
  eUsed : Nat := 0
  /-- The newest QUENCH_BEGIN belongs to a run whose seal was written. -/
  sealedId : Option Nat := none
  /-- The device has run (Memory Active) since the last quench began or power-on. -/
  ranSince : Bool := false
  /-- Dirty pages that the mirrored journal names when the DRAM tier is lost, with their COVERED flag (R270). -/
  lostDirty : List (Nat × Bool) := []
  /-- The quench under way found no gather band it can write (R475). -/
  noGather : Bool := false
  /-- Trigger 4 is among the triggers of the quench under way (R372). -/
  sawT4 : Bool := false
  deriving DecidableEq, Repr

structure PerS where
  thru : List ThruRec := []
  sheets : AMap ThruSheet := []
  nextSheet : Nat := 0
  thruSeq : Nat := 0
  /-- The last four samples of the bank voltage, mV (R252). -/
  samples : List Nat := []
  lowRounds : Nat := 0
  /-- Measured capacitance in µF (R253). -/
  cEff : Option Nat := none
  /-- Highest uncovered dirty page count in the present DevLoad window. -/
  dirtyPeak : Nat := 0
  thermPeak : Nat := 0
  /-- DevLoad windows of 4 µs that have ended (R88). -/
  loadWindow : Nat := 0
  deriving DecidableEq, Repr

/-! ## Keys and the orchard (R276 to R312) -/

inductive SlotSt where
  | empty | active | sweepOld | sweepNew
  deriving DecidableEq, Repr

/-- A key slot (R278). -/
structure KeySlot where
  st : SlotSt := .empty
  gen : Nat := 0
  key : Key := 0
  sweep : Nat := 0
  deriving DecidableEq, Repr

/-- A reheat sweep (R303): 1 running, 2 paused; the start of the step that runs or comes next, when an abandoned step is
retried, and the abandonments of the page at D. -/
structure Sweep where
  st : Nat
  region : Nat
  k : Nat
  j : Nat
  base : Nat
  limit : Nat
  d : Nat
  pages : Nat := 0
  step : Option Nat := none
  retryAt : Nat := 0
  abandons : Nat := 0
  deriving DecidableEq, Repr

structure CryS where
  slots : AMap KeySlot := []
  owner : Option (List Byte) := none
  sweeps : AMap Sweep := []
  /-- Slots and sweeps before each change that a request still waiting is older than, with the change's stamp, newest first
  (R279, R312). -/
  past : List (Nat × AMap KeySlot × AMap Sweep) := []
  /-- Unwrap failures since power-on (R310). -/
  unwraps : Nat := 0
  /-- Orphaned subtrees, (level, index) (R298), leaves that were lost, and the graft counter (R295). -/
  orphans : List (Nat × Nat) := []
  graft : Nat := 0
  regraft : Option (Nat × Nat) := none
  rebased : Bool := false
  orc : OrcS := {}
  /-- Owner certificate chain, slot 1 (R91). -/
  cert1 : List Byte := []
  deriving DecidableEq, Repr

/-- The stored-poisoned lines: page number × 64 + line, with its source (R83): 0 External, 1 Injected, 2 Internal,
3 Vendor. `pages` are volatile pages that a lost stack left poisoned whole, source Internal (R328), none of whose lines
has been written since. `overflow` is the stamp of the first record lost. -/
structure PoisonS where
  lines : AMap Nat := []
  pages : List Nat := []
  overflow : Option Nat := none
  deriving DecidableEq, Repr

end Sys2Proof.Machine
end

