-- ==== Sys2Proof/Machine/Fields.lean ====
section
/-!
DEFINITION. The register fields of BX space (R447 to R454): every field of every register table of the spec, with its
place, width, access type (R8), reset value and the reset levels that clear it (R7), and every register with its
address and indexing (R454). Where the Reset column holds a keyword (Image, Strap, Journal ...), `reset` is 0 here and
`Dev.dflt` (Machine/Ops.lean) gives the keyword's value.
-/
namespace Sys2Proof.Machine

/-- Access types of R8 (no BX-space field uses RWL, R454). -/
inductive Access where
  | rw | ro | w1c | w1s | wo
  deriving DecidableEq, Repr

/-- The register fields, named as the register tables name them: register, then field. -/
inductive Fld where
  | GLB_ID_DEVICE
  | GLB_ID_STEPPING
  | GLB_ID_PART
  | GLB_ID_HEADMODE
  | GLB_SERIAL_SERIAL
  | GLB_STATUS_MEM_ACTIVE
  | GLB_STATUS_NOTIER
  | GLB_STATUS_PDEG
  | GLB_STATUS_LOCKED
  | GLB_STATUS_STACKS
  | GLB_STATUS_PKGS
  | GLB_HEAD_LINK_RATE
  | GLB_HEAD_LINK_WIDTH
  | GLB_HEAD_LINK_FLIT
  | GLB_HEAD_LINK_CXL
  | GLB_HEAD_LINK_IDE_MEM
  | GLB_HEAD_LINK_IDE_IO
  | GLB_HEAD_LINK_REVERSED
  | GLB_HEAD_LINK_DOWN_COUNT
  | GLB_HEAD_LOAD_DEVLOAD
  | GLB_HEAD_LOAD_OCC_LVL
  | GLB_HEAD_LOAD_WB_LVL
  | GLB_HEAD_LOAD_WEAR_LVL
  | GLB_HEAD_LOAD_THERM_LVL
  | GLB_HEAD_LOAD_SEVERE_WIN
  | GLB_HEAD_OCC_IN_USE
  | GLB_HEAD_OCC_HIGH_WATER
  | GLB_LAT_DLA_DL_A
  | GLB_LAT_DLB_DL_B
  | GLB_LAT_DLC_DL_C
  | GLB_LAT_LIMIT_LIMIT
  | GLB_LAT_CTL_MISS_EVT_EN
  | GLB_LAT_MISSc_COUNT
  | GLB_LAT_ALIM_READS
  | GLB_LAT_ALIM_OTHERS
  | GLB_LAT_WORST_LATE_NS
  | GLB_LAT_WORST_CAUSE
  | GLB_WEAR_RATE_W_MBPS
  | GLB_WEAR_CREDIT_CREDIT
  | GLB_WEAR_STAT_LEVEL
  | GLB_WEAR_STAT_CREDIT_PCT
  | GLB_WEAR_STAT_DEBT
  | GLB_WEAR_STAT_LIFTED
  | IMG_STATUS_ACTIVE_SLOT
  | IMG_STATUS_BOOT_SEL
  | IMG_STATUS_FALLBACK
  | IMG_STATUS_RECOVERY
  | IMG_STATUS_STAGE_STATE
  | IMG_STATUS_ROLLING
  | IMG_STATUS_PENDING
  | IMG_STATUS_LAST_RESULT
  | IMG_STATUS_LAST_SECTION
  | IMG_SEQ_ACT_SEQ
  | IMG_SECT_STATE_SECT
  | IMG_ROLL_SLICE_DONE
  | IMG_ROLL_BAND_PCT
  | IMG_SVN_ACTIVE_SVN
  | IMG_SVN_SVN_FLOOR
  | IMG_KEYSTAT_KEY_PROV
  | IMG_KEYSTAT_KEY_REVOKED
  | IMG_TACT_LO_T_ACT
  | IMG_TACT_HI_T_ACT
  | RGN_CFG_TYPE
  | RGN_CFG_PERSIST
  | RGN_CFG_SHADOW
  | RGN_CFG_STRICT
  | RGN_CFG_POOL
  | RGN_CFG_HEADS
  | RGN_CFG_LATCLASS
  | RGN_CFG_PLACEMENT
  | RGN_CFG_WAYS
  | RGN_CFG_ALIAS_W
  | RGN_CFG_ALIAS_POS
  | RGN_KEY_KEY_BASE
  | RGN_KEY_SET_ID
  | RGN_KEY_SHADOW_DELTA
  | RGN_BASE_BASE
  | RGN_SIZE_SIZE
  | RGN_SPAN_SPAN
  | RGN_UID_UID
  | RGN_STATE_STATE
  | RGN_STATE_PDEG
  | RGN_STATE_GEN
  | RGN_EPOCH_EPOCH
  | RGN_SHADOW_DELTA_PAGES
  | RGN_SHADOW_SH_STATE
  | RGN_SHADOW_LAST_RESULT
  | RGN_CTL_PREFETCH_EN
  | RGN_CTL_HOSTERR_EVT
  | RGN_HOSTERR_COUNT
  | SLC_STATUS_STATE
  | SLC_STATUS_BYPASS
  | SLC_STATUS_SOLO
  | SLC_STATUS_ADOPTED
  | SLC_STATUS_RUNAHEAD
  | SLC_STATUS_GEN
  | SLC_CTL_DRAM_SPEC_EN
  | SLC_CTL_MEDIA_SPEC_EN
  | SLC_CTL_RUNAHEAD_EN
  | SLC_CTL_PF_EN
  | SLC_CTL_SPECRD_EN
  | SLC_TT_OCC_HOST_USE
  | SLC_TT_OCC_INT_USE
  | SLC_TT_OCC_HOST_HIGH
  | SLC_WAY_DIS_WAY_DIS
  | SLC_WAY_STAT_WAYS_ON
  | SLC_WAY_STAT_CE_TOTAL
  | SLC_BUDDY_BUDDY
  | SLC_BUDDY_LOG_USE
  | SLC_BUDDY_SOLO_COUNT
  | SLC_BUDDY_REPLAY_COUNT
  | SLC_OFFER_ACCEPTED
  | SLC_OFFER_DECLINED
  | SLC_WAY_TEST_TEST
  | SLC_WAY_TEST_TESTING
  | MCX_SCHED_CNT0_SUSPENDS
  | MCX_SCHED_CNT0_READAROUND
  | MCX_SCHED_CNT1_RESCUES
  | MCX_SCHED_CNT1_SUS_EXHAUST
  | MCX_SCHED_OCC_PROG_NOW
  | MCX_SCHED_OCC_SUS_NOW
  | MCX_ECC_CNT0_CORRECTED
  | MCX_ECC_CNT0_HIGH_CB
  | MCX_ECC_CNT1_HARD_RETRY
  | MCX_ECC_CNT1_SOFT
  | MCX_ECC_CNT1_REBUILT
  | MCX_ECC_CNT1_POISONED
  | MCX_SB_CTL_ALERT_EN
  | MCX_SB_STAT_PRESENT
  | MCX_SB_STAT_TEMP_LOST
  | MCX_SB_STAT_NAK
  | MCX_SB_STAT_CRC
  | MCX_LINKi_STAT_STATE
  | MCX_LINKi_STAT_TRAIN
  | MCX_LINKi_STAT_WIDTH2
  | MCX_LINKi_STAT_RATE24
  | MCX_LINKi_STAT_REVERSED
  | MCX_LINKi_STAT_POLARITY
  | MCX_LINKi_STAT_PKG
  | MCX_LINKi_STAT_PORT
  | MCX_LINKi_STAT_HOMED
  | MCX_LINKi_STAT_GEN
  | MCX_LINKi_ERR_CRC
  | MCX_LINKi_ERR_REISSUE
  | MCX_LINKi_ERR_RETRAINS
  | MCX_LINKi_CTL_PRESET_FIX
  | MCX_LINKi_CTL_PRESET
  | DRT_STACKd_STAT_STATE
  | DRT_STACKd_STAT_SELF_REFRESH
  | DRT_STACKd_STAT_SPARED
  | DRT_STACKd_STAT_GEN
  | DRT_STACKd_ERR_CE
  | DRT_STACKd_ERR_UE
  | DRT_REMIRROR_ACTIVE
  | DRT_REMIRROR_PCT
  | DRT_MAP_STAT_SEGS
  | DRT_MAP_STAT_PART_SEGS
  | DRT_MAP_STAT_PAGED
  | DRT_MAP_STAT_A_PAGED
  | DRT_MAP_CACHE_HITS
  | DRT_MAP_CACHE_MISSES
  | DRT_BLK_STAT_READY
  | DRT_BLK_STAT_FREE
  | DRT_BLK_STAT_RETIRED
  | DRT_GATHER_FOOT
  | DRT_GATHER_FLOOR
  | DRT_GATHER_USED_PCT
  | DRT_CULLET_ACTIVE
  | DRT_CULLET_URGENT
  | DRT_CULLET_REBUILD
  | DRT_CULLET_PKG
  | DRT_CULLET_PCT
  | DRT_CULLET_CNT_PAGES
  | DRT_CULLET_CNT_ABANDONED
  | DRT_CULLET_CNT_TGT_RETIRED
  | DRT_PDEG_ACTIVE
  | DRT_PDEG_CAUSE
  | DRT_PDEG_UNPERS_GIB
  | DRT_PDEG_LOST
  | DRT_STREAMs_OPEN
  | DRT_STREAMs_ROWS
  | DRT_LEHR_CTL_TARGET
  | DRT_LEHR_CTL_SCAN_DAYS
  | DRT_LEHR_CTL_SCAN_EN
  | DRT_LEHR_STAT_MAX_DOSE
  | DRT_LEHR_STAT_DUE
  | DRT_LEHR_STAT_URGENT
  | DRT_LEHR_STAT_OVERDUE
  | DRT_LEHR_CNT_PAGES
  | DRT_LEHR_CNT_RD_BANDS
  | DRT_LEHR_CNT_URG_BANDS
  | DRT_SCAN_PASS_PCT
  | DRT_SCAN_PASSES
  | DRT_TWIN_DENSE_CLOSED
  | DRT_TWIN_FAST_CLOSED
  | DRT_TWIN_STAGING
  | DRT_TWIN_CLOSED_PKGS
  | DRT_TWIN_STAGED_GIB
  | DRT_HEALTH_LIFE_USED
  | DRT_HEALTH_SPARE_PCT
  | DRT_HEALTH_SPARE_WARN
  | DRT_HEALTH_SPARE_CRIT
  | QEN_CTL_SPILL_POOL
  | QEN_CTL_STRAY_EVT
  | QEN_CTL_DROP_EVT
  | QEN_POOL_USED
  | QEN_POOL_TOTAL
  | QEN_SPILL_PAGES
  | QEN_SPILL_WRITTEN
  | QEN_OPEN_NOW
  | QEN_OPEN_HIGH
  | QEN_MISC_STRAY
  | QEN_MISC_BAD_LENGTH
  | QEN_MISC_BAD_DOORBELL
  | QEN_MISC_STALE_REL
  | QEN_PTR_REPAIRED
  | QEN_PTR_PTR_RESETS
  | QEN_TIMEOUT_COUNT
  | QEN_DROPr_COUNT
  | QEN_GRPg_STATE
  | QEN_GRPg_HOME
  | QEN_GRPg_REHOMED
  | QEN_GRPg_PERSIST
  | QEN_GRPg_SET
  | QEN_GRPg_GEN
  | QEN_STRANDw_STRANDED
  | TAL_CTL_FOLD_NS
  | TAL_CTL_BAD_EVT
  | TAL_CTL_SKIP_EVT
  | TAL_CACHE_USED
  | TAL_CACHE_REPAIRED
  | TAL_CACHE_LOST
  | TAL_CNT_RECORDS
  | TAL_BAD_OUT_OF_SET
  | TAL_BAD_BAD_OP
  | TAL_BAD_KEY
  | TAL_BAD_ON_POISON
  | TAL_SETs_STAT_INEXACT
  | TAL_SETs_STAT_COPYING
  | TAL_SETs_STAT_LAST_BANK
  | TAL_SETs_STAT_AUTO
  | TAL_SETs_STAT_SKIPPED
  | TAL_SETs_STAT_LOST
  | TAL_SETs_EPOCH_EPOCH
  | TAL_SETs_SNAPID_SNAP_ID
  | CRY_CTL_LOCKDOWN
  | CRY_CTL_MAC_EVT
  | CRY_STATUS_LOCKED
  | CRY_STATUS_LOCK_CAUSE
  | CRY_STATUS_DEBUG_AUTH
  | CRY_STATUS_OWNER_SET
  | CRY_STATUS_ACTIVE
  | CRY_STATUS_SWEEPS
  | CRY_ERR0_MAC_FAIL
  | CRY_ERR0_SECOND_KEY
  | CRY_ERR1_PTL_POISON
  | CRY_ERR1_UNWRAP
  | CRY_MINOR_MAJORS
  | CRY_RHs_STAT_STATE
  | CRY_RHs_STAT_REGION
  | CRY_RHs_STAT_KEY
  | CRY_RHs_STAT_NEW_SLOT
  | CRY_RHs_BOUND_D
  | CRY_RHs_LIMIT_LIMIT
  | CRY_RHs_CNT_PAGES
  | CRY_RHs_CNT_ABANDONS
  | CRY_SLOTn_STATE
  | CRY_SLOTn_KIND
  | CRY_SLOTn_OWNER
  | CRY_SLOTn_SWEEP
  | CRY_SLOTn_GEN
  | ORC_STATUS_REGRAFT
  | ORC_STATUS_REBASED
  | ORC_STATUS_ORPHANS
  | ORC_CACHE_HITS
  | ORC_CACHE_FETCHES
  | ORC_COPY_REPAIRED
  | ORC_COPY_BOTH_LOST
  | ORC_UNVER_LINES
  | ORC_GRAFT_GRAFT
  | JRN_STATUS_QSTATE
  | JRN_STATUS_TRIGGER
  | JRN_STATUS_HOLDUP_OK
  | JRN_STATUS_THROUGH_ALL
  | JRN_STATUS_BUDGET_FULL
  | JRN_STATUS_LAST_SEALED
  | JRN_STATUS_RETAINED
  | JRN_STATUS_EXTRA_TRIG
  | JRN_BUDGET_EFFECTIVE
  | JRN_BUDGET_IMAGE
  | JRN_BUDGET_ENERGY
  | JRN_BUDGET_GATHER
  | JRN_DIRTY_UNCOVERED
  | JRN_DIRTY_COVERED
  | JRN_HOLDUP_V_BANK
  | JRN_HOLDUP_E_AVAIL
  | JRN_HOLDUP_C_EFF_PCT
  | JRN_HOLDUP_C_MEASURED
  | JRN_HOLDUP_ROUNDS
  | JRN_CTL_FLUSH_US
  | JRN_CTL_HOLDUP_EVT
  | JRN_QLAST_T_Q
  | JRN_QDUR_TO_SEAL_US
  | JRN_QDUR_DRAIN_US
  | JRN_QDUR_PAGES
  | JRN_DSC_DIRTY_SHUTDOWN
  | JRN_DSC_QUENCHES
  | JRN_THRU_LINES
  | JRN_THRU_SHEET_FAIL
  | JRN_FILL_PART_PCT
  | JRN_FILL_GATHER_PCT
  | UST_CTL_STALE_EVT
  | UST_SEQ_SEQ
  | UST_FAULT_RECOVERED
  | UST_FAULT_OVER_BUDGET
  | UST_FAULT_DOUBLE
  | UST_FAULT_FATAL
  | UST_STALE_STALE
  | UST_STALE_BUSY
  | UST_DIGEST_SNAP_ID
  | UST_DIGEST_CAPTURING
  | UST_STATEn_STATE
  | UST_STATEn_CAUSE
  | UST_STATEn_HW
  | UST_STATEn_RECOVERY
  | UST_STATEn_GEN
  | PWR_STEP_STEP
  | PWR_STEP_NOTIER
  | PWR_STEP_RECOVERY
  | PWR_STEP_HALTED
  | PWR_STEP_SQ_WAIT
  | PWR_STEP_STEP_MS
  | PWR_SQ_CTL_TARGET
  | PWR_SQ_CTL_LEAVE
  | PWR_SQ_CTL_ALERT_EN
  | PWR_SQ_STAT_ROLE
  | PWR_SQ_STAT_PART
  | PWR_SQ_STAT_LINE
  | PWR_SQ_STAT_HOLDING
  | PWR_SQ_STAT_RX_TARGET
  | PWR_SQ_STAT_UP_TIMEOUTS
  | PWR_SQ_STAT_DOWN_TIMEOUTS
  | PWR_SQ_STAT_CRC_ERR
  | PWR_PD_ON
  | PWR_PD_FAULT_OFF
  | PWR_MPG_MPEN
  | PWR_MPG_MPGOOD
  | PWR_MPG_LATCH
  | PWR_SUPPLY_VIN12_MV
  | PWR_SUPPLY_VAUX3_MV
  | PWR_SUPPLY_VIN_GOOD
  | PWR_SUPPLY_VAUX_GOOD
  | PWR_SUPPLY_AON_FROM_VIN
  | PWR_RAILr_STAT_MV
  | PWR_RAILr_STAT_CURRENT
  | PWR_RAILr_STAT_STATE
  | PWR_RAILr_STAT_PHASES_LOST
  | PWR_RAILr_CNT_UV
  | PWR_RAILr_CNT_OV
  | PWR_RAILr_CNT_OC
  | PWR_RAILr_CNT_RISE_FAIL
  | PWR_RAILr_CNT_COLLAPSE
  | PWR_RAILr_CNT_DISCH
  | PWR_RAILr_CNT_RAMP_US
  | PWR_RAILr_CYC_CYCLES
  | PWR_RAILr_CYC_PHASE_LOSS
  | PWR_MPGg_CNT_FALLS
  | PWR_MPGg_CNT_GLITCH
  | PWR_MPGg_CNT_RISE_FAIL
  | PWR_MPGg_CNT_LATCHES
  | PWR_MPGg_CNT_CYCLES
  | RST_CAUSE_POR
  | RST_CAUSE_SEQ
  | RST_CAUSE_RESET_N
  | RST_CAUSE_FATAL
  | RST_CAUSE_CMD_SYS
  | RST_CAUSE_WDT
  | RST_CAUSE_CMD_CORE
  | RST_CAUSE_LAST_LEVEL
  | RST_CAUSE_LAST_SRC
  | RST_COUNT_SYSTEM
  | RST_COUNT_CORE
  | RST_COUNT_RESET_N
  | RST_COUNT_UNIT
  | RST_HS_TMO_US
  | RST_HS_TIMEOUTS
  | RST_WDT_PERIOD_MS
  | RST_WDT_KICK
  | RST_WDT_RUNNING
  | CLK_SRC_SEL_PLL_REF
  | CLK_SRC_SEL_WCLK_SOSC
  | CLK_SRC_READY_SRC
  | CLK_SRC_READY_LOCK
  | CLK_STATUS_LAST
  | CLK_STATUS_SWITCHING
  | CLK_STATUS_TB_COARSE
  | CLK_STATUS_FALLBACK
  | CLK_STATUS_RELOCKS
  | CLK_TB_LO_TB_LO
  | CLK_TB_HI_TB_HI
  | THM_STATUS_MAX_N
  | THM_STATUS_MAX_C
  | THM_STATUS_THERM
  | THM_STATUS_FAST
  | THM_STATUS_CRIT
  | THM_THROT_DEVICE
  | THM_THROT_SLICES
  | THM_THROT_COMPLEXES
  | THM_EXT_LOW
  | THM_EXT_ACTIVE
  | THM_EXT_STUCK
  | THM_EXT_GLITCH
  | THM_SENSn_TEMP
  | THM_SENSn_VALID
  | THM_SENSn_FAILED
  | THM_SENSn_FRAC
  | EVT_STATUSw_STATUS
  | EVT_CTL_RATE
  | EVT_CTL_MCTP_EID
  | EVT_DROP_RATE
  | EVT_DROP_MCTP
  | EVT_CFGn_EN
  | EVT_CFGn_SEV
  | EVT_CFGn_ROUTE
  | EVT_CFGn_VECTOR
  | EVT_CFGn_DEF_SEV
  | EVT_CFGn_COUNT
  | EVT_LASTn_RECORD
  | PMC_CTRn_COUNT
  | PMC_CFGn_EVENT
  | PMC_CFGn_UNIT
  | PMC_CFGn_CLASS
  | PMC_CFGn_ENABLE
  | PMC_CFGn_CHAIN
  | PMC_CFGn_OVF_EVT
  | PMC_CFGn_SAMPLE
  | PMC_GRPg_CTL_RUN
  | PMC_GRPg_CTL_CLEAR_ON_SNAP
  | PMC_GRPg_CTL_INTERVAL_US
  | PMC_GRPg_CTL_SNAP_SEQ
  | PMC_SNAPn_COUNT
  | PMC_SAMP_CTL_PERIOD
  | PMC_SAMP_STAT_WPTR
  | PMC_SAMP_STAT_RPTR
  | PMC_SAMP_STAT_LOST
  | PMC_SAMPi_RECORD
  | MGT_STATUS_SLOT
  | MGT_STATUS_READY
  | MGT_STATUS_FALLBACK
  | MGT_STATUS_ACTIVATING
  | MGT_STATUS_FW_SVN
  | MGT_CMD_EXECUTED
  | MGT_CMD_REFUSED
  | DBG_STATUS_UNLOCKED
  | DBG_STATUS_TRIES_LEFT
  | DBG_MA_ADDR_DPA
  | DBG_MA_CTL_GO
  | DBG_MA_CTL_WRITE
  | DBG_MA_CTL_BUSY
  | DBG_MA_CTL_RESULT
  | DBG_MA_DATA_LINE
  deriving DecidableEq, Repr

/-- A field's place in its register, its width, access, reset value, the levels that clear it, and the range outside
of which a write is ignored (none: any value). -/
structure FieldInfo where
  lo : Nat
  width : Nat
  access : Access
  reset : Nat
  clrP : Bool
  clrS : Bool
  clrC : Bool
  clrU : Bool
  range : Option (Nat × Nat)
  deriving DecidableEq, Repr

/-- Build the description of a field; `clr` lists the clearing levels as the digits of a binary number P S C U. -/
def FieldInfo.mk4 (lo width : Nat) (access : Access) (reset clr : Nat) (range : Option (Nat × Nat) := none) : FieldInfo :=
  { lo, width, access, reset, clrP := clr.testBit 3, clrS := clr.testBit 2, clrC := clr.testBit 1, clrU := clr.testBit 0, range }

/-- The description of each field, as its register table gives it. -/
def Fld.info : Fld → FieldInfo
  | .GLB_ID_DEVICE => .mk4 0 16 .ro 0x9400 0b0000  -- Fixed
  | .GLB_ID_STEPPING => .mk4 16 4 .ro 0 0b0000  -- Fixed
  | .GLB_ID_PART => .mk4 20 2 .ro 0 0b0000  -- Fuses
  | .GLB_ID_HEADMODE => .mk4 22 1 .ro 0 0b1000  -- Strap
  | .GLB_SERIAL_SERIAL => .mk4 0 64 .ro 0 0b0000  -- Fuses
  | .GLB_STATUS_MEM_ACTIVE => .mk4 0 1 .ro 0 0b1100
  | .GLB_STATUS_NOTIER => .mk4 1 1 .ro 0 0b1000
  | .GLB_STATUS_PDEG => .mk4 2 1 .ro 0 0b0000  -- Journal
  | .GLB_STATUS_LOCKED => .mk4 3 1 .ro 0 0b1000
  | .GLB_STATUS_STACKS => .mk4 4 4 .ro 0 0b1100
  | .GLB_STATUS_PKGS => .mk4 8 7 .ro 0 0b1100
  | .GLB_HEAD_LINK_RATE => .mk4 0 3 .ro 0 0b1101
  | .GLB_HEAD_LINK_WIDTH => .mk4 3 5 .ro 0 0b1101
  | .GLB_HEAD_LINK_FLIT => .mk4 8 2 .ro 0 0b1101
  | .GLB_HEAD_LINK_CXL => .mk4 10 1 .ro 0 0b1101
  | .GLB_HEAD_LINK_IDE_MEM => .mk4 11 1 .ro 0 0b1101
  | .GLB_HEAD_LINK_IDE_IO => .mk4 12 1 .ro 0 0b1101
  | .GLB_HEAD_LINK_REVERSED => .mk4 13 1 .ro 0 0b1101
  | .GLB_HEAD_LINK_DOWN_COUNT => .mk4 16 16 .rw 0 0b1000
  | .GLB_HEAD_LOAD_DEVLOAD => .mk4 0 2 .ro 0 0b1101
  | .GLB_HEAD_LOAD_OCC_LVL => .mk4 2 2 .ro 0 0b1101
  | .GLB_HEAD_LOAD_WB_LVL => .mk4 4 2 .ro 0 0b1101
  | .GLB_HEAD_LOAD_WEAR_LVL => .mk4 6 2 .ro 0 0b1101
  | .GLB_HEAD_LOAD_THERM_LVL => .mk4 8 2 .ro 0 0b1101
  | .GLB_HEAD_LOAD_SEVERE_WIN => .mk4 16 16 .rw 0 0b1110
  | .GLB_HEAD_OCC_IN_USE => .mk4 0 17 .ro 0 0b1101
  | .GLB_HEAD_OCC_HIGH_WATER => .mk4 32 17 .rw 0 0b1110
  | .GLB_LAT_DLA_DL_A => .mk4 0 32 .ro 0 0b1100  -- Image
  | .GLB_LAT_DLB_DL_B => .mk4 0 32 .ro 0 0b1100  -- Image
  | .GLB_LAT_DLC_DL_C => .mk4 0 32 .ro 0 0b1100  -- Image
  | .GLB_LAT_LIMIT_LIMIT => .mk4 0 14 .ro 0 0b1100  -- Image
  | .GLB_LAT_CTL_MISS_EVT_EN => .mk4 0 8 .rw 1 0b1100
  | .GLB_LAT_MISSc_COUNT => .mk4 0 32 .rw 0 0b1110
  | .GLB_LAT_ALIM_READS => .mk4 0 32 .rw 0 0b1000
  | .GLB_LAT_ALIM_OTHERS => .mk4 32 32 .rw 0 0b1000
  | .GLB_LAT_WORST_LATE_NS => .mk4 0 32 .rw 0 0b1110
  | .GLB_LAT_WORST_CAUSE => .mk4 32 4 .ro 0 0b1110
  | .GLB_WEAR_RATE_W_MBPS => .mk4 0 32 .ro 0 0b1100  -- Computed
  | .GLB_WEAR_CREDIT_CREDIT => .mk4 0 64 .ro 0 0b0000  -- Journal
  | .GLB_WEAR_STAT_LEVEL => .mk4 0 2 .ro 0 0b0000  -- Journal
  | .GLB_WEAR_STAT_CREDIT_PCT => .mk4 2 7 .ro 0 0b0000  -- Journal
  | .GLB_WEAR_STAT_DEBT => .mk4 9 1 .ro 0 0b0000  -- Journal
  | .GLB_WEAR_STAT_LIFTED => .mk4 10 1 .ro 0 0b1110
  | .IMG_STATUS_ACTIVE_SLOT => .mk4 0 2 .ro 3 0b1100
  | .IMG_STATUS_BOOT_SEL => .mk4 2 2 .ro 0 0b1000  -- Strap
  | .IMG_STATUS_FALLBACK => .mk4 4 1 .ro 0 0b1100
  | .IMG_STATUS_RECOVERY => .mk4 5 1 .ro 0 0b1100
  | .IMG_STATUS_STAGE_STATE => .mk4 8 3 .ro 0 0b1110
  | .IMG_STATUS_ROLLING => .mk4 11 1 .ro 0 0b1100
  | .IMG_STATUS_PENDING => .mk4 12 1 .ro 0 0b1000
  | .IMG_STATUS_LAST_RESULT => .mk4 16 8 .ro 0 0b1100
  | .IMG_STATUS_LAST_SECTION => .mk4 24 8 .ro 0 0b1100
  | .IMG_SEQ_ACT_SEQ => .mk4 0 32 .ro 0 0b0000  -- Boot record
  | .IMG_SECT_STATE_SECT => .mk4 0 32 .ro 0 0b1100
  | .IMG_ROLL_SLICE_DONE => .mk4 0 16 .ro 0xffff 0b1100
  | .IMG_ROLL_BAND_PCT => .mk4 16 7 .ro 0x64 0b1100
  | .IMG_SVN_ACTIVE_SVN => .mk4 0 16 .ro 0 0b1100  -- Image
  | .IMG_SVN_SVN_FLOOR => .mk4 16 16 .ro 0 0b0000  -- Fuses
  | .IMG_KEYSTAT_KEY_PROV => .mk4 0 4 .ro 0 0b0000  -- Fuses
  | .IMG_KEYSTAT_KEY_REVOKED => .mk4 4 4 .ro 0 0b0000  -- Fuses
  | .IMG_TACT_LO_T_ACT => .mk4 0 32 .ro 0 0b1100
  | .IMG_TACT_HI_T_ACT => .mk4 0 32 .ro 0 0b1100
  | .RGN_CFG_TYPE => .mk4 0 4 .ro 0 0b1100  -- Image
  | .RGN_CFG_PERSIST => .mk4 4 1 .ro 0 0b1100  -- Image
  | .RGN_CFG_SHADOW => .mk4 5 1 .ro 0 0b1100  -- Image
  | .RGN_CFG_STRICT => .mk4 6 1 .ro 0 0b1100  -- Image
  | .RGN_CFG_POOL => .mk4 7 1 .ro 0 0b1100  -- Image
  | .RGN_CFG_HEADS => .mk4 8 2 .ro 0 0b1100  -- Image
  | .RGN_CFG_LATCLASS => .mk4 10 2 .ro 0 0b1100  -- Image
  | .RGN_CFG_PLACEMENT => .mk4 12 2 .ro 0 0b1100  -- Image
  | .RGN_CFG_WAYS => .mk4 14 5 .ro 0 0b1100  -- Image
  | .RGN_CFG_ALIAS_W => .mk4 19 4 .ro 0 0b1100  -- Image
  | .RGN_CFG_ALIAS_POS => .mk4 23 6 .ro 0 0b1100  -- Image
  | .RGN_KEY_KEY_BASE => .mk4 0 12 .ro 0 0b1100  -- Image
  | .RGN_KEY_SET_ID => .mk4 16 8 .ro 0 0b1100  -- Image
  | .RGN_KEY_SHADOW_DELTA => .mk4 24 4 .ro 0 0b1100  -- Image
  | .RGN_BASE_BASE => .mk4 0 48 .ro 0 0b1100  -- Image
  | .RGN_SIZE_SIZE => .mk4 0 48 .ro 0 0b1100  -- Image
  | .RGN_SPAN_SPAN => .mk4 0 48 .ro 0 0b1100  -- Image
  | .RGN_UID_UID => .mk4 0 64 .ro 0 0b1100  -- Image
  | .RGN_STATE_STATE => .mk4 0 4 .ro 0 0b0000  -- Journal
  | .RGN_STATE_PDEG => .mk4 4 1 .ro 0 0b0000  -- Journal
  | .RGN_STATE_GEN => .mk4 16 16 .ro 0 0b0000  -- Journal
  | .RGN_EPOCH_EPOCH => .mk4 0 64 .ro 0 0b0000  -- Journal
  | .RGN_SHADOW_DELTA_PAGES => .mk4 0 22 .ro 0 0b0000  -- Journal
  | .RGN_SHADOW_SH_STATE => .mk4 22 2 .ro 0 0b0000  -- Journal
  | .RGN_SHADOW_LAST_RESULT => .mk4 24 3 .ro 0 0b1110
  | .RGN_CTL_PREFETCH_EN => .mk4 0 1 .rw 1 0b1100
  | .RGN_CTL_HOSTERR_EVT => .mk4 1 1 .rw 1 0b1100
  | .RGN_HOSTERR_COUNT => .mk4 0 32 .rw 0 0b1110
  | .SLC_STATUS_STATE => .mk4 0 4 .ro 0 0b0000  -- Journal
  | .SLC_STATUS_BYPASS => .mk4 4 1 .ro 0 0b1111
  | .SLC_STATUS_SOLO => .mk4 5 1 .ro 0 0b1111
  | .SLC_STATUS_ADOPTED => .mk4 6 1 .ro 0 0b1100
  | .SLC_STATUS_RUNAHEAD => .mk4 7 1 .ro 0 0b1111
  | .SLC_STATUS_GEN => .mk4 16 16 .ro 0 0b0000  -- Journal
  | .SLC_CTL_DRAM_SPEC_EN => .mk4 0 1 .rw 1 0b1100
  | .SLC_CTL_MEDIA_SPEC_EN => .mk4 1 1 .rw 1 0b1100
  | .SLC_CTL_RUNAHEAD_EN => .mk4 2 1 .rw 1 0b1100
  | .SLC_CTL_PF_EN => .mk4 3 1 .rw 1 0b1100
  | .SLC_CTL_SPECRD_EN => .mk4 4 1 .rw 1 0b1100
  | .SLC_TT_OCC_HOST_USE => .mk4 0 14 .ro 0 0b1111
  | .SLC_TT_OCC_INT_USE => .mk4 16 13 .ro 0 0b1111
  | .SLC_TT_OCC_HOST_HIGH => .mk4 32 14 .rw 0 0b1110
  | .SLC_WAY_DIS_WAY_DIS => .mk4 0 24 .ro 0 0b1000
  | .SLC_WAY_STAT_WAYS_ON => .mk4 0 5 .ro 0 0b1110  -- TIERPLAN
  | .SLC_WAY_STAT_CE_TOTAL => .mk4 16 16 .rw 0 0b1000
  | .SLC_BUDDY_BUDDY => .mk4 0 4 .ro 0 0b0000  -- n XOR 1
  | .SLC_BUDDY_LOG_USE => .mk4 8 14 .ro 0 0b1111
  | .SLC_BUDDY_SOLO_COUNT => .mk4 32 16 .rw 0 0b1000
  | .SLC_BUDDY_REPLAY_COUNT => .mk4 48 16 .rw 0 0b1000
  | .SLC_OFFER_ACCEPTED => .mk4 0 32 .rw 0 0b1110
  | .SLC_OFFER_DECLINED => .mk4 32 32 .rw 0 0b1110
  | .SLC_WAY_TEST_TEST => .mk4 0 24 .wo 0 0b0000
  | .SLC_WAY_TEST_TESTING => .mk4 32 24 .ro 0 0b1111
  | .MCX_SCHED_CNT0_SUSPENDS => .mk4 0 32 .rw 0 0b1110
  | .MCX_SCHED_CNT0_READAROUND => .mk4 32 32 .rw 0 0b1110
  | .MCX_SCHED_CNT1_RESCUES => .mk4 0 32 .rw 0 0b1110
  | .MCX_SCHED_CNT1_SUS_EXHAUST => .mk4 32 32 .rw 0 0b1110
  | .MCX_SCHED_OCC_PROG_NOW => .mk4 0 8 .ro 0 0b1111
  | .MCX_SCHED_OCC_SUS_NOW => .mk4 8 8 .ro 0 0b1111
  | .MCX_ECC_CNT0_CORRECTED => .mk4 0 32 .rw 0 0b1110
  | .MCX_ECC_CNT0_HIGH_CB => .mk4 32 32 .rw 0 0b1110
  | .MCX_ECC_CNT1_HARD_RETRY => .mk4 0 16 .rw 0 0b1000
  | .MCX_ECC_CNT1_SOFT => .mk4 16 16 .rw 0 0b1000
  | .MCX_ECC_CNT1_REBUILT => .mk4 32 16 .rw 0 0b1000
  | .MCX_ECC_CNT1_POISONED => .mk4 48 16 .rw 0 0b1000
  | .MCX_SB_CTL_ALERT_EN => .mk4 0 8 .rw 0xff 0b1100
  | .MCX_SB_STAT_PRESENT => .mk4 0 8 .ro 0 0b1100
  | .MCX_SB_STAT_TEMP_LOST => .mk4 8 8 .ro 0 0b1110
  | .MCX_SB_STAT_NAK => .mk4 16 16 .rw 0 0b1000
  | .MCX_SB_STAT_CRC => .mk4 32 16 .rw 0 0b1000
  | .MCX_LINKi_STAT_STATE => .mk4 0 4 .ro 0 0b0000  -- Journal
  | .MCX_LINKi_STAT_TRAIN => .mk4 4 3 .ro 0 0b1100
  | .MCX_LINKi_STAT_WIDTH2 => .mk4 7 1 .ro 0 0b1100
  | .MCX_LINKi_STAT_RATE24 => .mk4 8 1 .ro 0 0b1100
  | .MCX_LINKi_STAT_REVERSED => .mk4 9 1 .ro 0 0b1100
  | .MCX_LINKi_STAT_POLARITY => .mk4 10 2 .ro 0 0b1100
  | .MCX_LINKi_STAT_PKG => .mk4 12 6 .ro 0 0b1100  -- Image
  | .MCX_LINKi_STAT_PORT => .mk4 18 3 .ro 0 0b1100  -- Image
  | .MCX_LINKi_STAT_HOMED => .mk4 32 16 .ro 0 0b1100
  | .MCX_LINKi_STAT_GEN => .mk4 48 16 .ro 0 0b0000  -- Journal
  | .MCX_LINKi_ERR_CRC => .mk4 0 32 .rw 0 0b1000
  | .MCX_LINKi_ERR_REISSUE => .mk4 32 16 .rw 0 0b1000
  | .MCX_LINKi_ERR_RETRAINS => .mk4 48 16 .rw 0 0b1000
  | .MCX_LINKi_CTL_PRESET_FIX => .mk4 0 1 .rw 0 0b1100
  | .MCX_LINKi_CTL_PRESET => .mk4 1 3 .rw 0 0b1100
  | .DRT_STACKd_STAT_STATE => .mk4 0 4 .ro 0 0b0000  -- Journal
  | .DRT_STACKd_STAT_SELF_REFRESH => .mk4 4 1 .ro 0 0b1100
  | .DRT_STACKd_STAT_SPARED => .mk4 5 1 .ro 0 0b0000  -- Journal
  | .DRT_STACKd_STAT_GEN => .mk4 16 16 .ro 0 0b0000  -- Journal
  | .DRT_STACKd_ERR_CE => .mk4 0 32 .rw 0 0b1000
  | .DRT_STACKd_ERR_UE => .mk4 32 16 .rw 0 0b1000
  | .DRT_REMIRROR_ACTIVE => .mk4 0 1 .ro 0 0b1110
  | .DRT_REMIRROR_PCT => .mk4 1 7 .ro 0 0b1110
  | .DRT_MAP_STAT_SEGS => .mk4 0 14 .ro 0 0b1100  -- Image
  | .DRT_MAP_STAT_PART_SEGS => .mk4 16 14 .ro 0 0b1100  -- Image
  | .DRT_MAP_STAT_PAGED => .mk4 30 1 .ro 0 0b1100  -- Image
  | .DRT_MAP_STAT_A_PAGED => .mk4 31 1 .ro 0 0b1100  -- Image
  | .DRT_MAP_CACHE_HITS => .mk4 0 32 .rw 0 0b1110
  | .DRT_MAP_CACHE_MISSES => .mk4 32 32 .rw 0 0b1110
  | .DRT_BLK_STAT_READY => .mk4 0 21 .ro 0 0b0000  -- Journal
  | .DRT_BLK_STAT_FREE => .mk4 21 21 .ro 0 0b0000  -- Journal
  | .DRT_BLK_STAT_RETIRED => .mk4 42 21 .ro 0 0b0000  -- Journal
  | .DRT_GATHER_FOOT => .mk4 0 16 .ro 0 0b0000  -- Journal
  | .DRT_GATHER_FLOOR => .mk4 16 16 .ro 0 0b1100  -- Image
  | .DRT_GATHER_USED_PCT => .mk4 32 7 .ro 0 0b0000  -- Journal
  | .DRT_CULLET_ACTIVE => .mk4 0 1 .ro 0 0b1110
  | .DRT_CULLET_URGENT => .mk4 1 1 .ro 0 0b1110
  | .DRT_CULLET_REBUILD => .mk4 2 1 .ro 0 0b0000  -- Journal
  | .DRT_CULLET_PKG => .mk4 3 6 .ro 0 0b0000  -- Journal
  | .DRT_CULLET_PCT => .mk4 9 7 .ro 0 0b0000  -- Journal
  | .DRT_CULLET_CNT_PAGES => .mk4 0 32 .rw 0 0b1000
  | .DRT_CULLET_CNT_ABANDONED => .mk4 32 16 .rw 0 0b1000
  | .DRT_CULLET_CNT_TGT_RETIRED => .mk4 48 16 .rw 0 0b1000
  | .DRT_PDEG_ACTIVE => .mk4 0 1 .ro 0 0b0000  -- Journal
  | .DRT_PDEG_CAUSE => .mk4 1 4 .ro 0 0b0000  -- Journal
  | .DRT_PDEG_UNPERS_GIB => .mk4 16 16 .ro 0 0b1100
  | .DRT_PDEG_LOST => .mk4 32 32 .rw 0 0b1000
  | .DRT_STREAMs_OPEN => .mk4 0 7 .ro 0 0b1110
  | .DRT_STREAMs_ROWS => .mk4 32 32 .rw 0 0b1000
  | .DRT_LEHR_CTL_TARGET => .mk4 0 10 .rw 0x1e0 0b1100 (some (240, 600))
  | .DRT_LEHR_CTL_SCAN_DAYS => .mk4 10 5 .rw 7 0b1100 (some (1, 30))
  | .DRT_LEHR_CTL_SCAN_EN => .mk4 15 1 .rw 1 0b1100
  | .DRT_LEHR_STAT_MAX_DOSE => .mk4 0 16 .ro 0 0b0000  -- Journal
  | .DRT_LEHR_STAT_DUE => .mk4 16 16 .ro 0 0b0000  -- Journal
  | .DRT_LEHR_STAT_URGENT => .mk4 32 1 .ro 0 0b1110
  | .DRT_LEHR_STAT_OVERDUE => .mk4 33 1 .ro 0 0b1110
  | .DRT_LEHR_CNT_PAGES => .mk4 0 32 .rw 0 0b1000
  | .DRT_LEHR_CNT_RD_BANDS => .mk4 32 16 .rw 0 0b1000
  | .DRT_LEHR_CNT_URG_BANDS => .mk4 48 16 .rw 0 0b1000
  | .DRT_SCAN_PASS_PCT => .mk4 0 7 .ro 0 0b1110
  | .DRT_SCAN_PASSES => .mk4 32 32 .rw 0 0b1000
  | .DRT_TWIN_DENSE_CLOSED => .mk4 0 1 .ro 0 0b1110
  | .DRT_TWIN_FAST_CLOSED => .mk4 1 1 .ro 0 0b1110
  | .DRT_TWIN_STAGING => .mk4 2 1 .ro 0 0b1110
  | .DRT_TWIN_CLOSED_PKGS => .mk4 3 7 .ro 0 0b1110
  | .DRT_TWIN_STAGED_GIB => .mk4 32 16 .ro 0 0b0000  -- Journal
  | .DRT_HEALTH_LIFE_USED => .mk4 0 7 .ro 0 0b0000  -- Journal
  | .DRT_HEALTH_SPARE_PCT => .mk4 7 7 .ro 0 0b0000  -- Journal
  | .DRT_HEALTH_SPARE_WARN => .mk4 14 1 .ro 0 0b0000  -- Journal
  | .DRT_HEALTH_SPARE_CRIT => .mk4 15 1 .ro 0 0b0000  -- Journal
  | .QEN_CTL_SPILL_POOL => .mk4 0 7 .rw 0x4b 0b1100 (some (50, 95))
  | .QEN_CTL_STRAY_EVT => .mk4 7 1 .rw 0 0b1100
  | .QEN_CTL_DROP_EVT => .mk4 8 1 .rw 0 0b1100
  | .QEN_POOL_USED => .mk4 0 29 .ro 0 0b1100
  | .QEN_POOL_TOTAL => .mk4 32 29 .ro 0 0b1100  -- Image
  | .QEN_SPILL_PAGES => .mk4 0 32 .ro 0 0b1100
  | .QEN_SPILL_WRITTEN => .mk4 32 32 .rw 0 0b1000
  | .QEN_OPEN_NOW => .mk4 0 16 .ro 0 0b1100
  | .QEN_OPEN_HIGH => .mk4 16 16 .rw 0 0b1110
  | .QEN_MISC_STRAY => .mk4 0 32 .rw 0 0b1110
  | .QEN_MISC_BAD_LENGTH => .mk4 32 16 .rw 0 0b1110
  | .QEN_MISC_BAD_DOORBELL => .mk4 48 8 .rw 0 0b1110
  | .QEN_MISC_STALE_REL => .mk4 56 8 .rw 0 0b1110
  | .QEN_PTR_REPAIRED => .mk4 0 16 .rw 0 0b1000
  | .QEN_PTR_PTR_RESETS => .mk4 16 16 .rw 0 0b1000
  | .QEN_TIMEOUT_COUNT => .mk4 0 32 .rw 0 0b1100
  | .QEN_DROPr_COUNT => .mk4 0 64 .rw 0 0b1000
  | .QEN_GRPg_STATE => .mk4 0 4 .ro 0 0b0000  -- Journal
  | .QEN_GRPg_HOME => .mk4 4 2 .ro 0 0b1100  -- Image
  | .QEN_GRPg_REHOMED => .mk4 6 1 .ro 0 0b1100
  | .QEN_GRPg_PERSIST => .mk4 7 1 .ro 0 0b1100  -- Image
  | .QEN_GRPg_SET => .mk4 8 8 .ro 0 0b1100  -- Image
  | .QEN_GRPg_GEN => .mk4 16 16 .ro 0 0b0000  -- Journal
  | .QEN_STRANDw_STRANDED => .mk4 0 32 .w1c 0 0b1100
  | .TAL_CTL_FOLD_NS => .mk4 0 15 .rw 0x7d0 0b1100 (some (200, 20000))
  | .TAL_CTL_BAD_EVT => .mk4 15 1 .rw 0 0b1100
  | .TAL_CTL_SKIP_EVT => .mk4 16 1 .rw 1 0b1100
  | .TAL_CACHE_USED => .mk4 0 19 .ro 0 0b1100
  | .TAL_CACHE_REPAIRED => .mk4 32 16 .rw 0 0b1000
  | .TAL_CACHE_LOST => .mk4 48 16 .rw 0 0b1000
  | .TAL_CNT_RECORDS => .mk4 0 64 .rw 0 0b1110
  | .TAL_BAD_OUT_OF_SET => .mk4 0 16 .rw 0 0b1110
  | .TAL_BAD_BAD_OP => .mk4 16 16 .rw 0 0b1110
  | .TAL_BAD_KEY => .mk4 32 16 .rw 0 0b1110
  | .TAL_BAD_ON_POISON => .mk4 48 16 .rw 0 0b1110
  | .TAL_SETs_STAT_INEXACT => .mk4 0 1 .w1c 0 0b0000  -- Journal
  | .TAL_SETs_STAT_COPYING => .mk4 1 1 .ro 0 0b1100
  | .TAL_SETs_STAT_LAST_BANK => .mk4 2 1 .ro 0 0b0000  -- Journal
  | .TAL_SETs_STAT_AUTO => .mk4 3 1 .ro 0 0b1100  -- Image
  | .TAL_SETs_STAT_SKIPPED => .mk4 16 16 .rw 0 0b1000
  | .TAL_SETs_STAT_LOST => .mk4 32 32 .rw 0 0b0000  -- Journal
  | .TAL_SETs_EPOCH_EPOCH => .mk4 0 64 .ro 0 0b1100  -- Computed
  | .TAL_SETs_SNAPID_SNAP_ID => .mk4 0 64 .ro 0 0b0000  -- Journal
  | .CRY_CTL_LOCKDOWN => .mk4 0 1 .w1s 0 0b1000
  | .CRY_CTL_MAC_EVT => .mk4 1 1 .rw 1 0b1100
  | .CRY_STATUS_LOCKED => .mk4 0 1 .ro 0 0b1000
  | .CRY_STATUS_LOCK_CAUSE => .mk4 1 2 .ro 0 0b1000
  | .CRY_STATUS_DEBUG_AUTH => .mk4 3 1 .ro 0 0b1000
  | .CRY_STATUS_OWNER_SET => .mk4 4 1 .ro 0 0b0000  -- Journal
  | .CRY_STATUS_ACTIVE => .mk4 8 13 .ro 0 0b0000  -- Journal
  | .CRY_STATUS_SWEEPS => .mk4 21 3 .ro 0 0b0000  -- Journal
  | .CRY_ERR0_MAC_FAIL => .mk4 0 32 .rw 0 0b1110
  | .CRY_ERR0_SECOND_KEY => .mk4 32 32 .rw 0 0b1110
  | .CRY_ERR1_PTL_POISON => .mk4 0 32 .rw 0 0b1000
  | .CRY_ERR1_UNWRAP => .mk4 32 16 .rw 0 0b1000
  | .CRY_MINOR_MAJORS => .mk4 0 64 .rw 0 0b1000
  | .CRY_RHs_STAT_STATE => .mk4 0 2 .ro 0 0b0000  -- Journal
  | .CRY_RHs_STAT_REGION => .mk4 2 6 .ro 0 0b0000  -- Journal
  | .CRY_RHs_STAT_KEY => .mk4 8 12 .ro 0 0b0000  -- Journal
  | .CRY_RHs_STAT_NEW_SLOT => .mk4 20 12 .ro 0 0b0000  -- Journal
  | .CRY_RHs_BOUND_D => .mk4 0 48 .ro 0 0b0000  -- Journal
  | .CRY_RHs_LIMIT_LIMIT => .mk4 0 48 .ro 0 0b0000  -- Journal
  | .CRY_RHs_CNT_PAGES => .mk4 0 32 .ro 0 0b0000  -- Journal
  | .CRY_RHs_CNT_ABANDONS => .mk4 32 32 .rw 0 0b1110
  | .CRY_SLOTn_STATE => .mk4 0 2 .ro 0 0b0000  -- Journal
  | .CRY_SLOTn_KIND => .mk4 2 2 .ro 0 0b1100  -- Image
  | .CRY_SLOTn_OWNER => .mk4 4 6 .ro 0 0b1100  -- Image
  | .CRY_SLOTn_SWEEP => .mk4 10 2 .ro 0 0b0000  -- Journal
  | .CRY_SLOTn_GEN => .mk4 16 16 .ro 0 0b0000  -- Journal
  | .ORC_STATUS_REGRAFT => .mk4 0 1 .ro 0 0b0000  -- Journal
  | .ORC_STATUS_REBASED => .mk4 1 1 .ro 0 0b0000  -- Journal
  | .ORC_STATUS_ORPHANS => .mk4 16 16 .ro 0 0b0000  -- Journal
  | .ORC_CACHE_HITS => .mk4 0 32 .rw 0 0b1110
  | .ORC_CACHE_FETCHES => .mk4 32 32 .rw 0 0b1110
  | .ORC_COPY_REPAIRED => .mk4 0 32 .rw 0 0b1000
  | .ORC_COPY_BOTH_LOST => .mk4 32 32 .rw 0 0b1000
  | .ORC_UNVER_LINES => .mk4 0 64 .rw 0 0b1000
  | .ORC_GRAFT_GRAFT => .mk4 0 55 .ro 0 0b0000  -- Journal
  | .JRN_STATUS_QSTATE => .mk4 0 4 .ro 0 0b1100
  | .JRN_STATUS_TRIGGER => .mk4 4 4 .ro 0 0b1000
  | .JRN_STATUS_HOLDUP_OK => .mk4 8 1 .ro 0 0b1110
  | .JRN_STATUS_THROUGH_ALL => .mk4 9 1 .ro 1 0b1110
  | .JRN_STATUS_BUDGET_FULL => .mk4 10 1 .ro 0 0b1110
  | .JRN_STATUS_LAST_SEALED => .mk4 11 1 .ro 0 0b0000  -- Journal
  | .JRN_STATUS_RETAINED => .mk4 12 1 .ro 0 0b0000  -- Journal
  | .JRN_STATUS_EXTRA_TRIG => .mk4 16 16 .rw 0 0b1000
  | .JRN_BUDGET_EFFECTIVE => .mk4 0 16 .ro 0 0b1110
  | .JRN_BUDGET_IMAGE => .mk4 16 16 .ro 0 0b1100  -- Image
  | .JRN_BUDGET_ENERGY => .mk4 32 16 .ro 0 0b1110
  | .JRN_BUDGET_GATHER => .mk4 48 16 .ro 0 0b1110
  | .JRN_DIRTY_UNCOVERED => .mk4 0 32 .ro 0 0b1100
  | .JRN_DIRTY_COVERED => .mk4 32 32 .ro 0 0b1100
  | .JRN_HOLDUP_V_BANK => .mk4 0 16 .ro 0 0b1110
  | .JRN_HOLDUP_E_AVAIL => .mk4 16 16 .ro 0 0b1110
  | .JRN_HOLDUP_C_EFF_PCT => .mk4 32 7 .ro 0 0b0000  -- Journal
  | .JRN_HOLDUP_C_MEASURED => .mk4 39 1 .ro 0 0b0000  -- Journal
  | .JRN_HOLDUP_ROUNDS => .mk4 40 7 .ro 0 0b1110
  | .JRN_CTL_FLUSH_US => .mk4 0 10 .rw 0x64 0b1100 (some (20, 1000))
  | .JRN_CTL_HOLDUP_EVT => .mk4 10 1 .rw 1 0b1100
  | .JRN_QLAST_T_Q => .mk4 0 64 .ro 0 0b0000  -- Journal
  | .JRN_QDUR_TO_SEAL_US => .mk4 0 20 .ro 0 0b0000  -- Journal
  | .JRN_QDUR_DRAIN_US => .mk4 20 12 .ro 0 0b0000  -- Journal
  | .JRN_QDUR_PAGES => .mk4 32 32 .ro 0 0b0000  -- Journal
  | .JRN_DSC_DIRTY_SHUTDOWN => .mk4 0 32 .ro 0 0b0000  -- Journal
  | .JRN_DSC_QUENCHES => .mk4 32 32 .ro 0 0b0000  -- Journal
  | .JRN_THRU_LINES => .mk4 0 32 .rw 0 0b1110
  | .JRN_THRU_SHEET_FAIL => .mk4 32 16 .rw 0 0b1000
  | .JRN_FILL_PART_PCT => .mk4 0 7 .ro 0 0b1110
  | .JRN_FILL_GATHER_PCT => .mk4 7 7 .ro 0 0b1110
  | .UST_CTL_STALE_EVT => .mk4 0 1 .rw 1 0b1100
  | .UST_SEQ_SEQ => .mk4 0 64 .ro 0 0b0000  -- Journal
  | .UST_FAULT_RECOVERED => .mk4 0 24 .ro 0 0b0000  -- Journal
  | .UST_FAULT_OVER_BUDGET => .mk4 24 16 .ro 0 0b0000  -- Journal
  | .UST_FAULT_DOUBLE => .mk4 40 16 .ro 0 0b0000  -- Journal
  | .UST_FAULT_FATAL => .mk4 56 8 .ro 0 0b0000  -- Journal
  | .UST_STALE_STALE => .mk4 0 32 .rw 0 0b1110
  | .UST_STALE_BUSY => .mk4 32 32 .rw 0 0b1110
  | .UST_DIGEST_SNAP_ID => .mk4 0 48 .ro 0 0b1100
  | .UST_DIGEST_CAPTURING => .mk4 48 1 .ro 0 0b1110
  | .UST_STATEn_STATE => .mk4 0 4 .ro 0 0b0000  -- Journal
  | .UST_STATEn_CAUSE => .mk4 4 4 .ro 0 0b0000  -- Journal
  | .UST_STATEn_HW => .mk4 8 1 .ro 0 0b0000  -- Journal
  | .UST_STATEn_RECOVERY => .mk4 9 1 .ro 0 0b1110
  | .UST_STATEn_GEN => .mk4 16 16 .ro 0 0b0000  -- Journal
  | .PWR_STEP_STEP => .mk4 0 4 .ro 1 0b1000
  | .PWR_STEP_NOTIER => .mk4 4 1 .ro 0 0b1000
  | .PWR_STEP_RECOVERY => .mk4 5 1 .ro 0 0b1100
  | .PWR_STEP_HALTED => .mk4 6 1 .ro 0 0b1000
  | .PWR_STEP_SQ_WAIT => .mk4 7 1 .ro 0 0b1000
  | .PWR_STEP_STEP_MS => .mk4 16 16 .ro 0 0b1000
  | .PWR_SQ_CTL_TARGET => .mk4 0 4 .rw 5 0b1000
  | .PWR_SQ_CTL_LEAVE => .mk4 4 1 .w1s 0 0b1000
  | .PWR_SQ_CTL_ALERT_EN => .mk4 5 1 .rw 1 0b1100
  | .PWR_SQ_STAT_ROLE => .mk4 0 1 .ro 0 0b1000  -- Strap
  | .PWR_SQ_STAT_PART => .mk4 1 1 .ro 1 0b1000
  | .PWR_SQ_STAT_LINE => .mk4 2 1 .ro 0 0b0000  -- —
  | .PWR_SQ_STAT_HOLDING => .mk4 3 1 .ro 1 0b1000
  | .PWR_SQ_STAT_RX_TARGET => .mk4 4 4 .ro 1 0b1000
  | .PWR_SQ_STAT_UP_TIMEOUTS => .mk4 16 16 .rw 0 0b1000
  | .PWR_SQ_STAT_DOWN_TIMEOUTS => .mk4 32 16 .rw 0 0b1000
  | .PWR_SQ_STAT_CRC_ERR => .mk4 48 16 .rw 0 0b1000
  | .PWR_PD_ON => .mk4 0 32 .ro 0 0b1000
  | .PWR_PD_FAULT_OFF => .mk4 32 32 .ro 0 0b1000
  | .PWR_MPG_MPEN => .mk4 0 8 .ro 0 0b1000
  | .PWR_MPG_MPGOOD => .mk4 8 8 .ro 0 0b1000
  | .PWR_MPG_LATCH => .mk4 16 8 .w1c 0 0b0000  -- Journal
  | .PWR_SUPPLY_VIN12_MV => .mk4 0 16 .ro 0 0b1000
  | .PWR_SUPPLY_VAUX3_MV => .mk4 16 16 .ro 0 0b1000
  | .PWR_SUPPLY_VIN_GOOD => .mk4 32 1 .ro 0 0b1000
  | .PWR_SUPPLY_VAUX_GOOD => .mk4 33 1 .ro 0 0b1000
  | .PWR_SUPPLY_AON_FROM_VIN => .mk4 34 1 .ro 0 0b1000
  | .PWR_RAILr_STAT_MV => .mk4 0 16 .ro 0 0b1000
  | .PWR_RAILr_STAT_CURRENT => .mk4 16 16 .ro 0 0b1000
  | .PWR_RAILr_STAT_STATE => .mk4 32 3 .ro 0 0b1000
  | .PWR_RAILr_STAT_PHASES_LOST => .mk4 35 4 .ro 0 0b1000
  | .PWR_RAILr_CNT_UV => .mk4 0 8 .rw 0 0b0000  -- Journal
  | .PWR_RAILr_CNT_OV => .mk4 8 8 .rw 0 0b0000  -- Journal
  | .PWR_RAILr_CNT_OC => .mk4 16 8 .rw 0 0b0000  -- Journal
  | .PWR_RAILr_CNT_RISE_FAIL => .mk4 24 8 .rw 0 0b0000  -- Journal
  | .PWR_RAILr_CNT_COLLAPSE => .mk4 32 8 .rw 0 0b0000  -- Journal
  | .PWR_RAILr_CNT_DISCH => .mk4 40 8 .rw 0 0b0000  -- Journal
  | .PWR_RAILr_CNT_RAMP_US => .mk4 48 16 .ro 0 0b0000  -- Journal
  | .PWR_RAILr_CYC_CYCLES => .mk4 0 32 .ro 0 0b0000  -- Journal
  | .PWR_RAILr_CYC_PHASE_LOSS => .mk4 32 16 .rw 0 0b0000  -- Journal
  | .PWR_MPGg_CNT_FALLS => .mk4 0 16 .rw 0 0b0000  -- Journal
  | .PWR_MPGg_CNT_GLITCH => .mk4 16 16 .rw 0 0b0000  -- Journal
  | .PWR_MPGg_CNT_RISE_FAIL => .mk4 32 8 .rw 0 0b0000  -- Journal
  | .PWR_MPGg_CNT_LATCHES => .mk4 40 8 .rw 0 0b0000  -- Journal
  | .PWR_MPGg_CNT_CYCLES => .mk4 48 16 .ro 0 0b0000  -- Journal
  | .RST_CAUSE_POR => .mk4 0 1 .w1c 1 0b1000
  | .RST_CAUSE_SEQ => .mk4 1 1 .w1c 0 0b1000
  | .RST_CAUSE_RESET_N => .mk4 2 1 .w1c 0 0b1000
  | .RST_CAUSE_FATAL => .mk4 3 1 .w1c 0 0b1000
  | .RST_CAUSE_CMD_SYS => .mk4 4 1 .w1c 0 0b1000
  | .RST_CAUSE_WDT => .mk4 5 1 .w1c 0 0b1000
  | .RST_CAUSE_CMD_CORE => .mk4 6 1 .w1c 0 0b1000
  | .RST_CAUSE_LAST_LEVEL => .mk4 8 3 .ro 0 0b1000
  | .RST_CAUSE_LAST_SRC => .mk4 11 4 .ro 0 0b1000
  | .RST_COUNT_SYSTEM => .mk4 0 16 .rw 0 0b1000
  | .RST_COUNT_CORE => .mk4 16 16 .rw 0 0b1000
  | .RST_COUNT_RESET_N => .mk4 32 16 .rw 0 0b1000
  | .RST_COUNT_UNIT => .mk4 48 16 .rw 0 0b1000
  | .RST_HS_TMO_US => .mk4 0 7 .rw 0x14 0b1100 (some (5, 100))
  | .RST_HS_TIMEOUTS => .mk4 16 16 .rw 0 0b1000
  | .RST_WDT_PERIOD_MS => .mk4 0 14 .rw 0x3e8 0b1100 (some (10, 10000))
  | .RST_WDT_KICK => .mk4 14 1 .wo 0 0b0000
  | .RST_WDT_RUNNING => .mk4 15 1 .ro 0 0b1110
  | .CLK_SRC_SEL_PLL_REF => .mk4 0 12 .rw 0 0b1000  -- Boot plan
  | .CLK_SRC_SEL_WCLK_SOSC => .mk4 12 1 .rw 0 0b1000
  | .CLK_SRC_READY_SRC => .mk4 0 5 .ro 0 0b1000
  | .CLK_SRC_READY_LOCK => .mk4 8 6 .ro 0 0b1000
  | .CLK_STATUS_LAST => .mk4 0 2 .ro 0 0b1000
  | .CLK_STATUS_SWITCHING => .mk4 2 1 .ro 0 0b1000
  | .CLK_STATUS_TB_COARSE => .mk4 3 1 .ro 0 0b1000
  | .CLK_STATUS_FALLBACK => .mk4 4 6 .w1c 0 0b1000
  | .CLK_STATUS_RELOCKS => .mk4 16 16 .rw 0 0b1000
  | .CLK_TB_LO_TB_LO => .mk4 0 32 .ro 0 0b1000  -- Restored
  | .CLK_TB_HI_TB_HI => .mk4 0 32 .ro 0 0b1000  -- Restored
  | .THM_STATUS_MAX_N => .mk4 0 8 .ro 0 0b1000
  | .THM_STATUS_MAX_C => .mk4 8 8 .ro 0 0b1000
  | .THM_STATUS_THERM => .mk4 16 1 .ro 0 0b1000
  | .THM_STATUS_FAST => .mk4 17 1 .ro 0 0b1000
  | .THM_STATUS_CRIT => .mk4 32 32 .rw 0 0b1000
  | .THM_THROT_DEVICE => .mk4 0 10 .ro 0 0b1100
  | .THM_THROT_SLICES => .mk4 16 16 .ro 0 0b1100
  | .THM_THROT_COMPLEXES => .mk4 32 8 .ro 0 0b1100
  | .THM_EXT_LOW => .mk4 0 1 .ro 0 0b1000
  | .THM_EXT_ACTIVE => .mk4 1 1 .ro 0 0b1000
  | .THM_EXT_STUCK => .mk4 2 1 .ro 0 0b1000
  | .THM_EXT_GLITCH => .mk4 16 16 .rw 0 0b1000
  | .THM_SENSn_TEMP => .mk4 0 16 .ro 0 0b1000
  | .THM_SENSn_VALID => .mk4 16 1 .ro 0 0b1000
  | .THM_SENSn_FAILED => .mk4 17 1 .ro 0 0b1000
  | .THM_SENSn_FRAC => .mk4 18 10 .ro 0 0b1100
  | .EVT_STATUSw_STATUS => .mk4 0 32 .w1c 0 0b1100
  | .EVT_CTL_RATE => .mk4 0 8 .rw 0 0b1100 (some (1, 255))  -- Image
  | .EVT_CTL_MCTP_EID => .mk4 8 8 .rw 0 0b1100  -- Image
  | .EVT_DROP_RATE => .mk4 0 32 .rw 0 0b1000
  | .EVT_DROP_MCTP => .mk4 32 32 .rw 0 0b1000
  | .EVT_CFGn_EN => .mk4 0 1 .rw 0 0b1100  -- Image
  | .EVT_CFGn_SEV => .mk4 1 2 .rw 0 0b1100  -- Image
  | .EVT_CFGn_ROUTE => .mk4 3 4 .rw 0 0b1100  -- Image
  | .EVT_CFGn_VECTOR => .mk4 7 8 .rw 0 0b1100  -- Image
  | .EVT_CFGn_DEF_SEV => .mk4 15 2 .ro 0 0b0000  -- Fixed
  | .EVT_CFGn_COUNT => .mk4 32 16 .rw 0 0b1100
  | .EVT_LASTn_RECORD => .mk4 0 512 .ro 0 0b1100
  | .PMC_CTRn_COUNT => .mk4 0 48 .rw 0 0b1100
  | .PMC_CFGn_EVENT => .mk4 0 12 .rw 0 0b1100  -- Preset
  | .PMC_CFGn_UNIT => .mk4 12 8 .rw 0 0b1100  -- Preset
  | .PMC_CFGn_CLASS => .mk4 20 2 .rw 0 0b1100  -- Preset
  | .PMC_CFGn_ENABLE => .mk4 22 1 .rw 0 0b1100  -- Preset
  | .PMC_CFGn_CHAIN => .mk4 23 1 .rw 0 0b1100  -- Preset
  | .PMC_CFGn_OVF_EVT => .mk4 24 1 .rw 0 0b1100  -- Preset
  | .PMC_CFGn_SAMPLE => .mk4 25 1 .rw 0 0b1100  -- Preset
  | .PMC_GRPg_CTL_RUN => .mk4 0 1 .rw 0 0b1100  -- Preset
  | .PMC_GRPg_CTL_CLEAR_ON_SNAP => .mk4 1 1 .rw 0 0b1100  -- Preset
  | .PMC_GRPg_CTL_INTERVAL_US => .mk4 32 24 .rw 0 0b1100 (some (0, 10000000))  -- Preset
  | .PMC_GRPg_CTL_SNAP_SEQ => .mk4 56 8 .ro 0 0b1100
  | .PMC_SNAPn_COUNT => .mk4 0 48 .ro 0 0b1100
  | .PMC_SAMP_CTL_PERIOD => .mk4 0 48 .rw 0x100000 0b1100
  | .PMC_SAMP_STAT_WPTR => .mk4 0 8 .ro 0 0b1100
  | .PMC_SAMP_STAT_RPTR => .mk4 8 8 .rw 0 0b1100
  | .PMC_SAMP_STAT_LOST => .mk4 16 16 .rw 0 0b1100
  | .PMC_SAMPi_RECORD => .mk4 0 256 .ro 0 0b1100
  | .MGT_STATUS_SLOT => .mk4 0 1 .ro 0 0b0000  -- Boot record
  | .MGT_STATUS_READY => .mk4 1 1 .ro 0 0b1110
  | .MGT_STATUS_FALLBACK => .mk4 2 1 .ro 0 0b0000  -- Boot record
  | .MGT_STATUS_ACTIVATING => .mk4 3 1 .ro 0 0b1110
  | .MGT_STATUS_FW_SVN => .mk4 16 16 .ro 0 0b1110  -- Firmware
  | .MGT_CMD_EXECUTED => .mk4 0 32 .rw 0 0b1110
  | .MGT_CMD_REFUSED => .mk4 32 32 .rw 0 0b1110
  | .DBG_STATUS_UNLOCKED => .mk4 0 1 .ro 0 0b1000
  | .DBG_STATUS_TRIES_LEFT => .mk4 1 4 .ro 0 0b1000  -- UNLOCK_TRIES
  | .DBG_MA_ADDR_DPA => .mk4 0 48 .rw 0 0b1000
  | .DBG_MA_CTL_GO => .mk4 0 1 .wo 0 0b0000
  | .DBG_MA_CTL_WRITE => .mk4 1 1 .rw 0 0b1000
  | .DBG_MA_CTL_BUSY => .mk4 2 1 .ro 0 0b1000
  | .DBG_MA_CTL_RESULT => .mk4 3 3 .ro 0 0b1000
  | .DBG_MA_DATA_LINE => .mk4 0 512 .rw 0 0b1000

/-- The number of a field, in the order of the list. -/
def Fld.num (f : Fld) : Nat := f.ctorIdx

/-- A register: byte address of its first instance, bytes, how instances repeat (outer × inner), and its fields. -/
structure RegInfo where
  base : Nat
  bytes : Nat
  outer : Nat
  outerCount : Nat
  inner : Nat
  innerCount : Nat
  fields : List Fld
  deriving DecidableEq, Repr

/-- The registers of the GLB block. -/
def regsGlb : List RegInfo := [
  ⟨0x0, 4, 0x0, 1, 0x0, 1, [.GLB_ID_DEVICE, .GLB_ID_STEPPING, .GLB_ID_PART, .GLB_ID_HEADMODE]⟩,
  ⟨0x8, 8, 0x0, 1, 0x0, 1, [.GLB_SERIAL_SERIAL]⟩,
  ⟨0x10, 4, 0x0, 1, 0x0, 1, [.GLB_STATUS_MEM_ACTIVE, .GLB_STATUS_NOTIER, .GLB_STATUS_PDEG, .GLB_STATUS_LOCKED, .GLB_STATUS_STACKS, .GLB_STATUS_PKGS]⟩,
  ⟨0x1000, 4, 0x0, 1, 0x100, 2, [.GLB_HEAD_LINK_RATE, .GLB_HEAD_LINK_WIDTH, .GLB_HEAD_LINK_FLIT, .GLB_HEAD_LINK_CXL, .GLB_HEAD_LINK_IDE_MEM, .GLB_HEAD_LINK_IDE_IO, .GLB_HEAD_LINK_REVERSED, .GLB_HEAD_LINK_DOWN_COUNT]⟩,
  ⟨0x1008, 4, 0x0, 1, 0x100, 2, [.GLB_HEAD_LOAD_DEVLOAD, .GLB_HEAD_LOAD_OCC_LVL, .GLB_HEAD_LOAD_WB_LVL, .GLB_HEAD_LOAD_WEAR_LVL, .GLB_HEAD_LOAD_THERM_LVL, .GLB_HEAD_LOAD_SEVERE_WIN]⟩,
  ⟨0x1010, 8, 0x0, 1, 0x100, 2, [.GLB_HEAD_OCC_IN_USE, .GLB_HEAD_OCC_HIGH_WATER]⟩,
  ⟨0x2000, 4, 0x0, 1, 0x0, 1, [.GLB_LAT_DLA_DL_A]⟩,
  ⟨0x2004, 4, 0x0, 1, 0x0, 1, [.GLB_LAT_DLB_DL_B]⟩,
  ⟨0x2008, 4, 0x0, 1, 0x0, 1, [.GLB_LAT_DLC_DL_C]⟩,
  ⟨0x200c, 4, 0x0, 1, 0x0, 1, [.GLB_LAT_LIMIT_LIMIT]⟩,
  ⟨0x2010, 4, 0x0, 1, 0x0, 1, [.GLB_LAT_CTL_MISS_EVT_EN]⟩,
  ⟨0x2020, 4, 0x0, 1, 0x4, 8, [.GLB_LAT_MISSc_COUNT]⟩,
  ⟨0x2040, 8, 0x0, 1, 0x0, 1, [.GLB_LAT_ALIM_READS, .GLB_LAT_ALIM_OTHERS]⟩,
  ⟨0x2048, 8, 0x0, 1, 0x0, 1, [.GLB_LAT_WORST_LATE_NS, .GLB_LAT_WORST_CAUSE]⟩,
  ⟨0x2060, 4, 0x0, 1, 0x0, 1, [.GLB_WEAR_RATE_W_MBPS]⟩,
  ⟨0x2068, 8, 0x0, 1, 0x0, 1, [.GLB_WEAR_CREDIT_CREDIT]⟩,
  ⟨0x2070, 4, 0x0, 1, 0x0, 1, [.GLB_WEAR_STAT_LEVEL, .GLB_WEAR_STAT_CREDIT_PCT, .GLB_WEAR_STAT_DEBT, .GLB_WEAR_STAT_LIFTED]⟩]

/-- The registers of the IMG block. -/
def regsImg : List RegInfo := [
  ⟨0x100000, 4, 0x0, 1, 0x0, 1, [.IMG_STATUS_ACTIVE_SLOT, .IMG_STATUS_BOOT_SEL, .IMG_STATUS_FALLBACK, .IMG_STATUS_RECOVERY, .IMG_STATUS_STAGE_STATE, .IMG_STATUS_ROLLING, .IMG_STATUS_PENDING, .IMG_STATUS_LAST_RESULT, .IMG_STATUS_LAST_SECTION]⟩,
  ⟨0x100008, 4, 0x0, 1, 0x0, 1, [.IMG_SEQ_ACT_SEQ]⟩,
  ⟨0x100010, 4, 0x0, 1, 0x0, 1, [.IMG_SECT_STATE_SECT]⟩,
  ⟨0x100018, 4, 0x0, 1, 0x0, 1, [.IMG_ROLL_SLICE_DONE, .IMG_ROLL_BAND_PCT]⟩,
  ⟨0x100020, 4, 0x0, 1, 0x0, 1, [.IMG_SVN_ACTIVE_SVN, .IMG_SVN_SVN_FLOOR]⟩,
  ⟨0x100028, 4, 0x0, 1, 0x0, 1, [.IMG_KEYSTAT_KEY_PROV, .IMG_KEYSTAT_KEY_REVOKED]⟩,
  ⟨0x100030, 4, 0x0, 1, 0x0, 1, [.IMG_TACT_LO_T_ACT]⟩,
  ⟨0x100034, 4, 0x0, 1, 0x0, 1, [.IMG_TACT_HI_T_ACT]⟩]

/-- The registers of the RGN block. -/
def regsRgn : List RegInfo := [
  ⟨0x200000, 4, 0x0, 1, 0x100, 64, [.RGN_CFG_TYPE, .RGN_CFG_PERSIST, .RGN_CFG_SHADOW, .RGN_CFG_STRICT, .RGN_CFG_POOL, .RGN_CFG_HEADS, .RGN_CFG_LATCLASS, .RGN_CFG_PLACEMENT, .RGN_CFG_WAYS, .RGN_CFG_ALIAS_W, .RGN_CFG_ALIAS_POS]⟩,
  ⟨0x200004, 4, 0x0, 1, 0x100, 64, [.RGN_KEY_KEY_BASE, .RGN_KEY_SET_ID, .RGN_KEY_SHADOW_DELTA]⟩,
  ⟨0x200008, 8, 0x0, 1, 0x100, 64, [.RGN_BASE_BASE]⟩,
  ⟨0x200010, 8, 0x0, 1, 0x100, 64, [.RGN_SIZE_SIZE]⟩,
  ⟨0x200018, 8, 0x0, 1, 0x100, 64, [.RGN_SPAN_SPAN]⟩,
  ⟨0x200020, 8, 0x0, 1, 0x100, 64, [.RGN_UID_UID]⟩,
  ⟨0x200028, 4, 0x0, 1, 0x100, 64, [.RGN_STATE_STATE, .RGN_STATE_PDEG, .RGN_STATE_GEN]⟩,
  ⟨0x200030, 8, 0x0, 1, 0x100, 64, [.RGN_EPOCH_EPOCH]⟩,
  ⟨0x200038, 4, 0x0, 1, 0x100, 64, [.RGN_SHADOW_DELTA_PAGES, .RGN_SHADOW_SH_STATE, .RGN_SHADOW_LAST_RESULT]⟩,
  ⟨0x200040, 4, 0x0, 1, 0x100, 64, [.RGN_CTL_PREFETCH_EN, .RGN_CTL_HOSTERR_EVT]⟩,
  ⟨0x200044, 4, 0x0, 1, 0x100, 64, [.RGN_HOSTERR_COUNT]⟩]

/-- The registers of the SLC block. -/
def regsSlc : List RegInfo := [
  ⟨0x400000, 4, 0x0, 1, 0x10000, 16, [.SLC_STATUS_STATE, .SLC_STATUS_BYPASS, .SLC_STATUS_SOLO, .SLC_STATUS_ADOPTED, .SLC_STATUS_RUNAHEAD, .SLC_STATUS_GEN]⟩,
  ⟨0x400008, 4, 0x0, 1, 0x10000, 16, [.SLC_CTL_DRAM_SPEC_EN, .SLC_CTL_MEDIA_SPEC_EN, .SLC_CTL_RUNAHEAD_EN, .SLC_CTL_PF_EN, .SLC_CTL_SPECRD_EN]⟩,
  ⟨0x400010, 8, 0x0, 1, 0x10000, 16, [.SLC_TT_OCC_HOST_USE, .SLC_TT_OCC_INT_USE, .SLC_TT_OCC_HOST_HIGH]⟩,
  ⟨0x400018, 4, 0x0, 1, 0x10000, 16, [.SLC_WAY_DIS_WAY_DIS]⟩,
  ⟨0x400020, 4, 0x0, 1, 0x10000, 16, [.SLC_WAY_STAT_WAYS_ON, .SLC_WAY_STAT_CE_TOTAL]⟩,
  ⟨0x400028, 8, 0x0, 1, 0x10000, 16, [.SLC_BUDDY_BUDDY, .SLC_BUDDY_LOG_USE, .SLC_BUDDY_SOLO_COUNT, .SLC_BUDDY_REPLAY_COUNT]⟩,
  ⟨0x400030, 8, 0x0, 1, 0x10000, 16, [.SLC_OFFER_ACCEPTED, .SLC_OFFER_DECLINED]⟩,
  ⟨0x400038, 8, 0x0, 1, 0x10000, 16, [.SLC_WAY_TEST_TEST, .SLC_WAY_TEST_TESTING]⟩]

/-- The registers of the MCX block. -/
def regsMcx : List RegInfo := [
  ⟨0x800100, 8, 0x0, 1, 0x20000, 8, [.MCX_SCHED_CNT0_SUSPENDS, .MCX_SCHED_CNT0_READAROUND]⟩,
  ⟨0x800108, 8, 0x0, 1, 0x20000, 8, [.MCX_SCHED_CNT1_RESCUES, .MCX_SCHED_CNT1_SUS_EXHAUST]⟩,
  ⟨0x800110, 4, 0x0, 1, 0x20000, 8, [.MCX_SCHED_OCC_PROG_NOW, .MCX_SCHED_OCC_SUS_NOW]⟩,
  ⟨0x800200, 8, 0x0, 1, 0x20000, 8, [.MCX_ECC_CNT0_CORRECTED, .MCX_ECC_CNT0_HIGH_CB]⟩,
  ⟨0x800208, 8, 0x0, 1, 0x20000, 8, [.MCX_ECC_CNT1_HARD_RETRY, .MCX_ECC_CNT1_SOFT, .MCX_ECC_CNT1_REBUILT, .MCX_ECC_CNT1_POISONED]⟩,
  ⟨0x800300, 4, 0x0, 1, 0x20000, 8, [.MCX_SB_CTL_ALERT_EN]⟩,
  ⟨0x800308, 8, 0x0, 1, 0x20000, 8, [.MCX_SB_STAT_PRESENT, .MCX_SB_STAT_TEMP_LOST, .MCX_SB_STAT_NAK, .MCX_SB_STAT_CRC]⟩,
  ⟨0x801000, 8, 0x20000, 8, 0x20, 16, [.MCX_LINKi_STAT_STATE, .MCX_LINKi_STAT_TRAIN, .MCX_LINKi_STAT_WIDTH2, .MCX_LINKi_STAT_RATE24, .MCX_LINKi_STAT_REVERSED, .MCX_LINKi_STAT_POLARITY, .MCX_LINKi_STAT_PKG, .MCX_LINKi_STAT_PORT, .MCX_LINKi_STAT_HOMED, .MCX_LINKi_STAT_GEN]⟩,
  ⟨0x801008, 8, 0x20000, 8, 0x20, 16, [.MCX_LINKi_ERR_CRC, .MCX_LINKi_ERR_REISSUE, .MCX_LINKi_ERR_RETRAINS]⟩,
  ⟨0x801010, 4, 0x20000, 8, 0x20, 16, [.MCX_LINKi_CTL_PRESET_FIX, .MCX_LINKi_CTL_PRESET]⟩]

/-- The registers of the DRT block. -/
def regsDrt : List RegInfo := [
  ⟨0xa00000, 4, 0x0, 1, 0x40, 4, [.DRT_STACKd_STAT_STATE, .DRT_STACKd_STAT_SELF_REFRESH, .DRT_STACKd_STAT_SPARED, .DRT_STACKd_STAT_GEN]⟩,
  ⟨0xa00008, 8, 0x0, 1, 0x40, 4, [.DRT_STACKd_ERR_CE, .DRT_STACKd_ERR_UE]⟩,
  ⟨0xa00100, 4, 0x0, 1, 0x0, 1, [.DRT_REMIRROR_ACTIVE, .DRT_REMIRROR_PCT]⟩,
  ⟨0xa04000, 4, 0x0, 1, 0x0, 1, [.DRT_MAP_STAT_SEGS, .DRT_MAP_STAT_PART_SEGS, .DRT_MAP_STAT_PAGED, .DRT_MAP_STAT_A_PAGED]⟩,
  ⟨0xa04008, 8, 0x0, 1, 0x0, 1, [.DRT_MAP_CACHE_HITS, .DRT_MAP_CACHE_MISSES]⟩,
  ⟨0xa04010, 8, 0x0, 1, 0x0, 1, [.DRT_BLK_STAT_READY, .DRT_BLK_STAT_FREE, .DRT_BLK_STAT_RETIRED]⟩,
  ⟨0xa04018, 8, 0x0, 1, 0x0, 1, [.DRT_GATHER_FOOT, .DRT_GATHER_FLOOR, .DRT_GATHER_USED_PCT]⟩,
  ⟨0xa04020, 4, 0x0, 1, 0x0, 1, [.DRT_CULLET_ACTIVE, .DRT_CULLET_URGENT, .DRT_CULLET_REBUILD, .DRT_CULLET_PKG, .DRT_CULLET_PCT]⟩,
  ⟨0xa04028, 8, 0x0, 1, 0x0, 1, [.DRT_CULLET_CNT_PAGES, .DRT_CULLET_CNT_ABANDONED, .DRT_CULLET_CNT_TGT_RETIRED]⟩,
  ⟨0xa04030, 8, 0x0, 1, 0x0, 1, [.DRT_PDEG_ACTIVE, .DRT_PDEG_CAUSE, .DRT_PDEG_UNPERS_GIB, .DRT_PDEG_LOST]⟩,
  ⟨0xa04040, 8, 0x0, 1, 0x8, 5, [.DRT_STREAMs_OPEN, .DRT_STREAMs_ROWS]⟩,
  ⟨0xa05000, 4, 0x0, 1, 0x0, 1, [.DRT_LEHR_CTL_TARGET, .DRT_LEHR_CTL_SCAN_DAYS, .DRT_LEHR_CTL_SCAN_EN]⟩,
  ⟨0xa05008, 8, 0x0, 1, 0x0, 1, [.DRT_LEHR_STAT_MAX_DOSE, .DRT_LEHR_STAT_DUE, .DRT_LEHR_STAT_URGENT, .DRT_LEHR_STAT_OVERDUE]⟩,
  ⟨0xa05010, 8, 0x0, 1, 0x0, 1, [.DRT_LEHR_CNT_PAGES, .DRT_LEHR_CNT_RD_BANDS, .DRT_LEHR_CNT_URG_BANDS]⟩,
  ⟨0xa05018, 8, 0x0, 1, 0x0, 1, [.DRT_SCAN_PASS_PCT, .DRT_SCAN_PASSES]⟩,
  ⟨0xa05020, 8, 0x0, 1, 0x0, 1, [.DRT_TWIN_DENSE_CLOSED, .DRT_TWIN_FAST_CLOSED, .DRT_TWIN_STAGING, .DRT_TWIN_CLOSED_PKGS, .DRT_TWIN_STAGED_GIB]⟩,
  ⟨0xa05028, 4, 0x0, 1, 0x0, 1, [.DRT_HEALTH_LIFE_USED, .DRT_HEALTH_SPARE_PCT, .DRT_HEALTH_SPARE_WARN, .DRT_HEALTH_SPARE_CRIT]⟩]

/-- The registers of the QEN block. -/
def regsQen : List RegInfo := [
  ⟨0xb00000, 4, 0x0, 1, 0x0, 1, [.QEN_CTL_SPILL_POOL, .QEN_CTL_STRAY_EVT, .QEN_CTL_DROP_EVT]⟩,
  ⟨0xb00008, 8, 0x0, 1, 0x0, 1, [.QEN_POOL_USED, .QEN_POOL_TOTAL]⟩,
  ⟨0xb00010, 8, 0x0, 1, 0x0, 1, [.QEN_SPILL_PAGES, .QEN_SPILL_WRITTEN]⟩,
  ⟨0xb00018, 4, 0x0, 1, 0x0, 1, [.QEN_OPEN_NOW, .QEN_OPEN_HIGH]⟩,
  ⟨0xb00048, 8, 0x0, 1, 0x0, 1, [.QEN_MISC_STRAY, .QEN_MISC_BAD_LENGTH, .QEN_MISC_BAD_DOORBELL, .QEN_MISC_STALE_REL]⟩,
  ⟨0xb00050, 4, 0x0, 1, 0x0, 1, [.QEN_PTR_REPAIRED, .QEN_PTR_PTR_RESETS]⟩,
  ⟨0xb00058, 4, 0x0, 1, 0x0, 1, [.QEN_TIMEOUT_COUNT]⟩,
  ⟨0xb00020, 8, 0x0, 1, 0x8, 5, [.QEN_DROPr_COUNT]⟩,
  ⟨0xb00100, 4, 0x0, 1, 0x8, 256, [.QEN_GRPg_STATE, .QEN_GRPg_HOME, .QEN_GRPg_REHOMED, .QEN_GRPg_PERSIST, .QEN_GRPg_SET, .QEN_GRPg_GEN]⟩,
  ⟨0xb04000, 4, 0x0, 1, 0x4, 4096, [.QEN_STRANDw_STRANDED]⟩]

/-- The registers of the TAL block. -/
def regsTal : List RegInfo := [
  ⟨0xc00000, 4, 0x0, 1, 0x0, 1, [.TAL_CTL_FOLD_NS, .TAL_CTL_BAD_EVT, .TAL_CTL_SKIP_EVT]⟩,
  ⟨0xc00008, 8, 0x0, 1, 0x0, 1, [.TAL_CACHE_USED, .TAL_CACHE_REPAIRED, .TAL_CACHE_LOST]⟩,
  ⟨0xc00010, 8, 0x0, 1, 0x0, 1, [.TAL_CNT_RECORDS]⟩,
  ⟨0xc00018, 8, 0x0, 1, 0x0, 1, [.TAL_BAD_OUT_OF_SET, .TAL_BAD_BAD_OP, .TAL_BAD_KEY, .TAL_BAD_ON_POISON]⟩,
  ⟨0xc00100, 8, 0x0, 1, 0x20, 64, [.TAL_SETs_STAT_INEXACT, .TAL_SETs_STAT_COPYING, .TAL_SETs_STAT_LAST_BANK, .TAL_SETs_STAT_AUTO, .TAL_SETs_STAT_SKIPPED, .TAL_SETs_STAT_LOST]⟩,
  ⟨0xc00108, 8, 0x0, 1, 0x20, 64, [.TAL_SETs_EPOCH_EPOCH]⟩,
  ⟨0xc00110, 8, 0x0, 1, 0x20, 64, [.TAL_SETs_SNAPID_SNAP_ID]⟩]

/-- The registers of the CRY block. -/
def regsCry : List RegInfo := [
  ⟨0xd00000, 4, 0x0, 1, 0x0, 1, [.CRY_CTL_LOCKDOWN, .CRY_CTL_MAC_EVT]⟩,
  ⟨0xd00008, 4, 0x0, 1, 0x0, 1, [.CRY_STATUS_LOCKED, .CRY_STATUS_LOCK_CAUSE, .CRY_STATUS_DEBUG_AUTH, .CRY_STATUS_OWNER_SET, .CRY_STATUS_ACTIVE, .CRY_STATUS_SWEEPS]⟩,
  ⟨0xd00010, 8, 0x0, 1, 0x0, 1, [.CRY_ERR0_MAC_FAIL, .CRY_ERR0_SECOND_KEY]⟩,
  ⟨0xd00018, 8, 0x0, 1, 0x0, 1, [.CRY_ERR1_PTL_POISON, .CRY_ERR1_UNWRAP]⟩,
  ⟨0xd00020, 8, 0x0, 1, 0x0, 1, [.CRY_MINOR_MAJORS]⟩,
  ⟨0xd00100, 4, 0x0, 1, 0x20, 4, [.CRY_RHs_STAT_STATE, .CRY_RHs_STAT_REGION, .CRY_RHs_STAT_KEY, .CRY_RHs_STAT_NEW_SLOT]⟩,
  ⟨0xd00108, 8, 0x0, 1, 0x20, 4, [.CRY_RHs_BOUND_D]⟩,
  ⟨0xd00110, 8, 0x0, 1, 0x20, 4, [.CRY_RHs_LIMIT_LIMIT]⟩,
  ⟨0xd00118, 8, 0x0, 1, 0x20, 4, [.CRY_RHs_CNT_PAGES, .CRY_RHs_CNT_ABANDONS]⟩,
  ⟨0xd04000, 4, 0x0, 1, 0x4, 4096, [.CRY_SLOTn_STATE, .CRY_SLOTn_KIND, .CRY_SLOTn_OWNER, .CRY_SLOTn_SWEEP, .CRY_SLOTn_GEN]⟩]

/-- The registers of the ORC block. -/
def regsOrc : List RegInfo := [
  ⟨0xd08000, 4, 0x0, 1, 0x0, 1, [.ORC_STATUS_REGRAFT, .ORC_STATUS_REBASED, .ORC_STATUS_ORPHANS]⟩,
  ⟨0xd08008, 8, 0x0, 1, 0x0, 1, [.ORC_CACHE_HITS, .ORC_CACHE_FETCHES]⟩,
  ⟨0xd08010, 8, 0x0, 1, 0x0, 1, [.ORC_COPY_REPAIRED, .ORC_COPY_BOTH_LOST]⟩,
  ⟨0xd08018, 8, 0x0, 1, 0x0, 1, [.ORC_UNVER_LINES]⟩,
  ⟨0xd08020, 8, 0x0, 1, 0x0, 1, [.ORC_GRAFT_GRAFT]⟩]

/-- The registers of the JRN block. -/
def regsJrn : List RegInfo := [
  ⟨0xe00000, 4, 0x0, 1, 0x0, 1, [.JRN_STATUS_QSTATE, .JRN_STATUS_TRIGGER, .JRN_STATUS_HOLDUP_OK, .JRN_STATUS_THROUGH_ALL, .JRN_STATUS_BUDGET_FULL, .JRN_STATUS_LAST_SEALED, .JRN_STATUS_RETAINED, .JRN_STATUS_EXTRA_TRIG]⟩,
  ⟨0xe00008, 8, 0x0, 1, 0x0, 1, [.JRN_BUDGET_EFFECTIVE, .JRN_BUDGET_IMAGE, .JRN_BUDGET_ENERGY, .JRN_BUDGET_GATHER]⟩,
  ⟨0xe00010, 8, 0x0, 1, 0x0, 1, [.JRN_DIRTY_UNCOVERED, .JRN_DIRTY_COVERED]⟩,
  ⟨0xe00018, 8, 0x0, 1, 0x0, 1, [.JRN_HOLDUP_V_BANK, .JRN_HOLDUP_E_AVAIL, .JRN_HOLDUP_C_EFF_PCT, .JRN_HOLDUP_C_MEASURED, .JRN_HOLDUP_ROUNDS]⟩,
  ⟨0xe00020, 4, 0x0, 1, 0x0, 1, [.JRN_CTL_FLUSH_US, .JRN_CTL_HOLDUP_EVT]⟩,
  ⟨0xe00028, 8, 0x0, 1, 0x0, 1, [.JRN_QLAST_T_Q]⟩,
  ⟨0xe00030, 8, 0x0, 1, 0x0, 1, [.JRN_QDUR_TO_SEAL_US, .JRN_QDUR_DRAIN_US, .JRN_QDUR_PAGES]⟩,
  ⟨0xe00038, 8, 0x0, 1, 0x0, 1, [.JRN_DSC_DIRTY_SHUTDOWN, .JRN_DSC_QUENCHES]⟩,
  ⟨0xe00040, 8, 0x0, 1, 0x0, 1, [.JRN_THRU_LINES, .JRN_THRU_SHEET_FAIL]⟩,
  ⟨0xe00048, 4, 0x0, 1, 0x0, 1, [.JRN_FILL_PART_PCT, .JRN_FILL_GATHER_PCT]⟩]

/-- The registers of the UST block. -/
def regsUst : List RegInfo := [
  ⟨0xf00000, 4, 0x0, 1, 0x0, 1, [.UST_CTL_STALE_EVT]⟩,
  ⟨0xf00008, 8, 0x0, 1, 0x0, 1, [.UST_SEQ_SEQ]⟩,
  ⟨0xf00010, 8, 0x0, 1, 0x0, 1, [.UST_FAULT_RECOVERED, .UST_FAULT_OVER_BUDGET, .UST_FAULT_DOUBLE, .UST_FAULT_FATAL]⟩,
  ⟨0xf00018, 8, 0x0, 1, 0x0, 1, [.UST_STALE_STALE, .UST_STALE_BUSY]⟩,
  ⟨0xf00020, 8, 0x0, 1, 0x0, 1, [.UST_DIGEST_SNAP_ID, .UST_DIGEST_CAPTURING]⟩,
  ⟨0xf01000, 4, 0x0, 1, 0x4, 542, [.UST_STATEn_STATE, .UST_STATEn_CAUSE, .UST_STATEn_HW, .UST_STATEn_RECOVERY, .UST_STATEn_GEN]⟩]

/-- The registers of the PWR block. -/
def regsPwr : List RegInfo := [
  ⟨0x1000000, 4, 0x0, 1, 0x0, 1, [.PWR_STEP_STEP, .PWR_STEP_NOTIER, .PWR_STEP_RECOVERY, .PWR_STEP_HALTED, .PWR_STEP_SQ_WAIT, .PWR_STEP_STEP_MS]⟩,
  ⟨0x1000008, 4, 0x0, 1, 0x0, 1, [.PWR_SQ_CTL_TARGET, .PWR_SQ_CTL_LEAVE, .PWR_SQ_CTL_ALERT_EN]⟩,
  ⟨0x1000010, 8, 0x0, 1, 0x0, 1, [.PWR_SQ_STAT_ROLE, .PWR_SQ_STAT_PART, .PWR_SQ_STAT_LINE, .PWR_SQ_STAT_HOLDING, .PWR_SQ_STAT_RX_TARGET, .PWR_SQ_STAT_UP_TIMEOUTS, .PWR_SQ_STAT_DOWN_TIMEOUTS, .PWR_SQ_STAT_CRC_ERR]⟩,
  ⟨0x1000018, 8, 0x0, 1, 0x0, 1, [.PWR_PD_ON, .PWR_PD_FAULT_OFF]⟩,
  ⟨0x1000020, 4, 0x0, 1, 0x0, 1, [.PWR_MPG_MPEN, .PWR_MPG_MPGOOD, .PWR_MPG_LATCH]⟩,
  ⟨0x1000028, 8, 0x0, 1, 0x0, 1, [.PWR_SUPPLY_VIN12_MV, .PWR_SUPPLY_VAUX3_MV, .PWR_SUPPLY_VIN_GOOD, .PWR_SUPPLY_VAUX_GOOD, .PWR_SUPPLY_AON_FROM_VIN]⟩,
  ⟨0x1000100, 8, 0x0, 1, 0x20, 9, [.PWR_RAILr_STAT_MV, .PWR_RAILr_STAT_CURRENT, .PWR_RAILr_STAT_STATE, .PWR_RAILr_STAT_PHASES_LOST]⟩,
  ⟨0x1000108, 8, 0x0, 1, 0x20, 9, [.PWR_RAILr_CNT_UV, .PWR_RAILr_CNT_OV, .PWR_RAILr_CNT_OC, .PWR_RAILr_CNT_RISE_FAIL, .PWR_RAILr_CNT_COLLAPSE, .PWR_RAILr_CNT_DISCH, .PWR_RAILr_CNT_RAMP_US]⟩,
  ⟨0x1000110, 8, 0x0, 1, 0x20, 9, [.PWR_RAILr_CYC_CYCLES, .PWR_RAILr_CYC_PHASE_LOSS]⟩,
  ⟨0x1000300, 8, 0x0, 1, 0x8, 8, [.PWR_MPGg_CNT_FALLS, .PWR_MPGg_CNT_GLITCH, .PWR_MPGg_CNT_RISE_FAIL, .PWR_MPGg_CNT_LATCHES, .PWR_MPGg_CNT_CYCLES]⟩]

/-- The registers of the RST block. -/
def regsRst : List RegInfo := [
  ⟨0x1100000, 4, 0x0, 1, 0x0, 1, [.RST_CAUSE_POR, .RST_CAUSE_SEQ, .RST_CAUSE_RESET_N, .RST_CAUSE_FATAL, .RST_CAUSE_CMD_SYS, .RST_CAUSE_WDT, .RST_CAUSE_CMD_CORE, .RST_CAUSE_LAST_LEVEL, .RST_CAUSE_LAST_SRC]⟩,
  ⟨0x1100008, 8, 0x0, 1, 0x0, 1, [.RST_COUNT_SYSTEM, .RST_COUNT_CORE, .RST_COUNT_RESET_N, .RST_COUNT_UNIT]⟩,
  ⟨0x1100010, 4, 0x0, 1, 0x0, 1, [.RST_HS_TMO_US, .RST_HS_TIMEOUTS]⟩,
  ⟨0x1100018, 4, 0x0, 1, 0x0, 1, [.RST_WDT_PERIOD_MS, .RST_WDT_KICK, .RST_WDT_RUNNING]⟩]

/-- The registers of the CLK block. -/
def regsClk : List RegInfo := [
  ⟨0x1200000, 4, 0x0, 1, 0x0, 1, [.CLK_SRC_SEL_PLL_REF, .CLK_SRC_SEL_WCLK_SOSC]⟩,
  ⟨0x1200008, 4, 0x0, 1, 0x0, 1, [.CLK_SRC_READY_SRC, .CLK_SRC_READY_LOCK]⟩,
  ⟨0x1200010, 4, 0x0, 1, 0x0, 1, [.CLK_STATUS_LAST, .CLK_STATUS_SWITCHING, .CLK_STATUS_TB_COARSE, .CLK_STATUS_FALLBACK, .CLK_STATUS_RELOCKS]⟩,
  ⟨0x1200018, 4, 0x0, 1, 0x0, 1, [.CLK_TB_LO_TB_LO]⟩,
  ⟨0x120001c, 4, 0x0, 1, 0x0, 1, [.CLK_TB_HI_TB_HI]⟩]

/-- The registers of the THM block. -/
def regsThm : List RegInfo := [
  ⟨0x1300000, 8, 0x0, 1, 0x0, 1, [.THM_STATUS_MAX_N, .THM_STATUS_MAX_C, .THM_STATUS_THERM, .THM_STATUS_FAST, .THM_STATUS_CRIT]⟩,
  ⟨0x1300008, 8, 0x0, 1, 0x0, 1, [.THM_THROT_DEVICE, .THM_THROT_SLICES, .THM_THROT_COMPLEXES]⟩,
  ⟨0x1300010, 4, 0x0, 1, 0x0, 1, [.THM_EXT_LOW, .THM_EXT_ACTIVE, .THM_EXT_STUCK, .THM_EXT_GLITCH]⟩,
  ⟨0x1300100, 4, 0x0, 1, 0x4, 144, [.THM_SENSn_TEMP, .THM_SENSn_VALID, .THM_SENSn_FAILED, .THM_SENSn_FRAC]⟩]

/-- The registers of the EVT block. -/
def regsEvt : List RegInfo := [
  ⟨0x1400000, 4, 0x0, 1, 0x4, 32, [.EVT_STATUSw_STATUS]⟩,
  ⟨0x1400200, 4, 0x0, 1, 0x0, 1, [.EVT_CTL_RATE, .EVT_CTL_MCTP_EID]⟩,
  ⟨0x1400208, 8, 0x0, 1, 0x0, 1, [.EVT_DROP_RATE, .EVT_DROP_MCTP]⟩,
  ⟨0x1401000, 8, 0x0, 1, 0x8, 1024, [.EVT_CFGn_EN, .EVT_CFGn_SEV, .EVT_CFGn_ROUTE, .EVT_CFGn_VECTOR, .EVT_CFGn_DEF_SEV, .EVT_CFGn_COUNT]⟩,
  ⟨0x1410000, 64, 0x0, 1, 0x40, 1024, [.EVT_LASTn_RECORD]⟩]

/-- The registers of the PMC block. -/
def regsPmc : List RegInfo := [
  ⟨0x1800000, 8, 0x0, 1, 0x8, 512, [.PMC_CTRn_COUNT]⟩,
  ⟨0x1801000, 8, 0x0, 1, 0x8, 512, [.PMC_CFGn_EVENT, .PMC_CFGn_UNIT, .PMC_CFGn_CLASS, .PMC_CFGn_ENABLE, .PMC_CFGn_CHAIN, .PMC_CFGn_OVF_EVT, .PMC_CFGn_SAMPLE]⟩,
  ⟨0x1802000, 8, 0x0, 1, 0x8, 32, [.PMC_GRPg_CTL_RUN, .PMC_GRPg_CTL_CLEAR_ON_SNAP, .PMC_GRPg_CTL_INTERVAL_US, .PMC_GRPg_CTL_SNAP_SEQ]⟩,
  ⟨0x1803000, 8, 0x0, 1, 0x8, 512, [.PMC_SNAPn_COUNT]⟩,
  ⟨0x1804000, 8, 0x0, 1, 0x0, 1, [.PMC_SAMP_CTL_PERIOD]⟩,
  ⟨0x1804008, 4, 0x0, 1, 0x0, 1, [.PMC_SAMP_STAT_WPTR, .PMC_SAMP_STAT_RPTR, .PMC_SAMP_STAT_LOST]⟩,
  ⟨0x1808000, 32, 0x0, 1, 0x20, 256, [.PMC_SAMPi_RECORD]⟩]

/-- The registers of the MGT block. -/
def regsMgt : List RegInfo := [
  ⟨0x1c00000, 4, 0x0, 1, 0x0, 1, [.MGT_STATUS_SLOT, .MGT_STATUS_READY, .MGT_STATUS_FALLBACK, .MGT_STATUS_ACTIVATING, .MGT_STATUS_FW_SVN]⟩,
  ⟨0x1c00008, 8, 0x0, 1, 0x0, 1, [.MGT_CMD_EXECUTED, .MGT_CMD_REFUSED]⟩]

/-- The registers of the DBG block. -/
def regsDbg : List RegInfo := [
  ⟨0x3f00000, 4, 0x0, 1, 0x0, 1, [.DBG_STATUS_UNLOCKED, .DBG_STATUS_TRIES_LEFT]⟩,
  ⟨0x3f00010, 8, 0x0, 1, 0x0, 1, [.DBG_MA_ADDR_DPA]⟩,
  ⟨0x3f00018, 4, 0x0, 1, 0x0, 1, [.DBG_MA_CTL_GO, .DBG_MA_CTL_WRITE, .DBG_MA_CTL_BUSY, .DBG_MA_CTL_RESULT]⟩,
  ⟨0x3f00040, 64, 0x0, 1, 0x0, 1, [.DBG_MA_DATA_LINE]⟩]

/-- Every register of BX space (R454). -/
def regTable : List RegInfo :=
  regsGlb ++ regsImg ++ regsRgn ++ regsSlc ++ regsMcx ++ regsDrt ++ regsQen ++ regsTal ++ regsCry ++ regsOrc ++ regsJrn ++ regsUst ++ regsPwr ++ regsRst ++ regsClk ++ regsThm ++ regsEvt ++ regsPmc ++ regsMgt ++ regsDbg

/-- The instance of a register that a byte address falls in, with the offset inside it. -/
def RegInfo.locate (r : RegInfo) (addr : Nat) : Option (Nat × Nat) :=
  if addr < r.base then none else
  let off := addr - r.base
  let o := if r.outer = 0 then 0 else off / r.outer
  let off1 := if r.outer = 0 then off else off % r.outer
  let i := if r.inner = 0 then 0 else off1 / r.inner
  let off2 := if r.inner = 0 then off1 else off1 % r.inner
  if o < r.outerCount && i < r.innerCount && off2 < r.bytes then some (o * r.innerCount + i, off2) else none

/-- The key of a field instance in the register store. -/
def Fld.key (f : Fld) (i : Nat) : Nat := i * 1024 + f.num

end Sys2Proof.Machine
end

