-- ==== Sys2Proof/Machine/Parts.lean ====
section
/-!
DEFINITION. The parts of the device's state outside the register store, one structure per block of the spec. The default
value of each field is its value at reset (State.reset takes them); where the spec gives none, log entry 1
names the value. All times are timebase stamps in ns.
-/
namespace Sys2Proof.Machine

/-! ## Units (R313 to R332) -/

/-- Unit states with the codes of R314. -/
inductive UState where
  | absent | off | starting | online | degraded | draining | quiesced | resetting | failed | retired
  deriving DecidableEq, Repr

/-- One unit of the UST: state, cause (R316), generation, whether the last change was a hardware transition, whether
recovery under R328 runs, the state a drain was commanded to reach, and when the present recovery, test, start or drain
began. -/
structure UnitRec where
  state : UState := .absent
  cause : Nat := 0
  gen : Nat := 0
  hw : Bool := false
  recovery : Bool := false
  target : Option UState := none
  since : Nat := 0
  /-- A commanded ONLINE from OFF is running, with its bound of R473. -/
  bound : Option Nat := none
  /-- The built-in test of REPAIR runs (R330). -/
  testing : Bool := false
  /-- A unit reset with the idle handshake runs: 0 none, 1 quiesce requested, 2 reset asserted and held (R385). -/
  resetPhase : Nat := 0
  /-- When the phase began. -/
  phaseAt : Nat := 0
  deriving DecidableEq, Repr

/-- A STATE DIGEST snapshot held by an interface (R337): its identity, stamp, pages as captured, last page read. -/
structure Snapshot where
  id : Nat
  stamp : Nat
  qgFirst : Nat
  qgCount : Nat
  pages : List (List Byte)
  lastRead : Nat
  deriving DecidableEq, Repr

structure UstS where
  /-- Unit records by unit index (R313): at first power-on the fixed units exist and are OFF; the rest are ABSENT. -/
  units : AMap UnitRec := ([0] ++ (List.range 24).map (· + 2) ++ [218, 219, 220, 221]).map (fun i => (i, { state := .off }))
  /-- UST_SEQ (R316). -/
  seq : Nat := 0
  recovered : Nat := 0
  overBudget : Nat := 0
  doubles : Nat := 0
  fatals : Nat := 0
  /-- Snapshots by interface: 0 H0, 1 H1, 2 MCTP. -/
  snaps : AMap Snapshot := []
  /-- Writes kept for a unit that is RESETTING, OFF or FAILED (R451): by field, the unit and the value still in force. -/
  kept : AMap (Nat × Nat) := []
  /-- Writes of BX space at one stamp: source (0 and 1 the heads, 2 master 0), address, bytes (R450). -/
  barAt : Nat := 0
  barWrites : List (Nat × Nat × Nat) := []
  deriving DecidableEq, Repr

/-! ## Events and counters (R410 to R426) -/

/-- An event record (R416). -/
structure EvRec where
  source : Nat
  sev : Nat
  state : Nat := 0xFF
  gen : Nat := 0
  unitId : Nat := 0xFFFF
  stamp : Nat
  count : Nat
  dpa : Nat := 0
  a : Nat := 0
  b : Nat := 0
  c : Nat := 0
  deriving DecidableEq, Repr

/-- A record of a CXL event log (R85, R86): record type 0 General Media, 1 DRAM, 2 Memory Module, 3 Vendor; the host-time
stamp (0 without a mapping); the payload. `handle` numbers records within the log. -/
structure LogRec where
  handle : Nat
  rtype : Nat
  hostTime : Nat
  ev : EvRec
  deriving DecidableEq, Repr

/-- One event log: 256 records at most, and the overflow count with its first and last time stamps (R86). -/
structure EvLog where
  recs : List LogRec := []
  nextHandle : Nat := 1
  ovfCount : Nat := 0
  ovfFirst : Nat := 0
  ovfLast : Nat := 0
  deriving DecidableEq, Repr

structure EvtS where
  /-- Last records by source (EVT_LASTn). -/
  last : AMap EvRec := []
  /-- Records placed by 1 ms window and source, under window × 65,536 + source (R415, R420). -/
  window : AMap Nat := []
  /-- The 64-entry MCTP notification queue, oldest first (R413). -/
  mctpQ : List EvRec := []
  /-- Event logs by 4 × interface + severity; interfaces 0 H0, 1 H1, 2 MCTP. -/
  logs : AMap EvLog := []
  /-- Event interrupt policy of each interface, 4 bytes (R86). -/
  policy : AMap (List Byte) := []
  /-- The mapping of host time: (host time, timebase) of the last Set Timestamp (R86). -/
  hostTime : Option (Nat × Nat) := none
  /-- Heads whose MSI-X software has enabled since it was last cleared, and messages asked for while it had not (R94, R427).
  -/
  msixOn : List Nat := []
  msixTries : Nat := 0
  /-- MSI-X vectors masked, by head × 256 + vector, and their pending bits. -/
  msixMasked : List Nat := []
  msixPending : List Nat := []
  /-- ALERT_N forced low by R369 (boot rail halted) and by R377 (sequencing timeout). -/
  alertHalt : Bool := false
  alertSq : Bool := false
  /-- Deadline-miss events raised by 1 ms window (R148). -/
  missWin : AMap Nat := []
  /-- The event registers as they stood when a live image last replaced them, with its T_act, for the occurrences stamped
  before (R417). -/
  before : Option (Nat × AMap Nat) := none
  deriving DecidableEq, Repr

/-- A snapshot awaiting publication (R423): counters of the group as of the boundary. -/
structure PmcPend where
  group : Nat
  boundary : Nat
  values : List Nat
  deriving DecidableEq, Repr

/-- A sampling tag armed on a slice (R425): the counter, its skid, and the acceptances still to pass before it is placed.
-/
structure PmcTag where
  slice : Nat
  counter : Nat
  skid : Nat
  left : Nat
  deriving DecidableEq, Repr

structure PmcS where
  pend : List PmcPend := []
  tags : List PmcTag := []
  /-- Tagged requests: (counter, skid) by request number. -/
  tagged : AMap (Nat × Nat) := []
  /-- Sample records by buffer index, 32 bytes each as a number (R425). -/
  samples : AMap Nat := []
  /-- Records in the sample buffer not yet freed by RPTR. -/
  fill : Nat := 0
  /-- The last interval boundary taken, by group, and that of the snapshot which PMC_SNAPn shows. -/
  lastBoundary : AMap Nat := []
  shown : AMap Nat := []
  /-- The stamp at which a group last started or stopped. -/
  since : AMap Nat := []
  /-- The stamp of the items counted last, and what each counter held before them. -/
  freshAt : Nat := 0
  fresh : AMap Nat := []
  deriving DecidableEq, Repr

/-! ## Power, reset, clocks, thermal, pins (R356 to R409, R458 to R462, R468) -/

structure PwrS where
  /-- The stamp at which the present step was entered (PWR_STEP.STEP_MS). -/
  stepAt : Nat := 0
  /-- When each rail was enabled, and when it was switched off (R358, R366). -/
  railOnAt : AMap Nat := []
  railOffAt : AMap Nat := []
  /-- Groups whose MPGOODg is high and settled ("up"), when each was raised, when its 1 ms period began (R373). -/
  mpgUp : List Nat := []
  mpgRaisedAt : AMap Nat := []
  mpgStableAt : AMap Nat := []
  mpgFailed : List Nat := []
  /-- Filtered transitions of MPGOODg in the present 1 s window: (window, count) (R373). -/
  mpgTrans : AMap (Nat × Nat) := []
  /-- Stamps of the restarts caused by trigger 4 (R372). -/
  restarts : List Nat := []
  /-- The sequencer's own actions of the step are complete and it waits on SQ_STEP (R377, R378). -/
  ready : Bool := false
  readyAt : Nat := 0
  /-- The last valid SQ frame received (R376), and whether an SQ_UP_MS timeout was raised for this wait. -/
  frameAt : Nat := 0
  /-- A valid SQ frame has been received since power-on. -/
  gotFrame : Bool := false
  upTimeoutRaised : Bool := false
  /-- The frame sequence byte of the next SQ broadcast (R376). -/
  frameSeq : Nat := 0
  /-- The device left the sequencer cooperation (LEAVE, a halt, or recovery mode) until power-on reset. -/
  left : Bool := false
  /-- The per-rail and per-group counters as the last CHECKPOINT mirrored them (R379). -/
  mirrored : AMap Nat := []
  /-- The power-down under way was caused by trigger 4 (R372). -/
  downByT4 : Bool := false
  /-- Rails in an under-voltage fault that stay enabled (R371). -/
  railHeld : List Nat := []
  /-- The power-up under way is a full one: pending sections take effect (R43). -/
  fullUp : Bool := true
  deriving DecidableEq, Repr

/-- A RESET command whose action has not started (R436). -/
structure PendReset where
  level : Nat
  iface : Nat := 2
  acceptedAt : Nat
  deriving DecidableEq, Repr

/-- Core reset phases (R384): none, draining under R261, held in reset, released (replaying). -/
inductive CorePhase where
  | none | draining | hold
  deriving DecidableEq, Repr

structure RstS where
  pend : Option PendReset := none
  core : CorePhase := .none
  coreSince : Nat := 0
  /-- The system reset is held by RESET_N low (R383). -/
  held : Bool := false
  /-- The RST_CAUSE bit of the system reset that a seal waits for (R383). -/
  sysSrc : Nat := 2
  /-- When the watchdog was last restarted (R388). -/
  kickAt : Nat := 0
  /-- A management processor halted by debug stops the watchdog (R388, R445). -/
  fwHalted : Bool := false
  /-- A power-on reset by a sequencer fault has run in this command: the timebase is loaded under R397. -/
  reload : Bool := false
  deriving DecidableEq, Repr

structure ClkS where
  /-- PLLs in holdover, switching to another reference, relocking with their domains gated (R393 to R395), off. -/
  holdover : List Nat := []
  switching : List Nat := []
  relocking : AMap Nat := []
  off : List Nat := []
  deriving DecidableEq, Repr

structure ThmS where
  /-- Stamp of each sensor's last sample. -/
  sampleAt : AMap Nat := []
  /-- Die sensors whose last sample was at or above 110 °C (R407). -/
  prevCrit : List Nat := []
  /-- F_EXT in 0.1 % units (R406). -/
  fExt : Nat := 0
  /-- When THROT_N last rose (none while low), and the last moment at which it had been high for more than 1 ms. -/
  throtRiseAt : Option Nat := some 0
  throtOkAt : Nat := 0
  /-- THERM_N is held low from trigger 6 until step 9 of the restart (R405), and step 2 waits for T_RESUME (R407). -/
  critHold : Bool := false
  /-- T_RESUME of the image in force at the thermal-critical trigger (R407), in °C. -/
  resumeAt : Nat := 85
  /-- Throttle fraction of each slice, complex and package in 0.1 % units (R403). -/
  sliceF : AMap Nat := []
  complexF : AMap Nat := []
  packageF : AMap Nat := []
  /-- Whether THERM_N is driven low. -/
  thermLow : Bool := false
  deriving DecidableEq, Repr

/-- The levels of the filtered inputs (true: high) and when PWRFAIL_N last rose. -/
structure PinS where
  pwrfailN : Bool := true
  pwrfailHighAt : Nat := 0
  resetN : Bool := true
  throtN : Bool := true
  mpgood : Nat := 0
  sqStepHigh : Bool := false
  trstN : Bool := true
  /-- VIN12 and VAUX3 good (R356) and when VIN good began. -/
  vinGoodAt : Nat := 0
  /-- The straps as sampled (R460). -/
  bootSel : Nat := 0
  headMode : Bool := false
  sqRole : Bool := true
  deriving DecidableEq, Repr

/-! ## Image store, firmware, management interfaces (R24 to R45, R428 to R446) -/

/-- Slot states of R30. -/
inductive SlotState where
  | empty | receiving | staged | active | previous | invalid
  deriving DecidableEq, Repr

/-- The staging session (R37): its owner, target slot, next offset and the stamp of its last chunk. -/
structure StageSession where
  iface : Nat
  slot : Nat
  next : Nat
  lastAt : Nat
  deriving DecidableEq, Repr

/-- One copy of the boot record (R30): sequence number, the states of slot A, slot B and the retained-image area (true:
ACTIVE-NPO), the activation sequence number, and the digest. -/
structure BootRec where
  seq : Nat
  slotA : SlotState
  slotB : SlotState
  npo : Bool
  actSeq : Nat
  digest : List Byte
  deriving DecidableEq, Repr

/-- The boot store and the fuses (R26, R27, R30), the staging session and rolling changes. -/
structure BootS where
  slotA : SlotState := .empty
  slotB : SlotState := .empty
  bytesA : List Byte := []
  bytesB : List Byte := []
  retained : List Byte := []
  /-- The retained-image area is ACTIVE-NPO (else EMPTY). -/
  retainedNpo : Bool := false
  /-- Record sequence number of the boot record. -/
  recordSeq : Nat := 0
  /-- The activation sequence number of the newest record, and the two copies of the record, by number 0 and 1. -/
  actSeq : Nat := 0
  records : AMap BootRec := []
  /-- Fuses: image-key hashes provisioned by slot, revoked slots, SVN floor; debug-key hashes; firmware floor. -/
  keyHash : AMap (List Byte) := []
  keyRevoked : List Nat := []
  svnFloor : Nat := 0
  debugHash : AMap (List Byte) := []
  debugRevoked : List Nat := []
  fwFloor : Nat := 0
  part : Nat := 0
  stepping : Nat := 0
  serial : Nat := 0
  /-- SPDM certificate slot 0: the device identity chain, written at manufacture (R91). -/
  cert0 : List Byte := []
  stage : Option StageSession := none
  /-- A staged image under background validation (R35): slot and owner. -/
  validating : Option (Nat × Nat) := none
  /-- Region numbers and UIDs under which the journal last ran (R34). -/
  journalRegions : AMap Nat := []
  /-- Regions that the image in force does not know, or knows under another UID: hidden (R34). -/
  hidden : List Nat := []
  /-- Slices that a TIERPLAN roll has still to reach, in the order of R41, and the stamp of its last slice. -/
  rollQueue : List Nat := []
  rollAt : Nat := 0
  /-- The TIERPLAN a roll is bringing in; slices that have rolled run it. -/
  rollTier : Option TierCfg := none
  /-- The TIERPLAN of a roll whose slices are done and whose partitions still wait for space or for dirty data (R41). -/
  tierWait : Option TierCfg := none
  /-- BANDGEOM migration under way (R42): the geometries being left, oldest first, and the geometry that bands open under. -/
  oldBands : List BandCfg := []
  geometry : Option BandCfg := none
  /-- Section digests of the image under which the journal last ran (R34). -/
  journalImage : Option (AMap (List Byte)) := none
  /-- Section IDs whose change waits for the next full power-up (R43). -/
  pendingSections : List Nat := []
  /-- The first image after a power-on or system reset has taken effect: RWL fields are locked (R45). -/
  locked : Bool := false
  deriving DecidableEq, Repr

/-- A firmware object in a slot (R440). -/
structure FwObj where
  valid : Bool
  svn : Nat
  minFormat : Nat
  version : List Byte
  bytes : List Byte
  deriving DecidableEq, Repr

/-- A firmware transfer session (R440). -/
structure FwXfer where
  iface : Nat
  slot : Nat
  data : List Byte
  lastAt : Nat
  deriving DecidableEq, Repr

/-- The background command of an interface: opcode, percentage, return code once ended. -/
structure BgCmd where
  opcode : Nat
  pct : Nat
  rc : Nat
  running : Bool
  deriving DecidableEq, Repr

structure MgtS where
  fw : AMap FwObj := [(0, { valid := true, svn := 0, minFormat := 1, version := [], bytes := [] })]
  /-- The slot whose firmware is the active one: 0 A, 1 B. -/
  fwActive : Nat := 0
  /-- The slot that a next-reset activation takes effect in (R441). -/
  fwNext : Option Nat := none
  /-- The slot whose firmware an online activation loads, and its owner. -/
  fwLoading : Option (Nat × Nat) := none
  fwStartedAt : Nat := 0
  /-- Firmware reloads after a core reset or at step 5: commands are answered Busy (R384, R441). -/
  fwDown : Bool := false
  /-- New firmware that has not yet restarted the watchdog (R442). -/
  fwUnproved : Bool := false
  /-- Stamps of watchdog core resets of the running firmware (R442). -/
  fwWdtResets : List Nat := []
  xfer : Option FwXfer := none
  bg : AMap BgCmd := []
  /-- The interface whose Sanitize runs (R431, R433). -/
  sanitizing : Option Nat := none
  shutdownState : Nat := 0
  /-- A secured SPDM session stands over MCTP. -/
  spdm : Bool := false
  spdmSecret : Nat := 0
  /-- The STATE DIGEST snapshot number given last (R338). -/
  snapId : Nat := 0
  lsa : List Byte := []
  /-- Alert thresholds that Set Alert Configuration wrote (R199). -/
  alertCfg : List Byte := []
  /-- Get Poison List under way, by interface: the range asked, and the DPA from which the next records come (R83). -/
  poisonPos : AMap (Nat × Nat × Nat) := []
  nonce : Option (List Byte × Nat) := none
  /-- Failed debug unlocks (R444), and whether debug is unlocked (R445). -/
  unlockFails : Nat := 0
  /-- The JTAG instruction register (R443) and the boundary register. -/
  jtagIr : Nat := 0xFF
  boundary : List Byte := []
  deriving DecidableEq, Repr

/-! ## Journal (R258 to R262) -/

/-- An intent-journal record (R259): its sequence number, its code, the stamp it was written at, and its payload. -/
structure JrnRec where
  seq : Nat
  code : Nat
  stamp : Nat
  a : Nat := 0
  b : Nat := 0
  c : Nat := 0
  deriving DecidableEq, Repr

structure JrnS where
  /-- The next journal sequence number, and the first that is not yet mirrored into the gather zone. -/
  next : Nat := 1
  mirrored : Nat := 1
  /-- Records since the last CHECKPOINT, newest first. -/
  recs : List JrnRec := []
  flushedAt : Nat := 0
  checkpointAt : Nat := 0
  /-- The last startup checkpoint's stamp and journal sequence (boot store). -/
  startupAt : Nat := 0
  startupSeq : Nat := 0
  deriving DecidableEq, Repr

end Sys2Proof.Machine
end

