-- ==== Sys2Proof/Machine/State.lean ====
section
/-!
DEFINITION. The state of the BX-9400 model, its faults and refusals, and the state after reset.
-/
namespace Sys2Proof.Machine

/-- What the device puts out, newest first in `Dev.out`. -/
inductive Output where
  /-- A CXL.mem response: DRS with data, or NDR Cmp; with the Poison bit and DevLoad (R74, R88). -/
  | mem (head tag : Nat) (data : Option Line) (poison : Bool) (devload : Nat)
  /-- A command's response: interface, opcode, return code, payload (R430, R434). -/
  | reply (iface opcode rc : Nat) (payload : List Byte)
  /-- An object of a head's DOE (0, 1) or an SPDM message of MCTP (2): the protocol and the object's content (R90). -/
  | obj (iface protocol : Nat) (content : List Byte)
  /-- An MCTP control response: command code and payload (R383). -/
  | mctpControl (code : Nat) (payload : List Byte)
  /-- The completion of a GPF phase of a head (R87). -/
  | gpf (head phase : Nat)
  /-- An MSI-X message of a head (R413). -/
  | msix (head vector : Nat)
  /-- An MCTP event notification on the bus (R413). -/
  | mctp (rec : EvRec)
  /-- An SQ bus frame (R376). -/
  | sqFrame (target seq crc : Nat)
  /-- Bits shifted out of the JTAG port (R443). -/
  | jtag (bits : List Byte)
  /-- The value of the CLK_TB_LO read (R398). -/
  | regRead (value : Nat)
  deriving DecidableEq, Repr

/-- The device: everything but the queue of waiting commands. -/
structure Dev where
  /-- The stamp of the command in hand: the state's timebase, copied when the command starts. -/
  now : Nat := 1000000000
  /-- The stamp of the host request that causes what is in hand (R419); none where nothing but the command does. -/
  cause : Option Nat := none
  /-- V_AON is up: the always-on domain runs (R356). -/
  aon : Bool := true
  /-- Register fields whose value differs from their reset value, by `Fld.key`. -/
  regs : AMap Nat := []
  /-- The configuration in force (none: no image, recovery mode). -/
  cfg : Option Cfg := none
  /-- Configurations that a live change has replaced, newest first, each with its T_act, for the requests stamped before
  (R40). -/
  oldCfgs : List (Nat × Cfg) := []
  boot : BootS := {}
  mgt : MgtS := {}
  ust : UstS := {}
  evt : EvtS := {}
  pmc : PmcS := {}
  pwr : PwrS := {}
  rst : RstS := {}
  clk : ClkS := {}
  thm : ThmS := {}
  pin : PinS := {}
  jrn : JrnS := {}
  heads : AMap HeadS := []
  slices : AMap SliceS := []
  tier : AMap TPage := []
  poison : PoisonS := {}
  med : MediaS := {}
  shadow : AMap ShadowS := []
  qen : QenS := {}
  tal : TalS := {}
  per : PerS := {}
  qch : QuenchS := {}
  cry : CryS := {}
  /-- The next request number (R149). -/
  rid : Nat := 0
  /-- Dirty shutdown count and quenches begun (R272). -/
  dirtyShutdowns : Nat := 0
  /-- Everything put out, newest first. -/
  out : List Output := []
  /-- The counter that free values are drawn at (a field of the model, not of the spec). -/
  freeCtr : Nat := 0
  deriving DecidableEq, Repr

/-- The machine: the device and the commands that wait, first in first out. -/
structure State where
  /-- The timebase, in ns (R397). -/
  tb : Nat
  /-- The highest stamp ceiling written to the boot store (R258). -/
  ceiling : Nat
  dev : Dev
  pending : List Instr
  deriving DecidableEq, Repr

/-- Why a step can stop. The model never raises a fault: every stop the spec describes is a state of the device. -/
inductive Fault where
  /-- Raised by nothing: present so that the type is not empty. Safe. -/
  | notRaised
  deriving DecidableEq, Repr

/-- Why a command has no meaning. -/
inductive Refusal where
  /-- Raised by an arm of `exec` whose command is not modelled. Safe. -/
  | notModelled (mnemonic : String)
  deriving DecidableEq, Repr

/-- The machine right after power-on reset (R364 step 1, R381): every field at its reset value. -/
def State.reset : State := { tb := 1000000000, ceiling := 31000000000, dev := {}, pending := [] }

end Sys2Proof.Machine
end

