-- ==== Sys2Proof/Machine/Ops.lean ====
section
/-!
DEFINITION. The shared operations: register fields, units, journal records, event occurrences and the answers put out.
-/
namespace Sys2Proof.Machine

/-- What a command answers. -/
abbrev Out := Host.Outcome State Fault Refusal

/-- The device as a command finds it: stamped with the timebase, nothing else its cause (R419). -/
abbrev State.stamped (s : State) : Dev := { s.dev with now := s.tb, cause := none }

/-- Run a command's effect on the device, stamped with the timebase (R419). Without V_AON the device does nothing
(R356). -/
def State.on (s : State) (f : Dev → Dev) : Out :=
  .next (if s.dev.aon then { s with dev := f s.stamped } else s)

/-- Apply `f` where the condition holds; otherwise nothing changes (R10: a condition that matches no row leaves the
state unchanged). -/
def Dev.when (d : Dev) (c : Bool) (f : Dev → Dev) : Dev := if c then f d else d

/-- Put an output out. -/
def Dev.emit (d : Dev) (o : Output) : Dev := { d with out := o :: d.out }

/-- Fold an operation over a list. -/
def Dev.each {α : Type} (d : Dev) (l : List α) (f : Dev → α → Dev) : Dev := l.foldl f d

/-! ## Configuration in force -/

/-- The record of a region, if the image in force has one. -/
def Dev.region (d : Dev) (n : Nat) : Option RegionRec :=
  d.cfg.bind (fun c => c.regions.find? (fun r => r.number = n))

/-- The record of a queue set. -/
def Dev.queueSet (d : Dev) (n : Nat) : Option QueueSet :=
  d.cfg.bind (fun c => c.queueSets.find? (fun r => r.setId = n))

/-- The record of a counter set. -/
def Dev.counterSet (d : Dev) (n : Nat) : Option CounterSet :=
  d.cfg.bind (fun c => c.counterSets.find? (fun r => r.setId = n))

/-- The queue set that owns a queue group (R203). -/
def Dev.setOfGroup (d : Dev) (g : Nat) : Option QueueSet :=
  d.cfg.bind (fun c => c.queueSets.find? (fun q => q.groupFirst ≤ g && g < q.groupFirst + q.groupCount))

/-- The SEQUENCER values in force: the image's, and the defaults while none is (R363). -/
def Dev.seqCfg (d : Dev) : SeqCfg :=
  match d.cfg with
  | some c => c.seq
  | none => SeqCfg.default

/-- The heads of the device: H1 exists only in two-head mode (R11, R68). -/
def Dev.headCount (d : Dev) : Nat := if d.pin.headMode then 2 else 1

/-! ## Event sources: defaults (R469, R418) -/

/-- The default severity of a source (R469): 0 informational, 1 warning, 2 failure, 3 fatal. -/
def defSev (n : Nat) : Nat :=
  if n < 64 then
    if n ∈ [0, 2, 8, 10, 12, 14, 18, 24, 25, 32, 35, 40] then 1
    else if n ∈ [1, 9, 11, 13, 15, 33] then 2
    else if n = 34 then 3 else 0
  else if n < 128 then
    if n ∈ [65, 67, 71] then 1 else if n ∈ [72, 74] then 2 else 0
  else if n < 384 then
    (match n % 16 with
     | 0 => 1 | 1 => 2 | 2 => 1 | _ => 0)
  else if n < 512 then
    (match n % 16 with
     | 0 => 1 | 1 => 2 | 2 => 1 | 3 => 2 | 4 => 1 | _ => 0)
  else if n < 640 then 1
  else if n < 656 then (match n % 4 with | 0 => 1 | 1 => 2 | 2 => 2 | _ => 0)
  else if n = 656 then 2
  else if n < 704 then 0
  else if n < 768 then if n ∈ [706, 708, 709] then 2 else 0
  else if n < 800 then if n = 769 then 1 else if n ∈ [770, 771] then 2 else 0
  else if n < 864 then
    if n ∈ [800, 801, 803, 804, 805] then 1 else if n ∈ [802, 806] then 2 else 0
  else if n < 928 then
    if n ∈ [866, 867, 870] then 1 else if n ∈ [864, 865, 868, 871, 872] then 2 else if n = 869 then 3 else 0
  else if n < 960 then (match n % 4 with | 2 => 1 | 3 => 2 | _ => 0)
  else if n ∈ [961, 1010] then 1
  else if n = 960 then 2
  else if n ∈ [962, 963] then 3
  else 0

/-- The CXL record type of a source (R469): 0 General Media, 1 DRAM, 2 Memory Module, 3 Vendor. -/
def recType (n : Nat) : Nat :=
  if n = 40 then 2
  else if 384 ≤ n && n < 512 && n % 16 = 1 then 0
  else if 640 ≤ n && n < 656 then 1
  else if n ∈ [656, 708, 709, 770, 771, 800, 801, 803, 865, 868, 872] then 0
  else 3

/-- The last EVENTS record that names a source (R417: a later record overrides an earlier one). -/
def Dev.eventRec (d : Dev) (n : Nat) : Option EventRec :=
  d.cfg.bind (fun c => c.events.bind (fun e =>
    (e.records.filter (fun r => r.first ≤ n && n < r.first + r.count)).getLast?))

/-- The routes that R418 gives a severity: bit 0 MSI-X, 1 CXL, 2 ALERT_N, 3 MCTP. -/
def defRoute (sev : Nat) : Nat := if sev = 0 then 2 else if sev = 1 then 10 else 14

/-! ## Performance-counter presets (R426) -/

/-- PMC_CFG fields of one configuration word. -/
def pmcCode (w : Nat) : Nat := bits w 0 12

/-- The configuration word R426 gives counter `c` of group 31 while the section is absent: all units, all classes. -/
def pmcDefault31 (c : Nat) : Nat :=
  let unit := 0xFF * 2 ^ 12 + 3 * 2 ^ 20
  if c ≤ 10 then 0x012 + c + unit + 2 ^ 22
  else if c = 11 then 0x011 + unit + 2 ^ 22
  else if c = 12 then unit + 2 ^ 22 + 2 ^ 23
  else if c = 13 then 0x001 + unit + 2 ^ 22
  else if c = 14 then 0x020 + unit + 2 ^ 22
  else 0

/-- The preset word of a counter: the image's preset for its group, or the default of R426. -/
def Dev.presetWord (d : Dev) (n : Nat) : Nat :=
  match d.cfg.bind (·.presets) with
  | some ps =>
    match (ps.filter (fun p => p.group = n / 16)).getLast? with
    | some p => p.cfgs.getD (n % 16) 0
    | none => 0
  | none => if n / 16 = 31 && d.cfg.isSome then pmcDefault31 (n % 16) else 0

/-! ## Register fields -/

/-- The value of a field that no write has reached since the last reset that clears it: the number of its Reset column,
or what its keyword names (R454). -/
def Dev.dflt (d : Dev) (f : Fld) (i : Nat) : Nat :=
  match f with
  | .EVT_CTL_RATE => ((d.cfg.bind (·.events)).map (·.rate)).getD 64
  | .EVT_CTL_MCTP_EID => ((d.cfg.bind (·.events)).map (·.eid)).getD 0
  | .EVT_CFGn_EN => b2n (((d.eventRec i).map (·.en)).getD true)
  | .EVT_CFGn_SEV => ((d.eventRec i).map (·.sev)).getD (defSev i)
  | .EVT_CFGn_ROUTE => ((d.eventRec i).map (·.route)).getD (defRoute (defSev i))
  | .EVT_CFGn_VECTOR => ((d.eventRec i).map (·.vector)).getD (i % 256)
  | .EVT_CFGn_DEF_SEV => defSev i
  | .PMC_CFGn_EVENT => bits (d.presetWord i) 0 12
  | .PMC_CFGn_UNIT => bits (d.presetWord i) 12 8
  | .PMC_CFGn_CLASS => bits (d.presetWord i) 20 2
  | .PMC_CFGn_ENABLE => bits (d.presetWord i) 22 1
  | .PMC_CFGn_CHAIN => bits (d.presetWord i) 23 1
  | .PMC_CFGn_OVF_EVT => bits (d.presetWord i) 24 1
  | .PMC_CFGn_SAMPLE => bits (d.presetWord i) 25 1
  | .PMC_GRPg_CTL_CLEAR_ON_SNAP =>
    (match d.cfg.bind (·.presets) with
     | some ps => b2n (((ps.filter (fun p => p.group = i)).getLast?.map (·.clearOnSnap)).getD false)
     | none => b2n (i = 31 && d.cfg.isSome))
  | .PMC_GRPg_CTL_INTERVAL_US =>
    (match d.cfg.bind (·.presets) with
     | some ps => ((ps.filter (fun p => p.group = i)).getLast?.map (·.intervalUs)).getD 0
     | none => if i = 31 && d.cfg.isSome then 1000000 else 0)
  | f => f.info.reset

/-- A stored register field. -/
def Dev.reg (d : Dev) (f : Fld) (i : Nat := 0) : Nat :=
  match d.regs.find (f.key i) with
  | some v => v
  | none => d.dflt f i

/-- A stored one-bit field. -/
def Dev.flag (d : Dev) (f : Fld) (i : Nat := 0) : Bool := d.reg f i != 0

/-- The value of a unit's control field that its unit acts by: a write kept under R451 waits until the unit leaves RESETTING
or STARTING. -/
def Dev.regInForce (d : Dev) (f : Fld) (i : Nat := 0) : Nat :=
  match d.ust.kept.find (f.key i) with
  | some e => e.2
  | none => d.reg f i

/-- A one-bit control field that its unit acts by. -/
def Dev.inForce (d : Dev) (f : Fld) (i : Nat := 0) : Bool := d.regInForce f i != 0

/-- Give a stored field a value, cut to its width. -/
def Dev.setReg (d : Dev) (f : Fld) (i v : Nat) : Dev :=
  { d with regs := d.regs.put (f.key i) (v % 2 ^ f.info.width) }

/-- Give a one-bit field a value. -/
def Dev.setFlag (d : Dev) (f : Fld) (i : Nat) (v : Bool) : Dev := d.setReg f i (b2n v)

/-- Count in a field that saturates. -/
def Dev.count (d : Dev) (f : Fld) (i : Nat := 0) (n : Nat := 1) : Dev :=
  d.setReg f i (satAdd f.info.width (d.reg f i) n)

/-- Count in a field that wraps. -/
def Dev.countWrap (d : Dev) (f : Fld) (i : Nat := 0) (n : Nat := 1) : Dev :=
  d.setReg f i (d.reg f i + n)

/-- Set or clear bit `b` of a field. -/
def Dev.setFieldBit (d : Dev) (f : Fld) (i b : Nat) (v : Bool) : Dev :=
  d.setReg f i (setBit (d.reg f i) b v)

/-- Memory Active has been reported (R269 step 7). -/
def Dev.memActive (d : Dev) : Bool := d.flag .GLB_STATUS_MEM_ACTIVE


/-- The reset levels (R381). -/
inductive Level where
  | powerOn | system | core
  deriving DecidableEq, Repr

/-- Whether a level clears a field (R7). Power-on does everything system does, and system everything core does only as
the Cleared by column says. -/
def Level.clears (l : Level) (f : Fld) : Bool :=
  match l with
  | .powerOn => f.info.clrP
  | .system => f.info.clrS
  | .core => f.info.clrC

/-- Clear the register fields that a reset level clears: their stored values go, so that they read their reset value. -/
def Dev.clearRegs (d : Dev) (l : Level) : Dev :=
  let cleared := (regTable.flatMap (·.fields)).filter l.clears |>.map Fld.num
  { d with regs := d.regs.keep (fun k _ => !(cleared.contains (k % 1024))) }

/-- Clear the fields with code U that belong to instance `i` of the registers whose fields pass the test. -/
def Dev.clearUnitRegs (d : Dev) (p : Fld → Bool) (i : Nat) : Dev :=
  let cleared := ((regTable.flatMap (·.fields)).filter (fun f => f.info.clrU && p f)).map (fun f => f.key i)
  { d with regs := d.regs.keep (fun k _ => !(cleared.contains k)) }

/-! ## Free values -/

/-- Draw a free value. -/
def Dev.drawFree (d : Dev) (site : Nat) : Nat × Dev :=
  (Config.free site d.freeCtr, { d with freeCtr := d.freeCtr + 1 })

/-- Draw a free line. -/
def Dev.drawFreeLine (d : Dev) (site : Nat) : Line × Dev :=
  (Config.freeLine site d.freeCtr, { d with freeCtr := d.freeCtr + 1 })

/-! ## Journal -/

/-- Append a record to the journal's DRAM partition (R258). -/
def Dev.journal (d : Dev) (code : Nat) (a : Nat := 0) (b : Nat := 0) (c : Nat := 0) : Dev :=
  { d with jrn := { d.jrn with
      next := d.jrn.next + 1
      recs := { seq := d.jrn.next, code, stamp := d.now, a, b, c } :: d.jrn.recs } }

/-! ## Units (R313) -/

/-- The class of a unit index (R313). -/
def unitClass (ix : Nat) : Nat :=
  if ix < 2 then 0 else if ix < 18 then 1 else if ix < 26 then 2 else if ix < 154 then 3
  else if ix < 218 then 4 else if ix < 222 then 5 else if ix < 286 then 6 else 7

/-- The first unit index of a class. -/
def classBase (c : Nat) : Nat :=
  match c with
  | 0 => 0 | 1 => 2 | 2 => 18 | 3 => 26 | 4 => 154 | 5 => 218 | 6 => 222 | _ => 286

/-- The number of units of a class. -/
def classSize (c : Nat) : Nat :=
  match c with
  | 0 => 2 | 1 => 16 | 2 => 8 | 3 => 128 | 4 => 64 | 5 => 4 | 6 => 64 | _ => 256

/-- The unit identifier of a unit index (R313). -/
def unitIdOf (ix : Nat) : Nat := unitClass ix * 4096 + (ix - classBase (unitClass ix))

/-- The unit index of a unit identifier, if it names a unit. -/
def indexOfId (uid : Nat) : Option Nat :=
  let c := uid / 4096
  let i := uid % 4096
  if c ≤ 7 && i < classSize c then some (classBase c + i) else none

/-- Unit indices by class. -/
def headIx (h : Nat) : Nat := h
def sliceIx (k : Nat) : Nat := 2 + k
def complexIx (n : Nat) : Nat := 18 + n
def linkIx (m : Nat) : Nat := 26 + m
def packageIx (p : Nat) : Nat := 154 + p
def stackIx (s : Nat) : Nat := 218 + s
def regionIx (r : Nat) : Nat := 222 + r
def groupIx (g : Nat) : Nat := 286 + g

/-- The code of a state (R314). -/
def UState.code (s : UState) : Nat := s.ctorIdx

/-- The record of a unit. -/
def Dev.unit (d : Dev) (ix : Nat) : UnitRec := d.ust.units.findD ix {}

/-- The state of a unit. -/
def Dev.ustate (d : Dev) (ix : Nat) : UState := (d.unit ix).state

/-- ONLINE or DEGRADED: in service. -/
def UState.serves (s : UState) : Bool := s = .online || s = .degraded

/-- A unit is in service. -/
def Dev.serves (d : Dev) (ix : Nat) : Bool := (d.ustate ix).serves

/-- Change a unit's record without a change of state. -/
def Dev.setUnitRec (d : Dev) (ix : Nat) (r : UnitRec) : Dev :=
  { d with ust := { d.ust with units := d.ust.units.put ix r } }

/-! ## Event occurrences (R412 to R415) -/

/-- What an occurrence carries besides its source (R416). `heads` is the mask of the heads through which the source's
region or unit is reachable (R85, R413). -/
structure EvInfo where
  unitId : Nat := 0xFFFF
  state : Nat := 0xFF
  gen : Nat := 0
  dpa : Nat := 0
  a : Nat := 0
  b : Nat := 0
  c : Nat := 0
  heads : Nat := 3
  deriving DecidableEq, Repr

/-- Fatal sources and unit-state sources are always enabled (R414). -/
def Dev.evEnabled (d : Dev) (src : Nat) : Bool :=
  d.reg .EVT_CFGn_SEV src = 3 || (928 ≤ src && src < 960) || d.flag .EVT_CFGn_EN src

/-- The routes in force, with those R414 forces. -/
def Dev.evRoute (d : Dev) (src : Nat) : Nat :=
  let r := d.reg .EVT_CFGn_ROUTE src
  if d.reg .EVT_CFGn_SEV src = 3 then r ||| 14
  else if 928 ≤ src && src < 960 then r ||| 10 else r

/-- The host time a record carries: the timebase mapped by Set Timestamp, 0 without a mapping (R86). -/
def Dev.hostTimeOf (d : Dev) (stamp : Nat) : Nat :=
  match d.evt.hostTime with
  | some (h, t) => h + (stamp - t)
  | none => 0

/-- Add a record to one event log; a full log drops it and counts the overflow (R86). -/
def EvtS.logOne (e : EvtS) (key rtype hostTime : Nat) (r : EvRec) : EvtS :=
  let l := e.logs.findD key {}
  let l' : EvLog :=
    if l.recs.length < 256 then
      { l with recs := l.recs ++ [{ handle := l.nextHandle, rtype, hostTime, ev := r }], nextHandle := l.nextHandle + 1 }
    else
      { l with ovfCount := satAdd 16 l.ovfCount 1
               ovfFirst := if l.ovfCount = 0 then hostTime else l.ovfFirst
               ovfLast := hostTime }
  { e with logs := e.logs.put key l' }

/-- Send an MSI-X message of a head, or set the vector's pending bit when it is masked (R413). A reset of the head clears
MSI-X, and software enables it again (R94, R427); no command says when, so whether it has by then is free (log 90). -/
def Dev.msix (d : Dev) (head vector : Nat) : Dev :=
  let k := head * 256 + vector
  if d.evt.msixMasked.contains k then
    { d with evt := { d.evt with msixPending := setInsert d.evt.msixPending k } }
  else if d.evt.msixOn.contains head then d.emit (.msix head vector)
  else
    let n := d.evt.msixTries
    let d := { d with evt := { d.evt with msixTries := n + 1 } }
    if Config.free 427 n % 2 = 0 then d else { d with evt := { d.evt with msixOn := setInsert d.evt.msixOn head } }.emit (.msix head vector)

/-- Send MSI-X messages to the heads of a mask. -/
def Dev.msixHeads (d : Dev) (mask vector : Nat) : Dev :=
  d.each ((List.range d.headCount).filter (fun h => mask.testBit h)) (fun d h => d.msix h vector)

/-- The configuration under which a request of a stamp is handled (R40): that of the first live change after it replaced. -/
def Dev.cfgAt (d : Dev) (t : Nat) : Option Cfg :=
  match (d.oldCfgs.filter (fun p => decide (t < p.1))).getLast? with
  | some p => some p.2
  | none => d.cfg

/-- Run what a host request causes, which carries the request's stamp (R419). -/
def Dev.causedBy (d : Dev) (t : Option Nat) (f : Dev → Dev) : Dev := { f { d with cause := t } with cause := d.cause }

/-- The stamp of an event or a counted item (R419). -/
def Dev.itemStamp (d : Dev) : Nat := d.cause.getD d.now

/-- The count of key `k` in the 1 ms window of a stamp (R420). -/
def windowKey (t k : Nat) : Nat := t / 1000000 * 65536 + k

/-- The device whose event registers an occurrence goes by: those in force at its stamp (R417). -/
def Dev.evView (d : Dev) : Dev :=
  match d.evt.before with
  | some (t, regs) => if d.itemStamp < t then { d with cfg := d.cfgAt d.itemStamp, regs } else d
  | none => d

/-- Queue one MCTP notification (R413): counted as dropped without an endpoint or with the queue full. -/
def Dev.notifyMctp (d : Dev) (r : EvRec) : Dev :=
  if d.evView.reg .EVT_CTL_MCTP_EID = 0 then d.count .EVT_DROP_MCTP
  else if d.evt.mctpQ.length ≥ 64 then d.count .EVT_DROP_MCTP
  else { d with evt := { d.evt with mctpQ := d.evt.mctpQ ++ [r] } }

/-- The event interrupt policy of an interface for a severity: mode in [3:0], message number in [7:4]. -/
def Dev.evPolicy (d : Dev) (i sev : Nat) : Nat := (((d.evt.policy.findD i []).getD sev 0)).toNat

/-- Add a record to the CXL logs of the interfaces it reaches; a log that was empty interrupts its head under the event
interrupt policy (R86, as CXL has it). -/
def Dev.logRecord (d : Dev) (src heads : Nat) (r : EvRec) : Dev :=
  let ifaces := (List.range d.headCount).filter (fun h => heads.testBit h) ++ [2]
  let waits := ifaces.filter (fun i => decide (i < 2) && ((d.evt.logs.find (4 * i + r.sev)).elim true (·.recs.isEmpty)) &&
    d.evPolicy i r.sev % 4 = 1)
  let ht := d.hostTimeOf d.now
  let d := { d with evt := ifaces.foldl (fun e i => e.logOne (4 * i + r.sev) (recType src) ht r) d.evt }
  d.each waits (fun d h => d.msix h (d.evPolicy h r.sev / 16))

/-- Place a record on the CXL log and MCTP routes (step 5 of R412), within the limit of R415: `rate` records of one
source in the 1 ms window of its stamp. -/
def Dev.placeRecord (d : Dev) (src heads : Nat) (r : EvRec) : Dev :=
  let key := windowKey d.itemStamp src
  let route := d.evView.evRoute src
  if route &&& 10 = 0 then d
  else if d.evt.window.findD key 0 ≥ d.evView.reg .EVT_CTL_RATE then d.count .EVT_DROP_RATE
  else
    let d := { d with evt := { d.evt with window := d.evt.window.countIn d.now key } }
    let d := if route.testBit 1 then d.logRecord src heads r else d
    if route.testBit 3 then d.notifyMctp r else d

/-- Whether the status bit of a source is set. -/
def Dev.evStatus (d : Dev) (src : Nat) : Bool := (d.reg .EVT_STATUSw_STATUS (src / 32)).testBit (src % 32)

/-- An occurrence of an event source, handled in the order of R412, under the event registers of its stamp (R417). -/
def Dev.raise (d : Dev) (src : Nat) (i : EvInfo := {}) : Dev :=
  let d := d.count .EVT_CFGn_COUNT src
  let v := d.evView
  if !v.evEnabled src then d else
  let r : EvRec := { source := src, sev := v.reg .EVT_CFGn_SEV src, state := i.state, gen := i.gen, unitId := i.unitId,
                     stamp := d.itemStamp, count := d.reg .EVT_CFGn_COUNT src, dpa := i.dpa, a := i.a, b := i.b, c := i.c }
  let d := { d with evt := { d.evt with last := d.evt.last.put src r } }
  let was := d.evStatus src
  let d := d.setFieldBit .EVT_STATUSw_STATUS (src / 32) (src % 32) true
  let d := if !was && (v.evRoute src).testBit 0 then d.msixHeads i.heads (v.reg .EVT_CFGn_VECTOR src) else d
  d.placeRecord src i.heads r

/-- ALERT_N is driven low while an enabled source with the ALERT_N route has its status bit set, and under R369 and
R377 (R413). -/
def Dev.alertLow (d : Dev) : Bool :=
  d.evt.alertHalt || d.evt.alertSq ||
  (List.range 1024).any (fun s => d.evStatus s && d.evEnabled s && (d.evRoute s).testBit 2)

/-! ## Reachability of regions and groups (R53, R85) -/

/-- The heads that reach a region: its HEADS in the heads the device has (R53). -/
def Dev.regionHeads (d : Dev) (n : Nat) : Nat :=
  match d.region n with
  | some r => r.heads &&& (if d.pin.headMode then 3 else 1)
  | none => 3

/-- The heads that reach a queue group: those bound to a QUEUE region naming its set; both where none names it (R85). -/
def Dev.groupHeads (d : Dev) (g : Nat) : Nat :=
  match d.cfg, d.setOfGroup g with
  | some c, some q =>
    let rs := c.regions.filter (fun r => r.rtype = .queue && r.setId = q.setId)
    if rs.isEmpty then 3 else rs.foldl (fun m r => m ||| d.regionHeads r.number) 0
  | _, _ => 3

/-- The heads that reach a unit (R85): a region's or a group's own, both for the rest. -/
def Dev.unitHeads (d : Dev) (ix : Nat) : Nat :=
  if unitClass ix = 6 then d.regionHeads (ix - 222)
  else if unitClass ix = 7 then d.groupHeads (ix - 286) else 3

/-- Change a unit's state (R315, R316, R325): the generation and UST_SEQ advance, the change is journalled, and the
state-change event of the class is raised. A change of cause alone changes neither. -/
def Dev.setUnit (d : Dev) (ix : Nat) (st : UState) (cause : Nat) (hw : Bool := true) : Dev :=
  let u := d.unit ix
  if u.state = st then d.setUnitRec ix { u with cause := cause, hw := hw }
  else
    let u' : UnitRec := { u with state := st, cause := cause, hw := hw, gen := (u.gen + 1) % 65536, since := d.now,
                                 recovery := false, testing := false, bound := none,
                                 resetPhase := 0,
                                 target := if st = .draining then u.target else none }
    let kept := if u.state = .resetting || u.state = .starting then d.ust.kept.keep (fun _ e => e.1 ≠ ix) else d.ust.kept
    let d := { d with ust := { d.ust with units := d.ust.units.put ix u', seq := d.ust.seq + 1, kept } }
    let d := d.journal 0x06 (unitIdOf ix) (st.code + 16 * cause) u'.gen
    d.raise (928 + 4 * unitClass ix)
      { unitId := unitIdOf ix, state := st.code, gen := u'.gen, a := d.ust.seq, b := cause, c := u.state.code,
        heads := d.unitHeads ix }

/-- Change a unit's state where it differs; its cause stays otherwise. -/
def Dev.moveUnit (d : Dev) (ix : Nat) (st : UState) (cause : Nat) (hw : Bool := true) : Dev :=
  if d.ustate ix = st then d else d.setUnit ix st cause hw

/-- Put a unit into RESETTING for recovery under R328 or for a reset, the idle handshake requested (R385). A reset of any
level ends the debug nonce (R444). -/
def Dev.startReset (d : Dev) (ix cause : Nat) (hw recovery : Bool) : Dev :=
  let d := d.setUnit ix .resetting cause hw
  let d := { d with mgt := { d.mgt with nonce := none } }
  d.setUnitRec ix { d.unit ix with recovery := recovery, resetPhase := 1, since := d.now, phaseAt := d.now }

end Sys2Proof.Machine
end

