-- ==== Sys2Proof/Machine/Perf.lean ====
section
/-!
DEFINITION. Counting into the performance counters (R421 to R425, R427).
-/
namespace Sys2Proof.Machine

/-- The counter groups that count an item of a stamp: those that ran then (R421). Of a group's starts and stops the last is
kept. -/
def Dev.runGroups (d : Dev) (t : Nat) : List Nat :=
  let run := d.regs.filterMap (fun e =>
    if e.1 % 1024 = Fld.num .PMC_GRPg_CTL_RUN && e.2 ≠ 0 then some (e.1 / 1024) else none)
  run.filter (fun g => decide (d.pmc.since.findD g 0 ≤ t)) ++
    (d.pmc.since.filter (fun e => !run.contains e.1 && decide (t < e.2))).map (·.1)

/-- Start or stop a counter group. -/
def Dev.setRun (d : Dev) (g : Nat) (on : Bool) : Dev :=
  if d.flag .PMC_GRPg_CTL_RUN g = on then d
  else { d.setFlag .PMC_GRPg_CTL_RUN g on with pmc := { d.pmc with since := d.pmc.since.put g d.now } }

/-- Whether counter `n` counts an item with this code, unit and class. The class filter applies to the latency bins. -/
def Dev.pmcMatches (d : Dev) (n code unit cls : Nat) : Bool :=
  d.flag .PMC_CFGn_ENABLE n && d.reg .PMC_CFGn_EVENT n = code &&
  (d.reg .PMC_CFGn_UNIT n = 255 || d.reg .PMC_CFGn_UNIT n = unit) &&
  (!(64 ≤ code && code < 72) || d.reg .PMC_CFGn_CLASS n = 3 || d.reg .PMC_CFGn_CLASS n = cls) &&
  !(d.flag .PMC_CFGn_CHAIN n && n % 16 ≠ 0)

/-- A counter whose unit filter is one slice and whose event is a slice's samples (R425). -/
def Dev.pmcSamples (d : Dev) (n : Nat) : Bool :=
  d.flag .PMC_CFGn_SAMPLE n && decide (d.reg .PMC_CFGn_UNIT n < 16) && decide (d.reg .PMC_CFGn_EVENT n < 0x50)

/-- Add to a counter: a wrap raises source 1008 under OVF_EVT, carries into a chained neighbour, and arms a sampling tag
(R422, R425). `fuel` bounds the chain at the 16 counters of a group. -/
def Dev.pmcAdd (d : Dev) (n amount fuel : Nat) : Dev :=
  match fuel with
  | 0 => d
  | k + 1 =>
    let old := d.reg .PMC_CTRn_COUNT n
    let v := old + amount
    let carry := v / 2 ^ 48
    -- what it held before the items of this stamp, for a boundary at the same stamp (R420)
    let fresh := if d.pmc.freshAt = d.now then d.pmc.fresh else []
    let fresh := if d.itemStamp < d.now then (match fresh.find n with | some x => fresh.put n ((x + amount) % 2 ^ 48) | none => fresh)
                 else if fresh.has n then fresh else fresh.put n old
    let d := { d with pmc := { d.pmc with freshAt := d.now, fresh } }
    if carry = 0 then d.setReg .PMC_CTRn_COUNT n v
    else
      let sample := d.pmcSamples n
      let d := d.setReg .PMC_CTRn_COUNT n
        (if sample then 2 ^ 48 - d.reg .PMC_SAMP_CTL_PERIOD else v % 2 ^ 48)
      let d := if sample then
          let (f, d) := d.drawFree 425
          { d with pmc := { d.pmc with
              tags := { slice := d.reg .PMC_CFGn_UNIT n, counter := n, skid := f % 64, left := f % 64 } ::
                d.pmc.tags } }
        else d
      let d := if d.flag .PMC_CFGn_OVF_EVT n then d.raise 1008 { a := n } else d
      if n % 16 ≠ 15 && d.flag .PMC_CFGn_CHAIN (n + 1) && d.flag .PMC_CFGn_ENABLE (n + 1) then
        d.pmcAdd (n + 1) carry k
      else d

/-- Whether counter `n` counts the carries of the one before it in its group (R422). -/
def Dev.chained (d : Dev) (n : Nat) : Bool := n % 16 ≠ 0 && d.flag .PMC_CFGn_CHAIN n && d.flag .PMC_CFGn_ENABLE n

/-- Add to a captured value of a group's counter `c`, with the carries of its chain. -/
def Dev.captureAdd (d : Dev) (g c amount : Nat) (vs : List Nat) : List Nat :=
  (List.range 16).foldl (fun (a : List Nat × Nat) i =>
    let add := if i = c then amount else if c < i && d.chained (16 * g + i) then a.2 else 0
    let v := vs.getD i 0 + add
    (a.1 ++ [v % 2 ^ 48], v / 2 ^ 48)) ([], 0) |>.1

/-- The snapshot of a boundary counts an item that was stamped before it; under CLEAR_ON_SNAP, one of its own interval
(R423, R427). -/
def Dev.captures (d : Dev) (g boundary : Nat) : Bool :=
  decide (d.itemStamp < boundary) &&
    (!d.flag .PMC_GRPg_CTL_CLEAR_ON_SNAP g || decide (boundary ≤ d.itemStamp + d.reg .PMC_GRPg_CTL_INTERVAL_US g * 1000))

/-- Count an item in counter `n` of a group: in the counter itself, unless that counts a later interval by now, and in the
snapshots of later boundaries, published or not (R420, R423, R427; an item that comes after its snapshot was published is
added to the value shown: DESIGN CHOICE, log 97). -/
def Dev.pmcCount (d : Dev) (n amount : Nat) : Dev :=
  let g := n / 16
  let old := d.flag .PMC_GRPg_CTL_CLEAR_ON_SNAP g && decide (d.itemStamp < d.pmc.lastBoundary.findD g 0)
  let d := { d with pmc := { d.pmc with pend := d.pmc.pend.map (fun (p : PmcPend) =>
    if p.group = g && d.captures g p.boundary then { p with values := d.captureAdd g (n % 16) amount p.values } else p) } }
  let d := if d.captures g (d.pmc.shown.findD g 0) then
      let vs := d.captureAdd g (n % 16) amount ((List.range 16).map (fun c => d.reg .PMC_SNAPn_COUNT (16 * g + c)))
      d.each (List.range 16) (fun d c => d.setReg .PMC_SNAPn_COUNT (16 * g + c) (vs.getD c 0))
    else d
  if old then d else d.pmcAdd n amount 16

/-- Count an item in every counter that selects it, while its group runs (R421). -/
def Dev.perf (d : Dev) (code unit : Nat) (cls : Nat := 3) (amount : Nat := 1) : Dev :=
  d.each (d.runGroups d.itemStamp) (fun d g =>
    d.each (List.range 16) (fun d c =>
      if d.pmcMatches (16 * g + c) code unit cls then d.pmcCount (16 * g + c) amount else d))

/-- The latency bin of R423's table. -/
def latencyBin (ns : Nat) : Nat :=
  if ns < 100 then 0 else if ns < 200 then 1 else if ns < 500 then 2 else if ns < 1000 then 3
  else if ns < 2000 then 4 else if ns < 4000 then 5 else if ns < 16000 then 6 else 7

end Sys2Proof.Machine
end

