-- ==== Sys2Proof/Machine/Pages.lean ====
section
/-!
DEFINITION. Pages and lines: page numbers and the translation map (R155 to R160), keys and line verification (R276 to
R287, R304), stored poison (R82, R83), and the store of a line into the DRAM tier with the dirty budget, write-through
persistence and Persistence Degraded (R178, R248 to R257, R273).
-/
namespace Sys2Proof.Machine

/-! ## Page numbers -/

/-- The key under which a region's map segment is listed (R155). -/
def segKey (region : Nat) (delta : Bool) (i : Nat) : Nat := (region * 2 + b2n delta) * 2 ^ 20 + i

/-- Pages of a map segment. -/
def segPages : Nat := 262144

/-- Volatile pages are numbered from here. -/
def volBase : Nat := 2 ^ 32

/-- The page number of a page of a region: its LPN when the region is persistent (R155), a volatile page number
otherwise. A page without a segment takes a number that no map entry names. -/
def Dev.pid (d : Dev) (r : RegionRec) (delta : Bool) (page : Nat) : Nat :=
  match (if r.persist then d.med.segs.find (segKey r.number delta (page / segPages)) else none) with
  | some g => g * segPages + page % segPages
  | none => volBase + (r.number * 2 + b2n delta) * 2 ^ 40 + page

/-- Whether a page number is an LPN. -/
def isLpn (pid : Nat) : Bool := decide (pid < volBase)

/-- The map entry of an LPN (R159). -/
def Dev.mapEntry (d : Dev) (lpn : Nat) : Nat := d.med.map.findD lpn 0xFFFFFFFF

/-- Codes of R159. -/
def mapUnwritten : Nat := 0xFFFFFFFF
def mapPoisoned : Nat := 0xFFFFFFFE

/-- Entries of a map page (R160). -/
def mapPageEntries : Nat := 1024

/-- A page of the map is used, or changed (R160). -/
def Dev.mapTouch (d : Dev) (page : Nat) (change : Bool) : Dev :=
  let x := (d.med.mapCache.find? (fun x => x.page = page)).getD { page }
  let x := if change then { x with dirty := true, ver := x.ver + 1 } else x
  { d with med := { d.med with mapCache := x :: d.med.mapCache.filter (fun y => y.page ≠ page) } }

/-- Set a map entry (MAP_SET of R259); the media copy that no entry names any more goes. -/
def Dev.setMap (d : Dev) (lpn e : Nat) (ver : Nat := 0) : Dev :=
  let old := d.mapEntry lpn
  let m := if e = mapUnwritten then d.med.map.del lpn else d.med.map.put lpn e
  let d := { d with med := { d.med with map := m
                                        pages := if old = e then d.med.pages else d.med.pages.del old } }
  (d.mapTouch (lpn / mapPageEntries) true).journal 0x02 lpn e ver

/-- The region, window and page that a page number belongs to: (region, delta, page index). -/
def Dev.pageOwner (d : Dev) (pid : Nat) : Option (Nat × Bool × Nat) :=
  if isLpn pid then
    (d.med.segs.find? (fun e => e.2 = pid / segPages)).map (fun e =>
      (e.1 / 2 ^ 20 / 2, e.1 / 2 ^ 20 % 2 = 1, e.1 % 2 ^ 20 * segPages + pid % segPages))
  else
    let v := pid - volBase
    some (v / 2 ^ 40 / 2, v / 2 ^ 40 % 2 = 1, v % 2 ^ 40)

/-- The shadow state of a region. -/
def Dev.shadowOf (d : Dev) (n : Nat) : ShadowS := d.shadow.findD n {}

/-- The DPA, alias bits cleared, of a line of a page (R83): a delta page is named at its shadow-window DPA. -/
def Dev.dpaOf (d : Dev) (pid sub : Nat) : Option Nat :=
  match d.pageOwner pid with
  | none => none
  | some (n, delta, page) =>
    (d.region n).map (fun r =>
      if delta then
        let s := d.shadowOf n
        match s.delta.find? (fun e => e.2 = page), s.folding.find? (fun e => e.2 = page) with
        | some e, _ => r.base + r.size + e.1 * 4096 + sub * 64
        | none, some e => r.base + e.1 * 4096 + sub * 64
        | none, none => r.base + r.size + page * 4096 + sub * 64
      else r.base + page * 4096 + sub * 64)

/-! ## Keys -/

/-- The record of a key slot. -/
def Dev.slot (d : Dev) (n : Nat) : KeySlot := d.cry.slots.findD n {}

/-- The key that encrypts a line of a region under a key index (R281, R304): the slot's key, or its partner's below the
boundary of a sweep that runs over the region. None for an EMPTY slot. -/
def Dev.keyFor (d : Dev) (ki region off : Nat) : Option Key :=
  let s := d.slot ki
  match s.st with
  | .active => some s.key
  | .sweepOld =>
    match d.cry.sweeps.find s.sweep with
    | some w => if w.region = region && w.base ≤ off && off < w.d then some (d.slot w.j).key else some s.key
    | none => some s.key
  | _ => none

/-- The keys under which a line of a key index may verify: both keys of an index that is being swept (R304). -/
def Dev.keysOf (d : Dev) (ki : Nat) : List Key :=
  let s := d.slot ki
  match s.st with
  | .active => [s.key]
  | .sweepOld =>
    match d.cry.sweeps.find s.sweep with
    | some w => [s.key, (d.slot w.j).key]
    | none => [s.key]
  | _ => []

/-- A stored line verifies under a key index (R52, R285). -/
def Dev.verifies (d : Dev) (c : Cell) (ki : Nat) : Bool := c.ki = ki && (d.keysOf ki).contains c.key

/-- Encrypt a line under a key index. Under an EMPTY slot the result is unpredictable (R66): a free key. -/
def Dev.seal (d : Dev) (data : Line) (ki region off : Nat) : Cell × Dev :=
  match d.keyFor ki region off with
  | some k => ({ data, ki, key := k }, d)
  | none => let (n, d) := d.drawFree 66; ({ data, ki, key := BitVec.ofNat 256 n }, d)

/-- The device with the key slots and sweeps that were in force at a stamp (R279, R312). -/
def Dev.withKeysAt (d : Dev) (t : Nat) : Dev :=
  match (d.cry.past.filter (fun p => decide (t < p.1))).getLast? with
  | some p => { d with cry := { d.cry with slots := p.2.1, sweeps := p.2.2 } }
  | none => d

/-- The record of a region under which a request of a stamp is handled (R40). -/
def Dev.regionAt (d : Dev) (t n : Nat) : Option RegionRec :=
  (d.cfgAt t).bind (fun c => c.regions.find? (fun r => r.number = n))

/-- Run what handles a request under the configuration of its stamp (R40). -/
def Dev.asOf (d : Dev) (t : Nat) (f : Dev → Dev) : Dev :=
  { f { d with cfg := d.cfgAt t, cause := some t } with cfg := d.cfg, cause := d.cause }

/-- Run a request's effect under the configuration and the keys in force at its stamp (R40, R279, R312). -/
def Dev.underKeysAt {α : Type} (d : Dev) (t : Nat) (f : Dev → α × Dev) : α × Dev :=
  let (a, d') := f { d.withKeysAt t with cfg := d.cfgAt t, cause := some t }
  (a, { d' with cfg := d.cfg, cause := d.cause, cry := { d'.cry with slots := d.cry.slots, sweeps := d.cry.sweeps } })

/-- Note the keys in force, before a change of them, for the requests that still wait. -/
def Dev.keepKeys (d : Dev) : Dev :=
  let waits := !d.tal.items.isEmpty || d.slices.any (fun e => !e.2.ingress.isEmpty)
  { d with cry := { d.cry with past := if waits then (d.now, d.cry.slots, d.cry.sweeps) :: d.cry.past else [] } }

/-- A running step of a sweep is abandoned (R306): no effect, a retry later; every 1,000th of one page raises source 808. -/
def Dev.abandonStep (d : Dev) (n : Nat) : Dev :=
  match d.cry.sweeps.find n with
  | none => d
  | some w =>
    match w.step with
    | none => d
    | some t =>
      if d.now < t then d else
      let retry := ((d.cfg.map (·.crypto.rhRetryUs)).getD 50) * 1000
      let w := { w with step := none, retryAt := d.now + retry, abandons := w.abandons + 1 }
      let d := { d with cry := { d.cry with sweeps := d.cry.sweeps.put n w } }.count .CRY_RHs_CNT_ABANDONS n
      if w.abandons % 1000 = 0 then d.raise 808 { a := w.k, c := w.d, heads := d.regionHeads w.region } else d

/-- The steps of the sweeps that a test picks are abandoned. -/
def Dev.abandonSteps (d : Dev) (p : Sweep → Bool) : Dev :=
  d.each ((d.cry.sweeps.filter (fun e => p e.2)).map (·.1)) Dev.abandonStep

/-! ## Lines -/

/-- The cell that holds a line: the DRAM tier's, else the media copy's (R107). None: the line is unwritten (R47). -/
def Dev.cellAt (d : Dev) (pid sub : Nat) : Option Cell :=
  match (d.tier.find pid).bind (fun p => p.lines.find sub) with
  | some c => some c
  | none => if isLpn pid then (d.med.pages.find (d.mapEntry pid)).bind (fun m => m.lines.find sub) else none

/-- Whether the DRAM tier holds a line. -/
def Dev.inTier (d : Dev) (pid sub : Nat) : Bool := ((d.tier.find pid).bind (fun p => p.lines.find sub)).isSome

/-- Whether a line is stored poisoned (R82): listed, or on a poisoned page whose line has not been written since. -/
def Dev.poisoned (d : Dev) (pid sub : Nat) : Bool :=
  d.poison.lines.has (pid * 64 + sub) || d.poison.pages.contains pid ||
  (isLpn pid && d.mapEntry pid = mapPoisoned && !d.inTier pid sub)

/-- The lost leaf or orphaned node that covers an LPN, by its lowest level (R298). -/
def Dev.orphanOf (d : Dev) (pid : Nat) : Option Nat :=
  if isLpn pid then ((d.cry.orphans.filter (fun o => pid / 8 ^ o.1 = o.2)).map (·.1)).foldl
      (fun a l => some (match a with | none => l | some b => min b l)) none
  else none

/-- Whether a page's region checks freshness (STRICT); a volatile page does not (R49). -/
def Dev.strictOf (d : Dev) (pid : Nat) : Bool :=
  match d.pageOwner pid with
  | some (n, _, _) => ((d.region n).map (fun r => r.strict && r.persist)).getD false
  | none => false

/-- A line of a swept key index verified under the other key of the pair (R304). -/
def Dev.secondKey (d : Dev) (pid sub ki : Nat) (c : Cell) : Bool :=
  (d.slot ki).st = .sweepOld &&
  (match d.pageOwner pid, d.dpaOf pid sub with
   | some (n, _, _), some a =>
     (match d.region n with
      | some r => decide (d.keyFor ki n ((a - r.base) % max r.size 1) ≠ some c.key)
      | none => false)
   | _, _ => false)

/-- A read of a line is answered with poison because its leaf is lost, or a node above it under STRICT (R298). -/
def Dev.orphanPoison (d : Dev) (pid sub : Nat) : Bool :=
  !d.inTier pid sub && d.mapEntry pid ≠ mapUnwritten &&
  (match d.orphanOf pid with
   | some l => l = 0 || d.strictOf pid
   | none => false)

/-- The counters of a line in its page's leaf, MAJOR × 64 + minor (R281, R282). -/
def Leaf.counters (l : Leaf) (sub : Nat) : Nat := l.major * 64 + l.minors.findD sub 0

/-- The media copy of a line is encrypted under counters that its leaf no longer holds (R285): its MAC fails, or, where the
leaf's minor is 0, the line has no media copy under that major. -/
def Dev.staleLine (d : Dev) (pid sub : Nat) : Bool :=
  !d.inTier pid sub && isLpn pid &&
  (match d.med.pages.find (d.mapEntry pid) with
   | some m => m.ctrs.findD sub 0 ≠ (d.med.leaves.findD pid {}).counters sub
   | none => false)

/-- The value of a line for a read under a key index (R47, R52, R82, R285, R298). An EMPTY slot gives a free line (R66). A
line of an orphaned subtree that the tier does not hold is poison under STRICT or with its leaf lost, and is served
unverified, counted, with event 803, under MAC-ONLY. -/
def Dev.lineVal (d : Dev) (pid sub ki : Nat) : RdVal × Dev :=
  if d.poisoned pid sub then (.stored, d)
  else match d.cellAt pid sub with
    | none =>
      -- a line of a media copy that holds none: its minor of 0 counts only where the leaf can be trusted
      match d.orphanOf pid with
      | some l =>
        if d.mapEntry pid ≠ mapUnwritten && (l = 0 || d.strictOf pid) then (.offline, d) else (.data 0, d)
      | none => (.data 0, d)
    | some c =>
      let orphan := if d.inTier pid sub then none else d.orphanOf pid
      if (d.slot ki).st = .empty || (d.slot ki).st = .sweepNew then
        let (l, d) := d.drawFreeLine 66; (.data l, d)
      else if d.staleLine pid sub then
        (if orphan.isNone && (d.med.leaves.findD pid {}).minors.findD sub 0 = 0 then .data 0 else .macFail, d)
      else if !d.verifies c ki then (.macFail, d)
      else
      let d := if d.secondKey pid sub ki c then d.count .CRY_ERR0_SECOND_KEY else d
      match orphan with
        | none => (.data c.data, d)
        | some l =>
          if l = 0 || d.strictOf pid then (.offline, d)
          else
            let heads := match d.pageOwner pid with | some (n, _, _) => d.regionHeads n | none => 3
            (.data c.data, (d.count .ORC_UNVER_LINES).raise 803 { dpa := (d.dpaOf pid sub).getD 0, a := ki, b := l,
                                                                   c := pid / 8 ^ l, heads })

/-- Change a page of the DRAM tier. -/
def Dev.setPage (d : Dev) (pid : Nat) (p : TPage) : Dev := { d with tier := d.tier.put pid p }

/-- The tier's page record; a page that the tier does not hold has its media copy's clean version. -/
def Dev.page (d : Dev) (pid : Nat) : TPage :=
  d.tier.findD pid { version := if isLpn pid then ((d.med.pages.find (d.mapEntry pid)).map (·.version)).getD 0 else 0 }

/-! ## Line cache invalidation (the cache is write-through, R119) -/

/-- The sector address of a DPA with its alias bits cleared (R100). -/
def sectorOf (dpa : Nat) : Nat := dpa / 256

/-- The owning slice of a sector (R100). -/
def sliceOfSector (a : Nat) : Nat := xorFold 4 a 10

/-- The line-cache set of a sector (R100). -/
def setOfSector (a : Nat) : Nat := bits a 4 10 ^^^ bits a 14 10 ^^^ bits a 24 10

/-- A slice. -/
def Dev.slice (d : Dev) (k : Nat) : SliceS := d.slices.findD k {}

/-- Change a slice. -/
def Dev.setSlice (d : Dev) (k : Nat) (s : SliceS) : Dev := { d with slices := d.slices.put k s }

/-- Drop what the line caches, holds and run-ahead buffers keep of the sectors that a test picks. -/
def Dev.dropCached (d : Dev) (p : Nat → Nat → Bool) : Dev :=
  { d with slices := d.slices.map (fun e => (e.1,
      { e.2 with ways := e.2.ways.keep (fun _ w => !p w.region w.sector)
                 hold := e.2.hold.keep (fun _ h => !p h.region h.sector)
                 ra := e.2.ra.filter (fun x => !p x.region (x.line / 4)) })) }

/-- Drop the cached copies of one line, whatever the key index. -/
def Dev.dropLine (d : Dev) (dpa : Nat) : Dev :=
  let a := sectorOf dpa
  let sub := dpa / 64 % 4
  { d with slices := d.slices.map (fun e => (e.1,
      { e.2 with ways := e.2.ways.map (fun (w : Nat × LcWay) =>
                   if w.2.sector = a then (w.1, { w.2 with lines := w.2.lines.del sub }) else w)
                 hold := e.2.hold.map (fun (h : Nat × HoldEntry) =>
                   if h.2.sector = a then (h.1, { h.2 with lines := h.2.lines.del sub }) else h)
                 ra := e.2.ra.filter (fun x => x.line ≠ dpa / 64) })) }

/-! ## Poison (R82, R83) -/

/-- Poison sources. -/
def poisonExternal : Nat := 0
def poisonInjected : Nat := 1
def poisonInternal : Nat := 2
def poisonVendor : Nat := 3

/-- Insert a stored-poisoned line by DPA: (DPA, lines, source). -/
def insertPoison (x : Nat × Nat × Nat) (l : List (Nat × Nat × Nat)) : List (Nat × Nat × Nat) :=
  match l with
  | [] => [x]
  | y :: r => if x.1 ≤ y.1 then x :: y :: r else y :: insertPoison x r

/-- Merge adjacent lines of one source, the list being in DPA order (R83). -/
def mergePoison (l : List (Nat × Nat × Nat)) : List (Nat × Nat × Nat) :=
  l.foldr (fun x a => match a with
    | y :: r => if x.1 + 64 * x.2.1 = y.1 && x.2.2 = y.2.2 then (x.1, x.2.1 + y.2.1, x.2.2) :: r else x :: y :: r
    | [] => [x]) []

/-- The stored-poisoned lines, by DPA, that belong to the regions a test picks (R83). -/
def Dev.poisonLines (d : Dev) (p : Nat → Bool) : List (Nat × Nat × Nat) :=
  let at_ := fun (pid sub n src : Nat) => match d.pageOwner pid, d.dpaOf pid sub with
    | some (m, _, _), some a => if p m then some (a, n, src) else none
    | _, _ => none
  -- a lost page's lines are stored poisoned until they are written (R159, R173)
  let lost := d.med.map.filter (fun e => e.2 = mapPoisoned && !d.poison.pages.contains e.1)
  let rest := lost.flatMap (fun e => ((List.range 64).filter (fun s =>
    !d.inTier e.1 s && !d.poison.lines.has (e.1 * 64 + s))).filterMap (fun s => at_ e.1 s 1 poisonInternal))
  (d.poison.lines.filterMap (fun e => at_ (e.1 / 64) (e.1 % 64) 1 e.2) ++ rest ++
    d.poison.pages.filterMap (fun pid => at_ pid 0 64 poisonInternal)).foldr insertPoison []

/-- Where the device's list of 65,536 records ends: the DPA of the first record that it cannot hold (R83). -/
def Dev.poisonEnd (d : Dev) : Nat := (((mergePoison (d.poisonLines (fun _ => true))).drop 65536).head?.map (·.1)).getD (2 ^ 48)

/-- Note the first poison record that the list of 65,536 cannot hold (R83). -/
def Dev.notePoison (d : Dev) : Dev :=
  if d.poison.overflow.isNone &&
      decide (65536 < d.poison.lines.length + d.poison.pages.length + 64 * d.med.map.countP (fun e => e.2 = mapPoisoned)) &&
      decide (65536 < (mergePoison (d.poisonLines (fun _ => true))).length) then
    { d with poison := { d.poison with overflow := some (d.hostTimeOf d.now) } }
  else d

/-- List the lines of a page that is poisoned whole, before one of them changes. -/
def Dev.splitPoison (d : Dev) (pid : Nat) : Dev :=
  if d.poison.pages.contains pid then
    { d with poison := { d.poison with
        lines := (List.range 64).foldl (fun (m : AMap Nat) s => m.put (pid * 64 + s) poisonInternal) d.poison.lines
        pages := setErase d.poison.pages pid } }
  else d

/-- Store a line poisoned: the list names it, the journal records it, and no cached copy stays. -/
def Dev.poisonLine (d : Dev) (pid sub src : Nat) : Dev :=
  let d := d.splitPoison pid
  let d := { d with poison := { d.poison with lines := d.poison.lines.put (pid * 64 + sub) src } }.notePoison
  let d := { d with tier := d.tier.alter pid (fun p => { p with lines := p.lines.del sub }) }
  let d := match d.dpaOf pid sub with
    | some a => d.dropLine a
    | none => d
  d.journal 0x0B (pid * 64 + sub) (src + 1)

/-- End a line's poison. -/
def Dev.unpoison (d : Dev) (pid sub : Nat) : Dev :=
  let d := d.splitPoison pid
  if d.poison.lines.has (pid * 64 + sub) then
    { d with poison := { d.poison with lines := d.poison.lines.del (pid * 64 + sub) } }.journal 0x0B (pid * 64 + sub) 0
  else d

/-- A page is lost: its map entry takes 0xFFFF_FFFE, its copies go, and an event names it (R173, R175, R248, R269). -/
def Dev.losePage (d : Dev) (lpn source : Nat) : Dev :=
  let dpa := (d.dpaOf lpn 0).getD 0
  let heads := match d.pageOwner lpn with | some (n, _, _) => d.regionHeads n | none => 3
  let d := { d with tier := d.tier.del lpn }
  let d := (d.setMap lpn mapPoisoned).notePoison
  let d := d.dropCached (fun _ s => s / 16 = dpa / 4096)
  d.raise source { dpa, b := 1, heads }

/-! ## Stacks, dirty data and the budget (R248 to R254) -/

/-- The stacks that serve. -/
def Dev.onlineStacks (d : Dev) : List Nat := (List.range 4).filter (fun k => d.serves (stackIx k))

/-- Choose `n` distinct ONLINE stacks; the choice is the device's own (R248), so it is free. -/
def Dev.pickStacks (d : Dev) (n : Nat) : List Nat × Dev :=
  let s := d.onlineStacks
  if s.length ≤ n then (s, d)
  else
    let (f, d) := d.drawFree 248
    let a := s.getD (f % s.length) 0
    let rest := s.filter (· ≠ a)
    if n = 1 then ([a], d)
    else
      let (f, d) := d.drawFree 248
      ([a, rest.getD (f % rest.length) 0], d)

/-- Uncovered dirty pages (R249). -/
def Dev.uncovered (d : Dev) : Nat := d.tier.countP (fun e => isLpn e.1 && e.2.dirty && !e.2.covered)

/-- Covered dirty pages. -/
def Dev.covered (d : Dev) : Nat := d.tier.countP (fun e => isLpn e.1 && e.2.dirty && e.2.covered)

/-- Unpersistable pages (R178). -/
def Dev.unpersCount (d : Dev) : Nat := d.tier.countP (fun e => e.2.unpers)

/-- The effective quench budget B in bytes (R249): 0 while fewer than two stacks are ONLINE. -/
def Dev.budget (d : Dev) : Nat :=
  if d.onlineStacks.length < 2 then 0 else d.reg .JRN_BUDGET_EFFECTIVE * 2 ^ 20

/-- Persistence Degraded causes of R273, as bits of DRT_PDEG.CAUSE: 0 EXHAUSTED, 1 TEMPERATURE, 2 GATHER, 3 HOLDUP. -/
def Dev.setPdeg (d : Dev) (cause : Nat) (on : Bool) : Dev :=
  let old := d.reg .DRT_PDEG_CAUSE
  let new := setBit old cause on
  if old = new then d else
  let d := (d.setReg .DRT_PDEG_CAUSE 0 new).setFlag .DRT_PDEG_ACTIVE 0 (new ≠ 0)
  let d := d.setFlag .GLB_STATUS_PDEG 0 (new ≠ 0)
  d.raise 864 { a := new, b := d.unpersCount }

/-- A page is of a region with placement pinned-in-DRAM. -/
def Dev.pinned (d : Dev) (pid : Nat) : Bool :=
  match d.pageOwner pid with
  | some (n, _, _) => (d.region n).any (fun r => r.rtype = .table && r.placement = 3)
  | none => false

/-- The clean copies that the table-page partition has room for: what volatile state leaves free (R474). -/
def Dev.cleanRoom (d : Dev) : Nat := ((d.cfg.map (fun c => c.tier.tableMib * 2 ^ 20 - c.volatileBytes)).getD 0) / 4096

/-- Insert a page by the moment of its last use. -/
def insertByUse (x : Nat × TPage) (l : List (Nat × TPage)) : List (Nat × TPage) :=
  match l with
  | [] => [x]
  | y :: r => if x.2.usedAt < y.2.usedAt then x :: y :: r else y :: insertByUse x r

/-- Clean copies beyond the partition's room are displaced, the least recently used first; those of pinned regions stay
(R474). -/
def Dev.trimClean (d : Dev) : Dev :=
  let clean := d.tier.filter (fun e => isLpn e.1 && !e.2.dirty)
  let n := clean.length - d.cleanRoom
  if n = 0 then d
  else d.each (((clean.filter (fun e => !d.pinned e.1)).foldl (fun l e => insertByUse e l) []).take n) (fun d e =>
    { d with tier := d.tier.del e.1 })

/-- The DRAM tier serves a read of a page. -/
def Dev.touch (d : Dev) (pid : Nat) : Dev :=
  match d.tier.find pid with
  | some p => d.setPage pid { p with usedAt := d.now }
  | none => d

/-- Live through sheets. -/
def Dev.liveSheets (d : Dev) : Nat := d.per.sheets.countP (fun e => d.per.thru.any (fun t => t.sheet = e.1))

/-- Packages that are in service. -/
def Dev.onlinePackages (d : Dev) : List Nat := (List.range 64).filter (fun p => d.serves (packageIx p))

/-- A through pair exists: two ONLINE packages whose fast windows are open (R255, R195). -/
def Dev.throughPair (d : Dev) : Bool :=
  decide (2 ≤ (d.onlinePackages.filter (fun p => !(d.med.pkgs.findD p {}).fastClosed)).length)

/-- A through sheet finds gather space (R273). -/
def Dev.gatherSpace (d : Dev) : Bool := !d.med.gather.isEmpty

/-- How many records a through sheet holds. -/
def Dev.sheetFill (d : Dev) (s : Nat) : Nat := d.per.thru.countP (fun r => r.sheet = s)

/-- Append a through record to the sheet being filled, cutting it at 42 records (R255, R256). -/
def Dev.through (d : Dev) (lpn sub version : Nat) (c : Cell) : Dev :=
  let cur := d.per.nextSheet
  let s := d.per.sheets.findD cur { firstAt := d.now }
  let (n, s) := if s.cut then (cur + 1, { firstAt := d.now : ThruSheet }) else (cur, s)
  let rec' : ThruRec := { seq := d.per.thruSeq, lpn, sub, version, cell := c, sheet := n }
  let d := { d with per := { d.per with thru := d.per.thru ++ [rec'], thruSeq := d.per.thruSeq + 1, nextSheet := n } }
  let s := { s with cut := decide (42 ≤ d.sheetFill n) }
  let d := { d with per := { d.per with sheets := d.per.sheets.put n s } }
  d.count .JRN_THRU_LINES

/-- What storing a line came to: stored, stored and waiting for the through sheets named, or lost (R178). -/
inductive Stored where
  | done | sheets (ns : List Nat) | lost
  deriving DecidableEq, Repr

/-- The through sheets that a store waits for. -/
def Stored.waits (s : Stored) : List Nat :=
  match s with
  | .sheets ns => ns
  | _ => []

/-- Two stores of one request: it waits for the sheets of both (R19), and is lost when a line of it is. -/
def Stored.and (s t : Stored) : Stored :=
  match s, t with
  | .lost, _ | _, .lost => .lost
  | .done, t => t
  | s, .done => s
  | .sheets a, .sheets b => .sheets (mergeSet a b)

/-- A store with copies that were made for it: it waits for their sheets too (R19); a lost copy is no loss of the store. -/
def Stored.after (s copies : Stored) : Stored := if copies = .lost then s else s.and copies

/-- A write to a page goes through to the gather zone (R250, R255): under THROUGH_ALL, on a covered page, or where the page
would take dirty data past the budget. -/
def Dev.wantThru (d : Dev) (p : TPage) : Bool :=
  d.flag .JRN_STATUS_THROUGH_ALL || (p.dirty && p.covered) || (!p.dirty && decide (d.uncovered * 4096 + 4096 > d.budget))

/-- Store a line into the DRAM tier (R110, R248 to R250): a volatile page in one stack, a persistent one mirrored and
dirty; write-through persistence and Persistence Degraded as their rules state. -/
def Dev.storeCell (d : Dev) (pid sub : Nat) (c : Cell) : Stored × Dev :=
  let d := d.unpoison pid sub
  let p := d.page pid
  if !isLpn pid then
    let (st, d) := if p.copies.isEmpty then d.pickStacks 1 else (p.copies, d)
    (.done, d.setPage pid { p with lines := p.lines.put sub c, copies := st, usedAt := d.now })
  else
    let wantThru := d.wantThru p
    let pair := d.throughPair
    let space := d.gatherSpace
    let thru := wantThru && pair && space
    let d := if wantThru && !pair then d.setPdeg 3 true else if wantThru && !space then d.setPdeg 2 true else d
    let unpers := wantThru && !thru
    let limit := ((d.cfg.map (·.tier.dirtyMib)).getD 0) * 2 ^ 20 - d.budget
    -- while EXHAUSTED or TEMPERATURE stands, a page that becomes dirty adds to what cannot be written back
    let adds := unpers || (!p.dirty && d.reg .DRT_PDEG_CAUSE % 4 ≠ 0)
    if adds && !p.unpers && decide (d.unpersCount * 4096 + 4096 > limit) then
      let d := d.count .DRT_PDEG_LOST
      let heads := match d.pageOwner pid with | some (n, _, _) => d.regionHeads n | none => 3
      (.lost, (d.poisonLine pid sub poisonInternal).raise 865 { dpa := (d.dpaOf pid sub).getD 0, b := 1, heads })
    else
      let covered := if p.dirty then p.covered && thru else thru
      let (st, d) := if p.dirty && !p.copies.isEmpty then (p.copies, d) else d.pickStacks 2
      let mark := !p.dirty || (p.covered && !covered)
      let d := if mark then d.journal 0x01 pid p.version (b2n covered) else d
      let ver := (p.version + 1) % 2 ^ 32
      let d := d.setPage pid
        { p with lines := p.lines.put sub c, dirty := true, covered, version := ver
                 dirtiedAt := if p.dirty then p.dirtiedAt else d.now, copies := st
                 unpers := p.unpers || unpers, written := setInsert p.written sub, usedAt := d.now, image := none }
      let d := { d with per := { d.per with dirtyPeak := max d.per.dirtyPeak d.uncovered } }
      if thru then
        let d := d.through pid sub ver c
        (.sheets [d.per.nextSheet], d)
      else (.done, d)

/-- Store a line poisoned by a write with the Poison bit, or by the device: it is stored as any line is, so the page
becomes dirty (R82, R110); what it holds is never read. -/
def Dev.storePoison (d : Dev) (pid sub src : Nat) : Stored × Dev :=
  let (st, d) := d.storeCell pid sub { data := 0, ki := 0, key := 0 }
  (if st = .lost then .done else st, d.poisonLine pid sub src)

end Sys2Proof.Machine
end

