-- ==== Sys2Proof/Machine/Orchard.lean ====
section
/-!
DEFINITION. The orchard in its cache (R289 to R295) and the pages of the metadata stream: where they lie, and which pages of
the map are resident (R145, R160).
-/
namespace Sys2Proof.Machine

/-! ## Entries (R289) -/

/-- An entry's key: its level and index. -/
def orcKey (level index : Nat) : Nat := level * 2 ^ 32 + index
def orcLevel (k : Nat) : Nat := k / 2 ^ 32
def orcIndex (k : Nat) : Nat := k % 2 ^ 32
/-- The parent of an entry, and its counter slot there. -/
def orcParent (k : Nat) : Nat := orcKey (orcLevel k + 1) (orcIndex k / 8)
def orcSlot (k : Nat) : Nat := orcIndex k % 8

/-- The node counter that marks an orphaned child (R295). -/
def orphanCounter : Nat := 2 ^ 56 - 1

/-- The counter of an entry in its parent (R290, R295). -/
def Dev.entryCtr (d : Dev) (k : Nat) : Nat :=
  if d.cry.orphans.contains (orcLevel k, orcIndex k) then orphanCounter else d.cry.orc.ctr.findD k 0

/-- Change the orchard. -/
def Dev.setOrc (d : Dev) (o : OrcS) : Dev := { d with cry := { d.cry with orc := o } }

/-- The contents of an entry as it is written (R289, R291): `ctr` is its counter in its parent that the MAC is made under. -/
def Dev.orcContents (d : Dev) (k ctr : Nat) : OrcStored :=
  if orcLevel k = 0 then { leaf := d.med.leaves.findD (orcIndex k) {}, ctr, seq := d.cry.orc.seq }
  else { ctrs := (List.range 8).foldl (fun (a : AMap Nat) i =>
           let c := d.entryCtr (orcKey (orcLevel k - 1) (orcIndex k * 8 + i))
           if c = 0 then a else a.put i c) []
         ctr, seq := d.cry.orc.seq }

/-! ## The cache (R292) -/

/-- The cache line of an entry. -/
def OrcS.line (o : OrcS) (k : Nat) : Option OrcLine := o.cache.find? (fun x => x.key = k)

/-- The cache holds an entry: levels 8 to 11 are always resident. -/
def Dev.orcCached (d : Dev) (k : Nat) : Bool := decide (8 ≤ orcLevel k) || (d.cry.orc.line k).isSome

/-- A line becomes the most recently used. -/
def OrcS.put (o : OrcS) (x : OrcLine) : OrcS := { o with cache := x :: o.cache.filter (fun y => y.key ≠ x.key) }

/-- A cached entry is used. -/
def Dev.orcUse (d : Dev) (k : Nat) : Dev :=
  match d.cry.orc.line k with
  | some x => d.setOrc (d.cry.orc.put x)
  | none => d

/-- An entry enters the cache, unchanged. -/
def Dev.orcEnter (d : Dev) (k : Nat) : Dev :=
  match d.cry.orc.line k with
  | some _ => d
  | none => d.setOrc (d.cry.orc.put { key := k })

/-- The entries above an entry, up to level 7: a changed entry pins them (R292). -/
def orcAbove (fuel k : Nat) : List Nat :=
  match fuel with
  | 0 => []
  | n + 1 => if 7 ≤ orcLevel k then [] else orcParent k :: orcAbove n (orcParent k)

/-- Counters of an entry advance, by slot (of a leaf: by line, MAJOR as 64): it is changed, and its ancestors are pinned. -/
def Dev.orcMark (d : Dev) (k : Nat) (slots : List Nat) : Dev :=
  let x := (d.cry.orc.line k).getD { key := k }
  let adv := slots.foldl (fun (a : AMap Nat) s => a.put s (a.findD s 0 + 1)) x.adv
  (d.each (orcAbove 8 k) Dev.orcEnter).setOrc
    ((d.each (orcAbove 8 k) Dev.orcEnter).cry.orc.put { x with changed := true, adv })

/-- An entry is to be written once more: a row that held its newest write was abandoned. -/
def Dev.orcAgain (d : Dev) (k : Nat) : Dev :=
  (d.each (orcAbove 8 k) Dev.orcEnter).setOrc
    ((d.each (orcAbove 8 k) Dev.orcEnter).cry.orc.put { (d.cry.orc.line k).getD { key := k } with changed := true })

/-- How far the counters of an entry have advanced beyond its stored copy. -/
def Dev.orcBehind (d : Dev) (k : Nat) : AMap Nat :=
  let s : OrcStored := (d.cry.orc.stored.find k).getD { ctr := 0, seq := 0 }
  if orcLevel k = 0 then
    let l := d.med.leaves.findD (orcIndex k) {}
    if l.major ≠ s.leaf.major then [(64, 1)]
    else (l.minors.filter (fun x => s.leaf.minors.findD x.1 0 < x.2)).map (fun x => (x.1, x.2 - s.leaf.minors.findD x.1 0))
  else (List.range 8).foldl (fun (a : AMap Nat) i =>
    let c := d.entryCtr (orcKey (orcLevel k - 1) (orcIndex k * 8 + i))
    if s.ctrs.findD i 0 < c then a.put i (c - s.ctrs.findD i 0) else a) []

/-- Whether a page of the metadata stream that holds an entry waits in a row. -/
def Dev.orcPending (d : Dev) (k : Nat) : Bool := d.med.rows.any (fun r => r.pages.any (fun p => p.entries.any (fun x => x.1 = k)))

/-- The entries of a path, from one upward, that the cache does not hold, up to the first that it holds. -/
def Dev.uncached (d : Dev) (fuel k : Nat) : List Nat :=
  match fuel with
  | 0 => []
  | n + 1 => if d.orcCached k then [] else k :: d.uncached n (orcParent k)

/-- The entries of levels 0 to 7 that the cache has room for beside the 293 of levels 8 to 11 (R292). -/
def orcRoom : Nat := 131072 - 293

/-- The least recently used entry that can leave the cache: not above a changed entry. -/
def OrcS.victim (o : OrcS) : Option OrcLine :=
  let pinned := (o.cache.filter (·.changed)).flatMap (fun x => orcAbove 8 x.key)
  (o.cache.filter (fun x => decide (orcLevel x.key < 8) && !pinned.contains x.key)).getLast?

/-- Quench writes the changed entries, from the leaves up, so that each holds the counters of those below as they are written
(R266, R291). The answer is the entries and the counters of the root node, the seal's ROOT (R292). -/
def Dev.orcQuench (d : Dev) : List (Nat × OrcStored) × List Nat × Dev :=
  let (es, d) := (List.range 11).foldl (fun (a : List (Nat × OrcStored) × Dev) l =>
    ((a.2.cry.orc.cache.filter (fun x => x.changed && orcLevel x.key = l)).map (·.key)).foldl (fun a k =>
      let c := (a.2.entryCtr k + 1) % 2 ^ 56
      let d := a.2.setOrc { a.2.cry.orc with ctr := a.2.cry.orc.ctr.put k c }
      (a.1 ++ [(k, d.orcContents k c)], d.orcMark (orcParent k) [orcSlot k])) a) ([], d)
  (es, (List.range 8).map (fun i => d.entryCtr (orcKey 10 i)), d)

/-- After a sealed quench the entries that it wrote are changed against their stored copies, and the root is the seal's
(R269). -/
def Dev.orcRestore (d : Dev) (es : List (Nat × OrcStored)) (root : List Nat) : Dev :=
  let d := d.each es (fun (d : Dev) (e : Nat × OrcStored) =>
    let d := d.setOrc { d.cry.orc with ctr := d.cry.orc.ctr.put e.1 e.2.ctr }
    if orcLevel e.1 = 0 then { d with med := { d.med with leaves := d.med.leaves.put (orcIndex e.1) e.2.leaf } }
    else
      let ctr := e.2.ctrs.foldl (fun (a : AMap Nat) x => a.put (orcKey (orcLevel e.1 - 1) (orcIndex e.1 * 8 + x.1)) x.2) d.cry.orc.ctr
      d.setOrc { d.cry.orc with ctr })
  let ctr := ((List.range root.length).filter (fun i => root.getD i 0 ≠ 0)).foldl
    (fun (a : AMap Nat) i => a.put (orcKey 10 i) (root.getD i 0)) d.cry.orc.ctr
  let d := d.setOrc { d.cry.orc with ctr }
  let d := d.each (es.map (·.1)) Dev.orcAgain
  let cache := d.cry.orc.cache.map (fun (x : OrcLine) => if x.changed then { x with adv := d.orcBehind x.key } else x)
  { d with cry := { d.cry with orc := { d.cry.orc with cache }, rebased := false } }

/-- Without a seal the orchard is what the stored entries hold (R301): each leaf and each counter as its stored entry has
it, zero where none was ever written; the counters of level-10 entries as those entries were written. -/
def Dev.orcRebase (d : Dev) : Dev :=
  let st := d.cry.orc.stored
  let ctr := st.foldl (fun (a : AMap Nat) x =>
    let a := if orcLevel x.1 = 10 then a.put x.1 x.2.ctr else a
    x.2.ctrs.foldl (fun (a : AMap Nat) c => a.put (orcKey (orcLevel x.1 - 1) (orcIndex x.1 * 8 + c.1)) c.2) a) []
  let leaves := (st.filter (fun x => orcLevel x.1 = 0)).foldl (fun (a : AMap Leaf) x => a.put (orcIndex x.1) x.2.leaf) []
  let d := d.setOrc { d.cry.orc with ctr, cache := [] }
  { d with med := { d.med with leaves }, cry := { d.cry with rebased := true } }

/-- The counter of an entry in its parent becomes the next graft value (R295). -/
def Dev.graftCounter (d : Dev) (k : Nat) : Dev :=
  let o := d.cry.orc
  { d with cry := { d.cry with graft := (d.cry.graft + 1) % 2 ^ 55
                               orc := { o with ctr := o.ctr.put k (2 ^ 55 + d.cry.graft) } } }.orcMark (orcParent k) [orcSlot k]

/-- The counters of an entry and of its ancestors, up to a level, take graft values (R299): each is new. -/
def Dev.graftAbove (d : Dev) (level index top : Nat) : Dev :=
  d.each (List.range (top + 1 - level)) (fun d l => d.graftCounter (orcKey (level + l) (index / 8 ^ l)))

/-- The path above a page takes graft values, from the leaf's counter up to the node of a level (R299). -/
def Dev.graftPath (d : Dev) (lpn top : Nat) : Dev := (d.graftAbove 0 lpn top).orcMark (orcKey 0 lpn) []

/-! ## Pages of the metadata stream (R160, R162, R293) -/

/-- Metadata keys: of a page of the map, of a page of the band and block tables, and of a copy (0 or 1) of the orchard page
that holds an entry, 64 entries of one level. -/
def mapKey (page : Nat) : Nat := 2 ^ 40 + page
def tableKey (n : Nat) : Nat := 2 ^ 41 + n
def orcPage (k copy : Nat) : Nat := 2 ^ 44 + k / 64 * 2 + copy
/-- A page number is a metadata key. -/
def isMeta (n : Nat) : Bool := decide (2 ^ 40 ≤ n)

/-- What a read of a spill page reads, which no map entry names (R218). -/
def spillKey : Nat := 2 ^ 39

/-- The grain of an orchard page in which an entry of 64 B lies. -/
def orcGrain (k : Nat) : Nat := k % 64 / 4

/-- A stored copy of an entry: the first that the directory lists, with the other if `again`. -/
def Dev.orcCopy (d : Dev) (k : Nat) (again : Bool) : Option (Nat × Nat) :=
  (([0, 1].filterMap (fun c => (d.med.metaLoc.find (orcPage k c)).map (fun e => (orcPage k c, e.1)))).drop (b2n again)).head?

/-! ## Residency of the map (R145, R156, R160) -/

/-- The orchard directory (R293): 8 B for each page of 64 entries of levels 0 to 10. -/
def Dev.directoryBytes (d : Dev) : Nat :=
  ((List.range 11).map (fun l => 8 * ceilDiv (ceilDiv (d.med.segs.length * segPages) (8 ^ l)) 64)).foldl (· + ·) 0

/-- The pages of the map that the map partition holds beside the directory; in no-tier mode, 8 ways of 256 KiB of the line
cache of each slice in service hold pages of the map (R116, R370). -/
def Dev.mapRoom (d : Dev) : Nat :=
  if d.flag .PWR_STEP_NOTIER then 512 * (List.range 16).countP (fun k => d.serves (sliceIx k))
  else ((d.cfg.map (·.tier.mapMib)).getD 0 * 2 ^ 20 - d.directoryBytes) / 4096

/-- The map is larger than its partition, or has none: it is paged. -/
def Dev.mapPaged (d : Dev) : Bool := d.flag .PWR_STEP_NOTIER || decide (d.mapRoom < d.med.segs.length * 256)

/-- Map segments of class A regions. -/
def Dev.classASegs (d : Dev) : Nat :=
  d.med.segs.countP (fun e => ((d.region (e.1 / 2 ^ 21)).map (fun r => decide (r.latclass = 0))).getD false)

/-- The map pages of class A regions exceed the partition, or none is held resident (R370). -/
def Dev.mapAPaged (d : Dev) : Bool := d.flag .PWR_STEP_NOTIER || decide (d.mapRoom < d.classASegs * 256)

/-- A page of the map is of a class A region. -/
def Dev.mapClassA (d : Dev) (page : Nat) : Bool :=
  match d.pageOwner (page * mapPageEntries) with
  | some (n, _, _) => ((d.region n).map (fun r => decide (r.latclass = 0))).getD false
  | none => false

/-- A page of the map is in the DRAM tier: the map is not paged, the page is of class A and those fit, the map-page cache
has it, or it has never been written to media. -/
def Dev.mapHeld (d : Dev) (page : Nat) : Bool :=
  !d.mapPaged || (d.mapClassA page && !d.mapAPaged) || d.med.mapCache.any (fun x => x.page = page) ||
  !d.med.metaLoc.has (mapKey page)

/-- A lookup finds its page of the map in the map-page cache (R160). -/
def Dev.mapHit (d : Dev) (lpn : Nat) : Dev :=
  if d.mapPaged then (d.count .DRT_MAP_CACHE_HITS).mapTouch (lpn / mapPageEntries) false else d

/-- The page of the map that leaves the map-page cache next: the least recently used, one of class A only when no other is
there; none while the pages fit. -/
def Dev.mapVictim (d : Dev) : Option MapLine :=
  let a := d.med.mapCache.filter (fun x => d.mapClassA x.page)
  let rest := d.med.mapCache.filter (fun x => !d.mapClassA x.page)
  if !d.mapPaged then none
  else if d.flag .PWR_STEP_NOTIER then (if d.med.mapCache.length ≤ d.mapRoom then none else d.med.mapCache.getLast?)
  else if d.mapAPaged then
    (if d.med.mapCache.length ≤ d.mapRoom then none else if rest.isEmpty then a.getLast? else rest.getLast?)
  else if rest.length ≤ d.mapRoom - d.classASegs * 256 then none else rest.getLast?

end Sys2Proof.Machine
end

