-- ==== Sys2Proof/Machine/Queues.lean ====
section
/-!
DEFINITION. The queue engine (R202 to R230): descriptors, admission, frame assembly, dequeue, doorbells, resets and the
pool. Commands that only the queue family has stand in Machine/QueueCmds.lean.
-/
namespace Sys2Proof.Machine

/-- The descriptor of a queue. -/
def Dev.queue (d : Dev) (q : Nat) : QDesc := d.qen.queues.findD q {}

/-- Change a descriptor. -/
def Dev.setQueue (d : Dev) (q : Nat) (x : QDesc) : Dev :=
  { d with qen := { d.qen with queues := d.qen.queues.put q x } }

/-- The group of a queue (R202). -/
def groupOf (q : Nat) : Nat := q / 512

/-- The queue set of a queue. -/
def Dev.setOfQueue (d : Dev) (q : Nat) : Option QueueSet := d.setOfGroup (groupOf q)

/-- The key index of a queue (R205). -/
def Dev.queueKey (d : Dev) (q : Nat) : Nat :=
  match (d.queue q).ki, d.setOfQueue q with
  | some k, _ => k
  | none, some s => s.keyBase + (if s.keyMode = 1 then groupOf q - s.groupFirst else 0)
  | none, none => 0

/-- The tail timeout of frames that open now, in µs. -/
def Dev.queueTimeout (d : Dev) (q : Nat) : Nat :=
  (d.queue q).timeoutUs.getD (((d.setOfQueue q).map (·.timeoutUs)).getD 100)

/-- The depth limit in bytes; 0: none. -/
def Dev.queueLimit (d : Dev) (q : Nat) : Nat :=
  (d.queue q).maxKib.getD (((d.setOfQueue q).map (·.maxKib)).getD 0) * 1024

/-- Whether a queue's set is persistent. -/
def Dev.queuePersist (d : Dev) (q : Nat) : Bool := ((d.setOfQueue q).map (·.persist)).getD false

/-- The set number, for the counters. -/
def Dev.queueSetId (d : Dev) (q : Nat) : Nat := ((d.setOfQueue q).map (·.setId)).getD 0

/-- Lines and cells of a frame (R206). -/
def frameLines (len : Nat) : Nat := ceilDiv (16 + len) 64
def frameCells (len : Nat) : Nat := ceilDiv (frameLines len) 4

/-- Data bytes queued. -/
def QDesc.bytes (x : QDesc) : Nat := (x.frames.map (·.len)).foldl (· + ·) 0

/-- Cells of complete frames that a spill page does not hold. -/
def QDesc.closedCells (x : QDesc) : Nat :=
  (x.frames.map (fun f => frameCells f.len - f.spilled.length)).foldl (· + ·) 0

/-- Resident cells (R213, R217): those of complete frames, and those reserved for an open one. -/
def QDesc.resident (x : QDesc) : Nat :=
  x.closedCells + (match x.asm with | .opened f => frameCells f.len | _ => 0)

/-- Cells that a spill page holds. -/
def spilledCells (fs : List Frame) : Nat := (fs.map (fun f => f.spilled.length)).foldl (· + ·) 0

/-- Whether an open frame stands. -/
def QDesc.isOpen (x : QDesc) : Bool := match x.asm with | .opened _ => true | _ => false

/-- Pool cells of a descriptor in a stack. -/
def QDesc.cellsIn (x : QDesc) (k : Nat) : Nat :=
  (x.frames.map (fun f => (f.stack.filter (· = k)).length)).foldl (· + ·) 0 +
  (match x.asm with | .opened f => (f.stack.filter (· = k)).length | _ => 0)

/-- Pool cells in use in a stack. -/
def Dev.poolUsed (d : Dev) (k : Nat) : Nat := (d.qen.queues.map (fun e => e.2.cellsIn k)).foldl (· + ·) 0

/-- Pool cells of a set. -/
def Dev.poolUsedBySet (d : Dev) (s : QueueSet) : Nat :=
  ((d.qen.queues.filter (fun e => s.groupFirst ≤ groupOf e.1 && groupOf e.1 < s.groupFirst + s.groupCount)).map
    (fun e => ((List.range 4).map e.2.cellsIn).foldl (· + ·) 0)).foldl (· + ·) 0

/-- Pool cells in use, and in the partition (R216). -/
def Dev.poolTotal (d : Dev) : Nat := ((d.cfg.map (·.tier.poolMib)).getD 0) * 4096
def Dev.poolUse (d : Dev) : Nat := ((List.range 4).map d.poolUsed).foldl (· + ·) 0

/-- The home stack of a group (R203, R224). -/
def Dev.homeStack (d : Dev) (g : Nat) : Nat :=
  match d.qen.rehomed.find g with
  | some k => k
  | none =>
    match d.setOfGroup g with
    | some s => if s.stack < 4 then s.stack else g % 4
    | none => g % 4

/-- Take `n` pool cells, from the home stack and then the next ONLINE stacks in cyclic order (R216). `used` counts the
cells already taken per stack. -/
def Dev.takeCells (d : Dev) (home n : Nat) : Option (List Nat) :=
  let share := d.poolTotal / 4
  let order := ((List.range 4).map (fun i => (home + i) % 4)).filter (fun k => d.serves (stackIx k))
  let (taken, left) := order.foldl (fun (acc : List Nat × Nat) k =>
    let free := share - d.poolUsed k
    let m := min free acc.2
    (acc.1 ++ List.replicate m k, acc.2 - m)) ([], n)
  if left = 0 then some taken else none

/-- Open-frame buffer entries in use. -/
def Dev.openCount (d : Dev) : Nat := d.qen.queues.countP (fun e => e.2.isOpen)

/-- Set a queue's stranded bit (R221). -/
def Dev.strand (d : Dev) (q : Nat) : Dev := d.setFieldBit .QEN_STRANDw_STRANDED (q / 32) (q % 32) true

/-- Whether a queue's stranded bit is set. -/
def Dev.stranded (d : Dev) (q : Nat) : Bool := (d.reg .QEN_STRANDw_STRANDED (q / 32)).testBit (q % 32)

/-- A persistent queue changed: its pointers are due in the journal (R229). -/
def Dev.qChanged (d : Dev) (q : Nat) : Dev :=
  if d.queuePersist q then { d with qen := { d.qen with changed := setInsert d.qen.changed q } } else d

/-- Count a dropped frame (R208). -/
def Dev.dropFrame (d : Dev) (q reason stamp : Nat) : Dev :=
  let x := d.queue q
  let d := d.setQueue q { x with drops := satAdd 32 x.drops 1 }
  let d := (d.countWrap .QEN_DROPr_COUNT reason).perf 0x062 (d.queueSetId q)
  let w := windowKey stamp q
  if d.flag .QEN_CTL_DROP_EVT && !d.qen.dropWin.has w then
    { d with qen := { d.qen with dropWin := d.qen.dropWin.countIn d.now w } }.raise 704
      { unitId := unitIdOf (groupIx (groupOf q)), a := q, b := reason, c := (d.unit (groupIx (groupOf q))).gen,
        heads := d.groupHeads (groupOf q) }
  else d

/-- Count a stray line or a bad length (R209). -/
def Dev.strayLine (d : Dev) (q : Nat) (bad : Bool) : Dev :=
  let d := if bad then d.count .QEN_MISC_BAD_LENGTH else d.count .QEN_MISC_STRAY
  if d.flag .QEN_CTL_STRAY_EVT then
    d.raise 707
      { unitId := unitIdOf (groupIx (groupOf q)), a := q, b := 0, c := (d.unit (groupIx (groupOf q))).gen,
        heads := d.groupHeads (groupOf q) }
  else d

/-- Note the host error of a request in its region (R67). -/
def Dev.hostError (d : Dev) (r : Req) : Dev :=
  let d := d.count .RGN_HOSTERR_COUNT r.region
  if d.inForce .RGN_CTL_HOSTERR_EVT r.region then
    d.raise 68 { dpa := r.dpa / 64 * 64, a := r.head + r.tag * 65536, b := r.region, heads := d.regionHeads r.region }
  else d

/-! ## Log rings (R227, R228) -/

/-- The ring region of a set: the lowest-numbered QUEUE region that names it (R203). -/
def Dev.ringRegion (d : Dev) (s : QueueSet) : Option RegionRec :=
  d.cfg.bind (fun c => c.regions.find? (fun r => r.rtype = .queue && r.setId = s.setId))

/-- The place of a line of a ring: page number and line. -/
def Dev.ringPlace (d : Dev) (q cell line : Nat) : Option (Nat × Nat) :=
  match d.setOfQueue q with
  | none => none
  | some s =>
    (d.ringRegion s).map (fun r =>
      let cells := s.ringPages * 16
      let off := (q - s.groupFirst * 512) * s.ringPages * 4096 + ((cell + line / 4) % cells) * 256 + line % 4 * 64
      (d.pid r false (off / 4096), off % 4096 / 64))

/-- Cells of a ring in use by complete frames and the open frame. -/
def QDesc.ringUsed (x : QDesc) : Nat :=
  (x.frames.map (fun f => frameCells f.len)).foldl (· + ·) 0 +
  (match x.asm with | .opened f => frameCells f.len | _ => 0)

/-- Release frames from the head until `n` cells fit a ring of `total` (R228); answers the frames overwritten. -/
def overwrite (fs : List Frame) (extra total n : Nat) : List Frame × Nat :=
  match fs with
  | [] => ([], 0)
  | f :: r =>
    let used := ((f :: r).map (fun g => frameCells g.len)).foldl (· + ·) 0 + extra
    if used + n ≤ total then (f :: r, 0)
    else let (k, m) := overwrite r extra total n; (k, m + 1)

/-! ## Frames -/

/-- Reserve the cells of a frame: the drop reason, or the stacks and the ring cell (R208). -/
def Dev.reserveFrame (d : Dev) (q len : Nat) : Except Nat (List Nat × Nat) × Dev :=
  let x := d.queue q
  let g := groupOf q
  let cells := frameCells len
  if !d.serves (groupIx g) then (.error 0, d)
  else if d.queueLimit q ≠ 0 && decide (x.bytes + len > d.queueLimit q) then (.error 1, d)
  else if decide (32768 ≤ d.openCount) then (.error 2, d)
  else match d.setOfQueue q with
    | none => (.error 0, d)
    | some s =>
      if s.persist then
        let total := s.ringPages * 16
        let (kept, lost) := if s.overwrite then overwrite x.frames 0 total cells else (x.frames, 0)
        let used := (kept.map (fun f => frameCells f.len)).foldl (· + ·) 0
        if used + cells ≤ total then
          let d := d.setQueue q { x with frames := kept, headSeq := (x.headSeq + lost) % 2 ^ 32
                                         ringTail := (x.ringTail + cells) % (max total 1) }
          let d := if lost = 0 then d else d.countWrap .QEN_DROPr_COUNT 4 lost
          (.ok ([], x.ringTail), d.qChanged q)
        else (.error 4, d)
      else
        let spill := s.poolQuota ≠ 0 && decide (d.poolUsedBySet s + cells > s.poolQuota * 4096)
        match (if spill then none else d.takeCells (d.homeStack g) cells) with
        | some st => (.ok (st, 0), d)
        | none => (.error 3, d)

/-- The conditions under which a queue group is DEGRADED (R318, R223). -/
def Dev.groupHealth (d : Dev) (g : Nat) (foreign : Bool) : Dev :=
  if !d.serves (groupIx g) then d
  else if foreign || d.qen.rehomed.has g || d.qen.recovering.isSome then d.moveUnit (groupIx g) .degraded 7
  else d.moveUnit (groupIx g) .online 7

/-- Store one line of a frame that is not line 0: a pool cell or the ring's page. -/
def Dev.storeFrameLine (d : Dev) (q : Nat) (f : OpenFrame) (k : Nat) (data : Line) (poison : Bool) :
    Stored × OpenFrame × Dev :=
  let (c, d) := d.seal data (d.queueKey q) 64 0
  if d.queuePersist q then
    match d.ringPlace q f.cell k with
    | some (pid, sub) =>
      if poison then
        let (st, d) := d.storePoison pid sub poisonExternal
        (st, { f with bad := setInsert f.bad k, lines := f.lines.put k c }, d)
      else
        let (st, d) := d.storeCell pid sub c
        (st, { f with lines := f.lines.put k c, bad := if st = .lost then setInsert f.bad k else f.bad }, d)
    | none => (.done, { f with lines := f.lines.put k c }, d)
  else (.done, { f with lines := f.lines.put k c, bad := if poison then setInsert f.bad k else f.bad }, d)

/-- The header of R210 written over the first 16 bytes of line 0. -/
def withHeader (l : Line) (len flags user seq stamp : Nat) : Line :=
  lineOf (leBytes 2 len ++ leBytes 1 flags ++ leBytes 1 user ++ leBytes 4 seq ++ leBytes 8 stamp ++
    (lineBytes l).drop 16)

/-- Close the open frame (R210): the header is completed, line 0 is stored, the frame takes the tail SEQ. Lines never
written are stored poisoned at a tail timeout under DELIVER; they are a host error of the closing line `r`, or, at a
timeout, of the line that opened the frame (R66, R67). -/
def Dev.closeFrame (d : Dev) (q : Nat) (f : OpenFrame) (stamp : Nat) (r : Option Req) : Stored × Dev :=
  let timeout := r.isNone
  let missing := (List.range (frameLines f.len)).filter (fun k => k ≠ 0 && !f.lines.has k)
  let d := if missing.isEmpty then d else match r.orElse (fun _ => f.opener) with | none => d | some r => d.hostError r
  let bad := if timeout then missing.foldl setInsert f.bad else f.bad
  let d := if timeout && d.queuePersist q then
      d.each missing (fun d k => match d.ringPlace q f.cell k with
        | some (pid, sub) => (d.storePoison pid sub poisonInternal).2
        | none => d)
    else d
  let x := d.queue q
  let flags := b2n timeout + 2 * b2n (!bad.isEmpty)
  let l0 := withHeader f.line0 f.len flags f.user x.tailSeq stamp
  let (st, f', d) := d.storeFrameLine q f 0 l0 (bad.contains 0)
  let fr : Frame := { len := f.len, user := f.user, flags, seq := x.tailSeq, stamp,
                      lines := if d.queuePersist q then [] else f'.lines, bad, cell := f.cell, stack := f.stack }
  let x := d.queue q
  let d := d.setQueue q { x with frames := x.frames ++ [fr], tailSeq := (x.tailSeq + 1) % 2 ^ 32, asm := .idle,
                                 newest := stamp }
  (st, (d.perf 0x060 (d.queueSetId q)).qChanged q)

/-- The open frame goes without a frame being made. -/
def Dev.dropOpen (d : Dev) (q : Nat) : Dev :=
  let x := d.queue q
  let x := match x.asm with
    | .opened f => if d.queuePersist q then { x with ringTail := f.cell } else x
    | _ => x
  (d.setQueue q { x with asm := .idle }).qChanged q

/-- Frame assembly of one enqueue line (R209), its group being in service or DRAINING. -/
def Dev.enqueueLine (d : Dev) (q off : Nat) (data : Line) (poison : Bool) (r : Req) : Stored × Dev :=
  let x := d.queue q
  let stamp := r.stamp
  match x.asm with
  | .idle =>
    if off ≠ 0 then (.done, d.strayLine q false)
    else
      let len := lineAt data 0 2
      if len = 0 || decide (16128 < len) then (.done, d.strayLine q true)
      else
        match d.reserveFrame q len with
        | (.error why, d) =>
          let d := d.dropFrame q why stamp
          let x := d.queue q
          (.done, d.setQueue q { x with asm := .dropping stamp (d.queueTimeout q) (64 * (frameLines len - 1)) })
        | (.ok (st, cell), d) =>
          let f : OpenFrame := { opener := some r, len, user := lineAt data 3 1, line0 := data, openedAt := stamp,
                                 timeoutUs := d.queueTimeout q, bad := if poison then [0] else [], cell, stack := st }
          let x := d.queue q
          let d := d.setQueue q { x with asm := .opened f }
          let d := d.setReg .QEN_OPEN_HIGH 0 (max (d.reg .QEN_OPEN_HIGH) d.openCount)
          let d := if st.isEmpty then d
                   else d.groupHealth (groupOf q) (st.any (fun k => k ≠ d.homeStack (groupOf q)))
          if frameLines len = 1 then d.closeFrame q f stamp (some r)
          else if d.queuePersist q then (let (st, _, d) := d.storeFrameLine q f 0 data poison; (st, d))
          else (.done, d)
  | .opened f =>
    let last := 64 * (frameLines f.len - 1)
    let k := off / 64
    if last < off then (.done, d.strayLine q false)
    else if k = 0 || f.lines.has k then
      -- unpredictable, confined to the queue (R66): the line's content becomes a free line
      let (l, d) := (d.hostError r).drawFreeLine 66
      if k = 0 then
        let x := d.queue q
        (.done, d.setQueue q { x with asm := .opened { f with line0 := l, user := lineAt l 3 1 } })
      else
        let (st, f, d) := d.storeFrameLine q f k l false
        let x := d.queue q
        if off = last then (let (st', d) := d.closeFrame q f stamp (some r); (st.and st', d))
        else (st, d.setQueue q { x with asm := .opened f })
    else
      let (st, f, d) := d.storeFrameLine q f k data poison
      if off = last then
        let (st', d) := d.closeFrame q f stamp (some r)
        (st.and st', d)
      else
        let x := d.queue q
        (st, (d.setQueue q { x with asm := .opened f }))
  | .dropping _ _ last =>
    if off = last then (.done, d.setQueue q { x with asm := .idle }) else (.done, d)

/-- A dequeue read of a line of the head frame (R211). -/
def Dev.dequeueLine (d : Dev) (q off : Nat) : RdVal × Dev :=
  let x := d.queue q
  let d := d.perf 0x061 (d.queueSetId q)
  match x.frames with
  | [] => (.data (if off = 0 then withHeader 0 0 0 0 x.headSeq 0 else 0), d)
  | f :: _ =>
    let k := off / 64
    if frameLines f.len ≤ k then (.data 0, d)
    else if f.bad.contains k then (.stored, d)
    else if d.queuePersist q then
      match d.ringPlace q f.cell k with
      | some (pid, sub) => d.lineVal pid sub (d.queueKey q)
      | none => (.offline, d)
    else match f.lines.find k with
      | none => let (l, d) := d.drawFreeLine 66; (.data l, d)
      | some c => if d.verifies c (d.queueKey q) then
            (.data (if k = 0 then withHeader c.data f.len f.flags f.user f.seq f.stamp else c.data), d)
          else if (d.slot (d.queueKey q)).st = .empty then
            let (l, d) := d.drawFreeLine 66; (.data l, d)
          else (.macFail, d)

/-- A doorbell write (R212). -/
def Dev.queueDoorbell (d : Dev) (q : Nat) (data : Line) (full poison : Bool) (r : Req) : Dev :=
  let op := lineAt data 0 4
  let count := lineAt data 12 2
  -- non-zero reserved bytes are a host error that the device notices, whatever else is wrong with the write (R66, R67)
  let reserved := lineAt data 4 4 ≠ 0 || lineAt data 14 8 ≠ 0 || lineAt data 22 42 ≠ 0
  let d := if reserved then d.hostError r else d
  if !full || poison || (op ≠ 1 && op ≠ 2) || (op = 1 && (count = 0 || decide (256 < count))) then
    d.count .QEN_MISC_BAD_DOORBELL
  else
    let x := d.queue q
    if op = 1 then
      if lineAt data 8 4 = x.headSeq then
        let n := min count x.frames.length
        let fs := x.frames.drop n
        let pages := ceilDiv (spilledCells fs) 16
        (d.setQueue q { x with frames := fs, headSeq := (x.headSeq + n) % 2 ^ 32, spillPages := pages }).qChanged q
      else d.count .QEN_MISC_STALE_REL
    else match x.asm with
      | .idle => d
      | .opened _ => d.dropOpen q
      | .dropping _ _ _ => d.setQueue q { x with asm := .idle }

/-- The status line (R213). -/
def Dev.queueStatus (d : Dev) (q : Nat) : Line :=
  let x := d.queue q
  lineOf (leBytes 4 x.headSeq ++ leBytes 4 x.tailSeq ++ leBytes 4 x.frames.length ++ zeros 4 ++ leBytes 8 x.bytes ++
    leBytes 4 x.drops ++ leBytes 4 x.resident ++ leBytes 4 x.spillPages ++
    leBytes 1 (b2n (x.asm ≠ .idle)) ++ leBytes 1 x.resets ++ leBytes 1 (b2n (d.stranded q)) ++ zeros 1 ++
    leBytes 2 (d.queueKey q) ++ zeros 6 ++ leBytes 8 x.newest ++ zeros 8)

/-- A queue reset (R223). -/
def Dev.resetQueue (d : Dev) (q : Nat) : Dev :=
  let d := d.dropOpen q
  let x := d.queue q
  ((d.setQueue q { x with frames := [], asm := .idle, headSeq := x.tailSeq, resets := (x.resets + 1) % 256,
                          spillPages := 0 }).strand q).qChanged q

/-- The check of the pointer copies at an access (R222): a bad copy is rewritten from the good one; a queue whose copies
cannot be settled is reset. -/
def Dev.checkPtr (d : Dev) (q region : Nat) : Dev :=
  match d.qen.ptrBad.find q with
  | none => d
  | some n =>
    let d := { d with qen := { d.qen with ptrBad := d.qen.ptrBad.del q } }
    if n = 1 then d.count .QEN_PTR_REPAIRED
    else
      ((d.resetQueue q).count .QEN_PTR_PTR_RESETS).raise 706
        { a := q, b := (d.queue q).headSeq, c := (d.unit (groupIx (groupOf q))).gen, unitId := unitIdOf (groupIx (groupOf q)),
          heads := d.regionHeads region }

/-- The queues of a group. -/
def groupQueues (g : Nat) : List Nat := (List.range 512).map (fun i => g * 512 + i)

/-- Reset every queue of a group. -/
def Dev.resetGroup (d : Dev) (g : Nat) : Dev := d.each (groupQueues g) Dev.resetQueue

/-- Free the contents of a volatile group that goes out of service (R223): frames and open frames go. -/
def Dev.freeGroup (d : Dev) (g : Nat) : Dev :=
  match d.setOfGroup g with
  | some s =>
    if s.persist then d
    else { d with qen := { d.qen with queues := d.qen.queues.map (fun e =>
            if groupOf e.1 = g then
              (e.1, { e.2 with frames := [], asm := .idle, headSeq := e.2.tailSeq, spillPages := 0 })
            else e) } }
  | none => d

/-- A stack is lost (R224): volatile queues with a cell in it are reset; groups homed on it are re-homed. -/
def Dev.stackLostQueues (d : Dev) (k : Nat) : Dev :=
  let hit := d.qen.queues.filter (fun e => !d.queuePersist e.1 && e.2.cellsIn k ≠ 0)
  let d := d.each (hit.map (·.1)) Dev.resetQueue
  d.each ((List.range 256).filter (fun g => (d.setOfGroup g).isSome && d.homeStack g = k)) (fun d g =>
    match ((List.range 4).map (fun i => (k + i) % 4)).filter (fun j => d.serves (stackIx j)) with
    | [] => d
    | j :: _ =>
      let d := { d with qen := { d.qen with rehomed := d.qen.rehomed.put g j } }
      (d.setFlag .QEN_GRPg_REHOMED g true).groupHealth g false)

/-- Cells of the head segment (R217): resident cells ahead of the oldest spilled cell. -/
def headCells (fs : List Frame) : Nat :=
  match fs with
  | [] => 0
  | f :: r => match f.spilled with
    | [] => frameCells f.len + headCells r
    | c :: _ => c

/-- Resident cells ahead of the tail segment: up to HEAD_WIN while nothing is spilled (R217, R218). -/
def QDesc.headSeg (x : QDesc) (headWin : Nat) : Nat :=
  if spilledCells x.frames = 0 then min headWin x.resident else headCells x.frames

/-- Spill 16 cells from the oldest part of the tail segment, past the first `skip` resident cells. -/
def spillCells (fs : List Frame) (skip n : Nat) : List Frame :=
  match fs with
  | [] => []
  | f :: r =>
    let res := (List.range (frameCells f.len)).filter (fun c => !f.spilled.contains c)
    let here := res.drop skip |>.take n
    let skip' := skip - res.length
    let f' := if here.isEmpty then f else
      { f with spilled := here.foldl setInsert f.spilled, flags := f.flags ||| 4
               stack := (List.range f.stack.length).map (fun i =>
                 if here.contains i then 4 else f.stack.getD i 4) }
    f' :: spillCells r skip' (n - here.length)

/-- Read spilled cells back, oldest first, into the pool cells given by their stacks. -/
def takeBack (fs : List Frame) (st : List Nat) : List Frame :=
  match fs with
  | [] => []
  | f :: r =>
    let here := f.spilled.take st.length
    let f' := { f with spilled := f.spilled.drop st.length
                       stack := (List.range f.stack.length).map (fun i =>
                         match findIdxOf here (· = i) with | some j => st.getD j 4 | none => f.stack.getD i 4) }
    f' :: takeBack r (st.drop here.length)

/-- The oldest `n` spilled cells are lost: their lines read as poison and their frames are marked DAMAGED (R230). -/
def loseCells (fs : List Frame) (n : Nat) : List Frame :=
  match fs with
  | [] => []
  | f :: r =>
    let here := f.spilled.take n
    let f' := if here.isEmpty then f else
      { f with bad := ((List.range (frameLines f.len)).filter (fun k => here.contains (k / 4))).foldl setInsert f.bad
               flags := f.flags ||| 2 }
    f' :: loseCells r (n - here.length)

/-- The dequeue aperture of a queue in the first QUEUE region that names its set. -/
def Dev.dequeueDpa (d : Dev) (q : Nat) : Nat :=
  match d.cfg, d.setOfQueue q with
  | some c, some s => match c.regions.find? (fun r => r.rtype = .queue && r.setId = s.setId) with
    | some r => r.base + 2 ^ 31 + 16384 * q
    | none => 0
  | _, _ => 0

/-- A spill page fails decoding after the ladder and read-around (R230): its lines read as poison, the frames concerned
are DAMAGED, the queue is stranded, and source 709 is raised with the first of the frames. -/
def Dev.spillLost (d : Dev) (q n : Nat) : Dev :=
  let x := d.queue q
  let seq := ((x.frames.find? (fun f => !f.spilled.isEmpty)).map (·.seq)).getD x.headSeq
  ((d.setQueue q { x with frames := loseCells x.frames n }).strand q).raise 709
    { unitId := unitIdOf (groupIx (groupOf q)), dpa := d.dequeueDpa q, a := q, b := seq
      c := (d.unit (groupIx (groupOf q))).gen, heads := d.groupHeads (groupOf q) }

/-- Closed-frame cells in the tail segment of a queue whose set spills. -/
def Dev.tailCells (d : Dev) (q : Nat) : Nat :=
  match d.setOfQueue q with
  | some s => if s.persist || !s.spillEn then 0 else (d.queue q).closedCells - (d.queue q).headSeg s.headWin
  | none => 0

/-- Pool use above a percentage of the partition. -/
def Dev.poolAbove (d : Dev) (pct : Nat) : Bool := decide (d.poolTotal * pct < d.poolUse * 100)

/-- Whether pool use calls for spilling: from SPILL_POOL until 5 points below it (R217). -/
def Dev.poolSpills (d : Dev) : Bool :=
  d.poolAbove (d.reg .QEN_CTL_SPILL_POOL) || (d.qen.spilling && d.poolAbove (d.reg .QEN_CTL_SPILL_POOL - 5))

/-- Whether a queue is to spill a page (R217): resident cells above SPILL_HI, or pool use with the queue the longest of those
whose tail segment holds 16 cells. -/
def Dev.spillDue (d : Dev) (q : Nat) : Bool :=
  match d.setOfQueue q with
  | none => false
  | some s =>
    let n := (d.queue q).resident
    decide (16 ≤ d.tailCells q) &&
    (decide (s.spillHi < n) ||
      (d.poolSpills && d.qen.queues.all (fun e => decide (e.2.resident ≤ n) || decide (d.tailCells e.1 < 16))))

end Sys2Proof.Machine
end

