-- ==== Sys2Proof/Machine/Tally.lean ====
section
/-!
DEFINITION. The tally engine (R231 to R246): home lines, the merge, folds, boundaries and snapshots.
-/
namespace Sys2Proof.Machine

/-- The COUNTER region that names a counter set (R232). -/
def Dev.counterRegion (d : Dev) (set : Nat) : Option RegionRec :=
  d.cfg.bind (fun c => c.regions.find? (fun r => r.rtype = .counter && r.setId = set))

/-- The counter-window size CW of a region (R55). -/
def counterWindow (count : Nat) : Nat := roundUp (8 * count) (2 ^ 28)

/-- The state of a counter set. -/
def Dev.talSet (d : Dev) (s : Nat) : TalSet := d.tal.sets.findD s {}

/-- Change a counter set's state. -/
def Dev.setTalSet (d : Dev) (s : Nat) (x : TalSet) : Dev := { d with tal := { d.tal with sets := d.tal.sets.put s x } }

/-- The page and line of home line `m` of a region (R232). -/
def Dev.homePlace (d : Dev) (r : RegionRec) (m : Nat) : Nat × Nat := (d.pid r false (m * 64 / 4096), m % 64)

/-- The key of a cache entry. -/
def talKey (set n : Nat) : Nat := set * 2 ^ 28 + n

/-- The cache entry of a counter. -/
def Dev.talEntry (d : Dev) (set n : Nat) : TalEntry := d.tal.cache.findD (talKey set n) {}

/-- The pending deltas of a counter, both sides (R239). -/
def Dev.talPending (d : Dev) (set n : Nat) : Nat := (d.talEntry set n).d0 + (d.talEntry set n).d1

/-- The home line as stored, under the region's key base (R232). -/
def Dev.homeLine (d : Dev) (r : RegionRec) (m : Nat) : RdVal × Dev :=
  let (pid, sub) := d.homePlace r m
  d.lineVal pid sub r.keyBase

/-- Store a home line (R239): write-through persistence applies to persistent sets (R110). -/
def Dev.storeHome (d : Dev) (r : RegionRec) (m : Nat) (l : Line) : Stored × Dev :=
  let (pid, sub) := d.homePlace r m
  let (c, d) := d.seal l r.keyBase r.number (m * 64)
  d.storeCell pid sub c

/-- Add to the eight counters of a line, modulo 2^64. -/
def addCounters (l : Line) (deltas : List Nat) : Line :=
  lineOf ((List.range 8).flatMap (fun i => leBytes 8 ((lineAt l (8 * i) 8 + deltas.getD i 0) % 2 ^ 64)))

/-- Bytes of counters at or above COUNT read as 0 (R233). -/
def maskCounters (l : Line) (m count : Nat) : Line :=
  lineOf ((List.range 8).flatMap (fun i => leBytes 8 (if 8 * m + i < count then lineAt l (8 * i) 8 else 0)))

/-- The pages of the snapshot bank: bank 0 starts at SNAP_OFFSET, bank 1 follows it (R243). -/
def bankOffset (cs : CounterSet) (bank : Nat) : Nat := cs.snapOffset + bank * (4096 + roundUp (8 * cs.count) 4096)

/-- Write a line of the snapshot target region, as an internal operation under its key base (R243). -/
def Dev.snapWrite (d : Dev) (region off : Nat) (l : Line) (poison : Bool) : Dev :=
  match d.region region with
  | none => d
  | some r =>
    if d.ustate (regionIx region) = .retired then d else
    let pid := d.pid r false (off / 4096)
    let sub := off % 4096 / 64
    let d := d.dropLine (r.base + off)
    if poison then (d.storePoison pid sub poisonInternal).2
    else
      let (c, d) := d.seal l r.keyBase region off
      (d.storeCell pid sub c).2

/-- Fold one side of some counters of a line (`is`, 0 to 7) into its home line (R239): a poisoned home line discards the
deltas (R235). -/
def Dev.foldSome (d : Dev) (set m side : Nat) (is : List Nat) : Dev :=
  match d.counterRegion set with
  | none => d
  | some r =>
    let part := fun (e : TalEntry) => if side = 0 then (e.d0, e.at0) else (e.d1, e.at1)
    let entry := fun (i : Nat) => part (d.talEntry set (8 * m + i))
    let any := is.any (fun i => (entry i).2.isSome)
    if !any then d else
    let deltas := (List.range 8).map (fun i => if is.contains i then (entry i).1 else 0)
    let clear := fun (e : TalEntry) => if side = 0 then { e with d0 := 0, at0 := none } else { e with d1 := 0, at1 := none }
    let cache := is.foldl (fun (c : AMap TalEntry) i => c.alter (talKey set (8 * m + i)) clear) d.tal.cache
    let d := { d with tal := { d.tal with cache := cache.keep (fun _ e => e.at0.isSome || e.at1.isSome) } }
    let (v, d) := d.homeLine r m
    let d := d.perf 0x072 set
    match v with
    | .data l => (d.storeHome r m (addCounters l deltas)).2
    | _ => d

/-- Fold one side of every counter of a line. -/
def Dev.foldSide (d : Dev) (set m side : Nat) : Dev := d.foldSome set m side (List.range 8)

/-- Copy a home line into the snapshot bank after folding the old side (R243 step 2); a poisoned line is written with
the Poison bit. -/
def Dev.copyLine (d : Dev) (set m : Nat) : Dev :=
  match (d.talSet set).copy, d.counterSet set, d.counterRegion set with
  | some c, some cs, some r =>
    if c.copied.contains m then d else
    let d := d.foldSide set m (1 - (d.talSet set).side)
    let (v, d) := d.homeLine r m
    let off := c.offset + 4096 + 64 * m
    let d := match v with
      | .data l => d.snapWrite c.region off (maskCounters l m cs.count) false
      | _ => d.snapWrite c.region off 0 true
    let x := d.talSet set
    d.setTalSet set { x with copy := some { c with copied := m :: c.copied } }
  | _, _, _ => d

/-- Copy the line ahead of a fold of new-side deltas where a copy has not reached it (R243 step 3). -/
def Dev.copyFirst (d : Dev) (set m side : Nat) : Dev :=
  if (d.talSet set).copy.isSome && side = (d.talSet set).side then d.copyLine set m else d

/-- Fold a side into a line, copying the line first where step 3 of R243 asks for it. -/
def Dev.foldLine (d : Dev) (set m side : Nat) : Dev := (d.copyFirst set m side).foldSide set m side

/-- Fold a side of one counter (R239), the old side first where the line has not been copied (R246). -/
def Dev.foldCounter (d : Dev) (set n side : Nat) : Dev := (d.copyFirst set (n / 8) side).foldSome set (n / 8) side [n % 8]

/-- Make room for a counter's entry (R238, R239): of a full set of 16 the least recently used entry is evicted, the old side
folded first. -/
def Dev.evictFor (d : Dev) (key : Nat) : Dev :=
  if d.tal.cache.length < 16 || d.tal.cache.has key then d else
  let mates := d.tal.cache.filter (fun e => Config.talIndex e.1 % 16384 = Config.talIndex key % 16384)
  if mates.length < 16 then d else
  match mates.find? (fun e => mates.all (fun x => decide (e.2.used ≤ x.2.used))) with
  | none => d
  | some (k, _) =>
    let side := (d.talSet (k / 2 ^ 28)).side
    let d := (d.foldCounter (k / 2 ^ 28) (k % 2 ^ 28) (1 - side)).foldCounter (k / 2 ^ 28) (k % 2 ^ 28) side
    { d with tal := { d.tal with cache := d.tal.cache.del k } }

/-- A discarded record (R235, R236). -/
def Dev.talDiscard (d : Dev) (f : Fld) (set n reason : Nat) : Dev :=
  let d := d.count f
  if d.flag .TAL_CTL_BAD_EVT then d.raise 768 { a := set + n * 2 ^ 32, b := reason, c := (d.talSet set).snapId } else d

/-- Add an increment to the side in force of a counter (R238), whether it was, and what its store came to; discarded on a
stored-poisoned home line. The first record that makes an entry of a persistent set pending marks its home page dirty
(R239). -/
def Dev.talAdd (d : Dev) (set n inc stamp : Nat) : Bool × Stored × Dev :=
  match d.counterRegion set with
  | none => (false, .done, d)
  | some r =>
    let (v, d) := d.homeLine r (n / 8)
    match v with
    | .data l =>
      let d := d.evictFor (talKey set n)
      let e := { d.talEntry set n with used := d.tal.uses }
      let fresh := e.at0.isNone && e.at1.isNone
      let e' := if (d.talSet set).side = 0 then
          { e with d0 := (e.d0 + inc) % 2 ^ 64, at0 := some (e.at0.getD stamp) }
        else { e with d1 := (e.d1 + inc) % 2 ^ 64, at1 := some (e.at1.getD stamp) }
      let d := { d with tal := { d.tal with cache := d.tal.cache.put (talKey set n) e', uses := d.tal.uses + 1 } }
      let (pid, _) := d.homePlace r (n / 8)
      (true, if fresh && r.persist && !(d.page pid).dirty then d.storeHome r (n / 8) l else (.done, d))
    | _ => (false, .done, d.talDiscard .TAL_BAD_ON_POISON set n 3)

/-- Whether every byte of update record `i` is enabled: any other record is ignored (R235). -/
def recordWhole (be : BitVec 64) (i : Nat) : Bool := (List.range 16).all (fun b => be.getLsbD (16 * i + b))

/-- Apply one update record (R234, R235). It counts as applied where an increment of it is. -/
def Dev.talRecord (d : Dev) (cs : CounterSet) (l : Line) (be : BitVec 64) (i stamp : Nat) : Stored × Dev :=
  let off := 16 * i
  if !recordWhole be i then (.done, d)
  else
    let n := lineAt l off 4
    let op := lineAt l (off + 4) 1
    let inc := lineAt l (off + 8) 8
    if op = 0 then (.done, d)
    else if 2 < op then (.done, d.talDiscard .TAL_BAD_BAD_OP cs.setId n 1)
    else if cs.count ≤ n || (op = 2 && cs.count ≤ n + 1) then (.done, d.talDiscard .TAL_BAD_OUT_OF_SET cs.setId n 0)
    else
      let (x, s, d) := d.talAdd cs.setId n inc stamp
      let (y, t, d) := if op = 2 then d.talAdd cs.setId (n + 1) 1 stamp else (false, .done, d)
      (s.and t, if x || y then (d.countWrap .TAL_CNT_RECORDS).perf 0x070 cs.setId else d)

/-- Apply an update line: its records in the order 0 to 3 (R235). Non-zero reserved bytes of its records are a host error,
noticed once for the line (R66). -/
def Dev.talLine (d : Dev) (cs : CounterSet) (l : Line) (be : BitVec 64) (r : Req) :
    Stored × Dev :=
  let bad := (List.range 4).any (fun i => recordWhole be i && decide (lineAt l (16 * i + 5) 3 ≠ 0))
  let d := if bad then d.hostError r else d
  (List.range 4).foldl (fun (a : Stored × Dev) i => let (s, d) := a.2.talRecord cs l be i r.stamp; (a.1.and s, d)) (.done, d)

/-- An exact read of a counter line (R233, R239): home values plus the pending deltas of both sides. -/
def Dev.counterRead (d : Dev) (r : RegionRec) (cs : CounterSet) (m : Nat) : RdVal × Dev :=
  let (v, d) := d.homeLine r m
  match v with
  | .data l => (.data (maskCounters (addCounters l ((List.range 8).map (fun i => d.talPending cs.setId (8 * m + i)))) m
      cs.count), d)
  | v => (v, d)

/-- A counter-window write (R233): the counters whose 8 bytes are all enabled are set, their pending deltas go; a write
with the Poison bit stores the line poisoned. A partial write to a poisoned line is not merged (R82). -/
def Dev.counterWrite (d : Dev) (r : RegionRec) (cs : CounterSet) (m : Nat) (data : Line) (be : BitVec 64) (poison : Bool) :
    Stored × Dev :=
  let x := d.talSet cs.setId
  let d := if x.copy.isSome then d.copyLine cs.setId m else d
  let hits := (List.range 8).filter (fun i =>
    8 * m + i < cs.count && (List.range 8).all (fun b => be.getLsbD (8 * i + b)))
  let wipe := fun (d : Dev) (is : List Nat) =>
    { d with tal := { d.tal with cache := is.foldl (fun (c : AMap TalEntry) i => c.del (talKey cs.setId (8 * m + i)))
                                            d.tal.cache } }
  let (pid, sub) := d.homePlace r m
  if poison then
    (wipe d (List.range 8)).storePoison pid sub poisonExternal
  else if be = BitVec.allOnes 64 then
    (wipe d (List.range 8)).storeHome r m (maskCounters data m cs.count)
  else
    let (v, d) := d.homeLine r m
    match v with
    | .data l =>
      let l' := lineOf ((List.range 8).flatMap (fun i =>
        leBytes 8 (if hits.contains i then lineAt data (8 * i) 8 else lineAt l (8 * i) 8)))
      if hits.isEmpty then (.done, d) else (wipe d hits).storeHome r m l'
    | _ => (.done, d)

/-! ## Boundaries and snapshots (R242 to R245) -/

/-- The number of the epoch that contains a stamp; 0 without epochs. -/
def epochAt (cs : CounterSet) (t : Nat) : Nat := if cs.epochMs = 0 then 0 else t / (cs.epochMs * 1000000)

/-- The snapshot header line (R243). -/
def snapHeader (c : SnapCopy) (count state : Nat) : Line :=
  lineOf (leBytes 8 c.id ++ leBytes 8 c.boundary ++ leBytes 8 c.epoch ++ leBytes 4 count ++ leBytes 1 state ++ zeros 35)

/-- Start a snapshot at a boundary: the side flips, the header page is written with STATE 0 (R243). -/
def Dev.startSnapshot (d : Dev) (cs : CounterSet) (b epoch : Nat) : Dev :=
  let x := d.talSet cs.setId
  let id := x.snapId + 1
  let bank := id % 2
  let c : SnapCopy := { id, boundary := b, epoch, bank, region := cs.snapRegion, offset := bankOffset cs bank }
  let d := d.setTalSet cs.setId { x with side := 1 - x.side, copy := some c, snapId := id, lastBank := bank }
  let d := (d.setFlag .TAL_SETs_STAT_COPYING cs.setId true).journal 0x0C cs.setId id
  let d := d.each (List.range 64) (fun d i =>
    if i = 0 then d else d.snapWrite cs.snapRegion (bankOffset cs bank + 64 * i) 0 false)
  d.snapWrite cs.snapRegion (bankOffset cs bank) (snapHeader c cs.count 0) false

/-- A boundary of a set is merged (R242, R244): automatic under AUTO_SNAP, or commanded. -/
def Dev.mergeBoundary (d : Dev) (cs : CounterSet) (b : Nat) (commanded automatic : Bool) : Dev :=
  let x := d.talSet cs.setId
  let epoch := if automatic && cs.autoSnap then epochAt cs b - 1 else 2 ^ 64 - 1
  let d := d.setTalSet cs.setId
    { x with lastBoundary := if automatic then max b x.lastBoundary else x.lastBoundary, at_ := if commanded then none else x.at_ }
  if !(commanded || cs.autoSnap) || cs.snapRegion = 255 then d
  else if x.copy.isSome then
    let d := d.count .TAL_SETs_STAT_SKIPPED cs.setId
    if d.flag .TAL_CTL_SKIP_EVT then d.raise 769 { a := cs.setId, c := x.snapId } else d
  else d.startSnapshot cs b epoch

/-- T_act of the image in force (R38). -/
def Dev.tact (d : Dev) : Nat := match d.oldCfgs with | (t, _) :: _ => t | [] => 0

/-- The next automatic boundary of a set. A live change of EPOCH_MS applies to boundaries at or after T_act (R232): the last
epoch of the old length ends at its boundary before T_act, or at the first boundary of the new length from T_act on. -/
def Dev.autoNext (d : Dev) (cs : CounterSet) : Option Nat :=
  let last := (d.talSet cs.setId).lastBoundary
  let was := ((d.cfgAt (last + 1)).bind (fun c => c.counterSets.find? (fun x => x.setId = cs.setId))).elim cs.epochMs (·.epochMs)
  let e := cs.epochMs * 1000000
  let old := last + was * 1000000
  if was = cs.epochMs then (if e = 0 then none else some (last + e))
  else if was ≠ 0 && decide (old < d.tact) then some old
  else if e = 0 then none else some (max 1 (ceilDiv d.tact e) * e)

/-- The next boundary of a set: its stamp, whether TALLY SNAPSHOT named it, whether it ends an epoch (R242, R245, R246). -/
def Dev.nextBoundary (d : Dev) (cs : CounterSet) : Option (Nat × Bool × Bool) :=
  match d.autoNext cs, (d.talSet cs.setId).at_ with
  | none, none => none
  | some b, none => some (b, false, true)
  | none, some a => some (a, true, false)
  | some b, some a => some (min a b, decide (a ≤ b), decide (b ≤ a))

/-- Merge the boundaries of a set that lie at or before a stamp, oldest first, ahead of any item with that stamp (R237). -/
def Dev.mergeDue (d : Dev) (cs : CounterSet) (t fuel : Nat) : Dev :=
  match fuel with
  | 0 => d
  | n + 1 =>
    match d.nextBoundary cs with
    | some (b, c, a) =>
      if b ≤ t then (d.asOf b (fun d => d.mergeBoundary ((d.counterSet cs.setId).getD cs) b c a)).mergeDue cs t n else d
    | none => d

/-- As many boundaries of a set as can lie at or before a stamp. -/
def Dev.boundaryFuel (d : Dev) (cs : CounterSet) (t : Nat) : Nat :=
  (t - (d.talSet cs.setId).lastBoundary) / 1000000 + 2

/-- The epoch boundaries of a set count from stamp `t`: at `t` or after it. -/
def Dev.startEpoch (d : Dev) (t : Nat) (cs : CounterSet) : Dev :=
  let e := cs.epochMs * 1000000
  if e = 0 then d else d.setTalSet cs.setId { d.talSet cs.setId with lastBoundary := (t - 1) / e * e }

/-- The copier finishes (R243): the lines not yet copied are, and the header takes STATE 1. -/
def Dev.finishSnapshot (d : Dev) (cs : CounterSet) : Dev :=
  match (d.talSet cs.setId).copy with
  | none => d
  | some c =>
    let d := d.each (List.range (ceilDiv cs.count 8)) (fun d m => d.copyLine cs.setId m)
    let d := d.snapWrite c.region c.offset (snapHeader c cs.count 1) false
    let x := d.talSet cs.setId
    (d.setTalSet cs.setId { x with copy := none }).setFlag .TAL_SETs_STAT_COPYING cs.setId false

/-- Fold every pending delta (R240, R265 step 3). -/
def Dev.foldAll (d : Dev) : Dev :=
  d.each (d.tal.cache.map (·.1)) (fun d k =>
    let set := k / 2 ^ 28
    let m := k % 2 ^ 28 / 8
    (d.foldLine set m (1 - (d.talSet set).side)).foldLine set m (d.talSet set).side)

end Sys2Proof.Machine
end

