-- ==== Sys2Proof/Machine/Shadow.lean ====
section
/-!
DEFINITION. The shadow view of a TABLE region (R57 to R62): the pages a window shows, the delta, commit, discard and the
fold.
-/
namespace Sys2Proof.Machine

/-- Change a region's shadow state. -/
def Dev.setShadow (d : Dev) (n : Nat) (s : ShadowS) : Dev := { d with shadow := d.shadow.put n s }

/-- The page a main-window page reads from: its delta page while the fold has not moved it (R60). -/
def Dev.mainPid (d : Dev) (r : RegionRec) (page : Nat) : Nat :=
  match (d.shadowOf r.number).folding.find page with
  | some k => d.pid r true k
  | none => d.pid r false page

/-- The page a shadow-window page reads from (R57). -/
def Dev.shadowPid (d : Dev) (r : RegionRec) (page : Nat) : Nat :=
  match (d.shadowOf r.number).delta.find page with
  | some k => d.pid r true k
  | none => d.mainPid r page

/-- LIMIT (R61). -/
def shadowLimit (r : RegionRec) : Nat := r.shadowDelta * 262144

/-- Forget a page: its tier copy, map entry, poison and through records go. -/
def Dev.forgetPage (d : Dev) (pid : Nat) : Dev :=
  let d := if isLpn pid && d.mapEntry pid ≠ mapUnwritten then d.setMap pid mapUnwritten else d
  { d with tier := d.tier.del pid
           poison := { d.poison with lines := d.poison.lines.keep (fun k _ => k / 64 ≠ pid)
                                     pages := setErase d.poison.pages pid }
           per := { d.per with thru := d.per.thru.filter (fun t => t.lpn ≠ pid) } }

/-- Move a page's contents to another page number: the fold copies the delta entry as it stands (R60, R180). -/
def Dev.movePage (d : Dev) (src dst : Nat) : Dev :=
  let d := (d.forgetPage dst).splitPoison src
  let e := d.mapEntry src
  let d := (d.mapTouch (src / mapPageEntries) true).mapTouch (dst / mapPageEntries) true
  let d := if d.med.leaves.has src then (d.orcMark (orcKey 0 src) [64]).orcMark (orcKey 0 dst) [64] else d
  let m := (d.med.map.del src)
  let m := if e = mapUnwritten then m else m.put dst e
  let d := { d with
    med := { d.med with map := m, pages := d.med.pages.alter e (fun p => { p with lpn := dst })
                        leaves := match d.med.leaves.find src with
                          | some l => d.med.leaves.put dst l
                          | none => d.med.leaves }
    tier := match d.tier.find src with
      | some p => (d.tier.del src).put dst p
      | none => d.tier
    poison := { d.poison with lines := d.poison.lines.foldl (fun (a : AMap Nat) (x : Nat × Nat) =>
        a.put (if x.1 / 64 = src then dst * 64 + x.1 % 64 else x.1) x.2) [] }
    per := { d.per with thru := d.per.thru.map (fun (t : ThruRec) => if t.lpn = src then { t with lpn := dst } else t) } }
  d.journal 0x02 dst e

/-- Fold the committed delta entries into the translation map (R60). -/
def Dev.fold (d : Dev) (r : RegionRec) : Dev :=
  let s := d.shadowOf r.number
  let d := d.each s.folding (fun d e => d.movePage (d.pid r true e.2) (d.pid r false e.1))
  d.setShadow r.number { d.shadowOf r.number with folding := [] }

/-- The pages of a discarded delta go. -/
def Dev.releaseDropped (d : Dev) (n : Nat) : Dev :=
  let s := d.shadowOf n
  match d.region n with
  | some r => if s.dropped.isEmpty then d else
      let d := d.each s.dropped (fun d e => d.forgetPage (d.pid r true e.2))
      d.setShadow n { d.shadowOf n with dropped := [] }
  | none => d

/-- The lowest delta page that no delta, fold or discarded delta uses. -/
def freeDelta (s : ShadowS) (limit : Nat) : Option Nat :=
  (List.range limit).find? (fun k => !(s.delta.any (fun e => e.2 = k)) && !(s.folding.any (fun e => e.2 = k)) &&
    !(s.dropped.any (fun e => e.2 = k)))

/-- Bring a page into the delta (R58): its main-window contents, as they stand, are copied into a new delta page; a line
that the main window answers with poison is stored poisoned. The answer is what the copies wait for (R19). -/
def Dev.openDelta (d : Dev) (r : RegionRec) (page : Nat) : Stored × Dev :=
  let d := if (freeDelta (d.shadowOf r.number) (shadowLimit r)).isNone then (d.fold r).releaseDropped r.number else d
  let s := d.shadowOf r.number
  let k := (freeDelta s (shadowLimit r)).getD 0
  let src := d.mainPid r page
  let dst := d.pid r true k
  let d := d.setShadow r.number { s with state := 1, delta := s.delta.put page k }
  let d := d.journal 0x03 (segKey r.number true 0 + page) k
  (List.range 64).foldl (fun (a : Stored × Dev) sub =>
    let d := a.2
    let (st, d) :=
      if d.poisoned src sub then d.storePoison dst sub (d.poison.lines.findD (src * 64 + sub) poisonInternal)
      else if d.orphanPoison src sub then d.storePoison dst sub poisonInternal
      else match d.cellAt src sub with
        | some c => d.storeCell dst sub c
        | none => (.done, d)
    (a.1.and st, d)) (.done, d)

/-- Codes of RGN_SHADOW.LAST_RESULT. -/
def resOk : Nat := 0
def resStale : Nat := 1
def resOverflow : Nat := 2
def resDegraded : Nat := 3
def resMalformed : Nat := 4
def resDiscarded : Nat := 5

/-- Drop an open delta (R61 DISCARD). Its pages go once nothing can take the DISCARD back. -/
def Dev.dropDelta (d : Dev) (r : RegionRec) : Dev :=
  let d := d.releaseDropped r.number
  let s := d.shadowOf r.number
  let d := d.each s.delta (fun d e => d.journal 0x03 (segKey r.number true 0 + e.1) mapUnwritten)
  let d := d.dropCached (fun n sec => n = r.number && decide (r.base + r.size ≤ sec * 256))
  d.setShadow r.number { d.shadowOf r.number with state := 0, delta := [], spill := [], dropped := s.delta }

/-- Commit (R60): the delta becomes the committed contents at the stamp, EPOCH increments. -/
def Dev.commitDelta (d : Dev) (r : RegionRec) (stamp : Nat) : Dev :=
  let d := if (d.shadowOf r.number).folding.isEmpty then d else d.fold r
  let s := d.shadowOf r.number
  let d := d.setShadow r.number { s with state := 0, epoch := (s.epoch + 1) % 2 ^ 64, committedAt := stamp, delta := [],
                                         folding := s.delta, spill := [] }
  let d := d.dropCached (fun n sec => n = r.number &&
    (decide (r.base + r.size ≤ sec * 256) || s.delta.has ((sec * 256 - r.base) / 4096)))
  d.journal 0x04 r.number (s.epoch + 1)

/-- A COMMIT (1) or DISCARD (2) with its expected epoch (R61). -/
def Dev.shadowCommand (d : Dev) (r : RegionRec) (op expected stamp : Nat) : Dev :=
  let s := d.shadowOf r.number
  let n := r.number
  if expected ≠ s.epoch then d.setReg .RGN_SHADOW_LAST_RESULT n resStale
  else if op = 2 then (d.dropDelta r).setReg .RGN_SHADOW_LAST_RESULT n resDiscarded
  else if s.state = 2 then d.setReg .RGN_SHADOW_LAST_RESULT n resOverflow
  else if s.delta.any (fun e => (d.page (d.pid r true e.2)).unpers) then
    d.setReg .RGN_SHADOW_LAST_RESULT n resDegraded
  else (d.commitDelta r stamp).setReg .RGN_SHADOW_LAST_RESULT n resOk

/-- The commit doorbell (R59). -/
def Dev.commitDoorbell (d : Dev) (r : RegionRec) (data : Line) (full poison : Bool) (stamp : Nat) : Dev :=
  let op := lineAt data 0 4
  let reserved := lineAt data 4 4 ≠ 0 || lineAt data 16 48 ≠ 0
  if !full || poison || (op ≠ 1 && op ≠ 2) || reserved then
    d.setReg .RGN_SHADOW_LAST_RESULT r.number resMalformed
  else d.shadowCommand r op (lineAt data 8 8) stamp

/-- The status line (R59). -/
def Dev.shadowStatus (d : Dev) (r : RegionRec) : Line :=
  let s := d.shadowOf r.number
  lineOf (leBytes 8 s.epoch ++ leBytes 4 s.delta.length ++ leBytes 1 s.state ++
    leBytes 1 (d.reg .RGN_SHADOW_LAST_RESULT r.number) ++ zeros 2 ++ leBytes 8 s.committedAt ++ zeros 40)

/-- Prepare a shadow write to a page (R61): its page, and what the copies of a new delta page wait for; no page when the
write is discarded because the delta is full. The step to OVERFLOW raises an event; R469 lists no source for it (log 89). -/
def Dev.shadowPrepare (d : Dev) (r : RegionRec) (page line : Nat) : Option Nat × Stored × Dev :=
  let s := d.shadowOf r.number
  if s.delta.has page then (some (d.shadowPid r page), .done, d)
  else if s.state ≠ 2 && decide (s.delta.length < shadowLimit r) then
    let (st, d) := d.openDelta r page
    (some (d.shadowPid r page), st, d)
  else
    let d := d.setShadow r.number { s with state := 2, spill := setInsert s.spill line }
    (none, .done, if s.state = 2 then d else
      d.raise (Config.overflowSource % 1024) { dpa := r.base + r.size + line * 64, b := r.number, heads := d.regionHeads r.number })

end Sys2Proof.Machine
end

