-- ==== Sys2Proof/Machine/MediaOps.lean ====
section
/-!
DEFINITION. Media: where a map entry lies (R157 to R159), homes of dies and the M-link commands sent for them (R339 to
R351), doses (R182 to R191), the die queues with their programs and clears (R139, R140), and the path of a demand read (R138 to
R148) with the fetches of the orchard entries that it needs (R294).
-/
namespace Sys2Proof.Machine

/-! ## Places -/

/-- Fields of a map entry (R159). -/
def entryBand (e : Nat) : Nat := bits e 15 17
def entryRow (e : Nat) : Nat := bits e 3 12
def entrySlot (e : Nat) : Nat := bits e 0 3
/-- The map entry of a place. -/
def entryOf (band row slot : Nat) : Nat := band * 2 ^ 15 + row * 8 + slot

/-- The ring of dies as package × 16 + die (R157, R181). -/
def Dev.ring (d : Dev) : List Nat := ((d.cfg.map (·.band.ring)).getD []).map (fun e => e.1 * 16 + e.2)

/-- The band sets of one geometry take 65,536 numbers: those of the geometry in force are below, those of the k-th geometry
being left (R42) start at k × 65,536. -/
def oldSet : Nat := 65536

/-- The ring that a band set lies in: that of the geometry in force, or of one being left. -/
def Dev.ringOf (d : Dev) (j : Nat) : List Nat :=
  if j < oldSet then d.ring
  else ((d.boot.oldBands[j / oldSet - 1]?.map (·.ring)).getD []).map (fun e => e.1 * 16 + e.2)

/-- The 10 dies of band set j. -/
def Dev.setDies (d : Dev) (j : Nat) : List Nat :=
  let r := d.ringOf j
  (List.range 10).map (fun i => r.getD ((j % oldSet + i) % (max r.length 1)) 0)

/-- The package of a die. -/
def diePkg (die : Nat) : Nat := die / 16

/-- The positions of the data strips of a row, rising (R158). -/
def dataPositions (row : Nat) : List Nat :=
  (List.range 10).filter (fun p => p ≠ row % 10 && p ≠ (row + 1) % 10)

/-- The member position that holds grain `g` of slot `slot` (R158). -/
def grainPos (row slot g : Nat) : Nat := (dataPositions row).getD ((16 * slot + g) % 8) 0

/-- The sheet grain of it. -/
def grainIndex (slot g : Nat) : Nat := (16 * slot + g) / 8

/-- The band's record. -/
def Dev.band (d : Dev) (b : Nat) : Option Band := d.med.bands.find b

/-- Change a band; its 32-byte record's page of the band table has changed (R159). -/
def Dev.setBand (d : Dev) (b : Nat) (x : Band) : Dev :=
  { d with med := { d.med with bands := d.med.bands.put b x, tables := setInsert d.med.tables (b / 128) } }

/-- The die that holds a grain. -/
def Dev.grainDie (d : Dev) (e g : Nat) : Option Nat :=
  (d.band (entryBand e)).map (fun b => (d.setDies b.set).getD (grainPos (entryRow e) (entrySlot e) g) 0)

/-- A block's key and record. -/
def blockKey (die block : Nat) : Nat := die * 1024 + block
def Dev.block (d : Dev) (k : Nat) : Block := d.med.blocks.findD k {}
/-- Change a block; its record's page of the block table, one a die, has changed. -/
def Dev.setBlock (d : Dev) (k : Nat) (b : Block) : Dev :=
  { d with med := { d.med with blocks := d.med.blocks.put k b, tables := setInsert d.med.tables (2 ^ 16 + k / 1024) } }

/-- A die's record. -/
def Dev.die (d : Dev) (n : Nat) : Die := d.med.dies.findD n {}
def Dev.setDie (d : Dev) (n : Nat) (x : Die) : Dev := { d with med := { d.med with dies := d.med.dies.put n x } }

/-- A package's sideband record. -/
def Dev.pkg (d : Dev) (p : Nat) : PkgS := d.med.pkgs.findD p {}
def Dev.setPkg (d : Dev) (p : Nat) (x : PkgS) : Dev := { d with med := { d.med with pkgs := d.med.pkgs.put p x } }

/-- A link's training record. -/
def Dev.link (d : Dev) (m : Nat) : LinkS := d.med.links.findD m {}
def Dev.setLink (d : Dev) (m : Nat) (x : LinkS) : Dev := { d with med := { d.med with links := d.med.links.put m x } }

/-! ## Wiring and homes (R339 to R341) -/

/-- The link map entries (link, package, port) of a package, by port. -/
def Dev.pkgLinks (d : Dev) (p : Nat) : List (Nat × Nat) :=
  match d.cfg with
  | none => []
  | some c =>
    let all := (List.range c.wiring.link.length).filterMap (fun m =>
      match c.wiring.link[m]? with
      | some (q, k) => if q = p then some (k, m) else none
      | none => none)
    (List.range 8).filterMap (fun k => (all.find? (fun x => x.1 = k)))

/-- The link of a package's port. -/
def Dev.portLink (d : Dev) (p k : Nat) : Option Nat := ((d.pkgLinks p).find? (fun x => x.1 = k)).map (·.2)

/-- The package and port on a link. -/
def Dev.linkPkg (d : Dev) (m : Nat) : Option (Nat × Nat) := d.cfg.bind (fun c => c.wiring.link[m]?)

/-- The dies per package: the ring holds one entry a die (R157). -/
def Dev.diesPerPkg (d : Dev) : Nat :=
  match d.cfg with
  | some c => c.band.ring.length / (max c.wiring.pkgCount 1)
  | none => 16

/-- A link carries commands: it serves, and so does its complex (R320, R328). -/
def Dev.linkServes (d : Dev) (m : Nat) : Bool := d.serves (linkIx m) && d.serves (complexIx (m / 16))

/-- The link a die is homed on (R341): its home port if that serves, otherwise the next serving port in cyclic order; a
die that has moved stays where it is until its home port returns it. -/
def Dev.homeLink (d : Dev) (die : Nat) : Option Nat :=
  let p := diePkg die
  let k := (d.pkgLinks p).length
  if k = 0 then none
  else
    match (d.die die).home with
    | some m => if d.linkServes m then some m else pick k p
    | none => pick k p
  where
  /-- The serving port nearest after the home port. -/
  pick (k p : Nat) : Option Nat :=
    let hp := (die % 16) / max 1 (d.diesPerPkg / k)
    ((List.range k).filterMap (fun i => d.portLink p ((hp + i) % k))).find? (fun m => d.linkServes m)

/-- The link of a die's home port d div (D / K) (R341). -/
def Dev.naturalLink (d : Dev) (die : Nat) : Option Nat :=
  let p := diePkg die
  let k := (d.pkgLinks p).length
  if k = 0 then none else d.portLink p ((die % 16) / (max 1 (d.diesPerPkg / k)))

/-- The complex of a link. -/
def linkComplex (m : Nat) : Nat := m / 16

/-- A die can be reached: its package serves or drains, and has a serving port. -/
def Dev.dieReachable (d : Dev) (die : Nat) : Bool :=
  (d.serves (packageIx (diePkg die)) || d.ustate (packageIx (diePkg die)) = .draining) && (d.homeLink die).isSome

/-- The grains on a die can be read: its package is not lost (R174). -/
def Dev.dieHolds (d : Dev) (die : Nat) : Bool :=
  !(d.ustate (packageIx (diePkg die)) ∈ [.failed, .absent, .retired])

/-- Send an M-link command for a die on its home port; the command is listed until its response arrives (R346). -/
def Dev.sendCmd (d : Dev) (op die : Nat) (use : CmdUse) (refs : Nat := 0) : Dev :=
  match d.homeLink die with
  | none => d
  | some m =>
    let x := d.die die
    let opid := if op = 2 || op = 3 || op = 8 then (x.opid + 1) % 65536 else x.opid
    let d := d.setDie die { x with opid }
    { d with med := { d.med with cmds := d.med.cmds.put (m * 4096 + d.med.nextTag % 4096)
                                    { op, die, opid, issuedAt := d.now, use, refs }
                                 nextTag := (d.med.nextTag + 1) % 4096 } }

/-- Drop the outstanding commands that a test picks. -/
def Dev.dropCmds (d : Dev) (p : MCmd → Bool) : Dev :=
  { d with med := { d.med with cmds := d.med.cmds.keep (fun _ c => !p c) } }

/-! ## Doses (R182 to R186) -/

/-- The greatest `r` below 2^n with `r` eq-h per 3.6 * 10^12 ns at most the rate of R182, `r` in 2^-58 of an eq-h: with
`t` in 1/16 °C the rate is 2^((t - 1360) / 160). -/
def rateRoot (t n r : Nat) : Nat :=
  match n with
  | 0 => r
  | k + 1 =>
    let r' := r + 2 ^ k
    rateRoot t k (if (r' * 3600000000000) ^ 160 ≤ 2 ^ (7920 + t) then r' else r)

/-- The dose rate of R182 in 2^-48 of 1/1024 eq-h per ns, rounded down, at a temperature in 1/16 °C; below 25 °C the rate of
25 °C applies. -/
def doseRate (t16 : Int) : Nat :=
  let t := max 400 t16.toNat
  rateRoot t (20 + t / 160) 0

/-- A 16-bit two's complement number. -/
def signed16 (x : Nat) : Int := (BitVec.ofNat 16 x).toInt

/-- The dose counter of a package now, in 2^-48 of 1/1024 eq-h (R184). -/
def Dev.doseNow (d : Dev) (p : Nat) : Nat :=
  d.med.doses.findD p 0 +
  (match (d.pkg p).temp with
   | some t => doseRate (signed16 t) * (d.now - (d.pkg p).doseAt)
   | none => 0)

/-- The dose counter of a package, in 1/1024 eq-h. -/
def Dev.pkgDose (d : Dev) (p : Nat) : Nat := d.doseNow p / 2 ^ 48

/-- Add to a package's counter what has passed, and go on at a temperature. -/
def Dev.accrueDose (d : Dev) (p : Nat) (t : Option Nat) : Dev :=
  let d := { d with med := { d.med with doses := d.med.doses.put p (d.doseNow p) } }
  d.setPkg p { d.pkg p with doseAt := d.now, temp := t }

/-- The dose of a band in 1/1024 eq-h (R184). -/
def Dev.bandDose (d : Dev) (b : Band) : Nat :=
  let ds := d.setDies b.set
  let m := (List.range 10).foldl (fun a i => max a (d.pkgDose (diePkg (ds.getD i 0)) - b.base.getD i 0)) 0
  ((m : Int) + b.adj).toNat

/-- The refresh-due limit of R183, in 1/1024 eq-h. -/
def refreshDue (b : Band) : Nat := (if b.stream = 5 then 80000 else 720) * 1024

/-- A band is overdue (R191): its dose has reached the refresh-due limit. -/
def Dev.bandOverdue (d : Dev) (b : Band) : Bool := decide (refreshDue b ≤ d.bandDose b)

/-- Whether x is at least 8 (2^(s/4) - 1), in 1/1024 eq-h: 1 + D/8 to the fourth power at least 2^s. -/
def doseReaches (x s : Nat) : Bool := decide (2 ^ s * 8192 ^ 4 ≤ (8192 + x) ^ 4)

/-- The reference set of a dose (R186). -/
def refSet (x : Nat) : Nat := ((List.range 32).filter (fun s => doseReaches x s)).foldl max 0

/-- The lowest dose of a reference set, in 1/1024 eq-h, rounded up. -/
def setDose (s : Nat) : Nat :=
  (List.range 21).reverse.foldl (fun a b => if doseReaches (a + 2 ^ b - 1) s then a else a + 2 ^ b) 0

/-- The due and overdue limits of R183, in 1/1024 eq-h. -/
def Dev.lehrTarget (d : Dev) (b : Band) : Nat :=
  if b.stream = 5 then 70000 * 1024 else d.reg .DRT_LEHR_CTL_TARGET * 1024

/-! ## The operation queue of a die (R16, R139, R140, R142) -/

/-- The deadline of an operation without one. -/
def noDeadline : Nat := 2 ^ 64

/-- Grain reads count on the block they reach (R16, R191). -/
def Dev.countDie (d : Dev) (band die n : Nat) : Dev :=
  match d.band band with
  | none => d
  | some b =>
    let k := blockKey die (b.blocks.getD ((d.setDies b.set).idxOf die) 0)
    let x := d.block k
    d.setBlock k { x with reads := satAdd 32 x.reads n }

/-- The predicted end of a running program or clear that is not suspended, or of a through program (R141, R255); 0
otherwise. -/
def Die.busy (x : Die) : Nat :=
  max (match x.op with | some o => if o.suspended.isSome then 0 else o.endAt | none => 0) (x.thru.getD 0)

/-- A through program (R255). -/
def ProgReq.thru (p : ProgReq) : Bool := match p.use with | .thru _ => true | _ => false

/-- Whether a read goes before another in a die's queue: by rank, then deadline, then first in first out (R140). -/
def QRead.before (a b : QRead) : Bool :=
  decide (a.rank < b.rank) || (a.rank = b.rank && (decide (a.deadline < b.deadline) ||
    (a.deadline = b.deadline && decide (a.seq < b.seq))))

/-- The read that a queue serves next among those that a test picks. -/
def nextRead? (q : List QRead) (p : QRead → Bool) : Option QRead :=
  (q.filter p).foldl (fun a x => match a with
    | none => some x
    | some y => if x.before y then some x else some y) none

/-- A die has a READ on its link: it serves one read at a time. -/
def Dev.serving (d : Dev) (die : Nat) : Bool := d.med.cmds.any (fun c => c.2.op = 1 && c.2.die = die)

/-- When a die has served what its queue ranks ahead of a read (R141), 250 ns for each. -/
def Dev.freeTime (d : Dev) (die rank deadline : Nat) : Nat :=
  let x := d.die die
  let n := x.queue.countP (fun q => q.before { use := .control, rank, deadline, seq := d.med.nextQ })
  max x.freeAt (if n = 0 then 0 else d.now + 65) + 250 * n

/-- The reference set of a READ in half steps: the set of the band's dose and the read's step of the ladder (R186, R188); a
1-bit band has one reference. `n` counts the READs of step 4: at s + 1 and half a step to either side. -/
def Dev.readSet (d : Dev) (band step n : Nat) : Nat :=
  match d.band band with
  | none => 0
  | some b =>
    if b.stream = 5 then 0 else
    let s := refSet (d.bandDose b)
    match step with
    | 1 => 2 * (s + 1)
    | 2 => 2 * (s - 1)
    | 3 => 2 * (s + 2)
    | 4 => if n = 0 then 2 * (s + 1) else if n = 1 then 2 * s + 1 else 2 * s + 3
    | _ => 2 * s

/-- A queued read goes onto the M-link: the die is taken for 250 ns, and the read counts on its block (R16, R140). -/
def Dev.sendRead (d : Dev) (die : Nat) (q : QRead) : Dev :=
  let x := d.die die
  let d := d.setDie die { x with queue := x.queue.filter (fun y => y.seq ≠ q.seq), freeAt := max x.freeAt (d.now + 65) + 250 }
  match q.use with
  | .grain n member =>
    (match d.med.reads.find n with
     | none => d.sendCmd 1 die q.use
     | some r =>
       let band := entryBand r.loc
       let before := d.med.cmds.countP (fun c => c.2.use = q.use) + r.soft
       let refs := d.readSet band (if member then 0 else r.step) before
       let d := if member then d
                else { d with med := { d.med with reads := d.med.reads.put n { r with refs := refs / 2 } } }
       (d.countDie band die 1).sendCmd 1 die q.use refs)
  | .scan band _ => (d.countDie band die 16).sendCmd 1 die q.use (d.readSet band 0 0)
  | use => d.sendCmd 1 die use

/-- Resume a suspended program or clear (R142): its end moves by the time it was held. -/
def Dev.resumeDie (d : Dev) (die : Nat) : Dev :=
  let x := d.die die
  match x.op with
  | none => d
  | some o =>
    match o.suspended with
    | none => d
    | some t => (d.setDie die { x with op := some { o with suspended := none, endAt := o.endAt + (d.now - t) } }).sendCmd
                  5 die .control

/-- A die that serves no read takes the next of its queue: any while nothing runs on it (a background read gives way to a
program that waits), reads of ranks 2 to 4 while its operation is suspended, none while it runs a through program. With none
of those queued and no through program waiting a suspended operation resumes, but not in a quench (R140, R142, R255). -/
def Dev.kick (d : Dev) (die : Nat) : Dev :=
  let x := d.die die
  if d.serving die || x.thru.isSome || !d.dieReachable die then d
  else
    let ok := fun (q : QRead) => match x.op with
      | none => decide (q.rank ≤ 4) || !d.med.progs.any (fun p => p.die = die)
      | some o => o.suspended.isSome && decide (q.rank ≤ 4)
    match nextRead? x.queue ok with
    | some q => d.sendRead die q
    | none =>
      if (x.op.bind (·.suspended)).isSome && d.reg .JRN_STATUS_QSTATE = 0 && !d.med.progs.any (fun p => p.die = die && p.thru) then
        d.resumeDie die
      else d

/-- Queue a read of a die. -/
def Dev.queueRead (d : Dev) (die : Nat) (use : CmdUse) (rank deadline : Nat) : Dev :=
  let x := d.die die
  let d := d.setDie die { x with queue := x.queue ++ [{ use, rank, deadline, seq := d.med.nextQ }] }
  { d with med := { d.med with nextQ := d.med.nextQ + 1 } }

/-- Queue a read of a die, and let the die take it where it can. -/
def Dev.putRead (d : Dev) (die : Nat) (use : CmdUse) (rank deadline : Nat) : Dev := (d.queueRead die use rank deadline).kick die

/-- Take reads out of the die queues. -/
def Dev.unqueue (d : Dev) (p : CmdUse → Bool) : Dev :=
  { d with med := { d.med with dies := d.med.dies.map (fun (e : Nat × Die) =>
      if e.2.queue.any (fun q => p q.use) then (e.1, { e.2 with queue := e.2.queue.filter (fun q => !p q.use) }) else e) } }

/-- Dies on which reads that a test picks wait. -/
def Dev.queuedOn (d : Dev) (p : CmdUse → Bool) : List Nat :=
  (d.med.dies.filter (fun e => e.2.queue.any (fun q => p q.use))).map (·.1)

/-! ## Programs and clears (R139, R152, R164, R175, R374, R404) -/

/-- The programs and clears that a band set may run at one time (R139, R174, R175): 2; 1 with a member whose package is
FAILED, ABSENT or being rebuilt; none with dies of two lost packages. -/
def Dev.setLimit (d : Dev) (j : Nat) : Nat :=
  let ds := d.setDies j
  if 2 ≤ ds.countP (fun m => !d.dieHolds m) then 0
  else if ds.any (fun m => !d.dieHolds m || !(d.pkg (diePkg m)).rebuilt) then 1 else 2

/-- The band sets that a die belongs to: those of the 10 places that end at its own in the ring, and in a ring being left. -/
def Dev.setsOf (d : Dev) (die : Nat) : List Nat :=
  let of := fun (r : List Nat) (base : Nat) => match r.idxOf? die with
    | some i => (List.range 10).map (fun k => base + (i + r.length * 10 - k) % (max r.length 1))
    | none => []
  (List.range (d.boot.oldBands.length + 1)).flatMap (fun k => of (d.ringOf (k * oldSet)) (k * oldSet))

/-- A die may start a program or clear: in no band set of it do as many run as may (R139, R157). -/
def Dev.mayRun (d : Dev) (die : Nat) : Bool :=
  (d.setsOf die).all (fun j => decide ((d.setDies j).countP (fun m => (d.die m).op.isSome) < d.setLimit j))

/-- The bytes noted in a window that is still the present one. -/
def inWindow (w : Nat × Nat) (n : Nat) : Nat := if w.1 = n then w.2 else 0

/-- The bytes that a program or clear counts under DENSE_CAP: a sheet, a clear as 4, a program in 1-bit mode none (R374). -/
def ProgReq.bytes (p : ProgReq) : Nat := if p.op = 3 then 4 * 4096 else if p.stream = 5 then 0 else 4096

/-- A program is limited by the wear governor: streams 0 to 2, but not a rebuild (R151, R162). -/
def ProgReq.governed (p : ProgReq) : Bool := p.op = 2 && decide (p.stream < 3) && !p.rebuild

/-- Raw dense capacity in bytes (R471): packages of 128 GiB or 256 GiB. -/
def Dev.rawDense (d : Dev) : Nat :=
  match d.cfg with
  | some c => c.wiring.pkgCount * (if c.wiring.pkgType = 2 then 2 ^ 38 else 2 ^ 37)
  | none => 0

/-- The governor rate W of R151, in bytes a second: raw dense capacity × 2 × 10^6 cycles × 0.70 / 473,364,000 s. -/
def Dev.wearRate (d : Dev) : Nat := d.rawDense * 1400000 / 473364000

/-- The capacity of the wear credit. -/
def Dev.wearCap (d : Dev) : Nat := d.wearRate * 86400

/-- The rates leave room for a program or clear: DENSE_CAP over 100 µs (R374), a throttled package's share of it (R404),
half of it for a rebuild once dirty data has reached the first DIRTY_TH threshold (R174), and the governor's W over 10 ms
while the credit is not above 0 and the limit is not lifted (R152). -/
def Dev.rateAllows (d : Dev) (p : ProgReq) : Bool :=
  let w := d.now / 100000
  let cap := ((d.cfg.map (·.power.denseCap)).getD 64000) * 100
  let f := d.thm.packageF.findD (diePkg p.die) 0
  let n := max 1 ((List.range 64).countP (fun q => d.serves (packageIx q)))
  let used := fun (k : Nat) => inWindow (d.med.denseWin.findD k (0, 0)) w
  (p.bytes = 0 || (decide (used 64 + p.bytes ≤ cap) &&
    (f = 0 || decide (n * 1000 * (used (diePkg p.die) + p.bytes) ≤ (1000 - f) * cap)) &&
    (!p.rebuild || decide (d.uncovered * 4096 * 100 < d.budget * ((d.cfg.map (·.latency.dirtyTh)).getD []).headD 50) ||
      decide (2 * (used 65 + p.bytes) ≤ cap)))) &&
  (!p.governed || decide (0 < d.med.credit) || d.flag .GLB_WEAR_STAT_LIFTED ||
    decide (inWindow d.med.govWin (d.now / 10000000) + 4096 ≤ d.wearRate / 100))

/-- A copy into a row whose source is still being read (R171, R173). -/
def copySlice : Nat := 17

/-- A program or clear that waits can start (R139, R140, R164): its die is idle with no read of ranks 2 to 4 queued, the
band sets and the rates allow it, the row's earlier member pairs have been programmed and its sources have been read. A
through program is exempt from the limits, and runs beside a suspended operation, in a quench too (R139, R255). -/
def Dev.startable (d : Dev) (p : ProgReq) : Bool :=
  let x := d.die p.die
  let mine := fun (b r : Nat) => b = p.band && r = p.row
  x.thru.isNone && !d.serving p.die && d.dieReachable p.die && !x.queue.any (fun q => decide (q.rank ≤ 4)) &&
  if p.thru then x.op.all (·.suspended.isSome)
  else x.op.isNone && d.mayRun p.die && d.rateAllows p && d.reg .JRN_STATUS_QSTATE = 0 &&
  (p.op = 3 ||
    (!d.med.progs.any (fun q => q.op = 2 && mine q.band q.row && decide (q.pos / 2 < p.pos / 2)) &&
     !(d.med.cmds.any (fun c => match c.2.use with | .sheet b r i => mine b r && decide (i / 2 < p.pos / 2) | _ => false)) &&
     !d.med.reads.any (fun e => e.2.slice = copySlice && e.2.entry = p.band * 4096 + p.row)))

/-- Debit a program from the wear credit; the first fall below one capacity of debt raises source 870 (R151, R152). -/
def Dev.wearDebit (d : Dev) (bytes : Nat) : Dev :=
  let c := d.med.credit - bytes
  let d := { d with med := { d.med with credit := c } }
  if c < -(d.wearCap : Int) && !d.flag .GLB_WEAR_STAT_DEBT then (d.setFlag .GLB_WEAR_STAT_DEBT 0 true).raise 870 else d

/-- Start a program or clear: its command goes onto the link and the die runs it. A sheet of streams 0 to 2 debits the wear
credit (R151). -/
def Dev.startProg (d : Dev) (p : ProgReq) : Dev :=
  let d := if p.op = 2 && decide (p.stream < 3) then d.wearDebit 4096 else d
  let x := d.die p.die
  let w := d.now / 100000
  let add := fun (m : AMap (Nat × Nat)) (k : Nat) => m.put k (w, inWindow (m.findD k (0, 0)) w + p.bytes)
  let g := d.now / 10000000
  let d := { d with med := { d.med with
    progs := d.med.progs.filter (fun q => q ≠ p)
    denseWin := if p.bytes = 0 then d.med.denseWin else
      let m := add (add d.med.denseWin 64) (diePkg p.die)
      let m := if p.stream = 3 then add m 66 else m
      if p.rebuild then add m 65 else m
    govWin := if p.governed then (g, inWindow d.med.govWin g + 4096) else d.med.govWin } }
  let d := d.sendCmd p.op p.die p.use
  let y := d.die p.die
  if p.thru then d.setDie p.die { y with thru := some (max x.freeAt d.now + p.dur) } else
  d.setDie p.die { y with op := some { clear := p.op = 3, endAt := max x.freeAt d.now + p.dur, opid := y.opid, band := p.band,
                                       row := p.row, block := p.block } }

/-- Dense blocks of the ring: 1,024 a die (R166). -/
def Dev.allBlocks (d : Dev) : Nat := d.ring.length * 1024

/-- Dense blocks of the ring in one of the states given; unlisted blocks are FREE. -/
def Dev.listedIn (d : Dev) (sts : List BlkState) : Nat :=
  d.med.blocks.countP (fun e => sts.contains e.2.state && d.ring.contains (e.1 / 1024))

/-- Free and ready dense blocks. -/
def Dev.freeReady (d : Dev) : Nat := d.allBlocks - d.listedIn [.opened, .full, .victim, .gather, .retired, .absent]

/-- Free and ready blocks are below a share of all, in %. -/
def Dev.freeBelow (d : Dev) (pct : Nat) : Bool := decide (d.freeReady * 100 < pct * d.allBlocks)

/-- Start what can start of the programs and clears that wait, oldest first, through programs ahead (R255). While B lies
below the uncovered dirty data the host streams come before every other (R254); below FREE_MIN % host-cold rows come after
the others (R172). While a band is at 672 eq-h or above, the lehr's rows come before host-cold ones, up to a quarter of the
power cap (R191). -/
def Dev.startProgs (d : Dev) : Dev :=
  let cap := ((d.cfg.map (·.power.denseCap)).getD 64000) * 100
  let hot := decide (4 * (inWindow (d.med.denseWin.findD 66 (0, 0)) (d.now / 100000) + 4096) ≤ cap) &&
    d.med.bands.any (fun e => e.2.stream ≠ 5 && decide (672 * 1024 ≤ d.bandDose e.2))
  let ps := d.med.progs.filter (!·.thru)
  let host := fun (p : ProgReq) => p.op = 2 && decide (p.stream ≤ 1)
  let before := ps.takeWhile (·.stream ≠ 1)
  let after := ps.dropWhile (·.stream ≠ 1)
  let ps := if d.budget < d.uncovered * 4096 then ps.filter host ++ ps.filter (!host ·)
    else if d.freeBelow ((d.cfg.map (·.band.freeMin)).getD 0) then ps.filter (·.stream ≠ 1) ++ ps.filter (·.stream = 1)
    else if hot then before ++ after.filter (·.stream = 3) ++ after.filter (·.stream ≠ 3)
    else ps
  d.each (d.med.progs.filter (·.thru) ++ ps) (fun d p => if d.startable p then d.startProg p else d)

/-- A die goes on with its queue: reads first, then what programs and clears can start (R140). -/
def Dev.goOn (d : Dev) (die : Nat) : Dev := ((d.kick die).startProgs).kick die

/-! ## Demand reads (R140 to R144) -/

/-- When a member would have served a read, by the timing model of R141. -/
def Dev.memberEnd (d : Dev) (rank deadline m : Nat) : Nat :=
  max (max (d.now + 65) (d.freeTime m rank deadline)) (d.die m).busy

/-- Insert a die by the predicted end of its read; the earlier of the list first at a tie. -/
def insertByEnd (f : Nat → Nat) (m : Nat) (l : List Nat) : List Nat :=
  match l with
  | [] => [m]
  | x :: r => if f m ≤ f x then m :: x :: r else x :: insertByEnd f m r

/-- The 8 members with the earliest predicted completions among the other members that can be read, and whether all are free
of programs and clears; a suspended one is not, nor one that runs a through program (R139, R141). -/
def Dev.aroundMembers (d : Dev) (set die rank deadline : Nat) : List Nat × Bool :=
  let ms := (d.setDies set).filter (fun m => m ≠ die && d.dieReachable m)
  let idle := ms.filter (fun m => (d.die m).op.isNone && (d.die m).thru.isNone)
  let sort := fun (l : List Nat) => l.foldr (insertByEnd (d.memberEnd rank deadline)) []
  if 8 ≤ idle.length then ((sort idle).take 8, true) else ((sort ms).take 8, false)

/-- The suspensions that a die's operation may still take: SUS_MAX, or what the package declares in CAPS for an overdue read
(R142, R148). -/
def Dev.canSuspend (d : Dev) (die : Nat) (overdue : Bool) : Bool :=
  let caps := (d.pkg (diePkg die)).caps
  let limit := if overdue then caps else min ((d.cfg.map (·.latency.susMax)).getD 16) caps
  match (d.die die).op with
  | some o => o.suspended.isNone && decide (o.suspends < limit) && decide (o.suspends + o.prio < caps)
  | none => false

/-- The path of R141 for a read of a die, with its predicted end and whether it is contention. -/
def Dev.choosePath (d : Dev) (set die rank deadline : Nat) (overdue : Bool) : MPath × Nat × Bool :=
  let x := d.die die
  let free := d.freeTime die rank deadline
  let direct := max (max (d.now + 65) free) x.busy + 520
  let susp := max (d.now + 355) free + 520
  let (ms, idle) := d.aroundMembers set die rank deadline
  let some_ := decide (8 ≤ ms.length)
  let around := d.now + 655 + ms.foldl (fun a m => max a (d.memberEnd rank deadline m - (d.now + 65))) 0
  let canSus := decide (x.busy > 0) && d.canSuspend die overdue
  -- a through program on a member is waited for (R143); what misses its deadline by it is contention (R255)
  if !d.dieReachable die then (.around, around, decide (deadline < around) && ms.any (fun m => (d.die m).thru.isSome))
  else if direct ≤ deadline then (.direct, direct, false)
  else if canSus && decide (susp ≤ deadline) then (.suspend, susp, false)
  else if some_ && idle && decide (around ≤ deadline) then (.around, around, false)
  else if canSus && decide (susp < direct) && (!some_ || decide (susp ≤ around)) then (.suspend, susp, true)
  else if some_ && decide (around < direct) then (.around, around, true)
  else (.direct, direct, true)

/-- Suspend the program or clear of a die (R142): counted, and the operation ends 500 ns later. A suspension for a through
program does not count against SUS_MAX (R255). -/
def Dev.suspendDie (d : Dev) (die : Nat) (thru : Bool := false) : Dev :=
  let x := d.die die
  match x.op with
  | none => d
  | some o =>
    if o.suspended.isSome then d else
    let d := d.setDie die { x with op := some { o with suspended := some d.now, suspends := o.suspends + b2n (!thru),
                                                       prio := o.prio + b2n thru, endAt := o.endAt + 500 } }
    let d := d.sendCmd 4 die .control
    match d.homeLink die with
    | some m => (d.count .MCX_SCHED_CNT0_SUSPENDS (linkComplex m)).perf 0x053 (linkComplex m)
    | none => d

/-- A die passes through DIE_RESET (R154, R329): its operation is gone. -/
def Dev.resetDie (d : Dev) (die : Nat) : Dev := (d.setDie die { d.die die with op := none, thru := none }).sendCmd 6 die .control

/-! ## Through programs (R255, R256) -/

/-- The through die of a package, which the device designates: a free choice. -/
def Dev.thruDie (d : Dev) (p : Nat) : Nat := p * 16 + Config.free 255 p % max 1 d.diesPerPkg

/-- A through die can take a through program: what runs on it is suspended, or may be under its package's CAPS. -/
def Dev.takesThru (d : Dev) (die : Nat) : Bool :=
  d.dieReachable die && (match (d.die die).op with
    | some o => o.suspended.isSome || decide (o.suspends + o.prio < (d.pkg (diePkg die)).caps)
    | none => true)

/-- A cut sheet is issued to a pair of through dies of two packages whose fast windows are open; which dies form a pair is
the device's own choice, free. What runs on them is suspended. Without a pair the sheet waits. -/
def Dev.issueSheet (d : Dev) (n : Nat) : Dev :=
  match d.per.sheets.find n with
  | none => d
  | some x =>
    let ms := ((d.onlinePackages.filter (fun p => !(d.pkg p).fastClosed)).map d.thruDie).filter d.takesThru
    if !x.cut || x.programmed || !x.dies.isEmpty || ms.length < 2 then d else
    let (f, d) := d.drawFree 256
    let a := ms.getD (f % ms.length) 0
    let rest := ms.erase a
    let dies := [a, rest.getD (f / ms.length % rest.length) 0]
    let ps := dies.map (fun die => ({ die, op := 2, use := .thru n, dur := 1200, stream := 5 } : ProgReq))
    let d := { d with per := { d.per with sheets := d.per.sheets.put n { x with dies } }
                      med := { d.med with progs := d.med.progs ++ ps } }
    d.each dies (fun d die => (d.suspendDie die true).goOn die)

/-- Issue the cut sheets that wait for a pair. -/
def Dev.issueSheets (d : Dev) : Dev :=
  d.each ((d.per.sheets.filter (fun e => e.2.cut && !e.2.programmed && e.2.dies.isEmpty)).map (·.1)) Dev.issueSheet

/-- Change a read. -/
def Dev.setRead (d : Dev) (n : Nat) (r : MRead) : Dev := { d with med := { d.med with reads := d.med.reads.put n r } }

/-- The complex that serves a die's reads. -/
def Dev.complexOf (d : Dev) (die : Nat) : Nat := ((d.homeLink die).map linkComplex).getD 0

/-- The members that the only path left reads (R143): 8 of those whose package is not lost, reachable ones first. -/
def Dev.onlyMembers (d : Dev) (set die rank deadline : Nat) : List Nat :=
  let ms := (d.setDies set).filter (fun m => m ≠ die && d.dieHolds m)
  let near := (ms.filter d.dieReachable).foldr (insertByEnd (d.memberEnd rank deadline)) []
  (near ++ ms.filter (fun m => !d.dieReachable m)).take 8

/-- Start the member reads of a read-around (R143). As the only path left it suspends what runs on a member as R142 and R148
allow, waits for the rest, and is lost with fewer than 8 members that hold their grains. -/
def Dev.startAround (d : Dev) (n : Nat) (r : MRead) : Dev :=
  match d.band (entryBand r.loc) with
  | none => d.setRead n { r with lost := true, ready := true }
  | some b =>
    let only := !d.dieReachable r.die
    let ms := if only then d.onlyMembers b.set r.die r.rank r.deadline
              else (d.aroundMembers b.set r.die r.rank r.deadline).1
    if ms.length < 8 then d.setRead n { r with lost := only, ready := r.ready || only, fault := r.fault || only }
    else
      let d := d.setRead n { r with members := ms, fault := r.fault || only }
      let d := d.each ms (fun d m =>
        let d := d.queueRead m (.grain n true) r.rank r.deadline
        let d := if only && decide ((d.die m).busy > 0) && d.canSuspend m r.overdue then d.suspendDie m else d
        d.kick m)
      (d.count .MCX_SCHED_CNT0_READAROUND (d.complexOf r.die)).perf 0x052 (d.complexOf r.die)

/-- A READ is issued again: it counts on its block once more, and a demand read it serves has met a fault (R16, R147, R154).
-/
def Dev.readAgain (d : Dev) (c : MCmd) : Dev :=
  match c.use with
  | .grain n _ =>
    (match d.med.reads.find n with
     | some r => (d.setRead n { r with fault := true }).countDie (entryBand r.loc) c.die 1
     | none => d)
  | .scan b _ => d.countDie b c.die 16
  | _ => d

/-- A read starts on its path. -/
def Dev.startRead (d : Dev) (n : Nat) (r : MRead) : Dev :=
  let d := d.setRead n r
  match r.path with
  | .around => d.startAround n r
  | .suspend => ((d.queueRead r.die (.grain n false) r.rank r.deadline).suspendDie r.die).kick r.die
  | .direct => d.putRead r.die (.grain n false) r.rank r.deadline

/-- The path of a demand read is decided as it is issued, or anew (R141, R154). -/
def Dev.decideRead (d : Dev) (n : Nat) (r : MRead) : Dev :=
  match d.band (entryBand r.loc) with
  | none => d.setRead n r
  | some b =>
    let (path, pred, cont) := d.choosePath b.set r.die r.rank r.deadline r.overdue
    let susMax := (d.cfg.map (·.latency.susMax)).getD 16
    let exhausted := match (d.die r.die).op with
      | some o => decide (susMax ≤ o.suspends) && o.suspended.isNone
      | none => false
    let d := if exhausted then d.count .MCX_SCHED_CNT1_SUS_EXHAUST (d.complexOf r.die) else d
    d.startRead n { r with path, predicted := pred, contention := r.contention || cont }

/-- The stamp of the request that a read serves (R419). -/
def Dev.readStamp (d : Dev) (r : MRead) : Option Nat :=
  if r.slice < 16 then ((d.slice r.slice).tt.find r.entry).map (·.req.stamp) else none

/-- Issue a media read: one of rank 2 or 3 takes the path of R141, another waits in its die's queue. -/
def Dev.putMedia (d : Dev) (r : MRead) : Dev :=
  let n := d.med.nextRead
  let d := { d with med := { d.med with nextRead := n + 1 } }
  d.causedBy (d.readStamp r) fun d =>
  let d := d.perf 0x050 (d.complexOf r.die)
  if r.rank ≤ 3 then d.decideRead n r
  else d.startRead n { r with path := if d.dieReachable r.die then .direct else .around }

/-- Fetches for the entries of slice k are listed under 32 + k; background reads of the metadata stream under 18. -/
def fetchSlice (k : Nat) : Nat := if k < 16 then 32 + k else k
def metaSlice : Nat := 18

/-- Reads of internal operations that no entry waits for: steps of a sweep, copies into a delta, master accesses (R58, R305,
R309). -/
def innerSlice : Nat := 19

/-- Read a grain of a page of the metadata stream, for a media read or a lookup `r`: `goal` is the orchard entry fetched,
none for a page of the map. -/
def Dev.fetch (d : Dev) (r : MRead) (key loc grain : Nat) (goal : Option Nat) (again : Bool) : Dev :=
  match d.grainDie loc grain with
  | none => d
  | some die => d.putMedia { slice := r.slice, entry := r.entry, loc, lpn := key, grain, die, path := .direct
                             predicted := d.now + 585, deadline := r.deadline, overdue := r.overdue, epoch := r.epoch
                             spec := r.spec, rank := r.rank, goal, again }

/-- A read that needs a page's leaf fetches the leaf and every uncached ancestor that media hold, beside it and with its
deadline; the first cached entry of the path is a hit (R294). The answer is the levels fetched. -/
def Dev.fetchChain (d : Dev) (r : MRead) (lpn : Nat) : List Nat × Dev :=
  let up := d.uncached 8 (orcKey 0 lpn)
  let ks := up.filter (fun k => d.cry.orc.stored.has k && (d.orcCopy k false).isSome)
  let d := (d.count .ORC_CACHE_HITS).orcUse ((up.getLast?.map orcParent).getD (orcKey 0 lpn))
  (ks.map orcLevel, d.each ks (fun d k => match d.orcCopy k false with
    | some (key, loc) => d.fetch { r with slice := fetchSlice r.slice } key loc (orcGrain k) (some k) false
    | none => d))

/-- Issue a media read of a grain for a slice's entry (R106, R140): a demand read, overdue where its deadline has passed, on
the path of R141; a speculative read, or a prefetch's background read, in its die's queue. The orchard entries that it needs
are fetched beside it (R294); a copy of a page (R284) and a spill page (R217) need none. -/
def Dev.issueRead (d : Dev) (slice entry e lpn g deadline epoch : Nat) (spec : Bool) : Dev :=
  match d.grainDie e g with
  | none => d
  | some die =>
    if spec && !d.dieReachable die then d else
    let idle := decide (16 ≤ slice) || (d.slice slice).int.has entry
    let late := decide (deadline ≤ d.now) && !idle
    let r : MRead := { slice, entry, loc := e, lpn, grain := g, die, path := .direct, predicted := d.now + 585, deadline,
                       overdue := late && !spec, epoch, spec,
                       rank := if idle then 6 else if spec || decide (12288 ≤ entry) then 4 else if late then 2 else 3 }
    let (fetched, d) := if (slice < 16 || slice = innerSlice) && isLpn lpn then d.fetchChain r lpn else ([], d)
    d.putMedia { r with fetched }

/-- An internal operation reads lines of a page whose newest copy is on media, each grain once (R16). -/
def Dev.internalReads (d : Dev) (pid : Nat) (subs : List Nat) : Dev :=
  let gs := (subs.filter (fun s => !d.inTier pid s)).foldl (fun l s => setInsert l (s / 4)) []
  if isLpn pid then d.each gs (fun d g => d.issueRead innerSlice 0 (d.mapEntry pid) pid g noDeadline 0 false) else d

/-- The use of a read's commands. -/
def usesRead (n : Nat) (u : CmdUse) : Bool := match u with | .grain m _ => m = n | _ => false

/-- The reads of a slice's entry under a token epoch: its data read and the fetches beside it. -/
def Dev.readsOf (d : Dev) (k e epoch : Nat) : AMap MRead :=
  d.med.reads.filter (fun x => (x.2.slice = k || x.2.slice = fetchSlice k) && x.2.entry = e && x.2.epoch = epoch)

/-- A speculative read becomes a demand read (R140, R154), with its fetches: its path is decided anew while it still waits
in its die's queue. -/
def Dev.demandRead (d : Dev) (k e epoch : Nat) : Dev :=
  d.each (d.readsOf k e epoch) (fun d x =>
    let n := x.1
    let r := x.2
    if decide (12288 ≤ e) || !r.spec then d.setRead n { r with spec := false } else
    let late := decide (r.deadline ≤ d.now)
    let r := { r with spec := false, rank := if late then 2 else 3, overdue := late }
    if (d.queuedOn (usesRead n)).isEmpty then d.setRead n r
    else (d.unqueue (usesRead n)).decideRead n r)

/-- A read that is no longer needed is cancelled (R112), with its fetches: removed from the queues where its command is not
on the link; else its die reads for nothing, which is counted. -/
def Dev.cancelRead (d : Dev) (k e epoch : Nat) : Dev :=
  d.each (d.readsOf k e epoch) (fun d x =>
    let n := x.1
    let r := x.2
    let on := (d.queuedOn (usesRead n))
    let sent := r.ready || d.med.cmds.any (fun c => usesRead n c.2.use)
    let d := (d.unqueue (usesRead n)).each on Dev.kick
    let d := { d with med := { d.med with reads := d.med.reads.del n } }
    if sent then d.causedBy (d.readStamp r) (·.perf 0x051 (d.complexOf r.die)) else d)

/-- Start a rescue read-around beside a direct or suspended read, where one is possible (R144); `sooner` asks that it be
predicted to end earlier than the read, where that one still waits in its die's queue. -/
def Dev.rescue (d : Dev) (n : Nat) (sooner : Bool) : Dev :=
  match d.med.reads.find n with
  | none => d
  | some r =>
    if r.rescue || r.ready || r.path = .around then d else
    match d.band (entryBand r.loc) with
    | none => d
    | some b =>
      let (ms, _) := d.aroundMembers b.set r.die r.rank r.deadline
      let waits := !(d.queuedOn (fun u => u = .grain n false)).isEmpty
      let around := d.now + 655 + ms.foldl (fun a m => max a (d.memberEnd r.rank r.deadline m - (d.now + 65))) 0
      let direct := max (max (d.now + 65) (d.freeTime r.die r.rank r.deadline)) (d.die r.die).busy + 520
      if ms.length < 8 || (sooner && waits && decide (direct ≤ around)) then d
      else (d.count .MCX_SCHED_CNT1_RESCUES (d.complexOf r.die)).startAround n { r with rescue := true }

end Sys2Proof.Machine
end

