-- ==== Sys2Proof/Machine/Bands.lean ====
section
/-!
DEFINITION. The bands, rows and blocks that the write streams use (R161 to R177), the metadata stream with the writes of the orchard
and of the map (R160, R291, R293), the leaf of a written page (R281, R283, R299), and grains lost (R188).
-/
namespace Sys2Proof.Machine

/-! ## Bands (R162 to R167, R171) -/

/-- Valid pages of a band: the map entries that name it (R159). -/
def Dev.validPages (d : Dev) (b : Nat) : List (Nat × Nat) := d.med.map.filter (fun e => entryBand e.2 = b && e.2 < mapPoisoned)

/-- The pages of the metadata stream that lie in a band (R162). -/
def Dev.validMeta (d : Dev) (b : Nat) : List Nat := (d.med.metaLoc.filter (fun e => entryBand e.2.1 = b)).map (·.1)

/-- What a band holds that something names: pages of the map, and of the metadata stream under their keys, with their
entries. -/
def Dev.heldIn (d : Dev) (b : Nat) : List (Nat × Nat) :=
  d.validPages b ++ (d.med.metaLoc.filter (fun e => entryBand e.2.1 = b)).map (fun e => (e.1, e.2.1))

/-- The rows that hold valid data (R192): band × 4,096 + row. -/
def Dev.dataRows (d : Dev) : List Nat :=
  (((d.med.map.map (·.2)) ++ d.med.metaLoc.map (·.2.1)).filter (fun e => decide (e < mapPoisoned))).foldl
    (fun a e => setInsert a (entryBand e * 4096 + entryRow e)) []

/-- Nothing names a band any more: no map entry, no page of the metadata stream. -/
def Dev.bandEmpty (d : Dev) (b : Nat) : Bool := (d.heldIn b).isEmpty

/-- The pages that a band holds: its valid-page count (R159, R171). -/
def Dev.validCount (d : Dev) (b : Nat) : Nat := (d.heldIn b).length

/-- The block keys of a band's members. -/
def Dev.bandBlocks (d : Dev) (b : Band) : List Nat :=
  let ds := d.setDies b.set
  (List.range 10).map (fun i => blockKey (ds.getD i 0) (b.blocks.getD i 0))

/-- The package, die and block of an event of a media complex (R416). -/
def blockA (key : Nat) : Nat := diePkg (key / 1024) + key / 1024 % 16 * 256 + key % 1024 * 65536

/-- Retire a block: event and count (R167, R194). -/
def Dev.retireBlock (d : Dev) (k : Nat) : Dev :=
  let x := d.block k
  let die := k / 1024
  (d.setBlock k { x with state := .retired }).raise (384 + 16 * d.complexOf die)
    { a := blockA k }

/-- Free a drained band: its blocks become FREE, or RETIRED if marked or at their endurance, and its record goes (R167,
R171). A gather band's blocks have run one cycle in 1-bit mode (R166). -/
def Dev.freeBand (d : Dev) (b : Nat) : Dev :=
  match d.band b with
  | none => d
  | some x =>
    let worn := (d.bandBlocks x).any (fun k => decide (4000000 ≤ (d.block k).reads))
    let d := d.each (d.bandBlocks x) (fun d k =>
      let y := d.block k
      let y := if x.stream = 5 then { y with wear := y.wear + 1 } else y
      if y.state = .absent || y.state = .retired then d
      else if y.marked || decide (10 ^ 8 ≤ y.wear) then d.retireBlock k
      else (d.setBlock k { y with state := .free, reads := 0, maxCb := 0, ladder := 0, deep := 0 }))
    -- a band refreshed for a reason counts as it is freed, whichever engine drained it (R191)
    let d := if x.stream ≠ 5 && worn then d.count .DRT_LEHR_CNT_RD_BANDS else d
    let d := if x.stream ≠ 5 && x.urgent then d.count .DRT_LEHR_CNT_URG_BANDS else d
    let d := { d with med := { d.med with bands := d.med.bands.del b, gather := setErase d.med.gather b
                                          gatherReturn := setErase d.med.gatherReturn b
                                          scanned := d.med.scanned.filter (fun k => k / 4096 ≠ b) } }
    d.journal 0x0A b 0

/-- Free the bands being drained that no map entry names any more; called once their MAP_SET records are mirrored (R260).
-/
def Dev.sweepVictims (d : Dev) : Dev :=
  let vs := d.med.bands.filter (fun e => e.2.state = .victim && d.bandEmpty e.1)
  d.each vs (fun d e => d.freeBand e.1)

/-- Close a band (R165, R167): its blocks become FULL, its rows that are not verified go with their programs that wait; one
that runs ends by itself. -/
def Dev.closeBand (d : Dev) (b : Nat) (st : BandState) : Dev :=
  match d.band b with
  | none => d
  | some x =>
    let d := d.setBand b { x with state := st, closedAt := d.now }
    let d := { d with med := { d.med with rows := d.med.rows.filter (fun r => r.band ≠ b)
                                          progs := d.med.progs.filter (fun p => !(p.op = 2 && p.band = b)) } }
    let d := d.each (d.bandBlocks x) (fun d k =>
      let y := d.block k
      if y.state = .opened || y.state = .full then
        d.setBlock k { y with state := if st = .victim then .victim else .full } else d)
    d.journal 0x0A b 1

/-- The least-worn FREE blocks of a die. -/
def Dev.clearable (d : Dev) (die : Nat) : List Nat :=
  let ks := (List.range 1024).map (blockKey die) |>.filter (fun k => (d.block k).state = .free)
  let low := ks.foldl (fun a k => min a (d.block k).wear) (2 ^ 40)
  ks.filter (fun k => (d.block k).wear = low)

/-- Queue the clear of a least-worn FREE block of a die (R167); at equal wear the block is free. One at its endurance is
retired instead. -/
def Dev.clearOne (d : Dev) (die : Nat) : Dev :=
  match d.clearable die with
  | [] => d
  | l =>
    let (f, d) := d.drawFree 167
    let k := l.getD (f % l.length) 0
    if 10 ^ 8 ≤ (d.block k).wear then d.retireBlock k
    else
      let d := d.setBlock k { d.block k with state := .clearing }
      let p : ProgReq := { die, op := 3, use := .clear k, dur := 300000, block := k % 1024 }
      { d with med := { d.med with progs := d.med.progs ++ [p] } }.startProgs

/-- The dies that open bands of the write streams occupy; gather bands are lent, not opened (R163, R170). -/
def Dev.openDies (d : Dev) : List Nat :=
  (d.med.bands.filter (fun e => e.2.state = .opened && e.2.stream ≠ 5)).flatMap (fun e => d.setDies e.2.set)

/-- A die has a block that a band can take, now or after a clear. -/
def Dev.dieHasBlock (d : Dev) (die : Nat) : Bool :=
  decide (d.med.blocks.countP (fun e => e.1 / 1024 = die && !(e.2.state ∈ [.free, .clearing, .ready])) < 1024)

/-- READY blocks of a die. -/
def Dev.readyBlocks (d : Dev) (die : Nat) : List (Nat × Block) :=
  d.med.blocks.filter (fun e => e.1 / 1024 = die && e.2.state = .ready)

/-- The least-worn READY block of a die. -/
def Dev.leastWorn (d : Dev) (die : Nat) : Option Nat :=
  (d.readyBlocks die).foldl (fun a e => match a with
    | none => some e.1
    | some k => if e.2.wear < (d.block k).wear then some e.1 else some k) none

/-- Whether a band set may take new rows: every die's package serves, with the window that the mode needs (R174, R195).
-/
def Dev.setOpenable (d : Dev) (j : Nat) (oneBit : Bool) : Bool :=
  (d.setDies j).all (fun die =>
    d.serves (packageIx (diePkg die)) && (d.pkg (diePkg die)).rebuilt &&
    !(if oneBit then (d.pkg (diePkg die)).fastClosed else (d.pkg (diePkg die)).denseClosed))

/-- FREE_LOW of the geometry in force, %. -/
def Dev.freeLow (d : Dev) : Nat := (d.cfg.map (·.band.freeLow)).getD 3

/-- The footprint of the gather zone: the dense capacity of the blocks lent to it (R169). -/
def Dev.footprint (d : Dev) : Nat := (d.med.gather.length + d.med.gatherPending.length) * 10 * 2 ^ 24

/-- The floor of the gather zone as footprint (R169): 5 × (2 × the quench budget + 2 GiB). -/
def Dev.gatherFloor (d : Dev) : Nat := 5 * (2 * ((d.cfg.map (·.tier.quenchMib)).getD 0) * 2 ^ 20 + 2 ^ 31)

/-- The gather zone must return blocks (R170). -/
def Dev.mustShrink (d : Dev) : Bool := d.freeBelow d.freeLow && decide (d.gatherFloor < d.footprint)

/-- The band set on which a new band opens (R163): disjoint from every open band, with a READY or FREE block on every die,
READY for a gather band (R170); most READY blocks, and the lowest number at a tie. -/
def Dev.chooseSet (d : Dev) (oneBit : Bool) : Option Nat :=
  let busy := if oneBit then [] else d.openDies
  let ok := (List.range d.ring.length).filter (fun j =>
    d.setOpenable j oneBit && (d.setDies j).all (fun die => !busy.contains die &&
      (if oneBit then !(d.readyBlocks die).isEmpty else d.dieHasBlock die)))
  ok.foldl (fun a j => match a with
    | none => some j
    | some b =>
      let score := fun j => ((d.setDies j).map (fun die => (d.readyBlocks die).length)).foldl (· + ·) 0
      if score b < score j then some j else some b) none

/-- A band number that no band has, at or after `b`, where there is one; codes are passed over (R159). -/
def freshBand (bands : AMap Band) (n b : Nat) : Nat :=
  match n with
  | 0 => b
  | n + 1 => if bands.has b then freshBand bands n ((b + 1) % 0x1FFF8) else b

/-- A die without a READY block clears its least-worn FREE block, unless a clear already runs (R167). -/
def Dev.makeReady (d : Dev) (die : Nat) : Dev :=
  if !(d.readyBlocks die).isEmpty || d.med.blocks.any (fun e => e.1 / 1024 = die && e.2.state = .clearing) then d
  else d.clearOne die

/-- Open a band for a stream (R163, R167). Where a die of the set has no READY block, its least-worn FREE block is cleared,
and the opening waits. -/
def Dev.openBand (d : Dev) (stream : Nat) : Option Nat × Dev :=
  match d.chooseSet (stream = 5) with
  | none => (none, d)
  | some j =>
    if (d.setDies j).any (fun die => (d.readyBlocks die).isEmpty) then (none, d.each (d.setDies j) Dev.makeReady) else
    let ks := (d.setDies j).filterMap (fun die => d.leastWorn die)
    let b := freshBand d.med.bands (d.med.bands.length + 1) (d.med.nextBand % 0x1FFF8)
    if d.med.bands.has b then (none, d) else
    let x : Band := { set := j, blocks := ks.map (· % 1024), stream, state := .opened, openedAt := d.now }
    let d := { d with med := { d.med with nextBand := b + 1, bands := d.med.bands.put b x } }
    let d := d.each ks (fun d k => d.setBlock k { d.block k with state := if stream = 5 then .gather else .opened })
    (some b, d.journal 0x0A b 2)

/-- Rows of a band: 4,096 dense, 1,024 in 1-bit mode. -/
def bandRows (stream : Nat) : Nat := if stream = 5 then 1024 else 4096

/-- The row being filled of a stream's open bands with a free slot, if any, in another band than one to avoid. -/
def Dev.fillRow (d : Dev) (stream : Nat) (avoid : Option Nat) : Option RowFill :=
  d.med.rows.find? (fun r => decide (r.pages.length < 8) && decide (some r.band ≠ avoid) &&
    (match d.band r.band with | some b => b.stream = stream && b.state = .opened | none => false))

/-- Open bands of a stream; for staging, the gather bands in use whose fast windows are all open (R196). -/
def Dev.streamOpen (d : Dev) (stream : Nat) : List (Nat × Band) :=
  d.med.bands.filter (fun e => e.2.stream = stream && e.2.state = .opened &&
    (decide (stream ≠ 5) || (d.med.gather.contains e.1 && d.setOpenable e.2.set true)))

/-- OPEN_MAX of a stream (R181); the gather zone alone lends gather bands (R170). -/
def Dev.openMax (d : Dev) (stream : Nat) : Nat :=
  if stream = 5 then 0 else ((d.cfg.map (·.band.openMax)).getD []).getD stream 2

/-- Queue the programs of a filled row (R164): a sheet for each member, in its stream's mode. The dose counters of the
packages are noted at the band's first row (R184). -/
def Dev.programRow (d : Dev) (r : RowFill) : Dev :=
  match d.band r.band with
  | none => d
  | some b =>
    let d := if b.base.isEmpty then
        d.setBand r.band { b with base := (d.setDies b.set).map (fun die => d.pkgDose (diePkg die)) } else d
    let dur := if b.stream = 5 then 1200 else 6000
    let rebuild := r.pages.any (fun p => p.version.isNone && ((d.band (entryBand p.src)).map (·.rebuild)).getD false)
    let ps := (List.range 10).map (fun i =>
      ({ die := (d.setDies b.set).getD i 0, op := 2, use := .sheet r.band r.row i, dur, band := r.band, row := r.row, pos := i,
         block := b.blocks.getD i 0, stream := b.stream, rebuild } : ProgReq))
    { d with med := { d.med with progs := d.med.progs ++ ps } }.startProgs

/-- A copy reads the grains of its source, as background reads: one that the ladder fails is read around, and what is lost is
stored poisoned (R171, R173, R188). -/
def Dev.readSource (d : Dev) (p : RowPage) (band row : Nat) : Dev :=
  d.each (List.range 16) (fun d g => d.issueRead copySlice (band * 4096 + row) p.src p.lpn g noDeadline 0 false)

/-- A write-back takes the counters of its page's leaf, which is fetched where the cache does not hold it, and reads the
grains with lines that keep their ciphertext (R283, R294). -/
def Dev.readLeaf (d : Dev) (p : RowPage) (band row : Nat) : Dev :=
  let keeps := (List.range 16).filter (fun g => (List.range 4).any (fun i => !d.inTier p.lpn (4 * g + i)))
  let d := d.each keeps (fun d g => d.issueRead copySlice (band * 4096 + row) (d.mapEntry p.lpn) p.lpn g noDeadline 0 false)
  (d.fetchChain { slice := copySlice, entry := band * 4096 + row, loc := p.src, lpn := p.lpn, grain := 0, die := 0
                  path := .direct, predicted := d.now, deadline := noDeadline, rank := 6 } p.lpn).2

/-- Put a page into the row being filled of a stream (R162 to R164), opening a band where one is needed: the lowest-numbered
open band with room takes it, and another opens only when none has room, up to OPEN_MAX; R162 and R163 leave this open
(DESIGN CHOICE, log 92). A band to avoid takes it not. The answer is false when no band can be opened. A filled row is
programmed. -/
def Dev.addToRow (d : Dev) (stream : Nat) (p : RowPage) (avoid : Option Nat := none) : Bool × Dev :=
  let put := fun (d : Dev) (r : RowFill) =>
    let r' := { r with pages := r.pages ++ [p] }
    let rows := d.med.rows.map (fun (x : RowFill) => if x.band = r.band && x.row = r.row then r' else x)
    let d := { d with med := { d.med with rows } }
    let d := if p.version.isNone then d.readSource p r.band r.row
             else if isLpn p.lpn then d.readLeaf p r.band r.row else d
    if r'.pages.length = 8 then d.programRow r' else d
  match d.fillRow stream avoid with
  | some r => (true, put d r)
  | none =>
    let next := fun (b : Nat) => ((d.med.rows.filter (fun r => r.band = b)).map (·.row + 1)).foldl max
      (((d.band b).map (·.rows)).getD 0)
    let free := (d.streamOpen stream).find? (fun e => decide (next e.1 < bandRows stream) && decide (some e.1 ≠ avoid))
    match free with
    | some e =>
      let r : RowFill := { band := e.1, row := next e.1, pages := [] }
      (true, put { d with med := { d.med with rows := d.med.rows ++ [r] } } r)
    | none =>
      if d.openMax stream ≤ (d.streamOpen stream).length then (false, d)
      else match d.openBand stream with
        | (none, d) => (false, d)
        | (some b, d) =>
          let r : RowFill := { band := b, row := 0, pages := [] }
          (true, put { d with med := { d.med with rows := d.med.rows ++ [r] } } r)

/-! ## The metadata stream (R160, R162, R163, R291, R293) -/

/-- Put a page of the metadata stream into a row. -/
def Dev.addMeta (d : Dev) (key version : Nat) (entries : List (Nat × OrcStored)) (avoid : Option Nat) : Bool × Dev :=
  d.addToRow 4 { lpn := key, version := some version, src := ((d.med.metaLoc.find key).map (·.1)).getD mapUnwritten, lines := []
                 entries } avoid

/-- The band whose row took a page of the metadata stream under a version. -/
def Dev.metaBand (d : Dev) (key version : Nat) : Option Nat :=
  (d.med.rows.find? (fun r => r.pages.any (fun p => p.lpn = key && p.version = some version))).map (·.band)

/-- Write an orchard page twice, into two different metadata bands (R293): false when two cannot be had. -/
def Dev.addOrcPage (d : Dev) (k : Nat) (entries : List (Nat × OrcStored)) : Bool × Dev :=
  let v := d.cry.orc.seq
  let d0 := d
  let (a, d) := d.addMeta (orcPage k 0) v entries none
  let (b, d) := d.addMeta (orcPage k 1) v entries (d.metaBand (orcPage k 0) v)
  if a && b then (true, d.setOrc { d.cry.orc with seq := v + 1 }) else (false, d0)

/-- Write a changed entry (R291): its counter in its parent advances, its MAC is made under the new value, and the parent,
changed by it, is written in its turn where that counter has advanced by 8. An entry is not written again within 100 ns. -/
def Dev.orcWrite (fuel : Nat) (d : Dev) (k : Nat) : Dev :=
  match fuel with
  | 0 => d
  | n + 1 =>
    match d.cry.orc.line k with
    | none => d
    | some x =>
      if !x.changed || decide (10 < orcLevel k) || (x.writtenAt ≠ 0 && decide (d.now < x.writtenAt + 100)) then d
      else
        let c := (d.entryCtr k + 1) % 2 ^ 56
        match d.addOrcPage k [(k, d.orcContents k c)] with
        | (false, d) => d
        | (true, d) =>
          let o := d.cry.orc
          let d := d.setOrc { o with ctr := o.ctr.put k c
                                     cache := o.cache.map (fun (y : OrcLine) => if y.key = k then
                                       { y with changed := false, adv := [], writtenAt := d.now } else y) }
          let d := d.orcMark (orcParent k) [orcSlot k]
          if (d.cry.orc.line (orcParent k)).any (fun y => decide (8 ≤ y.adv.findD (orcSlot k) 0)) then d.orcWrite n (orcParent k)
          else d

/-- An entry's own counters advance (R291): it is written when one has advanced by 8. -/
def Dev.orcAdvance (d : Dev) (k : Nat) (slots : List Nat) : Dev :=
  let d := d.orcMark k slots
  if (d.cry.orc.line k).any (fun x => x.adv.any (fun a => decide (8 ≤ a.2))) then d.orcWrite 12 k else d

/-- Entries whose counters have advanced by 8 and that the 100 ns of R291 have held back. -/
def Dev.orcDue (d : Dev) : List Nat :=
  (d.cry.orc.cache.filter (fun x => x.changed && decide (orcLevel x.key < 11) && x.adv.any (fun a => decide (8 ≤ a.2)))).map (·.key)

/-- The cache evicts what it has no room for (R291, R292): least recently used first, a changed entry as it is written. -/
def Dev.orcTrim (d : Dev) : Dev :=
  let n := d.cry.orc.cache.countP (fun x => decide (orcLevel x.key < 8)) - orcRoom
  d.each (List.range n) (fun d _ =>
    match d.cry.orc.victim with
    | none => d
    | some x =>
      let d := if x.changed then d.orcWrite 12 x.key else d
      if (d.cry.orc.line x.key).any (·.changed) || d.orcPending x.key then d.orcUse x.key
      else d.setOrc { d.cry.orc with cache := d.cry.orc.cache.filter (fun y => y.key ≠ x.key) })

/-- A page of the map that has changed is written (R160). -/
def Dev.writeMapPage (d : Dev) (x : MapLine) : Dev :=
  if d.med.rows.any (fun r => r.pages.any (fun p => p.lpn = mapKey x.page && p.version = some x.ver)) then d
  else (d.addMeta (mapKey x.page) x.ver [] none).2

/-- The map-page cache makes room: the page that leaves is written first where it has changed (R160). -/
def Dev.mapTrim (d : Dev) : Dev :=
  match d.mapVictim with
  | none => d
  | some x =>
    if x.dirty then d.writeMapPage x
    else { d with med := { d.med with mapCache := d.med.mapCache.filter (fun y => y.page ≠ x.page) } }

/-- Pages of the map and of the band and block tables that have changed since they were last written, are written: the
journal records that cover them are about to be freed (R160, R258). -/
def Dev.writeTables (d : Dev) : Dev :=
  let d := d.each (d.med.mapCache.filter (·.dirty)) Dev.writeMapPage
  d.each d.med.tables (fun d n =>
    match d.addMeta (tableKey n) d.cry.orc.seq [] none with
    | (true, x) => { x.setOrc { x.cry.orc with seq := d.cry.orc.seq + 1 } with med := { x.med with tables := setErase x.med.tables n } }
    | (false, _) => d)

/-- The metadata stream keeps at least 2 bands open (R163). -/
def Dev.keepMeta (d : Dev) : Dev :=
  d.each (List.range (2 - (d.streamOpen 4).length)) (fun d _ => (d.openBand 4).2)

/-- A page of the metadata stream leaves its band: it is written anew (R171, R174). -/
def Dev.moveMeta (d : Dev) (key : Nat) : Dev :=
  if d.med.rows.any (fun r => r.pages.any (fun p => p.lpn = key)) then d
  else
    let avoid := if decide (2 ^ 44 ≤ key) then (d.med.metaLoc.find (key ^^^ 1)).map (fun e => entryBand e.1) else none
    let v := match d.med.mapCache.find? (fun x => mapKey x.page = key) with
      | some x => x.ver
      | none => ((d.med.metaLoc.find key).map (·.2)).getD 0
    (d.addMeta key v [] avoid).2

/-- What a page of an abandoned row of the metadata stream held is still to be written. -/
def Dev.metaAgain (d : Dev) (p : RowPage) : Dev :=
  let d := d.each p.entries (fun d x => d.orcAgain x.1)
  if decide (2 ^ 41 ≤ p.lpn) && decide (p.lpn < 2 ^ 44) then
    { d with med := { d.med with tables := setInsert d.med.tables (p.lpn - tableKey 0) } }
  else d

/-- A page of the metadata stream is verified in its row: its location is the newest, and so are the entries written in it.
-/
def Dev.landMeta (d : Dev) (p : RowPage) (e : Nat) : Dev :=
  let v := p.version.getD 0
  let old := ((d.med.metaLoc.find p.lpn).map (·.2)).getD 0
  if v < old then d
  else
    let o := d.cry.orc
    let stored := p.entries.foldl (fun (a : AMap OrcStored) x =>
      if (a.find x.1).any (fun y => decide (x.2.seq < y.seq)) then a else a.put x.1 x.2) o.stored
    let d := d.setOrc { o with stored }
    { d with med := { d.med with
      metaLoc := d.med.metaLoc.put p.lpn (e, v)
      mapCache := d.med.mapCache.map (fun (x : MapLine) => if mapKey x.page = p.lpn && x.ver = v then { x with dirty := false } else x) } }

/-- The stream of a page's write-back (R162). -/
def Dev.streamOf (d : Dev) (pid : Nat) : Nat :=
  let age := match d.med.pages.find (d.mapEntry pid) with
    | some m => d.now - m.writtenAt
    | none => 0
  let split := ((d.cfg.map (·.band.ageSplit)).getD 60) * 60000000000
  match d.pageOwner pid with
  | none => 0
  | some (n, _, _) =>
    match d.region n with
    | none => 0
    | some r =>
      match r.rtype with
      | .counter => 0
      | .queue => if age < split then 0 else 1
      | _ => if r.placement = 0 then 0 else if r.placement = 2 then 1 else if age < split then 0 else 1

/-- The lines of a page as its next media copy holds them: the media copy's with the tier's over them. -/
def Dev.pageLines (d : Dev) (pid : Nat) : AMap Cell :=
  let old := match d.med.pages.find (d.mapEntry pid) with | some m => m.lines | none => []
  (d.page pid).lines.foldl (fun (a : AMap Cell) (e : Nat × Cell) => a.put e.1 e.2) old

/-- A dense window is closed. -/
def Dev.anyDenseClosed (d : Dev) : Bool := (List.range 64).any (fun q => d.serves (packageIx q) && (d.pkg q).denseClosed)

/-- Media capacity is exhausted (R177): no set can take a band, the gather zone is at its floor, and no band can be culled.
-/
def Dev.exhausted (d : Dev) : Bool :=
  let busy := d.openDies
  !(List.range d.ring.length).any (fun j =>
    d.setOpenable j false && (d.setDies j).all (fun die => !busy.contains die && d.dieHasBlock die)) &&
  decide (d.footprint ≤ d.gatherFloor) &&
  !d.med.bands.any (fun e => e.2.state = .full && e.2.stream ≠ 5 && decide (d.validCount e.1 < 32768))

/-- Copy a page into a stream, source-checked when the row is verified (R164). While a dense window is closed and no dense
row takes it, it is staged (R196, R201). -/
def Dev.copyPage (d : Dev) (lpn src stream : Nat) : Dev :=
  if d.med.rows.any (fun r => r.pages.any (fun p => p.lpn = lpn && p.src = src)) then d
  else
    let lines := match d.med.pages.find src with | some m => m.lines | none => []
    match d.addToRow stream { lpn, version := none, src, lines } with
    | (true, d) => d
    | (false, d) => if d.anyDenseClosed then (d.addToRow 5 { lpn, version := none, src, lines }).2
                    else if d.exhausted then d.setPdeg 0 true else d

/-- Copy the pages of a band into a stream (R171, R191); pages of the metadata stream are written anew in theirs. -/
def Dev.copyPages (d : Dev) (b stream : Nat) : Dev :=
  (d.each (d.validPages b) (fun d e => d.copyPage e.1 e.2 stream)).each (d.validMeta b) Dev.moveMeta

/-- A band is drained: its blocks become VICTIM, and its valid pages are copied into a stream (R171, R191). -/
def Dev.drainBand (d : Dev) (b stream : Nat) : Dev :=
  match d.band b with
  | none => d
  | some x =>
    let d := d.setBand b { x with state := .victim, copyTo := stream }
    let d := d.each (d.bandBlocks x) (fun d k =>
      if (d.block k).state = .full then d.setBlock k { d.block k with state := .victim } else d)
    d.copyPages b stream

/-- An empty gather band is returned: its blocks can be used otherwise once a startup checkpoint omits it (R258). -/
def Dev.gatherBack (d : Dev) (b : Nat) : Dev :=
  { d with med := { d.med with gather := setErase d.med.gather b, gatherPending := setErase d.med.gatherPending b
                               gatherReturn := setInsert d.med.gatherReturn b } }

/-- Pages of bands being drained whose row was abandoned join a new row (R165); bands of a geometry being left are drained
into the one in force (R42). -/
def Dev.recopy (d : Dev) : Dev :=
  let d := d.each (d.med.bands.filter (fun e => e.2.state = .victim && !e.2.rebuild)) (fun d e => d.copyPages e.1 e.2.copyTo)
  d.each (d.med.bands.filter (fun e => decide (oldSet ≤ e.2.set))) (fun d e =>
    if e.2.stream = 5 then (if d.bandEmpty e.1 then d.gatherBack e.1 else d.copyPages e.1 5)
    else if e.2.state = .full then d.drainBand e.1 2 else d)

/-! ## The leaf of a written page (R281, R283) -/

/-- Advance the counters of the lines that a write-back writes: minor + 1, or major + 1 when one holds 63. -/
def Dev.advanceLeaf (d : Dev) (lpn : Nat) (written : List Nat) : Dev :=
  let l := d.med.leaves.findD lpn {}
  -- a page without a media copy starts under the next major (R281)
  let fresh := d.mapEntry lpn = mapUnwritten && d.med.leaves.has lpn
  let l : Leaf := if fresh then { major := l.major + 1 } else l
  let full := written.any (fun s => decide (63 ≤ l.minors.findD s 0))
  let l' : Leaf :=
    if full then { major := l.major + 1, minors := ((d.pageLines lpn).keys).map (fun s => (s, 1)) }
    else { l with minors := written.foldl (fun (a : AMap Nat) s => a.put s (a.findD s 0 + 1)) l.minors }
  -- a line kept that verifies under no key of its region, or not under the old leaf, is stored poisoned (R283)
  let bad := if full then (d.pageLines lpn).filter (fun x =>
      !written.contains x.1 && (!(d.keysOf x.2.ki).contains x.2.key || d.staleLine lpn x.1)) else []
  let d := { d with med := { d.med with leaves := d.med.leaves.put lpn l' } }
  let d := if full then (d.each bad (fun d x => d.poisonLine lpn x.1 poisonInternal)).countWrap .CRY_MINOR_MAJORS else d
  d.orcAdvance (orcKey 0 lpn) (if full || fresh then 64 :: written else written)

/-- The counters of a new media copy's lines (R283): those of the new leaf for lines written, or for all where MAJOR has
changed; other lines keep theirs. -/
def Dev.copyCtrs (d : Dev) (lpn : Nat) (written : List Nat) (lines : AMap Cell) (oldMajor : Nat) (old : AMap Nat) : AMap Nat :=
  let l := d.med.leaves.findD lpn {}
  lines.foldl (fun (a : AMap Nat) x =>
    a.put x.1 (if l.major ≠ oldMajor || written.contains x.1 then l.counters x.1 else old.findD x.1 0)) []

/-- A region is DEGRADED (R318): a key sweep runs over it, or an orphaned subtree lies in its extent. -/
def Dev.regionDegraded (d : Dev) (n : Nat) : Bool :=
  d.cry.sweeps.any (fun e => e.2.region = n) || d.cry.orphans.any (fun o => d.med.segs.any (fun e =>
    e.1 / 2 ^ 21 = n && decide (e.2 * segPages < (o.2 + 1) * 8 ^ o.1) && decide (o.2 * 8 ^ o.1 < (e.2 + 1) * segPages)))

/-- A region's state under R318. -/
def Dev.regionHealth (d : Dev) (n : Nat) : Dev :=
  if !d.serves (regionIx n) then d
  else d.moveUnit (regionIx n) (if d.regionDegraded n then .degraded else .online) 7

/-- Whether an orchard entry lies in the subtree of another, by (level, index) (R289). -/
def underEntry (o e : Nat × Nat) : Bool := decide (o.1 ≤ e.1) && o.2 / 8 ^ (e.1 - o.1) = e.2

/-- The orphans that stand once the path to an entry is grafted: those of its subtree and above it go, and each new node's
other slots stay ORPHAN (R299). -/
def graftAt (os : List (Nat × Nat)) (e : Nat × Nat) : List (Nat × Nat) :=
  let top := ((os.filter (fun o => underEntry e o)).map (·.1)).foldl max e.1
  let kept := os.filter (fun o => !underEntry o e && !underEntry e o)
  let sibs := (List.range top).flatMap (fun l =>
    if l < e.1 then [] else (List.range 8).map (fun c => (l, e.2 / 8 ^ (l + 1 - e.1) * 8 + c)))
  kept ++ sibs.filter (fun o => !underEntry e o && !kept.contains o)

/-- Re-graft a page under an orphaned ancestor as its write-back takes effect (R299): `lines` are those of the new media
copy, `written` those written since the last one. The lines that cannot be carried forward are stored poisoned. -/
def Dev.regraftPage (d : Dev) (lpn level : Nat) (written : List Nat) (lines : AMap Cell) : Dev :=
  let old := d.mapEntry lpn
  let carry := fun (s : Nat) =>
    written.contains s || (if level = 0 then d.inTier lpn s
      else !d.strictOf lpn && !d.staleLine lpn s && (match lines.find s with | some c => (d.keysOf c.ki).contains c.key | none => true))
  let lost := if old = mapUnwritten then [] else (List.range 64).filter (fun s => !carry s)
  let d := d.each lost (fun d s => if d.poison.lines.has (lpn * 64 + s) then d else d.poisonLine lpn s poisonInternal)
  let top := ((d.cry.orphans.filter (fun o => lpn / 8 ^ o.1 = o.2)).map (·.1)).foldl max 0
  -- a graft MAJOR for the leaf, and a graft counter for each entry of the path up to the highest orphan
  let leaf : Leaf := { major := 2 ^ 63 + d.cry.graft, minors := (lines.keys.filter (fun s => !lost.contains s)).map (fun s => (s, 1)) }
  let d := { d with med := { d.med with leaves := d.med.leaves.put lpn leaf }
                    cry := { d.cry with orphans := graftAt d.cry.orphans (0, lpn), graft := (d.cry.graft + 1) % 2 ^ 55 } }
  let d := d.graftPath lpn top
  d.each (List.range 64) Dev.regionHealth

/-- A row of a band is verified (R164): its pages take effect under the version and source checks. -/
def Dev.landRow (d : Dev) (r : RowFill) : Dev :=
  match d.band r.band with
  | none => d
  | some b =>
    let d := { d with med := { d.med with rows := d.med.rows.filter (fun x => !(x.band = r.band && x.row = r.row)) } }
    let d := d.setBand r.band { b with rows := max b.rows (r.row + 1) }
    let d := d.count .DRT_STREAMs_ROWS b.stream
    let d := d.dropCmds (fun c => match c.use with | .sheet x y _ => x = r.band && y = r.row | _ => false)
    let d := d.each (d.setDies b.set) (fun d die =>
      match (d.die die).op with
      | some o => if !o.clear && o.band = r.band && o.row = r.row then d.setDie die { d.die die with op := none } else d
      | none => d)
    let d := d.each (List.range 8) (fun d i =>
      match r.pages[i]? with
      | none => d
      | some p =>
        let e := entryOf r.band r.row i
        if isMeta p.lpn then d.landMeta p e else
        let cur := d.mapEntry p.lpn
        let page := d.page p.lpn
        let ok := cur = p.src && (match p.version with | some v => page.dirty && page.version = v | none => true)
        if !ok then d
        else
          let old := (d.med.pages.find p.src).getD { lpn := p.lpn, lines := [], writtenAt := 0 }
          let major := (d.med.leaves.findD p.lpn {}).major
          let mp : MPage := { lpn := p.lpn, lines := p.lines, writtenAt := d.now, version := p.version.getD old.version
                              ctrs := old.ctrs }
          let poisonRest := cur = mapPoisoned
          let d := { d with med := { d.med with pages := d.med.pages.put e mp
                                                staged := setErase d.med.staged p.lpn } }
          let d := if poisonRest then
              d.each ((List.range 64).filter (fun s => !p.lines.has s)) (fun d s => d.poisonLine p.lpn s poisonInternal)
            else d
          let d := if p.version.isSome then
              match d.orphanOf p.lpn with
              | some l => d.regraftPage p.lpn l page.written p.lines
              | none => d.advanceLeaf p.lpn page.written
            else d
          let d := if p.version.isSome then
              let ctrs := d.copyCtrs p.lpn page.written p.lines major old.ctrs
              { d with med := { d.med with pages := d.med.pages.put e { mp with ctrs := ctrs } } }
            else d
          let d := d.setMap p.lpn e (p.version.getD 0)
          let d := if b.stream = 5 then { d with med := { d.med with staged := d.med.staged ++ [p.lpn] } } else d
          match p.version with
          | none => if b.stream = 2 then d.count .DRT_CULLET_CNT_PAGES else if b.stream = 3 then d.count .DRT_LEHR_CNT_PAGES else d
          | some _ =>
            -- the page leaves the dirty set when its MAP_SET has been mirrored (R260)
            d.setPage p.lpn { d.page p.lpn with landed := some page.version, written := [], unpers := false })
    let d := d.each (d.setDies b.set) (fun d die =>
      let x := d.block (blockKey die (b.blocks.getD (((d.setDies b.set).idxOf die)) 0))
      d.setBlock (blockKey die (b.blocks.getD (((d.setDies b.set).idxOf die)) 0)) { x with maxCb := 0, reads := 0, ladder := 0 })
    let whole := decide (bandRows b.stream ≤ max b.rows (r.row + 1)) && !d.med.rows.any (fun x => x.band = r.band)
    let d := (if whole then d.closeBand r.band .full else d).orcTrim.mapTrim
    (if b.stream = 4 then d.keepMeta else d).startProgs

/-- A row fails (R165): it is abandoned, its band is closed as a victim, the failed member's block is marked. -/
def Dev.abandonRow (d : Dev) (r : RowFill) (pos : Option Nat) : Dev :=
  match d.band r.band with
  | none => d
  | some b =>
    let d := d.count .DRT_CULLET_CNT_ABANDONED
    let d := match pos with
      | some i =>
        let k := (d.bandBlocks b).getD i 0
        let d := if b.stream = 2 || b.stream = 3 then d.count .DRT_CULLET_CNT_TGT_RETIRED else d
        d.setBlock k { d.block k with marked := true }
      | none => d
    (d.closeBand r.band .victim).startProgs

/-- The causes EXHAUSTED and TEMPERATURE end (R179, R196). -/
def Dev.judgeCapacity (d : Dev) : Dev :=
  let d := if (d.reg .DRT_PDEG_CAUSE).testBit 0 && !d.exhausted then d.setPdeg 0 false else d
  if (d.reg .DRT_PDEG_CAUSE).testBit 1 && ((d.chooseSet false).isSome || !(d.streamOpen 5).isEmpty) then d.setPdeg 1 false
  else d

/-- Write-back of a dirty page by snapshot (R161). When no band takes it, media capacity is exhausted (R177). -/
def Dev.writeBack (d : Dev) (pid : Nat) : Dev :=
  let p := d.page pid
  if !(isLpn pid && p.dirty) || p.landed = some p.version ||
      d.med.rows.any (fun r => r.pages.any (fun q => q.lpn = pid && q.version.isSome)) then d
  else
    let rp : RowPage := { lpn := pid, version := some p.version, src := d.mapEntry pid, lines := d.pageLines pid }
    match d.addToRow (d.streamOf pid) rp with
    | (true, d) => d
    | (false, d) =>
      if d.anyDenseClosed then
        -- staging into gather bands while dense windows are closed (R196)
        match d.addToRow 5 rp with
        | (true, d) => d.setFlag .DRT_TWIN_STAGING 0 true
        | (false, d) =>
          if d.budget ≤ d.uncovered * 4096 then
            (d.setPdeg 1 true).setPage pid { d.page pid with unpers := true }
          else d
      else if d.exhausted then
        (d.setPdeg 0 true).setPage pid { d.page pid with unpers := true }
      else d

/-- The pages of abandoned rows join rows of other open bands of the same stream (R165, R180). -/
def Dev.rejoin (d : Dev) (rows : List RowFill) : Dev :=
  d.each rows (fun d r =>
    let stream := ((d.band r.band).map (·.stream)).getD 0
    d.each r.pages (fun d p =>
      if isMeta p.lpn then
        (match d.addMeta p.lpn (p.version.getD 0) p.entries none with
         | (true, d) => d
         | (false, d) => d.metaAgain p)
      else if p.version.isSome then d.writeBack p.lpn else d.copyPage p.lpn p.src stream))

/-- A row fails while the device runs (R165): its band closes, and its pages are written elsewhere. -/
def Dev.failRow (d : Dev) (r : RowFill) (pos : Option Nat) : Dev :=
  let rows := d.med.rows.filter (fun x => x.band = r.band)
  ((d.abandonRow r pos).rejoin rows).recopy

/-! ## Grains lost (R188 step 6) -/

/-- The pages and lines of a grain: lines 4g to 4g + 3 of its page. -/
def grainLines (g : Nat) : List Nat := (List.range 4).map (fun i => 4 * g + i)

/-- Every line of a grain that the DRAM tier does not hold is stored poisoned, with source Internal (R188 step 6); `key` and
`row` name its block and sheet for the event (R416). -/
def Dev.poisonGrain (d : Dev) (lpn g mc key row : Nat) : Dev :=
  if isMeta lpn then d else if lpn = spillKey then d.count .MCX_ECC_CNT1_POISONED mc else
  let d := d.each (grainLines g) (fun d s => if d.inTier lpn s then d else d.poisonLine lpn s poisonInternal)
  let heads := match d.pageOwner lpn with | some (n, _, _) => d.regionHeads n | none => 3
  (d.count .MCX_ECC_CNT1_POISONED mc).raise (385 + 16 * mc) { dpa := (d.dpaOf lpn (4 * g)).getD 0, a := blockA key, b := 6, c := row, heads }

end Sys2Proof.Machine
end

