-- ==== Sys2Proof/Machine/Slices.lean ====
section
/-!
DEFINITION. Heads and request slices: HDM decode and windows (R46, R51 to R56, R74 to R78, R101, R323), acceptance at a
head (R13, R135), the tracking table (R102 to R110), the line cache and the victim hold (R116 to R124, R134), and the
response of a request with its accounting (R88, R147, R148, R425).
-/
namespace Sys2Proof.Machine

/-! ## Heads -/

/-- A head's record. -/
def Dev.head (d : Dev) (h : Nat) : HeadS := d.heads.findD h {}

/-- Change a head's record. -/
def Dev.setHead (d : Dev) (h : Nat) (x : HeadS) : Dev := { d with heads := d.heads.put h x }

/-- An HDM decoder of a head. -/
def Dev.decoder (d : Dev) (h n : Nat) : Decoder := (d.head h).decoders.findD n {}

/-- The DPA at which decoder `n` of a head starts: the end of the decoder below it plus its own skip (R77). -/
def Dev.decoderBase (d : Dev) (h n : Nat) : Nat :=
  match n with
  | 0 => (d.decoder h 0).skip
  | k + 1 =>
    let p := d.decoder h k
    d.decoderBase h k + p.hpaSize / (max p.ways 1) + (d.decoder h (k + 1)).skip

/-- Whether a decoder claims an HPA: committed, in range, and this device's interleave position (R77, R78). -/
def Decoder.hits (x : Decoder) (hpa : Nat) : Bool :=
  x.committed && decide (x.hpaBase ≤ hpa) && decide (hpa < x.hpaBase + x.hpaSize) &&
  decide ((hpa - x.hpaBase) / (max x.gran 1) % (max x.ways 1) = x.target)

/-- The DPA offset of an HPA within a decoder's range (R77). -/
def Decoder.dpaOff (x : Decoder) (hpa : Nat) : Nat :=
  let o := hpa - x.hpaBase
  o / (max x.gran 1 * max x.ways 1) * max x.gran 1 + o % max x.gran 1

/-- The DPA of an HPA at a head. Where programmed ranges overlap, which decoder answers is open (R66): free. -/
def Dev.decodeHpa (d : Dev) (h hpa : Nat) : Option Nat × Dev :=
  match (List.range 8).filter (fun n => (d.decoder h n).hits hpa) with
  | [] => (none, d)
  | [n] => (some (d.decoderBase h n + (d.decoder h n).dpaOff hpa), d)
  | ns =>
    let (f, d) := d.drawFree 78
    let n := ns.getD (f % ns.length) 0
    (some (d.decoderBase h n + (d.decoder h n).dpaOff hpa), d)

/-! ## Regions and windows (R46, R51, R55) -/

/-- The size of a 256 MiB window. -/
def win256 : Nat := 2 ^ 28

/-- The counter count of a COUNTER region. -/
def Dev.regionCount (d : Dev) (r : RegionRec) : Nat := ((d.counterSet r.setId).map (·.count)).getD 0

/-- The span of a region (R55). -/
def Dev.span (d : Dev) (r : RegionRec) : Nat :=
  match r.rtype with
  | .table => if r.shadow then 2 * r.size + win256 else r.size
  | .scratch => r.size
  | .counter => counterWindow (d.regionCount r) + win256
  | .queue => 2 ^ 32 + win256

/-- The extent of a region (R46). -/
def Dev.extent (d : Dev) (r : RegionRec) : Nat :=
  if r.aliasW = 0 then d.span r else 2 ^ (r.aliasPos + r.aliasW)

/-- The DPA limit (R73): the end of the highest region extent, rounded up to 256 MiB. -/
def Dev.dpaLimit (d : Dev) : Nat :=
  roundUp ((((d.cfg.map (·.regions)).getD []).map (fun r => r.base + d.extent r)).foldl max 0) win256

/-- The region, the offset with its alias bits removed, and the key index of a DPA reached through the heads of a mask
(R46, R51, R53). -/
def Dev.locate (d : Dev) (dpa heads : Nat) : Option (RegionRec × Nat × Nat) :=
  match d.cfg with
  | none => none
  | some c =>
    match c.regions.find? (fun r => r.base ≤ dpa && dpa < r.base + d.extent r && (d.regionHeads r.number &&& heads) ≠ 0) with
    | none => none
    | some r =>
      let o := dpa - r.base
      let off := if r.aliasW = 0 then o else o % 2 ^ r.aliasPos
      let al := if r.aliasW = 0 then 0 else o / 2 ^ r.aliasPos
      if off < d.span r then some (r, off, r.keyBase + al) else none

/-- The windows of R55, with the offset within the window or the queue number. -/
inductive Win where
  | main | shadow | control (o : Nat) | counter (m : Nat) | tally | enqueue (q o : Nat) | dequeue (q o : Nat)
  | doorbell (q : Nat)
  deriving DecidableEq, Repr

/-- The window that a line-aligned offset lies in. -/
def Dev.window (d : Dev) (r : RegionRec) (off : Nat) : Win :=
  match r.rtype with
  | .table => if off < r.size then .main else if off < 2 * r.size then .shadow else .control (off - 2 * r.size)
  | .scratch => .main
  | .counter =>
    let cw := counterWindow (d.regionCount r)
    if off < cw then .counter (off / 64) else .tally
  | .queue =>
    if off < 2 ^ 31 then .enqueue (off / 16384) (off % 16384)
    else if off < 2 ^ 32 then .dequeue ((off - 2 ^ 31) / 16384) (off % 16384)
    else .doorbell ((off - 2 ^ 32) / 64)

/-- What a request to a window is, or the host-interface source of its refusal: 70 out of set, 69 wrong window (R56,
R214, R234). -/
def Dev.classify (d : Dev) (r : RegionRec) (w : Win) (rd full : Bool) : Except Nat ReqKind :=
  let inSet := fun (q : Nat) => match d.queueSet r.setId with
    | some s => s.groupFirst * 512 ≤ q && q < (s.groupFirst + s.groupCount) * 512
    | none => false
  match w with
  | .main | .shadow => .ok (if rd then .read else if full then .write else .partialWrite)
  | .control o => if rd then (if o = 64 then .ok .statusRead else .error 70)
                  else (if o = 0 then .ok .commitDoorbell else .error 70)
  | .counter m => if d.regionCount r ≤ 8 * m then .error 70 else .ok (if rd then .counterRead else .counterWrite)
  | .tally => if rd then .error 69 else .ok .tally
  | .enqueue q _ => if !inSet q then .error 70 else if rd then .error 69 else .ok .enqueue
  | .dequeue q _ => if !inSet q then .error 70 else if rd then .ok .dequeue else .error 69
  | .doorbell q => if !inSet q then .error 70 else .ok (if rd then .qstatus else .doorbell)

/-- The queue of a window. -/
def Win.queue? (w : Win) : Option Nat :=
  match w with
  | .enqueue q _ | .dequeue q _ | .doorbell q => some q
  | _ => none

/-- The owning slice of a request (R14, R100, R101). -/
def Dev.ownerOf (d : Dev) (r : RegionRec) (w : Win) (off : Nat) : Nat :=
  match w with
  | .enqueue q _ | .dequeue q _ | .doorbell q => xorFold 4 (q % 65536) 4 ^^^ (q / 65536 % 2)
  | .counter m => xorFold 4 m 10
  | .tally => xorFold 4 ((off - counterWindow (d.regionCount r)) / 64) 6
  | _ => sliceOfSector (sectorOf (r.base + off))

/-- A read type of request. -/
def ReqKind.isRead (k : ReqKind) : Bool :=
  match k with
  | .read | .dequeue | .qstatus | .counterRead | .statusRead => true
  | _ => false

/-- A request of the queue or tally engine. -/
def ReqKind.isEngine (k : ReqKind) : Bool :=
  match k with
  | .enqueue | .dequeue | .doorbell | .qstatus | .tally | .counterRead | .counterWrite => true
  | _ => false

/-- Whether a request's effect is applied by the tally merge and not at acceptance. -/
def ReqKind.merges (k : ReqKind) : Bool :=
  match k with
  | .tally => true
  | .counterWrite => true
  | .counterRead => true
  | _ => false

/-! ## Slices in service (R132, R133, R336) -/

/-- A slice that can carry no share: lost, taken out, or under a built-in test. -/
def Dev.sliceDead (d : Dev) (k : Nat) : Bool :=
  (d.ustate (sliceIx k)) ∈ [.failed, .retired, .off, .quiesced, .absent, .starting] || (d.unit (sliceIx k)).testing

/-- The slice that carries share `k`: itself, its buddy under adoption, or none (R133, R336). -/
def Dev.carrier (d : Dev) (k : Nat) : Option Nat :=
  let b := k ^^^ 1
  if (d.slice k).adoptedAway then (if d.sliceDead b then none else some b)
  else if d.sliceDead k then none else some k

/-- The state of a slice under R318: DEGRADED in bypass, solo or adoption. -/
def Dev.sliceHealth (d : Dev) (k : Nat) : Dev :=
  if !d.serves (sliceIx k) then d
  else if d.flag .SLC_STATUS_BYPASS k || d.flag .SLC_STATUS_SOLO k || d.flag .SLC_STATUS_ADOPTED k then
    d.moveUnit (sliceIx k) .degraded 7
  else d.moveUnit (sliceIx k) .online 7

/-! ## Line cache (R116 to R124) -/

/-- The TIERPLAN that a slice runs: one that has rolled runs the new one (R41). -/
def Dev.waysInUse (d : Dev) (k : Nat) : Nat :=
  match d.boot.rollTier with
  | some t => if d.boot.rollQueue.contains k then (d.cfg.map (·.tier.waysInUse)).getD 24 else t.waysInUse
  | none => (d.cfg.map (·.tier.waysInUse)).getD 24

/-- A way of a slice is in use and enabled. -/
def Dev.wayOn (d : Dev) (k w : Nat) : Bool :=
  decide (w < d.waysInUse k) && !(d.reg .SLC_WAY_DIS_WAY_DIS k).testBit w

/-- The first way that a region owns: WAYS are allotted from way 0 upward in region-number order (R120). -/
def Dev.firstWay (d : Dev) (n : Nat) : Nat :=
  ((((d.cfg.map (·.regions)).getD []).filter (fun r => r.number < n)).map (·.ways)).foldl (· + ·) 0

/-- Ways that regions own together. -/
def Dev.ownedWays (d : Dev) : Nat := (((d.cfg.map (·.regions)).getD []).map (·.ways)).foldl (· + ·) 0

/-- The ways of a slice that pages of the map take in no-tier mode (R370): 8, the highest-numbered, so that ways that no
region owns go first. -/
def Dev.mapWays (d : Dev) (k : Nat) : List Nat :=
  if d.flag .PWR_STEP_NOTIER then (((List.range 24).filter (d.wayOn k)).reverse).take 8 else []

/-- The ways that a region may use in a slice. -/
def Dev.waysOf (d : Dev) (k : Nat) (r : RegionRec) : List Nat :=
  let f := d.firstWay r.number
  (List.range 24).filter (fun w => d.wayOn k w && !(d.mapWays k).contains w &&
    ((decide (f ≤ w) && decide (w < f + r.ways)) || (r.pool && decide (d.ownedWays ≤ w))))

/-- A request of the region uses the line cache of the slice: R50, and R126 in bypass. -/
def Dev.cached (d : Dev) (k : Nat) (r : RegionRec) : Bool :=
  !d.flag .SLC_STATUS_BYPASS k && !(d.waysOf k r).isEmpty

/-- The victim hold has the sector (R124). -/
def SliceS.holds (s : SliceS) (region sector ki : Nat) : Bool :=
  s.hold.any (fun e => e.2.sector = sector && e.2.region = region && e.2.ki = ki)

/-- The line that a way of the slice holds under a sector, region and key index (R117); a lookup of a sector that the victim
hold has misses (R124). -/
def SliceS.lookup (s : SliceS) (region dpa ki : Nat) : Option Line :=
  if s.holds region (sectorOf dpa) ki then none else
  (s.ways.find? (fun e => e.2.sector = sectorOf dpa && e.2.region = region && e.2.ki = ki &&
    e.2.lines.has (dpa / 64 % 4))).bind (fun e => e.2.lines.find (dpa / 64 % 4))

/-- The line that the victim hold has (R124). -/
def SliceS.held (s : SliceS) (region dpa ki : Nat) : Option Line :=
  (s.hold.find? (fun e => e.2.sector = sectorOf dpa && e.2.region = region && e.2.ki = ki &&
    e.2.lines.has (dpa / 64 % 4))).bind (fun e => e.2.lines.find (dpa / 64 % 4))

/-- The run-ahead buffer has a line (R114): its result has landed. -/
def SliceS.ahead (s : SliceS) (region dpa ki : Nat) : Bool :=
  s.ra.any (fun x => x.line = dpa / 64 && x.region = region && x.ki = ki && x.filledAt.isSome)

/-- Point the tree pseudo-LRU bits of a set away from a way (R120): bit `n` of the number is node `n` of a tree over 32
leaves whose children are 2n + 1 and 2n + 2; a bit of 1 names the right half as the less recent. -/
def plruTouch (bits_ way : Nat) : Nat :=
  ((List.range 5).foldl (fun (a : Nat × Nat) i =>
    let right := way.testBit (4 - i)
    (setBit a.1 a.2 (!right), 2 * a.2 + 1 + b2n right)) (bits_, 0)).1

/-- The leaf that the tree bits name as least recent among candidate ways (R120): each node sends to the half that its bit
names, or to the other where that half has no candidate. -/
def plruVictim (bits_ : Nat) (cand : List Nat) : Nat :=
  ((List.range 5).foldl (fun (a : Nat × List Nat) i =>
    let side := cand.filter (fun w => a.2.contains w && w.testBit (4 - i) = bits_.testBit a.1)
    let right := if side.isEmpty then !bits_.testBit a.1 else bits_.testBit a.1
    (2 * a.1 + 1 + b2n right, if side.isEmpty then a.2 else side)) (0, cand)).2.headD 0

/-- A way of a set has been used (R116, R120). -/
def SliceS.touch (s : SliceS) (set way : Nat) : SliceS :=
  { s with plru := s.plru.put set (plruTouch (s.plru.findD set 0) way) }

/-- The way whose sector a request hits has been used. -/
def SliceS.used (s : SliceS) (region dpa ki : Nat) : SliceS :=
  match s.ways.find? (fun e => e.2.sector = sectorOf dpa && e.2.region = region && e.2.ki = ki) with
  | some e => s.touch (e.1 / 24) (e.1 % 24)
  | none => s

/-! ## Tokens, the map-entry cache and the predictor (R106, R111, R112) -/

/-- The token epoch of an entry or run-ahead slot (R111). -/
def SliceS.epoch (s : SliceS) (e : Nat) : Nat := s.epochs.findD e 0

/-- A new use of an entry or slot: its token epoch advances (R104). -/
def SliceS.bump (s : SliceS) (e : Nat) : SliceS := { s with epochs := s.epochs.put e ((s.epoch e + 1) % 64) }

/-- The capacity of a slice's map-entry cache, by TIERPLAN (R106, R470). -/
def Dev.mecSize (d : Dev) : Nat := ((d.cfg.map (·.tier.mecK)).getD 128) * 1024

/-- A map lookup of a slice returns: the map-entry cache takes the entry. Which entry makes room in a full cache is free. -/
def Dev.mecFill (d : Dev) (k lpn : Nat) : Dev :=
  let s := d.slice k
  if !isLpn lpn || s.mec.contains lpn then d
  else if s.mec.length < d.mecSize then d.setSlice k { s with mec := setInsert s.mec lpn }
  else
    let (f, d) := d.drawFree 106
    d.setSlice k { s with mec := setInsert (setErase s.mec (s.mec.getD (f % max s.mec.length 1) 0)) lpn }

/-- The predictor's counter for a page (R106). -/
def SliceS.predOf (s : SliceS) (dpa : Nat) : Nat := s.pred.findD (Config.predHash (dpa / 4096) % 16384) 0

/-- The DRAM tier's answer trains the predictor (R106). -/
def Dev.train (d : Dev) (k dpa : Nat) (miss : Bool) : Dev :=
  let s := d.slice k
  let n := s.predOf dpa
  d.setSlice k { s with pred := s.pred.put (Config.predHash (dpa / 4096) % 16384) (if miss then min 3 (n + 1) else n - 1) }

/-- A write reaches cached lines (R117, R119, R124): `new` is the line it leaves, none when it is poisoned; a partial
write reaches valid copies only. Copies under another key index lose their valid bit. -/
def cacheWrite (ls : AMap Line) (sub : Nat) (same full : Bool) (new : Option Line) : AMap Line :=
  match new with
  | none => ls.del sub
  | some l => if !same then ls.del sub else if full || ls.has sub then ls.put sub l else ls

/-- A write updates the line cache, the hold and the run-ahead buffer of the slices that carry the share. -/
def Dev.writeCached (d : Dev) (k region dpa ki : Nat) (full : Bool) (new : Option Line) : Dev :=
  let s := d.slice k
  let a := sectorOf dpa
  let sub := dpa / 64 % 4
  let d := if s.ra.any (fun x => x.line = dpa / 64) then d.perf 0x35 k else d
  d.setSlice k { s with
    ways := s.ways.map (fun (w : Nat × LcWay) => if w.2.sector = a then
      (w.1, { w.2 with lines := cacheWrite w.2.lines sub (w.2.region = region && w.2.ki = ki) full new }) else w)
    hold := s.hold.map (fun (h : Nat × HoldEntry) => if h.2.sector = a then
      (h.1, { h.2 with lines := cacheWrite h.2.lines sub (h.2.region = region && h.2.ki = ki) full new }) else h)
    ra := s.ra.filter (fun x => x.line ≠ dpa / 64) }

/-- The lines of a sector that a fill installs: those that verify under the key index and are not poisoned (R118); `bad` are
lines of the page whose check failed as they arrived. -/
def Dev.sectorLines (d : Dev) (pid first ki : Nat) (bad : List Nat := []) : AMap Line :=
  (List.range 4).foldl (fun (a : AMap Line) i =>
    let sub := first + i
    if bad.contains sub || d.poisoned pid sub || (!d.inTier pid sub && (d.orphanOf pid).isSome) then a
    else match d.cellAt pid sub with
      | none => a.put i 0
      | some c =>
        if d.staleLine pid sub then (if (d.med.leaves.findD pid {}).minors.findD sub 0 = 0 then a.put i 0 else a)
        else if d.verifies c ki then a.put i c.data else a) []

/-- The lowest free key below a bound. -/
def freeKey {α : Type} (m : AMap α) (bound : Nat) : Option Nat :=
  (List.range bound).find? (fun i => !m.has i)

/-- The page of a line for a read, in a region record: the main window's, or the shadow window's view. -/
def Dev.readPid (d : Dev) (g : RegionRec) (off : Nat) : Nat :=
  if g.rtype = .table && g.size ≤ off then d.shadowPid g ((off - g.size) / 4096)
  else if g.rtype = .table then d.mainPid g (off / 4096) else d.pid g false (off / 4096)

/-- A line that only media holds. -/
def Dev.onMedia (d : Dev) (pid sub : Nat) : Bool :=
  isLpn pid && !d.inTier pid sub && !d.poisoned pid sub && (d.cellAt pid sub).isSome

/-- The ways that a fill for a request of a stamp may take: those its region owned then and may use now (R120, R134). -/
def Dev.fillWays (d : Dev) (k stamp n : Nat) : List Nat :=
  match d.regionAt stamp n, d.region n with
  | some r, some g => ({ d with cfg := d.cfgAt stamp }.waysOf k r).filter (fun w => (d.waysOf k g).contains w)
  | _, _ => []

/-- Fill a sector into a slice's line cache (R118, R120, R123) for a read stamped at `stamp`. -/
def Dev.fill (d : Dev) (k stamp : Nat) (r : RegionRec) (dpa ki pid : Nat) (bad : List Nat := []) : Dev :=
  let s := d.slice k
  let a := sectorOf dpa
  let lines := d.sectorLines pid (dpa % 4096 / 256 * 4) ki bad
  let set := setOfSector a
  let cand := d.fillWays k stamp r.number
  if d.flag .SLC_STATUS_BYPASS k || cand.isEmpty || lines.isEmpty || decide (32 ≤ s.hold.length) then d
  else
    match s.ways.find? (fun e => e.2.sector = a && e.2.region = r.number && e.2.ki = ki) with
    | some (i, w) =>
      let ls := lines.foldl (fun (m : AMap Line) x => m.put x.1 x.2) w.lines
      d.setSlice k ({ s with ways := s.ways.put i { w with lines := ls } }.touch set (i % 24))
    | none =>
      let new : LcWay := { sector := a, region := r.number, ki, lines }
      let valid := fun (w : Nat) => match s.ways.find (set * 24 + w) with
        | some x => !x.lines.isEmpty
        | none => false
      match cand.find? (fun w => !valid w) with
      | some w => d.setSlice k ({ s with ways := s.ways.put (set * 24 + w) new }.touch set w)
      | none =>
        let w := plruVictim (s.plru.findD set 0) cand
        match s.ways.find (set * 24 + w), freeKey s.hold 32 with
        | some v, some h =>
          d.setSlice k ({ s with ways := s.ways.put (set * 24 + w) new
                                 hold := s.hold.put h { sector := v.sector, region := v.region, ki := v.ki,
                                                        lines := v.lines } }.touch set w)
        | _, _ => d

/-! ## Responses -/

/-- Send a response on a head's link, with the DevLoad in force (R74, R88). A poisoned DRS carries no data of
consequence. Its MetaField is always No-Op (R75), so the output does not name it. -/
def Dev.sendMem (d : Dev) (h tag : Nat) (data : Option Line) (poison : Bool) : Dev :=
  d.emit (.mem h tag data poison (d.reg .GLB_HEAD_LOAD_DEVLOAD h))

/-- The first cause of R147 in a mask of its codes. -/
def causeCode (m : Nat) : Nat := ((List.range 8).filter (fun c => c ≠ 0 && m.testBit c)).headD 0

/-- A response leaves: latency bins, and the miss of a deadline with its cause (R147, R148, R421). -/
def Dev.account (d : Dev) (k : Nat) (r : Req) (cause : Nat) : Dev :=
  let d := d.perf (0x40 + latencyBin (d.now - r.stamp)) k r.latclass
  if d.now < r.deadline then d
  else
    let c := causeCode cause
    let late := d.now - r.deadline
    let d := d.count .GLB_LAT_MISSc_COUNT c
    let d := if d.reg .GLB_LAT_WORST_LATE_NS < late then
        (d.setReg .GLB_LAT_WORST_LATE_NS 0 (min late (2 ^ 32 - 1))).setReg .GLB_LAT_WORST_CAUSE 0 c
      else d
    let w := windowKey d.itemStamp 0
    if (d.reg .GLB_LAT_CTL_MISS_EVT_EN).testBit c &&
        d.evt.missWin.findD w 0 < ((d.cfgAt r.stamp).map (·.latency.missEvtRate)).getD 16 then
      { d with evt := { d.evt with missWin := d.evt.missWin.countIn d.now w } }.raise 66
        { dpa := r.dpa, a := r.head + r.tag * 65536, b := c, c := late, heads := d.regionHeads r.region }
    else d

/-- The record of a tagged request enters the sample buffer (R425). -/
def Dev.sampleResponse (d : Dev) (r : Req) : Dev :=
  match d.pmc.tagged.find r.rid with
  | none => d
  | some (ctr, skid) =>
    let d := { d with pmc := { d.pmc with tagged := d.pmc.tagged.del r.rid } }
    if 256 ≤ d.pmc.fill then (d.count .PMC_SAMP_STAT_LOST).raise 1010
    else
      let w := d.reg .PMC_SAMP_STAT_WPTR
      let rec' := leNat (leBytes 8 r.stamp ++ leBytes 8 r.dpa ++ leBytes 2 ctr ++ leBytes 1 r.region ++
        leBytes 1 r.head ++ leBytes 2 r.tag ++ leBytes 1 skid ++ leBytes 1 r.latclass ++
        leBytes 4 (d.now - r.stamp) ++ zeros 4)
      let d := { d with pmc := { d.pmc with samples := d.pmc.samples.put w rec', fill := d.pmc.fill + 1 } }
      let d := d.setReg .PMC_SAMP_STAT_WPTR 0 (w + 1)
      if d.pmc.fill = 128 then d.raise 1009 { b := 128 } else d

/-- Hand a request's response to its head, unless the head has answered it already (R95, R149). -/
def Dev.answer (d : Dev) (k : Nat) (r : Req) (cause : Nat) (data : Option Line) (poison : Bool) : Dev :=
  let h := d.head r.head
  match h.live.find r.rid with
  | none => d
  | some _ =>
    let d := d.setHead r.head { h with live := h.live.del r.rid }
    ((d.account k r cause).sampleResponse r).sendMem r.head r.tag data poison

/-- A failed line MAC answered with poison (R52, R285, R287): counted, with its event. -/
def Dev.macFailed (d : Dev) (dpa ki region : Nat) : Dev :=
  let d := d.count .CRY_ERR0_MAC_FAIL
  if d.flag .CRY_CTL_MAC_EVT then d.raise 800 { dpa, a := ki, heads := d.regionHeads region } else d

/-- Enter lockdown (R310): the first cause is kept; source 806. -/
def Dev.lockdown (d : Dev) (cause : Nat) : Dev :=
  if d.flag .CRY_STATUS_LOCKED then d
  else ((d.setFlag .CRY_STATUS_LOCKED 0 true).setReg .CRY_STATUS_LOCK_CAUSE 0 cause).raise 806

/-- An orchard entry is orphaned (R298): both copies of an uncached entry have failed. -/
def Dev.orphan (d : Dev) (level index ki heads : Nat) : Dev :=
  if d.cry.orphans.contains (level, index) then d
  else
    let d := { d with cry := { d.cry with orphans := d.cry.orphans ++ [(level, index)] } }
    let d := (d.count .ORC_COPY_BOTH_LOST).raise 802 { a := ki, b := level, c := index, heads }
    let d := d.each (List.range 64) Dev.regionHealth
    if (d.cfg.map (·.crypto.lockOnOrphan)).getD false then d.lockdown 2 else d

/-! ## The tracking table -/

/-- Change an entry. -/
def Dev.setEntry (d : Dev) (k e : Nat) (t : TtEntry) : Dev :=
  let s := d.slice k
  d.setSlice k { s with tt := s.tt.put e t }

/-- An entry. -/
def Dev.entry (d : Dev) (k e : Nat) : Option TtEntry := (d.slice k).tt.find e

/-- The host entries of a slice in use (R102). -/
def SliceS.hostUse (s : SliceS) : Nat := s.tt.countP (fun e => decide (e.1 < 8192))

/-- A running sweep step occupies an internal entry of each slice: a page has one sector in every slice (R100, R102). -/
def Dev.stepsRunning (d : Dev) : Nat := d.cry.sweeps.countP (fun e => e.2.step.isSome)

/-- The internal entries of a slice in use: prefetches, replays and sweep steps (R102). -/
def Dev.intUse (d : Dev) (k : Nat) : Nat :=
  (d.slice k).int.length + (d.slice k).tt.countP (fun e => decide (8192 ≤ e.1)) + d.stepsRunning

/-- The acceptance record of an entry enters the buddy log, or the journal partition while the slice runs solo (R128,
R132); a record that stands there already takes the entry's present form. -/
def Dev.logRec (d : Dev) (k e : Nat) (t : TtEntry) : Dev :=
  if d.flag .SLC_STATUS_SOLO k then
    let s := d.slice k
    (d.setSlice k { s with solo := s.solo.put e t }).journal 0x09 (k * 16384 + e) t.seq t.req.rid
  else
    let b := d.slice (k ^^^ 1)
    d.setSlice (k ^^^ 1) { b with blog := b.blog.put e t }

/-- What a replay must know of an entry that has changed since its acceptance: the value a read is answered with, and that
an engine has applied it (R130). -/
def Dev.logged (d : Dev) (k e : Nat) (t : TtEntry) : Dev :=
  let s := d.slice k
  let d := if s.solo.has e then d.setSlice k { s with solo := s.solo.put e t } else d
  let b := d.slice (k ^^^ 1)
  if b.blog.has e then d.setSlice (k ^^^ 1) { b with blog := b.blog.put e t } else d

/-- The done notice: the record of an entry goes (R104, R129, R132). -/
def Dev.unlog (d : Dev) (k e : Nat) : Dev :=
  let s := d.slice k
  let d := if s.solo.has e then d.setSlice k { s with solo := s.solo.del e } else d
  let b := d.slice (k ^^^ 1)
  if b.blog.has e then d.setSlice (k ^^^ 1) { b with blog := b.blog.del e } else d

/-- The causes of R147 that hold now for a request of a slice: FAULT for a recovery of the slice, or of the engine
pipeline, since its stamp; QUENCH; THERMAL. -/
def Dev.pathCause (d : Dev) (k : Nat) (r : Req) : Nat :=
  let u := d.unit (sliceIx k)
  (if u.recovery || (u.cause = 3 && decide (r.stamp < u.since)) || (r.kind.isEngine && d.qen.recovering.isSome) then 2
    else 0) |||
  (if d.reg .JRN_STATUS_QSTATE = 0 then 0 else 4) ||| (if r.stamp < (d.slice k).planned then 8 else 0) |||
  (if d.thm.sliceF.findD k 0 = 0 then 0 else 16)

/-- The causes of R147 for a request that its head answers itself: those of its entry, or of its wait at the slice; FAULT
where every record of it is lost. -/
def Dev.limitCause (d : Dev) (k : Nat) (r : Req) : Nat :=
  match [k, k ^^^ 1].findSome? (fun j => ((d.slice j).tt.find? (fun e => e.2.req.rid = r.rid)).map (fun e => (j, e.2.cause))) with
  | some (j, c) => c ||| d.pathCause j r
  | none =>
    if (d.slice k).ingress.any (fun x => x.rid = r.rid) then (if r.full then 32 else 0) ||| d.pathCause k r else 2

/-- Note that an entry's completion waits for the through sheets that hold its lines; a sheet that is full is issued (R256).
-/
def Dev.waitSheets (d : Dev) (k e : Nat) (ns : List Nat) : Dev :=
  let d := { d with per := { d.per with sheets := ns.foldl (fun (m : AMap ThruSheet) n =>
      m.alter n (fun s => { s with waiters := s.waiters ++ [(k, e)] })) d.per.sheets } }
  d.each ns Dev.issueSheet

/-- A copy of a sheet fails to program (R256): the sheet is written again to another pair, and its writes may miss their
deadlines with cause FAULT. -/
def Dev.rewriteSheet (d : Dev) (n die : Nat) : Dev :=
  match d.per.sheets.find n with
  | none => d
  | some x =>
    if x.programmed || !x.dies.contains die then d else
    let d := d.count .JRN_THRU_SHEET_FAIL
    let d := { d with per := { d.per with sheets := d.per.sheets.put n { x with dies := [] } }
                      med := { d.med with progs := d.med.progs.filter (fun p => p.use ≠ CmdUse.thru n) } }
    let d := d.each x.waiters (fun d w => match d.entry w.1 w.2 with
      | some t => d.setEntry w.1 w.2 { t with cause := t.cause ||| 2 }
      | none => d)
    d.issueSheet n

/-- Free a DONE entry once nothing of it is owed. -/
def Dev.settle (d : Dev) (k e : Nat) : Dev :=
  match d.entry k e with
  | none => d
  | some t =>
    -- the completion: acknowledged, and no through sheet is awaited (R105)
    let (d, t) := if t.acked && !t.through && !t.sent && !t.req.kind.isRead then
        let d := d.answer k t.req (t.cause ||| d.pathCause k t.req) none false
        let t := { t with sent := true }
        (d.setEntry k e t, t)
      else (d, t)
    if t.state = .done && (t.sent || t.req.kind.isRead) then
      let s := d.slice k
      let d := (d.setSlice k { s with tt := s.tt.del e }).unlog k e
      if t.req.kind = .commitDoorbell then d.releaseDropped t.req.region else d
    else d

/-- Answer a read whose value is known: the response leaves, the fill is made, the entry is DONE. `fill` names the lines of
the sector whose check failed; none: the read brought no sector. -/
def Dev.respond (d : Dev) (k e : Nat) (fill : Option (List Nat)) : Dev :=
  match d.entry k e with
  | none => d
  | some t =>
    let r := t.req
    let cause := t.cause ||| d.pathCause k t.req
    let d := d.causedBy (some r.stamp) fun d => match t.val with
      | some (.data l) => d.answer k r cause (some l) false
      | some .macFail => (d.macFailed r.dpa r.ki r.region).answer k r cause none true
      | _ => d.answer k r cause none true
    let d := match fill, (if r.kind = .read then d.regionAt r.stamp r.region else none : Option RegionRec) with
      | some bad, some g =>
        d.fill k r.stamp g r.dpa r.ki (d.readPid g r.off) bad
      | _, _ => d
    (d.setEntry k e { t with state := .done }).settle k e

/-- An entry's write has reached the DRAM tier's queue: WRITE. -/
def Dev.toWrite (d : Dev) (k e : Nat) : Dev :=
  match d.entry k e with
  | none => d
  | some t => (d.setEntry k e { t with state := .write }).settle k e

/-- The DRAM-tier read and the map lookup that are still out for an entry are cancelled (R112): they are counted, and a
map lookup may still fill the map-entry cache. -/
def Dev.cancelLookups (d : Dev) (k cls lpn : Nat) (dram map_ : Bool) : Dev :=
  let d := if dram then d.perf 0x36 k cls else d
  if map_ then
    let (f, d) := (d.perf 0x37 k cls).drawFree 112
    if f % 2 = 1 then d.mecFill k lpn else d
  else d

/-- A run-ahead slot is emptied before its line was used (R114): abandoned run-ahead. -/
def Dev.dropAhead (d : Dev) (k : Nat) (p : RaEntry → Bool) : Dev :=
  let s := d.slice k
  let n := s.ra.countP p
  if n = 0 then d else (d.setSlice k { s with ra := s.ra.filter (fun x => !p x) }).perf 0x35 k 3 n

/-- A speculative media read (R106): the map-entry cache hits, a DRAM-tier miss is expected, MEDIA_SPEC_EN is 1 and the
region is a persistent TABLE region that is not pinned in DRAM. -/
def Dev.mediaSpec (d : Dev) (k : Nat) (g : RegionRec) (dpa pid : Nat) : Bool :=
  g.rtype = .table && g.persist && g.placement ≠ 3 && d.inForce .SLC_CTL_MEDIA_SPEC_EN k && (d.slice k).mec.contains pid &&
  decide (2 ≤ (d.slice k).predOf dpa) && decide (d.mapEntry pid < mapPoisoned)

/-- Launch the lookups of an entry (R106): the tag lookup, with a DRAM-tier read unless DRAM_SPEC_EN is 0 and a map lookup.
The line cache, the hold or the run-ahead buffer resolves it where one of them holds the line (R107) and what was launched
beside is cancelled (R112); a miss issues the next-line prefetch of R121, the DRAM-tier read where it was not launched, and
the speculative media read. -/
def Dev.launch (d : Dev) (k e : Nat) : Dev :=
  match d.entry k e with
  | none => d
  | some t =>
    let r := t.req
    match d.regionAt r.stamp r.region with
    | none => d.setEntry k e { t with state := .lookup, lookupAt := d.now, dramOut := true }
    | some g => d.causedBy (some r.stamp) fun d =>
      let bypass := d.flag .SLC_STATUS_BYPASS k
      let use := !bypass && !(d.fillWays k r.stamp r.region).isEmpty
      let s := d.slice k
      let pid := d.readPid g r.off
      let hit := use && (s.lookup r.region r.dpa r.ki).isSome
      let held := !bypass && (s.held r.region r.dpa r.ki).isSome
      let d := if use then d.perf (if hit then 0x30 else 0x31) k r.latclass else d
      -- a request under another key index invalidates the buffered line (R114)
      let d := d.dropAhead k (fun x => x.line = r.dpa / 64 && (x.ki ≠ r.ki || x.region ≠ r.region))
      let ahead := (d.slice k).ahead r.region r.dpa r.ki
      let d := if hit then d.setSlice k ((d.slice k).used r.region r.dpa r.ki) else d
      let d := if ahead && !hit && !held then
          let d := d.perf 0x34 k r.latclass
          let s := d.slice k
          d.setSlice k { s with ra := s.ra.filter (fun x => x.line ≠ r.dpa / 64) }
        else d
      let d := if use && !hit && r.kind = .read && d.inForce .RGN_CTL_PREFETCH_EN r.region && d.inForce .SLC_CTL_PF_EN k &&
            sectorOf r.dpa % 16 ≠ 15 then
          let share := sliceOfSector (sectorOf r.dpa + 1)
          let dest := (d.carrier share).getD share
          let x := d.slice dest
          (d.perf 0x32 k r.latclass).setSlice dest
            { x with pf := x.pf ++ [{ sector := sectorOf r.dpa + 1, region := r.region, ki := r.ki, slice := k, entry := e,
                                      epoch := t.epoch }] }
        else d
      let mapLook := g.persist && isLpn pid && !(d.slice k).mec.contains pid
      if hit || held || ahead then
        let d := d.cancelLookups k r.latclass pid (d.inForce .SLC_CTL_DRAM_SPEC_EN k) mapLook
        if r.kind.isRead then d.respond k e none else d.toWrite k e
      else
        let d := d.setEntry k e { t with state := .lookup, lookupAt := d.now, dramOut := true, mapOut := mapLook }
        if d.mediaSpec k g r.dpa pid then
          d.asOf r.stamp (fun d => d.issueRead k e (d.mapEntry pid) pid (r.off % 4096 / 256) r.deadline t.epoch true)
        else d

/-- Insert by acceptance number. -/
def insertBySeq (x : Nat × TtEntry) (l : List (Nat × TtEntry)) : List (Nat × TtEntry) :=
  match l with
  | [] => [x]
  | y :: r => if x.2.seq ≤ y.2.seq then x :: y :: r else y :: insertBySeq x r

/-- The entries of a slice in acceptance order. -/
def SliceS.inOrder (s : SliceS) : List (Nat × TtEntry) := s.tt.foldr insertBySeq []

/-- Whether an older entry no longer holds a younger same-line entry back (R104): it has reached WRITE or DONE. -/
def SliceS.released (s : SliceS) (older : Nat) (rid : Nat) : Bool :=
  match s.tt.find older with
  | none => true
  | some t => t.req.rid ≠ rid || t.state = .write || t.state = .done

/-- Let go the ORDERED entries whose older entry has reached WRITE or DONE (R104): a forwarded write's data resolves
them, after a read their lookups are launched. -/
def Dev.releaseOrdered (d : Dev) (k : Nat) : Dev :=
  d.each ((d.slice k).inOrder) (fun d x =>
    match d.entry k x.1 with
    | none => d
    | some t =>
      match t.state, t.behind with
      | .ordered, some (older, rid, write) =>
        if (d.slice k).released older rid then
          let d := d.setEntry k x.1 { t with behind := none }
          if t.req.kind = .write || t.req.kind = .commitDoorbell then d.toWrite k x.1
          else if write then (if t.req.kind.isRead then d.respond k x.1 none else d.toWrite k x.1)
          else d.launch k x.1
        else d
      | _, _ => d)

/-! ## Effects at acceptance (R15) -/

/-- The region offset of a line as the reheat sweep counts it: a shadow line at its page's main-window offset (R304). -/
def sweepOff (g : RegionRec) (off : Nat) : Nat := if g.rtype = .table && g.size ≤ off then off - g.size else off

/-- The page of a shadow-window line is in the delta. -/
def Dev.inDelta (d : Dev) (g : RegionRec) (off : Nat) : Bool :=
  (d.shadowOf g.number).delta.has ((off - g.size) / 4096)

/-- A read's value (R57, R61, R47). -/
def Dev.readLine (d : Dev) (g : RegionRec) (off ki : Nat) : RdVal × Dev :=
  if g.rtype = .table && g.size ≤ off && !d.inDelta g off && (d.shadowOf g.number).spill.contains ((off - g.size) / 64)
  then (.offline, d)
  else d.lineVal (d.readPid g off) (off % 4096 / 64) ki

/-- The page that a write goes to: none when a full delta discards it (R58, R61). -/
def Dev.writePid (d : Dev) (g : RegionRec) (off : Nat) : Option Nat × Stored × Dev :=
  if g.rtype = .table && g.size ≤ off then d.shadowPrepare g ((off - g.size) / 4096) ((off - g.size) / 64)
  else (some (d.readPid g off), .done, d)

/-- A write of a line, in full or in part (R82, R109, R110, R296): what became of it, and the line it leaves. -/
def Dev.writeLine (d : Dev) (g : RegionRec) (off ki : Nat) (data : Line) (be : BitVec 64) (full poison : Bool) :
    Stored × Option Line × Dev :=
  let sub := off % 4096 / 64
  match d.writePid g off with
  | (none, _, d) => (.done, none, d)
  | (some pid, copied, d) =>
    let put := fun (d : Dev) (l : Line) =>
      let (c, d) := d.seal l ki g.number (sweepOff g off)
      let (st, d) := d.storeCell pid sub c
      (st.after copied, if st = .lost then none else some l, d)
    if poison then (let (st, d) := d.storePoison pid sub poisonExternal; (st.after copied, none, d))
    else if full then put d data
    else
      match d.lineVal pid sub ki with
      | (.stored, d) => (copied, none, d)
      | (.data old, d) => put d (mergeBytes old data be)
      | (_, d) =>
        let d := (d.poisonLine pid sub poisonInternal).count .CRY_ERR1_PTL_POISON
        (copied, none, d.raise 801 { dpa := (d.dpaOf pid sub).getD 0, a := ki, heads := d.regionHeads g.number })

/-- The effect of a request as its slice accepts it: the value read, and what became of a store. -/
def Dev.effect (d : Dev) (k e : Nat) (r : Req) : Option RdVal × Stored × Dev :=
  match d.region r.region with
  | none => (some .offline, .done, d)
  | some g =>
    let full := r.be = BitVec.allOnes 64
    let w := d.window g r.off
    match r.kind with
    | .read => let (v, d) := d.readLine g r.off r.ki; (some v, .done, d)
    | .write =>
      let (st, l, d) := d.writeLine g r.off r.ki r.data r.be true r.poison
      (none, st, d.writeCached k r.region r.dpa r.ki true l)
    | .partialWrite =>
      let (st, l, d) := d.writeLine g r.off r.ki r.data r.be false r.poison
      (none, st, d.writeCached k r.region r.dpa r.ki false l)
    | .commitDoorbell => (none, .done, d.commitDoorbell g r.data full r.poison r.stamp)
    | .statusRead => (some (.data (d.shadowStatus g)), .done, d)
    | .enqueue =>
      (match w with
       | .enqueue q o =>
         let d := d.checkPtr q r.region
         -- a partial enqueue line is a full line with zero bytes (R207)
         let (st, d) := d.enqueueLine q o (mergeBytes 0 r.data r.be) r.poison r
         (none, st, d)
       | _ => (none, .done, d))
    | .dequeue =>
      (match w with
       | .dequeue q o => let (v, d) := (d.checkPtr q r.region).dequeueLine q o; (some v, .done, d)
       | _ => (some .offline, .done, d))
    | .doorbell =>
      (match w with
       | .doorbell q => (none, .done, (d.checkPtr q r.region).queueDoorbell q r.data full r.poison r)
       | _ => (none, .done, d))
    | .qstatus =>
      (match w with
       | .doorbell q => let d := d.checkPtr q r.region; (some (.data (d.queueStatus q)), .done, d)
       | _ => (some .offline, .done, d))
    | .tally | .counterRead | .counterWrite =>
      (none, .done, { d with tal := { d.tal with
        items := d.tal.items ++ [{ stamp := r.stamp, head := r.head, order := d.tal.nextOrder, slice := k, entry := e,
                                   req := r }]
        nextOrder := d.tal.nextOrder + 1 } })


/-- Arm a waiting sampling tag on the next acceptance of the slice (R425). -/
def Dev.passTag (d : Dev) (k rid : Nat) : Dev :=
  let mine := d.pmc.tags.filter (fun t => t.slice = k)
  let due := mine.filter (fun t => t.left = 0)
  let d := { d with pmc := { d.pmc with
    tags := (d.pmc.tags.filter (fun t => !(t.slice = k && t.left = 0))).map (fun (t : PmcTag) =>
      if t.slice = k then { t with left := t.left - 1 } else t) } }
  match due with
  | [] => d
  | t :: _ => { d with pmc := { d.pmc with tagged := d.pmc.tagged.put rid (t.counter, t.skid) } }

/-- The newest older entry on the same line that has not reached WRITE or DONE (R104). -/
def SliceS.older (s : SliceS) (r : Req) : Option (Nat × TtEntry) :=
  (s.inOrder.filter (fun x => x.2.req.dpa = r.dpa && x.2.req.region = r.region && !x.2.req.kind.isEngine &&
    x.2.state ≠ .write && x.2.state ≠ .done)).getLast?

/-- A key index that selects an EMPTY slot is a noticed host error (R66, R67). -/
def Dev.keyError (d : Dev) (r : Req) : Dev :=
  let ki := match (d.region r.region).map (fun g => d.window g r.off) with
    | some w => (match w.queue? with | some q => d.queueKey q | none => r.ki)
    | none => r.ki
  if (d.slot ki).st = .empty then d.hostError r else d

/-- What taking back a doorbell would restore: `d` is the device before its effect, `e` after. -/
def Dev.undoOf (d e : Dev) (r : Req) : Undo :=
  match d.region r.region with
  | none => .none
  | some g =>
    match r.kind, d.window g r.off with
    | .doorbell, .doorbell q =>
      let x := (d.checkPtr q r.region).queue q
      let y := e.queue q
      .queue q (x.frames.take ((y.headSeq + 2 ^ 32 - x.headSeq) % 2 ^ 32))
        (if x.asm = y.asm then none else some (x.asm, x.ringTail))
    | .commitDoorbell, _ =>
      let s := d.shadowOf g.number
      if s.state ≠ 0 && (e.shadowOf g.number).state = 0 && s.epoch = (e.shadowOf g.number).epoch then
        .discard g.number s.state s.spill (d.reg .RGN_SHADOW_LAST_RESULT g.number)
      else .commit g.number (if s.epoch = (e.shadowOf g.number).epoch then none else some s.delta.length) s.committedAt
        (d.reg .RGN_SHADOW_LAST_RESULT g.number)
    | _, _ => .none

/-- Insert a request into an ingress queue: lowest stamp first, H0 before H1 at equal stamps (R103). -/
def insertIngress (r : Req) (l : List Req) : List Req :=
  match l with
  | [] => [r]
  | x :: t => if r.stamp < x.stamp || (r.stamp = x.stamp && r.head < x.head) then r :: x :: t
              else x :: insertIngress r t

/-- A dequeue read of a line that only media hold issues its media read: of the ring's page (R227), or of the spill page in
the gather zone, whose place is the device's own allocation, a free value (R215, R218). -/
def Dev.engineRead (d : Dev) (k e : Nat) (t : TtEntry) : Dev :=
  match d.region t.req.region with
  | none => d
  | some g =>
    match t.req.kind, d.window g t.req.off with
    | .dequeue, .dequeue q o =>
      (match (d.queue q).frames with
       | [] => d
       | f :: _ =>
         let l := o / 64
         if frameLines f.len ≤ l || f.bad.contains l then d
         else if d.queuePersist q then
           match d.ringPlace q f.cell l with
           | some (pid, sub) =>
             if d.onMedia pid sub then d.issueRead k e (d.mapEntry pid) pid (sub / 4) t.req.deadline t.epoch false else d
           | none => d
         else if f.spilled.contains (l / 4) then
           let (n, d) := d.drawFree 218
           match d.med.gather[n % max 1 d.med.gather.length]? with
           | some b => d.issueRead k e (entryOf b (n / 8 % 1024) (n % 8)) spillKey (l / 4 % 16) t.req.deadline t.epoch false
           | none => d
         else d)
    | _, _ => d

/-- The first step of an entry that is ACCEPTED (R104): behind an older same-line entry it is ORDERED; else a read or a
partial write launches its lookups, a full write goes on to the DRAM tier. A request of an engine stays until its record is
acknowledged; a dequeue read may need media. -/
def Dev.start (d : Dev) (k e : Nat) (t : TtEntry) (older : Option (Nat × TtEntry)) : Dev :=
  if t.req.kind.isEngine then d.asOf t.req.stamp (fun d => d.engineRead k e t)
  else match older with
    | some (o, x) => d.setEntry k e { t with state := .ordered, behind := some (o, x.req.rid, !x.req.kind.isRead) }
    | none =>
      match t.req.kind with
      | .write | .commitDoorbell => d.toWrite k e
      | .statusRead => d.respond k e none
      | _ => d.launch k e

/-- Whether the completion of a counter request waits for its merge, because its write goes through to the gather zone (R19,
R105): a counter write whose home page would, and every update under THROUGH_ALL. -/
def Dev.mergeThru (d : Dev) (g : RegionRec) (r : Req) : Bool :=
  g.persist && (match r.kind with
    | .counterWrite => d.wantThru (d.page (d.homePlace g (r.off / 64)).1)
    | .tally => d.flag .JRN_STATUS_THROUGH_ALL
    | _ => false)

/-- The pages that a store has brought into a region's delta are read where their newest copy is on media (R16, R58). -/
def Dev.copyReads (d : Dev) (before : AMap Nat) (n : Nat) : Dev :=
  match d.region n with
  | some r =>
    let new := (d.shadowOf n).delta.keys.filter (fun p => !before.has p)
    d.each new (fun d p => d.internalReads (d.mainPid r p) (List.range 64))
  | none => d

/-- A slice takes a request into its tracking table (R103, R104). -/
def Dev.accept (d : Dev) (k : Nat) (r : Req) : Dev :=
  match freeKey (d.slice k).tt 8192 with
  | none => d
  | some e => d.causedBy (some r.stamp) fun d =>
    let s := d.slice k
    let older := if r.kind.isEngine then none else s.older r
    let (_, d) := d.underKeysAt r.stamp (fun d => ((), d.keyError r))
    let g? := d.regionAt r.stamp r.region
    let media := match g? with
      | some g => !r.kind.isEngine && d.onMedia (d.readPid g r.off) (r.off % 4096 / 64)
      | none => false
    -- a running step of a sweep gives way to any request to its page (R306)
    let d := match g? with
      | some g => d.abandonSteps (fun w => w.region = r.region && w.d / 4096 = sweepOff g r.off / 4096)
      | none => d
    let undo := if r.kind = .doorbell || r.kind = .commitDoorbell then
        d.undoOf (d.underKeysAt r.stamp (fun d => ((), (d.effect k e r).2.2))).2 r else .none
    let merge := match g? with | some g => d.mergeThru g r | none => false
    let delta := (d.shadowOf r.region).delta
    let ((v, st), d) := d.underKeysAt r.stamp (fun d => let (v, st, d) := d.effect k e r; ((v, st), d))
    let d := d.copyReads delta r.region
    let s := (d.slice k).bump e
    let t : TtEntry :=
      { req := r, state := .accepted, seq := s.seq, val := v, through := merge || !st.waits.isEmpty,
        media, undo, cause := (if r.full then 32 else 0) ||| d.pathCause k r, epoch := s.epoch e }
    let d := (d.setSlice k { s with seq := (s.seq + 1) % 2 ^ 48, tt := s.tt.put e t }).logRec k e t
    let d := d.setReg .SLC_TT_OCC_HOST_HIGH k (max (d.reg .SLC_TT_OCC_HOST_HIGH k) (d.slice k).hostUse)
    let d := (d.perf 0x20 k r.latclass).perf (if r.kind.isRead then 0x21 else 0x22) k r.latclass
    let d := d.passTag k r.rid
    (d.waitSheets k e st.waits).start k e t older

/-- A request that waits for a share gives way to a COMMIT or DISCARD (R60): requests stamped at or after a waiting one of
their region follow it, and one waits until every slice has accepted the requests of its region stamped before it. -/
def Dev.yields (d : Dev) (share : Nat) (r : Req) : Bool :=
  d.slices.any (fun e => e.1 ≠ share && e.2.ingress.any (fun c => c.region = r.region &&
    (if r.kind = .commitDoorbell then decide (c.stamp < r.stamp)
     else c.kind = .commitDoorbell && decide (c.stamp ≤ r.stamp))))

/-- The request that a slice would take next (R103): the lowest stamp at the fronts of the shares it carries, H0 first. -/
def Dev.nextIn (d : Dev) (k : Nat) : Option (Nat × Req) :=
  let front := fun (j : Nat) => if d.carrier j = some k then (d.slice j).ingress.head?.map (fun r => (j, r)) else none
  match front k, front (k ^^^ 1) with
  | some x, some y => some (if y.2.stamp < x.2.stamp || (y.2.stamp = x.2.stamp && y.2.head < x.2.head) then y else x)
  | some x, none => some x
  | none, y => y

/-- A slice that serves and has replayed its records takes one waiting request (R103, R131). An H1 request waits until its
stamp has passed: an H0 request of the same stamp goes first. -/
def Dev.takeOne (d : Dev) (k : Nat) : Dev :=
  match d.nextIn k with
  | none => d
  | some (share, r) =>
    if d.serves (sliceIx k) && (d.slice k).replayQ.isEmpty && (freeKey (d.slice k).tt 8192).isSome &&
        (r.head = 0 || decide (r.stamp < d.now)) && !d.yields share r then
      let s := d.slice share
      (d.setSlice share { s with ingress := s.ingress.drop 1 }).accept k r
    else d

/-- A slice takes the requests that wait for the shares it carries, while it can. -/
def Dev.pumpSlice (d : Dev) (k : Nat) : Dev :=
  d.each (List.range ((d.slice k).ingress.length + (d.slice (k ^^^ 1)).ingress.length)) (fun d _ => d.takeOne k)

/-- What waits for a share is taken by the slice that carries it. -/
def Dev.pumpShare (d : Dev) (share : Nat) : Dev :=
  match d.carrier share with
  | none => d
  | some k => d.pumpSlice k

/-- The engine's work and the through sheets of one entry become another's. -/
def Dev.moveWaits (d : Dev) (k x b e : Nat) : Dev :=
  { d with
    tal := { d.tal with items := d.tal.items.map (fun (i : TalItem) =>
      if i.slice = k && i.entry = x then { i with slice := b, entry := e } else i) }
    per := { d.per with sheets := d.per.sheets.map (fun (q : Nat × ThruSheet) =>
      (q.1, { q.2 with waiters := q.2.waiters.map (fun w => if w = (k, x) then (b, e) else w) })) } }

/-- The entry that a replayed record takes (R102, R131): its own where that is free, else a host entry, else an internal
one. -/
def SliceS.replayKey (s : SliceS) (own : Option Nat) : Option Nat :=
  match own.filter (fun x => !s.tt.has x) with
  | some x => some x
  | none => (List.range 12288).find? (fun i => !s.tt.has i && !s.int.has i)

/-- A record of a slice is entered into a tracking table as an accepted request with its original stamp and deadline, and
continued (R131): its record stands, so it is acknowledged; same-line entries are ORDERED again. -/
def Dev.enterRec (d : Dev) (k e j x : Nat) (t : TtEntry) : Dev :=
  let d := if j = k && e = x then d else d.moveWaits j x k e
  let s := (d.slice k).bump e
  let older := if t.req.kind.isEngine then none else s.older t.req
  let waits := d.per.sheets.any (fun q => q.2.waiters.contains (k, e))
  let t : TtEntry :=
    { t with state := if t.req.kind.isEngine then .engine else .accepted, seq := if j = k then t.seq else s.seq,
             acked := true, behind := none, epoch := s.epoch e, dramOut := false, mapOut := false,
             through := waits || (t.through && t.req.kind.isEngine && !t.applied) }
  let s := { s with seq := if j = k then s.seq else (s.seq + 1) % 2 ^ 48, tt := s.tt.put e t }
  (((d.setSlice k s).logRec k e t).settle k e).start k e t older

/-- The records that wait to be replayed are entered, in acceptance order, while entries are free. -/
def Dev.drainReplay (d : Dev) (k : Nat) : Dev :=
  d.each (d.slice k).replayQ (fun d x =>
    if (d.slice k).replayQ.head? ≠ some x then d else
    match (d.slice k).replayKey (if x.1 = k then some x.2.1 else none) with
    | none => d
    | some e => (d.setSlice k { d.slice k with replayQ := (d.slice k).replayQ.drop 1 }).enterRec k e x.1 x.2.1 x.2.2)

/-- Let go what waits at a slice: ORDERED entries, records to replay, and the ingress of the shares it carries. -/
def Dev.pump (d : Dev) (k : Nat) : Dev := ((d.releaseOrdered k).drainReplay k).pumpSlice k

/-- The records of a slice's accepted requests (R128, R132): its buddy's log and its SOLO records, in acceptance order. -/
def Dev.logOf (d : Dev) (k : Nat) : List (Nat × TtEntry) :=
  (((d.slice k).solo ++ (d.slice (k ^^^ 1)).blog.filter (fun e => !(d.slice k).solo.has e.1))).foldr insertBySeq []

/-- What is known of a slice's accepted requests: its tracking table, and the records of those it has lost. -/
def Dev.records (d : Dev) (k : Nat) : List (Nat × TtEntry) :=
  ((d.slice k).tt ++ (d.logOf k).filter (fun e => !(d.slice k).tt.has e.1)).foldr insertBySeq []

/-- The records of a slice go: its table, its buddy's log of it and its SOLO records. -/
def Dev.clearRecords (d : Dev) (k : Nat) : Dev :=
  let d := d.setSlice k { d.slice k with tt := [], solo := [], replayQ := [] }
  d.setSlice (k ^^^ 1) { d.slice (k ^^^ 1) with blog := [] }

/-! ## Heads: acceptance (R13, R74, R135, R323) -/

/-- A head accepts requests: Memory Active, no quench, no core reset, its link up with CXL, fewer than 65,536 accepted
(R76, R95, R265, R384). -/
def Dev.canAccept (d : Dev) (h : Nat) : Bool :=
  d.memActive && decide (d.reg .JRN_STATUS_QSTATE = 0) && d.rst.core = .none && d.serves (headIx h) &&
  d.flag .GLB_HEAD_LINK_CXL h && decide ((d.head h).live.length < 65536)

/-- The deadline time of a request (R135), fixed at its stamp (R137). -/
def Dev.deadlineTime (d : Dev) (k : ReqKind) (latclass : Nat) : Nat :=
  match d.cfg with
  | none => 4000
  | some c =>
    let cls := if latclass = 0 then c.latency.dlA else if latclass = 1 then c.latency.dlB else c.latency.dlC
    match k with
    | .read | .counterRead | .dequeue => cls
    | _ => max cls c.latency.dlB

/-- Raise an occurrence of a host-interface source for a request that the head answers itself: `b` is the region, where the
request reaches one. -/
def Dev.hostEvent (d : Dev) (src h tag dpa b heads : Nat) : Dev :=
  d.raise src { dpa := dpa / 64 * 64, a := h + tag * 65536, b, heads }

/-- Answer a request at the head: poison for a read, a completion for a discarded write (R13, R56, R323). -/
def Dev.headAnswer (d : Dev) (h tag : Nat) (rd : Bool) : Dev := d.sendMem h tag none rd

/-- The state under which a request's region or queue group refuses it (R323, R223). -/
def Dev.offline (d : Dev) (g : RegionRec) (w : Win) (rd : Bool) : Bool :=
  let bad := fun (s : UState) => s ∈ [.off, .failed, .retired, .absent]
  let st := d.ustate (regionIx g.number)
  bad st || (st = .draining && !rd) ||
  (match w.queue? with | some q => bad (d.ustate (groupIx (groupOf q))) | none => false)

/-- A host request is accepted at a head (R13). -/
def Dev.hostRequest (d : Dev) (h tag hpa : Nat) (rd : Bool) (data : Line) (be : BitVec 64) (poison : Bool) : Dev :=
  if !d.canAccept h then d
  else if !rd && be = 0 then d.headAnswer h tag false
  else
    let (dpa?, d) := d.decodeHpa h hpa
    match dpa? with
    | none => (d.hostEvent 64 h tag 0 0 3).headAnswer h tag rd
    | some dpa0 =>
      let dpa := dpa0 / 64 * 64
      match d.locate dpa (2 ^ h) with
      | none => (d.hostEvent 64 h tag dpa 0 3).headAnswer h tag rd
      | some (g, off, ki) =>
        let heads := d.regionHeads g.number
        let w := d.window g off
        let line := g.base + off
        match d.classify g w rd (be = BitVec.allOnes 64) with
        | .error src =>
          let d := if rd && src = 70 then d else d.hostEvent src h tag line g.number heads
          d.headAnswer h tag rd
        | .ok kind =>
          if d.offline g w rd then
            let d := if rd then d else d.hostEvent 73 h tag line g.number heads
            d.headAnswer h tag rd
          else if (kind = .tally || kind = .counterRead || kind = .counterWrite) && ki ≠ g.keyBase then
            -- only alias 0 reaches a counter (R236); an EMPTY slot is a host error all the same (R67)
            let d := d.keyError { rid := d.rid, head := h, tag, kind, dpa := line, region := g.number, off, ki, stamp := d.now,
                                  deadline := 0, answerAt := 0, latclass := g.latclass, data, be, poison }
            let d := if rd then d.macFailed line ki g.number else d.talDiscard .TAL_BAD_KEY g.setId 0 2
            d.headAnswer h tag rd
          else
            let share := d.ownerOf g w off
            match d.carrier share with
            | none => (d.hostEvent 74 h tag line g.number heads).headAnswer h tag rd
            | some k =>
              let limit := ((d.cfg.map (·.latency.limit)).getD 1000) * 1000
              let (f, d) := d.drawFree 149
              let r : Req :=
                { rid := d.rid, head := h, tag, kind, dpa := line, region := g.number, off, ki, stamp := d.now,
                  deadline := d.now + d.deadlineTime kind g.latclass, answerAt := d.now + limit - 1000 + f % 1000,
                  latclass := g.latclass, data, be, poison, full := decide (8192 ≤ (d.slice k).hostUse) }
              let x := d.head h
              let live := x.live.put d.rid r
              let d := { d with rid := d.rid + 1 }.setHead h { x with live, occPeak := max x.occPeak live.length }
              let d := d.setReg .GLB_HEAD_OCC_HIGH_WATER h (max (d.reg .GLB_HEAD_OCC_HIGH_WATER h) live.length)
              let s := d.slice share
              (d.setSlice share { s with ingress := insertIngress r s.ingress }).pumpShare share

/-- The request kind that a head's request would have, when it reaches a slice. -/
def Dev.kindOf (d : Dev) (h hpa : Nat) (rd full : Bool) : Option (ReqKind × Win) :=
  match (d.decodeHpa h hpa).1 with
  | none => none
  | some dpa =>
    match d.locate (dpa / 64 * 64) (2 ^ h) with
    | none => none
    | some (g, off, _) =>
      match d.classify g (d.window g off) rd full with
      | .ok k => some (k, d.window g off)
      | .error _ => none

/-- The window that a head's request reaches. -/
def Dev.winOf (d : Dev) (h hpa : Nat) : Option Win :=
  match (d.decodeHpa h hpa).1 with
  | none => none
  | some dpa => (d.locate (dpa / 64 * 64) (2 ^ h)).map (fun x => d.window x.1 x.2.1)

end Sys2Proof.Machine
end

