-- ==== Sys2Proof/Machine/Faults.lean ====
section
/-!
DEFINITION. What the loss, the reset and the return of a unit do to the rest of the device: the redundancy of each class
(R131 to R133, R174, R175, R224, R248, R327 to R336), and the conditions of Persistence Degraded (R254, R273).
-/
namespace Sys2Proof.Machine

/-! ## Conditions of DEGRADED that other units set (R318) -/

/-- A package is DEGRADED while a port is not ONLINE or its dense window is closed. -/
def Dev.packageHealth (d : Dev) (p : Nat) : Dev :=
  if !d.serves (packageIx p) then d
  else if (d.pkgLinks p).any (fun x => d.ustate (linkIx x.2) ≠ .online) || (d.pkg p).denseClosed then
    d.moveUnit (packageIx p) .degraded 7
  else d.moveUnit (packageIx p) .online 7

/-- A complex is DEGRADED while one of its wired M-links is not ONLINE. -/
def Dev.complexHealth (d : Dev) (n : Nat) : Dev :=
  if !d.serves (complexIx n) then d
  else if (List.range 16).any (fun i => (d.linkPkg (16 * n + i)).isSome && d.ustate (linkIx (16 * n + i)) ≠ .online) then
    d.moveUnit (complexIx n) .degraded 7
  else d.moveUnit (complexIx n) .online 7

/-- Persistence Degraded by its causes HOLDUP and GATHER (R254, R273). -/
def Dev.judgePdeg (d : Dev) : Dev :=
  let u := d.uncovered * 4096
  let mirror := decide (2 ≤ d.onlineStacks.length)
  let hold := decide (d.reg .JRN_BUDGET_ENERGY * 2 ^ 20 < u) || (decide (0 < u) && !mirror) ||
    (!d.throughPair && !d.flag .JRN_STATUS_HOLDUP_OK && decide (0 < u))
  let gather := decide (d.reg .JRN_BUDGET_GATHER * 2 ^ 20 < u) ||
    ((d.reg .DRT_PDEG_CAUSE).testBit 2 && !d.gatherSpace)
  if !d.memActive then d else (d.setPdeg 3 hold).setPdeg 2 gather

/-! ## Fault events (R325) -/

/-- A fault of a unit is detected that takes it to `st`: source 930 + 4c, with the state, generation and UST_SEQ of that
change, which follows at once. -/
def Dev.faultEvent (d : Dev) (ix : Nat) (st : UState) : Dev :=
  let u := d.unit ix
  let n := b2n (u.state ≠ st)
  d.raise (930 + 4 * unitClass ix)
    { unitId := unitIdOf ix, state := st.code, gen := (u.gen + n) % 65536, a := d.ust.seq + n, b := 2, c := u.state.code,
      heads := d.unitHeads ix }

/-- A recovery has ended FAILED with cause 4, from the state `old`: counted, with source 931 + 4c (R325, R335). -/
def Dev.overBudget (d : Dev) (ix : Nat) (old : UState) : Dev :=
  let u := d.unit ix
  let d := { d with ust := { d.ust with overBudget := satAdd 16 d.ust.overBudget 1 } }
  d.raise (931 + 4 * unitClass ix)
    { unitId := unitIdOf ix, state := u.state.code, gen := u.gen, a := d.ust.seq, b := 4, c := old.code, heads := d.unitHeads ix }

/-- A double fault is counted, with source 962, which names both units in A and B (R335). -/
def Dev.doubleFault (d : Dev) (ix other : Nat) : Dev :=
  let d := { d with ust := { d.ust with doubles := satAdd 16 d.ust.doubles 1 } }
  d.raise 962 { unitId := unitIdOf ix, a := unitIdOf ix, b := unitIdOf other }

/-! ## Media reads when a member goes away (R143, R154, R328) -/

/-- The path of a read of a die that cannot be read is read-around; a member that goes is replaced by the ninth, and without
one the read is decided again, its cause FAULT (R143, R154). -/
def Dev.readAroundDie (d : Dev) (p : Nat → Bool) : Dev :=
  let d := d.each (d.med.reads.filter (fun e => !e.2.ready && e.2.path ≠ .around && p e.2.die)) (fun d e =>
    let own := fun (u : CmdUse) => u = .grain e.1 false
    ((d.dropCmds (fun c => own c.use)).unqueue own).startAround e.1 { e.2 with path := .around, members := [], arrived := 0 })
  let lost := (d.med.cmds.filter (fun c => p c.2.die)).map (fun c => (c.2.die, c.2.use)) ++
    (d.med.dies.filter (fun e => p e.1)).flatMap (fun e => e.2.queue.map (fun q => (e.1, q.use)))
  d.each lost (fun d x =>
    match x.2 with
    | .grain n true =>
      let d := { d with med := { d.med with cmds := d.med.cmds.keep (fun _ c => !(c.die = x.1 && c.use = x.2)) } }
      let y := d.die x.1
      let d := d.setDie x.1 { y with queue := y.queue.filter (fun q => q.use ≠ x.2) }
      (match d.med.reads.find n with
       | some r =>
         (match d.band (entryBand r.loc) with
          | some b =>
            (match (d.setDies b.set).find? (fun m => m ≠ r.die && !r.members.contains m && d.dieReachable m) with
             | some m => (d.setRead n { r with members := r.members ++ [m] }).putRead m (.grain n true) r.rank r.deadline
             | none =>
               let r := { r with fault := true, members := [], arrived := 0 }
               if r.ready then d.setRead n r else d.decideRead n r)
          | none => d)
       | none => d)
    | _ => d)

/-! ## Packages (R174, R175) -/

/-- Lost members of a band: dies of packages that are FAILED, RETIRED, ABSENT or being rebuilt. -/
def Dev.lostMembers (d : Dev) (b : Band) : Nat := (d.setDies b.set).countP (fun die => !d.dieHolds die)

/-- A page's media copy is lost (R175): its map entry takes 0xFFFF_FFFE, source 872 names it; what the tier holds stays.
-/
def Dev.loseMedia (d : Dev) (lpn : Nat) : Dev :=
  let heads := match d.pageOwner lpn with | some (n, _, _) => d.regionHeads n | none => 3
  (d.setMap lpn mapPoisoned).raise 872 { dpa := (d.dpaOf lpn 0).getD 0, b := 1, heads }

/-- A stored copy of an orchard page is there no more (R297, R298): the page is written as a fresh pair from the other copy,
or from the cache; with neither, its entries are orphaned. -/
def Dev.loseOrcPage (d : Dev) (key : Nat) : Dev :=
  let first := (key - 2 ^ 44) / 2 * 64
  let ks := (d.cry.orc.stored.filter (fun e => e.1 / 64 = first / 64)).map (·.1)
  if d.med.metaLoc.has (key ^^^ 1) then (d.count .ORC_COPY_REPAIRED).addOrcPage first [] |>.2
  else
    let d := d.each (ks.filter (fun k => !d.orcCached k)) (fun d k => d.orphan (orcLevel k) (orcIndex k) 0 3)
    if ks.any d.orcCached then (d.count .ORC_COPY_REPAIRED).addOrcPage first [] |>.2 else d

/-- A row with three or more lost members cannot be rebuilt: its pages are lost (R175), a page of the metadata stream as a
stored copy that is there no more. -/
def Dev.loseRow (d : Dev) (band row : Nat) : Dev :=
  let d := d.each ((d.validPages band).filter (fun e => entryRow e.2 = row)) (fun d e => d.loseMedia e.1)
  let gone := d.med.metaLoc.filter (fun e => entryBand e.2.1 = band && entryRow e.2.1 = row)
  let d := { d with med := { d.med with metaLoc := d.med.metaLoc.keep (fun _ e => !(entryBand e.1 = band && entryRow e.1 = row)) } }
  d.each ((gone.map (·.1)).filter (fun key => decide (2 ^ 44 ≤ key))) Dev.loseOrcPage

/-- One band of a rebuild (R174, R175): pages of a band with three or more lost members are lost, others are copied. -/
def Dev.rebuildBand (d : Dev) (n : Nat) : Dev :=
  match d.band n with
  | none => d
  | some b =>
    if 3 ≤ d.lostMembers b then
      d.each (((d.heldIn n).map (fun e => entryRow e.2)).foldl setInsert []) (fun d row => d.loseRow n row)
    else d.copyPages n 2

/-- Run the rebuild: bands with two lost members first; a package whose bands are gone is rebuilt. -/
def Dev.rebuild (d : Dev) : Dev :=
  let bs := d.med.bands.filter (fun e => e.2.rebuild)
  let first := bs.filter (fun e => decide (2 ≤ d.lostMembers e.2))
  let rest := bs.filter (fun e => decide (d.lostMembers e.2 < 2))
  let d := d.each (first ++ rest) (fun d e => d.rebuildBand e.1)
  d.each ((List.range 64).filter (fun p => !(d.pkg p).rebuilt)) (fun d p =>
    if d.med.bands.any (fun e => (d.setDies e.2.set).any (fun die => diePkg die = p)) then d
    else d.setPkg p { d.pkg p with rebuilt := true })

/-- Bands with a member on a package become rebuild bands; open ones close at their last verified row (R174, R180). -/
def Dev.markRebuild (d : Dev) (p : Nat) : Dev :=
  let hit := d.med.bands.filter (fun e => (d.setDies e.2.set).any (fun die => diePkg die = p))
  let rows := d.med.rows.filter (fun r => hit.any (fun e => e.1 = r.band))
  let d := d.each hit (fun d e =>
    let d := d.setBand e.1 { e.2 with rebuild := true }
    d.closeBand e.1 .victim)
  let d := d.setPkg p { d.pkg p with rebuilt := hit.isEmpty }
  (d.rejoin rows).rebuild

/-- What the loss of a package does. -/
def Dev.packageGone (d : Dev) (p : Nat) : Dev :=
  let d := d.dropCmds (fun c => diePkg c.die = p && (match c.use with | .grain _ _ => false | _ => true))
  let dies := d.med.dies.map (fun (e : Nat × Die) => if diePkg e.1 = p then (e.1, { e.2 with op := none, thru := none }) else e)
  let d := { d with med := { d.med with dies, progs := d.med.progs.filter (fun q => diePkg q.die ≠ p) } }
  -- a through sheet that was to be programmed to it goes to another pair (R256)
  let d := d.each d.per.sheets (fun d e => match e.2.dies.find? (fun die => diePkg die = p) with
    | some die => d.rewriteSheet e.1 die
    | none => d)
  ((d.readAroundDie (fun die => diePkg die = p)).markRebuild p).judgePdeg

/-- A package goes FAILED. -/
def Dev.packageFail (d : Dev) (p cause : Nat) : Dev := (d.setUnit (packageIx p) .failed cause).packageGone p

/-! ## M-links (R328, R351) -/

/-- Reissue through another port the commands of a link (R154, R351): QUERY for a PROGRAM or CLEAR, a READ again (R16); what
no port can take is read around. -/
def Dev.reissueLink (d : Dev) (m : Nat) : Dev :=
  let cs := d.med.cmds.filter (fun e => e.1 / 4096 = m)
  let d := { d with med := { d.med with cmds := d.med.cmds.keep (fun k _ => k / 4096 ≠ m) } }
  d.each cs (fun d e =>
    match d.homeLink e.2.die with
    | some h =>
      let d := d.count .MCX_LINKi_ERR_REISSUE m
      let d := d.readAgain e.2
      let op := if e.2.op = 2 || e.2.op = 3 then 7 else e.2.op
      { d with med := { d.med with cmds := d.med.cmds.put (h * 4096 + d.med.nextTag % 4096) { e.2 with op := op, issuedAt := d.now }
                                   nextTag := (d.med.nextTag + 1) % 4096 } }
    | none => d)

/-- Dies homed on a link move to the next serving port and stay there (R341). -/
def Dev.rehomeDies (d : Dev) (m : Nat) : Dev :=
  match d.linkPkg m with
  | none => d
  | some (p, _) =>
    d.each ((List.range d.diesPerPkg).map (fun i => p * 16 + i)) (fun d die =>
      match d.homeLink die with
      | some h => d.setDie die { d.die die with home := some h }
      | none => d)

/-- What a link's going out of service does: commands are reissued, dies are re-homed, a package without a port is
FAILED (R327, R328). -/
def Dev.linkGone (d : Dev) (m : Nat) : Dev :=
  match d.linkPkg m with
  | none => d
  | some (p, _) =>
    let d := (d.rehomeDies m).reissueLink m
    let d := d.complexHealth (m / 16)
    if (d.pkgLinks p).all (fun x => !d.serves (linkIx x.2)) then
      if d.serves (packageIx p) || d.ustate (packageIx p) = .draining then d.packageFail p 6 else d
    else d.packageHealth p

/-- A link goes FAILED: DISABLED (R345). -/
def Dev.linkFail (d : Dev) (m cause : Nat) : Dev :=
  ((d.setLink m { d.link m with train := 0, rec_ := false }).setUnit (linkIx m) .failed cause).linkGone m

/-! ## Media complexes (R328, R329) -/

/-- The reads in a complex that resets, quiesces or fails are served again through other complexes. -/
def Dev.complexGone (d : Dev) (n : Nat) : Dev :=
  let ms := (List.range 16).map (fun i => 16 * n + i)
  d.each ms (fun d m => (d.rehomeDies m).reissueLink m)

/-- The operation log is replayed (R329): unconfirmed clears are issued again, rows with an unconfirmed program are
abandoned without marking a block and their pages join new rows, and read-disturb counts advance by 1,000 a die. -/
def Dev.replayOps (d : Dev) (n : Nat) : Dev :=
  let mine := fun (die : Nat) => (d.naturalLink die).map linkComplex = some n
  let open_ := d.med.rows.filter (fun r => r.pages.length = 8 &&
    (d.med.cmds.any (fun c => mine c.2.die && (match c.2.use with | .sheet b x _ => b = r.band && x = r.row | _ => false)) ||
     d.med.dies.any (fun e => mine e.1 && (match e.2.op with
       | some o => !o.clear && o.band = r.band && o.row = r.row
       | none => false))))
  let rows := d.med.rows.filter (fun r => open_.any (fun x => x.band = r.band))
  let d := d.each open_ (fun d r => d.abandonRow r none)
  let d := d.rejoin rows
  let d := d.each (d.med.dies.filter (fun e => mine e.1 && (match e.2.op with | some o => o.clear | none => false)))
    (fun d e => match e.2.op with
      | some o => d.sendCmd 3 e.1 (.clear (blockKey e.1 o.block))
      | none => d)
  { d with med := { d.med with blocks := d.med.blocks.map (fun (e : Nat × Block) =>
      if mine (e.1 / 1024) then (e.1, { e.2 with reads := satAdd 32 e.2.reads 1000 }) else e) } }

/-- A complex goes FAILED: its M-links go with it (R327). -/
def Dev.complexFail (d : Dev) (n cause : Nat) : Dev :=
  let d := d.setUnit (complexIx n) .failed cause
  let d := d.replayOps n
  d.each (((List.range 16).map (fun i => 16 * n + i)).filter (fun m => (d.linkPkg m).isSome)) (fun d m =>
    if d.ustate (linkIx m) ∈ [.failed, .retired, .absent] then d else d.linkFail m 6)

/-! ## DRAM stacks (R224, R248, R328) -/

/-- The pages that lose a copy with a stack. -/
def Dev.pagesOn (d : Dev) (k : Nat) : List (Nat × TPage) := d.tier.filter (fun e => e.2.copies.contains k)

/-- The volatile pages of a region (R50): a TABLE's or a SCRATCH's, and the home lines of a COUNTER's. -/
def Dev.volatilePages (d : Dev) (r : RegionRec) : Nat :=
  if r.persist then 0 else match r.rtype with
    | .table | .scratch => r.size / 4096
    | .counter => ceilDiv (counterWindow (d.regionCount r)) 4096
    | .queue => 0

/-- A region's volatile pages that a lost stack held (R248, R328), by their place in the region. Each lies in one stack;
which one a page that was never written lies in is the device's own allocation, a free value. -/
def Dev.volatileOn (d : Dev) (k : Nat) (r : RegionRec) : List Nat :=
  let held := setInsert d.onlineStacks k
  (List.range (d.volatilePages r)).filter (fun p => match d.tier.find (d.pid r false p) with
    | some t => t.copies.contains k
    | none => held.getD (Config.free 328 (d.freeCtr + p) % held.length) k = k)

/-- Every line of the volatile pages of a region that a lost stack held, written or not, is stored poisoned with source
Internal, and source 656 carries BASE and the number of the pages (R328). -/
def Dev.loseVolatile (d : Dev) (k : Nat) (r : RegionRec) : Dev :=
  let ps := d.volatileOn k r
  let lo := d.pid r false 0
  let d := { d with freeCtr := d.freeCtr + d.volatilePages r }
  if ps.isEmpty then d else
  let lost := fun (pid : Nat) => decide (lo ≤ pid) && ps.contains (pid - lo)
  let d := { d with
    tier := d.tier.keep (fun pid _ => !lost pid)
    poison := { d.poison with
      lines := d.poison.lines.keep (fun x _ => !lost (x / 64))
      pages := mergeSet (ps.map (lo + ·)) d.poison.pages } }.notePoison
  let d := (d.dropCached (fun m _ => m = r.number)).journal 0x0B (lo * 64) (poisonInternal + 1) ps.length
  d.raise 656 { dpa := r.base, a := k, b := ps.length, heads := d.regionHeads r.number }

/-- A re-mirror is owed while a dirty page has fewer than two copies, and runs while two stacks serve (R248). -/
def Dev.remirrorState (d : Dev) (on : Bool) : Dev :=
  let owed := on && d.tier.any (fun e => isLpn e.1 && e.2.dirty && decide (e.2.copies.length < 2))
  { d with med := { d.med with remirror := owed } }.setFlag .DRT_REMIRROR_ACTIVE 0
    (owed && decide (2 ≤ d.onlineStacks.length))

/-- What the loss of a stack does to the pages: persistent ones keep their other copy and wait for the re-mirror, a
clean copy goes, a covered page is rebuilt, an uncovered one without a copy is lost; volatile pages are poisoned, once
Memory Active has placed them. -/
def Dev.stackGone (d : Dev) (k : Nat) : Dev :=
  let again := d.med.remirror
  let d := d.each (d.pagesOn k) (fun d e =>
    let rest := e.2.copies.filter (· ≠ k)
    if !isLpn e.1 then d
    else if !e.2.dirty then { d with tier := if rest.isEmpty then d.tier.del e.1 else d.tier.put e.1 { e.2 with copies := rest } }
    else if !rest.isEmpty then { d with med := { d.med with remirror := true } }.setPage e.1 { e.2 with copies := rest }
    else if e.2.covered then
      let (st, d) := d.pickStacks 2
      -- without a stack only what through records hold stays here; the rest is on media (R370)
      let lines := if st.isEmpty then e.2.lines.keep (fun s _ => e.2.written.contains s || d.per.thru.any (fun t => t.lpn = e.1 && t.sub = s))
                   else e.2.lines
      d.setPage e.1 { e.2 with copies := st, lines }
    else d.losePage e.1 872)
  let d := if again && decide (0 < (d.tier.filter (fun e => e.2.copies.isEmpty)).length) then d.doubleFault (stackIx k) (stackIx k)
    else d
  let d := if d.memActive then d.each ((d.cfg.map (·.regions)).getD []) (fun d r => d.loseVolatile k r) else d
  ((d.remirrorState d.med.remirror).stackLostQueues k).judgePdeg

/-- Queue groups of a configuration. -/
def Cfg.groups (c : Cfg) : List Nat :=
  (c.queueSets.flatMap (fun q => (List.range q.groupCount).map (· + q.groupFirst)))

/-- A region or queue group that came into being passes from OFF through STARTING to ONLINE (R473). -/
def Dev.bringUp (d : Dev) (ix : Nat) : Dev :=
  if d.ustate ix = .off then (d.setUnit ix .starting 0).setUnit ix .online 0 else d

/-- No-tier mode (R370): every stack is lost, and every persistent write is a through write. As it begins, the DRAM tier's
pages of the map are gone, but for changes that the journal covers, and 8 ways of each slice are the map's. -/
def Dev.checkNoTier (d : Dev) : Dev :=
  if (List.range 4).all (fun k => d.ustate (stackIx k) ∈ [.failed, .retired, .off, .absent]) then
    if d.flag .PWR_STEP_NOTIER then d else
    let d := (d.setFlag .PWR_STEP_NOTIER 0 true).setFlag .JRN_STATUS_THROUGH_ALL 0 true
    { d with med := { d.med with mapCache := d.med.mapCache.filter (·.dirty) }
             slices := d.slices.map (fun (e : Nat × SliceS) =>
               (e.1, { e.2 with ways := e.2.ways.keep (fun i _ => !(d.mapWays e.1).contains (i % 24)) })) }
  else if d.flag .PWR_STEP_NOTIER then
    (d.setFlag .PWR_STEP_NOTIER 0 false).setFlag .JRN_STATUS_THROUGH_ALL 0 (!d.flag .JRN_STATUS_HOLDUP_OK)
  else d

/-- Regions and queue groups that no stack, or no media, can serve go OFF with cause 6 (R369, R370); those that are OFF for
want of power or a first start return. -/
def Dev.startRegions (d : Dev) : Dev :=
  let noTier := d.flag .PWR_STEP_NOTIER
  let noMedia := (List.range 8).all (fun n => !d.serves (complexIx n))
  let off := fun (d : Dev) (ix : Nat) => if d.serves ix then d.setUnit ix .off 6 else d
  let d := d.each ((d.cfg.map (·.regions)).getD []) (fun d r =>
    let ix := regionIx r.number
    if (r.persist && noMedia) || (!r.persist && noTier && r.rtype ≠ .queue) then off d ix
    else if d.ustate ix = .off && ((d.unit ix).cause = 0 || (d.unit ix).cause = 6) && !d.boot.hidden.contains r.number then
      d.bringUp ix
    else d)
  d.each ((d.cfg.map Cfg.groups).getD []) (fun d g =>
    let ix := groupIx g
    let persist := ((d.setOfGroup g).map (·.persist)).getD false
    if noTier || (persist && noMedia) then (if d.serves ix then (d.setUnit ix .off 6).freeGroup g else d)
    else if d.ustate ix = .off && ((d.unit ix).cause = 0 || (d.unit ix).cause = 6) then d.bringUp ix
    else d)

/-- A stack goes FAILED (R328). A second loss before the re-mirror ends is a double fault (R334). -/
def Dev.stackFail (d : Dev) (k cause : Nat) : Dev :=
  let again := d.med.remirror
  let d := d.setUnit (stackIx k) .failed cause
  let d := d.raise (642 + 4 * k) { unitId := unitIdOf (stackIx k), a := k, b := 1 }
  let d := if again then d.doubleFault (stackIx k) (stackIx k) else d
  let d := d.stackGone k
  if d.memActive then d.checkNoTier.startRegions else d

/-! ## Fetches of the metadata stream (R160, R290, R294, R297, R301) -/

/-- A lookup misses the map-page cache (R160): the grain that holds the entry is read for it, the page's other grains as
background reads. -/
def Dev.mapMiss (d : Dev) (r : MRead) : Dev :=
  let key := mapKey (r.lpn / mapPageEntries)
  let d := d.count .DRT_MAP_CACHE_MISSES
  match d.med.metaLoc.find key with
  | none => d
  | some (loc, _) =>
    let g := r.lpn % mapPageEntries / 64
    let d := d.fetch { r with slice := fetchSlice r.slice } key loc g none false
    d.each ((List.range 16).filter (· ≠ g)) (fun d g =>
      d.fetch { r with slice := metaSlice, rank := 6, deadline := noDeadline, overdue := false, spec := false } key loc g none false)

/-- What a lookup of a slice would read its page of the map with: the rank and deadline of the read that it stands for. -/
def Dev.lookupRead (d : Dev) (k e lpn deadline epoch : Nat) : MRead :=
  let late := decide (deadline ≤ d.now) && decide (e < 12288)
  { slice := k, entry := e, loc := 0, lpn, grain := 0, die := 0, path := .direct, predicted := d.now, deadline, epoch
    overdue := late, rank := if decide (12288 ≤ e) then 4 else if late then 2 else 3 }

/-- The page of the map that a lookup waited for has come: its media read is issued (R160). -/
def Dev.mapArrived (d : Dev) (k e epoch : Nat) (lost : Bool) : Dev :=
  match d.entry k e with
  | some t =>
    if t.state = .lookup && t.mapOut && !t.dramOut && t.epoch = epoch then
      let pid := match d.regionAt t.req.stamp t.req.region with | some g => d.readPid g t.req.off | none => 0
      let d := d.setEntry k e { t with mapOut := false }
      -- an entry that no media give back is answered as a lost grain is (log 93)
      if lost then
        if t.req.kind.isRead then ((d.setEntry k e { t with mapOut := false, val := some .stored }).respond k e (some [])).pump k
        else (d.toWrite k e).pump k
      else (d.mecFill k pid).asOf t.req.stamp (fun d =>
        d.issueRead k e (d.mapEntry pid) pid (t.req.off % 4096 / 256) t.req.deadline epoch false)
    else d
  | none =>
    match (d.slice k).ra.find? (fun x => x.slot + 12288 = e && x.epoch = epoch && x.filledAt.isNone) with
    | some x =>
      (match d.regionAt x.stamp x.region with
       | some g =>
         let pid := d.readPid g x.off
         if lost then d.dropAhead k (fun y => y.slot = x.slot)
         else (d.mecFill k pid).issueRead k e (d.mapEntry pid) pid (x.off % 4096 / 256) (d.now + 10 ^ 9) epoch false
       | none => d)
    | none => d

/-- An entry fetched from media is checked under its counter in its parent (R290) and enters the cache. After a restart that
re-based the orchard, the first counter from the parent's to the parent's + 8 under which it verifies is accepted, and the
parent is corrected (R301). One that verifies under none is orphaned. -/
def Dev.orcArrive (d : Dev) (k ki heads : Nat) : Dev :=
  match d.cry.orc.stored.find k with
  | none => d
  | some s =>
    let want := d.entryCtr k
    let d := d.count .ORC_CACHE_FETCHES
    if (d.cry.orc.line k).isSome then d
    else if s.ctr = want then d.orcEnter k
    else if d.cry.rebased && decide (want ≤ s.ctr) && decide (s.ctr ≤ want + 8) then
      ((d.setOrc { d.cry.orc with ctr := d.cry.orc.ctr.put k s.ctr }).orcMark (orcParent k) []).orcEnter k
    else d.orphan (orcLevel k) (orcIndex k) ki heads

/-- A read of the metadata stream has ended (R160, R294, R297): a lost copy of an entry sends the device to the other; with
both lost the entry is orphaned; one copy lost, the page is written as a fresh pair. -/
def Dev.metaDone (d : Dev) (n : Nat) (r : MRead) : Dev :=
  let d := { d with med := { d.med with reads := d.med.reads.del n } }
  let k := if 32 ≤ r.slice then r.slice - 32 else r.slice
  match r.goal with
  | none => if r.slice = metaSlice then d else
      (d.mapTouch (r.lpn - mapKey 0) false |>.mapTrim).mapArrived k r.entry r.epoch r.lost
  | some key =>
    let (ki, heads) := match d.entry k r.entry with
      | some t => (t.req.ki, d.regionHeads t.req.region)
      | none => (0, 3)
    if !r.lost then
      let d := if r.again && d.med.metaLoc.has (r.lpn ^^^ 1) then (d.count .ORC_COPY_REPAIRED).addOrcPage key [] |>.2 else d
      (d.orcArrive key ki heads).orcTrim
    else match (if r.again then none else d.orcCopy key true) with
      | some (page, loc) =>
        d.fetch { r with ready := false, lost := false } page loc (orcGrain key) (some key) true
      | none => if (d.cry.orc.line key).isSome then d else d.orphan (orcLevel key) (orcIndex key) ki heads

/-- The reads of the metadata stream that have ended. -/
def Dev.metaReads (d : Dev) : Dev :=
  d.each (d.med.reads.filter (fun e => isMeta e.2.lpn && e.2.ready)) (fun d e => d.metaDone e.1 e.2)

/-! ## Slices (R131 to R133, R334 to R336) -/

/-- Drop the media reads that a slice waits for, and the fetches beside them. -/
def Dev.dropReads (d : Dev) (k : Nat) : Dev :=
  let mine := fun (r : MRead) => r.slice = k || r.slice = fetchSlice k
  let ns := (d.med.reads.filter (fun e => mine e.2)).map (·.1)
  let used := fun (u : CmdUse) => match u with | .grain n _ => ns.contains n | _ => false
  let on := d.queuedOn used
  let d := { d with med := { d.med with reads := d.med.reads.keep (fun _ r => !mine r) } }
  (d.unqueue used).each on Dev.goOn

/-- A slice runs solo while its buddy is not in service (R132). Turning solo, it sends its records that no log has
acknowledged to the journal (R134). -/
def Dev.updateSolo (d : Dev) (k : Nat) : Dev :=
  let solo := d.serves (sliceIx k) && !d.serves (sliceIx (k ^^^ 1))
  let turns := solo && !d.flag .SLC_STATUS_SOLO k
  let d := if turns then d.count .SLC_BUDDY_SOLO_COUNT k else d
  let d := d.setFlag .SLC_STATUS_SOLO k solo
  let d := if turns then d.each ((d.slice k).inOrder.filter (fun x => !x.2.acked)) (fun d x => d.logRec k x.1 x.2) else d
  d.sliceHealth k

/-- What a reset of a slice clears: its tracking table, caches, hold, buffers, prefetches, predictor and the log it keeps of
its buddy (R106, R114, R116, R128). Token epochs go on, so that a late result finds no entry of its epoch (R111). Run-ahead
entries are abandoned. -/
def Dev.clearSlice (d : Dev) (k : Nat) : Dev :=
  let d := (d.dropReads k).dropAhead k (fun _ => true)
  let s := d.slice k
  let d := d.setSlice k { s with tt := [], int := [], ways := [], hold := [], pf := [], ce := [], mec := [], pred := [],
                                 plru := [], blog := [], replayQ := [] }
  d.clearUnitRegs (fun f => f ∈ [.SLC_STATUS_BYPASS, .SLC_STATUS_SOLO, .SLC_STATUS_RUNAHEAD, .SLC_WAY_TEST_TESTING]) k

/-- Records of a slice are entered again, in the tracking table of the slice that carries them, in acceptance order (R131); a
fault is the cause of their misses (R147). -/
def Dev.replayFor (d : Dev) (by_ k : Nat) (es : List (Nat × TtEntry)) (fault : Bool) : Dev :=
  let rs := es.map (fun x =>
    (k, x.1, if fault then { x.2 with replayed := true, cause := x.2.cause ||| 2 } else x.2))
  let s := d.slice by_
  (d.setSlice by_ { s with replayQ := s.replayQ ++ rs }).pump by_

/-- Continue the logged records of a slice from ACCEPTED (R131). -/
def Dev.replay (d : Dev) (k : Nat) : Dev := d.replayFor k k (d.logOf k) true

/-- Move a slice's records to its buddy, which continues them (R133). -/
def Dev.adopt (d : Dev) (k : Nat) : Dev :=
  let b := k ^^^ 1
  let es := d.records k
  let d := (d.clearSlice k).clearRecords k
  let d := d.setSlice k { d.slice k with adoptedAway := true }
  let d := d.setFlag .SLC_STATUS_ADOPTED b true
  (d.updateSolo b).replayFor b k es true

/-- The event of a lost enqueue line or doorbell (R226): it names the queue, the frame, and the line by its DPA. -/
def Dev.queueLost (d : Dev) (q seq dpa heads : Nat) : Dev :=
  d.raise 708 { unitId := unitIdOf (groupIx (groupOf q)), dpa, a := q, b := seq, c := (d.unit (groupIx (groupOf q))).gen, heads }

/-- Take back what a lost doorbell did (R150, R226). The fold waits for the COMMIT's request, so it can be taken back. -/
def Dev.takeBackDoorbell (d : Dev) (t : TtEntry) : Dev :=
  if t.state = .done then d else
  match t.undo with
  | .none => d
  | .queue q fs asm =>
    let x := d.queue q
    let all := fs ++ x.frames
    let (asm, tail) := match asm with
      | some (a, r) => if x.asm = .idle then (a, r) else (x.asm, x.ringTail)
      | none => (x.asm, x.ringTail)
    (d.setQueue q { x with frames := all, headSeq := (x.headSeq + 2 ^ 32 - fs.length) % 2 ^ 32, asm, ringTail := tail
                           spillPages := ceilDiv (spilledCells all) 16 }).qChanged q
  | .commit n pages at_ res =>
    let s := d.shadowOf n
    match pages with
    | none => d.setReg .RGN_SHADOW_LAST_RESULT n res
    | some k =>
      if s.folding.length = k then
        let delta := s.folding.foldl (fun (m : AMap Nat) e => if m.has e.1 then m else m.put e.1 e.2) s.delta
        (d.setShadow n { s with state := if delta.isEmpty then s.state else max s.state 1
                                epoch := (s.epoch + 2 ^ 64 - 1) % 2 ^ 64, committedAt := at_, delta
                                folding := [] }).setReg .RGN_SHADOW_LAST_RESULT n res
      else d
  | .discard n st spill res =>
    let s := d.shadowOf n
    let delta := s.delta.foldl (fun (m : AMap Nat) e => m.put e.1 e.2) s.dropped
    (d.setShadow n { s with state := max st s.state, delta, spill := mergeSet spill s.spill, dropped := [] }).setReg
      .RGN_SHADOW_LAST_RESULT n res

/-- An enqueue line whose every record is lost (R226): line 0 opens no frame; another line is stored poisoned. -/
def Dev.loseEnqueue (d : Dev) (q off dpa : Nat) (heads : Nat) : Dev :=
  let k := off / 64
  let x := d.queue q
  let d := match x.asm with
    | .opened f => if k = 0 then d.dropOpen q else d.setQueue q { x with asm := .opened { f with bad := setInsert f.bad k } }
    | _ =>
      match x.frames.getLast? with
      | some f => d.setQueue q { x with frames := x.frames.dropLast ++
                    [{ f with bad := setInsert f.bad k, flags := f.flags ||| 2 }] }
      | none => d
  let seq := match x.asm with
    | .opened _ => x.tailSeq
    | _ => (x.frames.getLast?.map (·.seq)).getD x.tailSeq
  (d.strand q).queueLost q seq dpa heads

/-- A write whose every record is lost (R150, R226, R241). -/
def Dev.loseRecord (d : Dev) (t : TtEntry) : Dev :=
  match d.region t.req.region with
  | none => d
  | some g =>
    let heads := d.regionHeads g.number
    match t.req.kind with
    | .write | .partialWrite =>
      if t.state = .done then d
      else (d.poisonLine (d.readPid g t.req.off) (t.req.off % 4096 / 64) poisonInternal).raise 865
             { dpa := t.req.dpa, b := 1, heads }
    | .tally =>
      if t.applied then d
      else ((d.count .TAL_SETs_STAT_LOST g.setId).setFlag .TAL_SETs_STAT_INEXACT g.setId true).raise 771
             { dpa := g.base, a := g.setId, c := (d.talSet g.setId).snapId, heads }
    | .counterWrite =>
      if t.applied then d
      else
        let (pid, sub) := d.homePlace g (t.req.off / 64)
        (d.poisonLine pid sub poisonInternal).raise 865 { dpa := t.req.dpa, b := 1, heads }
    | .enqueue | .doorbell =>
      if t.state = .done then d
      else match d.window g t.req.off with
        | .enqueue q off => d.loseEnqueue q off t.req.dpa heads
        | .doorbell q => (d.strand q).queueLost q (d.queue q).headSeq t.req.dpa heads
        | _ => d
    | .commitDoorbell => if t.state = .done then d else d.raise 865 { dpa := t.req.dpa, heads }
    | _ => d

/-- The records of a slice are lost in a double fault (R150, R336): reads wait for the answer limit. -/
def Dev.loseSlice (d : Dev) (k : Nat) : Dev :=
  let es := d.records k
  let d := d.each es.reverse (fun d x => d.takeBackDoorbell x.2)
  let d := d.each es (fun d x => d.loseRecord x.2)
  let d := { d with tal := { d.tal with items := d.tal.items.filter (fun i => i.slice ≠ k) } }
  let d := (d.clearSlice k).clearRecords k
  d.setSlice k { d.slice k with adoptedAway := false }

/-- Requests that wait for a share without an owner are answered by the heads (R336). -/
def Dev.refuseIngress (d : Dev) (k : Nat) : Dev :=
  let rs := (d.slice k).ingress
  let d := d.setSlice k { d.slice k with ingress := [] }
  d.each rs (fun d r =>
    (d.hostEvent 74 r.head r.tag r.dpa r.region (d.regionHeads r.region)).answer k r 2 none r.kind.isRead)

/-- Both slices of a pair are lost (R336). -/
def Dev.pairLost (d : Dev) (k : Nat) : Dev :=
  let b := k ^^^ 1
  let d := d.doubleFault (sliceIx k) (sliceIx b)
  let d := (d.loseSlice k).loseSlice b
  let d := d.each [k, b] (fun d j =>
    let old := d.ustate (sliceIx j)
    let d := if old = .failed then d else (d.setUnit (sliceIx j) .failed 4).overBudget (sliceIx j) old
    let d := d.setSlice j { d.slice j with adoptedAway := false }
    d.setFlag .SLC_STATUS_ADOPTED j false)
  (d.refuseIngress k).refuseIngress b

/-- A slice goes FAILED (R133): its buddy adopts the share where it serves; an adopting slice leaves the pair without an
owner. -/
def Dev.sliceFail (d : Dev) (k cause : Nat) : Dev :=
  let b := k ^^^ 1
  let d := d.setUnit (sliceIx k) .failed cause
  if d.serves (sliceIx b) then d.adopt k
  else if d.ustate (sliceIx b) = .resetting && (d.unit (sliceIx b)).recovery then d.pairLost k
  else
    -- the buddy was taken out: this slice carried both shares, and its SOLO records lie in the journal (R132, R133)
    let d := d.clearSlice k
    let d := d.setSlice b { d.slice b with adoptedAway := false }
    let d := d.setFlag .SLC_STATUS_ADOPTED k false
    (d.refuseIngress k).refuseIngress b

/-- A slice returns to service (R331): it takes its share back, and the share of a buddy that is lost. -/
def Dev.sliceBack (d : Dev) (k : Nat) : Dev :=
  let b := k ^^^ 1
  let d := if (d.slice k).adoptedAway then
      let d := d.setSlice k { d.slice k with adoptedAway := false }
      let d := d.setFlag .SLC_STATUS_ADOPTED b false
      d.dropCached (fun _ sec => sliceOfSector sec = k)
    else d
  let d := if d.sliceDead b then
      (d.setSlice b { d.slice b with adoptedAway := true }).setFlag .SLC_STATUS_ADOPTED k true
    else d
  let d := (d.updateSolo k).updateSolo b
  let d := d.replay k
  -- what a lost buddy's SOLO records still owe
  let es := if d.sliceDead b then d.logOf b else []
  let d := if es.isEmpty then d else (d.clearRecords b).replayFor k b es true
  (d.pumpShare k).pumpShare b

/-! ## Heads (R95, R328) -/

/-- A head's accepted requests finish inside the device (R95): completions are discarded, reads are abandoned. -/
def Dev.headDrop (d : Dev) (h : Nat) : Dev :=
  let x := d.head h
  let d := d.setHead h { x with live := [], occPeak := 0 }
  -- abandoned reads leave their entries at once; what waits in ingress as a read goes
  { d with slices := d.slices.map (fun (e : Nat × SliceS) =>
      (e.1, { e.2 with ingress := e.2.ingress.filter (fun r => !(r.head = h && r.kind.isRead))
                       tt := e.2.tt.keep (fun _ t => !(t.req.head = h && t.req.kind.isRead))
                       blog := e.2.blog.keep (fun _ t => !(t.req.head = h && t.req.kind.isRead))
                       solo := e.2.solo.keep (fun _ t => !(t.req.head = h && t.req.kind.isRead))
                       replayQ := e.2.replayQ.filter (fun x => !(x.2.2.req.head = h && x.2.2.req.kind.isRead)) }))
           tal := { d.tal with items := d.tal.items.filter (fun i => !(i.head = h && i.req.kind.isRead)) }
           med := { d.med with reads := d.med.reads.keep (fun _ r => match (d.slice r.slice).tt.find r.entry with
             | some t => !(t.req.head = h && t.req.kind.isRead)
             | none => true) } }

/-! ## Units (R317, R324) -/

/-- A unit goes FAILED with a cause, and its class's redundancy takes over (R317, R328). -/
def Dev.failUnit (d : Dev) (ix cause : Nat) : Dev :=
  let old := d.ustate ix
  let d := if d.ustate ix = .failed then d else
    match unitClass ix with
    | 0 => (d.setUnit ix .failed cause).headDrop ix
    | 1 => (d.abandonSteps (fun _ => true)).sliceFail (ix - 2) cause
    | 2 => d.complexFail (ix - 18) cause
    | 3 => d.linkFail (ix - 26) cause
    | 4 => d.packageFail (ix - 154) cause
    | 5 => d.stackFail (ix - 218) cause
    | 7 => (d.setUnit ix .failed cause).freeGroup (ix - 286)
    | _ => d.setUnit ix .failed cause
  if cause = 4 then d.overBudget ix old else d

/-- A recoverable fault, or a commanded reset, takes a unit to RESETTING (R317, R328). -/
def Dev.resetUnit (d : Dev) (ix cause : Nat) (hw recovery : Bool) : Dev :=
  let d := d.startReset ix cause hw recovery
  match unitClass ix with
  | 0 => if recovery then d.headDrop ix else d
  | 1 =>
    let k := ix - 2
    ((d.abandonSteps (fun _ => true)).clearSlice k).updateSolo (k ^^^ 1)
  | 2 => (d.complexGone (ix - 18)).readAroundDie (fun die => d.complexOf die = ix - 18 && (d.homeLink die).isNone)
  | 3 => d.linkGone (ix - 26)
  | _ => d

/-- A head takes the state of its link (R96): OFF without one, DEGRADED in PCIe-only mode or below the width or rate that
IDENT expects, ONLINE otherwise. -/
def Dev.headService (d : Dev) (h cause : Nat) (hw : Bool := true) : Dev :=
  let w := d.reg .GLB_HEAD_LINK_WIDTH h
  if w = 0 then d.moveUnit h .off cause hw else
  let e := (d.cfg.map (·.ident.headExpect)).getD []
  let wantW := if e.getD (2 * h) 0 = 0 then (if d.pin.headMode then 8 else 16) else e.getD (2 * h) 0
  let wantR := if e.getD (2 * h + 1) 0 = 0 then 6 else e.getD (2 * h + 1) 0
  if d.flag .GLB_HEAD_LINK_CXL h && decide (wantW ≤ w) && decide (wantR ≤ d.reg .GLB_HEAD_LINK_RATE h) then
    d.moveUnit h .online cause hw
  else d.moveUnit h .degraded cause hw

/-- The state that a unit other than a head takes in service (R318). -/
def Dev.serviceState (d : Dev) (ix : Nat) : UState :=
  let low : Bool := match unitClass ix with
    | 1 =>
      let k := ix - 2
      decide ((List.range 24).countP (fun w => d.wayOn k w) < 12) || !d.serves (sliceIx (k ^^^ 1))
    | 2 =>
      let n := ix - 18
      (List.range 16).any (fun i => (d.linkPkg (16 * n + i)).isSome && d.ustate (linkIx (16 * n + i)) ≠ .online)
    | 3 => decide ((d.link (ix - 26)).mode ≠ 0)
    | 4 => (d.pkgLinks (ix - 154)).any (fun x => d.ustate (linkIx x.2) ≠ .online) || (d.pkg (ix - 154)).denseClosed
    | 5 => d.flag .DRT_STACKd_STAT_SPARED (ix - 218)
    | 6 => d.regionDegraded (ix - 222)
    | 7 => d.qen.rehomed.has (ix - 286) || d.qen.recovering.isSome
    | _ => false
  if low then .degraded else .online

/-- A unit returns to service, ONLINE or DEGRADED (R318), with a cause; what that brings back for other units. -/
def Dev.enterService (d : Dev) (ix cause : Nat) (hw : Bool := true) : Dev :=
  if unitClass ix = 0 then d.headService ix cause hw else
  let d := d.setUnit ix (d.serviceState ix) cause hw
  match unitClass ix with
  | 1 =>
    let k := ix - 2
    -- bypass follows the disabled ways (R126)
    let low := decide ((List.range 24).countP (fun w => d.wayOn k w) < 12)
    (d.setFlag .SLC_STATUS_BYPASS k low).sliceBack k
  | 3 =>
    let m := ix - 26
    let d := d.complexHealth (m / 16)
    (match d.linkPkg m with | some (p, _) => d.packageHealth p | none => d)
  | _ => d

end Sys2Proof.Machine
end

