-- ==== Sys2Proof/Machine/Rails.lean ====
section
/-!
DEFINITION. Rails, domains, media rail groups, the cooperation with other sequencers and the power-down steps (R356 to
R380): the operations that the power family, the reset family and the quench share.
-/
namespace Sys2Proof.Machine

/-- The present sequencer step. -/
def Dev.step (d : Dev) : Nat := d.reg .PWR_STEP_STEP

/-! ## Rails and domains -/

/-- Nominal voltages of the rails in mV (R357). -/
def railNominal (r : Nat) : Nat := [750, 750, 750, 850, 900, 1200, 1100, 1800, 1800].getD r 0

/-- The rails of step 3 and of step 6 in the order they are enabled (R364). -/
def bootRails : List Nat := [1, 3, 8, 4, 5]
def coreRails : List Nat := [7, 6, 2]

/-- Rail states of PWR_RAILr_STAT.STATE. -/
def Dev.railState (d : Dev) (r : Nat) : Nat := d.reg .PWR_RAILr_STAT_STATE r

/-- The parents that R359 fixes for domain PDnn, as domain codes of R362. -/
def pdParents (nn : Nat) : List Nat :=
  if nn ≤ 16 then [1, 3] else if nn ≤ 24 then [2, 3, 4, 5] else if nn ≤ 28 then [1, 6, 7]
  else if nn = 29 then [1, 3, 4, 5] else if nn = 30 then [1, 3] else if nn = 31 then [1, 3, 8] else [1, 8]

/-- The parents of a domain code: the fixed ones and those POWERTREE adds (R359, R362). -/
def Dev.parents (d : Dev) (code : Nat) : List Nat :=
  (if 0x21 ≤ code && code ≤ 0x40 then pdParents (code - 0x20) else []) ++
  (match d.cfg with
   | some c => (c.power.edges.filter (fun e => e.1 = code)).map (·.2)
   | none => [])

/-- Whether domain PDnn is powered. -/
def Dev.pdOn (d : Dev) (nn : Nat) : Bool := (d.reg .PWR_PD_ON).testBit (nn - 1)

/-- MPENg is high. -/
def Dev.mpen (d : Dev) (g : Nat) : Bool := (d.reg .PWR_MPG_MPEN).testBit g

/-- A media rail group is up: MPENg high and MPGOODg high for 1 ms (R373). -/
def Dev.mpgUp (d : Dev) (g : Nat) : Bool :=
  d.mpen g && d.pin.mpgood.testBit g &&
    (match d.pwr.mpgStableAt.find g with
     | some t => decide (t + 1000000 ≤ d.now)
     | none => false)

/-- A parent is good (a rail) or powered (a domain or group). A rail in an under-voltage fault stays enabled (R371). -/
def Dev.parentOk (d : Dev) (code : Nat) : Bool :=
  if code = 0 then d.aon
  else if code < 9 then d.railState code = 2 || d.pwr.railHeld.contains code
  else if 0x21 ≤ code && code ≤ 0x40 then d.pdOn (code - 0x20)
  else if 0x50 ≤ code && code ≤ 0x57 then d.mpen (code - 0x50)
  else false

/-- The units of domain PDnn (R359). PD30 carries the queue groups; PD31 and PD32 carry no unit of the UST. -/
def Dev.pdUnits (d : Dev) (nn : Nat) : List Nat :=
  if nn ≤ 16 then [sliceIx (nn - 1)] else if nn ≤ 24 then [complexIx (nn - 17)]
  else if nn ≤ 28 then [stackIx (nn - 25)]
  else if nn = 29 then (List.range d.headCount).map headIx
  else if nn = 30 then ((List.range 256).map groupIx).filter (fun ix => d.ustate ix ≠ .absent)
  else []

/-- Packages of a package group: N / 8 consecutive numbers (R339). -/
def Dev.groupPackages (d : Dev) (g : Nat) : List Nat :=
  match d.cfg with
  | some c => let k := c.wiring.pkgCount / 8; (List.range k).map (fun i => g * k + i)
  | none => []

/-- Switch a domain off because a parent failed: its units go FAILED with cause 6 (R327, R359). -/
def Dev.pdFaultOff (d : Dev) (nn : Nat) : Dev :=
  let d := (d.setFieldBit .PWR_PD_ON 0 (nn - 1) false).setFieldBit .PWR_PD_FAULT_OFF 0 (nn - 1) true
  d.each (d.pdUnits nn) (fun d ix =>
    if d.ustate ix ∈ [.absent, .off, .failed, .retired] then d else d.failUnit ix 6)

/-- Fail the packages of a group with cause 6 (R373). -/
def Dev.failGroupPackages (d : Dev) (g : Nat) : Dev :=
  d.each (d.groupPackages g) (fun d p =>
    if d.ustate (packageIx p) ∈ [.absent, .failed, .retired] then d else d.failUnit (packageIx p) 6)

/-- Lower MPENg and fail the group's packages. -/
def Dev.mpgOff (d : Dev) (g : Nat) : Dev :=
  (d.setFieldBit .PWR_MPG_MPEN 0 g false).failGroupPackages g

/-- One sweep over the domains: every powered domain or group one of whose parents is not good goes off. -/
def Dev.dropOnce (d : Dev) : Dev :=
  let d := d.each ((List.range 32).map (· + 1)) (fun d nn =>
    if d.pdOn nn && !((d.parents (0x20 + nn)).all d.parentOk) then d.pdFaultOff nn else d)
  d.each (List.range 8) (fun d g =>
    if d.mpen g && !((d.parents (0x50 + g)).all d.parentOk) then d.mpgOff g else d)

/-- Switch off at once every domain that depends on something that is off, to the end of the chains (R359). The chains
have at most the 40 domain codes of R362. -/
def Dev.dropDependants (d : Dev) : Dev := (List.range 40).foldl (fun d _ => d.dropOnce) d

/-- Enable a rail (R364). -/
def Dev.enableRail (d : Dev) (r : Nat) : Dev :=
  let d := (d.setReg .PWR_RAILr_STAT_STATE r 1).countWrap .PWR_RAILr_CYC_CYCLES r
  { d with pwr := { d.pwr with railOnAt := d.pwr.railOnAt.put r d.now } }

/-- Switch a rail off: it ramps down (R358). -/
def Dev.rampDown (d : Dev) (r : Nat) : Dev :=
  if d.railState r ∈ [1, 2, 3] then
    let d := d.setReg .PWR_RAILr_STAT_STATE r 4
    { d with pwr := { d.pwr with railOffAt := d.pwr.railOffAt.put r d.now
                                 railHeld := setErase d.pwr.railHeld r } }
  else d

/-- Switch a regulator off at once (R371 over-voltage and over-current, R268 collapse). -/
def Dev.cutRail (d : Dev) (r st : Nat) : Dev :=
  let d := d.setReg .PWR_RAILr_STAT_STATE r st
  { d with pwr := { d.pwr with railHeld := setErase d.pwr.railHeld r } }.dropDependants

/-- A rail none of whose dependants can be powered is left off (R359): every domain under it has another parent rail that
failed to rise or was left off before it. -/
def Dev.railUseful (d : Dev) (r : Nat) : Bool :=
  ((List.range 32).map (· + 1)).any (fun nn =>
    (pdParents nn).contains r && (pdParents nn).all (fun p => p = r || d.railState p ≠ 5))

/-- Enable the first rail of a step's list that is not yet good or failed; a rail that would feed nothing is skipped. -/
def Dev.enableNext (d : Dev) (rails : List Nat) : Dev :=
  match rails with
  | [] => d
  | r :: rest =>
    if d.railState r = 2 || d.railState r = 5 then d.enableNext rest
    else if d.railState r = 1 then d
    else if d.railUseful r then d.enableRail r
    else d.enableNext rest

/-- Every rail of a list is good, failed, or left off because it would feed nothing. -/
def Dev.railsSettled (d : Dev) (rails : List Nat) : Bool :=
  rails.all (fun r => d.railState r = 2 || d.railState r = 5 || (d.railState r = 0 && !d.railUseful r))

/-- Power a domain if its parents are good (R359); its OFF units start (R317). -/
def Dev.enablePd (d : Dev) (nn : Nat) : Dev :=
  if (d.parents (0x20 + nn)).all d.parentOk then
    let d := (d.setFieldBit .PWR_PD_ON 0 (nn - 1) true).setFieldBit .PWR_PD_FAULT_OFF 0 (nn - 1) false
    if nn ≤ 29 then d.each (d.pdUnits nn) (fun d ix =>
      -- a head under PERST stays in reset (R96)
      if d.ustate ix = .off then d.setUnit ix (if ix < 2 && (d.head ix).perst then .resetting else .starting) 0 else d)
    else d
  else
    let d := d.setFieldBit .PWR_PD_FAULT_OFF 0 (nn - 1) true
    if nn ≤ 29 then d.each (d.pdUnits nn) (fun d ix => if d.ustate ix = .off then d.failUnit ix 6 else d)
    else d

/-- Switch a domain off in order at power-down: its units go OFF, or stay FAILED or RETIRED (R319, R366). -/
def Dev.pdDown (d : Dev) (nn : Nat) : Dev :=
  let d := d.setFieldBit .PWR_PD_ON 0 (nn - 1) false
  if nn ≤ 29 then
    d.each (d.pdUnits nn) (fun d ix =>
      if d.ustate ix ∈ [.absent, .off, .failed, .retired] then d else d.setUnit ix .off 6)
  else d

/-- Raise MPENg (R373), unless the group is latched off. -/
def Dev.raiseMpg (d : Dev) (g : Nat) : Dev :=
  if (d.reg .PWR_MPG_LATCH).testBit g then d else
  let d := (d.setFieldBit .PWR_MPG_MPEN 0 g true).count .PWR_MPGg_CNT_CYCLES g
  { d with pwr := { d.pwr with mpgRaisedAt := d.pwr.mpgRaisedAt.put g d.now
                               mpgFailed := setErase d.pwr.mpgFailed g
                               mpgStableAt := if d.pin.mpgood.testBit g then d.pwr.mpgStableAt.put g d.now
                                              else d.pwr.mpgStableAt.del g } }

/-- A group has failed to rise (R373). -/
def Dev.mpgRiseFail (d : Dev) (g : Nat) : Dev :=
  let d := d.count .PWR_MPGg_CNT_RISE_FAIL g
  let d := { d with pwr := { d.pwr with mpgFailed := setInsert d.pwr.mpgFailed g
                                        mpgStableAt := d.pwr.mpgStableAt.del g } }
  (d.raise 11 { a := g }).mpgOff g

/-- A group is latched off (R373). -/
def Dev.mpgLatch (d : Dev) (g : Nat) : Dev :=
  let d := (d.setFieldBit .PWR_MPG_LATCH 0 g true).count .PWR_MPGg_CNT_LATCHES g
  let d := { d with pwr := { d.pwr with mpgStableAt := d.pwr.mpgStableAt.del g } }
  (d.raise 15 { a := g }).mpgOff g

/-! ## Cooperation (R375 to R378) -/

/-- The device takes part in the cooperation: from step 1 always, from step 5 on while SQ_PART is 1; never after it has
left. -/
def Dev.sqTakesPart (d : Dev) : Bool :=
  !d.pwr.left && !d.flag .PWR_SQ_CTL_LEAVE && (decide (d.step < 5) || d.seqCfg.sqPart = 1)

/-- The target in force: a master's own (5 until its image is in force), a follower's last received (R376). -/
def Dev.sqTarget (d : Dev) : Nat :=
  if d.pin.sqRole then (if d.cfg.isSome then d.reg .PWR_SQ_CTL_TARGET else 5) else d.reg .PWR_SQ_STAT_RX_TARGET

/-- Hold or release SQ_STEP. -/
def Dev.sqHold (d : Dev) (hold : Bool) : Dev :=
  let d := d.setFlag .PWR_SQ_STAT_HOLDING 0 hold
  if hold then { d with pin := { d.pin with sqStepHigh := false } } else d

/-- Leave the cooperation until the next power-on reset (R375, R377). -/
def Dev.sqLeave (d : Dev) : Dev :=
  ({ d with pwr := { d.pwr with left := true } }.setFlag .PWR_STEP_SQ_WAIT 0 false).sqHold false

/-! ## Steps (R364, R366) -/

/-- No slice, complex or stack is still STARTING. -/
def Dev.domainsUp (d : Dev) : Bool :=
  (List.range 16).all (fun k => d.ustate (sliceIx k) ≠ .starting) &&
  (List.range 8).all (fun n => d.ustate (complexIx n) ≠ .starting) &&
  (List.range 4).all (fun k => d.ustate (stackIx k) ≠ .starting)

/-- Every die sensor that is valid reads below T_RESUME of the image that was in force at the trigger (R407). Temperatures
are in 1/16 °C, 16-bit two's complement. -/
def Dev.dieCool (d : Dev) : Bool :=
  let lim : Int := 16 * (d.thm.resumeAt : Int)
  (List.range 64).all (fun n => !d.flag .THM_SENSn_VALID n ||
    decide ((BitVec.ofNat 16 (d.reg .THM_SENSn_TEMP n)).toInt < lim))

/-- The actions of the present step are complete (R364, R407, R462). -/
def Dev.stepDone (d : Dev) : Bool :=
  match d.step with
  | 1 => true
  | 2 => d.flag .PWR_SUPPLY_VIN_GOOD && d.pin.pwrfailN && decide (d.pin.pwrfailHighAt + 10000000 ≤ d.now) &&
         (!d.thm.critHold || d.dieCool)
  | 3 => bootRails.all (fun r => d.railState r = 2)
  | 4 => d.pdOn 31 && d.pdOn 29 && d.pdOn 32
  | 5 => d.cfg.isSome
  | 6 => d.railsSettled coreRails
  | 7 => d.domainsUp
  | 8 => (List.range 8).all (fun g => d.mpgUp g || (d.reg .PWR_MPG_LATCH).testBit g || d.pwr.mpgFailed.contains g)
  | _ => false

/-- Enter a step: the number, its stamp, and the line held again where the device takes part (R377). -/
def Dev.markStep (d : Dev) (n : Nat) (hold : Bool) : Dev :=
  let d := (d.setReg .PWR_STEP_STEP 0 n).setFlag .PWR_STEP_SQ_WAIT 0 false
  let d := { d with pwr := { d.pwr with stepAt := d.now, ready := false, upTimeoutRaised := false }
                    evt := { d.evt with alertSq := false } }
  d.sqHold (hold && d.sqTakesPart)

/-- The actions of a power-down step as it is entered (R366). -/
def Dev.downActions (d : Dev) (n : Nat) : Dev :=
  match n with
  | 10 => d.each ((List.range d.headCount).map headIx) (fun d ix =>
      if d.ustate ix ∈ [.absent, .off, .failed, .retired] then d else d.setUnit ix .off 6)
  | 11 =>
    let d := d.setReg .PWR_MPG_MPEN 0 0
    d.each ((List.range 64).map packageIx) (fun d ix =>
      if d.ustate ix ∈ [.absent, .off, .failed, .retired] then d else d.setUnit ix .off 6)
  | 12 =>
    let d := d.pdDown 30
    let d := d.each ((List.range 8).map (· + 17)) (fun d nn => d.pdDown nn)
    let d := d.each ((List.range 16).map (· + 1)) (fun d nn => d.pdDown nn)
    let d := d.each ((List.range 128).map linkIx) (fun d ix =>
      if d.ustate ix ∈ [.absent, .off, .failed, .retired] then d else d.setUnit ix .off 6)
    d.each [25, 26, 27, 28] (fun d nn => d.pdDown nn)
  | 13 => ((d.rampDown 2).rampDown 6).rampDown 7
  | 14 =>
    let d := ((d.pdDown 32).pdDown 29).pdDown 31
    d.each [5, 4, 8, 3, 1] (fun d r => d.rampDown r)
  | _ => d

/-- Enter a power-down step; the line is held in steps 10 to 14 (R378). -/
def Dev.enterDown (d : Dev) (n : Nat) : Dev := (d.markStep n (n < 15)).downActions n

/-- Recovery mode keeps the boot power tree alone (R33, R360): media, links, slices, media complexes and stacks lose their
domains, and the core rails go off. -/
def Dev.bootTreeOnly (d : Dev) : Dev :=
  let d := (d.downActions 11).downActions 12
  d.each [2, 6, 7] (fun d r => if d.railState r ∈ [0, 5] then d else d.cutRail r 0)

/-- The rails that step 13 or 14 switches off. -/
def downRails (n : Nat) : List Nat := if n = 13 then [2, 6, 7] else if n = 14 then [5, 4, 8, 3, 1] else []

end Sys2Proof.Machine
end

