-- ==== Sys2Proof/Machine/Quench.lean ====
section
/-!
DEFINITION. The journal's mirror (R258 to R260) and the quench up to its ending (R263 to R267, R475): triggers, the
freeze, and the quench image.
-/
namespace Sys2Proof.Machine

/-! ## Journal -/

/-- A page leaves the dirty set (R260): one copy stays as a clean copy (R474), its through records up to the clean version
die (R257), and no retained image restores it any more (R271). -/
def Dev.cleanPage (d : Dev) (lpn : Nat) (p : TPage) : Dev :=
  let d := d.setPage lpn { p with dirty := false, covered := false, unpers := false, landed := none, image := none
                                  copies := p.copies.take 1 }
  { d with per := { d.per with thru := d.per.thru.filter (fun t => t.lpn ≠ lpn || decide (p.version < t.version)) }
           qch := { d.qch with images := d.qch.images.map (fun (i : QImage) =>
             { i with pages := i.pages.filter (fun s => s.lpn ≠ lpn) }) } }

/-- A quench image is retained while a page restored from it is not clean (R271). -/
def Dev.pruneImages (d : Dev) : Dev :=
  let used := d.tier.filterMap (fun e => e.2.image)
  let d := { d with qch := { d.qch with images := d.qch.images.filter (fun i =>
    used.contains i.id || decide (i.id = d.qch.id && (d.reg .JRN_STATUS_QSTATE ≠ 0 || !d.qch.ranSince))) } }
  d.setFlag .JRN_STATUS_RETAINED 0 (!d.qch.images.isEmpty)

/-- The journal partition is mirrored into the gather zone (R258): pages whose MAP_SET is mirrored leave the dirty set, and
bands that no mirrored entry names are freed (R260). Without a writable gather band the tail stays where it is. -/
def Dev.flushJournal (d : Dev) : Dev :=
  let landed := d.tier.filter (fun e => e.2.dirty && e.2.landed = some e.2.version)
  let d := (d.each landed (fun d e => d.cleanPage e.1 e.2)).trimClean
  let d := d.sweepVictims
  { d with jrn := { d.jrn with mirrored := d.jrn.next, flushedAt := d.now } }.pruneImages

/-! ## Triggers (R263, R264, R368) -/

/-- The ending that a trigger names: 0 power-down, 1 restart, 2 by supply state, 3 system reset (R263). -/
def endingOf (code : Nat) : Nat :=
  if code = 1 || code = 2 then 2 else if code = 7 then 3 else 0

/-- A gather band that quench can write: at least 8 of its 10 members lie in packages that serve, so that a row verifies
(R268, R475). -/
def Dev.canGather (d : Dev) : Bool :=
  !d.onlinePackages.isEmpty &&
  d.med.gather.any (fun b => match d.band b with
    | some x => decide (8 ≤ (d.setDies x.set).countP (fun die => d.serves (packageIx (diePkg die))))
    | none => false)

/-- Background work and write-back programs are abandoned (R154, R180, R265): sources stay authoritative. -/
def Dev.abandonWork (d : Dev) : Dev :=
  let d := d.each (d.med.rows.filter (fun r => r.pages.length = 8)) (fun d r => d.abandonRow r none)
  let d := d.each (d.med.progs.filter (fun p => p.op = 3)) (fun d p =>
    let k := blockKey p.die p.block
    d.setBlock k { d.block k with state := .free })
  -- an operation suspended for a through program goes with the end of that program
  let thru := d.med.progs.filter (·.thru)
  let d := d.each (d.med.dies.filter (fun e => (e.2.op.bind (·.suspended)).isSome && e.2.thru.isNone &&
    !thru.any (fun p => p.die = e.1))) (fun d e => d.resetDie e.1)
  let d := d.each (d.med.rows.flatMap (·.pages)) Dev.metaAgain
  { d with med := { d.med with rows := [], progs := thru, reads := d.med.reads.keep (fun _ r => decide (r.slice < 16)) } }

/-- The freeze begins (R265): T_q is stamped, QUENCH_BEGIN is appended, background work is abandoned. A core reset that runs
is taken over; what its drain left pending stays pending. -/
def Dev.beginQuench (d : Dev) (code ending : Nat) : Dev :=
  let id := d.qch.id + 1
  let d := { d with qch := { d.qch with
    id, trigger := code, ending, tq := d.now, sawReset := decide (code = 7), sawT4 := decide (code = 4), noGather := false
    drainAt := 0, ranSince := false
    vStart := d.per.samples.headD 0 }
                    rst := { d.rst with core := .none } }
  let d := (d.setReg .JRN_STATUS_QSTATE 0 1).setReg .JRN_STATUS_TRIGGER 0 code
  let d := (d.setReg .JRN_QLAST_T_Q 0 d.now).setReg .JRN_DSC_QUENCHES 0 id
  let d := (d.journal 0x0E id code).raise 867 { a := code, c := id }
  (d.abandonSteps (fun _ => true)).abandonWork

/-- DOWN: sequencer steps 10 to 15 (R267). -/
def Dev.goDown (d : Dev) : Dev :=
  let d := d.setReg .JRN_STATUS_QSTATE 0 8
  let d := { d with pwr := { d.pwr with downByT4 := d.qch.sawT4 } }
  d.enterDown 10

/-- A further trigger of a quench that runs (R264): counted; 3, 4 and 6 change the ending to power-down; 7 turns a warm
return into a system reset. -/
def Dev.extraTrigger (d : Dev) (code : Nat) : Dev :=
  let d := d.count .JRN_STATUS_EXTRA_TRIG
  let d := { d with qch := { d.qch with sawReset := d.qch.sawReset || decide (code = 7)
                                        sawT4 := d.qch.sawT4 || decide (code = 4)
                                        ending := if code ∈ [3, 4, 6] then 0 else d.qch.ending } }
  let q := d.reg .JRN_STATUS_QSTATE
  -- HOLD: VIN12 below 10.4 V, or trigger 3, 4 or 6; WARM: trigger 1, 2, 3, 4 or 6
  if (q = 6 && code ∈ [2, 3, 4, 6]) || (q = 7 && code ∈ [1, 2, 3, 4, 6]) then d.goDown else d

/-- A trigger with its ending. Before Memory Active no quench runs: the trigger is recorded and the sequencer goes to step
10 (R368). A system-level source before Memory Active resets at once (R383), which the reset family does. -/
def Dev.triggerWith (d : Dev) (code ending : Nat) : Dev :=
  if d.reg .JRN_STATUS_QSTATE ≠ 0 then d.extraTrigger code
  else if d.memActive then d.beginQuench code ending
  else if 2 ≤ d.step && d.step ≤ 9 && code ≠ 7 then
    let d := d.setReg .JRN_STATUS_TRIGGER 0 code
    let d := { d with pwr := { d.pwr with downByT4 := decide (code = 4) } }
    d.enterDown 10
  else d

/-- A trigger of R263. -/
def Dev.trigger (d : Dev) (code : Nat) : Dev := d.triggerWith code (endingOf code)

/-! ## The drain (R261, R265) -/

/-- All accepted work is complete. -/
def Dev.drained (d : Dev) : Bool :=
  (List.range 16).all (fun k => (d.records k).isEmpty && (d.slice k).ingress.isEmpty && (d.slice k).replayQ.isEmpty) &&
  d.tal.items.isEmpty

/-- Acceptance records still open become PENDING records (R261, R265): those whose effect has not been applied are marked
so, and the slices hold nothing more. -/
def Dev.takePendings (d : Dev) : Dev :=
  let held := (List.range 16).flatMap (fun k =>
    (((d.records k).map (·.2) ++ (d.slice k).replayQ.map (fun x => x.2.2)).map (fun t =>
      { t with applied := t.applied || !t.req.kind.merges })) ++
    ((d.slice k).ingress.map (fun r => { req := r, state := .accepted, seq := 0 : TtEntry })))
  let d := d.each held (fun d t => d.journal 0x0D t.req.rid t.req.stamp t.req.dpa)
  { d with slices := d.slices.map (fun e => (e.1,
             { e.2 with tt := [], int := [], ingress := [], ra := [], pf := [], blog := [], solo := [], replayQ := [] }))
           med := { d.med with reads := [], dies := d.med.dies.map (fun (e : Nat × Die) => (e.1, { e.2 with queue := [] })) }
           tal := { d.tal with items := [] }
           per := { d.per with sheets := d.per.sheets.map (fun (e : Nat × ThruSheet) => (e.1, { e.2 with waiters := [] })) }
           qch := { d.qch with pendings := d.qch.pendings ++ held } }

/-- Through records that no issued sheet holds are dropped; their pages become uncovered (R265 step 4). -/
def Dev.dropUncut (d : Dev) : Dev :=
  let open_ := d.per.sheets.filter (fun e => !e.2.programmed && e.2.dies.isEmpty)
  let gone := d.per.thru.filter (fun t => open_.any (fun e => e.1 = t.sheet))
  let d := d.each gone (fun d t =>
    let p := d.page t.lpn
    if p.covered then (d.setPage t.lpn { p with covered := false }).journal 0x01 t.lpn p.version 0 else d)
  { d with per := { d.per with thru := d.per.thru.filter (fun t => !(open_.any (fun e => e.1 = t.sheet)))
                               sheets := d.per.sheets.filter (fun e => e.2.programmed || !e.2.dies.isEmpty)
                               nextSheet := d.per.nextSheet + 1 } }

/-- Insert by the stamp at which a page became dirty. -/
def insertByAge (x : Nat × TPage) (l : List (Nat × TPage)) : List (Nat × TPage) :=
  match l with
  | [] => [x]
  | y :: r => if x.2.dirtiedAt < y.2.dirtiedAt then x :: y :: r else y :: insertByAge x r

/-- The uncovered dirty pages, oldest dirty first (R266). -/
def Dev.dirtyIndex (d : Dev) : List (Nat × TPage) :=
  (d.tier.filter (fun e => isLpn e.1 && e.2.dirty && !e.2.covered)).foldl (fun l e => insertByAge e l) []

/-- The drain ends (R265, R266): PENDING records are formed, pending tally deltas are folded, the journal tail is flushed
where a gather band can be written, and the image's index is formed. The first SAVED pages are those within B. -/
def Dev.endDrain (d : Dev) : Dev :=
  let d := d.takePendings.foldAll.dropUncut
  let d := { d with qch := { d.qch with drainAt := d.now } }
  let d := d.setReg .JRN_QDUR_DRAIN_US 0 ((d.now - d.qch.tq) / 1000)
  if !d.canGather then
    { d with qch := { d.qch with noGather := true } }.setReg .JRN_STATUS_QSTATE 0 5
  else
    let d := d.flushJournal
    let all := d.dirtyIndex.map (fun e => (e.1, e.2.version))
    let n := d.budget / 4096
    let img : QImage := { id := d.qch.id, trigger := d.qch.trigger, ending := d.qch.ending, tq := d.qch.tq
                          index := all.take n, unsaved := all.drop n }
    ({ d with qch := { d.qch with images := d.qch.images ++ [img] } }).setReg .JRN_STATUS_QSTATE 0 2

/-- Change the image that the quench writes. -/
def Dev.setImage (d : Dev) (f : QImage → QImage) : Dev :=
  { d with qch := { d.qch with images := d.qch.images.map (fun i => if i.id = d.qch.id then f i else i) } }

/-- The image of the newest quench. -/
def Dev.newImage (d : Dev) : Option QImage := d.qch.images.find? (fun i => i.id = d.qch.id)

/-- Every saved page's row is verified (R266, R274): a page with no copy left is named unsaved. -/
def Dev.savePages (d : Dev) : Dev :=
  d.setImage (fun i =>
    let ok := i.index.filter (fun e => !(d.page e.1).copies.isEmpty)
    let lost := i.index.filter (fun e => (d.page e.1).copies.isEmpty)
    { i with index := ok, unsaved := i.unsaved ++ lost
             pages := ok.map (fun e => { lpn := e.1, version := e.2, lines := d.pageLines e.1
                                         written := (d.page e.1).written }) })

/-- The metadata of the image (R266 step 3): persistent queue descriptors with their open frames, the pending-tally
record, PENDING records, the dirty orchard nodes, and the root for the seal. -/
def Dev.saveMeta (d : Dev) : Dev :=
  let (entries, root, d) := d.orcQuench
  let qmeta : QMeta := { queues := d.qen.queues.filter (fun e => d.queuePersist e.1), sets := d.tal.sets
                         pendings := d.qch.pendings, entries }
  d.setImage (fun i => { i with jseq := d.jrn.next - 1, qmeta := some qmeta, root })

/-- Every core rail is good. -/
def Dev.railsUp (d : Dev) : Bool := (bootRails ++ coreRails).all (fun r => d.railState r = 2)

/-- Supply good (R267): PWRFAIL_N high and VIN good, each for at least 10 ms, with every rail still up. -/
def Dev.supplyGood (d : Dev) : Bool :=
  d.pin.pwrfailN && decide (d.pin.pwrfailHighAt + 10000000 ≤ d.now) && d.flag .PWR_SUPPLY_VIN_GOOD && d.railsUp

/-- VIN12 reads below 10.4 V: trigger 2's condition has held since VIN was last good (R356). -/
def Dev.vinLow (d : Dev) : Bool := !d.flag .PWR_SUPPLY_VIN_GOOD

/-- C_eff after a quench that ends by power-down or warm return (R253), in µF: 2 E_used / (HOLD_EFF (V_start² − V_end²)),
from the energy in mJ and the bank voltages in mV. A quench without a seal measures nothing. -/
def Dev.measureC (d : Dev) : Dev :=
  match d.cfg with
  | none => d
  | some c =>
    let den := c.power.holdEff * (d.qch.vStart * d.qch.vStart - d.qch.vEnd * d.qch.vEnd)
    if den = 0 || d.qch.noGather then d else
    let ceff := 2 * d.qch.eUsed * 100 * 1000000000 / den
    let d := { d with per := { d.per with cEff := some ceff } }
    let d := d.setFlag .JRN_HOLDUP_C_MEASURED 0 true
    if c.power.holdC = 0 then d else d.setReg .JRN_HOLDUP_C_EFF_PCT 0 (min 100 (ceff * 100 / c.power.holdC))

end Sys2Proof.Machine
end

