-- ==== Sys2Proof/Machine/Image.lean ====
section
/-!
DEFINITION. The Asben image in use (R24 to R45): validation, boot selection, what an image's coming into force does to
units, segments and stored fields, the classes of a change, the live compatibility check, and the activation.
-/
namespace Sys2Proof.Machine

/-! ## Slots (R30) -/

/-- The state of an image slot: 0 slot A, 1 slot B. -/
def BootS.slotState (b : BootS) (n : Nat) : SlotState := if n = 0 then b.slotA else b.slotB

/-- The digest of a boot record (R30). The order in which the record's fields are digested is open (DESIGN CHOICE, log 87).
-/
def recordDigest (seq : Nat) (a b : SlotState) (npo : Bool) (actSeq : Nat) : List Byte :=
  Config.sha384 (leBytes 8 seq ++ leBytes 1 (Config.slotCode a.ctorIdx) ++ leBytes 1 (Config.slotCode b.ctorIdx) ++
    leBytes 1 (Config.slotCode (if npo then 6 else 0)) ++ leBytes 4 actSeq)

/-- Write the boot record with the next sequence number, over the older of its two copies (R30). -/
def BootS.writeRecord (b : BootS) : BootS :=
  let n := b.recordSeq + 1
  { b with recordSeq := n
           records := b.records.put (n % 2)
             { seq := n, slotA := b.slotA, slotB := b.slotB, npo := b.retainedNpo, actSeq := b.actSeq
               digest := recordDigest n b.slotA b.slotB b.retainedNpo b.actSeq } }

/-- The digest of a copy of the boot record verifies. -/
def BootRec.verifies (r : BootRec) : Bool := r.digest = recordDigest r.seq r.slotA r.slotB r.npo r.actSeq

/-- At boot the copy with the higher sequence number whose digest verifies counts (R30). Without one, the states stay as they
are (DESIGN CHOICE, log 87). -/
def BootS.loadRecord (b : BootS) : BootS :=
  let ok := (b.records.map (·.2)).filter BootRec.verifies
  match ok.find? (fun r => ok.all (fun x => decide (x.seq ≤ r.seq))) with
  | some r => { b with slotA := r.slotA, slotB := r.slotB, retainedNpo := r.npo, actSeq := r.actSeq, recordSeq := r.seq }
  | none => b

/-- Give a slot a state. -/
def BootS.putSlot (b : BootS) (n : Nat) (st : SlotState) : BootS := if n = 0 then { b with slotA := st } else { b with slotB := st }

/-- Set the state of a slot; the boot record is written (R30). -/
def BootS.setSlotState (b : BootS) (n : Nat) (st : SlotState) : BootS := (b.putSlot n st).writeRecord

/-- The retained-image area becomes EMPTY, if it is not; the boot record is written. -/
def BootS.dropRetained (b : BootS) : BootS :=
  if b.retainedNpo then { b with retained := [], retainedNpo := false }.writeRecord else b

/-- The bytes of a candidate: 0 slot A, 1 slot B, 2 the retained-image area. -/
def BootS.bytes (b : BootS) (n : Nat) : List Byte := if n = 0 then b.bytesA else if n = 1 then b.bytesB else b.retained

/-- Replace the bytes of a slot. -/
def BootS.setBytes (b : BootS) (n : Nat) (x : List Byte) : BootS :=
  if n = 0 then { b with bytesA := x } else { b with bytesB := x }

/-! ## Validation (R35) -/

/-- Result codes of R35. -/
def imgOk : Nat := 0
def imgInvalid : Nat := 0x0B
def imgIncompatible : Nat := 0x0C
def imgBusy : Nat := 0x0D
def imgStale : Nat := 0x0E
def imgOrder : Nat := 0x0F
def imgNotStaged : Nat := 0x10

/-- Step 2: the signature, under R26. A revoked slot whose key does not match either gives UNKNOWN_KEY: R35 gives the two no
order (DESIGN CHOICE, log 86). -/
def Dev.checkSignature (d : Dev) (b : List Byte) : Nat :=
  let s := Sys2Proof.slice b (u32 b 0x34) 256
  let k := u8 s 0
  let pub := Sys2Proof.slice s 4 96
  if decide (3 < k) || d.boot.keyHash.find k ≠ some (Config.sha384 pub) then 0x04
  else if d.boot.keyRevoked.contains k then 0x05
  else if Config.ecdsaVerify pub (Sys2Proof.slice s 0x64 96) (Config.sha384 (b.take (u32 b 0x34))) then 0 else 0x06

/-- The serial number that IDENT binds (R439); 0: none. -/
def boundSerial (b : List Byte) : Nat := match sectionOf b 1 with | some s => u64 s 0x48 | none => 0

/-- Validate an image (R35, steps 1 to 8): the result code, the section it names, and the configuration. -/
def Dev.validate (d : Dev) (b : List Byte) : Nat × Nat × Option Cfg :=
  let h := checkHeader b
  let g := d.checkSignature b
  let dir := checkDirectory b
  if h ≠ 0 then (h, 0, none)
  else if g ≠ 0 then (g, 0, none)
  else if u32 b 12 < d.boot.svnFloor then (0x07, 0, none)
  else if !(u32 b 0x14).testBit d.boot.part || (boundSerial b ≠ 0 && boundSerial b ≠ d.boot.serial) then (0x08, 0, none)
  else if dir ≠ 0 then (dir, 0, none)
  else match parseSections b d.pin.headMode with
    | .error n => (imgInvalid, n, none)
    | .ok c => match c.cross d.boot.part with
      | some n => (imgInvalid, n, none)
      | none => (0, 0, some c)

/-! ## Media of the image: segments (R155) -/

/-- The global segments whose LPNs a map entry or a journal record still names (R156): a DIRTY_MARK or MAP_SET newer than the
last CHECKPOINT, or a dirty page that its compact state lists. -/
def Dev.namedSegs (d : Dev) : List Nat :=
  (d.med.map.map (fun e => e.1 / segPages) ++
    (d.jrn.recs.filter (fun r => r.code = 1 || r.code = 2)).map (fun r => r.a / segPages) ++
    (d.tier.filter (fun e => isLpn e.1)).map (fun e => e.1 / segPages)).eraseDups

/-- The lowest global segment that no region uses and that is not named (R156); which free number a segment takes is open
(DESIGN CHOICE, log 88). -/
def freeSeg (m : AMap Nat) (named : List Nat) : Nat :=
  let n := m.length + named.length
  ((List.range (n + 1)).find? (fun s => !(m.any (fun e => e.2 = s)) && !named.contains s)).getD n

/-- Map segments of a region record: main and delta, as keys of the segment table. -/
def Cfg.segKeys (c : Cfg) (r : RegionRec) : List Nat :=
  let main := ceilDiv (c.persistentSize r - r.shadowDelta * 2 ^ 30) (2 ^ 30)
  if !r.persist then [] else
    (List.range main).map (fun i => segKey r.number false i) ++ (List.range r.shadowDelta).map (fun i => segKey r.number true i)

/-- Every persistent region of the image has its segments; segments that exist stay. A released region has none (R65). -/
def Dev.allocSegs (d : Dev) (c : Cfg) : Dev :=
  let keys := (c.regions.filter (fun r => !d.boot.hidden.contains r.number && d.ustate (regionIx r.number) ≠ .retired)).flatMap
    c.segKeys
  let named := d.namedSegs
  let segs := keys.foldl (fun (m : AMap Nat) k => if m.has k then m else m.put k (freeSeg m named)) d.med.segs
  { d with med := { d.med with segs } }

/-! ## Units of the image -/

/-- A unit comes into being (R317). -/
def Dev.bornUnit (d : Dev) (ix : Nat) : Dev := if d.ustate ix = .absent then d.setUnit ix .off 0 else d

/-- A unit ceases to exist (R317). -/
def Dev.dropUnit (d : Dev) (ix : Nat) : Dev := if d.ustate ix = .absent then d else d.setUnit ix .absent 0

/-- Compare the regions of an image with those the journal ran under (R34): a journal region that the image lacks, or has
under another UID, is hidden, with an event where the image is not the one under which the journal last ran, and its unit is
OFF; a released one whose record is gone ceases to exist. -/
def Dev.reconcile (d : Dev) (c : Cfg) : Dev :=
  let uid := fun (n : Nat) => (c.regions.find? (fun r => r.number = n)).map (·.uid)
  let hidden := (d.boot.journalRegions.filter (fun e => uid e.1 ≠ some e.2)).map (·.1)
  let differs := decide (d.boot.journalImage ≠ some c.digests)
  let d := { d with boot := { d.boot with journalImage := some c.digests } }
  let d := d.each hidden (fun d n =>
    let d := if differs then d.raise 2 { unitId := unitIdOf (regionIx n), state := (d.ustate (regionIx n)).code
                                         gen := (d.unit (regionIx n)).gen, b := n } else d
    if d.ustate (regionIx n) ∈ [.off, .retired] then d else d.setUnit (regionIx n) .off 0)
  let known := c.regions.foldl (fun (m : AMap Nat) (r : RegionRec) =>
    if m.has r.number || d.ustate (regionIx r.number) = .retired then m else m.put r.number r.uid) d.boot.journalRegions
  let d := { d with boot := { d.boot with hidden, journalRegions := known } }
  let d := d.each (List.range 64) (fun d n =>
    if d.ustate (regionIx n) = .retired && (uid n).isNone then
      { d.dropUnit (regionIx n) with boot := { d.boot with journalRegions := d.boot.journalRegions.del n } }
    else d)
  let d := d.each c.regions (fun d r => d.bornUnit (regionIx r.number))
  let d := d.each c.groups (fun d g => d.bornUnit (groupIx g))
  d.each (List.range 256) (fun d g => if c.groups.contains g then d else d.dropUnit (groupIx g))

/-- M-links exist as the wiring gives them (R339): all 128. -/
def Dev.bornLinks (d : Dev) (c : Cfg) : Dev :=
  d.each (List.range c.wiring.link.length) (fun d m => d.bornUnit (linkIx m))

/-! ## Stored fields that follow the image -/

/-- Forget stored values, so that the fields read what the image gives. -/
def Dev.unstore (d : Dev) (fs : List Fld) : Dev :=
  let ns := fs.map Fld.num
  { d with regs := d.regs.keep (fun k _ => !ns.contains (k % 1024)) }

/-- The fields that the EVENTS section gives (R417, R418). -/
def eventFields : List Fld :=
  [.EVT_CTL_RATE, .EVT_CTL_MCTP_EID, .EVT_CFGn_EN, .EVT_CFGn_SEV, .EVT_CFGn_ROUTE, .EVT_CFGn_VECTOR]

/-- The fields that the PMCPRESETS section gives (R426). -/
def presetFields : List Fld :=
  [.PMC_CFGn_EVENT, .PMC_CFGn_UNIT, .PMC_CFGn_CLASS, .PMC_CFGn_ENABLE, .PMC_CFGn_CHAIN, .PMC_CFGn_OVF_EVT,
   .PMC_CFGn_SAMPLE, .PMC_GRPg_CTL_CLEAR_ON_SNAP, .PMC_GRPg_CTL_INTERVAL_US]

/-- Keep `n` bytes, zeros added. -/
def fitBytes (l : List Byte) (n : Nat) : List Byte := l.take n ++ zeros (n - l.length)

/-- The label storage area takes the size of IDENT; space added reads as zero (R439). -/
def Dev.fitLsa (d : Dev) (c : Cfg) : Dev :=
  { d with mgt := { d.mgt with lsa := fitBytes d.mgt.lsa (c.ident.lsaKib * 1024) } }

/-- Head h reports the table of a new sequence number (R81). -/
def Dev.bumpCdat (d : Dev) : Dev :=
  d.each (List.range 2) (fun d h => d.setHead h { d.head h with cdatSeq := (d.head h).cdatSeq + 1 })

/-! ## Boot selection (R31 to R33, R43) -/

/-- The slot in force or last in force. -/
def Dev.activeSlot (d : Dev) : Option Nat :=
  if d.boot.slotA = .active then some 0 else if d.boot.slotB = .active then some 1 else none

/-- The candidates of the BOOT_SEL encoding, in order. Under 0b00 with no ACTIVE slot, every PREVIOUS slot is a candidate,
slot A first: the table names 'the other slot' of an ACTIVE one only (DESIGN CHOICE, log 86). -/
def Dev.candidates (d : Dev) : List Nat :=
  let live := fun (n : Nat) => d.boot.slotState n = .active || d.boot.slotState n = .previous
  let kept := if d.boot.retainedNpo then [2] else []
  match d.pin.bootSel with
  | 0 =>
    (match d.activeSlot with
     | some n => [n] ++ (if d.boot.slotState (1 - n) = .previous then [1 - n] else []) ++ kept
     | none => [0, 1].filter (fun n => d.boot.slotState n = .previous) ++ kept)
  | 1 => [0, 1].filter live ++ kept
  | 2 => [1, 0].filter live ++ kept
  | _ => []

/-- Try the candidates: the first that validates; each that fails is marked, with event 0 (R31). -/
def Dev.tryCandidates (d : Dev) (cs : List Nat) : Option (Nat × Cfg) × Dev :=
  match cs with
  | [] => (none, d)
  | n :: rest =>
    match d.validate (d.boot.bytes n) with
    | (_, _, some c) => (some (n, c), d)
    | (code, sec, none) =>
      let d := (d.setReg .IMG_STATUS_LAST_RESULT 0 code).setReg .IMG_STATUS_LAST_SECTION 0 sec
      let d := d.raise 0 { a := n, b := code }
      let boot := if n = 2 then d.boot.dropRetained else d.boot.setSlotState n .invalid
      ({ d with boot }).tryCandidates rest

/-- Recovery mode (R33): no image is in force, and the device leaves the sequencer cooperation. -/
def Dev.recoveryMode (d : Dev) : Dev :=
  let d := { d with cfg := none }
  let d := (d.setReg .IMG_STATUS_ACTIVE_SLOT 0 3).setFlag .IMG_STATUS_RECOVERY 0 true
  ((d.setFlag .PWR_STEP_RECOVERY 0 true).raise 1).sqLeave

/-- The next-power-on sections of one configuration in another (R43). -/
def Cfg.withNpo (c npo : Cfg) : Cfg :=
  let dg := [2, 3, 4, 0xF].foldl (fun (m : AMap (List Byte)) i => m.put i (npo.digests.findD i [])) c.digests
  { c with clock := npo.clock, power := npo.power, seq := npo.seq, digests := dg
           wiring := { npo.wiring with hotAdd := c.wiring.hotAdd } }

/-- The section IDs that differ between two images: digests differ, or only one has the section. -/
def Cfg.changed (old new : Cfg) : List Nat :=
  ((List.range 15).map (· + 1)).filter (fun i => old.digests.find i ≠ new.digests.find i)

/-- The lower of the usable capacities of an image's geometry and of those still being left (R42). -/
def Dev.usableNow (d : Dev) (c : Cfg) : Nat :=
  (d.boot.oldBands.map (fun b => ({ c with band := b } : Cfg).usable)).foldl min c.usable

/-- A BANDGEOM migration ends (R42) when no band of a geometry being left is there. -/
def Dev.checkMigrated (d : Dev) : Dev :=
  if !d.boot.oldBands.isEmpty && d.med.bands.all (fun e => decide (e.2.set < oldSet)) then
    let d := { d with boot := { d.boot with oldBands := [] } }
    (d.raise 4 { b := 5 }).setFlag .IMG_STATUS_ROLLING 0 d.boot.rollTier.isSome
  else d

/-- The geometry in force changes (R42): bands of another ring keep their dies and migrate; bands whose ring is the new one,
left before or not, are of the new geometry. -/
def Dev.setGeometry (d : Dev) (old new : BandCfg) : Dev :=
  if old = new then d else
  let olds := d.boot.oldBands ++ [old]
  let k := olds.length
  let place := fun (j : Nat) =>
    let from_ := if j < oldSet then k else j / oldSet
    if (olds[from_ - 1]?.map (·.ring)) = some new.ring then j % oldSet else from_ * oldSet + j % oldSet
  let bands := d.med.bands.map (fun (e : Nat × Band) => (e.1, { e.2 with set := place e.2.set }))
  let d := { d with boot := { d.boot with oldBands := olds, geometry := some new }, med := { d.med with bands } }
  let d := if old.ring = new.ring then d else
    d.each (d.med.bands.filter (fun e => e.2.state = .opened && decide (oldSet ≤ e.2.set))) (fun d e => d.closeBand e.1 .full)
  d.checkMigrated

/-- An image comes into force at a boot (R31, R34, R43): what it names is set up. The slot in force is ACTIVE. Bands of
another geometry migrate toward the one in force (R44). -/
def Dev.putInForce (d : Dev) (n : Nat) (c : Cfg) : Dev :=
  let npo := if d.pwr.fullUp || n = 2 || !d.boot.retainedNpo then none
             else match parseSections d.boot.retained d.pin.headMode with | .ok x => some x | .error _ => none
  let applied := match npo with | some x => c.withNpo x | none => c
  let boot := if npo.isNone && n ≠ 2 then { d.boot.dropRetained with pendingSections := [] }
              else if n = 2 then { d.boot with pendingSections := [] } else d.boot
  let boot := if n = 2 then boot else
    let b := if boot.slotState (1 - n) = .active then boot.setSlotState (1 - n) .previous else boot
    if b.slotState n = .active then b else b.setSlotState n .active
  let d := { d with cfg := some applied, oldCfgs := []
                    boot := { boot with rollQueue := [], rollTier := none, tierWait := none, locked := true } }
  let d := if npo.isNone then d.setFlag .IMG_STATUS_PENDING 0 false else d
  let d := (d.setReg .IMG_STATUS_ACTIVE_SLOT 0 n).setFlag .IMG_STATUS_RECOVERY 0 false
  let d := d.setReg .PWR_SQ_CTL_TARGET 0 applied.seq.sqTarget
  let d := d.setGeometry (d.boot.geometry.getD applied.band) applied.band
  let d := { d with boot := { d.boot with geometry := some applied.band } }
  let d := d.setFlag .IMG_STATUS_ROLLING 0 (!d.boot.oldBands.isEmpty)
  let d := ((d.reconcile applied).bornLinks applied).allocSegs applied
  d.fitLsa applied

/-- Boot selection (R31), by the boot record that verifies (R30). -/
def Dev.bootSelect (d : Dev) : Dev :=
  let d := { d with boot := d.boot.loadRecord }
  let d := d.setReg .IMG_SEQ_ACT_SEQ 0 d.boot.actSeq
  let cs := d.candidates
  match d.tryCandidates cs with
  | (none, d) => d.recoveryMode
  | (some (n, c), d) => (d.putInForce n c).setFlag .IMG_STATUS_FALLBACK 0 (cs.head? ≠ some n)

/-! ## Classes and the live compatibility check (R38, R39) -/

/-- A change of WIRING that is confined to its hot-add entries is LIVE (R43). -/
def hotAddOnly (old new : Cfg) : Bool := { old.wiring with hotAdd := [] } = { new.wiring with hotAdd := [] }

/-- Classes of a section's change: 0 UNCHANGED, 1 LIVE, 2 ROLLING, 3 PENDING (R29, R38). -/
def sectionClass (old new : Cfg) (id : Nat) : Nat :=
  if !(old.changed new).contains id then 0
  else if id = 4 then (if hotAddOnly old new then 1 else 3)
  else if id ∈ [2, 3, 0xF] then 3
  else if id ∈ [5, 6] then 2 else 1

/-- A region has been released (R65). -/
def Dev.released (d : Dev) (n : Nat) : Bool := d.ustate (regionIx n) = .retired

/-- The refusals of R39 for regions. A record under another UID is another region. ALIAS_POS counts as part of the key-alias
field while ALIAS_W is not 0: R48 ignores it otherwise (DESIGN CHOICE, log 86). -/
def Dev.regionsCompatible (d : Dev) (old new : Cfg) : Bool :=
  old.regions.all (fun r => d.released r.number ||
    (match new.regions.find? (fun x => x.number = r.number) with
     | none => false
     | some x => decide (x.base = r.base) && decide (r.size ≤ x.size) && x.rtype = r.rtype && x.persist = r.persist &&
                 x.setId = r.setId && x.keyBase = r.keyBase && x.aliasW = r.aliasW &&
                 (x.aliasW = 0 || x.aliasPos = r.aliasPos) && x.uid = r.uid)) &&
  decide (new.persistentTotal ≤ min (d.usableNow old) (d.usableNow new))

/-- A queue group is OFF, or does not exist. -/
def Dev.groupIdle (d : Dev) (g : Nat) : Bool := d.ustate (groupIx g) = .off || d.ustate (groupIx g) = .absent

/-- The first section of an image whose live or rolling change R39 refuses. 'The map in use' is the smaller of the segments
in use and the map partition (DESIGN CHOICE, log 86). -/
def Dev.liveRefusal (d : Dev) (old new : Cfg) : Option Nat :=
  let ch := fun (i : Nat) => decide (0 < sectionClass old new i)
  let inUse := min d.med.segs.length old.tier.mapMib
  if ch 5 && !d.boot.oldBands.isEmpty then some 5
  else if ch 6 && (d.boot.rollTier.isSome || decide (new.tier.mapMib < inUse)) then some 6
  else if ch 7 && !d.regionsCompatible old new then some 7
  else if ch 8 && !(old.queueSets.all (fun q => new.queueSets.any (fun x => x.setId = q.setId) ||
      (List.range q.groupCount).all (fun i => d.groupIdle (q.groupFirst + i)))) then some 8
  else if ch 9 && !(old.counterSets.all (fun s =>
      !(old.regions.any (fun r => r.rtype = .counter && r.setId = s.setId && !d.released r.number)) ||
      new.counterSets.any (fun x => x.setId = s.setId && x.count = s.count && x.persist = s.persist))) then some 9
  else if ch 0x0A && !(old.crypto.allocs.all (fun a => (List.range a.count).all (fun i =>
      decide ((d.slot (a.first + i)).st = .empty) || new.crypto.allocs.any (fun b => b.kind = a.kind && b.owner = a.owner &&
        decide (b.first ≤ a.first + i) && decide (a.first + i < b.first + b.count))))) then some 0x0A
  else if decide (min (d.usableNow old) (d.usableNow new) < new.persistentTotal) then some 7
  else none

/-! ## Activation (R38, R40) -/

/-- The region that owns a way under a configuration: none where the ways are pooled (R120). -/
def Cfg.wayOwner (c : Cfg) (w : Nat) : Option Nat :=
  let first := fun (n : Nat) => ((c.regions.filter (fun r => r.number < n)).map (·.ways)).foldl (· + ·) 0
  (c.regions.find? (fun r => decide (first r.number ≤ w) && decide (w < first r.number + r.ways))).map (·.number)

/-- Lines in ways that change owner are invalidated (R40). -/
def Dev.moveWays (d : Dev) (old new : Cfg) : Dev :=
  { d with slices := d.slices.map (fun (e : Nat × SliceS) =>
      (e.1, { e.2 with ways := e.2.ways.keep (fun i _ => old.wayOwner (i % 24) = new.wayOwner (i % 24)) })) }

/-- What a live change does to one region (R63, R64). -/
def Dev.changeRegion (d : Dev) (old new : RegionRec) : Dev :=
  let d := if old.shadow && !new.shadow && (d.shadowOf old.number).state ≠ 0 then
      ((d.dropDelta old).releaseDropped old.number).setReg .RGN_SHADOW_LAST_RESULT old.number resDiscarded else d
  let d := if old.shadow && new.size ≠ old.size then
      d.dropCached (fun n s => n = old.number && decide (old.base + old.size ≤ s * 256)) else d
  let s := d.shadowOf new.number
  -- a fold of an earlier life of the shadow goes on (R60)
  if !old.shadow && new.shadow then d.setShadow new.number { folding := s.folding }
  else if old.shadow && new.shadow && decide (shadowLimit new < s.delta.length) then
    d.setShadow new.number { s with state := 2 }
  else d

/-- Live sections take effect at one instant (R38 step 10, R40). -/
def Dev.applyLive (d : Dev) (old new : Cfg) : Dev :=
  let cls := sectionClass old new
  let dg := ((List.range 15).map (· + 1)).foldl (fun (m : AMap (List Byte)) i =>
    if cls i = 3 then (match old.digests.find i with | some x => m.put i x | none => m)
    else match new.digests.find i with | some x => m.put i x | none => m) []
  let c : Cfg := { new with clock := old.clock, power := old.power, seq := old.seq, tier := old.tier, digests := dg
                            wiring := { old.wiring with hotAdd := new.wiring.hotAdd } }
  let gone := old.regions.filter (fun r => !new.regions.any (fun x => x.number = r.number))
  let d := d.each old.regions (fun d r => match new.regions.find? (fun x => x.number = r.number) with
    | some x => if d.released r.number then d else d.changeRegion r x
    | none => d)
  let lost := old.groups.filter (fun g => !new.groups.contains g)
  let d := d.each lost (fun d g =>
    { d.dropUnit (groupIx g) with qen := { d.qen with queues := d.qen.queues.keep (fun q _ => groupOf q ≠ g) } })
  let d := if old.regions = new.regions then d else d.moveWays old new
  let waits := !d.tal.items.isEmpty || d.slices.any (fun e => !e.2.ingress.isEmpty || !e.2.tt.isEmpty || !e.2.replayQ.isEmpty)
  let d := { d with cfg := some c, oldCfgs := (d.now, old) :: (if waits then d.oldCfgs else []) }
  -- run-ahead buffers are emptied (R114)
  let d := d.each (List.range 16) (fun d k => d.dropAhead k (fun _ => true))
  let d := d.each gone (fun d r =>
    { d.dropUnit (regionIx r.number) with boot := { d.boot with journalRegions := d.boot.journalRegions.del r.number }
                                          shadow := d.shadow.del r.number })
  let fresh := (new.regions.filter (fun r => d.ustate (regionIx r.number) = .absent)).map (fun r => regionIx r.number) ++
    (new.groups.filter (fun g => d.ustate (groupIx g) = .absent)).map groupIx
  -- a hidden region whose number and UID the image carries returns with its data (R34)
  let was := d.boot.hidden
  let d := (d.reconcile c).allocSegs c
  let back := (was.filter (fun n => !d.boot.hidden.contains n)).map regionIx
  let shown := (fresh ++ back).filter (fun ix => !(d.boot.hidden.map regionIx).contains ix)
  let d := if d.memActive then d.each shown Dev.bringUp else d
  let d := { d with tal := { d.tal with sets := d.tal.sets.keep (fun n _ => new.counterSets.any (fun s => s.setId = n)) } }
  -- the epochs of a new set count from T_act (R232)
  let d := d.each (new.counterSets.filter (fun s => !old.counterSets.any (fun x => x.setId = s.setId)))
    (fun d s => d.startEpoch d.now s)
  -- occurrences stamped before T_act keep the event registers as they stood (R417)
  let evs := eventFields.map Fld.num
  let d := if cls 0x0C = 0 then d
    else { d with evt := { d.evt with before := some (d.now, d.regs.keep (fun k _ => evs.contains (k % 1024))) } }.unstore eventFields
  let d := if cls 0x0D = 0 then d else d.unstore presetFields
  let d := if cls 1 = 0 then d else d.fitLsa c
  let d := if cls 7 = 0 then d else d.bumpCdat
  let d := if cls 5 = 0 then d else d.setGeometry old.band new.band
  (d.setReg .IMG_TACT_LO_T_ACT 0 d.now).setReg .IMG_TACT_HI_T_ACT 0 (d.now / 2 ^ 32)

/-- The order in which slices roll (R41): S0, S2, to S14, then S1, S3, to S15. -/
def rollOrder : List Nat := (List.range 8).map (2 * ·) ++ (List.range 8).map (fun i => 2 * i + 1)

/-- The partitions follow the slice pass of a TIERPLAN roll (R41). A partition that shrinks does so at once, the buffer pool
for new cells at least, and one that grows waits until the pool's cells fit its new size; a quench budget that falls, and
with it a shrinking dirty mirror, waits until dirty data lies below it. -/
def Dev.settleTier (d : Dev) : Dev :=
  match d.boot.tierWait, d.cfg with
  | some t, some c =>
    let o := c.tier
    let clean := decide (o.quenchMib ≤ t.quenchMib) || decide (d.uncovered * 4096 < t.quenchMib * 2 ^ 20)
    let freed := decide (d.poolUse ≤ t.poolMib * 4096) && (clean || decide (o.dirtyMib ≤ t.dirtyMib))
    let grow := fun (a b : Nat) => if a < b && !freed then a else b
    let tier := { t with quenchMib := if clean then t.quenchMib else o.quenchMib
                         dirtyMib := if clean then grow o.dirtyMib t.dirtyMib else max o.dirtyMib t.dirtyMib
                         mapMib := grow o.mapMib t.mapMib, poolMib := grow o.poolMib t.poolMib
                         tableMib := grow o.tableMib t.tableMib, tallyMib := grow o.tallyMib t.tallyMib
                         journalMib := grow o.journalMib t.journalMib }
    let d := { d with cfg := some { c with tier }, boot := { d.boot with tierWait := if tier = t then none else some t } }
    if c.tier.tableMib = tier.tableMib then d else d.trimClean
  | _, _ => d

/-- A TIERPLAN roll ends (R41): the partitions follow. -/
def Dev.endRoll (d : Dev) : Dev :=
  match d.boot.rollTier with
  | none => d
  | some t =>
    let d := { d with boot := { d.boot with rollTier := none, rollQueue := [], tierWait := some t } }.settleTier
    (d.raise 4 { b := 6 }).setFlag .IMG_STATUS_ROLLING 0 (!d.boot.oldBands.isEmpty)

/-- Commit an image that passed its checks (R38 steps 7 to 12). In recovery mode there is no image in force: the rest of
the power-up follows under the named one (R33). -/
def Dev.commitImage (d : Dev) (slot : Nat) (new : Cfg) (raiseFloor : Bool) : Dev :=
  let src := d.reg .IMG_STATUS_ACTIVE_SLOT
  let pending := match d.cfg with
    | some old => ((List.range 15).map (· + 1)).filter (fun i => sectionClass old new i = 3)
    | none => []
  let boot : BootS := if d.cfg.isSome && !pending.isEmpty && !d.boot.retainedNpo then
      { d.boot with retained := d.boot.bytes src, retainedNpo := true }.writeRecord
    else if pending.isEmpty then d.boot.dropRetained else d.boot
  let d := { d with boot := boot }
  let d := d.journal 0x05 slot
  let b := if d.boot.slotState (1 - slot) = .active then d.boot.putSlot (1 - slot) .previous else d.boot
  let b := { b.putSlot slot .active with actSeq := (d.reg .IMG_SEQ_ACT_SEQ + 1) % 2 ^ 32 }.writeRecord
  let d := { d with boot := { b with pendingSections := pending } }
  let d := (d.setReg .IMG_SEQ_ACT_SEQ 0 d.boot.actSeq).setReg .IMG_STATUS_ACTIVE_SLOT 0 slot
  let d := d.setFlag .IMG_STATUS_PENDING 0 (!pending.isEmpty)
  let d := match d.cfg with
    | none => ((d.putInForce slot new).setFlag .PWR_STEP_RECOVERY 0 false).raise 3
    | some old =>
      let live := ((List.range 15).map (· + 1)).any (fun i => sectionClass old new i = 1)
      let d := d.applyLive old new
      let d := if live then d.raise 3 else d
      let d := if sectionClass old new 6 = 0 then d else
        if d.memActive then
          { d with boot := { d.boot with rollTier := some new.tier, rollQueue := rollOrder, rollAt := d.now } }
        else ({ d with boot := { d.boot with rollTier := some new.tier } }).endRoll
      d.setFlag .IMG_STATUS_ROLLING 0 (d.boot.rollTier.isSome || !d.boot.oldBands.isEmpty)
  if raiseFloor then { d with boot := { d.boot with svnFloor := max d.boot.svnFloor new.svn } } else d

end Sys2Proof.Machine
end

