-- ==== Sys2Proof/Machine/Restart.lean ====
section
/-!
DEFINITION. What the reset levels clear (R381), and the restart: of a sealed quench (R269, R271), of one without a seal
(R270), and the warm return.
-/
namespace Sys2Proof.Machine

/-! ## Sessions (R37, R440) -/

/-- An interrupted staging session, or an interrupted validation, leaves the slot INVALID (R37). -/
def Dev.breakStaging (d : Dev) : Dev :=
  let hit := fun (b : BootS) (n : Option Nat) => match n with
    | some n => { b.setSlotState n .invalid with stage := none, validating := none }
    | none => b
  let b := hit (hit d.boot (d.boot.stage.map (·.slot))) (d.boot.validating.map (·.1))
  if d.boot.stage.isSome || d.boot.validating.isSome then ({ d with boot := b }).setReg .IMG_STATUS_STAGE_STATE 0 4 else d

/-! ## Head reset (R94, R431) -/

/-- What a head keeps through a reset of it. -/
def HeadS.afterReset (x : HeadS) : HeadS :=
  { perst := x.perst, perstRiseAt := x.perstRiseAt, cdatSeq := x.cdatSeq, trained := x.trained }

/-- Fields of the per-head registers. -/
def headField (f : Fld) : Bool :=
  f ∈ [.GLB_HEAD_LINK_RATE, .GLB_HEAD_LINK_WIDTH, .GLB_HEAD_LINK_FLIT, .GLB_HEAD_LINK_CXL, .GLB_HEAD_LINK_IDE_MEM,
       .GLB_HEAD_LINK_IDE_IO, .GLB_HEAD_LINK_REVERSED, .GLB_HEAD_LOAD_DEVLOAD, .GLB_HEAD_LOAD_OCC_LVL,
       .GLB_HEAD_LOAD_WB_LVL, .GLB_HEAD_LOAD_WEAR_LVL, .GLB_HEAD_LOAD_THERM_LVL]

/-- The functions that an interface holds are released as an interruption (R431): a firmware transfer ends, a Sanitize
belongs to no interface. Staging follows R37, which a head reset does not end. -/
def Dev.releaseIface (d : Dev) (i : Nat) : Dev :=
  let x := match d.mgt.xfer with | some t => if t.iface = i then none else some t | none => none
  { d with mgt := { d.mgt with xfer := x, bg := d.mgt.bg.del i, poisonPos := d.mgt.poisonPos.del i
                               sanitizing := if d.mgt.sanitizing = some i then some 3 else d.mgt.sanitizing } }

/-- Reset a head as a unit (R94, R95). A debug nonce ends with a reset of any level (R444). -/
def Dev.headReset (d : Dev) (h : Nat) : Dev :=
  let d := d.headDrop h
  let d := (d.setHead h (d.head h).afterReset).clearUnitRegs headField h
  let d := d.releaseIface h
  { d with evt := { d.evt with msixOn := setErase d.evt.msixOn h
                               msixMasked := d.evt.msixMasked.filter (fun v => v / 256 ≠ h)
                               msixPending := d.evt.msixPending.filter (fun v => v / 256 ≠ h), policy := d.evt.policy.del h }
           mgt := { d.mgt with nonce := none } }

/-! ## Core reset (R261, R381, R384) -/

/-- What a core reset clears: tracking tables, line caches, buffers and the reads in flight. -/
def Dev.clearCore (d : Dev) : Dev :=
  let d := d.breakStaging
  let d := d.dropCmds (fun c => match c.use with | .grain _ _ => true | .scan _ _ => true | _ => false)
  { d with slices := d.slices.map (fun (e : Nat × SliceS) =>
             (e.1, { e.2 with tt := [], ingress := [], ways := [], hold := [], ra := [], pf := [] }))
           med := { d.med with reads := [] }
           tal := { d.tal with items := [] }
           cry := { d.cry with past := [], sweeps := d.cry.sweeps.map (fun (e : Nat × Sweep) => (e.1, { e.2 with step := none })) }
           pmc := { d.pmc with tags := [], tagged := [] }
           mgt := { d.mgt with xfer := none, fwLoading := none, nonce := none
                               bg := d.mgt.bg.map (fun (e : Nat × BgCmd) =>
                                 (e.1, if e.2.running && d.mgt.sanitizing ≠ some e.1 then { e.2 with running := false } else e.2)) } }

/-- The units that a reset returns to service (R333): recoveries and tests end with it. -/
def Dev.endRecoveries (d : Dev) : Dev :=
  d.each (List.range 222) (fun d ix =>
    if d.ustate ix = .resetting && (decide (unitClass ix ≠ 0) || (d.unit ix).recovery) then d.enterService ix 3 else d)

/-- Accepted requests left at a drain's end are entered again (R259): writes take effect, reads are dropped, and no
completion is sent. -/
def Dev.reenter (d : Dev) (ts : List TtEntry) : Dev :=
  d.each ts (fun d t =>
    if t.req.kind.isRead || t.applied then d
    else (d.effect (sliceOfSector (sectorOf t.req.dpa)) 8192 t.req).2.2)

/-! ## Loss of the DRAM contents (R381) -/

/-- What the mirrored journal says of a page whose newest version is not on media (R270): its newest DIRTY_MARK without a
later clean MAP_SET, as the COVERED flag. Records before the last CHECKPOINT lie in its compact state. -/
def Dev.journalMark (d : Dev) (lpn : Nat) (p : TPage) : Option Bool :=
  match d.jrn.recs.find? (fun r => r.a = lpn && (r.code = 1 || (r.code = 2 && r.c ≠ 0)) && decide (r.seq < d.jrn.mirrored)) with
  | some r => if r.code = 1 then some (decide (r.c ≠ 0)) else none
  | none => if p.dirtiedAt ≤ d.jrn.checkpointAt then some p.covered else none

/-- The saved rows of a quench that ends while PAGES runs: how many had verified is free (R270). -/
def Dev.cutPages (d : Dev) : Dev :=
  if d.reg .JRN_STATUS_QSTATE ≠ 3 then d else
  let (f, d) := d.drawFree 270
  d.setImage (fun i =>
    { i with pages := (i.index.take (f % (i.index.length + 1))).map (fun e =>
        { lpn := e.1, version := e.2, lines := d.pageLines e.1, written := (d.page e.1).written }) })

/-- The DRAM contents and what stood in the domains that a system reset clears are lost (R381). Media, boot store, fuses
and what the journal holds stay. -/
def Dev.clearSystem (d : Dev) : Dev :=
  let d := (d.clearCore).cutPages
  let d := if d.mgt.fwNext.isSome then d.setFlag .MGT_STATUS_FALLBACK 0 false else d
  let marks := d.tier.filterMap (fun e =>
    if isLpn e.1 && e.2.dirty then (d.journalMark e.1 e.2).map (fun c => (e.1, c)) else none)
  let d := d.each (d.med.rows.filter (fun r => r.pages.length = 8)) (fun d r => d.abandonRow r none)
  let d := d.each (d.med.rows.flatMap (·.pages)) Dev.metaAgain
  let dead := (d.per.sheets.filter (fun e => !e.2.programmed)).map (·.1)
  let persist := fun (s : Nat) => ((d.counterSet s).map (·.persist)).getD false
  { d with
    tier := []
    slices := []
    poison := { d.poison with lines := d.poison.lines.keep (fun k _ => isLpn (k / 64)), pages := [] }
    heads := d.heads.map (fun (e : Nat × HeadS) =>
      (e.1, e.2.afterReset))
    med := { d.med with rows := [], reads := [], cmds := [], links := [], remirror := false
                        mapCache := d.med.mapCache.filter (·.dirty)
                        pkgs := d.med.pkgs.map (fun (e : Nat × PkgS) => (e.1, { e.2 with present := false, pwrGood := false, portEn := 0 }))
                        dies := d.med.dies.map (fun (e : Nat × Die) => (e.1, { e.2 with op := none, thru := none, freeAt := 0, home := none })) }
    qen := { queues := d.qen.queues.filter (fun e => d.queuePersist e.1), journalled := d.qen.journalled }
    tal := { sets := d.tal.sets.keep (fun s _ => persist s) }
    per := { thru := d.per.thru.filter (fun t => !dead.contains t.sheet), nextSheet := d.per.nextSheet + 1
             thruSeq := d.per.thruSeq }
    pmc := {}
    cry := { d.cry with sweeps := d.cry.sweeps.map (fun (e : Nat × Sweep) => (e.1, { e.2 with step := none })), regraft := none
                        orc := { d.cry.orc with cache := [] } }
    boot := { d.boot with locked := false }
    ust := { d.ust with snaps := [], kept := [] }
    mgt := { d.mgt with spdm := false, spdmSecret := 0, bg := [], sanitizing := d.mgt.sanitizing.map (fun _ => 3)
                        fwActive := d.mgt.fwNext.getD d.mgt.fwActive, fwNext := none
                        fwUnproved := d.mgt.fwNext.isSome || d.mgt.fwUnproved, fwDown := false }
    rst := { d.rst with core := .none }
    qch := { d.qch with lostDirty := if d.tier.isEmpty then d.qch.lostDirty else marks, pendings := [] } }

/-! ## Restore -/

/-- Restore a page from a saved copy: the newer version decides (R271). Restored pages count as covered (R269). -/
def Dev.restorePage (d : Dev) (id : Nat) (s : SavedPage) : Dev :=
  let p := d.page s.lpn
  if s.version < p.version || (p.dirty && s.version = p.version) || d.mapEntry s.lpn = mapPoisoned then d
  else
    let (st, d) := d.pickStacks 2
    d.setPage s.lpn { lines := s.lines, dirty := true, covered := true, version := s.version, dirtiedAt := d.now
                      copies := st, written := s.written, usedAt := d.now, image := some id }

/-- Apply every retained image, oldest first (R271). -/
def Dev.applyImages (d : Dev) : Dev :=
  d.each d.qch.images (fun d i => d.each i.pages (fun d s => d.restorePage i.id s))

/-- Apply the live through records (R257, R269 step 5), in their order. -/
def Dev.applyThrough (d : Dev) : Dev :=
  d.each d.per.thru (fun d t =>
    let p := d.page t.lpn
    if t.version ≤ p.version then d
    else
      let (st, d) := if p.copies.isEmpty then d.pickStacks 2 else (p.copies, d)
      d.setPage t.lpn { p with lines := p.lines.put t.sub t.cell, dirty := true, covered := true, version := t.version
                               dirtiedAt := if p.dirty then p.dirtiedAt else d.now, copies := st
                               written := setInsert p.written t.sub, usedAt := d.now })

/-- Scan a persistent queue's ring from its journalled head (R229): the frames taken, the next cell. -/
def Dev.scanRing (d : Dev) (q total fuel cell seq : Nat) : List Frame × Nat × Dev :=
  match fuel with
  | 0 => ([], cell, d)
  | n + 1 =>
    match d.ringPlace q cell 0 with
    | none => ([], cell, d)
    | some (pid, sub) =>
      match d.lineVal pid sub (d.queueKey q) with
      | (.data l, d) =>
        let len := lineAt l 0 2
        if len = 0 || decide (16128 < len) || lineAt l 4 4 ≠ seq then ([], cell, d)
        else
          let bad := ((List.range (frameLines len)).filter (fun k => k ≠ 0 && (match d.ringPlace q cell k with
            | some (p, s) => (match (d.lineVal p s (d.queueKey q)).1 with | .data _ => false | _ => true)
            | none => true)))
          let flags := lineAt l 2 1 ||| (if bad.isEmpty then 0 else 2)
          let f : Frame := { len, user := lineAt l 3 1, flags, seq, stamp := lineAt l 8 8, bad, cell }
          let (fs, c, d) := d.scanRing q total n ((cell + frameCells len) % max total 1) ((seq + 1) % 2 ^ 32)
          (f :: fs, c, d)
      | (_, d) => ([], cell, d)

/-- A persistent queue after a restart without a seal (R229). -/
def Dev.rescanQueue (d : Dev) (q : Nat) : Dev :=
  match d.setOfQueue q with
  | none => d
  | some s =>
    let (hs, ts, hc) := d.qen.journalled.findD q (0, 0, 0)
    let total := s.ringPages * 16
    let (fs, cell, d) := d.scanRing q total total hc hs
    let x := d.queue q
    let d := d.setQueue q { x with headSeq := hs, tailSeq := (hs + fs.length) % 2 ^ 32, frames := fs, asm := .idle
                                   ringTail := cell, newest := (fs.getLast?.map (·.stamp)).getD x.newest }
    if fs.length < (ts + 2 ^ 32 - hs) % 2 ^ 32 then d.strand q else d

/-- Persistent regions of the image in force. -/
def Dev.persistentRegions (d : Dev) : List RegionRec :=
  ((d.cfg.map (·.regions)).getD []).filter (fun r => r.persist && !d.boot.hidden.contains r.number)

/-- One restart: the dirty shutdown count (R272) and the change of health that Get Health Info reports (R198). -/
def Dev.dirtyShutdown (d : Dev) : Dev := { d with dirtyShutdowns := d.dirtyShutdowns + 1 }.raise 40

/-- The newest quench is sealed, and the device has not run since it began. -/
def Dev.sealedRestart (d : Dev) : Bool := !d.qch.ranSince && d.qch.sealedId = some d.qch.id

/-- A frame that was open resumes its tail timeout from Memory Active (R229). -/
def restampOpen (now : Nat) (x : QDesc) : QDesc :=
  match x.asm with
  | .opened f => { x with asm := .opened { f with openedAt := now } }
  | .dropping _ t l => { x with asm := .dropping now t l }
  | .idle => x

/-- Restart after a sealed quench, steps 3 to 6 of R269. -/
def Dev.restoreSealed (d : Dev) : Dev :=
  let d := d.applyImages
  match d.newImage with
  | none => d.applyThrough
  | some i =>
    let d := match i.qmeta with
      | none => d
      | some m =>
        let d := { d with qen := { d.qen with queues := m.queues.map (fun (e : Nat × QDesc) => (e.1, restampOpen d.now e.2)) }
                          tal := { d.tal with sets := d.tal.sets.map (fun (e : Nat × TalSet) =>
                            (e.1, m.sets.findD e.1 e.2)) } }
        let d := d.orcRestore m.entries i.root
        d.reenter m.pendings
    let d := d.applyThrough
    let d := d.each i.unsaved (fun (d : Dev) (e : Nat × Nat) => d.losePage e.1 868)
    if i.unsaved.isEmpty then d else d.dirtyShutdown

/-- Restart without a valid seal (R270): the orchard is re-based (R301). -/
def Dev.restoreUnsealed (d : Dev) : Dev :=
  let d := d.orcRebase.dirtyShutdown.applyImages.applyThrough
  let index : Option QImage := if d.qch.ranSince then none else d.newImage.filter (·.indexEnd)
  let d := match index with
    | some i =>
      let d := d.each (i.index.filter (fun (e : Nat × Nat) => !i.pages.any (fun s => s.lpn = e.1)))
        (fun (d : Dev) (e : Nat × Nat) => d.losePage e.1 868)
      d.each i.unsaved (fun (d : Dev) (e : Nat × Nat) => d.losePage e.1 868)
    | none =>
      let d := d.each (d.qch.lostDirty.filter (fun (e : Nat × Bool) => !e.2)) (fun (d : Dev) (e : Nat × Bool) => d.losePage e.1 868)
      d.each d.persistentRegions (fun d r => d.raise 869 { dpa := r.base, heads := d.regionHeads r.number })
  let d := { d with tal := { d.tal with sets := d.tal.sets.map (fun (e : Nat × TalSet) =>
    (e.1, { e.2 with copy := none, at_ := none })) } }
  let d := d.each (AMap.keys d.qen.queues) Dev.rescanQueue
  d.each d.persistentRegions (fun d r => d.raise 804 { dpa := r.base, heads := d.regionHeads r.number })

/-- Groups of counters that start at Memory Active run (R426). -/
def Dev.startPresets (d : Dev) : Dev :=
  match d.cfg.map (·.presets) with
  | some (some ps) => d.each (ps.filter (·.start)) (fun d p => d.setRun p.group true)
  | some none => d.setRun 31 true
  | none => d

/-- The restart at step 9 (R269, R270). A device that has never run has nothing to restore. -/
def Dev.restore (d : Dev) : Dev :=
  let d := if !d.qch.ranSince && d.qch.id = 0 then d
    else if d.sealedRestart then d.restoreSealed else d.restoreUnsealed
  let d := { d with qch := { d.qch with ranSince := true, lostDirty := [] } }
  d.startRegions.startPresets.pruneImages

/-- The restore of a warm return (R269): pages keep their DRAM copies and count as restored from the quench's image;
pages named unsaved are lost; without a seal every page and the journal stay in place (R475). -/
def Dev.restoreWarm (d : Dev) : Dev :=
  if d.qch.noGather then { d.reenter d.qch.pendings with qch := { d.qch with ranSince := true, pendings := [] } }
  else match d.newImage with
    | none => { d with qch := { d.qch with ranSince := true } }
    | some i =>
      let d := d.each i.pages (fun d s =>
        let p := d.page s.lpn
        if p.dirty then d.setPage s.lpn { p with covered := true, image := some i.id } else d)
      let d := d.reenter ((i.qmeta.map (·.pendings)).getD [])
      let d := d.each i.unsaved (fun (d : Dev) (e : Nat × Nat) => d.losePage e.1 868)
      let d := if i.unsaved.isEmpty then d else d.dirtyShutdown
      { d with qch := { d.qch with ranSince := true } }.pruneImages

end Sys2Proof.Machine
end

