-- ==== Sys2Proof/Machine/Clocks.lean ====
section
/-!
DEFINITION. Clock sources and PLLs (R389 to R395): the boot plan, CLOCKPLAN, fallbacks and switches, and the timebase
read (R398). PLLs are numbered 0 for PLL_A to 5 for PLL_F; sources have the codes of R389.
-/
namespace Sys2Proof.Machine

/-- A clock source is ready. -/
def Dev.srcReady (d : Dev) (c : Nat) : Bool := (d.reg .CLK_SRC_READY_SRC).testBit c

/-- The reference of a PLL. -/
def Dev.pllRef (d : Dev) (p : Nat) : Nat := bits (d.reg .CLK_SRC_SEL_PLL_REF) (2 * p) 2

/-- Write the reference of a PLL; CLK_STATUS.TB_COARSE follows PLL_F (R394). -/
def Dev.setPllRef (d : Dev) (p c : Nat) : Dev :=
  let v := d.reg .CLK_SRC_SEL_PLL_REF
  let d := d.setReg .CLK_SRC_SEL_PLL_REF 0 (v - d.pllRef p * 4 ^ p + c * 4 ^ p)
  d.setFlag .CLK_STATUS_TB_COARSE 0 (d.pllRef 5 = 0)

/-- A PLL is off until step 7 (R392). -/
def Dev.pllOn (d : Dev) (p : Nat) : Bool := !d.clk.off.contains p

/-- A PLL starts to switch to a reference: holdover, then relock (R393). A PLL that is off takes the reference alone. -/
def Dev.switchPll (d : Dev) (p c : Nat) : Dev :=
  let d := d.setPllRef p c
  if !d.pllOn p then d else
  let d := { d with clk := { d.clk with holdover := setInsert d.clk.holdover p, switching := setInsert d.clk.switching p
                                        relocking := d.clk.relocking.del p } }
  (d.setFieldBit .CLK_SRC_READY_LOCK 0 p false).setFlag .CLK_STATUS_SWITCHING 0 true

/-- PLL numbers. -/
def pllNumbers : List Nat := [0, 1, 2, 3, 4, 5]

/-- The boot plan (R392): PLL_F takes XTAL0, or FOSC; PLL_A REFCLK, or PLL_F's reference; PLL_C PLL_F's reference; the
others are off; WCLK is FOSC / 8. -/
def Dev.bootClocks (d : Dev) : Dev :=
  let f := if d.srcReady 1 then 1 else 0
  let a := if d.srcReady 3 then 3 else f
  let d := { d with clk := { off := [1, 3, 4] } }
  let d := ((d.setPllRef 0 a).setPllRef 2 f).setPllRef 5 f
  let d := (d.setReg .CLK_SRC_READY_LOCK 0 0x25).setFlag .CLK_STATUS_SWITCHING 0 false
  d.setFlag .CLK_SRC_SEL_WCLK_SOSC 0 false

/-- The reference that CLOCKPLAN gives a PLL: the primary, the alternative, or FOSC, by readiness (R391, R394). -/
def Dev.planRef (d : Dev) (c : ClockCfg) (p : Nat) : Nat :=
  let ok := fun (s : Nat) => d.srcReady s && (s ≠ 3 || c.refclkUse = 1)
  match c.plls[p]? with
  | none => 0
  | some r => if ok r.refPri then r.refPri else if r.refAlt ≤ 3 && ok r.refAlt then r.refAlt else 0

/-- CLOCKPLAN takes effect at step 5 of a full power-up (R392). -/
def Dev.applyClockPlan (d : Dev) : Dev :=
  match d.cfg with
  | none => d
  | some c =>
    let d := d.each pllNumbers (fun d p =>
      let r := d.planRef c.clock p
      if r = d.pllRef p then d else d.switchPll p r)
    d.setFlag .CLK_SRC_SEL_WCLK_SOSC 0 (c.clock.wclkSrc = 1)

/-- PLL_B, PLL_D and PLL_E run from step 7 (R392). -/
def Dev.startPlls (d : Dev) : Dev :=
  let late := d.clk.off
  let d := { d with clk := { d.clk with off := [] } }
  d.each late (fun d p => d.setFieldBit .CLK_SRC_READY_LOCK 0 p true)

/-- A PLL loses its reference (R394): it holds over and falls back to REF_ALT if that is ready, otherwise to FOSC. -/
def Dev.fallBack (d : Dev) (p : Nat) : Dev :=
  let alt := match d.cfg with
    | some c => (match c.clock.plls[p]? with
      | some r => if r.refAlt ≤ 3 && d.srcReady r.refAlt && (r.refAlt ≠ 3 || c.clock.refclkUse = 1) then r.refAlt else 0
      | none => 0)
    | none => 0
  ((d.switchPll p alt).setFieldBit .CLK_STATUS_FALLBACK 0 p true).raise 24 { a := p }

/-! ## Commands -/

/-- A source becomes ready (R389). While the boot plan waits for XTAL0, PLL_F takes it (R392). -/
def execClockSourceReady (source : Nat) (s : State) : Out := s.on fun d =>
  d.when (decide (source ≤ 4)) fun d =>
    let d := d.setFieldBit .CLK_SRC_READY_SRC 0 source true
    if source = 1 && decide (d.reg .PWR_STEP_STEP < 4) then
      (d.setPllRef 5 1).setFieldBit .CLK_SRC_READY_LOCK 0 5 true
    else d

/-- A source stops being ready (R394): the PLLs on it fall back; without FOSC, WCLK moves to SOSC. -/
def execClockSourceLost (source : Nat) (s : State) : Out := s.on fun d =>
  d.when (decide (source ≤ 4)) fun d =>
    let d := d.setFieldBit .CLK_SRC_READY_SRC 0 source false
    let d := if source = 0 then d.setFlag .CLK_SRC_SEL_WCLK_SOSC 0 true else d
    -- PLL_F runs from power-on, the others from step 4 on (R390)
    d.each (pllNumbers.filter (fun p => d.pllOn p && d.pllRef p = source && (p = 5 || decide (4 ≤ d.reg .PWR_STEP_STEP))))
      Dev.fallBack

/-- A PLL loses lock while its reference is ready (R395): its domains are gated while it relocks, and requests they delay
carry cause FAULT (code 1 of R147). The timebase's holdover counter bridges PLL_F. -/
def execPllLockLoss (pll : Nat) (s : State) : Out := s.on fun d =>
  d.when (decide (pll < 6) && d.pllOn pll && (d.reg .CLK_SRC_READY_LOCK).testBit pll && d.srcReady (d.pllRef pll)) fun d =>
    let d := { d with clk := { d.clk with relocking := d.clk.relocking.put pll d.now } }
    let d := d.setFieldBit .CLK_SRC_READY_LOCK 0 pll false
    if pll = 5 then d else
    { d with slices := d.slices.map (fun (e : Nat × SliceS) =>
        (e.1, { e.2 with tt := e.2.tt.map (fun (t : Nat × TtEntry) =>
          if t.2.state = .done then t else (t.1, { t.2 with cause := t.2.cause ||| 2 })) })) }

/-- It relocks in time (R395). -/
def execPllRelocked (pll : Nat) (s : State) : Out := s.on fun d =>
  d.when (d.clk.relocking.has pll) fun d =>
    let d := { d with clk := { d.clk with relocking := d.clk.relocking.del pll } }
    ((d.setFieldBit .CLK_SRC_READY_LOCK 0 pll true).count .CLK_STATUS_RELOCKS).raise 25 { a := pll }

/-- A write of CLK_SRC_SEL (R393): BUSY while a switch runs, REFUSED when a named source is not ready; REFCLK is a reference
of PLL_A alone (R389). -/
def Dev.selectClocks (d : Dev) (value : Nat) : Dev :=
  let ref := fun (p : Nat) => bits value (2 * p) 2
  if d.flag .CLK_STATUS_SWITCHING then d.setReg .CLK_STATUS_LAST 0 2
  else if pllNumbers.all (fun p => d.srcReady (ref p) && (ref p ≠ 3 || p = 0)) &&
      d.srcReady (if value.testBit 12 then 4 else 0) then
    let d := d.setReg .CLK_STATUS_LAST 0 0
    let d := d.setFlag .CLK_SRC_SEL_WCLK_SOSC 0 (value.testBit 12)
    d.each (pllNumbers.filter (fun p => ref p ≠ d.pllRef p)) (fun d p => d.switchPll p (ref p))
  else d.setReg .CLK_STATUS_LAST 0 1

/-- CLK_SRC_SEL_WRITE. -/
def execClkSrcSelWrite (value : Nat) (s : State) : Out := s.on (·.selectClocks value)

/-- A PLL has locked to its new reference and leaves holdover (R393). -/
def execPllSwitchDone (pll : Nat) (s : State) : Out := s.on fun d =>
  d.when (d.clk.switching.contains pll) fun d =>
    let d := { d with clk := { d.clk with switching := setErase d.clk.switching pll
                                          holdover := setErase d.clk.holdover pll } }
    let d := d.setFieldBit .CLK_SRC_READY_LOCK 0 pll true
    d.setFlag .CLK_STATUS_SWITCHING 0 (!d.clk.switching.isEmpty)

/-- A read of CLK_TB_LO latches the upper half into CLK_TB_HI (R398). -/
def execClkTbLoRead (s : State) : Out := s.on fun d =>
  (d.emit (.regRead (d.now % 2 ^ 32))).setReg .CLK_TB_HI_TB_HI 0 (d.now / 2 ^ 32)

end Sys2Proof.Machine
end

