-- ==== Sys2Proof/Machine/Health.lean ====
section
/-!
DEFINITION. The health that the device reports (R168, R198, R199) and the Memory Module Event that a change of it raises.
-/
namespace Sys2Proof.Machine

/-- Dense blocks neither retired nor absent (R168). -/
def Dev.liveBlocks (d : Dev) : Nat :=
  d.allBlocks - d.med.blocks.countP (fun e => (e.2.state = .retired || e.2.state = .absent) && d.ring.contains (e.1 / 1024))

/-- Blocks needed to hold the usable capacity in bands (R168): usable / (0.8 × 16 MiB), rounded up. -/
def Dev.neededBlocks (d : Dev) : Nat := ceilDiv (((d.cfg.map d.usableNow).getD 0) * 10) (8 * 2 ^ 24)

/-- The spare level (R168), as a share in units of 2^-32. -/
def Dev.spareLevel (d : Dev) : Nat := (d.liveBlocks - d.neededBlocks) * 2 ^ 32 / max 1 d.liveBlocks

/-- SPARE_PCT (R199): 100 before the initial spare is taken. -/
def Dev.sparePct (d : Dev) : Nat := if d.med.initSpare = 0 then 100 else min 100 (100 * d.spareLevel / d.med.initSpare)

/-- LIFE_USED (R199). -/
def Dev.lifeUsed (d : Dev) : Nat :=
  let wear := (d.med.blocks.filter (fun e => e.2.state ≠ .retired && e.2.state ≠ .absent)).foldl (fun a e => a + e.2.wear) 0
  min 100 (max (100 * wear / (max 1 d.liveBlocks * 10 ^ 8)) (100 - d.sparePct))

/-- The hottest valid die sensor and its temperature in 1/16 °C: the lowest index at a tie. -/
def Dev.hottestDie (d : Dev) : Option (Nat × Int) :=
  (List.range 64).foldl (fun a n =>
    if d.flag .THM_SENSn_VALID n then
      let t := signed16 (d.reg .THM_SENSn_TEMP n)
      match a with
      | some (m, u) => if u < t then some (n, t) else some (m, u)
      | none => some (n, t)
    else a) none

/-- The device temperature in °C (R198). -/
def Dev.deviceTemp (d : Dev) : Int := match d.hottestDie with | some (_, t) => t / 16 | none => 0

/-- The critical temperature state of R199: 0 normal, 1 over, 2 under. -/
def Dev.tempState (d : Dev) : Nat :=
  if d.hottestDie.isNone then 0
  else if 105 ≤ d.deviceTemp then 1
  else if d.deviceTemp ≤ (if d.boot.part = 2 then 0 else -40) then 2
  else 0

/-- A band is overdue (R191). -/
def Dev.anyOverdue (d : Dev) : Bool := d.med.bands.any (fun e => d.bandOverdue e.2)

/-- Maintenance Needed (R198). -/
def Dev.maintenance (d : Dev) : Bool :=
  decide (d.sparePct ≤ 25) || d.flag .GLB_WEAR_STAT_DEBT || d.anyOverdue ||
  (List.range 64).any (fun p => d.ustate (packageIx p) = .failed || d.ustate (packageIx p) = .draining)

/-- Performance Degraded (R198). -/
def Dev.perfDegraded (d : Dev) : Bool :=
  d.ust.units.any (fun e => e.2.state = .degraded) ||
  (List.range 64).any (fun p => (d.pkg p).denseClosed) ||
  d.ring.any (fun die => !d.dieHolds die || !(d.pkg (diePkg die)).rebuilt)

/-- Hardware Replacement Needed (R198). -/
def Dev.replacement (d : Dev) : Bool :=
  decide (d.sparePct ≤ 10) || (List.range 64).any (fun p => d.ustate (packageIx p) = .failed && (d.pkg p).rebuilt)

/-- Health Status: bit 0 Maintenance Needed, 1 Performance Degraded, 2 Hardware Replacement Needed. -/
def Dev.healthStatus (d : Dev) : Nat := b2n d.maintenance + 2 * b2n d.perfDegraded + 4 * b2n d.replacement

/-- Media Status: 0 Normal, 3 Write Persistency Lost, 4 Write Persistency Loss Imminent (R198; the codes are the
standard's). -/
def Dev.mediaStatus (d : Dev) : Nat :=
  if d.flag .DRT_PDEG_ACTIVE then 3 else if d.sparePct ≤ 10 then 4 else 0

/-- Run an operation, and raise the Memory Module Event where it changes what health reports (R198). A change of the dirty
shutdown count raises it where it happens. -/
def Dev.watchHealth (d : Dev) (f : Dev → Dev) : Dev :=
  let h := fun (x : Dev) => (x.healthStatus, x.lifeUsed, x.spareLevel, x.tempState)
  let d' := f d
  if h d' = h d then d' else d'.raise 40

/-- A command that may change the device's health. -/
def State.onHealth (s : State) (f : Dev → Dev) : Out := s.on (fun d => d.watchHealth f)

/-- Raise the failure event of bands that have become overdue (R191). -/
def Dev.checkOverdue (d : Dev) : Dev :=
  d.each (d.med.bands.filter (fun e => !e.2.overdue && d.bandOverdue e.2)) (fun d e =>
    (d.setBand e.1 { e.2 with overdue := true }).raise 871 { b := d.validCount e.1 })

end Sys2Proof.Machine
end

