-- ==== Sys2Proof/Machine/Thermal.lean ====
section
/-!
DEFINITION. Thermal management (R400 to R409): sensors, throttle fractions, THERM_N and THROT_N, the critical response,
and what a package's temperature does to doses and write windows (R184, R195 to R197). Temperatures are in 1/16 °C.
-/
namespace Sys2Proof.Machine

/-! ## Samples -/

/-- A sensor's last sample. -/
def Dev.sensorTemp (d : Dev) (n : Nat) : Int := signed16 (d.reg .THM_SENSn_TEMP n)

/-- The THERMAL record of a sensor's group; the defaults of R408 while no image is in force. -/
def Dev.thermGroup (d : Dev) (n : Nat) : ThermGroup :=
  match d.cfg with
  | some c => if n < 64 then c.thermal.die else if n < 80 then c.thermal.dram else c.thermal.media
  | none => if n < 64 then { round := false, slope := 10, tStart := 95, tWarn := 100 }
            else if n < 80 then { round := false, slope := 10, tStart := 85, tWarn := 95 }
            else { round := true, slope := 10, tStart := 80, tWarn := 90 }

/-- The throttle fraction of a temperature (R403), in 0.1 % units, truncated. -/
def throttleOf (g : ThermGroup) (t : Int) : Nat := min 900 ((g.slope * 10 * (t - 16 * g.tStart).toNat) / 16)

/-- The hottest valid sensor of a list. -/
def Dev.hottest (d : Dev) (ns : List Nat) : Option Int :=
  ns.foldl (fun a n => if d.flag .THM_SENSn_VALID n then some (match a with | some t => max t (d.sensorTemp n) | none => d.sensorTemp n)
                       else a) none

/-- The sensors that stand in for a failed one (R402): those of the same slice or stack. -/
def sensorPeers (n : Nat) : List Nat :=
  if n < 48 then [n / 3 * 3, n / 3 * 3 + 1, n / 3 * 3 + 2]
  else if n < 64 then []
  else (List.range 4).map (fun i => n / 4 * 4 + i)

/-- The temperature that counts for a die or DRAM sensor (R402): its own; for a failed one the hottest valid peer, or the
hottest of the group plus 5 °C. Shared die sensors have no replacement. -/
def Dev.countedTemp (d : Dev) (n : Nat) : Option Int :=
  if d.flag .THM_SENSn_VALID n then some (d.sensorTemp n)
  else if !d.flag .THM_SENSn_FAILED n || (decide (56 ≤ n) && decide (n < 64)) then none
  else match d.hottest (sensorPeers n) with
    | some t => some t
    | none => (d.hottest (if n < 64 then List.range 64 else (List.range 16).map (· + 64))).map (· + 80)

/-! ## Fractions in force (R403) -/

/-- The fractions of a list of sensors. -/
def Dev.maxFrac (d : Dev) (ns : List Nat) : Nat := ns.foldl (fun a n => max a (d.reg .THM_SENSn_FRAC n)) 0

/-- The shared die sensors. -/
def sharedSensors : List Nat := (List.range 8).map (· + 56)

/-- The complexes that hold the queues of a package's dies (R341). -/
def Dev.packageComplexes (d : Dev) (p : Nat) : List Nat :=
  ((List.range d.diesPerPkg).filterMap (fun i => d.homeLink (p * 16 + i))).map linkComplex

/-- Recompute every fraction in force. -/
def Dev.updateThrottle (d : Dev) : Dev :=
  let d := d.each (List.range 80) (fun d n =>
    d.setReg .THM_SENSn_FRAC n (match d.countedTemp n with | some t => throttleOf (d.thermGroup n) t | none => 0))
  let ext := d.thm.fExt
  let shared := max ext (d.maxFrac sharedSensors)
  let dram := d.maxFrac ((List.range 16).map (· + 64))
  let sl := (List.range 16).map (fun k => (k, max (max shared dram) (d.maxFrac [3 * k, 3 * k + 1, 3 * k + 2])))
  let cx := (List.range 8).map (fun n => (n, max shared (d.maxFrac [48 + n])))
  let frac := fun (n : Nat) => (cx.map (·.2)).getD n 0
  let pk := (List.range 64).map (fun p =>
    (p, (d.packageComplexes p).foldl (fun a n => max a (frac n)) (d.maxFrac [80 + p])))
  let dev := sl.foldl (fun a e => max a e.2) 0
  let mask := fun (l : List (Nat × Nat)) => l.foldl (fun m e => if e.2 = 0 then m else m + 2 ^ e.1) 0
  let d := { d with thm := { d.thm with sliceF := sl.filter (fun e => e.2 ≠ 0), complexF := cx.filter (fun e => e.2 ≠ 0)
                                        packageF := pk.filter (fun e => e.2 ≠ 0) }
                    per := { d.per with thermPeak := max d.per.thermPeak dev } }
  ((d.setReg .THM_THROT_DEVICE 0 dev).setReg .THM_THROT_SLICES 0 (mask sl)).setReg .THM_THROT_COMPLEXES 0 (mask cx)

/-- F_EXT takes a value (R406). -/
def Dev.setExt (d : Dev) (f : Nat) : Dev :=
  ({ d with thm := { d.thm with fExt := f } }.setFlag .THM_EXT_ACTIVE 0 (f ≠ 0)).updateThrottle

/-! ## THERM_N (R405) -/

/-- THERM_N goes low at T_WARN and is released below T_WARN - 2 °C; a thermal-critical trigger holds it. -/
def Dev.updateTherm (d : Dev) : Dev :=
  let valid := (List.range 144).filter (fun n => d.flag .THM_SENSn_VALID n)
  let hot := valid.any (fun n => decide (16 * (d.thermGroup n).tWarn ≤ d.sensorTemp n))
  let cool := valid.all (fun n => decide (d.sensorTemp n < 16 * ((d.thermGroup n).tWarn - 2)))
  let low := d.thm.critHold || hot || (d.thm.thermLow && !cool)
  { d with thm := { d.thm with thermLow := low } }.setFlag .THM_STATUS_THERM 0 low

/-! ## Windows (R195) -/

/-- The window edges of R195 in °C. -/
def windowEdges : List Int := [85, 0, 2, 83, 95, -10, -8, 93]

/-- A sensor is within 5 °C of a threshold of its group (R401). -/
def Dev.nearThreshold (d : Dev) (n : Nat) : Bool :=
  let g := d.thermGroup n
  let ths := [g.tStart, g.tWarn] ++ (if n < 64 then [110] else if n < 80 then [] else windowEdges)
  !g.round && d.flag .THM_SENSn_VALID n &&
    ths.any (fun t => decide (d.sensorTemp n - 16 * t ≤ 80) && decide (16 * t - d.sensorTemp n ≤ 80))

/-- The views of THM_STATUS that a sample changes. -/
def Dev.updateStatus (d : Dev) : Dev :=
  let d := match d.hottestDie with
    | some (n, t) => (d.setReg .THM_STATUS_MAX_N 0 n).setReg .THM_STATUS_MAX_C 0 (BitVec.ofInt 8 (t / 16)).toNat
    | none => d
  d.setFlag .THM_STATUS_FAST 0 ((List.range 144).any d.nearThreshold)

/-- Open bands with a member on a package close at their last verified row (R195); rows already issued finish, and what
waited in an unfilled row goes back to its stream. -/
def Dev.closeWindow (d : Dev) (p : Nat) (oneBit : Bool) : Dev :=
  let hit := d.med.bands.filter (fun e => e.2.state = .opened && decide (e.2.stream = 5) = oneBit &&
    (d.setDies e.2.set).any (fun die => diePkg die = p))
  d.each hit (fun d e =>
    let issued := d.med.rows.filter (fun r => r.band = e.1 && r.pages.length = 8)
    let open_ := d.med.rows.filter (fun r => r.band = e.1 && decide (r.pages.length < 8))
    let progs := d.med.progs.filter (fun p => p.op = 2 && p.band = e.1)
    let d := d.closeBand e.1 .full
    { d with med := { d.med with rows := d.med.rows ++ issued, progs := d.med.progs ++ progs } }.rejoin open_)

/-- The window state after a sample: closed outside the outer edges, open inside the inner ones, kept between. -/
def windowClosed (was : Bool) (t lo loIn hiIn hi : Int) : Bool :=
  if hi * 16 < t || t < lo * 16 then true else if loIn * 16 ≤ t && t ≤ hiIn * 16 then false else was

/-- A valid sample of a package (R184, R195). -/
def Dev.packageSample (d : Dev) (p raw : Nat) : Dev :=
  let t := signed16 raw
  let d := d.accrueDose p (some raw)
  let x := d.pkg p
  let dense := windowClosed x.denseClosed t 0 2 83 85
  let fast := windowClosed x.fastClosed t (-10) (-8) 93 95
  let d := d.setPkg p { x with denseClosed := dense, fastClosed := fast }
  let d := d.setReg .THM_SENSn_FRAC (80 + p) (throttleOf (d.thermGroup (80 + p)) t)
  let d := if dense && !x.denseClosed then d.closeWindow p false else d
  let d := if fast && !x.fastClosed then d.closeWindow p true else d
  let d := if dense = x.denseClosed then d else d.packageHealth p
  let d := d.judgeCapacity
  let closed := (List.range 64).filter (fun q => (d.pkg q).denseClosed)
  let d := if closed.isEmpty then d.setFlag .DRT_TWIN_STAGING 0 false else d
  d.judgePdeg.checkOverdue

/-! ## Critical temperature (R407) -/

/-- Trigger 6: THERM_N is held low until step 9 of the restart. -/
def Dev.thermalCritical (d : Dev) (n raw : Nat) : Dev :=
  let d := (d.count .THM_STATUS_CRIT).raise 34 { a := n, b := raw, c := 1760 }
  let at_ := (d.cfg.map (·.thermal.tResume)).getD d.thm.resumeAt
  { d with thm := { d.thm with critHold := true, resumeAt := at_ } }.updateTherm.trigger 6

/-- A die sensor's valid sample against the junction limit and the critical temperature. -/
def Dev.dieSample (d : Dev) (n raw : Nat) : Dev :=
  let t := signed16 raw
  let d := if 1680 ≤ t then d.raise 33 { a := n, b := raw, c := 1680 } else d
  let was := d.thm.prevCrit.contains n
  let d := { d with thm := { d.thm with prevCrit := if 1760 ≤ t then setInsert d.thm.prevCrit n else setErase d.thm.prevCrit n } }
  if was && decide (1760 ≤ t) then d.thermalCritical n raw else d

/-- Every sensor of one slice and every shared die sensor have failed (R407). -/
def Dev.blindSlice (d : Dev) : Bool :=
  sharedSensors.all (fun n => d.flag .THM_SENSn_FAILED n) &&
  (List.range 16).any (fun k => [3 * k, 3 * k + 1, 3 * k + 2].all (fun n => d.flag .THM_SENSn_FAILED n))

/-! ## Commands -/

/-- A sample of a sensor (R400 to R407): `raw` is 16-bit two's complement in 1/16 °C. A package sample that fails its check
is no valid sample. -/
def execTemperatureSample (sensor raw : Nat) (selfCheckOk : Bool) (s : State) : Out := s.onHealth fun d =>
  d.when (decide (sensor < 144)) fun d =>
    let raw := raw % 65536
    let t := signed16 raw
    let ok := selfCheckOk && (decide (80 ≤ sensor) || (decide (-880 ≤ t) && decide (t ≤ 2400)))
    if 80 ≤ sensor && !ok then d else
    let was := d.flag .THM_SENSn_FAILED sensor
    let d := { d with thm := { d.thm with sampleAt := d.thm.sampleAt.put sensor d.now } }
    let d := (d.setReg .THM_SENSn_TEMP sensor raw).setFlag .THM_SENSn_VALID sensor ok
    let d := d.setFlag .THM_SENSn_FAILED sensor (!ok)
    let d := if !ok && !was then d.raise 32 { a := sensor, b := raw } else d
    let d := if 80 ≤ sensor then d.packageSample (sensor - 80) raw else d
    let d := ((d.updateThrottle).updateTherm).updateStatus
    if sensor < 64 then
      if ok then d.dieSample sensor raw
      else
        let d := { d with thm := { d.thm with prevCrit := setErase d.thm.prevCrit sensor } }
        if !was && d.blindSlice then d.thermalCritical sensor raw else d
    else d

/-- No valid sample of a package for 100 ms (R184, R402): it counts as 95 °C. -/
def execSampleLossTimeout (package : Nat) (s : State) : Out := s.on fun d =>
  d.when (decide (package < 64) && decide ((d.thm.sampleAt.findD (80 + package) 0) + 100000000 ≤ d.now)) fun d =>
    let d := d.accrueDose package (some 1520)
    let d := d.setFlag .THM_SENSn_VALID (80 + package) false
    let d := d.setReg .THM_SENSn_FRAC (80 + package) (throttleOf (d.thermGroup (80 + package)) 1520)
    (d.updateThrottle).updateTherm

/-- The throttle THROT_FRAC of R408 in 0.1 % units; 50 % while no image is in force. -/
def Dev.throtFrac (d : Dev) : Nat := 10 * ((d.cfg.map (·.thermal.throtFrac)).getD 50)

/-- A filtered low on THROT_N (R406). The stuck timer counts from the last moment at which the pin had been high for more
than 1 ms. -/
def execThrotNFall (s : State) : Out := s.on fun d =>
  let okAt := match d.thm.throtRiseAt with
    | some t => if t + 1000000 < d.now then d.now else d.thm.throtOkAt
    | none => d.thm.throtOkAt
  let d := { d with pin := { d.pin with throtN := false }
                    thm := { d.thm with throtOkAt := okAt, throtRiseAt := none } }
  let d := d.setFlag .THM_EXT_LOW 0 true
  if d.flag .THM_EXT_STUCK && (d.cfg.map (·.thermal.throtPolicy)).getD 0 = 1 then d else d.setExt d.throtFrac

/-- A filtered rise of THROT_N (R406). -/
def execThrotNRise (s : State) : Out := s.on fun d =>
  d.when (!d.pin.throtN) fun d =>
    { d with pin := { d.pin with throtN := true }, thm := { d.thm with throtRiseAt := some d.now } }.setFlag .THM_EXT_LOW 0 false

/-- THROT_N has been high for 1 ms (R406): F_EXT becomes 0, and a stuck pin is no longer stuck. -/
def execThrotHoldExpiry (s : State) : Out := s.on fun d =>
  d.when (d.pin.throtN && (match d.thm.throtRiseAt with | some t => decide (t + 1000000 ≤ d.now) | none => false)) fun d =>
    ({ d with thm := { d.thm with throtOkAt := d.now } }.setFlag .THM_EXT_STUCK 0 false).setExt 0

/-- The stuck timer passes THROT_STUCK_S (R406). -/
def execThrotStuckTimeout (s : State) : Out := s.on fun d =>
  let limit := 1000000000 * ((d.cfg.map (·.thermal.throtStuckS)).getD 60)
  let high := match d.thm.throtRiseAt with | some t => decide (t + 1000000 < d.now) | none => false
  d.when (!high && !d.flag .THM_EXT_STUCK && decide (d.thm.throtOkAt + limit < d.now)) fun d =>
    let d := (d.setFlag .THM_EXT_STUCK 0 true).raise 35
    if (d.cfg.map (·.thermal.throtPolicy)).getD 0 = 1 then d.setExt 0 else d

end Sys2Proof.Machine
end

