-- ==== Sys2Proof/Machine/Sequencer.lean ====
section
/-!
DEFINITION. The power-up steps of the sequencer (R364) and the commands of the power family: supplies, rails, media rail
groups, steps and the sequencer bus.
-/
namespace Sys2Proof.Machine

/-- Boot selection and the firmware load of step 5 (R31, R364); CLOCKPLAN takes effect in a full power-up (R392). -/
def Dev.imageStep (d : Dev) : Dev :=
  let d := d.bootSelect
  -- in recovery mode the boot power tree and the boot plan apply (R33, R392)
  let d := if d.cfg.isSome || d.pwr.fullUp then d else d.bootTreeOnly.bootClocks
  let d := { d with mgt := { d.mgt with fwDown := false, fwStartedAt := d.now }, rst := { d.rst with kickAt := d.now } }
  if d.pwr.fullUp then d.applyClockPlan else d

/-- The actions of a power-up step as it is entered (R364). From step 9 on THERM_N is no longer held (R405). -/
def Dev.upActions (d : Dev) (n : Nat) : Dev :=
  match n with
  | 3 => d.enableNext bootRails
  | 4 => (((if d.pwr.fullUp then d.bootClocks else d).enablePd 31).enablePd 29).enablePd 32
  | 5 => d.imageStep
  | 6 => d.enableNext coreRails
  | 7 =>
    let d := d.startPlls
    let d := d.each [25, 26, 27, 28] (fun d nn => d.enablePd nn)
    let d := d.each ((List.range 16).map (· + 1)) (fun d nn => d.enablePd nn)
    let d := d.each ((List.range 8).map (· + 17)) (fun d nn => d.enablePd nn)
    (d.enablePd 30).checkNoTier
  | 8 => d.each (List.range 8) (fun d g => if d.mpen g then d else d.raiseMpg g)
  | 9 => { d with thm := { d.thm with critHold := false } }.updateTherm
  | _ => d

/-- Enter a power-up step. -/
def Dev.enterUp (d : Dev) (n : Nat) : Dev := (d.markStep n (n < 9)).upActions n

/-! ## Power-on and power loss -/

/-- The rail and group counters that the always-on domain mirrors into every checkpoint (R379). -/
def mirroredFields : List Fld :=
  [.PWR_RAILr_CNT_UV, .PWR_RAILr_CNT_OV, .PWR_RAILr_CNT_OC, .PWR_RAILr_CNT_RISE_FAIL, .PWR_RAILr_CNT_COLLAPSE,
   .PWR_RAILr_CNT_DISCH, .PWR_RAILr_CNT_RAMP_US, .PWR_RAILr_CYC_CYCLES, .PWR_RAILr_CYC_PHASE_LOSS,
   .PWR_MPGg_CNT_FALLS, .PWR_MPGg_CNT_GLITCH, .PWR_MPGg_CNT_RISE_FAIL, .PWR_MPGg_CNT_LATCHES, .PWR_MPGg_CNT_CYCLES]

/-- Whether a key of the register store belongs to a mirrored counter. -/
def isMirroredKey (k : Nat) : Bool := (mirroredFields.map Fld.num).contains (k % 1024)

/-- Hardware units that were in service pass through OFF at the next power-up; FAILED and RETIRED units stay so, heads
apart (R319). H1 exists only in two-head mode (R68). -/
def Dev.unitsToOff (d : Dev) : Dev :=
  let d := d.each ((List.range 222)) (fun d ix =>
    if d.ustate ix ∈ [.starting, .online, .degraded, .draining, .quiesced, .resetting] then d.setUnit ix .off 6
    else if ix < 2 && d.ustate ix ∈ [.failed, .retired] then d.setUnit ix .off 6
    else d)
  if d.pin.headMode then (if d.ustate 1 = .absent then d.setUnit 1 .off 0 else d)
  else (if d.ustate 1 = .absent then d else d.setUnit 1 .absent 0)

/-- Power-on reset (R381, R382, R7 level P): the always-on domain restarts, the fields that name P take their reset
values, the straps are sampled (R460), the event logs and the host-time mapping go (R86), the rail counters come back
from the mirror (R379); fuses, the boot store, media and journal-held values are kept. -/
def Dev.powerOnReset (d : Dev) (bootSel : Nat) (headMode sqRole : Bool) : Dev :=
  let d := d.clearSystem
  let d := d.clearRegs .powerOn
  let kept := d.regs.keep (fun k _ => !isMirroredKey k)
  let d := { d with regs := (d.pwr.mirrored.keep (fun k _ => isMirroredKey k)).foldl (fun (m : AMap Nat) (e : Nat × Nat) => m.put e.1 e.2) kept
                    aon := true
                    cfg := none
                    evt := {}
                    pmc := {}
                    mgt := { d.mgt with unlockFails := 0, alertCfg := [], jtagIr := 0xFF, boundary := [] }
                    cry := { d.cry with unwraps := 0 }
                    pwr := { mirrored := d.pwr.mirrored, stepAt := d.now }
                    rst := { held := !d.pin.resetN }
                    clk := {}
                    thm := {}
                    pin := { pwrfailHighAt := d.now, resetN := d.pin.resetN, bootSel := bootSel % 4, headMode, sqRole } }
  d.unitsToOff

/-- The timebase that a power-on reset loads: the highest stamp ceiling, rounded up to a second, and a second more
(R397). -/
def loadedTb (ceiling : Nat) : Nat := roundUp ceiling 1000000000 + 1000000000

/-- V_AON becomes good (R364 step 0 to 1): the timebase is loaded, and the ceiling record that R258 requires before a stamp
at or beyond the newest ceiling is written. Time without power adds no dose (R185). -/
def execPowerOn (bootSel : Nat) (headMode sqRole : Bool) (s : State) : Out :=
  .next (if s.dev.aon then s else
    let tb := loadedTb s.ceiling
    let d := ({ s.dev with now := tb, cause := none }).powerOnReset bootSel headMode sqRole
    { s with tb := tb, ceiling := tb + 30000000000,
             dev := { d with med := { d.med with accruedAt := tb, pkgs := d.med.pkgs.map (fun (e : Nat × PkgS) =>
                                        (e.1, { e.2 with doseAt := tb, temp := none })) } } })

/-- The device stops: dose counters take what has passed (R184). -/
def Dev.powerOff (d : Dev) : Dev :=
  let d := d.each d.med.pkgs.keys (fun d p => d.accrueDose p none)
  { d with aon := false }

/-- Both supplies fail and V_AON falls (R356): the device stops; the next start is a power-on reset. -/
def execPowerLoss (s : State) : Out := s.on Dev.powerOff

/-- A command that may end in a power-on reset by a sequencer fault: the timebase is then loaded as R397 says. -/
def State.onPower (s : State) (f : Dev → Dev) : Out :=
  .next (if s.dev.aon then
    let d := f s.stamped
    if d.rst.reload then
      { s with tb := loadedTb s.ceiling, ceiling := loadedTb s.ceiling + 30000000000,
               dev := { d with rst := { d.rst with reload := false }
                               med := { d.med with accruedAt := loadedTb s.ceiling } } }
    else { s with dev := d }
  else s)

/-! ## Supplies (R356, R263) -/

/-- Register fields that show inputs of the always-on domain: no reset changes them. -/
def liveFields : List Fld :=
  [.PWR_SUPPLY_VIN12_MV, .PWR_SUPPLY_VAUX3_MV, .PWR_SUPPLY_VIN_GOOD, .PWR_SUPPLY_VAUX_GOOD, .PWR_SUPPLY_AON_FROM_VIN,
   .CLK_SRC_READY_SRC, .PWR_MPG_MPGOOD]

/-- The power-on reset after a sequencer fault (R382): RST_CAUSE.SEQ is set; the levels of the pins and the stamps of the
trigger-4 restarts stay. -/
def Dev.sequencerReset (d : Dev) : Dev :=
  let live := d.regs.keep (fun k _ => (liveFields.map Fld.num).contains (k % 1024))
  let x := d.powerOnReset d.pin.bootSel d.pin.headMode d.pin.sqRole
  let regs := live.foldl (fun (m : AMap Nat) (e : Nat × Nat) => m.put e.1 e.2) x.regs
  let x := { x with regs := regs, pin := d.pin
                    pwr := { x.pwr with restarts := d.pwr.restarts }
                    rst := { x.rst with reload := true } }
  ((x.setFlag .RST_CAUSE_SEQ 0 true).setReg .RST_CAUSE_LAST_LEVEL 0 0).setReg .RST_CAUSE_LAST_SRC 0 1

/-- The start from step 15 at step 2 (R366): after a trigger 4 by a power-on reset (R382). -/
def Dev.restartUp (d : Dev) : Dev :=
  let d := if d.pwr.downByT4 then d.sequencerReset else (d.clearSystem.clearRegs .system).unitsToOff
  let d := { d with cfg := none, pwr := { d.pwr with downByT4 := false, fullUp := true }
                    rst := { d.rst with held := !d.pin.resetN } }
  d.enterUp 2

/-- The 10 min window of a stamp (R372, R398). -/
def tenMinutes (t : Nat) : Nat := t / 600000000000

/-- The sequencer leaves step 15 (R366). After RESTART_MAX restarts by trigger 4 within 10 min it halts (R372). -/
def Dev.leaveStandby (d : Dev) : Dev :=
  if d.flag .PWR_STEP_HALTED then d
  else if !d.pwr.downByT4 then d.restartUp
  else
    let recent := d.pwr.restarts.filter (fun t => tenMinutes t = tenMinutes d.now)
    if d.seqCfg.restartMax ≤ recent.length then (d.setFlag .PWR_STEP_HALTED 0 true).raise 13
    else { d with pwr := { d.pwr with restarts := d.now :: recent } }.restartUp

/-- VIN12 has held 10.8 V for 10 ms (R356). -/
def execVinGood (mv : Nat) (s : State) : Out := s.onPower fun d =>
  let d := (d.setReg .PWR_SUPPLY_VIN12_MV 0 mv).setFlag .PWR_SUPPLY_VIN_GOOD 0 true
  let d := { d with pin := { d.pin with vinGoodAt := d.now } }
  if d.step = 15 then d.leaveStandby else d

/-- VAUX3 has held 3.14 V for 10 ms (R356). -/
def execVaux3Good (mv : Nat) (s : State) : Out := s.on fun d =>
  ((d.setReg .PWR_SUPPLY_VAUX3_MV 0 mv).setFlag .PWR_SUPPLY_VAUX_GOOD 0 true).setFlag .PWR_SUPPLY_AON_FROM_VIN 0 false

/-- A filtered fall of PWRFAIL_N is trigger 1 (R263, R461). -/
def execPwrfailNLow (s : State) : Out := s.on fun d =>
  let d := { d with pin := { d.pin with pwrfailN := false } }
  d.trigger 1

/-- VIN12 below 10.4 V for 2 µs is trigger 2 (R263, R356). -/
def execVin12Low (mv : Nat) (s : State) : Out := s.on fun d =>
  let d := (d.setReg .PWR_SUPPLY_VIN12_MV 0 mv).setFlag .PWR_SUPPLY_VIN_GOOD 0 false
  d.trigger 2

/-- VAUX3 below 3.05 V for 2 µs (R356): with VIN good it is trigger 3 and V_AON is carried from VIN12; without, V_AON
falls. -/
def execVaux3Low (mv : Nat) (s : State) : Out := s.on fun d =>
  let d := (d.setReg .PWR_SUPPLY_VAUX3_MV 0 mv).setFlag .PWR_SUPPLY_VAUX_GOOD 0 false
  if d.flag .PWR_SUPPLY_VIN_GOOD then (d.setFlag .PWR_SUPPLY_AON_FROM_VIN 0 true).trigger 3
  else d.powerOff

/-! ## Rails (R357, R358, R369, R371, R268) -/

/-- Count an excursion of a rail by its kind (R358). -/
def Dev.countExcursion (d : Dev) (r : Nat) (k : RailKind) : Dev :=
  match k with
  | .uv => d.count .PWR_RAILr_CNT_UV r
  | .ov => d.count .PWR_RAILr_CNT_OV r
  | .oc => d.count .PWR_RAILr_CNT_OC r

/-- The threshold that an excursion of `pct` percent crosses, in mV; an over-current crosses none of a voltage (R358, R416).
-/
def railThreshold (r : Nat) (k : RailKind) (pct : Nat) : Nat :=
  match k with
  | .uv => railNominal r * (100 - pct) / 100
  | .ov => railNominal r * (100 + pct) / 100
  | .oc => 0

/-- A running rail faults (R371): trigger 4; an under-voltage rail stays enabled, any other is switched off at once. -/
def execRailFault (rail : Nat) (kind : RailKind) (mv current : Nat) (s : State) : Out := s.on fun d =>
  d.when (decide (rail < 9) && d.railState rail = 2) fun d =>
    let d := (d.countExcursion rail kind).setReg .PWR_RAILr_STAT_MV rail mv
    let d := (d.setReg .PWR_RAILr_STAT_CURRENT rail current).raise 9 { a := rail, b := mv, c := railThreshold rail kind 8 }
    let d := if kind = .uv then
        { (d.setReg .PWR_RAILr_STAT_STATE rail 3) with
            pwr := { d.pwr with railHeld := setInsert d.pwr.railHeld rail } }
      else d.cutRail rail 3
    d.trigger 4

/-- A warning excursion of a rail that is on (R358, R380). -/
def execRailWarn (rail : Nat) (kind : RailKind) (mv : Nat) (s : State) : Out := s.on fun d =>
  d.when (decide (rail < 9) && d.railState rail = 2) fun d =>
    ((d.countExcursion rail kind).setReg .PWR_RAILr_STAT_MV rail mv).raise 8 { a := rail, b := mv, c := railThreshold rail kind 4 }

/-- A regulator loses one phase: a corrected fault (R357). -/
def execPhaseLost (rail : Nat) (s : State) : Out := s.on fun d =>
  d.when (decide (rail < 9) && d.railState rail = 2) fun d =>
    ((d.count .PWR_RAILr_STAT_PHASES_LOST rail).count .PWR_RAILr_CYC_PHASE_LOSS rail).raise 10 { a := rail }

/-- The rails that the present step enables. -/
def Dev.stepRails (d : Dev) : List Nat := if d.step = 3 then bootRails else if d.step = 6 then coreRails else []

/-- An enabled rail becomes good, and the sequencer enables the next rail of its step (R364). -/
def execRailGood (rail mv : Nat) (s : State) : Out := s.on fun d =>
  d.when (decide (rail < 9) && d.railState rail = 1) fun d =>
    let t0 := d.pwr.railOnAt.findD rail d.now
    let d := (d.setReg .PWR_RAILr_STAT_STATE rail 2).setReg .PWR_RAILr_STAT_MV rail mv
    let d := d.setReg .PWR_RAILr_CNT_RAMP_US rail (min ((d.now - t0) / 1000) 65535)
    d.enableNext d.stepRails

/-- An enabled rail fails to rise (R369). -/
def execRailRiseTimeout (rail : Nat) (s : State) : Out := s.on fun d =>
  d.when (decide (rail < 9) && d.railState rail = 1) fun d =>
    let d := (d.setReg .PWR_RAILr_STAT_STATE rail 5).count .PWR_RAILr_CNT_RISE_FAIL rail
    let d := d.raise 11 { a := rail }
    if rail ∈ bootRails then
      let d := (d.setFlag .PWR_STEP_HALTED 0 true).raise 13 { a := rail }
      { d with evt := { d.evt with alertHalt := true } }.sqLeave
    else
      let d := if rail = 2 then
          d.each ((List.range 8).map complexIx) (fun d ix =>
            if d.ustate ix ∈ [.absent, .failed, .retired] then d else d.failUnit ix 6)
        else d.each ((List.range 4).map stackIx) (fun d ix =>
            if d.ustate ix ∈ [.absent, .failed, .retired] then d else d.failUnit ix 6)
      d.checkNoTier.enableNext d.stepRails

/-- A rail collapses out of order during quench or power-down (R268): its dependants go off at once. -/
def execRailCollapse (rail : Nat) (s : State) : Out := s.on fun d =>
  d.when (decide (rail < 9) && d.railState rail ∈ [2, 3, 4]) fun d =>
    ((d.count .PWR_RAILr_CNT_COLLAPSE rail).setReg .PWR_RAILr_STAT_MV rail 0).cutRail rail 0

/-- A rail has not fallen within DISCH_MS: it is actively discharged (R268). -/
def execDischargeTimeout (rail : Nat) (s : State) : Out := s.on fun d =>
  d.when (decide (rail < 9) && d.railState rail = 4) fun d =>
    ((d.setReg .PWR_RAILr_STAT_STATE rail 6).count .PWR_RAILr_CNT_DISCH rail).raise 12 { a := rail }

/-! ## Steps (R364, R366, R377, R378) -/

/-- The sequencer's actions of a power-up step are complete. A device that takes part releases SQ_STEP if the next step lies
within its target, and waits for the line; otherwise the next step is entered (R377). A held system reset stays at its step
(R383). -/
def execSequencerStepAdvance (s : State) : Out := s.onPower fun d =>
  if d.step = 15 then d.when (d.flag .PWR_SUPPLY_VIN_GOOD) Dev.leaveStandby else
  d.when (d.stepDone && !d.flag .PWR_STEP_HALTED && !(d.rst.held && decide (3 ≤ d.step))) fun d =>
    if d.sqTakesPart then
      let d := { d with pwr := { d.pwr with ready := true, readyAt := d.now } }
      (d.setFlag .PWR_STEP_SQ_WAIT 0 true).sqHold (decide (d.sqTarget < d.step + 1))
    else d.enterUp (d.step + 1)

/-- The rails and groups of a power-down step have fallen (R366). -/
def execSequencerDownStep (s : State) : Out := s.on fun d =>
  d.when (decide (10 ≤ d.step) && decide (d.step < 15) && (d.step ≠ 11 || d.pin.mpgood = 0)) fun d =>
    let d := d.each (downRails d.step) (fun d r =>
      if d.railState r ∈ [4, 6] then (d.setReg .PWR_RAILr_STAT_STATE r 0).setReg .PWR_RAILr_STAT_MV r 0 else d)
    if d.sqTakesPart then
      let d := { d with pwr := { d.pwr with ready := true, readyAt := d.now } }
      (d.setFlag .PWR_STEP_SQ_WAIT 0 true).sqHold false
    else d.enterDown (d.step + 1)

/-- SQ_STEP has read high for 2 µs (R377, R378): a sequencer that is ready enters its next step. -/
def execSqStepHigh (s : State) : Out := s.on fun d =>
  let d := { d with pin := { d.pin with sqStepHigh := true } }
  d.when (d.sqTakesPart && d.pwr.ready && !d.flag .PWR_SQ_STAT_HOLDING) fun d =>
    if 10 ≤ d.step && d.step < 15 then d.enterDown (d.step + 1)
    else if d.step < 9 && d.step + 1 ≤ d.sqTarget then d.enterUp (d.step + 1)
    else d

/-- SQ_UP_MS passes with the line low or without a frame (R377): a warning, and the sequencer goes on waiting. -/
def execSqUpTimeout (s : State) : Out := s.on fun d =>
  d.when (d.sqTakesPart && decide (d.step < 9) && !d.pwr.upTimeoutRaised && (d.pwr.ready || !d.pin.sqRole)) fun d =>
    let d := (d.count .PWR_SQ_STAT_UP_TIMEOUTS).raise 14
    { d with pwr := { d.pwr with upTimeoutRaised := true }
             evt := { d.evt with alertSq := d.flag .PWR_SQ_CTL_ALERT_EN } }

/-- SQ_DOWN_MS passes after a down step completes (R378). -/
def execSqDownTimeout (s : State) : Out := s.on fun d =>
  d.when (d.sqTakesPart && decide (10 ≤ d.step) && decide (d.step < 15) && d.pwr.ready) fun d =>
    ((d.count .PWR_SQ_STAT_DOWN_TIMEOUTS).raise 14).enterDown (d.step + 1)

/-! ## Sequencer bus (R375, R376) -/

/-- One bit of the CRC-8 with polynomial 0x07. -/
def crc8Bit (crc : Nat) : Nat := if crc ≥ 128 then (crc * 2 % 256) ^^^ 7 else crc * 2

/-- The CRC-8 of R376 over bytes. -/
def crc8 (bs : List Nat) : Nat :=
  bs.foldl (fun c b => (List.range 8).foldl (fun c _ => crc8Bit c) (c ^^^ (b % 256))) 0

/-- A master broadcasts its target (R376). -/
def execSqFrameBroadcast (s : State) : Out := s.on fun d =>
  d.when (d.pin.sqRole && d.sqTakesPart) fun d =>
    let t := d.sqTarget % 16
    let d := d.emit (.sqFrame t d.pwr.frameSeq (crc8 [0xB4, t, d.pwr.frameSeq]))
    { (d.setReg .PWR_SQ_STAT_RX_TARGET 0 t) with pwr := { d.pwr with frameSeq := (d.pwr.frameSeq + 1) % 256 } }

/-- A follower receives a frame (R376): a frame whose CRC fails is ignored and counted; a target below the present step
is ignored (R380). A sequencer that waits for its target releases the line once the target admits the next step. -/
def execSqFrameReceived (id target seq crc : Nat) (s : State) : Out := s.on fun d =>
  d.when (!d.pin.sqRole && d.sqTakesPart) fun d =>
    if id = 0xB4 && crc = crc8 [id, target, seq] && target < 16 then
      let d := { d with pwr := { d.pwr with frameAt := d.now, gotFrame := true } }
      if target < d.step then d else
      let d := d.setReg .PWR_SQ_STAT_RX_TARGET 0 target
      if d.pwr.ready && d.step + 1 ≤ target then d.sqHold false else d
    else d.count .PWR_SQ_STAT_CRC_ERR

/-- A write of 1 to PWR_SQ_CTL.LEAVE (R375, R380). -/
def execSqLeaveWrite (s : State) : Out := s.on fun d => (d.setFlag .PWR_SQ_CTL_LEAVE 0 true).sqLeave

/-! ## Media rail groups (R373) -/

/-- Count a filtered transition of MPGOODg in its 1 s window; more than 16 latch the group off. -/
def Dev.mpgTransition (d : Dev) (g : Nat) : Dev :=
  let win := d.now / 1000000000
  let n := match d.pwr.mpgTrans.find g with
    | some (w, n) => if w = win then n + 1 else 1
    | none => 1
  let d := { d with pwr := { d.pwr with mpgTrans := d.pwr.mpgTrans.put g (win, n) } }
  if n > 16 && !(d.reg .PWR_MPG_LATCH).testBit g then d.mpgLatch g else d

/-- A filtered rise of MPGOODg: its 1 ms period starts. -/
def execMpgoodRise (group : Nat) (s : State) : Out := s.on fun d =>
  d.when (decide (group < 8)) fun d =>
    let d := { d with pin := { d.pin with mpgood := setBit d.pin.mpgood group true }
                      pwr := { d.pwr with mpgStableAt := d.pwr.mpgStableAt.put group d.now } }
    (d.setReg .PWR_MPG_MPGOOD 0 d.pin.mpgood).mpgTransition group

/-- A filtered fall of MPGOODg (R373, R380): with the group up it is latched off (a collapse during a quench, R268); in
its 1 ms period the group has failed to rise. -/
def execMpgoodFall (group : Nat) (s : State) : Out := s.on fun d =>
  d.when (decide (group < 8)) fun d =>
    let up := d.mpgUp group
    let en := d.mpen group
    let q := d.reg .JRN_STATUS_QSTATE
    let d := { d with pin := { d.pin with mpgood := setBit d.pin.mpgood group false } }
    let d := d.setReg .PWR_MPG_MPGOOD 0 d.pin.mpgood
    let d := if en then d.count .PWR_MPGg_CNT_FALLS group else d
    let d :=
      if en && up then (if q ≠ 0 then (d.mpgOff group) else d.mpgLatch group)
      else if en then d.mpgRiseFail group
      else d
    let d := { d with pwr := { d.pwr with mpgStableAt := d.pwr.mpgStableAt.del group } }
    d.mpgTransition group

/-- MPGOODg fails to rise and hold within MPG_RISE_MS. -/
def execMpgRiseTimeout (group : Nat) (s : State) : Out := s.on fun d =>
  d.when (decide (group < 8) && d.mpen group && !d.mpgUp group) (fun d => d.mpgRiseFail group)

/-- A write of 1 to bits of PWR_MPG.LATCH re-arms the groups and raises them again. -/
def Dev.rearmGroups (d : Dev) (mask : Nat) : Dev :=
  d.each (List.range 8) (fun d g =>
    if mask.testBit g && (d.reg .PWR_MPG_LATCH).testBit g then
      let d := d.setFieldBit .PWR_MPG_LATCH 0 g false
      if d.step = 8 || d.step = 9 then d.raiseMpg g else d
    else d)

/-- MPG_LATCH_WRITE. -/
def execMpgLatchWrite (mask : Nat) (s : State) : Out := s.on (·.rearmGroups mask)

end Sys2Proof.Machine
end

