-- ==== Sys2Proof/Machine/Persist.lean ====
section
/-!
DEFINITION. The periodic work of persistence: the housekeeping round with its three bounds (R251 to R254), journal
flushes, checkpoints and metering (R258, R259), and through sheets (R255 to R257).
-/
namespace Sys2Proof.Machine

/-! ## The three bounds (R251, R252) -/

/-- 64 MiB, to a multiple of which each bound is rounded down. -/
def mib64 : Nat := 2 ^ 26

/-- A bound in bytes, rounded down to a multiple of 64 MiB. -/
def roundBound (b : Nat) : Nat := b / mib64 * mib64

/-- The available energy E_a in pJ (R252): HOLD_EFF in %, C in µF, voltages in mV. -/
def availEnergy (eff c v vmin : Nat) : Nat := if v ≤ vmin then 0 else eff * c * (v * v - vmin * vmin) / 200

/-- B_energy in bytes, before rounding: the largest B for which E_q(B) is at most 0.9 E_a with `n` ONLINE packages (R251).
In ns, t_q may be at most 0.9 E_a / (1000 P); s is at most 1.5 n bytes a ns of what 4.5 ms leave. -/
def energyBound (ea n : Nat) : Nat :=
  let p := 150 + 5 * n
  let s := 15 * n * (9 * ea - 45000000000 * p) / (100000 * p)
  (s - mib64) * 1000 / 1002

/-- C of R252 in µF: the lower of HOLD_C and the measured C_eff. -/
def Dev.bankC (d : Dev) (c : PowerCfg) : Nat :=
  match d.per.cEff with
  | some x => min c.holdC x
  | none => c.holdC

/-- B_gather in bytes, before rounding (R252). How much the journal bands in use hold is open: `j`, at most 2 GiB. A through
block holds 1,024 sheets, each written twice. -/
def Dev.gatherBound (d : Dev) (j : Nat) : Nat :=
  let t := ceilDiv (2 * d.liveSheets) 1024 * 2 ^ 22
  let g := d.footprint / 5 - min j (2 ^ 31) - t - d.med.staged.length * 4096
  (g - mib64) * 1000 / 1002

/-- Hold-up becomes verified or loses it (R253); unverified, every persistent write is a through write (R19). -/
def Dev.setHoldup (d : Dev) (ok : Bool) : Dev :=
  if d.flag .JRN_STATUS_HOLDUP_OK = ok then d else
  let d := (d.setFlag .JRN_STATUS_HOLDUP_OK 0 ok).setFlag .JRN_STATUS_THROUGH_ALL 0
    (!ok || d.flag .PWR_STEP_NOTIER)
  if d.flag .JRN_CTL_HOLDUP_EVT then d.raise 866 { c := d.qch.id } else d

/-- A housekeeping round (R252, R253): `sense` is VHOLD_SENSE in mV. -/
def execHousekeepingRound (sense : Nat) (s : State) : Out := s.onHealth fun d =>
  match d.cfg with
  | none => d
  | some c => d.when (d.memActive && d.reg .JRN_STATUS_QSTATE = 0 && d.rst.core = .none) fun d =>
    let d := d.settleTier
    let c := d.cfg.getD c
    let bad := decide (sense < 50) || decide (1150 < sense)
    let d := if bad then d.raise 18 { b := sense } else d
    let samples := (sense * c.power.holdDiv / 100 :: d.per.samples).take 4
    let vb := samples.foldl min (samples.headD 0)
    let d := { d with per := { d.per with samples := samples } }
    let ea := if d.bankC c.power = 0 then 0 else availEnergy c.power.holdEff (d.bankC c.power) vb (c.power.holdVmin * 10)
    let raw := if ea = 0 then 0 else roundBound (energyBound ea d.onlinePackages.length)
    let good := decide (2 ^ 29 ≤ raw)
    let rounds := if good && !bad && c.power.holdC ≠ 0 then min 64 (d.reg .JRN_HOLDUP_ROUNDS + 1) else 0
    let low := if good then 0 else d.per.lowRounds + 1
    let d := { d with per := { d.per with lowRounds := low } }
    let d := d.setReg .JRN_HOLDUP_ROUNDS 0 rounds
    let d := if bad || c.power.holdC = 0 || (d.flag .JRN_STATUS_HOLDUP_OK && decide (2 ≤ low)) then d.setHoldup false
             else if rounds = 64 then d.setHoldup true else d
    let (j, d) := d.drawFree 252
    let d := (d.setReg .JRN_HOLDUP_V_BANK 0 (vb / 10)).setReg .JRN_HOLDUP_E_AVAIL 0 (ea / 10 ^ 10)
    let d := d.setReg .JRN_BUDGET_ENERGY 0 (if d.flag .JRN_STATUS_HOLDUP_OK then raw / 2 ^ 20 else 0)
    let d := d.setReg .JRN_BUDGET_GATHER 0 (roundBound (d.gatherBound (j % (2 ^ 31 + 1))) / 2 ^ 20)
    let img := c.tier.quenchMib / 64 * 64
    let d := d.setReg .JRN_BUDGET_EFFECTIVE 0 (min img (min (d.reg .JRN_BUDGET_ENERGY) (d.reg .JRN_BUDGET_GATHER)))
    d.judgePdeg.checkOverdue

/-! ## Journal (R258, R259) -/

/-- The device runs: Memory Active, no quench, no core reset. -/
def Dev.runs (d : Dev) : Bool := d.memActive && d.reg .JRN_STATUS_QSTATE = 0 && d.rst.core = .none

/-- The journal partition is mirrored, every FLUSH_US or when 256 KiB has gathered; the spec gives no size of a record, so
whether that much has gathered is free. -/
def execJournalFlush (s : State) : Out := s.onHealth fun d =>
  let due := decide (d.jrn.flushedAt + d.reg .JRN_CTL_FLUSH_US * 1000 ≤ d.now)
  let gathered := Config.free 258 d.freeCtr % 2 = 1 && decide (d.jrn.mirrored < d.jrn.next)
  d.when (d.runs && d.canGather && (due || gathered)) (fun d =>
    ({ d with freeCtr := d.freeCtr + 1 }.flushJournal.rebuild.recopy.checkMigrated).judgeCapacity)

/-- A CHECKPOINT record and a startup checkpoint (R258): journal records older than it are freed, the gather bands that wait
for it can be used, those returned are free, and the rail counters are mirrored (R379). -/
def Dev.startupCheckpoint (d : Dev) : Dev :=
  let d := if d.canGather then d.flushJournal else d
  let d := d.journal 0x0F d.jrn.next
  let d := if d.runs then d.writeTables.keepMeta.orcTrim.mapTrim else d
  let d := { d with jrn := { d.jrn with recs := [], checkpointAt := d.now, startupAt := d.now, startupSeq := d.jrn.next }
                    med := { d.med with gather := d.med.gatherPending.foldl setInsert d.med.gather, gatherPending := []
                                        gatherReturn := [] }
                    per := { d.per with sheets := d.per.sheets.keep (fun n x =>
                      !x.programmed || d.per.thru.any (fun t => t.sheet = n)) }
                    pwr := { d.pwr with mirrored := d.regs.keep (fun k _ => isMirroredKey k) } }
  d

/-- The state after a command that writes a startup checkpoint: it carries a stamp ceiling 30 s ahead (R258). -/
def State.onCheckpoint (s : State) (c : Dev → Bool) (f : Dev → Dev) : Out :=
  .next (if s.dev.aon && c s.stamped then
    { s with dev := f s.stamped, ceiling := max s.ceiling (s.tb + 30000000000) }
  else s)

/-- The periodic checkpoint: bands returned by the gather zone are freed with it. -/
def execCheckpoint (s : State) : Out := s.onCheckpoint Dev.runs fun d =>
  let back := d.med.gatherReturn
  (d.each back (fun d b => d.freeBand b)).startupCheckpoint

/-- The timebase has come within 5 s of the ceiling: a ceiling record raises it by 30 s (R258). -/
def execCeilingRecord (s : State) : Out :=
  .next (if s.dev.aon && decide (s.ceiling ≤ s.tb + 5000000000) then { s with ceiling := s.ceiling + 30000000000 } else s)

/-- Wear credit, dose counters and SNAP_ID are journalled every second (R259). -/
def execMeter (s : State) : Out := s.on fun d =>
  d.when d.runs fun d =>
    let d := d.journal 0x0C 0 d.med.credit.toNat (-d.med.credit).toNat
    let d := d.each d.med.pkgs.keys (fun d p => d.journal 0x0C 1 p (d.pkgDose p))
    d.each d.tal.sets (fun d e => d.journal 0x0C 2 e.1 e.2.snapId)

/-! ## Through sheets (R255, R256) -/

/-- 400 ns after its first record a through sheet is cut, and issued. -/
def execThroughSheetCut (s : State) : Out := s.on fun d =>
  match d.per.sheets.find d.per.nextSheet with
  | some x => d.when (!x.cut && decide (x.firstAt + 400 ≤ d.now)) fun d =>
      { d with per := { d.per with sheets := d.per.sheets.put d.per.nextSheet { x with cut := true } } }.issueSheet d.per.nextSheet
  | none => d

/-- Both copies of a sheet have programmed and one has been read back with at most 8 bits corrected per grain: the writes it
holds complete. With more, the sheet is written again to another pair (R256). -/
def execThroughSheetProgrammed (sheet corrected : Nat) (s : State) : Out := s.on fun d =>
  match d.per.sheets.find sheet with
  | some x =>
      let runs := d.med.progs.any (fun p => p.use = .thru sheet) ||
        d.med.cmds.any (fun c => c.2.use = .thru sheet && x.dies.contains c.2.die)
      d.when (x.cut && !x.programmed && !x.dies.isEmpty && !runs) fun d =>
      if 8 < corrected then d.rewriteSheet sheet (x.dies.headD 0) else
      let d := { d with per := { d.per with sheets := d.per.sheets.put sheet { x with programmed := true, waiters := [] } } }
      d.each x.waiters (fun d w =>
        match d.entry w.1 w.2 with
        | some t =>
          -- another sheet, or the merge of a counter request, may still be awaited
          let more := d.per.sheets.any (fun q => q.2.waiters.contains w) || (t.req.kind.merges && !t.applied)
          ((d.setEntry w.1 w.2 { t with through := more }).settle w.1 w.2).pump w.1
        | none => d)
  | none => d

end Sys2Proof.Machine
end

