-- ==== Sys2Proof/Machine/Resets.lean ====
section
/-!
DEFINITION. Resets (R381 to R388) and the quench from its drain to its ending (R265 to R267, R475): the quench rows, the
system and core resets, the watchdog, Memory Active.
-/
namespace Sys2Proof.Machine

/-! ## Causes (R387) -/

/-- The RST_CAUSE bit of a source. -/
def causeField (b : Nat) : Fld :=
  match b with
  | 0 => .RST_CAUSE_POR
  | 1 => .RST_CAUSE_SEQ
  | 2 => .RST_CAUSE_RESET_N
  | 3 => .RST_CAUSE_FATAL
  | 4 => .RST_CAUSE_CMD_SYS
  | 5 => .RST_CAUSE_WDT
  | _ => .RST_CAUSE_CMD_CORE

/-- Record a reset's source and level: 0 power-on, 1 system, 2 core. -/
def Dev.noteReset (d : Dev) (level b : Nat) : Dev :=
  ((d.setFlag (causeField b) 0 true).setReg .RST_CAUSE_LAST_LEVEL 0 level).setReg .RST_CAUSE_LAST_SRC 0 b

/-! ## System reset (R383) -/

/-- A system reset: the sequencer returns to step 4 with the rails held good, or waits there while RESET_N is low. -/
def Dev.systemReset (d : Dev) : Dev :=
  let d := d.count .RST_COUNT_SYSTEM
  let d := (d.setReg .RST_CAUSE_LAST_LEVEL 0 1).setReg .RST_CAUSE_LAST_SRC 0 d.rst.sysSrc
  let low := !d.pin.resetN
  let d := (d.clearSystem.clearRegs .system).unitsToOff
  let d := { d with cfg := none, pwr := { d.pwr with fullUp := false }, rst := { d.rst with held := low, pend := none } }
  if low then d.markStep 4 true else d.enterUp 4

/-! ## Core reset (R261, R384) -/

/-- A core reset begins with the drain. During a quench there is none. -/
def Dev.coreReset (d : Dev) (b : Nat) : Dev :=
  let d := d.noteReset 2 b
  if d.rst.core ≠ .none || d.reg .JRN_STATUS_QSTATE ≠ 0 then d
  else { d with rst := { d.rst with core := .draining, coreSince := d.now } }

/-- The stacks enter or leave self-refresh. -/
def Dev.selfRefresh (d : Dev) (on : Bool) : Dev :=
  d.each d.onlineStacks (fun d k => d.setFlag .DRT_STACKd_STAT_SELF_REFRESH k on)

/-- Reset is asserted in every core domain (R384 steps 2 and 3). Management firmware reloads. HOLDUP_OK is among the fields
it clears: a change of it is an event (R253, JRN_CTL.HOLDUP_EVT). -/
def Dev.assertCore (d : Dev) : Dev :=
  let d := ((d.setHoldup false).selfRefresh true).count .RST_COUNT_CORE
  let d := d.clearCore.clearRegs .core
  { d with mgt := { d.mgt with fwDown := true } }

/-- The core is released: units return, and the media complexes replay their operation logs (R384 steps 5 to 7). -/
def Dev.releaseCore (d : Dev) : Dev :=
  let d := (d.selfRefresh false).endRecoveries
  -- a PERST assertion during the reset takes effect now (R399)
  let d := d.each (List.range d.headCount) (fun d h =>
    if (d.head h).perst && d.ustate (headIx h) ∉ [.resetting, .absent, .off, .failed, .retired] then
      (d.headReset h).setUnit (headIx h) .resetting 5
    else d)
  d.each ((List.range 8).filter (fun n => d.serves (complexIx n))) Dev.replayOps

/-- The drain before a core reset ends (R261). -/
def execCoreResetDrainEnd (s : State) : Out := s.on fun d =>
  d.when (d.rst.core = .draining && (d.drained || decide (d.rst.coreSince + 100000 ≤ d.now))) fun d =>
    let d := { d with qch := { d.qch with pendings := [] } }
    let d := d.takePendings
    let d := if d.memActive && d.canGather then d.flushJournal else d
    { d.assertCore with rst := { d.rst with core := .hold, coreSince := d.now } }

/-- The hold of a core reset ends, and the DRAM journal partition is replayed (R384 steps 5 to 8). -/
def execCoreResetHoldEnd (s : State) : Out := s.onHealth fun d =>
  d.when (d.rst.core = .hold && d.reg .JRN_STATUS_QSTATE = 0) fun d =>
    let ps := d.qch.pendings
    let d := { d with rst := { d.rst with core := .none }, qch := { d.qch with pendings := [] } }
    d.releaseCore.reenter ps

/-! ## Endings of a quench (R267) -/

/-- WARM: a core reset; the restore follows. -/
def Dev.enterWarm (d : Dev) : Dev := (d.measureC.setReg .JRN_STATUS_QSTATE 0 7).assertCore.releaseCore

/-- The ending of a sealed quench, in the order of R267's rows. -/
def Dev.takeEnding (d : Dev) : Dev :=
  if d.qch.sawReset && d.qch.ending ≠ 0 then d.systemReset
  else if d.qch.ending = 0 then d.measureC.goDown
  else if d.qch.ending = 1 && d.railsUp then d.enterWarm
  else if d.supplyGood then d.enterWarm
  else if d.vinLow then d.measureC.goDown
  else d.setReg .JRN_STATUS_QSTATE 0 6

/-- The drain ends; a quench that can write no gather band takes its ending without a seal (R475). -/
def Dev.leaveFreeze (d : Dev) : Dev :=
  let d := d.endDrain
  if d.qch.noGather then d.takeEnding else d

/-- All accepted work is complete. -/
def execDrainComplete (s : State) : Out := s.on fun d =>
  d.when (d.reg .JRN_STATUS_QSTATE = 1 && d.drained) Dev.leaveFreeze

/-- 100 µs after T_q. -/
def execDrainTimeout (s : State) : Out := s.on fun d =>
  d.when (d.reg .JRN_STATUS_QSTATE = 1 && decide (d.qch.tq + 100000 ≤ d.now)) Dev.leaveFreeze

/-- Quench programs gather bands, whatever the package temperature; each one programmed while a fast window of it is closed
is marked for early refresh (R197). Which bands it programs is free. -/
def Dev.quenchPrograms (d : Dev) : Dev :=
  let (f, d) := d.drawFree 197
  d.each (List.range d.med.gather.length) (fun d i =>
    let n := d.med.gather.getD i 0
    match d.band n with
    | some b => if f / 2 ^ i % 2 = 1 && (d.setDies b.set).any (fun die => (d.pkg (diePkg die)).fastClosed) then
        d.setBand n { b with early := true } else d
    | none => d)

/-- Index and end record verified: PAGES. -/
def execIndexVerified (s : State) : Out := s.on fun d =>
  d.when (d.reg .JRN_STATUS_QSTATE = 2) fun d =>
    (d.quenchPrograms.setImage (fun i => { i with indexEnd := true })).setReg .JRN_STATUS_QSTATE 0 3

/-- Every saved page's row verified: META. -/
def execPagesVerified (s : State) : Out := s.on fun d =>
  d.when (d.reg .JRN_STATUS_QSTATE = 3) fun d => d.quenchPrograms.savePages.setReg .JRN_STATUS_QSTATE 0 4

/-- Metadata verified: the seal is written. -/
def execMetadataVerified (s : State) : Out := s.on fun d =>
  d.when (d.reg .JRN_STATUS_QSTATE = 4) fun d => d.quenchPrograms.saveMeta.setReg .JRN_STATUS_QSTATE 0 5

/-- Older images no longer hold a page that a sealed one has saved (R271). -/
def Dev.supersede (d : Dev) : Dev :=
  match d.newImage with
  | none => d
  | some n =>
    { d with qch := { d.qch with images := d.qch.images.map (fun (i : QImage) =>
        if i.id = n.id then i
        else { i with pages := i.pages.filter (fun s => !n.pages.any (fun t => t.lpn = s.lpn)) }) } }

/-- One seal copy verifies, and the quench takes its ending (R267): `vBank` is the bank voltage in mV, `eUsed` the energy in
mJ that the input monitors recorded since the trigger. -/
def execSealVerified (vBank eUsed : Nat) (s : State) : Out := s.on fun d =>
  d.when (d.reg .JRN_STATUS_QSTATE = 5 && !d.qch.noGather) fun d =>
    let d := d.quenchPrograms.setImage (fun i => { i with sealed := some d.now })
    let d := { d.supersede with qch := { d.supersede.qch with sealedId := some d.qch.id, vEnd := vBank, eUsed := eUsed } }
    let d := d.setReg .JRN_QDUR_TO_SEAL_US 0 (min ((d.now - d.qch.tq) / 1000) (2 ^ 20 - 1))
    let d := d.setReg .JRN_QDUR_PAGES 0 ((d.newImage.map (·.pages.length)).getD 0)
    (d.setFlag .JRN_STATUS_RETAINED 0 true).takeEnding

/-- PWRFAIL_N high and VIN good have held for 10 ms (R267, R462). -/
def execSupplyGood (s : State) : Out := s.on fun d =>
  let d := { d with pin := { d.pin with pwrfailN := true, pwrfailHighAt := min d.pin.pwrfailHighAt (d.now - 10000000) } }
  let d := d.setFlag .PWR_SUPPLY_VIN_GOOD 0 true
  d.when (d.reg .JRN_STATUS_QSTATE = 6 && d.supplyGood) fun d =>
    if d.qch.sawReset then d.systemReset else d.enterWarm

/-- Each volatile queue with spilled cells is reset where the quench has overwritten a spill page of it (R274): which were
overwritten is the device's own allocation, a free value for each. -/
def Dev.spillOverwritten (d : Dev) : Dev :=
  d.each ((d.qen.queues.filter (fun e => !d.queuePersist e.1 && decide (0 < e.2.spillPages))).map (·.1)) (fun d q =>
    let (f, d) := d.drawFree 274
    if f % 2 = 1 then d.resetQueue q else d)

/-- The restore of a warm return completes (R267, R269): acceptance resumes, hold-up unverified, and a startup checkpoint is
written (R258). -/
def execRestoreComplete (s : State) : Out := s.onCheckpoint (fun d => decide (d.reg .JRN_STATUS_QSTATE = 7)) fun d =>
  let d := d.restoreWarm.setReg .JRN_STATUS_QSTATE 0 0
  let d := d.setFlag .JRN_STATUS_LAST_SEALED 0 (!d.qch.noGather)
  let d := { d with qch := { d.qch with pendings := [] } }
  d.spillOverwritten.startupCheckpoint

/-! ## System-level sources (R382, R383) -/

/-- A system-level reset source: quench trigger 7 while the device runs, at once before Memory Active, and in WARM (R267).
In steps 1 to 3 and 10 to 15 it is recorded; RESET over MCTP ends a halt at step 15 (R372). -/
def Dev.systemSource (d : Dev) (b iface : Nat) : Dev :=
  let d := { d.noteReset 1 b with rst := { d.rst with sysSrc := b } }
  let q := d.reg .JRN_STATUS_QSTATE
  if q ≠ 0 then
    let d := d.extraTrigger 7
    if q = 7 then d.systemReset else d
  else if d.memActive then
    let d := if d.rst.core = .hold then d.releaseCore else d
    d.beginQuench 7 3
  else if 4 ≤ d.step && d.step ≤ 9 then d.systemReset
  else if d.step = 15 && d.flag .PWR_STEP_HALTED && b = 4 && iface = 2 then
    (d.setFlag .PWR_STEP_HALTED 0 false).restartUp
  else d

/-- An internal fatal error (R326): counted, with source 963. -/
def Dev.fatal (d : Dev) : Dev :=
  ({ d with ust := { d.ust with fatals := satAdd 8 d.ust.fatals 1 } }.raise 963).systemSource 3 0

/-- A filtered low on RESET_N (R383, R461). -/
def execResetNAssert (s : State) : Out := s.on fun d =>
  let d := { d with pin := { d.pin with resetN := false } }.count .RST_COUNT_RESET_N
  d.systemSource 2 0

/-- RESET_N rises: a held system reset ends at step 4 (R383). -/
def execResetNRelease (s : State) : Out := s.on fun d =>
  let d := { d with pin := { d.pin with resetN := true } }
  d.when d.rst.held fun d =>
    let d := { d with rst := { d.rst with held := false } }
    if d.step = 4 then d.enterUp 4 else d

/-- A RESET command takes effect (R436). -/
def execResetTakesEffect (s : State) : Out := s.onPower fun d =>
  match d.rst.pend with
  | some p =>
    let d := { d with rst := { d.rst with pend := none } }
    if p.level = 2 then d.systemSource 4 p.iface else d.coreReset 6
  | none => d

/-! ## Watchdog (R388, R442) -/

/-- The watchdog counts: firmware has been started, does not reload after a core reset and is not halted by debug, and no
quench runs. -/
def Dev.wdtRuns (d : Dev) : Bool :=
  decide (5 ≤ d.step) && decide (d.step ≤ 9) && !d.rst.held && !d.mgt.fwDown && !d.rst.fwHalted && decide (d.reg .JRN_STATUS_QSTATE = 0)

/-- The device falls back to the firmware of the other slot (R442): the failed one is marked invalid, source 960. -/
def Dev.fwFallback (d : Dev) : Dev :=
  let bad := d.mgt.fwActive
  let d := { d with mgt := { d.mgt with fw := d.mgt.fw.alter bad (fun x => { x with valid := false }), fwActive := 1 - bad
                                        fwUnproved := false, fwWdtResets := [], fwStartedAt := d.now } }
  (d.setFlag .MGT_STATUS_FALLBACK 0 true).raise 960

/-- A write of RST_WDT.KICK restarts the watchdog; new firmware has then proved itself (R442). -/
def Dev.kickWatchdog (d : Dev) : Dev :=
  { d with rst := { d.rst with kickAt := d.now }, mgt := { d.mgt with fwUnproved := false } }

/-- WATCHDOG_KICK. -/
def execWatchdogKick (s : State) : Out := s.on (·.kickWatchdog)

/-- The watchdog is not restarted within PERIOD_MS (R388): a core reset. Three in a 10 min window make the firmware fall back
(R442). -/
def execWatchdogExpiry (s : State) : Out := s.on fun d =>
  d.when (d.wdtRuns && decide (d.rst.kickAt + d.reg .RST_WDT_PERIOD_MS * 1000000 ≤ d.now)) fun d =>
    let hits := d.now :: d.mgt.fwWdtResets.filter (fun t => tenMinutes t = tenMinutes d.now)
    let d := { d with rst := { d.rst with kickAt := d.now }, mgt := { d.mgt with fwWdtResets := hits } }
    let d := if 3 ≤ hits.length then d.fwFallback else d
    d.coreReset 5

/-! ## Clocks, inputs -/

/-- A PLL has not relocked within 100 µs (R395): an internal fatal error. -/
def execPllRelockTimeout (pll : Nat) (s : State) : Out := s.on fun d =>
  match d.clk.relocking.find pll with
  | some t => d.when (decide (t + 100000 ≤ d.now)) fun d =>
      { d with clk := { d.clk with relocking := d.clk.relocking.del pll } }.fatal
  | none => d

/-- A pulse shorter than its filter is counted and has no other effect (R461): an event source's occurrence count, or a
register. The sources count as occurrences do (R412). -/
def execInputGlitch (pin : FilteredPin) (s : State) : Out := s.on fun d =>
  match pin with
  | .pwrfailN => d.raise 16
  | .resetN => d.raise 17
  | .perst0N => d.raise 96 { heads := 1 }
  | .perst1N => if d.pin.headMode then d.raise 97 { heads := 2 } else d
  | .throtN => d.count .THM_EXT_GLITCH
  | .vhold => d.raise 18
  | .mpgood g => d.count .PWR_MPGg_CNT_GLITCH g

/-- I3C_SCL held low for more than 100 ms resets the target interface: a message in progress is lost (R461). Commands are
accepted whole, so no accepted command is lost. -/
def execI3cSclStuck (s : State) : Out := s.on id

/-! ## Memory Active (R269 step 7) -/

/-- The restart at step 9 completes: what it restores, and acceptance. -/
def execMemoryActive (s : State) : Out :=
  s.onCheckpoint (fun d => d.step = 9 && !d.memActive && !d.rst.held && d.cfg.isSome) fun d =>
    let d := d.watchHealth fun d =>
      let d := d.setFlag .JRN_STATUS_LAST_SEALED 0 d.sealedRestart
      let d := d.restore
      let d := { d with qch := { d.qch with pendings := [] }, med := { d.med with initSpare :=
        if d.med.initSpare = 0 then d.spareLevel else d.med.initSpare } }
      -- the wear credit starts full at the first Memory Active (R151)
      let d := if d.med.creditInit then d
        else { d with med := { d.med with credit := d.wearCap, creditInit := true, accruedAt := d.now } }
      let d := d.each (List.range d.headCount) (fun d h =>
        d.setHead h { d.head h with memActive := d.reg .GLB_HEAD_LINK_WIDTH h = 0 || d.flag .GLB_HEAD_LINK_CXL h })
      let d := d.each ((d.cfg.map (·.counterSets)).getD []) (fun d c => d.startEpoch d.now c)
      d.setFlag .GLB_STATUS_MEM_ACTIVE 0 true
    d.startupCheckpoint

end Sys2Proof.Machine
end

