-- ==== Sys2Proof/Machine/Units.lean ====
section
/-!
DEFINITION. Unit faults, recovery, drains, starts and tests (R131, R225, R317, R326 to R336, R385, R473).
-/
namespace Sys2Proof.Machine

/-! ## Faults (R317, R328) -/

/-- A recoverable fault of a unit is detected (R317): recovery from a serving, draining or quiesced state; FAILED from
STARTING, and from RESETTING. An OFF unit reports no fault. -/
def Dev.recoverableFault (d : Dev) (ix : Nat) : Dev :=
  match d.ustate ix with
  | .online | .degraded | .draining | .quiesced => (d.faultEvent ix .resetting).resetUnit ix 2 true true
  | .starting => (d.faultEvent ix .failed).failUnit ix 2
  | .resetting => (d.faultEvent ix .failed).failUnit ix 4
  | .absent | .off | .failed | .retired => d

/-- An unrecoverable fault. -/
def Dev.unitLoss (d : Dev) (ix : Nat) : Dev :=
  match d.ustate ix with
  | .online | .degraded | .draining | .quiesced | .starting => (d.faultEvent ix .failed).failUnit ix 2
  | .resetting => (d.faultEvent ix .failed).failUnit ix 4
  | .absent | .off | .failed | .retired => d

/-- Queue groups that exist. -/
def Dev.groupsInService (d : Dev) : List Nat := (List.range 256).filter (fun g => d.serves (groupIx g))

/-- The recovery of the queue or tally pipeline fails (R328): groups FAILED, volatile contents freed. -/
def Dev.pipelineFail (d : Dev) : Dev :=
  let d := d.each d.groupsInService (fun d g => d.failUnit (groupIx g) 4)
  { d with qen := { d.qen with recovering := none } }

/-- The engine records of a slice are lost with the pipeline that should replay them (R334, R335). -/
def Dev.loseEngineRecords (d : Dev) (k : Nat) : Dev :=
  let hit := (d.records k).filter (fun x => x.2.req.kind.isEngine)
  let d := d.each hit (fun d x => (d.loseRecord x.2).unlog k x.1)
  let d := { d with tal := { d.tal with items := d.tal.items.filter (fun i => i.slice ≠ k) } }
  let s := d.slice k
  d.setSlice k { s with tt := s.tt.keep (fun _ t => !t.req.kind.isEngine)
                        replayQ := s.replayQ.filter (fun x => !x.2.2.req.kind.isEngine) }

/-- The pipeline and a slice whose records it must replay fault together (R334). -/
def Dev.pipelineDouble (d : Dev) (k : Nat) : Dev :=
  let g := d.groupsInService.headD 0
  ((d.doubleFault (sliceIx k) (groupIx g)).loseEngineRecords k).pipelineFail

/-- A slice fault (R131, R334, R336). -/
def Dev.sliceFault (d : Dev) (k : Nat) : Dev :=
  let b := k ^^^ 1
  let u := d.unit (sliceIx k)
  let v := d.unit (sliceIx b)
  let replaying := u.state = .resetting && !u.testing && u.resetPhase = 0
  let buddyInReset := v.state = .resetting && !v.testing
  let soloByFault := v.state = .failed
  let live := u.state.serves || u.state = .draining || u.state = .quiesced
  let d' := if (live && (buddyInReset || soloByFault)) || replaying then (d.faultEvent (sliceIx k) .failed).pairLost k
    else d.recoverableFault (sliceIx k)
  if d.qen.recovering.isSome && live && (d.records k).any (fun e => e.2.req.kind.isEngine) then d'.pipelineDouble k else d'

/-- SLICE_FAULT: a recoverable slice fault. -/
def execSliceFault (slice : Nat) (s : State) : Out := s.onHealth fun d => d.when (decide (slice < 16)) (·.sliceFault slice)

/-- MEDIA_COMPLEX_FAULT. -/
def execMediaComplexFault (complex : Nat) (s : State) : Out := s.onHealth fun d =>
  d.when (decide (complex < 8)) (·.recoverableFault (complexIx complex))

/-- PIPELINE_FAULT: every ONLINE group is DEGRADED while the pipeline resets (R225, R241); a second fault ends the recovery
(R317). -/
def execPipelineFault (s : State) : Out := s.onHealth fun d =>
  match d.qen.recovering with
  | some _ => (d.each d.groupsInService (fun d g => (d.faultEvent (groupIx g) .failed).failUnit (groupIx g) 4)).pipelineFail
  | none =>
    let d := { d with qen := { d.qen with recovering := some d.now } }
    let d := d.each d.groupsInService (fun d g => (d.faultEvent (groupIx g) .degraded).groupHealth g false)
    match (List.range 16).find? (fun k => (d.unit (sliceIx k)).recovery && (d.records k).any (fun e => e.2.req.kind.isEngine)) with
    | some k => d.pipelineDouble k
    | none => d

/-- DRAM_STACK_FAILURE. A complex in recovery whose operation log lay in the lost stacks alone cannot complete (R334): where
its two copies lie is the device's own choice, a free value unless no stack is left. -/
def execDramStackFailure (stack : Nat) (s : State) : Out := s.onHealth fun d =>
  d.when (decide (stack < 4)) fun d =>
    let again := d.med.remirror
    let d := d.unitLoss (stackIx stack)
    d.each ((List.range 8).filter (fun n => (d.unit (complexIx n)).recovery)) (fun d n =>
      let (f, d) := d.drawFree 334
      if d.onlineStacks.isEmpty || (again && f % 2 = 1) then
        (d.doubleFault (complexIx n) (stackIx stack)).failUnit (complexIx n) 4
      else d)

/-- PACKAGE_FAILURE. -/
def execPackageFailure (package : Nat) (s : State) : Out := s.onHealth fun d =>
  d.when (decide (package < 64)) (·.unitLoss (packageIx package))

/-- HEAD_INTERNAL_ERROR. -/
def execHeadInternalError (head : Nat) (s : State) : Out := s.onHealth fun d =>
  d.when (decide (head < d.headCount)) (·.recoverableFault (headIx head))

/-- FATAL_ERROR: quench trigger 7, then a system reset (R263, R326). -/
def execFatalError (s : State) : Out := s.on Dev.fatal

/-! ## Recovery (R328) -/

/-- The pipeline of the queue and tally engines, where a command names it: one above the last unit index. -/
def pipelineIx : Nat := 542

/-- RECOVERY_COMPLETE: within budget, cause 3 (R317). A test ends under BUILT_IN_TEST_DONE, and a link's retraining under
R345. -/
def execRecoveryComplete (unit : Nat) (s : State) : Out := s.onHealth fun d =>
  if unit = pipelineIx then
    d.when d.qen.recovering.isSome fun d =>
      let d := { d with qen := { d.qen with recovering := none } }
      let d := { d with ust := { d.ust with recovered := satAdd 24 d.ust.recovered 1 } }
      d.each d.groupsInService (fun d g => d.groupHealth g false)
  else
    let u := d.unit unit
    d.when (decide (unit < 222) && unitClass unit ≠ 3 && u.state = .resetting && !u.testing && u.resetPhase = 0) fun d =>
      let d := if u.recovery then { d with ust := { d.ust with recovered := satAdd 24 d.ust.recovered 1 } } else d
      let k := unit - 2
      let d := if u.recovery && unitClass unit = 1 && d.serves (sliceIx (k ^^^ 1)) then d.count .SLC_BUDDY_REPLAY_COUNT (k ^^^ 1) else d
      d.enterService unit 3

/-- RECOVERY_BUDGET_EXCEEDED: 40 µs have passed since detection (R328). -/
def execRecoveryBudgetExceeded (unit : Nat) (s : State) : Out := s.onHealth fun d =>
  if unit = pipelineIx then
    d.when (match d.qen.recovering with | some t => decide (t + 40000 ≤ d.now) | none => false) Dev.pipelineFail
  else
    let u := d.unit unit
    d.when (decide (unit < 222) && unitClass unit ≠ 3 && u.state = .resetting && u.recovery && decide (u.since + 40000 ≤ d.now))
      (·.failUnit unit 4)

/-! ## Drains and the idle handshake (R332, R385) -/

/-- Switch off the domain of a unit that a command takes out (R317). -/
def Dev.domainOff (d : Dev) (ix : Nat) : Dev :=
  match unitClass ix with
  | 1 => d.setFieldBit .PWR_PD_ON 0 (ix - 2) false
  | 2 => d.setFieldBit .PWR_PD_ON 0 (ix - 18 + 16) false
  | 5 => d.setFieldBit .PWR_PD_ON 0 (ix - 218 + 24) false
  | _ => d

/-- A draining unit reaches its target: what it still holds is finished by another party (R332). -/
def Dev.endDrainOf (d : Dev) (ix : Nat) (target : UState) : Dev :=
  let d := d.setUnit ix target (d.unit ix).cause
  let d := match unitClass ix with
    | 1 => d.adopt (ix - 2)
    | 2 => d.complexGone (ix - 18)
    | 3 => (d.setLink (ix - 26) { d.link (ix - 26) with train := 0, rec_ := false, enabled := false }).linkGone (ix - 26)
    | 5 => let d := d.stackGone (ix - 218); if d.memActive then d.checkNoTier.startRegions else d
    | _ => d
  if target = .off || target = .retired then d.domainOff ix else d

/-- Nothing is held: a slice's entries; commands on a complex's links or on a link; a stack's copies of dirty pages (R317).
-/
def Dev.holdsNothing (d : Dev) (ix : Nat) : Bool :=
  match unitClass ix with
  | 1 => (d.slice (ix - 2)).tt.isEmpty && (d.slice (ix - 2)).int.isEmpty
  | 2 => !d.med.cmds.any (fun c => linkComplex (c.1 / 4096) = ix - 18)
  | 3 => !d.med.cmds.any (fun c => c.1 / 4096 = ix - 26)
  | 5 => !(d.pagesOn (ix - 218)).any (fun e => e.2.dirty)
  | _ => true

/-- UNIT_IDLE: a draining unit is idle; a resetting unit answers the quiesce request (R385 step 2). -/
def execUnitIdle (unit : Nat) (s : State) : Out := s.onHealth fun d =>
  let u := d.unit unit
  match u.state, u.target with
  | .draining, some t => d.when (d.holdsNothing unit) (·.endDrainOf unit t)
  | .resetting, _ => d.when (u.resetPhase = 1) fun d =>
      (d.setUnitRec unit { u with resetPhase := 2, phaseAt := d.now }).count .RST_COUNT_UNIT
  | _, _ => d

/-- The idle-handshake timeout of a unit in ns (R385). -/
def Dev.handshakeNs (d : Dev) (ix : Nat) : Nat :=
  if unitClass ix = 1 then 8000 else d.reg .RST_HS_TMO_US * 1000

/-- IDLE_HANDSHAKE_TIMEOUT. A stack that drains for RETIRE waits for its dirty pages (R317). -/
def execIdleHandshakeTimeout (unit : Nat) (s : State) : Out := s.onHealth fun d =>
  let u := d.unit unit
  let n := d.handshakeNs unit
  match u.state, u.target with
  | .draining, some t => d.when (unitClass unit ∈ [1, 2, 3] && decide (u.since + n ≤ d.now)) fun d =>
      (d.count .RST_HS_TIMEOUTS).endDrainOf unit t
  | .resetting, _ => d.when (u.resetPhase = 1 && decide (u.phaseAt + n ≤ d.now)) fun d =>
      ((d.setUnitRec unit { u with resetPhase := 2, phaseAt := d.now }).count .RST_COUNT_UNIT).count .RST_HS_TIMEOUTS
  | _, _ => d

/-- Hold times of a unit reset in ns (R385). -/
def holdNs (ix : Nat) : Nat :=
  match unitClass ix with
  | 1 => 4000
  | 2 => 10000
  | 5 => 50000
  | _ => 0

/-- Each die homed on a complex passes through the package's reset command (R329): its operation is gone. -/
def Dev.resetDies (d : Dev) (n : Nat) : Dev :=
  d.each (d.ring.filter (fun die => (d.naturalLink die).map linkComplex = some n)) (fun d die =>
    match d.naturalLink die with
    | none => d
    | some m =>
      if !d.serves (linkIx m) then d else
      let x := d.die die
      let d := d.setDie die { x with op := none, thru := none }
      { d with med := { d.med with cmds := d.med.cmds.put (m * 4096 + d.med.nextTag % 4096)
                                      { op := 6, die, opid := x.opid, issuedAt := d.now, use := .control }
                                   nextTag := (d.med.nextTag + 1) % 4096 } })

/-- UNIT_RESET_RELEASE: a slice starts its replay, a complex replays its operation log (R131, R329). -/
def execUnitResetRelease (unit : Nat) (s : State) : Out := s.on fun d =>
  let u := d.unit unit
  d.when (u.state = .resetting && u.resetPhase = 2 && decide (u.phaseAt + holdNs unit ≤ d.now)) fun d =>
    let d := d.setUnitRec unit { u with resetPhase := 0, phaseAt := d.now }
    if unitClass unit = 2 then (d.replayOps (unit - 18)).resetDies (unit - 18) else d

/-! ## Starts and tests (R330, R473) -/

/-- The sentinels of a package's dies are measured before any read of their data (R185). -/
def Dev.measureSentinels (d : Dev) (p : Nat) : Dev :=
  d.each (d.ring.filter (fun die => diePkg die = p)) (fun d die => d.sendCmd 8 die (.sentinel true))

/-- A package is in service from STARTING: a replacement's blocks are FREE and unworn, and the initial spare is taken anew
(R176 step 5, R199); another's sentinels are measured. -/
def Dev.packageStarted (d : Dev) (p : Nat) : Dev :=
  let x := d.pkg p
  if x.replacing then
    let d := { d with med := { d.med with blocks := d.med.blocks.keep (fun k _ => k / 1024 / 16 ≠ p)
                                          dies := d.med.dies.map (fun (e : Nat × Die) =>
                                            if diePkg e.1 = p then (e.1, { sentinelDue := true }) else e) } }
    let d := d.setPkg p { x with replacing := false, rebuilt := true, denseClosed := false, fastClosed := false }
    { d with med := { d.med with initSpare := d.spareLevel } }.judgeCapacity
  else d.measureSentinels p

/-- What follows once a stack or complex serves again: regions that waited for one come back (R369, R370). -/
def Dev.afterService (d : Dev) (ix : Nat) : Dev :=
  match unitClass ix with
  | 2 => if d.memActive then d.startRegions else d
  | 4 => d.packageStarted (ix - 154)
  | 5 => if d.memActive then (d.checkNoTier.startRegions.remirrorState true).judgePdeg else d
  | _ => d

/-- INITIALISATION_PASSED: a STARTING unit becomes ONLINE or DEGRADED with the cause of its start. A link passes by its
training (R345), a package once a port of it serves. -/
def execInitialisationPassed (unit : Nat) (s : State) : Out := s.onHealth fun d =>
  let u := d.unit unit
  let ready := match unitClass unit with
    | 1 | 2 | 5 => true
    | 4 => (d.pkgLinks (unit - 154)).any (fun x => d.serves (linkIx x.2))
    | _ => false
  d.when (u.state = .starting && ready) fun d => (d.enterService unit u.cause).afterService unit

/-- START_BOUND_EXPIRY: the bound of R473 has passed. -/
def execStartBoundExpiry (unit : Nat) (s : State) : Out := s.onHealth fun d =>
  let u := d.unit unit
  d.when (u.state = .starting && (match u.bound with | some t => decide (t ≤ d.now) | none => false)) (·.failUnit unit 8)

/-- A link is trained by its test, or by that of its complex (R330). -/
def Dev.linkTested (d : Dev) (m : Nat) : Dev :=
  (d.setLink m { d.link m with train := 6, mode := 0, enabled := true, rec_ := false, fulls := [], activeAt := d.now }).enterService
    (linkIx m) 3

/-- The links of a complex that its test retrains. -/
def Dev.testedLinks (d : Dev) (n : Nat) : List Nat :=
  ((List.range 16).map (fun i => 16 * n + i)).filter (fun m => (d.unit (linkIx m)).testing)

/-- BUILT_IN_TEST_DONE: a pass is followed by initialisation and service with cause 3, a failure by FAILED with cause 8. -/
def execBuiltInTestDone (unit : Nat) (pass : Bool) (s : State) : Out := s.onHealth fun d =>
  let u := d.unit unit
  d.when (u.state = .resetting && u.testing) fun d =>
    match unitClass unit, pass with
    | 3, true => d.linkTested (unit - 26)
    | 2, true =>
      let ms := d.testedLinks (unit - 18)
      let d := (d.enterService unit 3).afterService unit
      d.each ms Dev.linkTested
    | 2, false => (d.each (d.testedLinks (unit - 18)) (fun d m => d.failUnit (linkIx m) 6)).failUnit unit 8
    | _, true => (d.enterService unit 3).afterService unit
    | _, false => d.failUnit unit 8

/-- STATE_DIGEST_EXPIRY: 60 s after its last page read a snapshot is freed (R337). -/
def execStateDigestExpiry (iface : Nat) (s : State) : Out := s.on fun d =>
  match d.ust.snaps.find iface with
  | some x => d.when (decide (x.lastRead + 60000000000 ≤ d.now)) fun d =>
      { d with ust := { d.ust with snaps := d.ust.snaps.del iface } }
  | none => d

end Sys2Proof.Machine
end

