-- ==== Sys2Proof/Machine/Links.lean ====
section
/-!
DEFINITION. M-links and the media sideband (R339 to R355), and the responses of packages: grain decoding and the read-retry
ladder (R187 to R190), row and block outcomes (R164 to R167), sentinels (R185).
-/
namespace Sys2Proof.Machine

/-! ## Training (R345) -/

/-- LINK_EVENT of an M-link (R469): its package, its training state and its CRC error count. -/
def Dev.linkEvent (d : Dev) (m train : Nat) : Dev :=
  d.raise (512 + m) { a := ((d.linkPkg m).map (·.1)).getD 0, b := train, c := d.reg .MCX_LINKi_ERR_CRC m }

/-- The package on a link, starting with no port left to train, does not start: a replacement stays OFF with an event
(R176 step 5), another goes FAILED (R327). -/
def Dev.portsLost (d : Dev) (m : Nat) : Dev :=
  match d.linkPkg m with
  | none => d
  | some (p, _) =>
    if d.ustate (packageIx p) = .starting && (d.pkgLinks p).all (fun x => d.ustate (linkIx x.2) ∈ [.failed, .retired, .off, .absent])
    then
      if (d.pkg p).replacing then
        let g := p / max 1 (((d.cfg.map (·.wiring.pkgCount)).getD 16) / 8)
        (d.setUnit (packageIx p) .off 8).raise (387 + 16 * g) { unitId := unitIdOf (packageIx p), state := 1, a := p }
      else d.failUnit (packageIx p) 6
    else d

/-- A link leaves training FAILED. -/
def Dev.trainFail (d : Dev) (m cause train : Nat) : Dev :=
  let d := d.setLink m { d.link m with train := 0, rec_ := false }
  ((d.linkEvent m train).failUnit (linkIx m) cause).portsLost m

/-- A full training starts in DETECT with 2 lanes at 24 Gb/s; the third within 1 s fails the link (R345). -/
def Dev.fullTraining (d : Dev) (m cause : Nat) : Dev :=
  let x := d.link m
  let fulls := x.fulls.filter (fun t => decide (d.now < t + 1000000000)) ++ [d.now]
  if 3 ≤ fulls.length then (d.setLink m { x with fulls }).trainFail m 4 1
  else
    let d := d.setLink m { x with train := 1, mode := 0, since := d.now, rec_ := false, fulls }
    if d.ustate (linkIx m) = .starting then d else d.setUnit (linkIx m) .starting cause

/-- A port is enabled (R345): its link trains from DISABLED, unless it has failed or been retired. -/
def Dev.enableLink (d : Dev) (m cause : Nat) : Dev :=
  let d := d.setLink m { d.link m with enabled := true }
  if (d.ustate (linkIx m) = .off || d.ustate (linkIx m) = .starting) && (d.link m).train = 0 then d.fullTraining m cause else d

/-- The next mode of DETECT; after the last the link fails (R345). -/
def Dev.nextMode (d : Dev) (m : Nat) : Dev :=
  let x := d.link m
  if 5 ≤ x.mode then d.trainFail m 8 1
  else d.setLink m { x with train := 1, mode := x.mode + 1, since := d.now, rec_ := false }

/-- ACTIVE to RECOVERY (R345): dies are re-homed, their commands go to another port (R351). -/
def Dev.enterRecovery (d : Dev) (m : Nat) : Dev :=
  let d := d.count .MCX_LINKi_ERR_RETRAINS m
  let d := (d.setLink m { d.link m with train := 7, rec_ := true, since := d.now }).linkEvent m 7
  if d.ustate (linkIx m) ∈ [.failed, .retired, .absent, .off] then d else
  let d := d.setUnit (linkIx m) .resetting 5
  (d.setUnitRec (linkIx m) { d.unit (linkIx m) with recovery := true }).linkGone m

/-- DETECT_TIMEOUT: 1 ms without block lock. -/
def execDetectTimeout (link : Nat) (s : State) : Out := s.onHealth fun d =>
  let x := d.link link
  d.when (decide (link < 128) && x.train = 1 && decide (x.since + 1000000 ≤ d.now)) (·.nextMode link)

/-- BLOCK_LOCK_ACQUIRED: every lane of the mode has lock. -/
def execBlockLockAcquired (link : Nat) (s : State) : Out := s.on fun d =>
  let x := d.link link
  d.when (decide (link < 128) && (x.train = 1 || x.train = 7)) (·.setLink link { x with train := 2 })

/-- TRAIN_BLOCK_RECEIVED: the port and package type that the package names, and the reversal and polarity seen. A
training that follows RECOVERY keeps its presets and goes on to DESKEW. -/
def execTrainBlockReceived (link port ptype : Nat) (reversed : Bool) (polarity : Nat) (s : State) : Out := s.onHealth fun d =>
  let x := d.link link
  d.when (decide (link < 128) && x.train = 2) fun d =>
    let want := (d.cfg.map (·.wiring.pkgType)).getD 0
    if (d.linkPkg link).map (·.2) = some port && ptype = want then
      let d := (d.setFlag .MCX_LINKi_STAT_REVERSED link reversed).setReg .MCX_LINKi_STAT_POLARITY link polarity
      d.setLink link { x with train := if x.rec_ then 4 else 3 }
    else d.trainFail link 8 2

/-- EQ_COMPLETE: both receivers have chosen presets. -/
def execEqComplete (link : Nat) (s : State) : Out := s.on fun d =>
  let x := d.link link
  d.when (decide (link < 128) && x.train = 3) (·.setLink link { x with train := 4 })

/-- DESKEW_COMPLETE. -/
def execDeskewComplete (link : Nat) (s : State) : Out := s.on fun d =>
  let x := d.link link
  d.when (decide (link < 128) && x.train = 4) (·.setLink link { x with train := 5 })

/-- CHECK_PASS: the link is ACTIVE; a recovery passes within its 50 µs (R345). -/
def execCheckPass (link : Nat) (s : State) : Out := s.onHealth fun d =>
  let x := d.link link
  d.when (decide (link < 128) && x.train = 5 && (!x.rec_ || decide (d.now < x.since + 50000))) fun d =>
    let u := d.unit (linkIx link)
    let d := d.setLink link { x with train := 6, rec_ := false, activeAt := d.now }
    if u.state = .resetting then
      let d := { d with ust := { d.ust with recovered := satAdd 24 d.ust.recovered 1 } }
      d.enterService (linkIx link) 3
    else d.enterService (linkIx link) u.cause

/-- BLOCK_LOCK_LOST: 32 consecutive invalid sync headers (R343). -/
def execBlockLockLost (link : Nat) (s : State) : Out := s.onHealth fun d =>
  d.when (decide (link < 128) && (d.link link).train = 6) (·.enterRecovery link)

/-- RECOVERY_TIMEOUT: 50 µs have passed. -/
def execRecoveryTimeout (link : Nat) (s : State) : Out := s.onHealth fun d =>
  let x := d.link link
  d.when (decide (link < 128) && x.rec_ && decide (x.since + 50000 ≤ d.now)) (·.fullTraining link 5)

/-- HOME_PORT_RETURN: a port has been ONLINE for 1 s, and the dies whose home port it is return (R341). -/
def execHomePortReturn (link : Nat) (s : State) : Out := s.on fun d =>
  d.when (decide (link < 128) && d.ustate (linkIx link) = .online && decide ((d.link link).activeAt + 1000000000 ≤ d.now)) fun d =>
    { d with med := { d.med with dies := d.med.dies.map (fun (e : Nat × Die) =>
      if d.naturalLink e.1 = some link then (e.1, { e.2 with home := none }) else e) } }

/-! ## Reissue (R350) -/

/-- Reissue a listed command: a PROGRAM or CLEAR as QUERY; a READ counts on its block again (R16). -/
def Dev.reissue (d : Dev) (key : Nat) (c : MCmd) : Dev :=
  let d := d.count .MCX_LINKi_ERR_REISSUE (key / 4096)
  let d := d.readAgain c
  let op := if c.op = 2 || c.op = 3 then 7 else c.op
  { d with med := { d.med with cmds := d.med.cmds.put key { c with op := op, issuedAt := d.now } } }

/-- The time without a response after which a command is reissued, ns. -/
def reissueAfter (op : Nat) : Nat :=
  match op with
  | 1 | 8 => 2000
  | 2 => 20000
  | 3 => 1000000
  | _ => 5000

/-- COMMAND_REISSUE_TIMEOUT. -/
def execCommandReissueTimeout (link tag : Nat) (s : State) : Out := s.on fun d =>
  match d.med.cmds.find (link * 4096 + tag % 4096) with
  | some c => d.when (decide (c.issuedAt + reissueAfter c.op ≤ d.now)) (·.reissue (link * 4096 + tag % 4096) c)
  | none => d

/-- FRAME_CRC_FAILURE: the frame is dropped and counted; `tag` names the command whose response it was, if any (R350). 16 in
one 1 ms window take an ACTIVE link to RECOVERY; in CHECK one starts the next mode (R345). -/
def execFrameCrcFailure (link : Nat) (tag : Option Nat) (s : State) : Out := s.onHealth fun d =>
  d.when (decide (link < 128)) fun d =>
    let d := d.count .MCX_LINKi_ERR_CRC link
    let d := match tag with
      | some t => match d.med.cmds.find (link * 4096 + t % 4096) with
        | some c => d.reissue (link * 4096 + t % 4096) c
        | none => d
      | none => d
    let x := d.link link
    if x.train = 5 then d.nextMode link
    else if x.train = 6 then
      let w := d.now / 1000000
      let n := (if x.crc.1 = w then x.crc.2 else 0) + 1
      let d := d.setLink link { x with crc := (w, n) }
      if 16 ≤ n then d.enterRecovery link else d
    else d

/-! ## Reads: decoding and the ladder (R187 to R190) -/

/-- The set that a step of the ladder reads with, if it exists (R188). -/
def stepSet (s step : Nat) : Option Nat :=
  match step with
  | 1 | 4 => if s + 1 ≤ 31 then some (s + 1) else none
  | 2 => if 1 ≤ s then some (s - 1) else none
  | 3 => if s + 2 ≤ 31 then some (s + 2) else none
  | _ => some s

/-- The next step of the ladder after a failed one; 5 is the rebuild. A 1-bit band has one reference (R186), so none of
steps 1 to 4 exists for it. -/
def nextStep (s step : Nat) : Nat := (([1, 2, 3, 4].filter (fun t => decide (step < t) && (stepSet s t).isSome)).head?).getD 5

/-- A band becomes urgent for the lehr (R190). -/
def Dev.urge (d : Dev) (b : Nat) : Dev := match d.band b with | some x => d.setBand b { x with urgent := true } | none => d

/-- Give a band a dose (R190). -/
def Dev.giveDose (d : Dev) (b dose : Nat) : Dev :=
  match d.band b with
  | some x => d.setBand b { x with adj := x.adj + (dose : Int) - (d.bandDose x : Int) }
  | none => d

/-- A band closes before its last row, and the pages of its rows not yet verified go back to their streams (R165, R194). -/
def Dev.shutBand (d : Dev) (b : Nat) : Dev :=
  let rows := d.med.rows.filter (fun x => x.band = b)
  ((d.closeBand b .victim).rejoin rows).recopy

/-- A grain of a block has needed a step from 3 on, 6 where none decoded it (R194): the block is marked to retire at step 4
or worse below 24 eq-h, or at the third time below 720 eq-h. A marked block in an open band closes it at its last verified
row. -/
def Dev.noteDeep (d : Dev) (b key step : Nat) : Dev :=
  match d.band b with
  | none => d
  | some x =>
    let dose := d.bandDose x
    let y := d.block key
    let y := { y with deep := if decide (dose < 720 * 1024) then satAdd 8 y.deep 1 else y.deep }
    let mark := (decide (4 ≤ step) && decide (dose < 24 * 1024)) || decide (3 ≤ y.deep)
    let d := d.setBlock key { y with marked := y.marked || mark }
    if mark && x.state = .opened && x.stream ≠ 5 then d.shutBand b else d

/-- A grain has been delivered after a failed decode (R198). -/
def Dev.corrected (d : Dev) : Dev := { d with med := { d.med with corrPers := d.med.corrPers + 1 } }

/-- A successful step of the ladder updates dose, urgency and the block's record (R187, R190, R194): `used` is the reference
set that the read used, `errors` the bits it corrected. A 1-bit band has one reference, so no step gives it a dose. -/
def Dev.ladderSuccess (d : Dev) (b key step used errors mc : Nat) : Dev :=
  match d.band b with
  | none => d
  | some x =>
    let dose := d.bandDose x
    let d := if step ≤ 3 then d.count .MCX_ECC_CNT1_HARD_RETRY mc else if step = 4 then d.count .MCX_ECC_CNT1_SOFT mc
             else d.count .MCX_ECC_CNT1_REBUILT mc
    let d := if x.stream = 5 then d
             else if step = 1 || step = 3 then d.giveDose b (max dose (setDose used))
             else if step = 2 then d.giveDose b (min dose (setDose used)) else d
    let y := d.block key
    let d := d.setBlock key { y with maxCb := if step ≤ 4 then max y.maxCb errors else y.maxCb }
    (if 3 ≤ step then (d.urge b).noteDeep b key step else d).checkOverdue

/-- A grain decodes at step 0 (R187, R190). -/
def Dev.plainSuccess (d : Dev) (b key errors mc : Nat) : Dev :=
  let d := if errors = 0 then d else d.count .MCX_ECC_CNT0_CORRECTED mc
  let y := d.block key
  let d := d.setBlock key { y with maxCb := max y.maxCb errors }
  if 12 ≤ errors then (d.count .MCX_ECC_CNT0_HIGH_CB mc).urge b else d

/-- The block key of a member of a band. -/
def Dev.memberKey (d : Dev) (b : Band) (die : Nat) : Nat := blockKey die (b.blocks.getD ((d.setDies b.set).idxOf die) 0)

/-- A grain that no step decodes (R175, R188): the pages of its row where three or more members are lost, the grain
otherwise. -/
def Dev.loseGrain (d : Dev) (n : Nat) : Dev :=
  match d.med.reads.find n with
  | none => d
  | some r =>
    let d := d.setRead n { r with lost := true, ready := true }
    match d.band (entryBand r.loc) with
    | none => d
    | some b =>
      let d := if r.step = 0 then d else d.noteDeep (entryBand r.loc) (d.memberKey b r.die) 6
      if 3 ≤ d.lostMembers b then d.loseRow (entryBand r.loc) (entryRow r.loc)
      else d.poisonGrain r.lpn r.grain (d.complexOf r.die) (d.memberKey b r.die) (entryRow r.loc)

/-- A read that no slice waits for goes when its ladder ends. -/
def Dev.endLadder (d : Dev) (n : Nat) : Dev :=
  match d.med.reads.find n with
  | some r => if 16 ≤ r.slice && r.ready && !isMeta r.lpn then { d with med := { d.med with reads := d.med.reads.del n } } else d
  | none => d

/-- Step 5 of the ladder, or the only path left: read-around, unless one runs; without one the grain is lost. -/
def Dev.rebuildGrain (d : Dev) (n : Nat) : Dev :=
  match d.med.reads.find n with
  | none => d
  | some r =>
    let d := d.setRead n { r with step := 5 }
    -- where a rescue has delivered the grain, it was the ladder's first success (R189)
    if r.ready || (decide (16 ≤ r.slice) && r.rescue) then
      let key := match d.band (entryBand r.loc) with | some b => d.memberKey b r.die | none => 0
      let d := (d.ladderSuccess (entryBand r.loc) key 5 r.refs 0 (d.complexOf r.die)).setRead n { r with step := 5, ready := true }
      d.endLadder n
    else if !r.members.isEmpty then d
    else
      let d := d.startAround n { r with step := 5 }
      match d.med.reads.find n with
      | some q => if q.members.isEmpty then (d.loseGrain n).endLadder n else d
      | none => d

/-- The grain of a direct read fails to decode: the next step of the ladder; a demand read is rescued beside it (R189). -/
def Dev.climb (d : Dev) (n : Nat) (r : MRead) : Dev :=
  match d.band (entryBand r.loc) with
  | none => d
  | some b =>
    let t := if b.stream = 5 then 5 else nextStep (refSet (d.bandDose b)) r.step
    let first := r.step = 0 && decide (r.slice < 16)
    let d := d.setRead n { r with step := t, soft := 0 }
    -- the block's health record: a descent, and a grain that reaches step 5 (R200)
    let k := blockKey r.die (b.blocks.getD ((d.setDies b.set).idxOf r.die) 0)
    let y := d.block k
    let d := d.setBlock k { y with ladder := if r.step = 0 then satAdd 16 y.ladder 1 else y.ladder
                                   maxCb := if t = 5 then 255 else y.maxCb }
    let d := if first then d.rescue n false else d
    -- step 4 reads three times (R188)
    if t ≤ 4 then d.each (List.range (if t = 4 then 3 else 1)) (fun d _ => d.putRead r.die (.grain n false) r.rank r.deadline)
    else d.rebuildGrain n

/-- A grain read directly arrives. -/
def Dev.directGrain (d : Dev) (n errors : Nat) : Dev :=
  match d.med.reads.find n with
  | none => d
  | some r =>
    match d.band (entryBand r.loc) with
    | none => d
    | some b =>
      let mc := d.complexOf r.die
      let key := d.memberKey b r.die
      -- the soft decode of step 4 takes all three READs
      if r.step = 4 && decide (r.soft < 2) then d.setRead n { r with soft := r.soft + 1 }
      else if errors ≤ (if r.step = 4 then 30 else 18) then
        let d := if r.step = 0 then d.plainSuccess (entryBand r.loc) key errors mc
                 else
                   let d := if r.ready || (decide (16 ≤ r.slice) && r.rescue) then d else d.corrected
                   d.ladderSuccess (entryBand r.loc) key r.step r.refs errors mc
        (d.setRead n { r with ready := true }).endLadder n
      else d.climb n r

/-- A member grain of a read-around arrives (R143). -/
def Dev.memberGrain (d : Dev) (n die errors : Nat) : Dev :=
  match d.med.reads.find n with
  | none => d
  | some r =>
    match d.band (entryBand r.loc) with
    | none => d
    | some b =>
      let mc := d.complexOf die
      if errors ≤ 18 then
        let d := d.plainSuccess (entryBand r.loc) (d.memberKey b die) errors mc
        let d := d.setRead n { r with arrived := r.arrived + 1, ready := r.ready || decide (8 ≤ r.arrived + 1) }
        -- the rebuild of step 5; a rescue that ends first is no step of the ladder, which goes on (R189)
        let d := if r.arrived + 1 = 8 && !r.ready && decide (0 < r.step) then d.corrected else d
        if r.arrived + 1 = 8 && !r.ready && r.step = 5 then
          d.ladderSuccess (entryBand r.loc) (d.memberKey b r.die) 5 r.refs 0 (d.complexOf r.die)
        else d
      else
        match (d.setDies b.set).find? (fun m => m ≠ r.die && !r.members.contains m && d.dieReachable m) with
        | some m => (d.setRead n { r with members := r.members ++ [m] }).putRead m (.grain n true) r.rank r.deadline
        | none =>
          if r.ready then d
          else if r.step = 5 || !d.dieReachable r.die then (d.loseGrain n).endLadder n
          else if d.med.cmds.any (fun c => c.2.use = .grain n false) || !(d.queuedOn (fun u => u = .grain n false)).isEmpty then
            d.setRead n { r with members := [] }
          else (d.setRead n { r with members := [], path := .direct }).putRead r.die (.grain n false) r.rank r.deadline

/-- The pages of a row: what names it. -/
def Dev.rowPages (d : Dev) (band row : Nat) : List (Nat × Nat) := (d.heldIn band).filter (fun e => entryRow e.2 = row)

/-- A scanned sheet arrives (R192): each grain's errors; a grain of a valid page that fails goes down the ladder as a
background read. -/
def Dev.scanned (d : Dev) (band row die : Nat) (errors : List Nat) : Dev :=
  match d.band band with
  | none => d
  | some b =>
    let mc := d.complexOf die
    let key := d.memberKey b die
    let pos := (d.setDies b.set).idxOf die
    d.each ((List.range 16).filterMap (fun i => (errors[i]?).map (fun e => (i, e)))) (fun d x =>
      if x.2 ≤ 18 then d.plainSuccess band key x.2 mc
      else
        match (dataPositions row).idxOf? pos with
        | none => d
        | some strip =>
          let k := 8 * x.1 + strip
          match (d.rowPages band row).find? (fun e => entrySlot e.2 = k / 16) with
          | none => d
          | some e =>
            let n := d.med.nextRead
            let r : MRead := { slice := 16, entry := 0, loc := e.2, lpn := e.1, grain := k % 16, die, path := .direct
                               predicted := d.now, deadline := noDeadline, rank := 6, refs := d.readSet band 0 0 / 2 }
            ({ d with med := { d.med with nextRead := n + 1 } }).climb n r)

/-- DATA_RESPONSE: the grains of a READ arrive, each with the number of its bit errors. -/
def execDataResponse (link tag : Nat) (errors : List Nat) (s : State) : Out := s.on fun d =>
  let key := link * 4096 + tag % 4096
  match d.med.cmds.find key with
  | some c => d.when (c.op = 1) fun d =>
      let d := { d with med := { d.med with cmds := d.med.cmds.del key } }
      let stamp := fun (n : Nat) => (d.med.reads.find n).bind d.readStamp
      let d := match c.use with
        | .grain n false => d.causedBy (stamp n) (·.directGrain n (errors.headD 0))
        | .grain n true => d.causedBy (stamp n) (·.memberGrain n c.die (errors.headD 0))
        | .scan b r => d.scanned b r c.die errors
        | _ => d
      d.metaReads.goOn c.die
  | none => d

/-! ## Other responses (R346, R348) -/

/-- Forget a listed command. -/
def Dev.dropCmd (d : Dev) (key : Nat) : Dev := { d with med := { d.med with cmds := d.med.cmds.del key } }

/-- A die's program or clear with an OPID is over, or its through program. -/
def Dev.endOp (d : Dev) (die opid : Nat) (thru : Bool) : Dev :=
  if thru then d.setDie die { d.die die with thru := none } else
  match (d.die die).op with
  | some o => if o.opid = opid then d.setDie die { d.die die with op := none } else d
  | none => d

/-- The outcome of a program or clear (R165, R167): done, failed, or aborted by a reset of its die. -/
def Dev.opOutcome (d : Dev) (key : Nat) (c : MCmd) (stat : Nat) : Dev :=
  let d := (d.dropCmd key).endOp c.die c.opid (match c.use with | .thru _ => true | _ => false)
  let d := d.goOn c.die
  match c.use with
  | .sheet b row pos =>
    if stat = 0 then d
    else match d.med.rows.find? (fun r => r.band = b && r.row = row && r.pages.length = 8) with
      | some r => d.failRow r (if stat = 1 then some pos else none)
      | none => d
  | .clear k =>
    let x := d.block k
    if x.state ≠ .clearing then d
    else if stat = 0 then d.setBlock k { x with state := .ready, wear := x.wear + 50 }
    else if stat = 1 then d.retireBlock k
    else d.setBlock k { x with state := .free }
  | .thru n =>
    -- which block of the die the zone uses for through sheets is open
    let d := if stat = 1 then
        let (f, d) := d.drawFree 257
        let k := blockKey c.die (f % 1024)
        d.setBlock k { d.block k with marked := true }
      else d
    let d := if stat = 0 then d else d.rewriteSheet n c.die
    -- in a quench the operation that it suspended is abandoned (R142)
    if d.reg .JRN_STATUS_QSTATE ≠ 0 && ((d.die c.die).op.bind (·.suspended)).isSome then d.resetDie c.die else d
  | _ => d

/-- A die's sentinel could not be read (R185): bands with a member on it take at least 720 eq-h. -/
def Dev.sentinelLost (d : Dev) (die : Nat) : Dev :=
  let d := d.setDie die { d.die die with fallback := true, sentinelDue := true }
  let d := d.each (d.med.bands.filter (fun e => (d.setDies e.2.set).contains die)) (fun d e =>
    d.giveDose e.1 (max (d.bandDose e.2) (720 * 1024)))
  (d.raise (386 + 16 * d.complexOf die) { a := diePkg die + (die % 16) * 256 }).checkOverdue

/-- DONE_RESPONSE: STAT 0 OK, 1 FAIL, 2 ABORTED, 3 INVALID, 4 RUNNING, 5 UNKNOWN, 6 OVERFLOW. -/
def execDoneResponse (link tag stat : Nat) (s : State) : Out := s.onHealth fun d =>
  let key := link * 4096 + tag % 4096
  match d.med.cmds.find key with
  | none => d
  | some c =>
    match c.op with
    | 2 | 3 => if stat ≤ 2 then (d.opOutcome key c stat).judgeCapacity else d.reissue key c
    | 7 =>
      if stat ≤ 2 then (d.opOutcome key c stat).judgeCapacity
      else if stat = 5 then
        let op := match c.use with | .clear _ => 3 | _ => 2
        { d with med := { d.med with cmds := d.med.cmds.put key { c with op := op, issuedAt := d.now } } }
      else { d with med := { d.med with cmds := d.med.cmds.put key { c with issuedAt := d.now } } }
    | 1 => d.reissue key c
    | 8 =>
      (match c.use with
       | .sentinel true => if stat = 0 then d.dropCmd key else if stat = 1 then (d.dropCmd key).sentinelLost c.die
                           else d.reissue key c
       | _ =>
         let d := d.dropCmd key
         if stat = 0 then
           d.setDie c.die { d.die c.die with sentinelDose := d.pkgDose (diePkg c.die), sentinelAt := d.now, sentinelDue := false }
         else d)
    | _ => d.dropCmd key

/-- SUSPENDED_RESPONSE: the suspension is in effect. -/
def execSuspendedResponse (link tag : Nat) (s : State) : Out := s.on fun d =>
  let key := link * 4096 + tag % 4096
  match d.med.cmds.find key with
  | some c => d.when (c.op = 4) fun d => (d.dropCmd key).goOn c.die
  | none => d

/-- The dose, in 1/1024 eq-h rounded down, of a measured position `x` in 1/16 reference-set steps: the inverse of R186,
8 (2^(x/64) - 1). -/
def doseOfPosition (x : Nat) : Nat :=
  (List.range 22).reverse.foldl (fun a k =>
    if (8192 + a + 2 ^ k) ^ 64 ≤ 2 ^ x * 8192 ^ 64 then a + 2 ^ k else a) 0

/-- SENTINEL_DATA_RESPONSE: the measured positions of the 15 boundaries. Where they differ, which dose they stand for is
open: one of them, free. The off-time dose, 1.1 × what the counter has not added, goes to every band with a member on the
die (R185). -/
def execSentinelDataResponse (link tag : Nat) (positions : List Nat) (s : State) : Out := s.onHealth fun d =>
  let key := link * 4096 + tag % 4096
  match d.med.cmds.find key with
  | some c => d.when (c.use = .sentinel true && !positions.isEmpty) fun d =>
      let (f, d) := d.drawFree 185
      let x := positions.getD (f % positions.length) 0
      let d := d.dropCmd key
      let y := d.die c.die
      let off := (doseOfPosition (min x 512) - (d.pkgDose (diePkg c.die) - y.sentinelDose)) * 11 / 10
      let d := d.setDie c.die { y with sentinelDue := true, fallback := false }
      let d := d.each (d.med.bands.filter (fun e => (d.setDies e.2.set).contains c.die)) (fun d e =>
        d.setBand e.1 { e.2 with adj := e.2.adj + (off : Int) })
      d.checkOverdue
  | none => d

/-! ## Sideband (R352 to R354, R176) -/

/-- Packages of a group: N / 8 (R339). -/
def Dev.groupSize (d : Dev) : Nat := max 1 (((d.cfg.map (·.wiring.pkgCount)).getD 16) / 8)

/-- The ports that a position trains: its hot-add entry's, or all that the link map gives it (R471). -/
def Dev.portMask (d : Dev) (p : Nat) : Nat :=
  match d.cfg.bind (fun c => c.wiring.hotAdd.find? (fun h => h.position = p)) with
  | some h => h.portMask
  | none => (d.pkgLinks p).foldl (fun a x => a ||| 2 ^ x.1) 0

/-- The package type that a position expects. -/
def Dev.wantType (d : Dev) (p : Nat) : Nat :=
  match d.cfg.bind (fun c => c.wiring.hotAdd.find? (fun h => h.position = p)) with
  | some h => h.ptype
  | none => (d.cfg.map (·.wiring.pkgType)).getD 0

/-- A package that answers where none was known is identified (R176 step 4, R354). -/
def Dev.identify (d : Dev) (p ptype dies serial susp : Nat) (refs : List Nat) : Dev :=
  let a := p % d.groupSize
  let g := p / d.groupSize
  let fresh := d.ustate (packageIx p) = .absent
  let d := d.setFieldBit .MCX_SB_STAT_PRESENT g a true
  let d := d.setPkg p { d.pkg p with present := true, serial := serial, ptype := ptype, dies := dies, caps := susp
                                     pwrGood := false, portEn := 0, missed := 0, replacing := (d.pkg p).replacing || fresh }
  let d := if fresh then d.setUnit (packageIx p) .off 0 else d
  if ptype = d.wantType p && dies = d.diesPerPkg then
    (d.setPkg p { d.pkg p with refTable := refs.take 480 }).setUnit (packageIx p) .starting 0
  else d.raise (387 + 16 * g) { unitId := unitIdOf (packageIx p), state := 1, gen := (d.unit (packageIx p)).gen, a := p }

/-- A package that does not acknowledge (R354): a RETIRED one is withdrawn at the third poll in a row; another has no valid
temperature while a link of it is ACTIVE, and is FAILED without one. A transaction is tried four times (R353). -/
def Dev.silent (d : Dev) (p : Nat) : Dev :=
  let a := p % d.groupSize
  let g := p / d.groupSize
  let d := d.count .MCX_SB_STAT_NAK g 4
  let x := d.pkg p
  match d.ustate (packageIx p) with
  | .absent | .failed => d
  | .retired =>
    if x.missed + 1 < 3 then d.setPkg p { x with missed := x.missed + 1 }
    else
      let d := (d.setPkg p { doseAt := x.doseAt, temp := x.temp }).setFieldBit .MCX_SB_STAT_PRESENT g a false
      d.setUnit (packageIx p) .absent 0
  | .off => (d.setPkg p { x with present := false }).setFieldBit .MCX_SB_STAT_PRESENT g a false
  | _ =>
    if !x.present then d
    else if (d.pkgLinks p).any (fun y => (d.link y.2).train = 6) then
      (d.setPkg p { x with denseClosed := true }).packageHealth p
    else d.unitLoss (packageIx p)

/-- SIDEBAND_POLL: one address of a bus is polled; `ack` whether its package acknowledges, `crc` how many of the
transaction's four tries fail their CRC (R353), then its ID, the suspensions that CAPS declares and its REFTABLE. A poll
that fails four times brings nothing. -/
def execSidebandPoll (package : Nat) (ack : Bool) (crc ptype dies serial : Nat) (caps : PkgCaps) (s : State) : Out := s.onHealth fun d =>
  d.when (decide (package < (d.cfg.map (·.wiring.pkgCount)).getD 0) && decide (8 ≤ d.step)) fun d =>
    let d := d.count .MCX_SB_STAT_CRC (package / d.groupSize) (min crc 4)
    if decide (4 ≤ crc) then d
    else if ack then
      let x := d.pkg package
      if !x.present && (d.ustate (packageIx package) = .absent || d.ustate (packageIx package) = .off) then
        d.identify package ptype dies serial caps.susp caps.refs
      else d.setPkg package { x with missed := 0 }
    else d.silent package

/-- SIDEBAND_ALERT: an alert that is enabled is serviced (R353, MCX_SB_CTL.ALERT_EN); `alert` is the package's ALERT
register. -/
def execSidebandAlert (package alert : Nat) (s : State) : Out := s.on fun d =>
  let g := package / d.groupSize
  d.when (decide (package < 64) && (d.pkg package).present && decide (0 < alert) &&
      (d.regInForce .MCX_SB_CTL_ALERT_EN g).testBit (package % d.groupSize)) fun d =>
    d.raise (388 + 16 * g) { unitId := unitIdOf (packageIx package), a := package }

/-- PWR_GOOD: the package's enabled ports start training (R345, R354). -/
def execPwrGood (package : Nat) (s : State) : Out := s.onHealth fun d =>
  let x := d.pkg package
  d.when (decide (package < 64) && d.ustate (packageIx package) = .starting && x.present && !x.pwrGood) fun d =>
    let mask := d.portMask package
    let d := d.setPkg package { x with pwrGood := true, portEn := mask }
    d.each ((d.pkgLinks package).filter (fun y => mask.testBit y.1)) (fun d y => d.enableLink y.2 (d.unit (packageIx package)).cause)

end Sys2Proof.Machine
end

