-- ==== Sys2Proof/Machine/EngineCmds.lean ====
section
/-!
DEFINITION. The engines' own work: spill pages, tail timeouts and pointer records of the queue engine (R217 to R220, R229);
the merge, folds, boundaries and snapshot copies of the tally engine (R237 to R245).
-/
namespace Sys2Proof.Machine

/-! ## Queues -/

/-- Spill pages that queues hold (QEN_SPILL.PAGES). -/
def Dev.spillPages (d : Dev) : Nat := (d.qen.queues.map (fun e => e.2.spillPages)).foldl (· + ·) 0

/-- Spill space in bytes: what the gather zone holds beyond its floor and the other contents (R170): the blocks of live
through sheets, each sheet written twice, staged pages and spill. The journal and the quench image lie within the floor. -/
def Dev.spillSpace (d : Dev) : Nat :=
  d.footprint / 5 - d.gatherFloor / 5 - ceilDiv (2 * d.liveSheets) 1024 * 2 ^ 22 - 4096 * (d.med.staged.length + d.spillPages)

/-- SPILL: a queue that is due writes a spill page of the 16 oldest cells of its tail segment (R217); without spill space,
or while the gather zone must shrink, nothing is written (R219, R180). -/
def execSpill (queue : Nat) (s : State) : Out := s.on fun d =>
  let d := { d with qen := { d.qen with spilling := d.poolSpills } }
  d.when (d.runs && d.spillDue queue && decide (4096 ≤ d.spillSpace) && !d.mustShrink) fun d =>
    let x := d.queue queue
    let w := ((d.setOfQueue queue).map (·.headWin)).getD 128
    let d := d.setQueue queue
      { x with frames := spillCells x.frames (x.headSeg w) 16, spillPages := x.spillPages + 1 }
    let d := d.count .QEN_SPILL_WRITTEN
    { d with qen := { d.qen with spilling := d.poolSpills } }

/-- SPILL_PAGE_PREFETCH: the oldest spill page is read back into 16 pool cells at the end of the head segment (R218).
`decoded` says whether the media gave the page back, or the ladder and read-around lost it (R188, R230). -/
def execSpillPagePrefetch (queue : Nat) (decoded : Bool) (s : State) : Out := s.on fun d =>
  let w := ((d.setOfQueue queue).map (·.headWin)).getD 128
  let n := min 16 (spilledCells (d.queue queue).frames)
  d.when (d.runs && decide (0 < n) && decide (headCells (d.queue queue).frames < w)) fun d =>
    match d.takeCells (d.homeStack (groupOf queue)) n with
    | none => d
    | some st =>
      let d := if decoded then d else d.spillLost queue n
      let x := d.queue queue
      let fs := takeBack x.frames st
      (d.setQueue queue { x with frames := fs, spillPages := ceilDiv (spilledCells fs) 16 })

/-- Requests to a queue stamped before `t` that a slice has still to forward. -/
def Dev.queueWaits (d : Dev) (q t : Nat) : Bool :=
  d.slices.any (fun e => e.2.ingress.any (fun r => decide (r.stamp < t) &&
    (match d.region r.region with
     | some g => (d.window g r.off).queue? = some q
     | none => false)))

/-- The event of R220: the queue, the SEQ that the frame takes or would have taken. -/
def Dev.timeoutEvent (d : Dev) (q seq : Nat) : Dev :=
  let g := groupOf q
  d.raise 705 { unitId := unitIdOf (groupIx g), a := q, b := seq, c := (d.unit (groupIx g)).gen, heads := d.groupHeads (groupOf q) }

/-- The queue engine runs: from Memory Active to the end of a quench's drain, outside its own recovery and a core reset. -/
def Dev.queuesRun (d : Dev) : Bool :=
  d.memActive && decide (d.reg .JRN_STATUS_QSTATE ≤ 1) && d.rst.core = .none && d.qen.recovering.isNone

/-- TAIL_TIMEOUT (R209, R220). The STAMP of a frame that no line closes is not stated: free. -/
def execTailTimeout (queue : Nat) (s : State) : Out := s.on fun d =>
  let x := d.queue queue
  match x.asm with
  | .idle => d
  | .dropping at_ us _ =>
    d.when (d.queuesRun && decide (at_ + us * 1000 ≤ d.now) && !d.queueWaits queue (at_ + us * 1000)) fun d =>
      d.setQueue queue { x with asm := .idle }
  | .opened f =>
    let b := f.openedAt + f.timeoutUs * 1000
    d.when (d.queuesRun && decide (b ≤ d.now) && !d.queueWaits queue b) fun d =>
      let d := ((d.count .QEN_TIMEOUT_COUNT).strand queue).timeoutEvent queue x.tailSeq
      if ((d.setOfQueue queue).map (·.deliver)).getD false then
        let (t, d) := d.drawFree 220
        (d.closeFrame queue f (t % 2 ^ 64) none).2
      else d.dropOpen queue

/-- The pointers of a queue as QPTR records hold them: head SEQ, tail SEQ, the ring cell of the head. -/
def QDesc.pointers (x : QDesc) : Nat × Nat × Nat :=
  (x.headSeq, x.tailSeq, match x.frames with
    | f :: _ => f.cell
    | [] => match x.asm with | .opened f => f.cell | _ => x.ringTail)

/-- QPTR_JOURNAL: the pointers of persistent queues changed since the last records (R229). -/
def execQptrJournal (s : State) : Out := s.on fun d =>
  d.when d.runs fun d =>
    let d := d.each d.qen.changed (fun d q =>
      let p := (d.queue q).pointers
      { d.journal 0x08 q p.1 p.2.1 with qen := { d.qen with journalled := d.qen.journalled.put q p } })
    { d with qen := { d.qen with changed := [] } }

/-! ## The merge (R237) -/

/-- Whether item `a` comes ahead of item `b`: by stamp, head, and head arrival order. -/
def TalItem.ahead (a b : TalItem) : Bool :=
  decide (a.stamp < b.stamp) || (a.stamp = b.stamp && (decide (a.head < b.head) || (a.head = b.head && decide (a.req.rid < b.req.rid))))

/-- The first item in merge order. -/
def firstItem (l : List TalItem) : Option TalItem :=
  l.foldl (fun (m : Option TalItem) i => match m with
    | none => some i
    | some j => if i.ahead j then some i else m) none

/-- Every slice's watermark lies at or beyond stamp `t`: no slice still has a tally or counter request of a lower stamp to
forward, none is in recovery, and no such request can arrive. -/
def Dev.watermark (d : Dev) (t : Nat) : Bool :=
  decide (t ≤ d.now) && d.qen.recovering.isNone &&
  (List.range 16).all (fun k => !(d.unit (sliceIx k)).recovery) &&
  d.slices.all (fun e => e.2.ingress.all (fun r => !r.kind.merges || decide (t ≤ r.stamp)))

/-- Give the entry of an item its result. -/
def Dev.entryApplied (d : Dev) (i : TalItem) (v : Option RdVal) (st : Stored) : Dev :=
  match d.entry i.slice i.entry with
  | none => d
  | some t =>
    if t.req.rid ≠ i.req.rid then d else
    -- FAULT: a slice in recovery held the merge (R147, R237)
    let held := (List.range 16).any (fun k => (d.unit (sliceIx k)).cause = 3 && decide (i.stamp < (d.unit (sliceIx k)).since))
    let t := { t with applied := true, val := match v with | some _ => v | none => t.val, through := !st.waits.isEmpty
                      cause := if held then t.cause ||| 2 else t.cause }
    (((d.setEntry i.slice i.entry t).logged i.slice i.entry t).waitSheets i.slice i.entry st.waits).settle i.slice i.entry

/-- The home lines that an update line adds to. -/
def linesOf (l : Line) : List Nat :=
  (List.range 4).flatMap (fun i =>
    let n := lineAt l (16 * i) 4
    match lineAt l (16 * i + 4) 1 with | 1 => [n / 8] | 2 => [n / 8, (n + 1) / 8] | _ => [])

/-- The engine reads home lines that only media hold, as background reads (R232, R239). -/
def Dev.readHomes (d : Dev) (g : RegionRec) (ms : List Nat) : Dev :=
  d.each (ms.foldl setInsert []) (fun d m =>
    let (pid, sub) := d.homePlace g m
    if d.onMedia pid sub then d.issueRead 16 0 (d.mapEntry pid) pid (sub / 4) noDeadline 0 false else d)

/-- Apply a merged item (R233, R235, R237). What an update line under the Poison bit does is not stated: its records are
applied as they came, or not at all, a free choice. What waited when its region was released has no effect any more (R65). -/
def Dev.applyItem (d : Dev) (i : TalItem) : Dev :=
  let r := i.req
  match (if d.ustate (regionIx r.region) = .retired then none else d.region r.region) with
  | none => d.entryApplied i (some .offline) .done
  | some g =>
    match d.counterSet g.setId with
    | none => d.entryApplied i (some .offline) .done
    | some cs =>
      let d := d.mergeDue cs r.stamp (d.boundaryFuel cs r.stamp)
      match r.kind with
      | .tally =>
        let (skip, d) := if r.poison then (let (f, d) := d.drawFree 234; (decide (f % 2 = 1), d)) else (false, d)
        let d := if skip then d else d.readHomes g ((linesOf r.data).filter (fun m => decide (8 * m < cs.count)))
        let (st, d) := if skip then (.done, d) else d.talLine cs r.data r.be r
        d.entryApplied i none st
      | .counterRead =>
        -- a home line that only media hold is read for the request (R107)
        let (pid, sub) := d.homePlace g (r.off / 64)
        let epoch := match d.entry i.slice i.entry with | some t => t.epoch | none => 0
        let d := if d.onMedia pid sub && (d.entry i.slice i.entry).isSome then
            d.issueRead i.slice i.entry (d.mapEntry pid) pid (sub / 4) r.deadline epoch false else d
        let (v, d) := d.counterRead g cs (r.off / 64)
        d.entryApplied i (some v) .done
      | _ =>
        let d := if r.be = BitVec.allOnes 64 then d else d.readHomes g [r.off / 64]
        let (st, d) := d.counterWrite g cs (r.off / 64) r.data r.be r.poison
        d.entryApplied i none st

/-- A merged item takes effect under the keys in force at its stamp. -/
def Dev.merged (d : Dev) (i : TalItem) : Dev := (d.underKeysAt i.stamp (fun d => ((), d.applyItem i))).2

/-- The tally cache's copies (R241): one bad copy is rewritten; an entry lost in both leaves its counter's home line stored
poisoned, and its pending deltas are gone. -/
def Dev.checkCache (d : Dev) (check : CacheCheck) : Dev :=
  match check with
  | .ok => d
  | .repaired => d.count .TAL_CACHE_REPAIRED
  | .lost set n =>
    match d.tal.cache.find (talKey set n), d.counterRegion set with
    | some _, some r =>
      let d := { d with tal := { d.tal with cache := d.tal.cache.del (talKey set n) } }
      let (pid, sub) := d.homePlace r (n / 8)
      let d := (d.storePoison pid sub poisonInternal).2.count .TAL_CACHE_LOST
      d.raise 770 { dpa := r.base + n / 8 * 64, a := set + n * 2 ^ 32, c := (d.talSet set).snapId, heads := d.regionHeads r.number }
    | _, _ => d

/-- TALLY_MERGE: the next item in merge order, once every watermark lies beyond its key. -/
def execTallyMerge (check : CacheCheck) (s : State) : Out := s.on fun d =>
  match firstItem d.tal.items with
  | none => d
  | some i => d.when (d.watermark (i.stamp + 1)) fun d =>
      let d := d.checkCache check
      { d with tal := { d.tal with items := d.tal.items.filter (fun j => j.order ≠ i.order) } }.merged i

/-- TALLY_FOLD: FOLD_NS after a side's first pending record (R239). -/
def execTallyFold (set counter side : Nat) (s : State) : Out := s.on fun d =>
  let e := d.talEntry set counter
  match (if side % 2 = 0 then e.at0 else e.at1) with
  | some t => d.when (decide (t + d.reg .TAL_CTL_FOLD_NS ≤ d.now) && d.qen.recovering.isNone)
      (·.foldCounter set counter (side % 2))
  | none => d

/-! ## Boundaries and copies (R242 to R245) -/

/-- A boundary of a set that no earlier item stands ahead of is merged; `auto` picks an epoch's, else the commanded one. -/
def Dev.takeBoundary (d : Dev) (set : Nat) (auto : Bool) : Dev :=
  match d.counterSet set with
  | none => d
  | some cs =>
    match d.nextBoundary cs with
    | none => d
    | some (b, c, a) =>
      d.when ((if auto then a else c) && d.watermark b && d.tal.items.all (fun i => decide (b ≤ i.stamp))) fun d =>
        d.asOf b (fun d => d.mergeBoundary ((d.counterSet set).getD cs) b c a)

/-- EPOCH_BOUNDARY. -/
def execEpochBoundary (set : Nat) (s : State) : Out := s.on fun d => d.when d.memActive (·.takeBoundary set true)

/-- TALLY_AT_BOUNDARY. -/
def execTallyAtBoundary (set : Nat) (s : State) : Out := s.on fun d => d.when d.memActive (·.takeBoundary set false)

/-- SNAPSHOT_COPY_COMPLETE: not before 16 bytes a nanosecond allow it (R243), while the device runs. -/
def execSnapshotCopyComplete (set : Nat) (s : State) : Out := s.on fun d =>
  match d.counterSet set, (d.talSet set).copy with
  | some cs, some c => d.when (d.runs && decide (c.boundary + ceilDiv cs.count 2 ≤ d.now)) (·.finishSnapshot cs)
  | _, _ => d

end Sys2Proof.Machine
end

