-- ==== Sys2Proof/Machine/Heads.lean ====
section
/-!
DEFINITION. The heads' links and resets (R68 to R70, R92 to R98).
-/
namespace Sys2Proof.Machine

/-- The head exists and its host interface has power. -/
def Dev.headLive (d : Dev) (h : Nat) : Bool := decide (h < d.headCount) && d.pdOn 29 && !d.rst.held

/-- PERST_ASSERT: PERSTn_N falls, or a hot reset or link-down reset runs (R94). A PERST that falls while a core reset holds
the clocks takes effect at their release (R399). -/
def execPerstAssert (head : Nat) (how : HeadReset) (s : State) : Out := s.onHealth fun d =>
  d.when (decide (head < d.headCount)) fun d =>
    let d := if how = .perst then d.setHead head { d.head head with perst := true } else d
    -- a FAILED head follows its link too (R96, R319)
    d.when (d.headLive head && d.ustate (headIx head) ∉ [.absent, .retired]) fun d =>
      if d.rst.core = .hold then d
      else
        let d := if how = .linkDown && d.reg .GLB_HEAD_LINK_WIDTH head ≠ 0 then d.count .GLB_HEAD_LINK_DOWN_COUNT head else d
        let d := (d.headReset head).setUnit (headIx head) .resetting 5
        if how = .perst then d else d.setUnit (headIx head) .starting 5

/-- PERST_RELEASE: PERSTn_N rises and the head trains, after a system reset that RESET_N holds. -/
def execPerstRelease (head : Nat) (s : State) : Out := s.onHealth fun d =>
  d.when (decide (head < d.headCount) && (d.head head).perst) fun d =>
    let d := d.setHead head { d.head head with perst := false, perstRiseAt := d.now }
    if d.headLive head && d.ustate (headIx head) = .resetting then d.setUnit (headIx head) .starting 5 else d

/-- A link is up in PCIe-only mode (R93). -/
def Dev.pcieOnly (d : Dev) (h : Nat) : Bool := d.reg .GLB_HEAD_LINK_WIDTH h ≠ 0 && !d.flag .GLB_HEAD_LINK_CXL h

/-- CONFIG_SPACE_READY: configuration space stands, Memory_Info_Valid is 1, range 1 reports the DPA limit, and Memory_Active
follows the device (R72, R73, R97), outside PCIe-only mode (R93). -/
def execConfigSpaceReady (head : Nat) (s : State) : Out := s.on fun d =>
  let x := d.head head
  d.when (d.headLive head && !x.perst && !x.memInfoValid) fun d =>
    d.setHead head { x with config := some { revision := d.boot.stepping, serial := d.boot.serial }, memInfoValid := true
                            memActive := d.memActive && !d.pcieOnly head, range1 := d.dpaLimit }

/-- FUNCTION_LEVEL_RESET: MSI-X and the mailbox interface of the head are cleared (R94). -/
def execFunctionLevelReset (head : Nat) (s : State) : Out := s.on fun d =>
  d.when (decide (head < d.headCount)) fun d =>
    { d with evt := { d.evt with msixOn := setErase d.evt.msixOn head
                                 msixMasked := d.evt.msixMasked.filter (fun v => v / 256 ≠ head)
                                 msixPending := d.evt.msixPending.filter (fun v => v / 256 ≠ head) }
             mgt := { d.mgt with bg := d.mgt.bg.del head } }

/-- A link loss of a head (R95, R96). -/
def Dev.linkLost (d : Dev) (h : Nat) : Dev :=
  let d := (d.count .GLB_HEAD_LINK_DOWN_COUNT h).headDrop h
  let d := (d.setReg .GLB_HEAD_LINK_RATE h 0).setReg .GLB_HEAD_LINK_WIDTH h 0
  let d := (d.setReg .GLB_HEAD_LINK_FLIT h 0).setFlag .GLB_HEAD_LINK_CXL h false
  if d.ustate (headIx h) ∈ [.absent, .retired, .off, .resetting] then d else d.setUnit (headIx h) .off 5

/-- LINK_UP: the head's link is in L0 with a rate code, a width, the protocols and flit mode negotiated, and lane reversal.
A link below 8 GT/s or without CXL runs in PCIe-only mode (R70, R93); the head takes the state of R96. A link that falls to
a lower rate from 256-byte flit mode, or leaves PCIe-only mode, has retrained: that is a link loss (R70, R93). -/
def execLinkUp (head rate width : Nat) (cxl lowLatency reversed : Bool) (s : State) : Out := s.onHealth fun d =>
  let lanes := if d.pin.headMode then 8 else 16
  d.when (d.headLive head && !(d.head head).perst && width ∈ [1, 2, 4, 8, 16] && decide (width ≤ lanes) &&
      decide (1 ≤ rate) && decide (rate ≤ 6) &&
      d.ustate (headIx head) ∈ [.off, .starting, .online, .degraded, .draining, .quiesced, .failed]) fun d =>
    let c := cxl && decide (3 ≤ rate)
    let old := d.reg .GLB_HEAD_LINK_RATE head
    let again := (decide (2 ≤ d.reg .GLB_HEAD_LINK_FLIT head) && decide (rate < old)) || (d.pcieOnly head && c)
    let d := if again then (d.linkLost head).setUnit (headIx head) .starting 5 else d
    let x := d.head head
    let d := if x.trained = (width, rate) then d else d.setHead head { x with trained := (width, rate), cdatSeq := x.cdatSeq + 1 }
    let d := (d.setReg .GLB_HEAD_LINK_RATE head rate).setReg .GLB_HEAD_LINK_WIDTH head width
    let d := d.setReg .GLB_HEAD_LINK_FLIT head (if !c then 0 else if rate < 6 then 1 else if lowLatency then 3 else 2)
    let d := (d.setFlag .GLB_HEAD_LINK_CXL head c).setFlag .GLB_HEAD_LINK_REVERSED head reversed
    let d := d.setHead head { d.head head with memActive := d.memActive && c && (d.head head).memInfoValid }
    let d := if c then d else d.raise 71 { a := head }
    if d.ustate (headIx head) ∈ [.draining, .quiesced] then d else d.headService head 5

/-- LINK_LOSS. -/
def execLinkLoss (head : Nat) (s : State) : Out := s.onHealth fun d =>
  d.when (decide (head < d.headCount) && d.reg .GLB_HEAD_LINK_WIDTH head ≠ 0) (·.linkLost head)

/-- IDE_INTEGRITY_FAILURE of the CXL.mem stream, or with `io` of the CXL.io stream (R92). -/
def execIdeIntegrityFailure (head : Nat) (io : Bool) (s : State) : Out := s.onHealth fun d =>
  let x := d.head head
  d.when (decide (head < d.headCount) && (if io then x.ioIde.secure else x.memIde.secure)) fun d =>
    let d := d.setHead head (if io then { x with ioIde := { x.ioIde with secure := false } }
                             else { x with memIde := { x.memIde with secure := false } })
    let d := d.setFlag (if io then .GLB_HEAD_LINK_IDE_IO else .GLB_HEAD_LINK_IDE_MEM) head false
    (d.raise 72 { a := head }).linkLost head

end Sys2Proof.Machine
end

