-- ==== Sys2Proof/Machine/EventCmds.lean ====
section
/-!
DEFINITION. The event queue's drain (R413) and the snapshots of the performance counters (R423).
-/
namespace Sys2Proof.Machine

/-- MCTP_NOTIFICATION_SENT: the oldest notification has left, and the next starts. -/
def execMctpNotificationSent (s : State) : Out := s.on fun d =>
  match d.evt.mctpQ with
  | [] => d
  | r :: rest => { d with evt := { d.evt with mctpQ := rest } }.emit (.mctp r)

/-- The counters of a group. -/
def groupCounters (g : Nat) : List Nat := (List.range 16).map (fun c => 16 * g + c)

/-- What a counter held at the present instant, before the items stamped with it (R420). -/
def Dev.counterAt (d : Dev) (n : Nat) : Nat :=
  let v := d.reg .PMC_CTRn_COUNT n
  if d.pmc.freshAt = d.now then d.pmc.fresh.findD n v else v

/-- PMC_INTERVAL_BOUNDARY: at a multiple of the group's interval (R420) the counters are captured, and restart under
CLEAR_ON_SNAP from the items of the new interval. -/
def execPmcIntervalBoundary (group : Nat) (s : State) : Out := s.on fun d =>
  let len := d.reg .PMC_GRPg_CTL_INTERVAL_US group * 1000
  d.when (decide (group < 32) && decide (0 < len) && d.now % len = 0 && d.pmc.lastBoundary.find group ≠ some d.now) fun d =>
    let vs := (groupCounters group).map d.counterAt
    let rest := (groupCounters group).map (fun n => (n, (d.reg .PMC_CTRn_COUNT n + 2 ^ 48 - d.counterAt n) % 2 ^ 48))
    let d := { d with pmc := { d.pmc with
      lastBoundary := d.pmc.lastBoundary.put group d.now
      pend := d.pmc.pend ++ [({ group, boundary := d.now, values := vs } : PmcPend)] } }
    if d.flag .PMC_GRPg_CTL_CLEAR_ON_SNAP group then
      let d := { d with pmc := { d.pmc with fresh := d.pmc.fresh.keep (fun n _ => n / 16 ≠ group) } }
      d.each rest (fun d e => d.setReg .PMC_CTRn_COUNT e.1 e.2)
    else d

/-- PMC_SNAPSHOT_PUBLISH: 4 µs after its boundary the oldest snapshot of the group lands in PMC_SNAPn. -/
def execPmcSnapshotPublish (group : Nat) (s : State) : Out := s.on fun d =>
  match d.pmc.pend.find? (fun p => p.group = group) with
  | none => d
  | some p => d.when (decide (p.boundary + 4000 ≤ d.now)) fun d =>
      let d := { d with pmc := { d.pmc with
        pend := d.pmc.pend.filter (fun q => q ≠ p)
        shown := d.pmc.shown.put group p.boundary } }
      let d := d.each (List.range 16) (fun d c => d.setReg .PMC_SNAPn_COUNT (16 * group + c) (p.values.getD c 0))
      d.countWrap .PMC_GRPg_CTL_SNAP_SEQ group

end Sys2Proof.Machine
end

