-- ==== Sys2Proof/Machine/Operands.lean ====
section
/-!
DEFINITION. The command interfaces (R428 to R435): the checks that every management command passes before its own, the return
codes, the unit reply, and the reply itself. The device's own codes are those of R430; the others are the CXL standard's.
-/
namespace Sys2Proof.Machine

/-! ## Return codes -/

def rcOk : Nat := 0
def rcBackground : Nat := 1
def rcInvalid : Nat := 2
def rcUnsupported : Nat := 3
def rcBusy : Nat := 6
def rcFwOrder : Nat := 9
def rcFwVerify : Nat := 0x0A
def rcSlot : Nat := 0x0B
def rcRolledBack : Nat := 0x0C
def rcHandle : Nat := 0x0E
def rcSecurity : Nat := 0x13
def rcLength : Nat := 0x16
def rcLog : Nat := 0x17
def rcStale : Nat := 0xC000
def rcNotReady : Nat := 0xC001

/-! ## Acceptance (R428 to R430) -/

/-- Which states admit a command: the minimal set of R383, a command that changes nothing, one that changes state, and a
state-changing one that judges a quench among its own checks. -/
inductive CmdKind where
  | minimal | read | change | own
  deriving DecidableEq, Repr

/-- The interface can hand the device a command: a mailbox with its head's configuration space ready and link up, MCTP from
step 1. A secured command needs a session. -/
def Dev.ifaceUp (d : Dev) (c : CmdHdr) : Bool :=
  if c.iface = 2 then !c.secured || d.mgt.spdm
  else decide (c.iface < d.headCount) && (d.head c.iface).memInfoValid && d.reg .GLB_HEAD_LINK_WIDTH c.iface ≠ 0 &&
    (!c.secured || (d.head c.iface).spdm)

/-- Firmware is not running (R430): before step 5 or past RUN, in system reset, or while an online activation loads it. -/
def Dev.fwAbsent (d : Dev) : Bool :=
  decide (d.step < 5) || decide (10 ≤ d.step) || d.rst.held || d.mgt.fwLoading.isSome

/-- The refusal that a command of `need` request bytes meets before its own checks, if any. -/
def Dev.gate (d : Dev) (c : CmdHdr) (need : Nat) (k : CmdKind) : Option Nat :=
  if k = .minimal then (if c.len < need then some rcLength else none)
  else if d.fwAbsent then some rcNotReady
  else if d.mgt.fwDown then some rcBusy
  else if c.len < need then some rcLength
  else if k = .change && d.reg .JRN_STATUS_QSTATE ≠ 0 then some rcBusy
  else none

/-- Put out a response; the interfaces count what they execute and refuse (MGT_CMD). -/
def Dev.reply (d : Dev) (c : CmdHdr) (opcode rc : Nat) (payload : List Byte) : Dev :=
  let d := if rc = rcOk || rc = rcBackground then d.count .MGT_CMD_EXECUTED else d.count .MGT_CMD_REFUSED
  d.emit (.reply c.iface opcode rc payload)

/-- What a command leaves: its return code, its response, the device. -/
abbrev CmdOut := Nat × List Byte × Dev

/-- The device after a management command (R429). -/
def Dev.command (d : Dev) (c : CmdHdr) (opcode need : Nat) (k : CmdKind) (f : Dev → CmdOut) : Dev :=
  if !d.ifaceUp c then d
  else match d.gate c need k with
    | some rc => d.reply c opcode rc []
    | none => let (rc, p, d) := f d; d.reply c opcode rc p

/-- A management command. -/
def State.command (s : State) (c : CmdHdr) (opcode need : Nat) (k : CmdKind) (f : Dev → CmdOut) : Out :=
  s.onHealth (fun d => d.command c opcode need k f)

/-- Refuse a command; nothing changes. -/
def Dev.refuse (d : Dev) (rc : Nat) : CmdOut := (rc, [], d)

/-- The regions that an interface reaches (R83): through its head, or every region over MCTP. -/
def Dev.reaches (d : Dev) (i region : Nat) : Bool := i = 2 || (d.regionHeads region).testBit i

/-! ## Units (R321, R434) -/

/-- The cause code of a unit's last change. -/
def Dev.ucause (d : Dev) (ix : Nat) : Nat := (d.unit ix).cause

/-- The unit reply. -/
def Dev.unitReply (d : Dev) (uid : Nat) : List Byte :=
  let u := match indexOfId uid with | some ix => d.unit ix | none => {}
  leBytes 2 uid ++ leBytes 1 u.state.code ++ leBytes 1 u.cause ++ leBytes 2 u.gen ++ zeros 2 ++ leBytes 8 d.ust.seq

/-- A STALE refusal: counted, with the STALE event of its class (R321), B and C the cause and the state that stand
(DEDUCED). -/
def Dev.stale (d : Dev) (ix : Nat) : Dev :=
  let u := d.unit ix
  let d := d.count .UST_STALE_STALE
  if d.flag .UST_CTL_STALE_EVT then
    d.raise (929 + 4 * unitClass ix)
      { unitId := unitIdOf ix, state := u.state.code, gen := u.gen, a := d.ust.seq, b := u.cause, c := u.state.code,
        heads := d.unitHeads ix }
  else d

/-- A refusal or an end of a unit command, with the unit reply. -/
def Dev.unitAnswer (d : Dev) (uid rc : Nat) : CmdOut :=
  (rc, d.unitReply uid, if rc = rcBusy then d.count .UST_STALE_BUSY else d)

end Sys2Proof.Machine
end

