-- ==== Sys2Proof/Machine/UnitCmds.lean ====
section
/-!
DEFINITION. UNIT SET STATE, UNIT GET STATE and RESET of a unit (R317 to R322, R330, R332, R473).
-/
namespace Sys2Proof.Machine

/-- The operations of UNIT SET STATE. -/
inductive UnitOp where
  | online | draining | quiesced | off | reset | repair | retire
  deriving DecidableEq, Repr

/-- The operations that R320 allows for a class. -/
def allowedOps (cls : Nat) : List UnitOp :=
  match cls with
  | 0 => [.reset, .repair]
  | 1 => [.quiesced, .off, .online, .reset, .repair, .retire]
  | 2 => [.quiesced, .online, .reset, .repair, .retire]
  | 3 => [.off, .online, .repair, .retire]
  | 5 => [.repair, .retire]
  | 6 => [.draining, .off, .online, .retire]
  | 7 => [.draining, .off, .online]
  | _ => []

/-- The states from which the transition table has a row for the operation (R317). -/
def rowsFrom (cls : Nat) (op : UnitOp) : List UState :=
  match op with
  | .online => [.draining, .quiesced, .off]
  | .draining | .quiesced | .off => [.online, .degraded]
  | .reset => [.online, .degraded, .draining, .quiesced]
  | .repair => [.failed, .retired]
  | .retire => if cls = 5 then [.failed, .off, .quiesced, .online, .degraded] else [.failed, .off, .quiesced]

/-- A command for the unit is still running: a drain, or a start with a bound (R321 step 4). -/
def UnitRec.running (u : UnitRec) : Bool := u.state = .resetting || u.target.isSome || u.bound.isSome

/-- Some dirty page has its only copy in one stack (R248). -/
def Dev.remirrorRuns (d : Dev) : Bool :=
  d.med.remirror || d.tier.any (fun e => isLpn e.1 && e.2.dirty && decide (e.2.copies.length < 2))

/-- The condition of R320's Notes column. -/
def Dev.noteHolds (d : Dev) (ix : Nat) (op : UnitOp) : Bool :=
  match unitClass ix, op with
  | 1, .quiesced | 1, .off | 1, .retire => d.ustate (sliceIx ((ix - 2) ^^^ 1)) = .online
  | 3, .off | 3, .retire =>
    (match d.linkPkg (ix - 26) with
     | some (p, _) => (d.pkgLinks p).any (fun x => x.2 ≠ ix - 26 && d.ustate (linkIx x.2) = .online)
     | none => false)
  | 5, .retire => !d.remirrorRuns
  | _, _ => true

/-- A ring region that another QUEUE region's set names (R203), and a hidden region, which no record describes (R34). -/
def Dev.regionBarred (d : Dev) (ix : Nat) (op : UnitOp) : Bool :=
  if unitClass ix ≠ 6 then false else
  let n := ix - 222
  match op with
  | .online => d.boot.hidden.contains n
  | .retire =>
    (match d.region n with
     | some r => r.rtype = .queue && ((d.queueSet r.setId).map (·.persist)).getD false &&
         (((d.queueSet r.setId).bind d.ringRegion).map (·.number)) = some n &&
         ((d.cfg.map (·.regions)).getD []).any (fun x => x.rtype = .queue && x.setId = r.setId && x.number ≠ n && !d.released x.number)
     | none => false)
  | _ => false

/-! ## Effects -/

/-- The domain of a unit is switched on where its parents are good (R359). -/
def Dev.domainOn (d : Dev) (ix : Nat) : Dev :=
  let on := fun (nn : Nat) => if (d.parents (0x20 + nn)).all d.parentOk then d.setFieldBit .PWR_PD_ON 0 (nn - 1) true else d
  match unitClass ix with
  | 1 => on (ix - 2 + 1)
  | 2 => on (ix - 18 + 17)
  | 5 => on (ix - 218 + 25)
  | _ => d

/-- A unit commanded ONLINE from OFF starts, with its bound of R473. -/
def Dev.startUnit (d : Dev) (ix : Nat) : Dev :=
  let d := (d.domainOn ix).setUnit ix .starting 1 false
  let bound := fun (n : Nat) (d : Dev) => d.setUnitRec ix { d.unit ix with bound := some (d.now + n) }
  match unitClass ix with
  | 1 => bound 1000000 d
  | 2 => bound 5000000 d
  | 3 =>
    let d := (bound 2000000 d).setLink (ix - 26) { d.link (ix - 26) with enabled := true }
    d.fullTraining (ix - 26) 1
  | _ => d.setUnit ix (d.serviceState ix) 1 false

/-- A unit drains toward the state commanded (R332); regions and queue groups pass straight through (R320). -/
def Dev.drainUnit (d : Dev) (ix : Nat) (target : Option UState) : Dev :=
  let d := d.setUnit ix .draining 1 false
  if unitClass ix = 6 || unitClass ix = 7 then
    match target with
    | some t =>
      let d := d.setUnit ix t 1 false
      if unitClass ix = 7 then d.freeGroup (ix - 286) else d
    | none => d
  else d.setUnitRec ix { d.unit ix with target }

/-- The built-in test of REPAIR starts (R330); that of a complex retrains the links that failed with it. -/
def Dev.repairUnit (d : Dev) (ix : Nat) : Dev :=
  let test := fun (d : Dev) (i : Nat) =>
    let d := (d.domainOn i).setUnit i .resetting 1 false
    d.setUnitRec i { d.unit i with testing := true, since := d.now }
  let d := test d ix
  if unitClass ix = 2 then
    d.each ((List.range 16).map (fun i => 16 * (ix - 18) + i)) (fun d m =>
      if d.ustate (linkIx m) = .failed && d.ucause (linkIx m) = 6 then test d (linkIx m) else d)
  else d

/-- Release a region (R65): its pages, delta, segments and journal record go, the counters of its set read 0, the rings of
its set are reset. -/
def Dev.releaseRegion (d : Dev) (n : Nat) : Dev :=
  let mine : Nat → Bool := fun pid => match d.pageOwner pid with | some (m, _, _) => decide (m = n) | none => false
  let pids := (d.tier.keys ++ d.med.map.keys ++ d.poison.lines.keys.map (· / 64)).filter mine
  let ring : Option QueueSet := match d.region n with
    | some r => if r.rtype = .queue && (((d.queueSet r.setId).bind d.ringRegion).map (·.number)) = some n then d.queueSet r.setId else none
    | none => none
  let set : Option Nat := match d.region n with | some r => if r.rtype = .counter then some r.setId else none | none => none
  let d := match ring with
    | some q => if q.persist then d.each (List.range q.groupCount) (fun d i => d.resetGroup (q.groupFirst + i)) else d
    | none => d
  let d := d.each pids (fun d pid => d.forgetPage pid)
  let d := { d with poison := { d.poison with lines := d.poison.lines.keep (fun k _ => !mine (k / 64))
                                              pages := d.poison.pages.filter (fun pid => !mine pid) }
                    shadow := d.shadow.del n
                    boot := { d.boot with journalRegions := d.boot.journalRegions.del n }
                    med := { d.med with segs := d.med.segs.keep (fun k _ => k / 2 ^ 20 / 2 ≠ n) }
                    tal := { d.tal with cache := match set with
                      | some s => d.tal.cache.keep (fun k _ => k / 2 ^ 28 ≠ s)
                      | none => d.tal.cache } }
  ((d.dropCached (fun r _ => r = n)).journal 0x04 n).judgeCapacity

/-- The transition that a command makes (R317). -/
def Dev.unitDo (d : Dev) (ix : Nat) (op : UnitOp) : Dev :=
  match op with
  | .online =>
    if d.ustate ix = .off then d.startUnit ix
    else (d.enterService ix 1 false).afterService ix
  | .draining => d.drainUnit ix none
  | .quiesced => d.drainUnit ix (some .quiesced)
  | .off => d.drainUnit ix (some .off)
  | .reset =>
    if unitClass ix = 0 then
      let d := (d.headReset ix).setUnit ix .resetting 1 false
      d.setUnit ix .starting 1 false
    else d.resetUnit ix 1 false false
  | .repair => d.repairUnit ix
  | .retire =>
    if unitClass ix = 5 && d.serves ix then d.drainUnit ix (some .retired)
    else
      let d := (d.setUnit ix .retired 1 false).domainOff ix
      if unitClass ix = 6 then d.releaseRegion (ix - 222) else d

/-- UNIT SET STATE: Busy during a quench (R264, R446), then the checks of R321 in their order. -/
def Dev.unitSet (d : Dev) (uid gen : Nat) (op : UnitOp) : CmdOut :=
  if d.reg .JRN_STATUS_QSTATE ≠ 0 then d.unitAnswer uid rcBusy else
  match indexOfId uid with
  | none => d.unitAnswer uid rcInvalid
  | some ix =>
    let u := d.unit ix
    if !(allowedOps (unitClass ix)).contains op then d.unitAnswer uid rcUnsupported
    else if gen ≠ u.gen then (d.stale ix).unitAnswer uid rcStale
    else if u.running then d.unitAnswer uid rcBusy
    else if !(rowsFrom (unitClass ix) op).contains u.state || d.regionBarred ix op then d.unitAnswer uid rcInvalid
    else if !d.noteHolds ix op then d.unitAnswer uid rcBusy
    else (d.unitDo ix op).unitAnswer uid rcOk

/-! ## The commands -/

/-- UNIT_SET_STATE_ONLINE. -/
def execUnitSetStateOnline (c : CmdHdr) (unit gen : Nat) (s : State) : Out :=
  s.command c 0xC010 8 .own (fun d => d.unitSet unit gen .online)

/-- UNIT_SET_STATE_DRAINING. -/
def execUnitSetStateDraining (c : CmdHdr) (unit gen : Nat) (s : State) : Out :=
  s.command c 0xC010 8 .own (fun d => d.unitSet unit gen .draining)

/-- UNIT_SET_STATE_QUIESCED. -/
def execUnitSetStateQuiesced (c : CmdHdr) (unit gen : Nat) (s : State) : Out :=
  s.command c 0xC010 8 .own (fun d => d.unitSet unit gen .quiesced)

/-- UNIT_SET_STATE_OFF. -/
def execUnitSetStateOff (c : CmdHdr) (unit gen : Nat) (s : State) : Out :=
  s.command c 0xC010 8 .own (fun d => d.unitSet unit gen .off)

/-- UNIT_SET_STATE_RESET. -/
def execUnitSetStateReset (c : CmdHdr) (unit gen : Nat) (s : State) : Out :=
  s.command c 0xC010 8 .own (fun d => d.unitSet unit gen .reset)

/-- UNIT_SET_STATE_REPAIR. -/
def execUnitSetStateRepair (c : CmdHdr) (unit gen : Nat) (s : State) : Out :=
  s.command c 0xC010 8 .own (fun d => d.unitSet unit gen .repair)

/-- UNIT_SET_STATE_RETIRE. -/
def execUnitSetStateRetire (c : CmdHdr) (unit gen : Nat) (s : State) : Out :=
  s.command c 0xC010 8 .own (fun d => d.unitSet unit gen .retire)

/-- RESET_UNIT: RESET at unit level is UNIT SET STATE with RESET (R320). -/
def execResetUnit (c : CmdHdr) (unit gen : Nat) (s : State) : Out :=
  s.command c 0xC070 8 .own (fun d => d.unitSet unit gen .reset)

/-- A unit's 8-byte record (R338 section UNITS). -/
def Dev.unitRecord (d : Dev) (ix : Nat) : List Byte :=
  let u := d.unit ix
  let pdeg := unitClass ix = 6 && d.flag .DRT_PDEG_ACTIVE && ((d.region (ix - 222)).map (·.persist)).getD false
  let flags := b2n u.hw + 2 * b2n u.recovery + 4 * b2n pdeg + 8 * b2n (unitClass ix = 7 && d.qen.rehomed.has (ix - 286))
  leBytes 2 (unitIdOf ix) ++ leBytes 1 u.state.code ++ leBytes 1 u.cause ++ leBytes 2 u.gen ++ leBytes 2 flags

/-- UNIT_GET_STATE: the records of `count` units from unit index `first`; a range past the last unit is refused. -/
def execUnitGetState (c : CmdHdr) (first count : Nat) (s : State) : Out :=
  s.command c 0xC011 4 .read fun d =>
    if count = 0 || decide (256 < count) || decide (542 < first + count) then d.refuse rcInvalid
    else
      (rcOk, leBytes 8 d.ust.seq ++ leBytes 8 d.now ++ leBytes 2 count ++ zeros 6 ++
        (List.range count).flatMap (fun i => d.unitRecord (first + i)), d)

end Sys2Proof.Machine
end

