-- ==== Sys2Proof/Machine/OpCmds.lean ====
section
/-!
DEFINITION. The commands of resets, quench, shadow commits, queues, counter snapshots, media health, package replacement and
orchard regrafts (R62, R176, R200, R205, R223, R245, R300, R434 to R438).
-/
namespace Sys2Proof.Machine

/-! ## Resets and quench (R436) -/

/-- A RESET whose action waits: its reply is the acceptance stamp. A second one meets Busy. -/
def Dev.resetCommand (d : Dev) (c : CmdHdr) (level : Nat) : CmdOut :=
  if d.rst.pend.isSome then d.refuse rcBusy
  else (rcOk, leBytes 8 d.now, { d with rst := { d.rst with pend := some { level, iface := c.iface, acceptedAt := d.now } } })

/-- RESET_CORE. -/
def execResetCore (c : CmdHdr) (s : State) : Out := s.command c 0xC070 8 .change (·.resetCommand c 1)

/-- RESET_SYSTEM: over MCTP it is accepted in the halt of R372 as well. -/
def execResetSystem (c : CmdHdr) (s : State) : Out :=
  let halted := decide (c.iface = 2) && decide (s.dev.step = 15) && s.dev.flag .PWR_STEP_HALTED
  s.command c 0xC070 8 (if halted then .minimal else .change) (·.resetCommand c 2)

/-- QUENCH: trigger 5 with the ending the command names (0 power-down, 1 restart); T_q is its acceptance stamp. -/
def execQuench (c : CmdHdr) (ending : Nat) (s : State) : Out :=
  s.command c 0xC080 8 .change fun d =>
    if 2 ≤ ending then d.refuse rcInvalid
    else if d.rst.pend.isSome then d.refuse rcBusy
    else
      let d := d.triggerWith 5 ending
      (rcOk, leBytes 8 d.qch.id ++ leBytes 8 d.now, d)

/-! ## REGION COMMIT (R62) -/

/-- The reply of REGION COMMIT. -/
def Dev.commitReply (d : Dev) (region : Nat) : List Byte :=
  let s := d.shadowOf region
  leBytes 1 (d.reg .RGN_SHADOW_LAST_RESULT region) ++ leBytes 1 s.state ++ zeros 2 ++ leBytes 4 s.delta.length ++ leBytes 8 s.epoch

/-- A commit doorbell from an interface: `op` 1 COMMIT, 2 DISCARD. A region that takes no write discards it, with the event
of R323, whose head and tag no request gives. -/
def Dev.regionCommit (d : Dev) (region op expected : Nat) : CmdOut :=
  match d.region region with
  | none => d.refuse rcInvalid
  | some r =>
    if !(r.rtype = .table && r.shadow) then d.refuse rcInvalid
    else if d.offline r (.control 0) false then
      let (f, d) := d.drawFree 62
      let d := d.raise 73 { dpa := r.base + 2 * r.size, a := f, b := region, heads := d.regionHeads region }
      (rcOk, d.commitReply region, d)
    else
      let stale := decide (expected ≠ (d.shadowOf region).epoch)
      -- no record of a mailbox's DISCARD can be lost
      let d := (d.shadowCommand r op expected d.now).releaseDropped region
      (if stale then rcStale else rcOk, d.commitReply region, d)

/-- REGION_COMMIT_COMMIT. -/
def execRegionCommitCommit (c : CmdHdr) (region expected : Nat) (s : State) : Out :=
  s.command c 0xC040 16 .change (·.regionCommit region 1 expected)

/-- REGION_COMMIT_DISCARD. -/
def execRegionCommitDiscard (c : CmdHdr) (region expected : Nat) (s : State) : Out :=
  s.command c 0xC040 16 .change (·.regionCommit region 2 expected)

/-! ## Queues (R205, R223) -/

/-- The values of a queue in force. -/
def Dev.queueReply (d : Dev) (q : Nat) : List Byte :=
  leBytes 4 q ++ leBytes 2 (d.queueKey q) ++ leBytes 2 (d.queueTimeout q) ++ leBytes 4 (d.queueLimit q / 1024) ++ zeros 4

/-- Key indices that a queue set's allocation covers. -/
def Dev.queueKeyAllowed (d : Dev) (set ki : Nat) : Bool :=
  ((d.cfg.map (·.crypto.allocs)).getD []).any (fun a => a.kind = 1 && a.owner = set && decide (a.first ≤ ki) &&
    decide (ki < a.first + a.count))

/-- QUEUE_PARAM: key index, depth limit in KiB and tail timeout in µs, each where given. -/
def execQueueParam (c : CmdHdr) (queue : Nat) (ki maxKib timeoutUs : Option Nat) (s : State) : Out :=
  s.command c 0xC050 16 .change fun d =>
    match d.setOfQueue queue with
    | none => d.refuse rcInvalid
    | some q =>
      let x := d.queue queue
      let badKey := match ki with | some k => !d.queueKeyAllowed q.setId k | none => false
      let badMax := match maxKib with | some m => decide (4194304 < m) | none => false
      let badTime := match timeoutUs with | some t => decide (t < 10) || decide (60000 < t) | none => false
      let moves := match ki with | some k => decide (k ≠ d.queueKey queue) | none => false
      if badKey || badMax || badTime then d.refuse rcInvalid
      else if moves && (!x.frames.isEmpty || x.isOpen) then d.refuse rcBusy
      else
        let d := d.setQueue queue { x with ki := ki.orElse (fun _ => x.ki), maxKib := maxKib.orElse (fun _ => x.maxKib)
                                           timeoutUs := timeoutUs.orElse (fun _ => x.timeoutUs) }
        (rcOk, d.queueReply queue, d)

/-- QUEUE RESET: Busy in a quench (R446), the checks of R321 on the group, then the reset at one stamp. A refusal has no
reset stamp to report. -/
def Dev.queueReset (d : Dev) (group gen : Nat) (row : UState → Bool) (f : Dev → Dev) : CmdOut :=
  let ix := groupIx group
  let uid := unitIdOf ix
  let u := d.unit ix
  let refuse := fun (rc : Nat) (d : Dev) =>
    let (f, d) := d.drawFree 434
    let (rc, p, d) := d.unitAnswer uid rc
    (rc, p ++ leBytes 8 f, d)
  if 256 ≤ group then d.refuse (if d.reg .JRN_STATUS_QSTATE ≠ 0 then rcBusy else rcInvalid)
  else if d.reg .JRN_STATUS_QSTATE ≠ 0 then refuse rcBusy d
  else if gen ≠ u.gen then refuse rcStale (d.stale ix)
  else if u.running then refuse rcBusy d
  else if !row u.state then refuse rcInvalid d
  else
    let d := f d
    (rcOk, d.unitReply uid ++ leBytes 8 d.now, d)

/-- QUEUE_RESET_QUEUE: `gen` is the group's expected generation. -/
def execQueueResetQueue (c : CmdHdr) (queue gen : Nat) (s : State) : Out :=
  s.command c 0xC051 8 .own (·.queueReset (groupOf queue) gen (fun st => st ≠ .absent) (·.resetQueue queue))

/-- QUEUE_RESET_GROUP: through RESETTING and back to the earlier state, with cause 3 (R317). -/
def execQueueResetGroup (c : CmdHdr) (group gen : Nat) (s : State) : Out :=
  s.command c 0xC051 8 .own (·.queueReset group gen (fun st => st ∈ [.online, .degraded, .draining]) fun d =>
    let ix := groupIx group
    let old := d.ustate ix
    ((d.setUnit ix .resetting 1 false).resetGroup group).setUnit ix old 3)

/-! ## TALLY SNAPSHOT (R245) -/

/-- A commanded snapshot of a set at boundary `b`. Its SNAP_ID is known unless an epoch's own snapshot may come first: then
the identity reported is free. -/
def Dev.tallySnapshot (d : Dev) (set b : Nat) : CmdOut :=
  match d.counterSet set with
  | none => d.refuse rcInvalid
  | some cs =>
    let x := d.talSet set
    if cs.snapRegion = 255 || decide (b < d.now) || decide (d.now + 10000000000 < b) then d.refuse rcInvalid
    else if x.copy.isSome || x.at_.isSome || !d.memActive then d.refuse rcBusy
    else
      let earlier := cs.autoSnap && (match d.autoNext cs with | some a => decide (a < b) | none => false)
      let (f, d) := d.drawFree 245
      let id := if earlier then f else x.snapId + 1
      let d := (d.setTalSet set { x with at_ := some b }).takeBoundary set false
      (rcOk, leBytes 8 id ++ leBytes 8 b ++ leBytes 1 (id % 2) ++ zeros 7, d)

/-- TALLY_SNAPSHOT_NOW: B is the acceptance stamp. -/
def execTallySnapshotNow (c : CmdHdr) (set : Nat) (s : State) : Out :=
  s.command c 0xC060 16 .change (fun d => d.tallySnapshot set d.now)

/-- TALLY_SNAPSHOT_AT. -/
def execTallySnapshotAt (c : CmdHdr) (set b : Nat) (s : State) : Out :=
  s.command c 0xC060 16 .change (·.tallySnapshot set b)

/-! ## ORCHARD REGRAFT (R300) -/

/-- Pages that the model lists under an orchard entry: those with a media copy, a DRAM copy, a poisoned line or a leaf. -/
def Dev.entryPages (d : Dev) (level index : Nat) : List Nat :=
  (((d.med.map.keys ++ d.tier.keys ++ d.poison.lines.keys.map (· / 64) ++ d.med.leaves.keys).filter
    (fun p => isLpn p && decide (p / 8 ^ level = index))).foldl setInsert [])

/-- Every written line of a page is stored poisoned with source Vendor; its leaf takes a graft value. -/
def Dev.regraftLines (d : Dev) (lpn : Nat) : Dev :=
  let d := d.each ((List.range 64).filter (fun s => d.poisoned lpn s || (d.cellAt lpn s).isSome)) (fun d s =>
    d.poisonLine lpn s poisonVendor)
  let g := d.cry.graft
  { d with med := { d.med with leaves := d.med.leaves.put lpn { major := 2 ^ 63 + g } }
           cry := { d.cry with graft := (g + 1) % 2 ^ 55 } }.orcMark (orcKey 0 lpn) [64]

/-- The nodes of a subtree that are not all zero, the entry itself among them: those above a leaf, and those with a counter.
-/
def Dev.freshEntries (d : Dev) (level index : Nat) : List Nat :=
  (((d.entryPages level index).flatMap (fun p => (List.range (level - 1)).map (fun l => orcKey (l + 1) (p / 8 ^ (l + 1)))))
    ++ (if level = 0 then [] else [orcKey level index])).foldl setInsert []

/-- A fresh node: the counter of each entry below it that is not all zero is a graft value (R299, R300). -/
def Dev.graftEntry (d : Dev) (k : Nat) : Dev :=
  d.each ((List.range 8).map (fun i => orcKey (orcLevel k - 1) (orcIndex k * 8 + i))) (fun d c =>
    if d.cry.orc.ctr.has c || (orcLevel c = 0 && d.med.leaves.has (orcIndex c)) then d.graftCounter c else d)

/-- ORCHARD_REGRAFT (R300): the subtree, and the nodes up to the highest orphaned one, take graft values (log 94). -/
def execOrchardRegraft (c : CmdHdr) (level index : Nat) (force : Bool) (s : State) : Out :=
  s.command c 0xC0D0 16 .change fun d =>
    let e := (level, index)
    if decide (10 < level) || decide (ceilDiv (2 ^ 32) (8 ^ level) ≤ index) ||
        (!force && !d.cry.orphans.any (fun o => underEntry o e || underEntry e o)) then d.refuse rcInvalid
    else
      let first := d.cry.graft
      let d := d.each (d.entryPages level index) Dev.regraftLines
      let top := ((d.cry.orphans.filter (fun o => underEntry e o)).map (·.1)).foldl max level
      let d := { d with cry := { d.cry with orphans := graftAt d.cry.orphans e, regraft := some e } }
      let d := (d.each (d.freshEntries level index) Dev.graftEntry).graftAbove level index top
      (rcOk, leBytes 1 level ++ zeros 7 ++ leBytes 8 index ++ leBytes 8 first, d.each (List.range 64) Dev.regionHealth)

/-- REGRAFT_COMPLETE: the background rewriting ends. -/
def execRegraftComplete (s : State) : Out := s.on fun d =>
  d.when (d.runs && d.cry.regraft.isSome) fun d => { d with cry := { d.cry with regraft := none } }

/-! ## MEDIA HEALTH (R200, R438) -/

/-- Retired blocks among the listed ones that a test picks. -/
def Dev.retiredOf (d : Dev) (p : Nat → Bool) : Nat := d.med.blocks.countP (fun e => e.2.state = .retired && p (e.1 / 1024))

/-- The largest dose of the bands that a test picks and that hold valid data, in eq-h, saturating at 65,535. -/
def Dev.maxDose (d : Dev) (p : Band → Bool) : Nat :=
  min 65535 (((d.med.bands.filter (fun e => p e.2 && !d.bandEmpty e.1)).map (fun e => d.bandDose e.2)).foldl max 0 / 1024)

/-- Staged data in GiB, rounded up. -/
def Dev.stagedGib (d : Dev) : Nat := ceilDiv (4096 * d.med.staged.length) (2 ^ 30)

/-- Scope 0: the device. -/
def Dev.healthDevice (d : Dev) : List Byte :=
  leBytes 8 (d.liveBlocks - d.neededBlocks) ++ leBytes 1 d.sparePct ++ leBytes 1 d.lifeUsed ++ zeros 2 ++
  leBytes 4 (d.retiredOf (fun _ => true)) ++ leBytes 2 (d.maxDose (fun _ => true)) ++ zeros 2 ++
  leBytes 4 (d.med.bands.countP (fun e => d.bandOverdue e.2)) ++ leBytes 4 d.stagedGib

/-- Scope 1: a package. Unlisted blocks have wear 0. -/
def Dev.healthPackage (d : Dev) (p : Nat) : List Byte :=
  let x := d.pkg p
  let live := d.med.blocks.filter (fun e => e.1 / 1024 / 16 = p && e.2.state ≠ .retired && e.2.state ≠ .absent)
  let gone := d.med.blocks.countP (fun e => e.1 / 1024 / 16 = p && (e.2.state = .retired || e.2.state = .absent))
  let n := 1024 * d.diesPerPkg - gone
  leBytes 2 (d.reg .THM_SENSn_TEMP (80 + p)) ++ leBytes 1 (b2n (!x.denseClosed) + 2 * b2n (!x.fastClosed)) ++ zeros 1 ++
  leBytes 8 (d.pkgDose p) ++ leBytes 4 (d.retiredOf (fun die => diePkg die = p)) ++
  leBytes 4 ((live.map (·.2.wear)).foldl max 0) ++ leBytes 4 ((live.map (·.2.wear)).foldl (· + ·) 0 / max 1 n)

/-- Scope 2: a die. Unlisted blocks are FREE. -/
def Dev.healthDie (d : Dev) (die : Nat) : List Byte :=
  let mine := d.med.blocks.filter (fun e => e.1 / 1024 = die)
  let free := 1024 - mine.countP (fun e => e.2.state ≠ .free)
  leBytes 2 (mine.countP (fun e => e.2.state = .ready)) ++ leBytes 2 free ++ leBytes 2 (d.retiredOf (fun x => x = die)) ++
  leBytes 2 (d.maxDose (fun b => (d.setDies b.set).contains die)) ++ leBytes 1 (b2n (d.die die).fallback) ++ zeros 7

/-- The band of a block. -/
def Dev.bandOfBlock (d : Dev) (k : Nat) : Option Band := (d.med.bands.find? (fun e => (d.bandBlocks e.2).contains k)).map (·.2)

/-- A block's health record (R200). -/
def Dev.healthBlock (d : Dev) (k : Nat) : List Byte :=
  let x := d.block k
  let b := d.bandOfBlock k
  let dose := (b.map d.bandDose).getD 0
  let flag := fun (p : Band → Bool) => b2n ((b.map p).getD false)
  let flags := b2n x.marked + 2 * flag (·.early) + 4 * flag (fun y => y.stream = 5) + 8 * b2n (d.die (k / 1024)).fallback +
    16 * flag (·.urgent)
  leBytes 4 x.wear ++ leBytes 2 (min 65535 (dose / 1024)) ++ leBytes 1 (refSet dose) ++ leBytes 1 x.state.ctorIdx ++
  leBytes 4 x.reads ++ leBytes 1 x.maxCb ++ leBytes 1 flags ++ leBytes 2 x.ladder

/-- MEDIA_HEALTH. A scope, block or count outside its range is refused, as is an ABSENT package or die. -/
def execMediaHealth (c : CmdHdr) (scope pkg die first count : Nat) (s : State) : Out :=
  s.command c 0xC0B0 8 .read fun d =>
    let head := leBytes 1 scope ++ zeros 7 ++ leBytes 8 d.now
    let noPkg := decide (64 ≤ pkg) || decide (d.ustate (packageIx pkg) = .absent)
    let noDie := noPkg || decide (16 ≤ die) || decide (d.diesPerPkg ≤ die)
    let n := pkg * 16 + die
    match scope with
    | 0 => (rcOk, head ++ d.healthDevice, d)
    | 1 => if noPkg then d.refuse rcInvalid else (rcOk, head ++ d.unitReply (unitIdOf (packageIx pkg)) ++ d.healthPackage pkg, d)
    | 2 => if noDie then d.refuse rcInvalid else (rcOk, head ++ d.healthDie n, d)
    | 3 =>
      if noDie || decide (1024 ≤ first) || count = 0 || decide (256 < count) then d.refuse rcInvalid
      else
        let m := min count (1024 - first)
        (rcOk, head ++ leBytes 2 m ++ zeros 6 ++ (List.range m).flatMap (fun i => d.healthBlock (blockKey n (first + i))), d)
    | _ => d.refuse rcInvalid

/-! ## PACKAGE REPLACE (R176) -/

/-- Map entries, and pages of the metadata stream, that name a band with a member on the package. -/
def Dev.pagesOnPackage (d : Dev) (p : Nat) : Nat :=
  let on := fun (e : Nat) => decide (e < mapPoisoned) &&
    (match d.band (entryBand e) with | some b => (d.setDies b.set).any (fun die => diePkg die = p) | none => false)
  d.med.map.countP (fun e => on e.2) + d.med.metaLoc.countP (fun e => on e.2.1)

/-- Step 2: ports stopped, power off over the sideband, RETIRED, blocks ABSENT. -/
def Dev.withdrawPackage (d : Dev) (p : Nat) : Dev :=
  let d := d.setPkg p { d.pkg p with pwrGood := false, portEn := 0, missed := 0, replacing := true, rebuilt := true }
  let d := d.setUnit (packageIx p) .retired 1 false
  let d := d.each ((d.pkgLinks p).filter (fun x => d.ustate (linkIx x.2) ∉ [.absent, .failed, .retired])) (fun d x =>
    let d := (d.moveUnit (linkIx x.2) .off 1 false).linkGone x.2
    d.setLink x.2 { d.link x.2 with train := 0, enabled := false })
  let keys := (d.ring.filter (fun die => diePkg die = p)).flatMap (fun die => (List.range 1024).map (blockKey die))
  (d.each keys (fun d k => d.setBlock k { d.block k with state := .absent })).judgeCapacity

/-- PACKAGE_REPLACE: the reply carries the progress of a rebuild or drain, 100 once nothing is left; how far a running one
has come is free below that. While it runs the command is rejected (R180), with Busy: R180 gives no code (log 92). -/
def execPackageReplace (c : CmdHdr) (pkg : Nat) (evacuate : Bool) (gen : Nat) (s : State) : Out :=
  s.command c 0xC0C0 4 .own fun d =>
    let ix := packageIx pkg
    let uid := unitIdOf ix
    let u := d.unit ix
    let answer := fun (rc : Nat) (d : Dev) =>
      let (f, d) := d.drawFree 176
      let pct := if d.ustate ix = .retired || (d.pagesOnPackage pkg = 0 && (d.pkg pkg).rebuilt) then 100 else f % 100
      let (rc, p, d) := d.unitAnswer uid rc
      (rc, p ++ leBytes 1 pct ++ zeros 7, d)
    if 64 ≤ pkg then d.refuse (if d.reg .JRN_STATUS_QSTATE ≠ 0 then rcBusy else rcInvalid)
    else if d.reg .JRN_STATUS_QSTATE ≠ 0 then answer rcBusy d
    else if gen ≠ u.gen then answer rcStale (d.stale ix)
    else match u.state with
      | .online | .degraded =>
        if evacuate then answer rcOk ((d.setUnit ix .draining 1 false).markRebuild pkg) else answer rcInvalid d
      | .failed => if (d.pkg pkg).rebuilt then answer rcOk (d.withdrawPackage pkg) else answer rcBusy d
      | .draining => if d.pagesOnPackage pkg = 0 then answer rcOk (d.withdrawPackage pkg) else answer rcBusy d
      | _ => answer rcInvalid d

end Sys2Proof.Machine
end

