-- ==== Sys2Proof/Machine/Crypto.lean ====
section
/-!
DEFINITION. Keys (R277 to R280), the reheat sweep (R303 to R308), lockdown and the masters' rights (R309, R310).
-/
namespace Sys2Proof.Machine

/-! ## Slots (R278) -/

/-- The allocation that a slot lies in: kind (0 region, 1 queue set, 2 spare, 3 unallocated) and owner. -/
def Dev.slotAlloc (d : Dev) (n : Nat) : Nat × Nat :=
  match ((d.cfg.map (·.crypto.allocs)).getD []).find? (fun a => decide (a.first ≤ n) && decide (n < a.first + a.count)) with
  | some a => (a.kind, a.owner)
  | none => (3, 0)

/-- A slot takes a state: its generation increments, a KEY record is appended, source 807. -/
def Dev.setSlot (d : Dev) (n : Nat) (st : SlotSt) (key : Key) (sweep : Nat) : Dev :=
  let d := d.keepKeys
  let g := ((d.slot n).gen + 1) % 65536
  let d := { d with cry := { d.cry with slots := d.cry.slots.put n { st, gen := g, key, sweep } } }
  let heads := match d.slotAlloc n with | (0, r) => d.regionHeads r | _ => 3
  (d.journal 0x07 n st.ctorIdx g).raise 807 { a := n, heads }

/-- Steps 1 and 2 of R279: the interface's key path, then lockdown. -/
def Dev.keyGate (d : Dev) (c : CmdHdr) : Option Nat :=
  let paths := (d.cfg.map (·.crypto.keyPaths)).getD 3
  if !paths.testBit (if c.iface = 2 then 1 else 0) || (paths.testBit 2 && !c.secured) then some rcUnsupported
  else if d.flag .CRY_STATUS_LOCKED then some rcSecurity
  else none

/-- The reply of KEY LOAD and KEY RETIRE. -/
def Dev.slotReply (d : Dev) (n : Nat) : List Byte :=
  leBytes 2 n ++ leBytes 1 (d.slot n).st.ctorIdx ++ zeros 1 ++ leBytes 2 (d.slot n).gen ++ zeros 2

/-- A key unwraps under the owner secret's key-encryption key; a failure is counted, with source 805, and the eighth since
power-on enters lockdown (R279, R310). -/
def Dev.unwrap (d : Dev) (n : Nat) (blob : List Byte) : Option Key × Dev :=
  match d.cry.owner.bind (fun o => Config.keyUnwrap o n (d.slot n).gen (blob.take 40)) with
  | some k => (some k, d)
  | none =>
    let d := { (d.count .CRY_ERR1_UNWRAP) with cry := { d.cry with unwraps := d.cry.unwraps + 1 } }.raise 805 { a := n }
    (none, if 8 ≤ d.cry.unwraps then d.lockdown 3 else d)

/-- KEY_LOAD_DATA_KEY: MODE 0 and the wrapped key; `reserved` when MODE holds a value other than 0 and 1. -/
def execKeyLoadDataKey (c : CmdHdr) (slot gen : Nat) (reserved : Bool) (blob : List Byte) (s : State) : Out :=
  s.command c 0xC030 48 .change fun d =>
    if decide (4096 ≤ slot) || reserved then d.refuse rcInvalid
    else match d.keyGate c with
      | some rc => (rc, d.slotReply slot, d)
      | none =>
        if d.cry.owner.isNone then (rcSecurity, d.slotReply slot, d)
        else if gen ≠ (d.slot slot).gen || (d.slot slot).st ≠ .empty then (rcStale, d.slotReply slot, d)
        else if 2 ≤ (d.slotAlloc slot).1 then (rcInvalid, d.slotReply slot, d)
        else match d.unwrap slot blob with
          | (some k, d) =>
            let d := d.setSlot slot .active k 0
            (rcOk, d.slotReply slot, d)
          | (none, d) => (rcInvalid, d.slotReply slot, d)

/-- KEY_LOAD_OWNER_SECRET: MODE 1, in a secured session while every slot is EMPTY (R277). The code of a refusal on those two
grounds is Invalid Security State. -/
def execKeyLoadOwnerSecret (c : CmdHdr) (slot gen : Nat) (secret : List Byte) (s : State) : Out :=
  s.command c 0xC030 40 .change fun d =>
    if 4096 ≤ slot then d.refuse rcInvalid
    else match d.keyGate c with
      | some rc => (rc, d.slotReply slot, d)
      | none =>
        if gen ≠ (d.slot slot).gen || (d.slot slot).st ≠ .empty then (rcStale, d.slotReply slot, d)
        else if !c.secured || d.cry.slots.any (fun e => e.2.st ≠ .empty) then (rcSecurity, d.slotReply slot, d)
        else (rcOk, d.slotReply slot, { d with cry := { d.cry with owner := some (secret.take 32) } })

/-- KEY_RETIRE. -/
def execKeyRetire (c : CmdHdr) (slot gen : Nat) (s : State) : Out :=
  s.command c 0xC031 4 .change fun d =>
    if 4096 ≤ slot then d.refuse rcInvalid
    else match d.keyGate c with
      | some rc => (rc, d.slotReply slot, d)
      | none =>
        if gen ≠ (d.slot slot).gen || (d.slot slot).st ≠ .active then (rcStale, d.slotReply slot, d)
        else
          let d := d.setSlot slot .empty 0 0
          (rcOk, d.slotReply slot, d)

/-! ## The reheat sweep (R303 to R308) -/

/-- Change a sweep. -/
def Dev.setSweep (d : Dev) (n : Nat) (w : Sweep) : Dev := { d with cry := { d.cry with sweeps := d.cry.sweeps.put n w } }

/-- The reply of REHEAT START. -/
def Dev.sweepReply (d : Dev) (n : Nat) : List Byte :=
  let w := d.cry.sweeps.find n
  leBytes 1 n ++ leBytes 1 ((w.map (·.st)).getD 0) ++ zeros 6 ++ leBytes 8 ((w.map (·.d)).getD 0)

/-- The end of the window that a region's sweep ranges over. -/
def Dev.sweepEnd (d : Dev) (r : RegionRec) : Nat := if r.rtype = .counter then counterWindow (d.regionCount r) else r.size

/-- REHEAT_START: `k` the key index swept with its expected generation, `j` the spare slot. What a refusal for a stale
generation reports of a sweep is free. -/
def execReheatStart (c : CmdHdr) (region k gen j base limit : Nat) (blob : List Byte) (s : State) : Out :=
  s.command c 0xC032 72 .change fun d =>
    match d.keyGate c with
    | some rc => d.refuse rc
    | none =>
      if (d.slot k).st ≠ .active || gen ≠ (d.slot k).gen then
        let (f, d) := d.drawFree 303
        (rcStale, leBytes 16 f, d)
      else match d.region region with
        | none => d.refuse rcInvalid
        | some r =>
          if r.rtype = .queue then d.refuse rcUnsupported
          else match freeKey d.cry.sweeps 4 with
            | none => d.refuse rcBusy
            | some n =>
              let forms := decide (r.keyBase ≤ k) && decide (k < r.keyBase + 2 ^ r.aliasW)
              let spare := (d.slot j).st = .empty && (d.slotAlloc j).1 = 2
              let range := decide (base % 4096 = 0) && decide (limit % 4096 = 0) && decide (base < limit) &&
                decide (limit ≤ d.sweepEnd r)
              if !forms || !spare || !range then d.refuse rcInvalid
              else match d.unwrap j blob with
                | (none, d) => d.refuse rcInvalid
                | (some key, d) =>
                  let d := (d.setSlot k .sweepOld (d.slot k).key n).setSlot j .sweepNew key n
                  let d := d.setSweep n { st := 1, region, k, j, base, limit, d := base, step := some d.now }
                  (rcOk, d.sweepReply n, d.regionHealth region)

/-- PAUSE and RESUME name a sweep that exists; a running step has no effect then. -/
def Dev.sweepState (d : Dev) (n st : Nat) : CmdOut :=
  match d.cry.sweeps.find n with
  | none => d.refuse rcInvalid
  | some w =>
    let d := if w.st = st then d else d.setSweep n { w with st, step := if st = 1 then some d.now else none, retryAt := d.now }
    (rcOk, d.sweepReply n, d)

/-- REHEAT_PAUSE. -/
def execReheatPause (c : CmdHdr) (sweep : Nat) (s : State) : Out := s.command c 0xC032 72 .change (·.sweepState sweep 2)

/-- REHEAT_RESUME. -/
def execReheatResume (c : CmdHdr) (sweep : Nat) (s : State) : Out := s.command c 0xC032 72 .change (·.sweepState sweep 1)

/-- The registers of a sweep: CRY_RHs_STAT, _BOUND, _LIMIT and _CNT. -/
def Dev.sweepRegs (d : Dev) (n : Nat) : List Nat :=
  let ab := d.reg .CRY_RHs_CNT_ABANDONS n * 2 ^ 32
  match d.cry.sweeps.find n with
  | none => [0, 0, 0, ab]
  | some w => [w.st + w.region * 4 + w.k * 2 ^ 8 + w.j * 2 ^ 20, w.d, w.limit, w.pages % 2 ^ 32 + ab]

/-- REHEAT_STATUS. -/
def execReheatStatus (c : CmdHdr) (s : State) : Out :=
  s.command c 0xC033 0 .read fun d => (rcOk, (List.range 4).flatMap (fun n => (d.sweepRegs n).flatMap (leBytes 8)), d)

/-- The pages that a main-window page of a region consists of: the one in force, and its delta page (R305, R62). -/
def Dev.sweepPids (d : Dev) (r : RegionRec) (page : Nat) : List Nat :=
  if r.rtype = .table then
    let m := d.mainPid r page
    let s := d.shadowPid r page
    if s = m then [m] else [m, s]
  else [d.pid r false page]

/-- A page is unwritten and not held in the DRAM tier. -/
def Dev.sweepClear (d : Dev) (r : RegionRec) (page : Nat) : Bool :=
  (d.sweepPids r page).all (fun p => !d.tier.has p && (!isLpn p || d.mapEntry p = mapUnwritten))

/-- The pages of a region that may be written, by page index: those that the tier or the map lists. -/
def Dev.listedPages (d : Dev) (r : RegionRec) : List Nat :=
  let own := (d.tier.keys ++ d.med.map.keys).filterMap (fun p => match d.pageOwner p with
    | some (n, false, i) => if n = r.number then some i else none
    | _ => none)
  own ++ (d.shadowOf r.number).delta.keys ++ (d.shadowOf r.number).folding.keys

/-- The next boundary at or after `b`: the first page that is not passed at once, or the limit. -/
def Dev.sweepNext (d : Dev) (r : RegionRec) (b limit : Nat) : Nat :=
  ((d.listedPages r).filter (fun i => decide (b ≤ i * 4096) && decide (i * 4096 < limit) && !d.sweepClear r i)).foldl
    (fun a i => min a (i * 4096)) limit

/-- A sweep ends (R307): k holds the new key, j is EMPTY, the old key is erased. -/
def Dev.endSweep (d : Dev) (n : Nat) (w : Sweep) : Dev :=
  let new := (d.slot w.j).key
  let d := (d.setSlot w.k .active new 0).setSlot w.j .empty 0 0
  let d := { d with cry := { d.cry with sweeps := d.cry.sweeps.del n } }
  (d.raise 809 { a := w.k, c := w.limit, heads := d.regionHeads w.region }).regionHealth w.region

/-- The boundary of a sweep moves, with its KEY record (R305). -/
def Dev.moveBoundary (d : Dev) (n : Nat) (w : Sweep) (b : Nat) : Dev :=
  let w := { w with d := b, abandons := 0 }
  let d := (d.keepKeys.setSweep n w).journal 0x07 (2 ^ 16 + n) b
  if w.limit ≤ b then d.endSweep n w else d

/-- Re-encrypt the lines of a page that verify under the old key (R305): poisoned, unwritten and other lines stay. -/
def Dev.rekeyPage (d : Dev) (k : Nat) (old new : Key) (pid : Nat) : Dev :=
  let d := d.internalReads pid (List.range 64)
  d.each (List.range 64) (fun d sub =>
    let lost := !d.inTier pid sub && (match d.orphanOf pid with | some l => l = 0 || d.strictOf pid | none => false)
    match d.cellAt pid sub with
    | some c => if d.poisoned pid sub || lost || c.ki ≠ k || c.key ≠ old || d.staleLine pid sub then d
                else (d.storeCell pid sub { c with key := new }).2
    | none => d)

/-- REHEAT_STEP: the step at D ends with its KEY record within 2 µs; the next starts at the pace. Pages that hold nothing
are passed at once. -/
def execReheatStep (sweep : Nat) (s : State) : Out := s.on fun d =>
  match d.cry.sweeps.find sweep with
  | none => d
  | some w =>
    match d.region w.region with
    | none => d
    | some r =>
      d.when (d.runs && w.st = 1) fun d =>
        if d.sweepClear r (w.d / 4096) then d.moveBoundary sweep w (d.sweepNext r w.d w.limit)
        else match w.step with
          | none => d
          | some t => d.when (decide (t ≤ d.now) && decide (d.now < t + 2000)) fun d =>
              let d := d.each (d.sweepPids r (w.d / 4096)) (·.rekeyPage w.k (d.slot w.k).key (d.slot w.j).key)
              let pace := 4096000 / max 1 ((d.cfg.map (·.crypto.rhMbps)).getD 2000)
              d.moveBoundary sweep { w with pages := w.pages + 1, step := some (max d.now (t + pace)) } (w.d + 4096)

/-- REHEAT_STEP_TIMEOUT: 2 µs. -/
def execReheatStepTimeout (sweep : Nat) (s : State) : Out := s.on fun d =>
  match (d.cry.sweeps.find sweep).bind (·.step) with
  | some t => d.when (decide (t + 2000 ≤ d.now)) (·.abandonStep sweep)
  | none => d

/-- REHEAT_STEP_RETRY: RH_RETRY_US after the abandonment. -/
def execReheatStepRetry (sweep : Nat) (s : State) : Out := s.on fun d =>
  match d.cry.sweeps.find sweep with
  | some w => d.when (d.runs && w.st = 1 && w.step.isNone && decide (w.retryAt ≤ d.now)) fun d =>
      d.setSweep sweep { w with step := some d.now }
  | none => d

/-! ## Lockdown and masters (R309, R310) -/

/-- CRY_LOCKDOWN_WRITE. -/
def execCryLockdownWrite (s : State) : Out := s.on fun d => (d.setFlag .CRY_CTL_LOCKDOWN 0 true).lockdown 0

/-- A master's rights under a key index: the highest that a record grants, capped at CIPHERTEXT (1) while debug is locked or
in lockdown. -/
def Dev.rights (d : Dev) (master ki : Nat) : Nat :=
  let rs := ((d.cfg.map (·.crypto.rights)).getD []).filter (fun r => r.master = master && decide (r.first ≤ ki) &&
    decide (ki < r.first + r.count))
  let top := (rs.map (·.rights)).foldl max 0
  if d.flag .CRY_STATUS_DEBUG_AUTH && !d.flag .CRY_STATUS_LOCKED then top else min top 1

/-- Results of a master access: done, refused by rights, poison, ciphertext form returned. -/
def maDone : Nat := 0
def maRefused : Nat := 1
def maPoison : Nat := 2
def maCipher : Nat := 3

/-- The stored form of a line (R309): the DRAM tier's or the media grain's. An unwritten line, and one that no page holds,
has no form that the spec states: free. -/
def Dev.storedForm (d : Dev) (g : RegionRec) (off : Nat) : Line × Dev :=
  let pid := d.readPid g off
  let sub := off % 4096 / 64
  match (match d.window g off with | .main | .shadow => d.cellAt pid sub | .counter _ => d.cellAt (d.pid g false (off / 4096)) sub
                                   | _ => none) with
  | some c => (Config.cipherLine c.key ((pid * 64 + sub) * 2 + b2n (d.inTier pid sub)) c.data, d)
  | none => d.drawFreeLine 309

/-- A read or write of a line by a master (R309): its result, the line read, the device. A refused access raises an event
whose source the spec does not list: a free one of the area. -/
def Dev.masterAccess (d : Dev) (master dpa : Nat) (data : Option Line) : Nat × Option Line × Dev :=
  match d.locate (dpa / 64 * 64) 3 with
  | none =>
    let (f, d) := d.drawFree 309
    (maRefused, none, d.raise (800 + f % 64) { dpa := dpa / 64 * 64 })
  | some (g, off, ki0) =>
    let w := d.window g off
    let ki := match w.queue? with | some q => d.queueKey q | none => ki0
    let line := g.base + off
    let heads := d.regionHeads g.number
    let right := d.rights master ki
    let refuse := fun (d : Dev) =>
      let (f, d) := d.drawFree 309
      (maRefused, (none : Option Line), d.raise (800 + f % 64) { dpa := line, a := ki, heads })
    let d := d.abandonSteps (fun x => x.region = g.number && x.d / 4096 = sweepOff g off / 4096)
    let share := d.ownerOf g w off
    let r : Req := { rid := d.rid, head := 0, tag := 0, kind := .read, dpa := line, region := g.number, off, ki, stamp := d.now
                     deadline := d.now, answerAt := d.now, latclass := g.latclass, data := data.getD 0
                     be := BitVec.allOnes 64, poison := false }
    match data with
    | none =>
      if right = 0 then refuse d
      else
      let d := match w with | .main | .shadow => d.internalReads (d.readPid g off) [off % 4096 / 64] | _ => d
      if right = 1 then let (l, d) := d.storedForm g off; (maCipher, some l, d)
      else match d.classify g w true true with
        | .error _ => (maPoison, none, d)
        | .ok kind =>
          if d.offline g w true then (maPoison, none, d)
          else
            let (v, d) : RdVal × Dev := match kind, w with
              | .counterRead, .counter m =>
                (match d.counterSet g.setId with
                 | some cs => d.counterRead g cs m
                 | none => (.offline, d))
              | _, _ => let (v, _, d) := d.effect share 8192 { r with kind := kind }; (v.getD .offline, d)
            match v with
            | .data l => (maDone, some l, d)
            | .macFail => (maPoison, none, d.macFailed line ki g.number)
            | _ => (maPoison, none, d)
    | some _ =>
      if right ≠ 3 then refuse d
      else match d.classify g w false true with
        | .error _ => (maDone, none, d)
        | .ok kind =>
          if d.offline g w false then (maDone, none, d.hostEvent 73 0 0 line g.number heads)
          else
            let delta := (d.shadowOf g.number).delta
            let (_, _, d) := d.effect share 8192 { r with kind := kind }
            let d := d.copyReads delta g.number
            (maDone, none, { d with rid := d.rid + 1 })

/-- A write of DBG_MA_CTL with GO: ignored until debug is unlocked. -/
def Dev.mailboxAccess (d : Dev) (write : Bool) : Dev :=
  let d := d.setFlag .DBG_MA_CTL_WRITE 0 write
  if !d.flag .CRY_STATUS_DEBUG_AUTH || !d.memActive then d
  else
    let (res, l, d) := d.masterAccess 3 (d.reg .DBG_MA_ADDR_DPA) (if write then some (BitVec.ofNat 512 (d.reg .DBG_MA_DATA_LINE)) else none)
    let d := d.setReg .DBG_MA_CTL_RESULT 0 res
    match l with
    | some x => d.setReg .DBG_MA_DATA_LINE 0 x.toNat
    | none => d

/-- DBG_MA_READ. -/
def execDbgMaRead (s : State) : Out := s.onHealth (·.mailboxAccess false)

/-- DBG_MA_WRITE. -/
def execDbgMaWrite (s : State) : Out := s.onHealth (·.mailboxAccess true)

end Sys2Proof.Machine
end

