-- ==== Sys2Proof/Machine/HostCmds.lean ====
section
/-!
DEFINITION. The commands of the heads and slices: the CXL.mem messages and the forms they take in each window (R57 to
R61, R74, R109, R209 to R214, R233 to R235), the progress of tracking-table entries (R104 to R114), the line cache
(R121 to R127), latency and load (R88, R142 to R151).
-/
namespace Sys2Proof.Machine

/-! ## CXL.mem messages (R74) -/

/-- A read request of a head. -/
def Dev.hostRead (d : Dev) (r : HostReq) : Dev := d.hostRequest r.head r.tag r.hpa true 0 0 false

/-- A write request of a head. -/
def Dev.hostWrite (d : Dev) (w : HostWr) : Dev := d.hostRequest w.head w.tag w.hpa false w.data w.be w.poison

/-- MemRd, MemRdData: in whatever window the address lies. -/
def execMemRd (r : HostReq) (s : State) : Out := s.on fun d => d.hostRead r

/-- A full-line MemWr. -/
def execMemWr (head tag hpa : Nat) (data : Line) (poison : Bool) (s : State) : Out := s.on fun d =>
  d.hostRequest head tag hpa false data (BitVec.allOnes 64) poison

/-- MemWrPtl: with every byte enabled it is a full write's equal; with none it completes without effect (R74), the Poison
bit of R76 included (DESIGN CHOICE, log 91). -/
def execMemWrPtl (w : HostWr) (s : State) : Out := s.on fun d => d.hostWrite w

/-- A run-ahead lookup of a line (R113, R115): it takes a free slot and launches its lookups under R106; a line that the line
cache or the hold has lands at once. -/
def Dev.aheadLookup (d : Dev) (k line ki off stamp : Nat) (g : RegionRec) : Dev :=
  let s := d.slice k
  match (List.range 64).find? (fun i => !s.ra.any (fun x => x.slot = i)) with
  | none => d
  | some slot =>
    let s := s.bump (12288 + slot)
    let bypass := d.flag .SLC_STATUS_BYPASS k
    let found := !bypass && ((s.lookup g.number (line * 64) ki).isSome || (s.held g.number (line * 64) ki).isSome)
    let x : RaEntry := { slot, line, region := g.number, ki, off, stamp, epoch := s.epoch (12288 + slot),
                         filledAt := if found then some d.now else none }
    let d := d.setSlice k { s with ra := s.ra ++ [x] }
    let pid := d.readPid g off
    if !found && d.mediaSpec k g (line * 64) pid then
      d.issueRead k (12288 + slot) (d.mapEntry pid) pid (off % 4096 / 256) (d.now + 10 ^ 9) x.epoch true
    else d

/-- MemSpecRd (R115): a hint that is handled as a single run-ahead lookup, or dropped. -/
def execMemSpecRd (r : HostReq) (s : State) : Out := s.on fun d =>
  d.when (d.canAccept r.head) fun d =>
    let (a, d) := d.decodeHpa r.head r.hpa
    match a with
    | none => d
    | some dpa =>
      match d.locate (dpa / 64 * 64) (2 ^ r.head) with
      | none => d
      | some (g, off, ki) =>
        let w := d.window g off
        if (w = .main || w = .shadow) && !d.offline g w true then
          match d.carrier (d.ownerOf g w off) with
          | none => d
          | some k =>
            let line := (g.base + off) / 64
            if d.inForce .SLC_CTL_SPECRD_EN k && !(d.slice k).ra.any (fun e => e.line = line) then
              d.aheadLookup k line ki off d.now g
            else d
        else d

/-- MemInv, MemInvNT: NDR Cmp, no data moves. The HPA is not decoded, so one that matches no decoder gets the same answer
and no event: R13 answers a read or a write, and MemInv is neither (DESIGN CHOICE, log 91). -/
def execMemInv (r : HostReq) (s : State) : Out := s.on fun d =>
  d.when (d.canAccept r.head) fun d => d.headAnswer r.head r.tag false

/-- Any other M2S opcode: dropped, with event 65. -/
def execUnsupportedM2sMessage (head tag opcode : Nat) (s : State) : Out := s.on fun d =>
  d.when (d.serves (headIx head) && d.flag .GLB_HEAD_LINK_CXL head) fun d =>
    d.raise 65 { a := head + tag * 65536, b := opcode }

/-! ## The forms in queue windows -/

/-- The stored pointers of the queue that a window belongs to are as `ptr` says when the access reaches them (R222). -/
def Dev.withPtr (d : Dev) (head hpa : Nat) (ptr : PtrCheck) : Dev :=
  match (d.winOf head hpa).bind (fun w => w.queue?), ptr with
  | some q, .repaired => { d with qen := { d.qen with ptrBad := d.qen.ptrBad.put q 1 } }
  | some q, .lost => { d with qen := { d.qen with ptrBad := d.qen.ptrBad.put q 2 } }
  | _, _ => d

/-- A write to an enqueue aperture (R209). -/
def execEnqueueLine (w : HostWr) (ptr : PtrCheck) (s : State) : Out := s.on fun d =>
  d.when (match d.winOf w.head w.hpa with | some (.enqueue _ _) => true | _ => false) (fun d => (d.withPtr w.head w.hpa ptr).hostWrite w)

/-- A read of a dequeue aperture (R211). -/
def execDequeueRead (r : HostReq) (ptr : PtrCheck) (s : State) : Out := s.on fun d =>
  d.when (match d.winOf r.head r.hpa with | some (.dequeue _ _) => true | _ => false) (fun d => (d.withPtr r.head r.hpa ptr).hostRead r)

/-- A doorbell write with OPCODE RELEASE (R212). -/
def execRelease (w : HostWr) (ptr : PtrCheck) (s : State) : Out := s.on fun d =>
  d.when (match d.winOf w.head w.hpa with | some (.doorbell _) => lineAt w.data 0 4 = 1 | _ => false)
    (fun d => (d.withPtr w.head w.hpa ptr).hostWrite w)

/-- A doorbell write with OPCODE ABORT (R212). -/
def execAbort (w : HostWr) (ptr : PtrCheck) (s : State) : Out := s.on fun d =>
  d.when (match d.winOf w.head w.hpa with | some (.doorbell _) => lineAt w.data 0 4 = 2 | _ => false)
    (fun d => (d.withPtr w.head w.hpa ptr).hostWrite w)

/-- A read of a queue's doorbell line (R213). -/
def execDoorbellStatusRead (r : HostReq) (ptr : PtrCheck) (s : State) : Out := s.on fun d =>
  d.when (match d.winOf r.head r.hpa with | some (.doorbell _) => true | _ => false) (fun d => (d.withPtr r.head r.hpa ptr).hostRead r)

/-- A read of an enqueue aperture (R214): poison and event 69. -/
def execEnqueueApertureRead (r : HostReq) (s : State) : Out := s.on fun d =>
  d.when (match d.winOf r.head r.hpa with | some (.enqueue _ _) => true | _ => false) (fun d => d.hostRead r)

/-- A write to a dequeue aperture (R214): discarded with event 69. -/
def execDequeueApertureWrite (w : HostWr) (s : State) : Out := s.on fun d =>
  d.when (match d.winOf w.head w.hpa with | some (.dequeue _ _) => true | _ => false) (fun d => d.hostWrite w)

/-! ## The forms in counter and control windows -/

/-- A write to a tally window (R235). -/
def execUpdateLine (w : HostWr) (s : State) : Out := s.on fun d =>
  d.when (decide (d.winOf w.head w.hpa = some .tally)) (fun d => d.hostWrite w)

/-- A read of a tally window (R234): poison and event 69. -/
def execTallyWindowRead (r : HostReq) (s : State) : Out := s.on fun d =>
  d.when (decide (d.winOf r.head r.hpa = some .tally)) (fun d => d.hostRead r)

/-- A read of a counter-window line (R233). -/
def execCounterWindowRead (r : HostReq) (s : State) : Out := s.on fun d =>
  d.when (match d.winOf r.head r.hpa with | some (.counter _) => true | _ => false) (fun d => d.hostRead r)

/-- A write to a counter-window line (R233). -/
def execCounterWindowWrite (w : HostWr) (s : State) : Out := s.on fun d =>
  d.when (match d.winOf w.head w.hpa with | some (.counter _) => true | _ => false) (fun d => d.hostWrite w)

/-- A write through a shadow window (R58, R61). -/
def execShadowWrite (w : HostWr) (s : State) : Out := s.on fun d =>
  d.when (decide (d.winOf w.head w.hpa = some .shadow)) (fun d => d.hostWrite w)

/-- A read through a shadow window (R57). -/
def execShadowRead (r : HostReq) (s : State) : Out := s.on fun d =>
  d.when (decide (d.winOf r.head r.hpa = some .shadow)) (fun d => d.hostRead r)

/-- A COMMIT doorbell (R59, R60). -/
def execCommit (w : HostWr) (s : State) : Out := s.on fun d =>
  d.when (decide (d.winOf w.head w.hpa = some (.control 0)) && decide (lineAt w.data 0 4 = 1)) (fun d => d.hostWrite w)

/-- A DISCARD doorbell (R59, R61). -/
def execDiscard (w : HostWr) (s : State) : Out := s.on fun d =>
  d.when (decide (d.winOf w.head w.hpa = some (.control 0)) && decide (lineAt w.data 0 4 = 2)) (fun d => d.hostWrite w)

/-- A read of a region's status line (R59). -/
def execStatusLineRead (r : HostReq) (s : State) : Out := s.on fun d =>
  d.when (decide (d.winOf r.head r.hpa = some (.control 64))) (fun d => d.hostRead r)

/-! ## Tracking-table entries (R104, R105, R107) -/

/-- A slice's logic runs: it is not in reset and not lost. -/
def Dev.sliceRuns (d : Dev) (k : Nat) : Bool :=
  d.serves (sliceIx k) || d.ustate (sliceIx k) = .draining

/-- The buddy log, or the journal when the slice runs solo, acknowledges an acceptance record (R105, R132): a request of
an engine passes to it, and a write's completion is sent unless it waits for a through sheet. -/
def execBuddyRecordAck (slice entry : Nat) (s : State) : Out := s.on fun d =>
  match d.entry slice entry with
  | some t => d.when (d.sliceRuns slice && !t.acked) fun d =>
      let st := if t.req.kind.isEngine && t.state = .accepted then .engine else t.state
      ((d.setEntry slice entry { t with acked := true, state := st }).settle slice entry).pump slice
  | none => d

/-- The page that an entry's line lies in. -/
def Dev.entryPid (d : Dev) (t : TtEntry) : Nat :=
  match d.regionAt t.req.stamp t.req.region with
  | some g => d.readPid g t.req.off
  | none => 0

/-- The younger entries of a slice on the line of an entry, in acceptance order. -/
def SliceS.younger (s : SliceS) (t : TtEntry) : List (Nat × TtEntry) :=
  s.inOrder.filter (fun x => decide (t.seq < x.2.seq) && x.2.req.dpa = t.req.dpa && x.2.req.region = t.req.region &&
    !x.2.req.kind.isEngine)

/-- The old line of a partial write did not verify (R109, R296), or was lost with its grain: the whole line is poisoned. What
was accepted later on the line follows it (R15, R108): reads up to the next full write meet the poison, partial writes up to
it change nothing (R82), and that full write ends the poison. -/
def Dev.poisonPartial (d : Dev) (k : Nat) (t : TtEntry) (pid : Nat) (event : Bool) : Dev :=
  let sub := t.req.off % 4096 / 64
  let after := (d.slice k).younger t
  let d := if after.any (fun x => x.2.req.kind = .write) then d else d.poisonLine pid sub poisonInternal
  let d := d.each (after.takeWhile (fun x => x.2.req.kind ≠ .write)) (fun d x =>
    if x.2.req.kind.isRead then
      let x' := { x.2 with val := some .stored }
      (d.setEntry k x.1 x').logged k x.1 x'
    else d)
  if event then
    (d.count .CRY_ERR1_PTL_POISON).raise 801
      { dpa := (d.dpaOf pid sub).getD 0, a := t.req.ki, heads := d.regionHeads t.req.region }
  else d

/-- The stack's errors of a line read from the DRAM tier: corrected ones are counted with an event past a threshold that the
spec does not state, uncorrected ones with one each. -/
def Dev.stackError (d : Dev) (k : Nat) (corrected : Bool) : Dev :=
  let info := fun (n : Nat) => ({ a := k, b := b2n (!corrected), c := n, unitId := unitIdOf (stackIx k) } : EvInfo)
  if corrected then
    let d := { d with med := { d.med with corrVol := d.med.corrVol + 1 } }
    let (f, d) := (d.count .DRT_STACKd_ERR_CE k).drawFree 640
    if f % 2 = 1 then d.raise (640 + 4 * k) (info (d.reg .DRT_STACKd_ERR_CE k)) else d
  else
    let d := d.count .DRT_STACKd_ERR_UE k
    d.raise (641 + 4 * k) (info (d.reg .DRT_STACKd_ERR_UE k))

/-- The check of a line that the DRAM tier holds (R287): the device, and whether no copy verifies. -/
def Dev.tierCheck (d : Dev) (pid sub : Nat) (check : TierCheck) : Bool × Dev :=
  let cs := (d.page pid).copies
  if !d.inTier pid sub then (false, d)
  else match check with
    | .ok => (false, d)
    | .corrected k => (false, if cs.contains k then d.stackError k true else d)
    | .oneCopy k ecc =>
      if cs.contains k then (decide (cs.length < 2), if ecc then d.stackError k false else d) else (false, d)
    | .everyCopy ecc => (true, if ecc then d.each cs (fun d k => d.stackError k false) else d)

/-- A run-ahead lookup lands in the buffer (R114), or its line did not verify and the slot is emptied. -/
def Dev.landAhead (d : Dev) (k slot : Nat) (good : Bool) : Dev :=
  if good then
    let s := d.slice k
    d.setSlice k { s with ra := s.ra.map (fun (x : RaEntry) => if x.slot = slot then { x with filledAt := some d.now } else x) }
  else d.dropAhead k (fun x => x.slot = slot)

/-- A prefetch ends (R122): its internal entry is freed, and what it brought fills the line cache but for the lines that did
not verify; dropped without a fill. -/
def Dev.endPrefetch (d : Dev) (k e : Nat) (p : PfReq) (fill : Option (List Nat)) : Dev :=
  let d := d.setSlice k { d.slice k with int := (d.slice k).int.del e }
  match fill, d.region p.region with
  | some bad, some g => d.fill k d.now g (p.sector * 256) p.ki (d.readPid g (p.sector * 256 - g.base)) bad
  | _, _ => d.perf 0x33 k

/-- The four lines of a sector of a page. -/
def sectorSubs (off : Nat) : List Nat := (List.range 4).map (· + off % 4096 / 256 * 4)

/-- A grain read of a lookup that carries no deadline of a request: a run-ahead slot or a prefetch. -/
def Dev.idleRead (d : Dev) (k e pid off epoch : Nat) : Dev :=
  if d.med.reads.any (fun x => x.2.slice = k && x.2.entry = e && x.2.epoch = epoch) then d.demandRead k e epoch
  else d.issueRead k e (d.mapEntry pid) pid (off % 4096 / 256) (d.now + 10 ^ 9) epoch false

/-- The DRAM tier answers the sector read of a run-ahead slot or a prefetch (R106, R122). -/
def Dev.idleTierResult (d : Dev) (k e epoch : Nat) (check : TierCheck) : Dev :=
  match (d.slice k).int.find e, (d.slice k).ra.find? (fun x => x.slot + 12288 = e && x.filledAt.isNone) with
  | some p, _ =>
    (match d.region p.pf.region with
     | none => d.endPrefetch k e p.pf none
     | some g =>
       if p.epoch ≠ epoch || d.med.reads.any (fun x => x.2.slice = k && x.2.entry = e) then d else
       let off := p.pf.sector * 256 - g.base
       let pid := d.readPid g off
       let media := (sectorSubs off).any (fun i => d.onMedia pid i)
       let d := d.train k (p.pf.sector * 256) media
       if media then (if (d.slice k).mec.contains pid then d.idleRead k e pid off epoch else d.endPrefetch k e p.pf none)
       else
         let (lost, d) := (d.touch pid).tierCheck pid (off % 4096 / 64) check
         d.endPrefetch k e p.pf (some (if lost then sectorSubs off else [])))
  | none, some x =>
    (match d.regionAt x.stamp x.region with
     | none => d.dropAhead k (fun y => y.slot = x.slot)
     | some g =>
       if x.epoch ≠ epoch then d else
       let pid := d.readPid g x.off
       let media := d.onMedia pid (x.off % 4096 / 64)
       let d := d.train k (x.line * 64) media
       if media then
         if !(d.slice k).mec.contains pid && !d.mapHeld (pid / mapPageEntries) then
           (if d.med.reads.any (fun y => y.2.slice = fetchSlice k && y.2.entry = e && y.2.epoch = epoch) then d
            else d.mapMiss (d.lookupRead k e pid (d.now + 10 ^ 9) epoch))
         else
           let d := if (d.slice k).mec.contains pid then d else d.mapHit pid
           (d.mecFill k pid).idleRead k e pid x.off epoch
       else
         let d := d.cancelRead k e epoch
         let (lost, d) := (d.touch pid).tierCheck pid (x.off % 4096 / 64) check
         d.landAhead k x.slot (!lost))
  | none, none => d

/-- The DRAM tier answers a sector read (R106, R107). A result under another token epoch is dropped (R111). A hit resolves
the entry, and what is still out for it is cancelled (R112); a miss issues its media read, or makes the speculative one a
demand. A line that nothing has written has no media copy and is answered as zeros at the miss (R47). A line that verifies in
no copy is answered with poison, or poisons the partial write that needs it (R287, R296). -/
def execDramTierReadResult (slice entry : Nat) (answer : TierAnswer) (s : State) : Out := s.on fun d =>
  match d.entry slice entry with
  | some t => d.when (d.sliceRuns slice && t.state = .lookup && t.dramOut && decide (t.epoch = answer.epoch)) fun d =>
      d.causedBy (some t.req.stamp) fun d =>
      let r := t.req
      let pid := d.entryPid t
      let sub := r.off % 4096 / 64
      let d := d.train slice r.dpa (isLpn pid && !d.inTier pid sub)
      if t.media && decide (d.mapEntry pid < mapPoisoned) then
        -- the lookup of a paged map may need its page from media first (R160); class A is then excused (R145, R147)
        let waits := t.mapOut && !d.mapHeld (pid / mapPageEntries)
        let d := d.setEntry slice entry { t with dramOut := false, mapOut := waits
                                                 cause := if waits && r.latclass = 0 then t.cause ||| 64 else t.cause }
        if waits then d.mapMiss (d.lookupRead slice entry pid r.deadline answer.epoch) else
        let d := if t.mapOut then (d.mapHit pid).mecFill slice pid else d
        if d.med.reads.any (fun e => e.2.slice = slice && e.2.entry = entry && e.2.epoch = answer.epoch) then
          d.demandRead slice entry answer.epoch
        else d.asOf r.stamp (fun d => d.issueRead slice entry (d.mapEntry pid) pid (r.off % 4096 / 256) r.deadline answer.epoch false)
      else
        let d := (d.cancelRead slice entry answer.epoch).cancelLookups slice r.latclass pid false t.mapOut
        let t := { t with dramOut := false, mapOut := false }
        let (lost, d) := ((d.setEntry slice entry t).touch pid).tierCheck pid sub answer.check
        if r.kind.isRead then
          let d := if lost then d.setEntry slice entry { t with val := some .macFail } else d
          (d.respond slice entry (some (if lost then [sub] else []))).pump slice
        else
          let d := if lost then d.poisonPartial slice t pid true else d
          (d.toWrite slice entry).pump slice
  | none => d.when (d.sliceRuns slice) (·.idleTierResult slice entry answer.epoch answer.check)

/-- Causes of R147 that a media read leaves on its entry. -/
def Dev.readCause (d : Dev) (t : TtEntry) (r : MRead) : Nat :=
  let bad := match d.band (entryBand r.loc) with
    | some b => (d.setDies b.set).any (fun m =>
        d.ustate (packageIx (diePkg m)) ∈ [.failed, .absent] || !(d.pkg (diePkg m)).rebuilt)
    | none => false
  let c := d.unit (complexIx (d.complexOf r.die))
  let held := c.recovery || (c.cause = 3 && decide (t.req.stamp < c.since))
  -- FAULT: a recovery of the complex, a command reissued, read-around as the only path, a band set with a member lost (R143,
  -- R147, R154)
  (if held || r.fault || (bad && decide (t.req.deadline - t.req.stamp < 1085)) then 2 else 0) ||| (if r.contention then 128 else 0) |||
  (if d.thm.complexF.findD (d.complexOf r.die) 0 = 0 then 0 else 16)

/-- What a read returns once its media line's freshness cannot be checked (R298): poison with its leaf lost or under STRICT;
else the value it had at its acceptance, served unverified, counted, with event 803. -/
def Dev.orphanVal (d : Dev) (v : RdVal) (lpn sub ki l : Nat) : RdVal × Dev :=
  if l = 0 || d.strictOf lpn then (.offline, d)
  else match v with
    | .data _ =>
      let heads := match d.pageOwner lpn with | some (n, _, _) => d.regionHeads n | none => 3
      (v, (d.count .ORC_UNVER_LINES).raise 803 { dpa := (d.dpaOf lpn sub).getD 0, a := ki, b := l, c := lpn / 8 ^ l, heads })
    | v => (v, d)

/-- A delivered read leaves the media: what is queued for it goes, what is on a link is dropped on return (R112), and a
ladder that still runs goes on without a slice (R189). -/
def Dev.takeGrain (d : Dev) (n : Nat) (r : MRead) : Dev :=
  let direct := fun (u : CmdUse) => u = .grain n false
  let ladder := decide (0 < r.step) && (d.med.cmds.any (fun c => direct c.2.use) || !(d.queuedOn direct).isEmpty)
  let gone := fun (u : CmdUse) => usesRead n u && (!ladder || !direct u)
  let on := d.queuedOn gone
  let rest : MRead := { r with slice := 16, ready := false, members := [], path := .direct, rank := 6, deadline := noDeadline }
  let reads := if ladder then d.med.reads.put n rest else d.med.reads.del n
  ({ d with med := { d.med with reads } }.unqueue gone).each on Dev.goOn

/-- What a grain's check comes to (R294, R297, R298): a cached entry never depends on its stored copies, so only an entry
that was fetched for the read can be found bad; one that its fetch has orphaned is. -/
def Dev.chainCheck (d : Dev) (r : MRead) (check : GrainCheck) : GrainCheck :=
  let gone := r.fetched.filter (fun l => d.cry.orphans.contains (l, r.lpn / 8 ^ l))
  match check with
  | .orphan l => if r.fetched.contains l then .orphan l else .ok
  | .repaired => if r.fetched.isEmpty then .ok else .repaired
  | .macFail => .macFail
  | .ok => match gone with
    | l :: _ => .orphan (gone.foldl min l)
    | [] => .ok

/-- The media grain of a dequeue read arrives: the engine answers with it (R215). A spill page that is lost damages its
frames (R230). -/
def Dev.engineGrain (d : Dev) (k e : Nat) (t : TtEntry) (r : MRead) (check : GrainCheck) : Dev :=
  let sub := t.req.off % 4096 / 64
  let q := (d.regionAt t.req.stamp t.req.region).bind (fun g => (d.window g t.req.off).queue?)
  let d := if r.lost && r.lpn = spillKey then (match q with | some q => d.spillLost q 16 | none => d) else d
  let (v, d) : RdVal × Dev :=
    if r.lost then (.stored, d)
    else match check with
      | .ok | .repaired => (t.val.getD .offline, d)
      | .macFail => (.macFail, d)
      | .orphan l => d.orphanVal (t.val.getD .offline) r.lpn sub t.req.ki l
  (d.setEntry k e { t with val := some v }).pump k

/-- A media grain reaches the slice (R107, R285): `check` says how its lines and their counters verify. A grain that the
ladder lost was stored poisoned when it was lost (R188). A grain under another token epoch is dropped (R111). -/
def execMediaGrainDelivered (slice entry : Nat) (answer : GrainAnswer) (s : State) : Out := s.on fun d =>
  match d.med.reads.find? (fun e => e.2.slice = slice && e.2.entry = entry && e.2.epoch = answer.epoch && e.2.ready) with
  | none => d
  | some (n, r) =>
    -- the response waits for the orchard chain (R294)
    let chain := d.med.reads.any (fun e => e.2.slice = fetchSlice slice && e.2.entry = entry && e.2.epoch = answer.epoch)
    d.when (d.sliceRuns slice && !chain) fun d =>
    let check := d.chainCheck r answer.check
    match d.entry slice entry with
    | some t => d.when ((t.state = .lookup || t.req.kind.isEngine) && decide (t.epoch = answer.epoch) && !r.spec) fun d =>
        d.causedBy (some t.req.stamp) fun d =>
        let d := d.takeGrain n r
        let t := { t with cause := t.cause ||| d.readCause t r }
        let heads := d.regionHeads t.req.region
        let sub := t.req.off % 4096 / 64
        let d := match check with
          | .orphan l => d.orphan l (r.lpn / 8 ^ l) t.req.ki heads
          | .repaired => d.count .ORC_COPY_REPAIRED
          | _ => d
        if t.req.kind.isEngine then d.engineGrain slice entry t r check
        else if t.req.kind.isRead then
          let (v, d) : RdVal × Dev :=
            if r.lost then (.stored, d)
            else match check with
              | .ok | .repaired => (t.val.getD .offline, d)
              | .macFail => (.macFail, d)
              | .orphan l => d.orphanVal (t.val.getD .offline) r.lpn sub t.req.ki l
          let bad := match v with | .data _ => [] | _ => [sub]
          ((d.setEntry slice entry { t with val := some v }).respond slice entry (some bad)).pump slice
        else
          let d := d.setEntry slice entry t
          let d := if r.lost then d.poisonPartial slice t r.lpn false
            else match check with
              | .ok | .repaired => d
              | .macFail => d.poisonPartial slice t r.lpn true
              | .orphan l => if l = 0 || d.strictOf r.lpn then d.poisonPartial slice t r.lpn true else d
          (d.toWrite slice entry).pump slice
    | none =>
      match (d.slice slice).int.find entry with
      | some p =>
        let off := (d.slice slice).int.find entry |>.elim 0 (fun p => p.pf.sector * 256)
        (d.takeGrain n r).endPrefetch slice entry p.pf (some (if r.lost || check = .macFail then sectorSubs off else []))
      | none =>
        (d.takeGrain n r).landAhead slice (entry - 12288) (!r.lost && (check = .ok || check = .repaired))

/-- Every target stack acknowledges a write: DONE (R104). -/
def execDramTierWriteAck (slice entry : Nat) (s : State) : Out := s.on fun d =>
  match d.entry slice entry with
  | some t => d.when (d.sliceRuns slice && t.state = .write) fun d =>
      ((d.setEntry slice entry { t with state := .done }).settle slice entry).pump slice
  | none => d

/-- The queue or tally engine acknowledges a request it has applied: DONE (R104, R238). -/
def execEngineAck (slice entry : Nat) (s : State) : Out := s.on fun d =>
  match d.entry slice entry with
  | some t =>
    let applied := t.applied || !(t.req.kind = .tally || t.req.kind = .counterRead || t.req.kind = .counterWrite)
    let reading := d.med.reads.any (fun x => x.2.slice = slice && x.2.entry = entry)
    d.when (d.sliceRuns slice && t.state = .engine && applied && !reading) fun d =>
      if t.req.kind.isRead then (d.respond slice entry none).pump slice
      else ((d.setEntry slice entry { t with state := .done }).settle slice entry).pump slice
  | none => d

/-! ## Prefetch and run-ahead (R113, R114, R121, R122) -/

/-- One of the next-line prefetches on the way to a slice reaches it: dropped under R122, else an internal entry reads the
sector as a read would. The spec orders them nowhere: the operand says which, counted from the oldest. -/
def execNextLinePrefetch (slice nth : Nat) (s : State) : Out := s.on fun d =>
  let x := d.slice slice
  match x.pf[nth]? with
  | none => d
  | some p => d.when (d.sliceRuns slice) fun d =>
      let d := d.setSlice slice { x with pf := x.pf.eraseIdx nth }
      match d.region p.region with
      | none => d.perf 0x33 slice
      | some g =>
        let here := x.ways.any (fun e => e.2.sector = p.sector && e.2.region = p.region && e.2.ki = p.ki &&
          !e.2.lines.isEmpty) || x.holds p.region p.sector p.ki
        let busy := x.tt.any (fun e => sectorOf e.2.req.dpa = p.sector)
        match (List.range 4096).find? (fun i => !x.tt.has (8192 + i) && !x.int.has (8192 + i)) with
        | none => d.perf 0x33 slice
        | some i =>
          if decide (3072 < d.intUse slice) || here || !d.cached slice g || busy then d.perf 0x33 slice
          else
            let x := (d.slice slice).bump (8192 + i)
            d.setSlice slice { x with int := x.int.put (8192 + i) { pf := p, epoch := x.epoch (8192 + i) } }

/-- The oldest entry of a slice has waited in LOOKUP for over 200 ns while the host entries are all in use (R113). -/
def Dev.runAheadDue (d : Dev) (k : Nat) : Bool :=
  d.inForce .SLC_CTL_RUNAHEAD_EN k && decide (8192 ≤ (d.slice k).hostUse) &&
  (match (d.slice k).inOrder.head? with
   | some x => x.2.state = .lookup && decide (x.2.lookupAt + 200 < d.now)
   | none => false)

/-- What waits for a slice, of every share it carries, in the order of R103. -/
def Dev.waiting (d : Dev) (k : Nat) : List Req :=
  let own := fun (j : Nat) => if d.carrier j = some k then (d.slice j).ingress else []
  (own (k ^^^ 1)).foldl (fun l r => insertIngress r l) (own k)

/-- Run-ahead (R113): reads of TABLE and SCRATCH regions that wait, at most 64, launch their lookups without being accepted.
Reads behind an unaccepted same-line write of the same head are skipped. -/
def execRunAhead (slice : Nat) (s : State) : Out := s.on fun d =>
  d.when (d.sliceRuns slice && d.runAheadDue slice) fun d =>
    let q := d.waiting slice
    let ok := fun (i : Nat) (r : Req) => r.kind = .read &&
      !(q.take i).any (fun w => !w.kind.isRead && w.dpa = r.dpa && w.head = r.head)
    let picks := ((List.range q.length).filterMap (fun i =>
      match q[i]? with | some r => if ok i r then some r else none | none => none)).take 64
    d.each picks (fun d r =>
      match d.regionAt r.stamp r.region with
      | some g =>
        if (d.slice slice).ra.any (fun e => e.line = r.dpa / 64) then d
        else d.aheadLookup slice (r.dpa / 64) r.ki r.off r.stamp g
      | none => d)

/-- A run-ahead entry is 2 µs old (R114). -/
def execRunAheadEntryExpiry (slice line : Nat) (s : State) : Out := s.on fun d =>
  d.dropAhead slice (fun e => e.line = line && (match e.filledAt with | some t => decide (t + 2000 ≤ d.now) | none => false))

/-! ## Victim hold (R123, R124) -/

/-- The DRAM tier answers a clean offer. It declines what it already holds; `accept` is its answer otherwise. -/
def execCleanOfferAnswer (slice hold : Nat) (accept : Bool) (s : State) : Out := s.on fun d =>
  let x := d.slice slice
  match x.hold.find hold with
  | none => d
  | some h => d.when (!h.sending) fun d =>
      let pid := match d.region h.region with
        | some g => d.readPid g (h.sector * 256 - g.base)
        | none => 0
      let holds := h.lines.all (fun e => d.inTier pid (h.sector % 16 * 4 + e.1))
      if accept && !holds then
        (d.setSlice slice { x with hold := x.hold.put hold { h with sending := true } }).count .SLC_OFFER_ACCEPTED slice
      else (d.setSlice slice { x with hold := x.hold.del hold }).count .SLC_OFFER_DECLINED slice

/-- The DRAM tier acknowledges offer data (R123): it holds a clean copy of the lines (R474), the hold entry is free. A
line written since the fill is already held. -/
def execOfferDataAck (slice hold : Nat) (s : State) : Out := s.on fun d =>
  let x := d.slice slice
  match x.hold.find hold with
  | none => d
  | some h => d.when h.sending fun d =>
      let d := d.setSlice slice { x with hold := x.hold.del hold }
      match d.region h.region with
      | none => d
      | some g =>
        let pid := d.readPid g (h.sector * 256 - g.base)
        let p := d.page pid
        let lines := h.lines.foldl (fun (m : AMap Cell) e =>
          let sub := h.sector % 16 * 4 + e.1
          if m.has sub then m else match d.cellAt pid sub with | some c => m.put sub c | none => m) p.lines
        if lines.isEmpty then d
        else
          let (st, d) := if p.copies.isEmpty then d.pickStacks 1 else (p.copies, d)
          (d.setPage pid { p with lines, copies := st, usedAt := d.now }).trimClean

/-! ## Line-cache errors (R125 to R127) -/

/-- The number of ways of a slice that are enabled and in use. -/
def Dev.waysOn (d : Dev) (k : Nat) : Nat := (List.range 24).countP (fun w => d.wayOn k w)

/-- Enter or leave cache bypass with the number of enabled ways (R126, R127). -/
def Dev.checkBypass (d : Dev) (k : Nat) : Dev :=
  let low := decide (d.waysOn k < 12)
  if low && !d.flag .SLC_STATUS_BYPASS k then
    ((d.setFlag .SLC_STATUS_BYPASS k true).raise (129 + 16 * k) { unitId := unitIdOf (sliceIx k) }).sliceHealth k
  else if !low && d.flag .SLC_STATUS_BYPASS k then (d.setFlag .SLC_STATUS_BYPASS k false).sliceHealth k
  else d

/-- Disable a way (R125): its sectors go, the mark is set, source 128 + 16k names the way and the count. -/
def Dev.disableWay (d : Dev) (k set w n : Nat) : Dev :=
  let s := d.slice k
  let d := d.setSlice k { s with ways := s.ways.keep (fun i _ => i % 24 ≠ w), ce := s.ce.del w }
  let d := d.setFieldBit .SLC_WAY_DIS_WAY_DIS k w true
  (d.raise (128 + 16 * k) { unitId := unitIdOf (sliceIx k), a := set + w * 65536, b := n, c := s.seq }).checkBypass k

/-- A way takes an ECC error (R125): the eighth corrected error of a 1 s window, or an uncorrected one, disables it. -/
def execLineCacheEccError (slice set way : Nat) (corrected : Bool) (s : State) : Out := s.on fun d =>
  d.when (decide (slice < 16) && decide (way < 24) && d.wayOn slice way) fun d =>
    if corrected then
      let x := d.slice slice
      let w := d.now / 1000000000
      let n := match x.ce.find way with
        | some (v, n) => if v = w then n + 1 else 1
        | none => 1
      let d := (d.setSlice slice { x with ce := x.ce.put way (w, n) }).count .SLC_WAY_STAT_CE_TOTAL slice
      if 8 ≤ n then d.disableWay slice set way n else d
    else d.disableWay slice set way 0

/-- A 1 s window of corrected errors has ended (R125): the counts of earlier windows go. -/
def execWayErrorWindowEnd (slice : Nat) (s : State) : Out := s.on fun d =>
  let x := d.slice slice
  d.setSlice slice { x with ce := x.ce.keep (fun _ e => decide (d.now / 1000000000 ≤ e.1)) }

/-- A write of 1s to SLC_WAY_TEST starts the test of the disabled ways named (R127). -/
def Dev.testWays (d : Dev) (slice mask : Nat) : Dev :=
    d.each (List.range 24) (fun d w =>
      if mask.testBit w && (d.reg .SLC_WAY_DIS_WAY_DIS slice).testBit w then
        d.setFieldBit .SLC_WAY_TEST_TESTING slice w true else d)

/-- SLC_WAY_TEST_WRITE. -/
def execSlcWayTestWrite (slice mask : Nat) (s : State) : Out := s.on fun d => d.when (decide (slice < 16)) (·.testWays slice mask)

/-- A way test ends (R127). -/
def execWayTestDone (slice way : Nat) (pass : Bool) (s : State) : Out := s.on fun d =>
  d.when (decide (slice < 16) && (d.reg .SLC_WAY_TEST_TESTING slice).testBit way) fun d =>
    let d := d.setFieldBit .SLC_WAY_TEST_TESTING slice way false
    if pass then (d.setFieldBit .SLC_WAY_DIS_WAY_DIS slice way false).checkBypass slice
    else d.raise (130 + 16 * slice) { unitId := unitIdOf (sliceIx slice), a := way * 65536 }

/-! ## Deadlines (R142, R144, R148, R149) -/

/-- A read has not delivered by its predicted time plus RESCUE_SLIP (R144): a rescue starts. The prediction is of the
response; delivery lies 100 ns before it. -/
def execRescueSlipExpiry (read : Nat) (s : State) : Out := s.on fun d =>
  match d.med.reads.find read with
  | some r =>
    let cfg := match d.entry r.slice r.entry with | some t => d.cfgAt t.req.stamp | none => d.cfg
    let slip := (cfg.map (·.latency.rescueSlip)).getD 100
    d.when (decide (r.predicted - 100 + slip ≤ d.now) && !r.ready && !r.spec && decide (r.rank ≤ 3)) fun d => d.rescue read true
  | none => d

/-- A suspension has lasted SUS_HOLD (R142): the program or clear resumes, but not in a quench. Where demand reads remain
queued, a new suspension is taken while its count allows. -/
def execSusHoldExpiry (die : Nat) (s : State) : Out := s.on fun d =>
  let hold := ((d.cfg.map (·.latency.susHold)).getD 10) * 1000
  match (d.die die).op.bind (·.suspended) with
  | some t => d.when (decide (t + hold ≤ d.now) && d.reg .JRN_STATUS_QSTATE = 0 && (d.die die).thru.isNone &&
      !d.med.progs.any (fun p => p.die = die && p.thru)) fun d =>
      let d := d.resumeDie die
      let q := (d.die die).queue.filter (fun q => decide (q.rank ≤ 3))
      if !q.isEmpty && d.canSuspend die (q.any (fun x => x.rank = 2)) then (d.suspendDie die).kick die else d
  | none => d

/-- A request passes its deadline unanswered (R148): it is overdue. Its reads move to rank 2 at every die queue that holds
them, may suspend beyond SUS_MAX up to the package's CAPS, and are rescued without regard to the slip. -/
def Dev.overdueRead (d : Dev) (n : Nat) (r : MRead) : Dev :=
  let d := d.setRead n { r with overdue := true, rank := 2 }
  let on := d.queuedOn (usesRead n)
  let d := { d with med := { d.med with dies := d.med.dies.map (fun (e : Nat × Die) =>
    (e.1, { e.2 with queue := e.2.queue.map (fun (q : QRead) => if usesRead n q.use then { q with rank := 2 } else q) })) } }
  let d := if on.contains r.die && r.path ≠ MPath.around && decide (r.deadline < max (max (d.now + 65) (d.die r.die).freeAt)
      (d.die r.die).busy + 520) && d.canSuspend r.die true then d.suspendDie r.die else d
  (d.each on Dev.kick).rescue n false

/-- DEADLINE_PASSED: a request becomes overdue (R148). -/
def execDeadlinePassed (slice entry : Nat) (s : State) : Out := s.on fun d =>
  match d.entry slice entry with
  | some t => d.when (decide (t.req.deadline ≤ d.now) && !t.overdue && !t.sent) fun d =>
      d.causedBy (some t.req.stamp) fun d =>
      let d := d.setEntry slice entry { t with overdue := true }
      d.each (d.med.reads.filter (fun e => e.2.slice = slice && e.2.entry = entry && e.2.epoch = t.epoch && !e.2.ready &&
        !e.2.spec)) (fun d e => d.overdueRead e.1 e.2)
  | none => d

/-- A request's answer instant arrives without a response (R149): the head answers it. -/
def execAnswerInstant (head rid : Nat) (s : State) : Out := s.on fun d =>
  match (d.head head).live.find rid with
  | some r => d.when (decide (r.answerAt ≤ d.now)) fun d =>
      let h := d.head head
      let d := d.setHead head { h with live := h.live.del rid }
      let rd := r.kind.isRead
      let k := match d.region r.region with
        | some g => d.ownerOf g (d.window g r.off) r.off
        | none => 0
      d.causedBy (some r.stamp) fun d =>
      let d := (d.account k r (d.limitCause k r)).sampleResponse r
      let d := d.count (if rd then .GLB_LAT_ALIM_READS else .GLB_LAT_ALIM_OTHERS)
      let d := d.raise 67 { dpa := r.dpa, a := head + r.tag * 65536, b := r.region, c := d.now - r.deadline,
                            heads := d.regionHeads r.region }
      d.sendMem head r.tag none rd
  | none => d

/-! ## Load and wear (R88, R151 to R153) -/

/-- The level of a percentage against three thresholds. -/
def levelOf (part whole : Nat) (th : List Nat) : Nat := th.countP (fun t => decide (t * whole ≤ part * 100))

/-- Pressure of the wear governor (R153). -/
def Dev.wearLevel (d : Dev) : Nat :=
  let c := d.med.credit
  let cap : Int := d.wearCap
  let t1 : Int := ((d.cfg.map (·.latency.wearTh1)).getD 50 : Nat)
  let t2 : Int := ((d.cfg.map (·.latency.wearTh2)).getD 20 : Nat)
  if c ≤ 0 then 3 else if c * 100 < cap * t2 then 2 else if c * 100 < cap * t1 then 1 else 0

/-- The governor's limit is lifted at the third DIRTY_TH threshold and restored below the second (R152). -/
def Dev.updateLift (d : Dev) : Dev :=
  let th := (d.cfg.map (·.latency.dirtyTh)).getD [50, 80, 95]
  let part := d.uncovered * 4096 * 100
  if d.med.credit > 0 || part = 0 || part < d.budget * th.getD 1 80 then d.setFlag .GLB_WEAR_STAT_LIFTED 0 false
  else if d.budget * th.getD 2 95 ≤ part then d.setFlag .GLB_WEAR_STAT_LIFTED 0 true else d

/-- A DevLoad window ends for a head (R88). -/
def Dev.devLoad (d : Dev) (h : Nat) : Dev :=
  let lat := d.cfg.map (·.latency)
  let x := d.head h
  let occ := levelOf x.occPeak 65536 ((lat.map (·.occTh)).getD [25, 75, 90])
  let dirty := if d.budget = 0 then (if d.per.dirtyPeak = 0 then 0 else 3)
    else levelOf (d.per.dirtyPeak * 4096) d.budget ((lat.map (·.dirtyTh)).getD [50, 80, 95])
  let wear := d.wearLevel
  let therm := if d.per.thermPeak = 0 then 0 else if d.per.thermPeak ≤ 10 * (lat.map (·.thermSev)).getD 30 then 2 else 3
  let top := max (max occ dirty) (max wear therm)
  let old := d.reg .GLB_HEAD_LOAD_DEVLOAD h
  let v := max top (old - 1)
  let d := (d.setReg .GLB_HEAD_LOAD_OCC_LVL h occ).setReg .GLB_HEAD_LOAD_WB_LVL h dirty
  let d := (d.setReg .GLB_HEAD_LOAD_WEAR_LVL h wear).setReg .GLB_HEAD_LOAD_THERM_LVL h therm
  let d := d.setReg .GLB_HEAD_LOAD_DEVLOAD h v
  let d := if v = 3 then d.count .GLB_HEAD_LOAD_SEVERE_WIN h else d
  (d.perf (0x80 + v) h).setHead h { x with occPeak := x.live.length }

/-- A 4 µs DevLoad window ends (R88), at a multiple of 4,000 ns that has not been taken yet: every head takes its value, and
the next window's highs start from the present. -/
def execDevloadWindowEnd (s : State) : Out := s.on fun d =>
  d.when (decide (d.per.loadWindow < d.now / 4000)) fun d =>
  let d := { d with per := { d.per with loadWindow := d.now / 4000 } }
  let d := d.each (List.range d.headCount) Dev.devLoad
  let d := { d with per := { d.per with dirtyPeak := d.uncovered, thermPeak := d.reg .THM_THROT_DEVICE } }
  d.updateLift

/-- A second of timebase adds W to the wear credit, up to its capacity (R151). DEBT, for which the spec names no end, clears
as the credit rises above 0 (DESIGN CHOICE, log 92). -/
def execWearCreditAccrual (s : State) : Out := s.on fun d =>
  d.when (d.med.creditInit && decide (d.med.accruedAt + 1000000000 ≤ d.now)) fun d =>
    let c := min (d.med.credit + d.wearRate) (d.wearCap : Int)
    let d := { d with med := { d.med with credit := c, accruedAt := d.med.accruedAt + 1000000000 } }
    (if c > 0 then d.setFlag .GLB_WEAR_STAT_DEBT 0 false else d).updateLift

end Sys2Proof.Machine
end

