-- ==== Sys2Proof/Machine/Media.lean ====
section
/-!
DEFINITION. The commands of translation, wear, drift and media health (R60, R161 to R173, R185, R191 to R196, R248).
-/
namespace Sys2Proof.Machine

/-- WB_AGE in ns. -/
def Dev.wbAge (d : Dev) : Nat := ((d.cfg.map (·.band.wbAge)).getD 2000) * 1000000

/-- A page is the oldest dirty page that no row holds. -/
def Dev.oldestDirty (d : Dev) (lpn : Nat) : Bool :=
  let at_ := (d.page lpn).dirtiedAt
  !d.tier.any (fun e => isLpn e.1 && e.2.dirty && e.2.landed ≠ some e.2.version && decide (e.2.dirtiedAt < at_) &&
    !d.med.rows.any (fun r => r.pages.any (fun q => q.lpn = e.1 && q.version.isSome)))

/-- WRITE_BACK_START: a page dirty for WB_AGE; the oldest page while dirty data exceeds 25 % of the quench budget, while it
is unpersistable and a cause has ended (R179), or while a TIERPLAN roll calls for it (R41). Dirty data is the uncovered pages
(R249). -/
def execWriteBackStart (lpn : Nat) (s : State) : Out := s.on fun d =>
  let p := d.page lpn
  let aged := decide (p.dirtiedAt + d.wbAge ≤ d.now)
  let pressed := decide (d.budget < d.uncovered * 4096 * 4) || p.unpers || d.boot.rollTier.isSome || d.boot.tierWait.isSome
  d.when (d.runs && isLpn lpn && p.dirty && (aged || (pressed && d.oldestDirty lpn))) (·.writeBack lpn)

/-- BAND_ROW_VERIFIED: every program of the row has reported success; `errors` is the highest count of corrected bits of
any grain, at the member named (R164, R165). -/
def execBandRowVerified (band row member errors : Nat) (s : State) : Out := s.onHealth fun d =>
  match d.med.rows.find? (fun r => r.band = band && r.row = row && r.pages.length = 8) with
  | none => d
  | some r =>
    let busy := d.med.cmds.any (fun c => match c.2.use with | .sheet b x _ => b = band && x = row | _ => false) ||
      d.med.progs.any (fun p => p.op = 2 && p.band = band && p.row = row)
    d.when (d.runs && !busy) fun d =>
      let d := if errors ≤ 8 then d.landRow r else d.failRow r (some (member % 10))
      d.rebuild.recopy.judgeCapacity

/-! ## The cullet engine (R171) -/

/-- A FULL band scores above another: (1 - u) × age / (2 u) compared without division; u = 0 above everything. -/
def scoresAbove (v age w age' : Nat) : Bool :=
  if v = 0 then decide (w ≠ 0) || decide (age' < age)
  else if w = 0 then false
  else decide ((32768 - w) * age' * v < (32768 - v) * age * w)

/-- The FULL bands with the highest score. -/
def Dev.cullets (d : Dev) : List Nat :=
  let full := (d.med.bands.filter (fun e => e.2.state = .full && e.2.stream ≠ 5)).map (fun e =>
    (e.1, d.validCount e.1, d.now - e.2.closedAt))
  let cand := full.filter (fun x => x.2.1 < 32768)
  (cand.filter (fun x => !cand.any (fun y => scoresAbove y.2.1 y.2.2 x.2.1 x.2.2))).map (·.1)

/-- CULLET_VICTIM_SELECTION: below 2 × FREE_LOW % of free and ready blocks; at equal scores the victim is free. -/
def execCulletVictimSelection (s : State) : Out := s.on fun d =>
  d.when (d.runs && d.freeBelow (2 * d.freeLow)) fun d =>
    let d := d.rebuild.recopy
    match d.cullets with
    | [] => d
    | l => let (f, d) := d.drawFree 171; (d.drainBand (l.getD (f % l.length) 0) 2).judgeCapacity

/-! ## Shadow fold -/

/-- A COMMIT or DISCARD of a region still has a record that can be lost (R150). -/
def Dev.commitHeld (d : Dev) (n : Nat) : Bool :=
  let mine := fun (e : Nat × TtEntry) => e.2.req.kind = .commitDoorbell && e.2.req.region = n && e.2.state ≠ .done
  d.slices.any (fun s => s.2.tt.any mine || s.2.blog.any mine)

/-- COMMIT_FOLD: the committed delta of a region is folded into the translation map (R60), once its COMMIT cannot be taken
back (R150). -/
def execCommitFold (region : Nat) (s : State) : Out := s.on fun d =>
  match d.region region with
  | none => d
  | some r => d.when (d.runs && !(d.shadowOf region).folding.isEmpty && !d.commitHeld region) (·.fold r)

/-! ## The gather zone (R170) -/

/-- The capacity of one gather band as footprint: 10 blocks of 16 MiB. -/
def gatherBandBytes : Nat := 10 * 2 ^ 24

/-- GATHER_ZONE_GROWTH: one gather band more, usable after the next checkpoint (R258). -/
def execGatherZoneGrowth (s : State) : Out := s.on fun d =>
  let ceil := ((d.cfg.map (·.band.gatherCeil)).getD 0) * 2 ^ 30
  d.when (d.runs && decide (2 * d.freeLow * d.allBlocks < d.freeReady * 100) && decide (d.footprint + gatherBandBytes ≤ ceil))
    fun d => match d.openBand 5 with
      | (none, d) => d
      | (some b, d) => { d with med := { d.med with gatherPending := d.med.gatherPending ++ [b] } }

/-- GATHER_ZONE_SHRINK: an empty gather band is returned, else the oldest is compacted. What besides staged pages a band
holds is the device's own allocation, so which bands are empty is free. -/
def execGatherZoneShrink (s : State) : Out := s.on fun d =>
  d.when (d.runs && d.mustShrink && decide (d.gatherFloor + gatherBandBytes ≤ d.footprint)) fun d =>
    let clear := d.med.gather.filter (fun b => (d.validPages b).isEmpty)
    let (f, d) := d.drawFree 170
    match clear[f % (clear.length + 1)]? with
    | some b => d.gatherBack b
    | none =>
      match d.med.gather with
      | [] => d
      | b :: _ =>
        let d := match d.band b with | some x => d.setBand b { x with state := .victim, copyTo := 5 } | none => d
        d.copyPages b 5

/-! ## The lehr (R191 to R196) -/

/-- A FULL band is due for refresh (R191, R194, R197). -/
def Dev.due (d : Dev) (b : Band) : Bool :=
  let ks := d.bandBlocks b
  decide (d.lehrTarget b ≤ d.bandDose b) || b.urgent || ks.any (fun k => decide (4000000 ≤ (d.block k).reads)) ||
  (b.early && (d.setDies b.set).all (fun die => !(d.pkg (diePkg die)).fastClosed)) || ks.any (fun k => (d.block k).marked)

/-- The bands that the lehr takes next: urgent ones and those at 672 eq-h first, then those of highest dose. -/
def Dev.lehrNext (d : Dev) : List Nat :=
  let l := d.med.bands.filter (fun e => (e.2.state = .full || (e.2.stream = 5 && d.med.gather.contains e.1)) && d.due e.2)
  let first := l.filter (fun e => e.2.urgent || (e.2.stream ≠ 5 && decide (672 * 1024 ≤ d.bandDose e.2)))
  if first.isEmpty then
    (l.filter (fun e => !l.any (fun x => decide (d.bandDose e.2 < d.bandDose x.2)))).map (·.1)
  else first.map (·.1)

/-- A gather band is refreshed (R191, R197): its staged pages move to the lehr stream, and once none is left, what else it
holds is programmed anew in it after a clear (log 95). -/
def Dev.refreshGather (d : Dev) (n : Nat) (b : Band) : Dev :=
  if !d.bandEmpty n then d.copyPages n 3
  else
    let d := d.each (d.bandBlocks b) (fun d k =>
      d.setBlock k { d.block k with wear := (d.block k).wear + 1, reads := 0, maxCb := 0, ladder := 0 })
    let base := (d.setDies b.set).map (fun die => d.pkgDose (diePkg die))
    d.setBand n { b with early := false, urgent := false, base, adj := 0, overdue := false }

/-- LEHR_REFRESH: the valid pages of a due band are copied into the lehr stream; the choice among equals is free. -/
def execLehrRefresh (s : State) : Out := s.on fun d =>
  d.when d.runs fun d =>
    let d := d.recopy
    match d.lehrNext with
    | [] => d
    | l =>
      let (f, d) := d.drawFree 191
      let n := l.getD (f % l.length) 0
      match d.band n with
      | none => d
      | some b =>
        if b.stream = 5 then d.refreshGather n b else d.drainBand n 3

/-- MEDIA_SCAN: a row that holds valid data is read in full (R192): one READ of 16 grains on each member that can be
reached. The pass ends when every row with valid data has been scanned. -/
def execMediaScan (band row : Nat) (s : State) : Out := s.on fun d =>
  match d.band band with
  | none => d
  | some b =>
    d.when (d.runs && d.flag .DRT_LEHR_CTL_SCAN_EN && decide (row < b.rows) &&
        (d.heldIn band).any (fun e => entryRow e.2 = row)) fun d =>
      let d := d.each (List.range 10) (fun d i =>
        let die := (d.setDies b.set).getD i 0
        if d.dieReachable die then d.putRead die (.scan band row) 6 noDeadline else d)
      let done := setInsert d.med.scanned (band * 4096 + row)
      let whole := d.dataRows.all done.contains
      let d := { d with med := { d.med with scanned := if whole then [] else done } }
      if whole then d.count .DRT_SCAN_PASSES else d

/-- CLEAR_SCHEDULED: the clear of a free block, never while the package's dense window is closed (R167, R193); at equal wear
the block is free. -/
def execClearScheduled (die : Nat) (s : State) : Out := s.onHealth fun d =>
  let busy := d.med.blocks.countP (fun e => e.1 / 1024 = die && (e.2.state = .ready || e.2.state = .clearing))
  let n := d.ring.length
  let lost := (List.range 10).any (fun i =>
    decide (2 ≤ (d.setDies ((d.ring.idxOf die + n - i) % max n 1)).countP (fun m => !d.dieHolds m)))
  d.when (d.runs && d.ring.contains die && d.serves (packageIx (diePkg die)) && d.dieReachable die && !lost &&
      !(d.pkg (diePkg die)).denseClosed && decide (busy < 8)) fun d => d.clearOne die

/-- SENTINEL_REPROGRAM: after its measurement at power-up, and every 24 h (R185). -/
def execSentinelReprogram (die : Nat) (s : State) : Out := s.on fun d =>
  let x := d.die die
  d.when (d.ring.contains die && d.dieReachable die && d.reg .JRN_STATUS_QSTATE = 0 && d.rst.core = .none &&
      (x.sentinelDue || decide (x.sentinelAt + 86400000000000 ≤ d.now))) (·.sendCmd 8 die (.sentinel false))

/-- STAGED_PAGE_MOVE: the oldest staged page moves into a dense band of the lehr stream (R196). -/
def execStagedPageMove (s : State) : Out := s.on fun d =>
  d.when d.runs fun d =>
    match d.med.staged.find? (fun l => !d.med.rows.any (fun r => r.pages.any (fun p => p.lpn = l))) with
    | none => d
    | some l =>
      let e := d.mapEntry l
      let lines := match d.med.pages.find e with | some m => m.lines | none => []
      if (d.chooseSet false).isSome || !(d.streamOpen 3).isEmpty then
        (d.addToRow 3 { lpn := l, version := none, src := e, lines }).2
      else d

/-! ## The mirror (R248) -/

/-- REMIRROR_COMPLETE: every dirty page has two copies again. -/
def execRemirrorComplete (s : State) : Out := s.onHealth fun d =>
  d.when (d.med.remirror && decide (2 ≤ d.onlineStacks.length)) fun d =>
    let d := d.each (d.tier.filter (fun e => isLpn e.1 && e.2.dirty && decide (e.2.copies.length < 2))) (fun d e =>
      match e.2.copies with
      | [a] =>
        let rest := d.onlineStacks.filter (· ≠ a)
        let (f, d) := d.drawFree 248
        d.setPage e.1 { e.2 with copies := [a, rest.getD (f % rest.length) 0] }
      | _ => let (st, d) := d.pickStacks 2; d.setPage e.1 { e.2 with copies := st })
    let d := { d with med := { d.med with remirror := false } }.setFlag .DRT_REMIRROR_ACTIVE 0 false
    (d.raise 657).judgePdeg

end Sys2Proof.Machine
end

