-- ==== Sys2Proof/Machine/Flags.lean ====
section
/-!
DEFINITION. Reading BX space (R447 to R456): the fields that show state held elsewhere in the model, one function a
block, then a field, a register and an access. A percentage or count that the spec gives no formula for is a free value
in its range.
-/
namespace Sys2Proof.Machine

/-- An event record in the 64-byte layout of R416. -/
def EvRec.bytes (r : EvRec) : List Byte :=
  leBytes 2 r.source ++ leBytes 1 r.sev ++ leBytes 1 r.state ++ leBytes 2 r.gen ++ leBytes 2 r.unitId ++
  leBytes 8 r.stamp ++ leBytes 4 r.count ++ zeros 12 ++ leBytes 8 (r.dpa / 64 * 64) ++ leBytes 8 r.a ++ leBytes 8 r.b ++
  leBytes 8 r.c

/-- The tries that remain before lockdown (R444, R310); 3 are allowed while no image is in force. -/
def Dev.triesLeft (d : Dev) : Nat := (d.cfg.map (·.crypto.unlockTries)).getD 3 - d.mgt.unlockFails

/-- The firmware object that runs. -/
def Dev.runningFw (d : Dev) : Option FwObj := d.mgt.fw.find d.mgt.fwActive

/-- Management firmware runs and accepts commands (MGT_STATUS.READY). -/
def Dev.fwReady (d : Dev) : Bool := !d.fwAbsent && !d.mgt.fwDown

/-- The unit state and generation that a view shows (R455). -/
def Dev.stateCode (d : Dev) (ix : Nat) : Nat := (d.ustate ix).code
def Dev.genOf (d : Dev) (ix : Nat) : Nat := (d.unit ix).gen

/-- A share as a percentage, 0 to 100, rounded down; 0 of nothing. -/
def pctOf (part whole : Nat) : Nat := if whole = 0 then 0 else min 100 (100 * part / whole)

/-- A free percentage for a place of the spec without a formula. -/
def Dev.freePct (d : Dev) (site : Nat) : Nat := Config.free site d.freeCtr % 101

/-! ## GLB and IMG -/

/-- Views of the GLB block. -/
def Dev.viewGlb (d : Dev) (f : Fld) (i : Nat) : Option Nat :=
  let lat := fun (g : LatencyCfg → Nat) => some ((d.cfg.map (fun c => g c.latency)).getD 0)
  match f with
  | .GLB_ID_DEVICE => some 0x9400
  | .GLB_ID_STEPPING => some d.boot.stepping
  | .GLB_ID_PART => some d.boot.part
  | .GLB_ID_HEADMODE => some (b2n d.pin.headMode)
  | .GLB_SERIAL_SERIAL => some d.boot.serial
  | .GLB_STATUS_NOTIER => some (d.reg .PWR_STEP_NOTIER)
  | .GLB_STATUS_PDEG => some (d.reg .DRT_PDEG_ACTIVE)
  | .GLB_STATUS_LOCKED => some (d.reg .CRY_STATUS_LOCKED)
  | .GLB_STATUS_STACKS => some (((List.range 4).map (fun k => b2n (d.serves (stackIx k)) * 2 ^ k)).foldl (· + ·) 0)
  | .GLB_STATUS_PKGS => some d.onlinePackages.length
  | .GLB_HEAD_LINK_IDE_MEM => some (b2n (d.heads.findD i {}).memIde.secure)
  | .GLB_HEAD_LINK_IDE_IO => some (b2n (d.heads.findD i {}).ioIde.secure)
  | .GLB_HEAD_OCC_IN_USE => some (d.heads.findD i {}).live.length
  | .GLB_LAT_DLA_DL_A => lat (·.dlA)
  | .GLB_LAT_DLB_DL_B => lat (·.dlB)
  | .GLB_LAT_DLC_DL_C => lat (·.dlC)
  | .GLB_LAT_LIMIT_LIMIT => lat (·.limit)
  | .GLB_WEAR_RATE_W_MBPS => some (d.wearRate / 10 ^ 6)
  | .GLB_WEAR_CREDIT_CREDIT => some (d.med.credit % 2 ^ 64).toNat
  | .GLB_WEAR_STAT_LEVEL => some d.wearLevel
  | .GLB_WEAR_STAT_CREDIT_PCT => some (pctOf d.med.credit.toNat d.wearCap)
  | _ => none

/-- SECT_n of IMG_SECT_STATE: 0 in force, 1 rolling, 2 pending, 3 absent. -/
def Dev.sectState (d : Dev) (n : Nat) : Nat :=
  match d.cfg with
  | none => 0
  | some c =>
    if d.boot.pendingSections.contains n then 2
    else if (n = 6 && d.boot.rollTier.isSome) || (n = 5 && !d.boot.oldBands.isEmpty) then 1
    else if c.digests.has n then 0 else 3

/-- The share of bands that lie in the geometry in force. -/
def Dev.bandPct (d : Dev) : Nat :=
  if d.boot.oldBands.isEmpty || d.med.bands.isEmpty then 100
  else pctOf (d.med.bands.countP (fun e => decide (e.2.set < oldSet))) d.med.bands.length

/-- Views of the IMG block. -/
def Dev.viewImg (d : Dev) (f : Fld) : Option Nat :=
  match f with
  | .IMG_STATUS_BOOT_SEL => some d.pin.bootSel
  | .IMG_SECT_STATE_SECT => some (((List.range 15).map (fun i => d.sectState (i + 1) * 4 ^ i)).foldl (· + ·) 0)
  | .IMG_ROLL_SLICE_DONE => some (((List.range 16).map (fun k => b2n (!d.boot.rollQueue.contains k) * 2 ^ k)).foldl (· + ·) 0)
  | .IMG_ROLL_BAND_PCT => some d.bandPct
  | .IMG_SVN_ACTIVE_SVN => some ((d.cfg.map (·.svn)).getD 0)
  | .IMG_SVN_SVN_FLOOR => some d.boot.svnFloor
  | .IMG_KEYSTAT_KEY_PROV => some (((List.range 4).map (fun k => b2n (d.boot.keyHash.has k) * 2 ^ k)).foldl (· + ·) 0)
  | .IMG_KEYSTAT_KEY_REVOKED => some (((List.range 4).map (fun k => b2n (d.boot.keyRevoked.contains k) * 2 ^ k)).foldl (· + ·) 0)
  | _ => none

/-! ## RGN and SLC -/

/-- The code of a region type (R48). -/
def RType.code (t : RType) : Nat := t.ctorIdx + 1

/-- Views of the RGN block. A region number without a record reads 0, which is ABSENT, in every field. -/
def Dev.viewRgn (d : Dev) (f : Fld) (n : Nat) : Option Nat :=
  let rec_ := fun (g : RegionRec → Nat) => some ((d.region n).elim 0 g)
  match f with
  | .RGN_CFG_TYPE => rec_ (·.rtype.code)
  | .RGN_CFG_PERSIST => rec_ (fun r => b2n r.persist)
  | .RGN_CFG_SHADOW => rec_ (fun r => b2n r.shadow)
  | .RGN_CFG_STRICT => rec_ (fun r => b2n r.strict)
  | .RGN_CFG_POOL => rec_ (fun r => b2n r.pool)
  | .RGN_CFG_HEADS => rec_ (·.heads)
  | .RGN_CFG_LATCLASS => rec_ (·.latclass)
  | .RGN_CFG_PLACEMENT => rec_ (·.placement)
  | .RGN_CFG_WAYS => rec_ (·.ways)
  | .RGN_CFG_ALIAS_W => rec_ (·.aliasW)
  | .RGN_CFG_ALIAS_POS => rec_ (·.aliasPos)
  | .RGN_KEY_KEY_BASE => rec_ (·.keyBase)
  | .RGN_KEY_SET_ID => rec_ (·.setId)
  | .RGN_KEY_SHADOW_DELTA => rec_ (·.shadowDelta)
  | .RGN_BASE_BASE => rec_ (·.base)
  | .RGN_SIZE_SIZE => rec_ (·.size)
  | .RGN_SPAN_SPAN => rec_ d.span
  | .RGN_UID_UID => rec_ (·.uid)
  | .RGN_STATE_STATE => rec_ (fun _ => d.stateCode (regionIx n))
  | .RGN_STATE_PDEG => rec_ (fun r => b2n (r.persist && d.flag .DRT_PDEG_ACTIVE))
  | .RGN_STATE_GEN => rec_ (fun _ => d.genOf (regionIx n))
  | .RGN_EPOCH_EPOCH => rec_ (fun _ => (d.shadowOf n).epoch)
  | .RGN_SHADOW_DELTA_PAGES => rec_ (fun _ => (d.shadowOf n).delta.length)
  | .RGN_SHADOW_SH_STATE => rec_ (fun _ => (d.shadowOf n).state)
  | _ => none

/-- Views of the SLC block. -/
def Dev.viewSlc (d : Dev) (f : Fld) (n : Nat) : Option Nat :=
  match f with
  | .SLC_STATUS_STATE => some (d.stateCode (sliceIx n))
  | .SLC_STATUS_GEN => some (d.genOf (sliceIx n))
  | .SLC_STATUS_RUNAHEAD => some (b2n (d.sliceRuns n && d.runAheadDue n))
  | .SLC_TT_OCC_HOST_USE => some (d.slice n).hostUse
  | .SLC_TT_OCC_INT_USE => some (d.intUse n)
  | .SLC_WAY_STAT_WAYS_ON => some (d.waysOn n)
  | .SLC_BUDDY_BUDDY => some (n ^^^ 1)
  | .SLC_BUDDY_LOG_USE => some (d.slice n).blog.length
  | _ => none

/-! ## MCX and DRT -/

/-- Dies of a complex that a test of their running operation picks. -/
def Dev.diesOf (d : Dev) (n : Nat) (p : DieOp → Bool) : Nat :=
  d.med.dies.countP (fun e => (e.2.op.map p).getD false && decide ((d.homeLink e.1).map linkComplex = some n))

/-- Positions of sideband group `g` whose package serves and has given no valid temperature for 100 ms (R354). -/
def Dev.tempLost (d : Dev) (g : Nat) : Nat :=
  ((List.range d.groupSize).map (fun a =>
    let p := g * d.groupSize + a
    b2n ((d.pkg p).present && decide (d.thm.sampleAt.findD (80 + p) 0 + 100000000 < d.now)) * 2 ^ a)).foldl (· + ·) 0

/-- Views of the MCX block: complexes by number, links by M-link number. -/
def Dev.viewMcx (d : Dev) (f : Fld) (n : Nat) : Option Nat :=
  let mode := (d.link n).mode
  let trained := decide (2 ≤ (d.link n).train)
  match f with
  | .MCX_SCHED_OCC_PROG_NOW => some (d.diesOf n (·.suspended.isNone))
  | .MCX_SCHED_OCC_SUS_NOW => some (d.diesOf n (·.suspended.isSome))
  | .MCX_SB_STAT_TEMP_LOST => some (d.tempLost n)
  | .MCX_LINKi_STAT_STATE => some (d.stateCode (linkIx n))
  | .MCX_LINKi_STAT_GEN => some (d.genOf (linkIx n))
  | .MCX_LINKi_STAT_TRAIN => some (d.link n).train
  | .MCX_LINKi_STAT_WIDTH2 => some (b2n (trained && decide (mode < 2)))
  | .MCX_LINKi_STAT_RATE24 => some (b2n (trained && mode ∈ [0, 2, 3]))
  | .MCX_LINKi_STAT_PKG => some ((d.linkPkg n).elim 0 (·.1))
  | .MCX_LINKi_STAT_PORT => some ((d.linkPkg n).elim 0 (·.2))
  | .MCX_LINKi_STAT_HOMED =>
    some ((d.linkPkg n).elim 0 (fun x => ((List.range 16).map (fun k =>
      b2n (decide (k < d.diesPerPkg) && decide (d.homeLink (x.1 * 16 + k) = some n)) * 2 ^ k)).foldl (· + ·) 0))
  | _ => none

/-- Packages that are being rebuilt or drained: FAILED or DRAINING with map entries that name them. -/
def Dev.leaving (d : Dev) : List Nat :=
  (List.range 64).filter (fun p => (d.ustate (packageIx p) = .failed || d.ustate (packageIx p) = .draining) &&
    decide (0 < d.pagesOnPackage p))

/-- Views of the DRT block: stacks and streams by number. -/
def Dev.viewDrt (d : Dev) (f : Fld) (n : Nat) : Option Nat :=
  let part := (d.cfg.map (·.tier.mapMib)).getD 0
  match f with
  | .DRT_STACKd_STAT_STATE => some (d.stateCode (stackIx n))
  | .DRT_STACKd_STAT_GEN => some (d.genOf (stackIx n))
  | .DRT_REMIRROR_PCT => some (if d.flag .DRT_REMIRROR_ACTIVE then d.freePct 248 else 0)
  | .DRT_MAP_STAT_SEGS => some d.med.segs.length
  | .DRT_MAP_STAT_PART_SEGS => some part
  | .DRT_MAP_STAT_PAGED => some (b2n d.mapPaged)
  | .DRT_MAP_STAT_A_PAGED => some (b2n d.mapAPaged)
  | .DRT_BLK_STAT_READY => some (d.listedIn [.ready])
  | .DRT_BLK_STAT_FREE => some (d.freeReady - d.listedIn [.ready])
  | .DRT_BLK_STAT_RETIRED => some (d.listedIn [.retired])
  | .DRT_GATHER_FOOT => some (d.footprint / 2 ^ 30)
  | .DRT_GATHER_FLOOR => some (if d.cfg.isSome then ceilDiv d.gatherFloor (2 ^ 30) else 0)
  | .DRT_GATHER_USED_PCT => some (if d.med.gather.isEmpty then 0 else d.freePct 169)
  | .DRT_CULLET_ACTIVE => some (b2n (d.runs && d.freeBelow (2 * (d.cfg.map (·.band.freeLow)).getD 0)))
  | .DRT_CULLET_URGENT => some (b2n (d.runs && d.freeBelow ((d.cfg.map (·.band.freeMin)).getD 0)))
  | .DRT_CULLET_REBUILD => some (b2n (d.med.bands.any (fun e => e.2.rebuild)))
  | .DRT_CULLET_PKG => some (d.leaving.getD (Config.free 174 d.freeCtr % max 1 d.leaving.length) 0)
  | .DRT_CULLET_PCT => some (if d.leaving.isEmpty then 0 else d.freePct 176)
  | .DRT_PDEG_UNPERS_GIB => some (ceilDiv (4096 * d.unpersCount) (2 ^ 30))
  | .DRT_STREAMs_OPEN => some (d.med.bands.countP (fun e => e.2.stream = n && e.2.state = .opened))
  | .DRT_LEHR_STAT_MAX_DOSE => some (d.maxDose (fun b => b.stream ≠ 5))
  | .DRT_LEHR_STAT_DUE => some (min 65535 (d.med.bands.countP (fun e => (e.2.state ≠ .opened || e.2.stream = 5) && d.due e.2)))
  | .DRT_LEHR_STAT_URGENT =>
    some (b2n (d.med.bands.any (fun e => e.2.urgent || (e.2.stream ≠ 5 && decide (672 * 1024 ≤ d.bandDose e.2)))))
  | .DRT_LEHR_STAT_OVERDUE => some (b2n (d.med.bands.any (fun e => e.2.stream ≠ 5 && decide (720 * 1024 ≤ d.bandDose e.2))))
  | .DRT_SCAN_PASS_PCT =>
    let rows := d.dataRows
    some (100 * rows.countP d.med.scanned.contains / max 1 rows.length)
  | .DRT_TWIN_DENSE_CLOSED => some (b2n d.anyDenseClosed)
  | .DRT_TWIN_FAST_CLOSED => some (b2n (d.onlinePackages.any (fun p => (d.pkg p).fastClosed)))
  | .DRT_TWIN_CLOSED_PKGS => some ((d.onlinePackages.filter (fun p => (d.pkg p).denseClosed)).length)
  | .DRT_TWIN_STAGED_GIB => some d.stagedGib
  | .DRT_HEALTH_LIFE_USED => some d.lifeUsed
  | .DRT_HEALTH_SPARE_PCT => some d.sparePct
  | .DRT_HEALTH_SPARE_WARN => some (b2n (decide (d.sparePct ≤ 25)))
  | .DRT_HEALTH_SPARE_CRIT => some (b2n (decide (d.sparePct ≤ 10)))
  | _ => none

/-! ## QEN, TAL, CRY, ORC, JRN, UST -/

/-- Views of the QEN and TAL blocks: groups and counter sets by number. -/
def Dev.viewEngines (d : Dev) (f : Fld) (n : Nat) : Option Nat :=
  match f with
  | .QEN_POOL_USED => some d.poolUse
  | .QEN_POOL_TOTAL => some d.poolTotal
  | .QEN_SPILL_PAGES => some d.spillPages
  | .QEN_OPEN_NOW => some d.openCount
  | .QEN_GRPg_STATE => some (d.stateCode (groupIx n))
  | .QEN_GRPg_HOME => some (d.homeStack n)
  | .QEN_GRPg_PERSIST => some (b2n (((d.setOfGroup n).map (·.persist)).getD false))
  | .QEN_GRPg_SET => some (((d.setOfGroup n).map (·.setId)).getD 0xFF)
  | .QEN_GRPg_GEN => some (d.genOf (groupIx n))
  | .TAL_CACHE_USED => some d.tal.cache.length
  | .TAL_SETs_STAT_LAST_BANK => some (d.talSet n).lastBank
  | .TAL_SETs_STAT_AUTO => some (b2n (((d.counterSet n).map (·.autoSnap)).getD false))
  | .TAL_SETs_EPOCH_EPOCH => some ((d.counterSet n).elim 0 (fun cs => epochAt cs d.now))
  | .TAL_SETs_SNAPID_SNAP_ID => some (d.talSet n).snapId
  | _ => none

/-- Views of the CRY and ORC blocks: sweeps and slots by number. -/
def Dev.viewCry (d : Dev) (f : Fld) (n : Nat) : Option Nat :=
  let w := fun (g : Sweep → Nat) => some ((d.cry.sweeps.find n).elim 0 g)
  match f with
  | .CRY_STATUS_OWNER_SET => some (b2n d.cry.owner.isSome)
  | .CRY_STATUS_ACTIVE => some (d.cry.slots.countP (fun e => e.2.st ≠ .empty))
  | .CRY_STATUS_SWEEPS => some (d.cry.sweeps.countP (fun e => e.2.st = 1))
  | .CRY_RHs_STAT_STATE => w (·.st)
  | .CRY_RHs_STAT_REGION => w (·.region)
  | .CRY_RHs_STAT_KEY => w (·.k)
  | .CRY_RHs_STAT_NEW_SLOT => w (·.j)
  | .CRY_RHs_BOUND_D => w (·.d)
  | .CRY_RHs_LIMIT_LIMIT => w (·.limit)
  | .CRY_RHs_CNT_PAGES => w (·.pages)
  | .CRY_SLOTn_STATE => some (d.slot n).st.ctorIdx
  | .CRY_SLOTn_KIND => some (d.slotAlloc n).1
  | .CRY_SLOTn_OWNER => some (d.slotAlloc n).2
  | .CRY_SLOTn_SWEEP => some (if (d.slot n).st.ctorIdx < 2 then 0 else (d.slot n).sweep)
  | .CRY_SLOTn_GEN => some (d.slot n).gen
  | .ORC_STATUS_REGRAFT => some (b2n d.cry.regraft.isSome)
  | .ORC_STATUS_REBASED => some (b2n d.cry.rebased)
  | .ORC_STATUS_ORPHANS => some (min 65535 d.cry.orphans.length)
  | .ORC_GRAFT_GRAFT => some d.cry.graft
  | _ => none

/-- Views of the JRN and UST blocks: units by unit index. -/
def Dev.viewJrn (d : Dev) (f : Fld) (n : Nat) : Option Nat :=
  match f with
  | .JRN_STATUS_BUDGET_FULL => some (b2n (decide (d.budget < d.uncovered * 4096 + 4096)))
  | .JRN_BUDGET_IMAGE => some ((d.cfg.map (·.tier.quenchMib)).getD 0)
  | .JRN_DIRTY_UNCOVERED => some d.uncovered
  | .JRN_DIRTY_COVERED => some d.covered
  | .JRN_DSC_DIRTY_SHUTDOWN => some d.dirtyShutdowns
  -- R259 gives no record's size: how full a journal that holds records is, is free
  | .JRN_FILL_PART_PCT => some (if d.jrn.recs.isEmpty then 0 else d.freePct 258)
  | .JRN_FILL_GATHER_PCT => some (if d.med.gather.isEmpty || d.jrn.recs.isEmpty then 0 else d.freePct 259)
  | .UST_SEQ_SEQ => some d.ust.seq
  | .UST_FAULT_RECOVERED => some (min d.ust.recovered (2 ^ 24 - 1))
  | .UST_FAULT_OVER_BUDGET => some (min d.ust.overBudget 65535)
  | .UST_FAULT_DOUBLE => some (min d.ust.doubles 65535)
  | .UST_FAULT_FATAL => some (min d.ust.fatals 255)
  | .UST_STATEn_STATE => some (d.stateCode n)
  | .UST_STATEn_CAUSE => some (d.unit n).cause
  | .UST_STATEn_HW => some (b2n (d.unit n).hw)
  | .UST_STATEn_RECOVERY => some (b2n (d.unit n).recovery)
  | .UST_STATEn_GEN => some (d.genOf n)
  | _ => none

/-! ## The always-on blocks, PMC, MGT and DBG -/

/-- Views of the remaining blocks. -/
def Dev.viewRest (d : Dev) (f : Fld) (n : Nat) : Option Nat :=
  match f with
  | .PWR_STEP_STEP_MS => some (min 65535 ((d.now - d.pwr.stepAt) / 1000000))
  | .PWR_SQ_STAT_ROLE => some (b2n d.pin.sqRole)
  | .PWR_SQ_STAT_PART => some (b2n d.sqTakesPart)
  | .PWR_SQ_STAT_LINE => some (b2n d.pin.sqStepHigh)
  | .RST_WDT_RUNNING => some (b2n d.wdtRuns)
  | .CLK_TB_LO_TB_LO => some d.now
  | .EVT_LASTn_RECORD => some ((d.evt.last.find n).elim 0 (fun r => leNat r.bytes))
  | .EVT_CFGn_EN => some (b2n (d.evEnabled n))
  | .EVT_CFGn_ROUTE => some (d.evRoute n)
  | .PMC_SAMPi_RECORD => some (d.pmc.samples.findD n 0)
  | .MGT_STATUS_SLOT => some d.mgt.fwActive
  | .MGT_STATUS_READY => some (b2n d.fwReady)
  | .MGT_STATUS_ACTIVATING => some (b2n d.mgt.fwLoading.isSome)
  | .MGT_STATUS_FW_SVN => some (if d.fwReady then d.runningFw.elim 0 (·.svn) else 0)
  | .DBG_STATUS_UNLOCKED => some (d.reg .CRY_STATUS_DEBUG_AUTH)
  | .DBG_STATUS_TRIES_LEFT => some d.triesLeft
  | _ => none

/-! ## Fields, registers, accesses -/

/-- A register of a region without a record reads 0, as does a link whose package is ABSENT, and so does a register of H1 in
one-head mode (R449). -/
def Dev.hiddenField (d : Dev) (f : Fld) (n : Nat) : Bool :=
  (f ∈ [.RGN_CTL_PREFETCH_EN, .RGN_CTL_HOSTERR_EVT, .RGN_HOSTERR_COUNT, .RGN_SHADOW_LAST_RESULT] && (d.region n).isNone) ||
  ((headField f || f ∈ [.GLB_HEAD_LINK_DOWN_COUNT, .GLB_HEAD_LOAD_SEVERE_WIN, .GLB_HEAD_OCC_IN_USE,
    .GLB_HEAD_OCC_HIGH_WATER]) && decide (d.headCount ≤ n)) ||
  (f.info.clrU = false && f ∈ [.MCX_LINKi_STAT_STATE, .MCX_LINKi_STAT_TRAIN, .MCX_LINKi_STAT_WIDTH2, .MCX_LINKi_STAT_RATE24,
    .MCX_LINKi_STAT_REVERSED, .MCX_LINKi_STAT_POLARITY, .MCX_LINKi_STAT_PKG, .MCX_LINKi_STAT_PORT, .MCX_LINKi_STAT_HOMED,
    .MCX_LINKi_STAT_GEN, .MCX_LINKi_ERR_CRC, .MCX_LINKi_ERR_REISSUE, .MCX_LINKi_ERR_RETRAINS, .MCX_LINKi_CTL_PRESET_FIX,
    .MCX_LINKi_CTL_PRESET] && (d.linkPkg n).elim true (fun x => d.ustate (packageIx x.1) = .absent))

/-- Views are sought block by block. -/
def Dev.view (d : Dev) (f : Fld) (n : Nat) : Option Nat :=
  (d.viewGlb f n).orElse fun _ => (d.viewImg f).orElse fun _ => (d.viewRgn f n).orElse fun _ =>
  (d.viewSlc f n).orElse fun _ => (d.viewMcx f n).orElse fun _ => (d.viewDrt f n).orElse fun _ =>
  (d.viewEngines f n).orElse fun _ => (d.viewCry f n).orElse fun _ => (d.viewJrn f n).orElse fun _ => d.viewRest f n

/-- Fields outside the views whose Reset column reads Image. -/
def imageField (f : Fld) : Bool :=
  f ∈ [.EVT_CTL_RATE, .EVT_CTL_MCTP_EID, .EVT_CFGn_EN, .EVT_CFGn_SEV, .EVT_CFGn_ROUTE, .EVT_CFGn_VECTOR]

/-- The value that a read of a field returns. In recovery mode a field with the reset value Image that nothing has written
reads 0 (R452). -/
def Dev.readField (d : Dev) (f : Fld) (n : Nat := 0) : Nat :=
  if d.hiddenField f n || f.info.access = .wo || (imageField f && d.flag .IMG_STATUS_RECOVERY && !d.regs.has (f.key n)) then 0
  else ((d.view f n).getD (d.reg f n)) % 2 ^ f.info.width

/-- The value of a register instance: its fields in their places; what no field covers is 0 (R449). -/
def Dev.readReg (d : Dev) (r : RegInfo) (n : Nat := 0) : Nat :=
  r.fields.foldl (fun a f => a + d.readField f n * 2 ^ f.info.lo) 0

/-- The register that a BAR2 offset falls in, its instance, and the byte within it. -/
def regAt (addr : Nat) : Option (RegInfo × Nat × Nat) := regTable.findSome? (fun r => (r.locate addr).map (fun x => (r, x.1, x.2)))

/-- A naturally aligned access of 4 or 8 bytes (R448). -/
def accessOk (addr size : Nat) : Bool := (size = 4 || size = 8) && addr % size = 0

/-- A read of BX space. CLK_TB_LO latches CLK_TB_HI (R398), the one side effect of a read (R450). -/
def Dev.readBar2 (d : Dev) (addr size : Nat) : Nat × Dev :=
  if !accessOk addr size then (0, d)
  else
    let one := fun (a : Nat) => match regAt a with
      | some (r, n, o) => d.readReg r n / 256 ^ o % 2 ^ 32
      | none => 0
    let v := if size = 4 then one addr else one addr + one (addr + 4) * 2 ^ 32
    let d := { d with freeCtr := d.freeCtr + 1 }
    (v, if (regAt addr).any (fun x => x.1.fields = [.CLK_TB_LO_TB_LO]) then d.setReg .CLK_TB_HI_TB_HI 0 (d.now / 2 ^ 32) else d)

/-- The register that holds a field, by its first field. -/
def Dev.word (d : Dev) (f : Fld) (n : Nat := 0) : Nat :=
  match regTable.find? (fun r => r.fields.contains f) with
  | some r => d.readReg r n
  | none => 0

end Sys2Proof.Machine
end

