-- ==== Sys2Proof/Machine/ImageCmds.lean ====
section
/-!
DEFINITION. The commands of the image store (R35 to R45, R434, R435): staging, validation, activation, the TIERPLAN roll,
IMAGE QUERY. A background command of an interface is kept with its return code (R431, R432).
-/
namespace Sys2Proof.Machine

/-! ## Background commands -/

/-- An interface has a background command that runs. -/
def Dev.bgRuns (d : Dev) (i : Nat) : Bool := ((d.mgt.bg.find i).map (·.running)).getD false

/-- Start the background command of an interface. -/
def Dev.startBg (d : Dev) (i opcode : Nat) : Dev :=
  { d with mgt := { d.mgt with bg := d.mgt.bg.put i { opcode, pct := 0, rc := 0, running := true } } }

/-- The background command of an interface ends with a return code; one that was released is forgotten. -/
def Dev.endBg (d : Dev) (i opcode rc : Nat) : Dev :=
  { d with mgt := { d.mgt with bg := d.mgt.bg.alter i (fun b =>
      if b.opcode = opcode && b.running then { b with pct := 100, rc := rc, running := false } else b) } }

/-! ## The TIERPLAN roll (R41) -/

/-- TIERPLAN_SLICE_ROLL: 1 ms after T_act or the slice before it, the next slice is quiesced, takes the new plan and
resumes: ways beyond the new number lose their lines, the map-entry cache its excess, and the entries that have not finished
are replayed (R134). After the last the roll ends. -/
def execTierplanSliceRoll (s : State) : Out := s.onHealth fun d =>
  match d.boot.rollTier, d.boot.rollQueue with
  | some t, k :: rest =>
    d.when (d.runs && decide (d.boot.rollAt + 1000000 ≤ d.now)) fun d =>
      let es := d.records k
      let d := d.dropReads k
      let x := d.slice k
      let d := d.setSlice k { x with ways := x.ways.keep (fun i _ => decide (i % 24 < t.waysInUse)), planned := d.now
                                     tt := [], mec := x.mec.take (t.mecK * 1024) }
      let d := { d with boot := { d.boot with rollQueue := rest, rollAt := d.now } }
      let d := (d.replayFor k k es false).checkBypass k
      if rest.isEmpty then d.endRoll else d
  | _, _ => d

/-! ## Staging (R37) -/

/-- The return code of a result code (R435). -/
def imgRc (r : Nat) : Nat :=
  if r = imgOk then rcOk else if r = imgBusy then rcBusy else if r = imgStale then rcStale else rcInvalid

/-- The target slot of a new session: the one that does not hold the image in force, or the first in the order EMPTY,
INVALID, STAGED, PREVIOUS, ACTIVE. -/
def Dev.stageTarget (d : Dev) : Nat :=
  let src := d.reg .IMG_STATUS_ACTIVE_SLOT
  if src < 2 then 1 - src
  else
    let rank : Nat → Nat := fun n => match d.boot.slotState n with
      | .empty => 0 | .invalid => 1 | .staged => 2 | .previous => 3 | .active => 4 | .receiving => 1
    if rank 1 < rank 0 then 1 else 0

/-- The reply of IMAGE STAGE. -/
def Dev.stageReply (d : Dev) (result slot next : Nat) : List Byte :=
  leBytes 1 result ++ leBytes 1 (d.reg .IMG_STATUS_STAGE_STATE) ++ leBytes 1 slot ++ zeros 1 ++ leBytes 4 next

/-- The slot that the image function works on. -/
def Dev.stageSlot (d : Dev) : Nat :=
  match d.boot.stage with
  | some t => t.slot
  | none => ((d.boot.validating).map (·.1)).getD 0

/-- A refused chunk: nothing changes. -/
def Dev.stageRefuse (d : Dev) (result : Nat) : CmdOut :=
  (imgRc result, d.stageReply result d.stageSlot ((d.boot.stage.map (·.next)).getD 0), d)

/-- The session ends without an image: its slot is INVALID. -/
def Dev.stageEnd (d : Dev) (t : StageSession) (result : Nat) : Dev :=
  let d := { d with boot := { d.boot.setSlotState t.slot .invalid with stage := none } }
  ((d.setReg .IMG_STATUS_STAGE_STATE 0 4).setReg .IMG_STATUS_LAST_RESULT 0 result).setReg .IMG_STATUS_LAST_SECTION 0 0

/-- Take a chunk into a session; `last` closes it and starts the validation. A chunk that would take the image past 4 MiB
ends the session with TOO_LARGE and leaves the slot INVALID, as R37 ends one that is out of order: R37 names no such end
(DESIGN CHOICE, log 86). -/
def Dev.stageTake (d : Dev) (c : CmdHdr) (t : StageSession) (data : List Byte) (last : Bool) : CmdOut :=
  let next := t.next + data.length
  if 2 ^ 22 < next then
    let d := d.stageEnd t 0x03
    (imgRc 0x03, d.stageReply 0x03 t.slot t.next, d)
  else
    let b := d.boot.setBytes t.slot (d.boot.bytes t.slot ++ data)
    if last then
      let d := ({ d with boot := { b with stage := none, validating := some (t.slot, c.iface) } }).setReg .IMG_STATUS_STAGE_STATE 0 2
      (rcBackground, d.stageReply 0 t.slot next, d.startBg c.iface 0xC020)
    else
      let d := { d with boot := { b with stage := some { t with next := next, lastAt := d.now } } }
      (rcOk, d.stageReply 0 t.slot next, d)

/-- A chunk of IMAGE STAGE (R37, R431). -/
def Dev.stageChunk (d : Dev) (c : CmdHdr) (off : Nat) (data : List Byte) (last : Bool) : CmdOut :=
  if data.isEmpty || decide (4096 < data.length) then d.refuse rcInvalid
  else if d.boot.validating.isSome || (last && d.bgRuns c.iface) then d.stageRefuse imgBusy
  else match d.boot.stage with
    | some t =>
      if t.iface ≠ c.iface then d.stageRefuse imgBusy
      else if off = t.next then d.stageTake c t data last
      else
        let d := d.stageEnd t imgOrder
        (imgRc imgOrder, d.stageReply imgOrder t.slot t.next, d)
    | none =>
      if off ≠ 0 then d.stageRefuse imgOrder
      else
        let n := d.stageTarget
        let t : StageSession := { iface := c.iface, slot := n, next := 0, lastAt := d.now }
        let d := { d with boot := { (d.boot.setSlotState n .receiving).setBytes n [] with stage := some t } }
        (d.setReg .IMG_STATUS_STAGE_STATE 0 1).stageTake c t data last

/-- IMAGE_STAGE_CHUNK. -/
def execImageStageChunk (c : CmdHdr) (off : Nat) (data : List Byte) (s : State) : Out :=
  s.command c 0xC020 (8 + data.length) .change (·.stageChunk c off data false)

/-- IMAGE_STAGE_LAST. -/
def execImageStageLast (c : CmdHdr) (off : Nat) (data : List Byte) (s : State) : Out :=
  s.command c 0xC020 (8 + data.length) .change (·.stageChunk c off data true)

/-- STAGING_TIMEOUT: 60 s without a chunk (R37). -/
def execStagingTimeout (s : State) : Out := s.on fun d =>
  match d.boot.stage with
  | some t => d.when (decide (t.lastAt + 60000000000 ≤ d.now)) (·.stageEnd t imgOrder)
  | none => d

/-- IMAGE_VALIDATION_DONE: the slot becomes STAGED or INVALID (R35, R37). -/
def execImageValidationDone (s : State) : Out := s.on fun d =>
  match d.boot.validating with
  | some (n, i) => d.when d.fwReady fun d =>
      let (r, sec, _) := d.validate (d.boot.bytes n)
      let d := { d with boot := { d.boot.setSlotState n (if r = 0 then .staged else .invalid) with validating := none } }
      let d := d.setReg .IMG_STATUS_STAGE_STATE 0 (if r = 0 then 3 else 4)
      ((d.setReg .IMG_STATUS_LAST_RESULT 0 r).setReg .IMG_STATUS_LAST_SECTION 0 sec).endBg i 0xC020 (imgRc r)
  | none => d

/-! ## Activation (R38, R435) -/

/-- The classes of an image's sections by section ID, byte 0 being 0: a section of the image in force that the new one
lacks is 4. In recovery mode nothing is in force, and every section is live. -/
def Dev.classBytes (d : Dev) (new : Cfg) : List Byte :=
  zeros 1 ++ ((List.range 15).map (· + 1)).flatMap (fun i => leBytes 1
    (match d.cfg with
     | some old => if !(new.digests.has i) then 4 else sectionClass old new i
     | none => if new.digests.has i then 1 else 4))

/-- The reply of IMAGE ACTIVATE. T_ACT without an activation, and CLASS before the classes stand, are free. -/
def Dev.activateReply (d : Dev) (result sec : Nat) (tact : Option Nat) (classes : Option (List Byte)) : List Byte × Dev :=
  let (f, d) := d.drawFree 435
  let cl := classes.getD (zeros 1 ++ leBytes 15 (f / 2 ^ 64))
  (leBytes 1 result ++ leBytes 1 sec ++ zeros 2 ++ leBytes 4 (d.reg .IMG_SEQ_ACT_SEQ) ++ leBytes 8 (tact.getD f) ++ cl, d)

/-- IMAGE ACTIVATE ends with a result; from step 3 on the result stands in IMG_STATUS. -/
def Dev.activateEnd (d : Dev) (note : Bool) (result sec : Nat) (tact : Option Nat) (classes : Option (List Byte)) : CmdOut :=
  let d := if note then (d.setReg .IMG_STATUS_LAST_RESULT 0 result).setReg .IMG_STATUS_LAST_SECTION 0 sec else d
  let (p, d) := d.activateReply result sec tact classes
  (imgRc result, p, d)

/-- IMAGE_ACTIVATE, in the order of R38. -/
def execImageActivate (c : CmdHdr) (slot : Nat) (dryRun commitSvn : Bool) (seq : Nat) (s : State) : Out :=
  s.command c 0xC021 8 .change fun d =>
    if seq ≠ d.reg .IMG_SEQ_ACT_SEQ then d.activateEnd false imgStale 0 none none
    else if d.boot.stage.isSome || d.boot.validating.isSome then d.activateEnd false imgBusy 0 none none
    else if decide (2 ≤ slot) || !(d.boot.slotState slot = .staged || d.boot.slotState slot = .previous) then
      d.activateEnd true imgNotStaged 0 none none
    else match d.validate (d.boot.bytes slot) with
      | (r, sec, none) => d.activateEnd true r sec none none
      | (_, _, some new) =>
        let cl := d.classBytes new
        match d.cfg.bind (fun old => d.liveRefusal old new) with
        | some sec => d.activateEnd true imgIncompatible sec none (some cl)
        | none =>
          if dryRun then d.activateEnd true imgOk 0 none (some cl)
          else
            let tact := d.now
            let e := d.commitImage slot new commitSvn
            -- from recovery mode CLOCKPLAN takes effect with the rest of the power-up (R33, R392)
            (if d.cfg.isNone then e.applyClockPlan else e).activateEnd true imgOk 0 (some tact) (some cl)

/-! ## IMAGE QUERY (R434) -/

/-- What IMAGE QUERY says of a slot: STATE, SVN, IMAGE_VERSION, IMAGE_UID as the bytes held there give them. -/
def slotInfo (code : Nat) (b : List Byte) : List Byte :=
  leBytes 1 code ++ zeros 3 ++ leBytes 4 (u32 b 12) ++ leBytes 4 (u32 b 0x10) ++ zeros 4 ++ leBytes 8 (u64 b 0x38)

/-- IMAGE_QUERY. -/
def execImageQuery (c : CmdHdr) (s : State) : Out :=
  s.command c 0xC022 0 .read fun d =>
    let name := fun (g : IdentCfg → List Byte) => fitBytes ((d.cfg.map (fun x => g x.ident)).getD []) 32
    let code := fun (n : Nat) => Config.slotCode (d.boot.slotState n).ctorIdx % 256
    (rcOk, leBytes 4 (d.word .IMG_STATUS_ACTIVE_SLOT) ++ leBytes 4 (d.word .IMG_SEQ_ACT_SEQ) ++
      leBytes 4 (d.word .IMG_SECT_STATE_SECT) ++ leBytes 4 (d.word .IMG_ROLL_SLICE_DONE) ++
      leBytes 4 (d.word .IMG_SVN_ACTIVE_SVN) ++ zeros 4 ++ slotInfo (code 0) d.boot.bytesA ++ slotInfo (code 1) d.boot.bytesB ++
      slotInfo (Config.slotCode (if d.boot.retainedNpo then 6 else 0) % 256) d.boot.retained ++
      name (·.imageName) ++ name (·.boardString), d)

end Sys2Proof.Machine
end

