-- ==== Sys2Proof/Machine/FwCmds.lean ====
section
/-!
DEFINITION. Management firmware (R440 to R442): transfer, activation, fallback, security floor; Sanitize and Secure Erase
(R433). Payload layouts are those of CXL 3.1. PRESUMED (log entry 40): the spec names the commands and leaves their layout to it.
-/
namespace Sys2Proof.Machine

/-! ## Transfer (R440) -/

/-- Return code FW Transfer in Progress of CXL. -/
def rcFwBusy : Nat := 8

/-- The bytes "LKFW". -/
def fwMagic : List Byte := [0x4C, 0x4B, 0x46, 0x57]

/-- A firmware object passes: magic, size of its slot, signature under the image keys as R26, security floor. -/
def Dev.fwValid (d : Dev) (b : List Byte) : Bool :=
  let n := b.length - 256
  let s := b.drop n
  let pub := Sys2Proof.slice s 4 96
  let k := u8 s 0
  decide (384 ≤ b.length) && decide (b.length ≤ 2 ^ 24) && b.take 4 = fwMagic && decide (k < 4) &&
  d.boot.keyHash.find k = some (Config.sha384 pub) && !d.boot.keyRevoked.contains k &&
  Config.ecdsaVerify pub (Sys2Proof.slice s 0x64 96) (Config.sha384 (b.take n)) &&
  decide (d.boot.fwFloor ≤ (Config.fwHeader (b.take 128)).2.1)

/-- The object that a slot holds once written. -/
def Dev.fwObj (d : Dev) (b : List Byte) : FwObj :=
  let h := Config.fwHeader (b.take 128)
  { valid := d.fwValid b, svn := h.2.1, minFormat := h.2.2, version := h.1, bytes := b }

/-- A firmware slot number names the inactive slot: 1 is A, 2 is B. -/
def Dev.fwTarget (d : Dev) (slot : Nat) : Bool := (slot = 1 || slot = 2) && decide (slot - 1 ≠ d.mgt.fwActive)

/-- A transfer ends with its whole object: it is validated, and a failure leaves the slot invalid. -/
def Dev.fwStore (d : Dev) (slot : Nat) (b : List Byte) : CmdOut :=
  let o := d.fwObj b
  let d := { d with mgt := { d.mgt with fw := d.mgt.fw.put slot o, xfer := none } }
  (if o.valid then rcOk else rcFwVerify, [], d)

/-- A transfer ends as Abort; what it leaves of the object in its slot is free. -/
def Dev.fwAbort (d : Dev) (x : FwXfer) : Dev :=
  let (f, d) := d.drawFree 440
  { d with mgt := { d.mgt with xfer := none
                               fw := d.mgt.fw.alter x.slot (fun o => { o with valid := o.valid && f % 2 = 1 }) } }

/-- A part of a transfer: Busy while another interface holds the session (R431), then `f` of the session. -/
def Dev.fwPart (d : Dev) (c : CmdHdr) (f : Option FwXfer → CmdOut) : CmdOut :=
  match d.mgt.xfer with
  | some x => if x.iface ≠ c.iface then d.refuse rcBusy else f (some x)
  | none => f none

/-- TRANSFER_FW_FULL. -/
def execTransferFwFull (c : CmdHdr) (slot : Nat) (data : List Byte) (s : State) : Out :=
  s.command c 0x0201 (128 + data.length) .change fun d => d.fwPart c fun x =>
    if x.isSome then d.refuse rcFwBusy
    else if !d.fwTarget slot then d.refuse rcSlot
    else d.fwStore (slot - 1) data

/-- TRANSFER_FW_INITIATE. -/
def execTransferFwInitiate (c : CmdHdr) (slot off : Nat) (data : List Byte) (s : State) : Out :=
  s.command c 0x0201 (128 + data.length) .change fun d => d.fwPart c fun x =>
    if x.isSome then d.refuse rcFwBusy
    else if !d.fwTarget slot then d.refuse rcSlot
    else if off ≠ 0 then d.refuse rcFwOrder
    else (rcOk, [], { d with mgt := { d.mgt with xfer := some { iface := c.iface, slot := slot - 1, data, lastAt := d.now } } })

/-- TRANSFER_FW_CONTINUE: a part that does not start where the last ended is out of order; the session stands. -/
def execTransferFwContinue (c : CmdHdr) (off : Nat) (data : List Byte) (s : State) : Out :=
  s.command c 0x0201 (128 + data.length) .change fun d => d.fwPart c fun x =>
    match x with
    | some x =>
      if off * 128 ≠ x.data.length then d.refuse rcFwOrder
      else (rcOk, [], { d with mgt := { d.mgt with xfer := some { x with data := x.data ++ data, lastAt := d.now } } })
    | none => d.refuse rcFwOrder

/-- TRANSFER_FW_END: the last part, then the validation. -/
def execTransferFwEnd (c : CmdHdr) (off : Nat) (data : List Byte) (s : State) : Out :=
  s.command c 0x0201 (128 + data.length) .change fun d => d.fwPart c fun x =>
    match x with
    | some x => if off * 128 ≠ x.data.length then d.refuse rcFwOrder else d.fwStore x.slot (x.data ++ data)
    | none => d.refuse rcFwOrder

/-- TRANSFER_FW_ABORT. -/
def execTransferFwAbort (c : CmdHdr) (s : State) : Out :=
  s.command c 0x0201 128 .change fun d => d.fwPart c fun x =>
    match x with
    | some x => (rcOk, [], d.fwAbort x)
    | none => (rcOk, [], d)

/-- FW_TRANSFER_TIMEOUT: 60 s without a part. -/
def execFwTransferTimeout (s : State) : Out := s.on fun d =>
  match d.mgt.xfer with
  | some x => d.when (decide (x.lastAt + 60000000000 ≤ d.now)) (·.fwAbort x)
  | none => d

/-- GET_FW_INFO: two slots, the active one and the one a reset brings, online activation, the versions. -/
def execGetFwInfo (c : CmdHdr) (s : State) : Out :=
  s.command c 0x0200 0 .read fun d =>
    let ver := fun (n : Nat) => fitBytes (((d.mgt.fw.find n).map (·.version)).getD []) 16
    (rcOk, leBytes 1 2 ++ leBytes 1 (d.mgt.fwActive + 1 + 8 * ((d.mgt.fwNext.map (· + 1)).getD 0)) ++ leBytes 1 1 ++ zeros 13 ++
      ver 0 ++ ver 1 ++ zeros 32, d)

/-! ## Activation (R441) -/

/-- The refusal that an activation meets: Busy during an image activation's roll, Invalid Slot, or a FORMAT too old. -/
def Dev.fwRefusal (d : Dev) (slot : Nat) : Option Nat :=
  if d.boot.rollTier.isSome then some rcBusy
  else if !d.fwTarget slot then some rcSlot
  else match d.mgt.fw.find (slot - 1) with
    | some o => if !o.valid then some rcSlot else if d.cfg.isSome && decide (1 < o.minFormat) then some rcRolledBack else none
    | none => some rcSlot

/-- ACTIVATE_FW_ONLINE: the boot record marks the slot, the management cluster is reset and loads it. -/
def execActivateFwOnline (c : CmdHdr) (slot : Nat) (s : State) : Out :=
  s.command c 0x0202 2 .change fun d =>
    match d.fwRefusal slot with
    | some rc => d.refuse rc
    | none =>
      if d.bgRuns c.iface then d.refuse rcBusy
      else
        let d := (d.startBg c.iface 0x0202).setFlag .MGT_STATUS_FALLBACK 0 false
        (rcBackground, [], { d with mgt := { d.mgt with fwActive := slot - 1, fwNext := none, fwLoading := some (slot - 1, c.iface)
                                                        nonce := none } })

/-- ACTIVATE_FW_NEXT_RESET. -/
def execActivateFwNextReset (c : CmdHdr) (slot : Nat) (s : State) : Out :=
  s.command c 0x0202 2 .change fun d =>
    match d.fwRefusal slot with
    | some rc => d.refuse rc
    | none => (rcOk, [], { d with mgt := { d.mgt with fwNext := some (slot - 1) } })

/-- FW_LOAD_COMPLETE: the firmware that loads has started, after an online activation, a fallback or a core reset; after the
last, the watchdog counts again. -/
def execFwLoadComplete (s : State) : Out := s.on fun d =>
  match d.mgt.fwLoading with
  | some (_, i) =>
    let d := { d with mgt := { d.mgt with fwLoading := none, fwStartedAt := d.now, fwUnproved := decide (i < 3), fwWdtResets := [] } }
    d.endBg i 0x0202 rcOk
  | none => d.when (d.mgt.fwDown && decide (d.rst.core = .none)) fun d =>
      { d with mgt := { d.mgt with fwDown := false, fwStartedAt := d.now }, rst := { d.rst with kickAt := d.now } }

/-- FW_START_TIMEOUT: new firmware has not restarted the watchdog within 2 s of its start; the other slot's loads (R442). -/
def execFwStartTimeout (s : State) : Out := s.on fun d =>
  d.when (d.fwReady && d.mgt.fwUnproved && decide (d.mgt.fwStartedAt + 2000000000 ≤ d.now)) fun d =>
    let d := d.fwFallback
    { d with mgt := { d.mgt with fwLoading := some (d.mgt.fwActive, 3), nonce := none } }

/-- FW_FLOOR_RAISE: the running firmware has run for 1 h without a watchdog reset (R442). -/
def execFwFloorRaise (s : State) : Out := s.on fun d =>
  d.when (d.fwReady && decide (d.mgt.fwStartedAt + 3600000000000 ≤ d.now)) fun d =>
    { d with boot := { d.boot with fwFloor := max d.boot.fwFloor (d.runningFw.elim 0 (·.svn)) } }

/-! ## Sanitize and Secure Erase (R433) -/

/-- The refusal of an erase, if any. -/
def Dev.eraseRefusal (d : Dev) : Option Nat :=
  if d.flag .CRY_STATUS_LOCKED then some rcSecurity
  else if d.mgt.sanitizing.isSome || !(d.persistentRegions.all (fun r => d.ustate (regionIx r.number) = .off)) then some rcBusy
  else none

/-- The four steps of an erase. Clean copies of persistent pages go with their map entries. -/
def Dev.erase (d : Dev) : Dev :=
  let d := d.each ((d.cry.slots.filter (fun e => e.2.st ≠ .empty)).map (·.1)) (fun d n => d.setSlot n .empty 0 0)
  let d := { d with cry := { d.cry with sweeps := [] } }
  let d := d.each d.med.map.keys (fun d l => d.setMap l mapUnwritten)
  { d with poison := { lines := [], overflow := none }
           tier := d.tier.keep (fun p _ => !isLpn p)
           per := { d.per with thru := [] }
           med := { d.med with staged := [] }
           qch := { d.qch with images := [] } }

/-- SECURE_ERASE. -/
def execSecureErase (c : CmdHdr) (s : State) : Out :=
  s.command c 0x4401 0 .change fun d =>
    match d.eraseRefusal with
    | some rc => d.refuse rc
    | none => (rcOk, [], d.erase)

/-- SANITIZE: the erase, then the clears in the background. -/
def execSanitize (c : CmdHdr) (s : State) : Out :=
  s.command c 0x4400 0 .change fun d =>
    match d.eraseRefusal with
    | some rc => d.refuse rc
    | none =>
      if d.bgRuns c.iface then d.refuse rcBusy
      else
        let d := d.erase.startBg c.iface 0x4400
        (rcBackground, [], { d with mgt := { d.mgt with sanitizing := some c.iface } })

/-- A cleared block ends READY or FREE, the device's choice; its clear adds to its wear (R166, R433). -/
def Dev.clearedBlock (d : Dev) (k wear : Nat) : Dev :=
  let x := d.block k
  if x.state = .free then
    let (f, d) := d.drawFree 433
    d.setBlock k { x with state := if f % 2 = 1 then .ready else .free, wear := x.wear + wear }
  else d

/-- SANITIZE_COMPLETE: every band without valid pages is cleared. The gather zone keeps its bands while queues hold spill
pages in it. -/
def execSanitizeComplete (s : State) : Out := s.onHealth fun d =>
  match d.mgt.sanitizing with
  | none => d
  | some i => d.when d.fwReady fun d =>
      let keepGather := decide (0 < d.spillPages)
      let bands := d.med.bands.filter (fun e => d.bandEmpty e.1 && !d.med.rows.any (fun r => r.band = e.1) &&
        !(keepGather && e.2.stream = 5))
      let d := d.each bands (fun d e =>
        let ks := d.bandBlocks e.2
        (d.freeBand e.1).each ks (fun d k => d.clearedBlock k (if e.2.stream = 5 then 1 else 50)))
      let gone := bands.map (·.1)
      let d := { d with med := { d.med with gatherPending := d.med.gatherPending.filter (fun b => !gone.contains b) }
                        mgt := { d.mgt with sanitizing := none } }
      d.endBg i 0x4400 rcOk

end Sys2Proof.Machine
end

