-- ==== Sys2Proof/Machine/StdCmds.lean ====
section
/-!
DEFINITION. The standard commands (R432), the DOE, SPDM and IDE_KM objects of a head (R80, R81, R90 to R92), GPF (R87) and
the HDM decoders (R77). The spec says what each returns and leaves the layouts to CXL 3.1 and its companions: the layouts
here are PRESUMED from those (log entries 40 to 44).
-/
namespace Sys2Proof.Machine

/-! ## Information (R432) -/

/-- IDENTIFY: vendor, device, subsystem, serial number, message size 2^13, component type 3. -/
def execIdentify (c : CmdHdr) (s : State) : Out :=
  s.command c 0x0001 0 .read fun d =>
    (rcOk, leBytes 2 Config.vendorId ++ leBytes 2 0x9400 ++ leBytes 4 Config.subsystemId ++ leBytes 8 d.boot.serial ++
      leBytes 1 13 ++ leBytes 1 3, d)

/-- BACKGROUND_OPERATION_STATUS of the interface's background command; the progress of one that runs is free. -/
def execBackgroundOperationStatus (c : CmdHdr) (s : State) : Out :=
  s.command c 0x0002 0 .read fun d =>
    match d.mgt.bg.find c.iface with
    | none => (rcOk, zeros 8, d)
    | some b =>
      let (f, d) := d.drawFree 432
      let pct := if b.running then f % 100 else b.pct
      (rcOk, leBytes 1 (b2n b.running + 2 * pct) ++ zeros 1 ++ leBytes 2 b.opcode ++ leBytes 2 b.rc ++ zeros 2, d)

/-- Supported opcodes, for the Command Effects Log. -/
def standardOpcodes : List Nat :=
  [0x0001, 0x0002, 0x0100, 0x0101, 0x0102, 0x0103, 0x0200, 0x0201, 0x0202, 0x0300, 0x0301, 0x0400, 0x0401, 0x4000, 0x4100,
   0x4102, 0x4103, 0x4200, 0x4201, 0x4202, 0x4203, 0x4204, 0x4300, 0x4301, 0x4302, 0x4400, 0x4401]
def vendorOpcodes : List Nat :=
  [0xC001, 0xC002, 0xC010, 0xC011, 0xC020, 0xC021, 0xC022, 0xC030, 0xC031, 0xC032, 0xC033, 0xC040, 0xC050, 0xC051, 0xC060,
   0xC070, 0xC080, 0xC0A0, 0xC0B0, 0xC0C0, 0xC0D0]

/-- The Command Effects Log. -/
def effectsLog : List Byte :=
  (standardOpcodes ++ vendorOpcodes).flatMap (fun o => leBytes 2 o ++ leBytes 2 (Config.effectsOf o))

/-- The UUID of the Command Effects Log. -/
def effectsUuid : List Byte :=
  [0x0d, 0xa9, 0xc0, 0xb5, 0xbf, 0x41, 0x4b, 0x78, 0x8f, 0x79, 0x96, 0xb1, 0x62, 0x3b, 0x3f, 0x17]

/-- GET_SUPPORTED_LOGS: the Command Effects Log only. -/
def execGetSupportedLogs (c : CmdHdr) (s : State) : Out :=
  s.command c 0x0400 0 .read fun d => (rcOk, leBytes 2 1 ++ zeros 6 ++ effectsUuid ++ leBytes 4 effectsLog.length, d)

/-- GET_LOG. -/
def execGetLog (c : CmdHdr) (uuid : List Byte) (off n : Nat) (s : State) : Out :=
  s.command c 0x0401 24 .read fun d =>
    if uuid ≠ effectsUuid then d.refuse rcLog
    else if effectsLog.length < off + n then d.refuse rcInvalid
    else (rcOk, Sys2Proof.slice effectsLog off n, d)

/-- GET_TIMESTAMP: 0 without a mapping (R86). -/
def execGetTimestamp (c : CmdHdr) (s : State) : Out := s.command c 0x0300 0 .read fun d => (rcOk, leBytes 8 (d.hostTimeOf d.now), d)

/-- SET_TIMESTAMP: one mapping for the whole device (R86). -/
def execSetTimestamp (c : CmdHdr) (time : Nat) (s : State) : Out :=
  s.command c 0x0301 8 .change fun d => (rcOk, [], { d with evt := { d.evt with hostTime := some (time % 2 ^ 64, d.now) } })

/-! ## Event logs (R85, R86) -/

/-- The UUID of a record type. -/
def recordUuid (t : Nat) : List Byte :=
  match t with
  | 0 => [0xfb, 0xcd, 0x0a, 0x77, 0xc2, 0x60, 0x41, 0x7f, 0x85, 0xa9, 0x08, 0x8b, 0x16, 0x21, 0xeb, 0xa6]
  | 1 => [0x60, 0x1d, 0xcb, 0xb3, 0x9c, 0x06, 0x4e, 0xab, 0xb8, 0xaf, 0x4e, 0x9b, 0xfb, 0x5c, 0x96, 0x24]
  | 2 => [0xfe, 0x92, 0x74, 0x75, 0xdd, 0x59, 0x43, 0x39, 0xa5, 0x86, 0x79, 0xba, 0xb1, 0x13, 0xb7, 0x74]
  | _ => fitBytes Config.vendorUuid 16

/-- A log record, 128 bytes: the common header, then the payload. A vendor record carries the event record of R416. -/
def LogRec.bytes (r : LogRec) : List Byte :=
  recordUuid r.rtype ++ leBytes 1 128 ++ leBytes 3 r.ev.sev ++ leBytes 2 r.handle ++ zeros 2 ++ leBytes 8 r.hostTime ++ zeros 16 ++
  (if r.rtype = 3 then r.ev.bytes ++ zeros 16 else fitBytes (Config.cxlPayload r.rtype r.ev.bytes) 80)

/-- The log of an interface for a severity. -/
def Dev.log (d : Dev) (i sev : Nat) : EvLog := d.evt.logs.findD (4 * i + sev) {}

/-- GET_EVENT_RECORDS: the oldest records, as many as a payload holds. -/
def execGetEventRecords (c : CmdHdr) (log : Nat) (s : State) : Out :=
  s.command c 0x0100 1 .read fun d =>
    if 4 ≤ log then d.refuse rcInvalid
    else
      let l := d.log c.iface log
      let rs := l.recs.take 63
      (rcOk, leBytes 1 (b2n (decide (0 < l.ovfCount)) + 2 * b2n (decide (63 < l.recs.length))) ++ zeros 1 ++ leBytes 2 l.ovfCount ++
        leBytes 8 l.ovfFirst ++ leBytes 8 l.ovfLast ++ leBytes 2 rs.length ++ zeros 10 ++ rs.flatMap LogRec.bytes, d)

/-- CLEAR_EVENT_RECORDS: all records of a log that has overflowed, or the oldest by their handles in order; the overflow
ends. -/
def execClearEventRecords (c : CmdHdr) (log : Nat) (all : Bool) (handles : List Nat) (s : State) : Out :=
  s.command c 0x0101 (6 + 2 * handles.length) .change fun d =>
    let l := d.log c.iface log
    let put := fun (recs : List LogRec) =>
      { d with evt := { d.evt with logs := d.evt.logs.put (4 * c.iface + log)
                                     { l with recs := recs, ovfCount := 0, ovfFirst := 0, ovfLast := 0 } } }
    if 4 ≤ log then d.refuse rcInvalid
    else if all then (if l.ovfCount = 0 then d.refuse rcInvalid else (rcOk, [], put []))
    else if handles.isEmpty then d.refuse rcInvalid
    else if (l.recs.take handles.length).map (·.handle % 65536) ≠ handles then d.refuse rcHandle
    else (rcOk, [], put (l.recs.drop handles.length))

/-- GET_EVENT_INTERRUPT_POLICY. -/
def execGetEventInterruptPolicy (c : CmdHdr) (s : State) : Out :=
  s.command c 0x0102 0 .read fun d => (rcOk, fitBytes (d.evt.policy.findD c.iface []) 4, d)

/-- SET_EVENT_INTERRUPT_POLICY. -/
def execSetEventInterruptPolicy (c : CmdHdr) (policy : List Byte) (s : State) : Out :=
  s.command c 0x0103 4 .change fun d =>
    (rcOk, [], { d with evt := { d.evt with policy := d.evt.policy.put c.iface (fitBytes policy 4) } })

/-! ## Memory device (R79, R198, R199) -/

/-- IDENTIFY_MEMORY_DEVICE. Capacities are in units of 256 MiB. -/
def execIdentifyMemoryDevice (c : CmdHdr) (s : State) : Out :=
  s.command c 0x4000 0 .read fun d =>
    let cap := d.dpaLimit / 2 ^ 28
    (rcOk, fitBytes (d.runningFw.elim [] (·.version)) 16 ++ leBytes 8 cap ++ leBytes 8 0 ++ leBytes 8 cap ++ leBytes 8 0 ++
      leBytes 2 256 ++ leBytes 2 256 ++ leBytes 2 256 ++ leBytes 2 256 ++ leBytes 4 d.mgt.lsa.length ++ leBytes 3 65536 ++
      leBytes 2 0 ++ leBytes 1 3 ++ leBytes 1 1, d)

/-- GET_PARTITION_INFO: all capacity is reported persistent. -/
def execGetPartitionInfo (c : CmdHdr) (s : State) : Out :=
  s.command c 0x4100 0 .read fun d => (rcOk, leBytes 8 0 ++ leBytes 8 (d.dpaLimit / 2 ^ 28) ++ leBytes 8 0 ++ leBytes 8 0, d)

/-- SET_PARTITION_INFO: Unsupported. -/
def execSetPartitionInfo (c : CmdHdr) (s : State) : Out := s.command c 0x4101 0 .read (·.refuse rcUnsupported)

/-- GET_LSA. -/
def execGetLsa (c : CmdHdr) (off n : Nat) (s : State) : Out :=
  s.command c 0x4102 8 .read fun d =>
    if decide (d.mgt.lsa.length < off + n) || decide (8192 < n) then d.refuse rcInvalid
    else (rcOk, Sys2Proof.slice d.mgt.lsa off n, d)

/-- SET_LSA. -/
def execSetLsa (c : CmdHdr) (off : Nat) (data : List Byte) (s : State) : Out :=
  s.command c 0x4103 (8 + data.length) .change fun d =>
    if d.mgt.lsa.length < off + data.length then d.refuse rcInvalid
    else
      let l := d.mgt.lsa
      (rcOk, [], { d with mgt := { d.mgt with lsa := l.take off ++ data ++ l.drop (off + data.length) } })

/-- Programmable warning `i` is enabled (0 life used, 1 over, 2 under temperature, 3 volatile, 4 persistent errors), and its
threshold: 1 byte of life used, 2 bytes of each other. -/
def Dev.alertOn (d : Dev) (i : Nat) : Bool := (u8 d.mgt.alertCfg 0).testBit i
def Dev.alertAt (d : Dev) (i : Nat) : Nat := if i = 0 then u8 d.mgt.alertCfg 1 else u16 d.mgt.alertCfg (2 * i)

/-- The fixed under-temperature threshold of the ordering code (R199), °C. -/
def Dev.underCritical (d : Dev) : Int := if d.boot.part = 2 then 0 else -40

/-- Additional Status: life used in [1:0], temperature in [3:2] (1 warning, 2 critical), error counts in [4] and [5]. -/
def Dev.additionalStatus (d : Dev) : Nat :=
  let t := d.deviceTemp
  let life := if 90 ≤ d.lifeUsed then 2 else if d.alertOn 0 && decide (d.alertAt 0 ≤ d.lifeUsed) then 1 else 0
  let temp := if d.tempState ≠ 0 then 2
    else if (d.alertOn 1 && decide (signed16 (d.alertAt 1) ≤ t)) || (d.alertOn 2 && decide (t ≤ signed16 (d.alertAt 2))) then 1 else 0
  life + 4 * temp + 16 * b2n (d.alertOn 3 && decide (d.alertAt 3 ≤ d.med.corrVol)) +
    32 * b2n (d.alertOn 4 && decide (d.alertAt 4 ≤ d.med.corrPers))

/-- A signed 16-bit field. -/
def leInt16 (t : Int) : List Byte := leBytes 2 (t % 65536).toNat

/-- GET_HEALTH_INFO. -/
def execGetHealthInfo (c : CmdHdr) (s : State) : Out :=
  s.command c 0x4200 0 .read fun d =>
    (rcOk, leBytes 1 d.healthStatus ++ leBytes 1 d.mediaStatus ++ leBytes 1 d.additionalStatus ++ leBytes 1 d.lifeUsed ++
      leInt16 d.deviceTemp ++ leBytes 4 d.dirtyShutdowns ++ leBytes 4 (min d.med.corrVol (2 ^ 32 - 1)) ++
      leBytes 4 (min d.med.corrPers (2 ^ 32 - 1)), d)

/-- GET_ALERT_CONFIGURATION: the programmable thresholds, and the fixed ones of R199. -/
def execGetAlertConfiguration (c : CmdHdr) (s : State) : Out :=
  s.command c 0x4201 0 .read fun d =>
    (rcOk, leBytes 1 (u8 d.mgt.alertCfg 0) ++ leBytes 1 0x1F ++ leBytes 1 90 ++ leBytes 1 (d.alertAt 0) ++ leInt16 105 ++
      leInt16 d.underCritical ++ leBytes 2 (d.alertAt 1) ++ leBytes 2 (d.alertAt 2) ++ leBytes 2 (d.alertAt 3) ++
      leBytes 2 (d.alertAt 4), d)

/-- SET_ALERT_CONFIGURATION: the thresholds that `valid` names take their values, and their enables. -/
def execSetAlertConfiguration (c : CmdHdr) (valid enable life high low volErr persErr : Nat) (s : State) : Out :=
  s.command c 0x4202 12 .change fun d =>
    let pick := fun (i v : Nat) => if valid.testBit i then v else d.alertAt i
    let mask := (List.range 5).foldl (fun a i => a + b2n (if valid.testBit i then enable.testBit i else d.alertOn i) * 2 ^ i) 0
    let cfg := leBytes 1 mask ++ leBytes 1 (pick 0 life) ++ leBytes 2 (pick 1 high) ++ leBytes 2 (pick 2 low) ++
      leBytes 2 (pick 3 volErr) ++ leBytes 2 (pick 4 persErr)
    (rcOk, [], { d with mgt := { d.mgt with alertCfg := cfg } })

/-- GET_SHUTDOWN_STATE. -/
def execGetShutdownState (c : CmdHdr) (s : State) : Out := s.command c 0x4203 0 .read fun d => (rcOk, leBytes 1 d.mgt.shutdownState, d)

/-- SET_SHUTDOWN_STATE. -/
def execSetShutdownState (c : CmdHdr) (state : Nat) (s : State) : Out :=
  s.command c 0x4204 1 .change fun d => (rcOk, [], { d with mgt := { d.mgt with shutdownState := state % 256 } })

/-! ## Poison (R82 to R84) -/

/-- GET_POISON_LIST of a DPA range: records of address, length and source, at most 510 to a response; the next Get Poison
List of the same range goes on from there. The list is the device's first 65,536 records. -/
def execGetPoisonList (c : CmdHdr) (start n : Nat) (s : State) : Out :=
  s.command c 0x4300 16 .read fun d =>
    let lo := match d.mgt.poisonPos.find c.iface with
      | some (a, m, p) => if a = start && m = n then p else start
      | none => start
    let mine := mergePoison ((d.poisonLines (d.reaches c.iface)).filter (fun r => decide (r.1 < d.poisonEnd)))
    let clip := mine.filterMap (fun r =>
      let a := max r.1 lo
      let b := min (r.1 + 64 * r.2.1) (start + 64 * n)
      if a < b then some (a, ceilDiv (b - a) 64, r.2.2) else none)
    let rs := clip.take 510
    let d := { d with mgt := { d.mgt with poisonPos := match clip.drop 510 with
      | r :: _ => d.mgt.poisonPos.put c.iface (start, n, r.1)
      | [] => d.mgt.poisonPos.del c.iface } }
    let src := fun (x : Nat) => if x = 3 then 7 else x + 1
    (rcOk, leBytes 1 (b2n (decide (510 < clip.length)) + 2 * b2n d.poison.overflow.isSome) ++ zeros 1 ++
      leBytes 8 (d.poison.overflow.getD 0) ++ leBytes 2 rs.length ++ zeros 20 ++
      rs.flatMap (fun r => leBytes 8 (r.1 + src r.2.2) ++ leBytes 4 r.2.1 ++ zeros 4), d)

/-- Act on the line of a DPA (R84), under the key index that its alias names: Invalid Input where no region reachable through
the interface stores a line there. -/
def Dev.onLine (d : Dev) (c : CmdHdr) (dpa : Nat) (f : RegionRec → Nat → Nat → Win → Dev) : CmdOut :=
  match d.locate (dpa / 64 * 64) (if c.iface = 2 then 3 else 2 ^ c.iface) with
  | none => d.refuse rcInvalid
  | some (g, off, ki) =>
    let w := d.window g off
    match w with
    | .main | .shadow => if d.memActive then (rcOk, [], f g off ki w) else d.refuse rcBusy
    | .counter m => if d.regionCount g ≤ 8 * m then d.refuse rcInvalid
                    else if d.memActive then (rcOk, [], f g off ki w) else d.refuse rcBusy
    | _ => d.refuse rcInvalid

/-- INJECT_POISON. -/
def execInjectPoison (c : CmdHdr) (dpa : Nat) (s : State) : Out :=
  s.command c 0x4301 8 .change fun d => d.onLine c dpa fun g off _ w =>
    match w with
    | .counter m => let (pid, sub) := d.homePlace g m; (d.storePoison pid sub poisonInjected).2
    | _ => match d.writePid g off with
      | (some pid, _, d) => (d.storePoison pid (off % 4096 / 64) poisonInjected).2
      | (none, _, d) => d

/-- CLEAR_POISON: the data is stored as by a full-line write, and the poison ends. -/
def execClearPoison (c : CmdHdr) (dpa : Nat) (data : Line) (s : State) : Out :=
  s.command c 0x4302 72 .change fun d => d.onLine c dpa fun g off ki w =>
    match w, d.counterSet g.setId with
    | .counter m, some cs => (d.counterWrite g cs m data (BitVec.allOnes 64) false).2
    | .counter _, none => d
    | _, _ =>
      let (_, l, d) := d.writeLine g off ki data (BitVec.allOnes 64) true false
      d.writeCached (d.ownerOf g w off) g.number (g.base + off) ki true l

/-- SCAN_MEDIA and its companions: Unsupported (R99). -/
def execScanMedia (c : CmdHdr) (which : Nat) (s : State) : Out := s.command c (0x4303 + which % 3) 0 .read (·.refuse rcUnsupported)

/-- UNSUPPORTED_COMMAND. -/
def execUnsupportedCommand (c : CmdHdr) (opcode : Nat) (s : State) : Out := s.command c opcode 0 .read (·.refuse rcUnsupported)

/-- GET_MULTI_HEADED_INFO (R71): over MCTP of a device in two-head mode. -/
def execGetMultiHeadedInfo (c : CmdHdr) (start limit : Nat) (s : State) : Out :=
  s.command c 0x5500 2 .read fun d =>
    if c.iface ≠ 2 || !d.pin.headMode then d.refuse rcUnsupported
    else
      let map := (([0, 1] : List Nat).drop start).take limit
      (rcOk, leBytes 1 2 ++ leBytes 1 2 ++ zeros 2 ++ leBytes 1 start ++ leBytes 1 map.length ++ zeros 2 ++ map.flatMap (leBytes 1), d)

/-- GET_ENDPOINT_ID, an MCTP control message of the minimal set (R383): the endpoint's own identity is free. -/
def execGetEndpointId (s : State) : Out := s.on fun d =>
  let (f, d) := d.drawFree 383
  d.emit (.mctpControl 2 (leBytes 1 0 ++ leBytes 1 f ++ zeros 2))

/-- GET_MCTP_VERSION_SUPPORT, of the minimal set (R383). -/
def execGetMctpVersionSupport (s : State) : Out := s.on fun d => d.emit (.mctpControl 4 (Config.stdReply 4 [] 0))

/-! ## DOE, SPDM, IDE_KM (R80, R81, R90 to R92) -/

/-- The DOE of a head, or the SPDM responder on MCTP, can be asked. -/
def Dev.doeUp (d : Dev) (i : Nat) : Bool := decide (i ≤ 2) && d.ifaceUp { iface := i, secured := false, len := 0 } && d.fwReady

/-- DOE_DISCOVERY: entry `index` of the protocol list, as vendor, type and the next index; vendor 0xFFFF past the end. -/
def execDoeDiscovery (head index : Nat) (s : State) : Out := s.on fun d =>
  d.when (decide (head < 2) && d.doeUp head) fun d =>
    let ps : List (Nat × Nat) := [(0x0001, 0), (0x0001, 1), (0x0001, 2), (0x1E98, 2)]
    let p := ps.getD index (0xFFFF, 0)
    d.emit (.obj head 0 (leBytes 2 p.1 ++ leBytes 1 p.2 ++ leBytes 1 (if index + 1 < ps.length then index + 1 else 0)))

/-- The payload bandwidth of a head's link as trained, MB/s (R80). -/
def Dev.linkMbps (d : Dev) (h : Nat) : Nat :=
  let tenths := [0, 25, 50, 80, 160, 320, 640].getD (d.reg .GLB_HEAD_LINK_RATE h) 0
  100000 * d.reg .GLB_HEAD_LINK_WIDTH h * tenths / 10240

/-- The CDAT entries of a region (R80): DSMAS, DSEMTS, then DSLBIS of read and write latency and bandwidth. -/
def Dev.cdatGroup (d : Dev) (h : Nat) (r : RegionRec) : List (List Byte) :=
  let shared := d.pin.headMode && r.heads % 4 = 3
  let ext := d.extent r
  let rd := match r.rtype with
    | .scratch | .queue => 140
    | .counter => 160
    | .table => if !r.persist || r.placement = 3 then 140 else 620
  let mem := match r.rtype with | .table | .scratch => 1 | _ => 2
  let lbis := fun (kind unit v : Nat) =>
    leBytes 1 1 ++ zeros 1 ++ leBytes 2 24 ++ leBytes 1 r.number ++ zeros 1 ++ leBytes 1 kind ++ zeros 1 ++ leBytes 8 unit ++
    leBytes 2 v ++ zeros 6
  let bw := d.linkMbps h
  [leBytes 1 0 ++ zeros 1 ++ leBytes 2 24 ++ leBytes 1 r.number ++ leBytes 1 (4 * b2n r.persist + 8 * b2n shared) ++ zeros 2 ++
     leBytes 8 r.base ++ leBytes 8 ext,
   leBytes 1 4 ++ zeros 1 ++ leBytes 2 24 ++ leBytes 1 r.number ++ leBytes 1 mem ++ zeros 2 ++ leBytes 8 0 ++ leBytes 8 ext,
   lbis 1 1000 rd, lbis 2 1000 100, lbis 4 bw 1, lbis 5 bw 1]

/-- The entries of a head's CDAT table. -/
def Dev.cdatEntries (d : Dev) (h : Nat) : List (List Byte) :=
  (((d.cfg.map (·.regions)).getD []).filter (fun r => (d.regionHeads r.number).testBit h)).flatMap (d.cdatGroup h)

/-- The CDAT header: length, revision, checksum, sequence (R81). -/
def Dev.cdatHeader (d : Dev) (h : Nat) : List Byte :=
  let es := (d.cdatEntries h).flatten
  let body := fun (ck : Nat) => leBytes 4 (16 + es.length) ++ leBytes 1 1 ++ leBytes 1 ck ++ zeros 6 ++ leBytes 4 (d.head h).cdatSeq
  let sum := ((body 0 ++ es).map (·.toNat)).foldl (· + ·) 0
  body (256 - sum % 256)

/-- CDAT_TABLE_ACCESS: entry 0 is the header; the answer names the next entry, 0xFFFF after the last. -/
def execCdatTableAccess (head entry : Nat) (s : State) : Out := s.on fun d =>
  d.when (decide (head < 2) && d.doeUp head) fun d =>
    let es := d.cdatHeader head :: d.cdatEntries head
    let next := if entry + 1 < es.length then entry + 1 else 0xFFFF
    d.emit (.obj head 2 (if es.length ≤ entry then [] else leBytes 1 0 ++ leBytes 1 0 ++ leBytes 2 next ++ es.getD entry []))

/-- A measurement (R91). -/
def Dev.measurement (d : Dev) (i : Nat) : List Byte :=
  let src := d.reg .IMG_STATUS_ACTIVE_SLOT
  let b := if src < 3 then d.boot.bytes src else []
  match i with
  | 1 => Config.bootRomDigest
  | 2 => Config.sha384 (d.runningFw.elim [] (·.bytes))
  | 3 => if d.cfg.isSome then Config.sha384 (b.take (u32 b 0x34)) ++ leBytes 8 (u64 b 0x38) else []
  | 4 => leBytes 2 ((d.cfg.map (·.svn)).getD 0) ++ leBytes 2 d.boot.svnFloor ++ leBytes 2 (d.runningFw.elim 0 (·.svn))
  | _ => leBytes 1 d.pin.bootSel ++ leBytes 1 (b2n d.pin.headMode) ++ leBytes 1 (d.reg .CRY_STATUS_DEBUG_AUTH) ++
         leBytes 1 (d.reg .CRY_STATUS_LOCKED)

/-- GET_MEASUREMENTS of one index, 1 to 5, or of all (0xFF), signed; another index is answered empty. -/
def execGetMeasurements (iface index : Nat) (s : State) : Out := s.on fun d =>
  d.when (d.doeUp iface) fun d =>
    let ms := (if index = 0xFF then [1, 2, 3, 4, 5] else [index].filter (fun i => decide (1 ≤ i) && decide (i ≤ 5))).flatMap
      (fun i => leBytes 1 i ++ leBytes 2 (d.measurement i).length ++ d.measurement i)
    d.emit (.obj iface 1 (if ms.isEmpty then [] else ms ++ Config.deviceSign ms))

/-- A secured SPDM session stands on an interface. -/
def Dev.session (d : Dev) (i : Nat) : Bool := if i = 2 then d.mgt.spdm else (d.head i).spdm

/-- The certificate chain of an SPDM slot (R91): slot 0 the device's identity, slot 1 the owner's. -/
def Dev.certChain (d : Dev) (slot : Nat) : List Byte := if slot = 0 then d.boot.cert0 else if slot = 1 then d.cry.cert1 else []

/-- A DOE object of a head may be 16 KiB long (R90): `n` bytes behind its own header of 8 and SPDM's of 4. -/
def doeFits (iface n : Nat) : Bool := decide (2 ≤ iface) || decide (n + 12 ≤ 16384)

/-- SET_CERTIFICATE: slot 1 in a secured session; slot 0 cannot be changed. -/
def execSetCertificate (iface slot : Nat) (chain : List Byte) (s : State) : Out := s.on fun d =>
  d.when (d.doeUp iface) fun d =>
    if slot = 1 && d.session iface && doeFits iface chain.length then { d with cry := { d.cry with cert1 := chain } }.emit (.obj iface 1 [0])
    else d.emit (.obj iface 1 [])

/-- KEY_EXCHANGE: a secured session opens, under a secret of its own that the two sides agree: a free value. -/
def execKeyExchange (iface : Nat) (s : State) : Out := s.on fun d =>
  d.when (d.doeUp iface) fun d =>
    let (f, d) := d.drawFree 91
    let d := if iface = 2 then { d with mgt := { d.mgt with spdm := true, spdmSecret := f } }
      else d.setHead iface { d.head iface with spdm := true, spdmSecret := f }
    d.emit (.obj iface 1 (Config.stdReply 0xE4 [] 0))

/-- The IDE stream of a head: CXL.mem, or CXL.io. -/
def HeadS.ide (x : HeadS) (io : Bool) : IdeS := if io then x.ioIde else x.memIde
def HeadS.setIde (x : HeadS) (io : Bool) (i : IdeS) : HeadS := if io then { x with ioIde := i } else { x with memIde := i }

/-- An IDE_KM message of a head: only inside a secured session, for key sets 0 and 1. -/
def Dev.ideKm (d : Dev) (head : Nat) (io : Bool) (set : Nat) (f : IdeS → Option IdeS) : Dev :=
  d.when (decide (head < 2) && d.doeUp head && d.session head) fun d =>
    let x := d.head head
    match (if set < 2 then f (x.ide io) else none) with
    | some i => (d.setHead head (x.setIde io i)).emit (.obj head 3 [0])
    | none => d.emit (.obj head 3 [1])

/-- KEY_PROG: a key of a set, for direction 0 receive or 1 transmit. -/
def execKeyProg (head : Nat) (io : Bool) (set dir : Nat) (key : List Byte) (s : State) : Out := s.on fun d =>
  d.ideKm head io set fun i => if decide (dir < 2) && key.length = 32 then some { i with keys := i.keys.put (2 * set + dir) key } else none

/-- K_SET_GO: the stream switches to a set whose two keys are programmed, and is secure. -/
def execKSetGo (head : Nat) (io : Bool) (set : Nat) (s : State) : Out := s.on fun d =>
  d.ideKm head io set fun i =>
    if i.keys.has (2 * set) && i.keys.has (2 * set + 1) then some { i with active := some set, secure := true } else none

/-- K_SET_STOP: a set stops; the stream that runs on it is no longer secure. -/
def execKSetStop (head : Nat) (io : Bool) (set : Nat) (s : State) : Out := s.on fun d =>
  d.ideKm head io set fun i =>
    let ks := i.keys.keep (fun k _ => k / 2 ≠ set)
    some (if i.active = some set then { keys := ks, active := none, secure := false } else { i with keys := ks })

/-! ## GPF (R87), HDM decoders (R77) -/

/-- GPF_PHASE_1 and GPF_PHASE_2 complete as soon as they are received. -/
def Dev.gpf (d : Dev) (head phase : Nat) : Dev :=
  d.when (decide (head < d.headCount) && d.flag .GLB_HEAD_LINK_CXL head) (·.emit (.gpf head phase))
def execGpfPhase1 (head : Nat) (s : State) : Out := s.on (·.gpf head 1)
def execGpfPhase2 (head : Nat) (s : State) : Out := s.on (·.gpf head 2)

/-- The values that a decoder's fields may take (R77). -/
def Decoder.legal (x : Decoder) : Bool :=
  x.ways ∈ [1, 2, 3, 4, 6, 8, 12, 16] && x.gran ∈ [256, 512, 1024, 2048, 4096, 8192, 16384] && decide (0 < x.hpaSize) &&
  x.hpaSize % 2 ^ 28 = 0 && x.skip % 2 ^ 28 = 0

/-- HDM_DECODER_COMMIT: the decoder takes its fields and commits, or fails with Error Not Committed: above 2^48, with a value
that R77 does not list, or before the decoder below it. A locked decoder is not changed. -/
def execHdmDecoderCommit (head n hpaBase hpaSize ways gran skip target : Nat) (lock : Bool) (s : State) : Out := s.on fun d =>
  d.when (decide (head < d.headCount) && decide (n < 8) && (d.head head).memInfoValid && !(d.decoder head n).locked) fun d =>
    let put := fun (x : Decoder) => let h := d.head head; d.setHead head { h with decoders := h.decoders.put n x }
    let x : Decoder := { hpaBase, hpaSize, ways, gran, skip, target }
    let e := put x
    if !x.legal || (n ≠ 0 && !(d.decoder head (n - 1)).committed) || decide (2 ^ 48 < e.decoderBase head n + hpaSize / max ways 1) then
      put { x with errNotCommitted := true }
    else put { x with committed := true, locked := lock }

end Sys2Proof.Machine
end

