-- ==== Sys2Proof/Machine/RegCmds.lean ====
section
/-!
DEFINITION. Writes of BX space (R8, R9, R448 to R453): a field by its access type, the fields with a behaviour of their own,
a register, an access.
-/
namespace Sys2Proof.Machine

/-- The unit whose control field a register field is (R451). -/
def unitOfField (f : Fld) (n : Nat) : Option Nat :=
  if f ∈ [.RGN_CTL_PREFETCH_EN, .RGN_CTL_HOSTERR_EVT] then some (regionIx n)
  else if f ∈ [.SLC_CTL_DRAM_SPEC_EN, .SLC_CTL_MEDIA_SPEC_EN, .SLC_CTL_RUNAHEAD_EN, .SLC_CTL_PF_EN, .SLC_CTL_SPECRD_EN] then
    some (sliceIx n)
  else if f = .MCX_SB_CTL_ALERT_EN then some (complexIx n)
  else if f ∈ [.MCX_LINKi_CTL_PRESET_FIX, .MCX_LINKi_CTL_PRESET] then some (linkIx n)
  else none

/-- Set an RW field. A value outside the field's range is ignored. A control field of a unit that is RESETTING, OFF or FAILED
is kept for it: the unit goes on acting by the value it had (R451). -/
def Dev.setField (d : Dev) (f : Fld) (n v : Nat) : Dev :=
  if (f.info.range.map (fun r => decide (v < r.1) || decide (r.2 < v))).getD false then d
  else
    let d := match unitOfField f n with
      | some ix =>
        if [UState.resetting, .off, .failed].contains (d.ustate ix) && !d.ust.kept.has (f.key n) then
          { d with ust := { d.ust with kept := d.ust.kept.put (f.key n) (ix, d.reg f n) } }
        else d
      | none => d
    d.setReg f n v

/-- Write EVT_CFGn: what R414 forces on a source of the severity written stays as it is. -/
def Dev.setEvtCfg (d : Dev) (f : Fld) (n v sev : Nat) : Dev :=
  let unitSrc := decide (928 ≤ n) && decide (n < 960)
  match f with
  | .EVT_CFGn_EN => if (sev = 3 || unitSrc) && v = 0 then d else d.setReg f n v
  | .EVT_CFGn_ROUTE =>
    let must := if sev = 3 then 14 else if unitSrc then 10 else 0
    d.setReg f n (v ||| (d.reg .EVT_CFGn_ROUTE n &&& must))
  | f => d.setReg f n v

/-- Write the bits `m` of field `f` of register instance `n` with those of `v`, both numbered in the field; `w` is the word
written, in the register's places. -/
def Dev.writeField (d : Dev) (f : Fld) (n m v w : Nat) : Dev :=
  let ones := v &&& m
  let old := d.reg f n
  let new := ones ||| (old - (old &&& m))
  match f with
  | .SLC_WAY_TEST_TEST => d.testWays n ones
  | .CRY_CTL_LOCKDOWN => if ones = 0 then d else (d.setFlag .CRY_CTL_LOCKDOWN 0 true).lockdown 0
  | .PWR_SQ_CTL_LEAVE => if ones = 0 then d else (d.setFlag .PWR_SQ_CTL_LEAVE 0 true).sqLeave
  | .PWR_MPG_LATCH => d.rearmGroups ones
  | .RST_WDT_KICK => if ones = 0 then d else d.kickWatchdog
  | .CLK_SRC_SEL_PLL_REF => d.selectClocks (bits w 0 13)
  | .CLK_SRC_SEL_WCLK_SOSC => d
  | .DBG_MA_CTL_GO => if ones = 0 then d else d.mailboxAccess (w.testBit 1)
  | .PMC_SAMP_STAT_RPTR =>
    let freed := (new + 256 - old) % 256
    { d.setReg f n new with pmc := { d.pmc with fill := d.pmc.fill - freed } }
  | .PMC_SAMP_CTL_PERIOD =>
    if new = 0 then let (x, d) := d.drawFree 425; if x % 2 = 0 then d else d.setReg f n 0 else d.setReg f n new
  | .PMC_GRPg_CTL_RUN => d.setRun n (new.testBit 0)
  -- what the counter held before the items of this stamp no longer matters
  | .PMC_CTRn_COUNT => { d.setField f n new with pmc := { d.pmc with fresh := d.pmc.fresh.del n } }
  | .EVT_CFGn_EN | .EVT_CFGn_ROUTE | .EVT_CFGn_SEV => d.setEvtCfg f n new (bits w 1 2)
  | f =>
    match f.info.access with
    | .rw => d.setField f n new
    | .w1c => d.setReg f n (old - (old &&& ones))
    | .w1s => d.setReg f n (old ||| ones)
    | .ro | .wo => d

/-- The counter set, queue set or slices that a field belongs to are in the image in force (R24). -/
def Dev.structured (d : Dev) (f : Fld) (n : Nat) : Bool :=
  match f with
  | .TAL_SETs_STAT_INEXACT | .TAL_SETs_STAT_SKIPPED | .TAL_SETs_STAT_LOST => (d.counterSet n).isSome
  | .QEN_STRANDw_STRANDED => (d.setOfGroup (n / 16)).isSome
  | .SLC_CTL_DRAM_SPEC_EN | .SLC_CTL_MEDIA_SPEC_EN | .SLC_CTL_RUNAHEAD_EN | .SLC_CTL_PF_EN | .SLC_CTL_SPECRD_EN
  | .SLC_WAY_TEST_TEST => d.cfg.isSome
  | _ => true

/-- A write reaches the field. Fields that a core reset clears read their reset values until its release: a write does not
reach them (R451). A write that would need a structure that no image has created is ignored (R24). -/
def Dev.writable (d : Dev) (f : Fld) (n : Nat) : Bool :=
  f.info.access ≠ .ro && !d.hiddenField f n && d.structured f n && !(f.info.clrC && d.rst.core = .hold)

/-- A source that comes after `src` at equal stamps has written this byte of BX space already: H0 goes first, then H1, then
master 0 (R450). -/
def Dev.writtenLater (d : Dev) (src addr : Nat) : Bool :=
  d.ust.barAt = d.now && d.ust.barWrites.any (fun w => decide (src < w.1) && decide (w.2.1 ≤ addr) && decide (addr < w.2.1 + w.2.2))

/-- Write the bits `m` of a register instance; of the bits `late` an RW field keeps what a later source wrote (R456). -/
def Dev.writeReg (d : Dev) (r : RegInfo) (n m late v : Nat) : Dev :=
  d.each r.fields fun d f =>
    let fm := bits (if f.info.access = .rw then m - (m &&& late) else m) f.info.lo f.info.width
    if fm = 0 || !d.writable f n then d else d.writeField f n fm (bits v f.info.lo f.info.width) v

/-- A write of `size` bytes within one register. -/
def Dev.writeAt (d : Dev) (src addr size v : Nat) : Dev :=
  match regAt addr with
  | some (r, n, o) =>
    let late := (List.range size).foldl (fun m i => if d.writtenLater src (addr + i) then m + 255 * 256 ^ (o + i) else m) 0
    d.writeReg r n ((2 ^ (8 * size) - 1) * 256 ^ o) late (v % 2 ^ (8 * size) * 256 ^ o)
  | none => d

/-- A write of BX space by a source (R448): an access of 8 bytes to a 64-bit register is one write; over two registers it
writes each. An access of another size or alignment is ignored. -/
def Dev.writeBar2 (d : Dev) (src addr size v : Nat) : Dev :=
  if !accessOk addr size then d
  else
    let d := if size = 4 || (regAt addr).any (fun x => decide (8 ≤ x.1.bytes)) then d.writeAt src addr size v
      else (d.writeAt src addr 4 v).writeAt src (addr + 4) 4 (v / 2 ^ 32)
    let old := if d.ust.barAt = d.now then d.ust.barWrites else []
    { d with ust := { d.ust with barAt := d.now, barWrites := old ++ [(src, addr, size)] } }

/-- REGISTER_WRITE: a head's write of BAR2; none from a head whose link is down (R450, R451). -/
def execRegisterWrite (head addr size data : Nat) (s : State) : Out := s.onHealth fun d =>
  d.when (decide (head < d.headCount) && d.reg .GLB_HEAD_LINK_WIDTH head ≠ 0) (·.writeBar2 head addr size data)

end Sys2Proof.Machine
end

