-- ==== Sys2Proof/Machine/DebugCmds.lean ====
section
/-!
DEFINITION. STATE DIGEST (R337, R338), DEVICE STATUS (R437), debug unlock (R444, R445) and the JTAG port (R443).
-/
namespace Sys2Proof.Machine

/-! ## STATE DIGEST (R337, R338) -/

/-- Bytes cut or filled with zeros to `n`. -/
def fit (n : Nat) (b : List Byte) : List Byte := (b ++ zeros n).take n

/-- Bytes as `n` pages of 4 KiB, the last filled with zeros. -/
def pagesOf (n : Nat) (b : List Byte) : List (List Byte) := (List.range n).map (fun i => fit 4096 (Sys2Proof.slice b (4096 * i) 4096))

/-- Section DEVICE: eight registers, 8 bytes each. -/
def Dev.digestDevice (d : Dev) : List Byte :=
  ([.IMG_STATUS_ACTIVE_SLOT, .JRN_STATUS_QSTATE, .DRT_PDEG_ACTIVE, .GLB_WEAR_STAT_LEVEL, .DRT_HEALTH_LIFE_USED, .CRY_STATUS_LOCKED,
    .ORC_STATUS_REGRAFT, .UST_FAULT_RECOVERED] : List Fld).flatMap (fun f => leBytes 8 (d.word f))

/-- Section REGIONS: the record of a region. -/
def Dev.digestRegion (d : Dev) (n : Nat) : List Byte :=
  leBytes 4 (d.word .RGN_STATE_STATE n) ++ leBytes 4 (d.word .RGN_HOSTERR_COUNT n) ++ leBytes 8 (d.word .RGN_EPOCH_EPOCH n) ++
  leBytes 4 (d.word .RGN_SHADOW_DELTA_PAGES n) ++ zeros 4 ++ leBytes 8 (d.word .RGN_UID_UID n) ++ zeros 32

/-- Section ENGINES: sweeps, then counter sets. -/
def Dev.digestEngines (d : Dev) : List Byte :=
  (List.range 4).flatMap (fun s => leBytes 8 (d.word .CRY_RHs_STAT_STATE s) ++ leBytes 8 (d.word .CRY_RHs_BOUND_D s) ++
    leBytes 8 (d.word .CRY_RHs_LIMIT_LIMIT s) ++ leBytes 8 (d.word .CRY_RHs_CNT_PAGES s)) ++
  (List.range 64).flatMap (fun s => leBytes 8 (d.word .TAL_SETs_STAT_INEXACT s) ++ leBytes 8 (d.word .TAL_SETs_EPOCH_EPOCH s) ++
    leBytes 8 (d.word .TAL_SETs_SNAPID_SNAP_ID s) ++ zeros 8)

/-- Section QUEUES: the record of a queue. -/
def Dev.digestQueue (d : Dev) (q : Nat) : List Byte :=
  let x := d.queue q
  let opened := match x.asm with | .opened _ => true | _ => false
  leBytes 4 x.headSeq ++ leBytes 4 x.tailSeq ++ leBytes 4 x.frames.length ++ leBytes 2 x.drops ++ leBytes 1 x.resets ++
  leBytes 1 (b2n opened + 2 * b2n (d.stranded q))

/-- The sections in their order: identifier, pages. -/
def Dev.digestSections (d : Dev) (first count : Nat) : List (Nat × List (List Byte)) :=
  [(1, pagesOf 2 ((List.range 542).flatMap d.unitRecord)), (2, pagesOf 1 d.digestDevice),
   (3, pagesOf 1 ((List.range 64).flatMap d.digestRegion)),
   (4, pagesOf 4 ((List.range 4096).flatMap (fun n => leBytes 4 (d.word .CRY_SLOTn_STATE n)))), (5, pagesOf 1 d.digestEngines),
   (6, pagesOf 4 ((List.range 4096).flatMap (fun n => leBytes 4 (d.word .QEN_STRANDw_STRANDED n)))),
   (7, pagesOf (2 * count) ((List.range (512 * count)).flatMap (fun i => d.digestQueue (512 * first + i))))]

/-- The directory: section, first page, page count. -/
def digestDir (n : Nat) : List (Nat × List (List Byte)) → List Byte
  | [] => []
  | (k, p) :: r => leBytes 1 k ++ leBytes 1 n ++ leBytes 1 p.length ++ zeros 1 ++ digestDir (n + p.length) r

/-- The pages of a capture under number `id`. -/
def Dev.digest (d : Dev) (id first count : Nat) : List (List Byte) :=
  let ss := d.digestSections first count
  let body := ss.flatMap (·.2)
  let head := leBytes 8 id ++ leBytes 8 d.now ++ leBytes 8 d.ust.seq ++ leBytes 8 ((d.cfg.map (·.uid)).getD 0) ++
    leBytes 4 (d.reg .IMG_SEQ_ACT_SEQ) ++ leBytes 2 (body.length + 1) ++ leBytes 1 first ++ leBytes 1 count ++ zeros 24 ++
    fit 32 (digestDir 1 ss) ++ fit 48 (Config.sha384 body.flatten)
  fit 4096 head :: body

/-- A page of a snapshot as a response. -/
def Snapshot.reply (x : Snapshot) (page : Nat) : List Byte :=
  leBytes 8 x.id ++ leBytes 2 page ++ leBytes 2 x.pages.length ++ zeros 4 ++ x.pages.getD page (zeros 4096)

/-- STATE_DIGEST_CAPTURE: the snapshot replaces the interface's, and page 0 is returned. -/
def execStateDigestCapture (c : CmdHdr) (qgFirst qgCount : Nat) (s : State) : Out :=
  s.command c 0xC001 16 .read fun d =>
    if decide (16 < qgCount) || decide (256 < qgFirst + qgCount) then d.refuse rcInvalid
    else
      let id := d.mgt.snapId + 1
      let d := { d with mgt := { d.mgt with snapId := id } }.setReg .UST_DIGEST_SNAP_ID 0 id
      let x : Snapshot := { id, stamp := d.now, qgFirst, qgCount, pages := d.digest id qgFirst qgCount, lastRead := d.now }
      (rcOk, x.reply 0, { d with ust := { d.ust with snaps := d.ust.snaps.put c.iface x } })

/-- STATE_DIGEST_PAGE_READ of snapshot `id`. A STALE refusal carries the interface's current snapshot and its page 0. -/
def execStateDigestPageRead (c : CmdHdr) (id page : Nat) (s : State) : Out :=
  s.command c 0xC001 16 .read fun d =>
    match d.ust.snaps.find c.iface with
    | some x =>
      if x.id ≠ id then (rcStale, x.reply 0, d)
      else if x.pages.length ≤ page then d.refuse rcInvalid
      else (rcOk, x.reply page, { d with ust := { d.ust with snaps := d.ust.snaps.put c.iface { x with lastRead := d.now } } })
    | none => (rcStale, zeros 4112, d)

/-! ## DEVICE STATUS (R437) -/

/-- DEVICE_STATUS. -/
def execDeviceStatus (c : CmdHdr) (s : State) : Out :=
  s.command c 0xC002 0 .minimal fun d =>
    (rcOk, leBytes 4 (d.word .PWR_STEP_STEP) ++ leBytes 4 (d.word .RST_CAUSE_POR) ++ leBytes 1 (d.reg .JRN_STATUS_QSTATE) ++
      leBytes 1 (d.reg .JRN_STATUS_TRIGGER) ++ zeros 2 ++ leBytes 8 (d.word .PWR_SUPPLY_VIN12_MV) ++
      leBytes 4 (d.word .CLK_STATUS_SWITCHING) ++ leBytes 4 (d.word .THM_STATUS_MAX_N) ++ leBytes 8 d.now ++
      leBytes 8 d.boot.serial, d)

/-! ## Debug unlock (R444, R445) -/

/-- A nonce expires 60 s after it was issued. -/
def Dev.nonceLives (d : Dev) : Bool :=
  match d.mgt.nonce with
  | some (_, t) => decide (d.now < t + 60000000000)
  | none => false

/-- NONCE_EXPIRY. -/
def execNonceExpiry (s : State) : Out := s.on fun d =>
  d.when (d.mgt.nonce.isSome && !d.nonceLives) fun d => { d with mgt := { d.mgt with nonce := none } }

/-- PHASE 0: a fresh nonce replaces any other; the response carries it with the serial number. -/
def Dev.challenge (d : Dev) : List Byte × Dev :=
  let (f, d) := d.drawFree 444
  let n := leBytes 32 f
  (n ++ leBytes 8 d.boot.serial ++ leBytes 1 d.triesLeft ++ zeros 7, { d with mgt := { d.mgt with nonce := some (n, d.now) } })

/-- The key and the signature of a PHASE 1 hold for nonce `n`. -/
def Dev.unlocks (d : Dev) (n : List Byte) (slot : Nat) (pub sig : List Byte) : Bool :=
  decide (slot < 2) && d.boot.debugHash.find slot = some (Config.sha384 pub) && !d.boot.debugRevoked.contains slot &&
  Config.ecdsaVerify pub sig (Config.sha384 (n ++ leBytes 8 d.boot.serial ++ [0x01]))

/-- PHASE 1: it takes the nonce, and unlocks debug or counts a failure; the last try that fails enters lockdown (R310).
`src` is the interface, 3 for JTAG. -/
def Dev.unlock (d : Dev) (src slot : Nat) (pub sig : List Byte) : List Byte × Dev :=
  let ok := d.nonceLives && (d.mgt.nonce.map (fun x => d.unlocks x.1 slot pub sig)).getD false
  let d := { d with mgt := { d.mgt with nonce := none } }
  let d :=
    if ok then d.setFlag .CRY_STATUS_DEBUG_AUTH 0 true
    else
      let d := { d with mgt := { d.mgt with unlockFails := d.mgt.unlockFails + 1 } }.raise 961 { a := 0xC0A0, c := src }
      if d.triesLeft = 0 then d.lockdown 1 else d
  (leBytes 1 (b2n ok) ++ leBytes 1 d.triesLeft ++ zeros 6, d)

/-- A phase of DEBUG UNLOCK over a command interface; in lockdown it is refused. -/
def State.debugUnlock (s : State) (c : CmdHdr) (need : Nat) (f : Dev → List Byte × Dev) : Out :=
  s.command c 0xC0A0 need .change fun d =>
    if d.flag .CRY_STATUS_LOCKED then d.refuse rcSecurity else let (p, d) := f d; (rcOk, p, d)

/-- DEBUG_UNLOCK_CHALLENGE. -/
def execDebugUnlockChallenge (c : CmdHdr) (s : State) : Out := s.debugUnlock c 4 (·.challenge)

/-- DEBUG_UNLOCK_RESPONSE. -/
def execDebugUnlockResponse (c : CmdHdr) (slot : Nat) (pubkey sig : List Byte) (s : State) : Out :=
  s.debugUnlock c 196 (·.unlock c.iface slot (fit 96 pubkey) (fit 96 sig))

/-! ## JTAG (R443) -/

/-- Load the instruction register, then act on what the data register takes in and puts out. -/
def State.jtag (s : State) (ir : Nat) (f : Dev → Dev) : Out :=
  s.onHealth fun d => f { d with mgt := { d.mgt with jtagIr := ir } }

/-- The bypass register: one bit, 0 at capture. The bits come out one place later, the first bit of a byte being its lowest.
-/
def Dev.bypass (d : Dev) (data : List Byte) : Dev := d.emit (.jtag (leBytes data.length (2 * leNat data)))

/-- The boundary register: the pins captured go out, and `data` is loaded. The order of its cells belongs to the package
data, so the bits captured are free. -/
def Dev.scanBoundary (d : Dev) (data : List Byte) : Dev :=
  let (f, d) := d.drawFree 443
  { d with mgt := { d.mgt with boundary := data } }.emit (.jtag (leBytes data.length f))

/-- An instruction that works only while RESET_N is low, and acts as BYPASS otherwise. -/
def Dev.inReset (d : Dev) (data : List Byte) (f : Dev → Dev) : Dev := if d.pin.resetN then d.bypass data else f d

/-- EXTEST: the boundary register drives the pins. -/
def execExtest (data : List Byte) (s : State) : Out := s.jtag 0x00 fun d => d.inReset data (·.scanBoundary data)

/-- IDCODE. -/
def execIdcode (s : State) : Out := s.jtag 0x01 fun d =>
  d.emit (.jtag (leBytes 4 (1 + 2 * (Config.jedecId % 2 ^ 11) + 0x9400 * 2 ^ 12 + d.boot.stepping % 16 * 2 ^ 28)))

/-- SAMPLE/PRELOAD. -/
def execSamplePreload (data : List Byte) (s : State) : Out := s.jtag 0x02 (·.scanBoundary data)

/-- CLAMP: the boundary register's cells hold the pins, and the bypass register is selected. -/
def execClamp (data : List Byte) (s : State) : Out := s.jtag 0x08 (·.bypass data)

/-- HIGHZ: the outputs are released, and the bypass register is selected. -/
def execHighz (data : List Byte) (s : State) : Out := s.jtag 0x09 (·.bypass data)

/-- BYPASS. -/
def execBypass (data : List Byte) (s : State) : Out := s.jtag 0xFF (·.bypass data)

/-- DBG_CHAL shifts out the PHASE 0 response; in lockdown no nonce is issued, and the bits are free. -/
def execDbgChal (s : State) : Out := s.jtag 0x20 fun d =>
  if d.flag .CRY_STATUS_LOCKED then let (f, d) := d.drawFree 443; d.emit (.jtag (leBytes 48 f))
  else let (p, d) := d.challenge; d.emit (.jtag p)

/-- DBG_RESP: the PHASE 1 request is complete at Update-DR. One that is shorter, or no PHASE 1, is refused; so is any in
lockdown. -/
def execDbgResp (request : List Byte) (s : State) : Out := s.jtag 0x21 fun d =>
  if d.flag .CRY_STATUS_LOCKED || decide (request.length < 196) || decide (u8 request 0 ≠ 1) then d
  else (d.unlock 3 (u8 request 1) (Sys2Proof.slice request 4 96) (Sys2Proof.slice request 100 96)).2

/-- DBG_ACCESS: an access as master 0; it acts as BYPASS until debug is unlocked. A DPA access gives its result and, for a
read, the line. -/
def execDbgAccess (a : DbgAcc) (s : State) : Out := s.jtag 0x22 fun d =>
  if !d.flag .CRY_STATUS_DEBUG_AUTH then d.bypass []
  else
    let dpa := fun (addr : Nat) (data : Option Line) =>
      if !d.memActive then d.emit (.jtag [])
      else
        let (r, l, d) := d.masterAccess 0 addr data
        d.emit (.jtag (leBytes 1 r ++ (l.map lineBytes).getD []))
    match a with
    | .dpaRead addr => dpa addr none
    | .dpaWrite addr data => dpa addr (some data)
    | .barRead addr size => let (v, d) := d.readBar2 addr size; d.emit (.jtag (leBytes size v))
    | .barWrite addr size v => d.writeBar2 2 addr size v
    | .halt stop => { d with rst := { d.rst with fwHalted := stop } }

end Sys2Proof.Machine
end

