-- ==== Sys2Proof/Machine/Dispatch.lean ====
section
/-!
DEFINITION. The dispatch: one arm per command of the opcode table, each one call of its meaning.
-/
namespace Sys2Proof.Machine

/-- The effect of a command on everything but the queue of waiting commands. -/
def exec (i : Instr) (s : State) : Host.Outcome State Fault Refusal :=
  match i with
  | .memRd r => Sys2Proof.Machine.execMemRd r s
  | .memWr head tag hpa data poison => Sys2Proof.Machine.execMemWr head tag hpa data poison s
  | .memWrPtl w => Sys2Proof.Machine.execMemWrPtl w s
  | .memSpecRd r => Sys2Proof.Machine.execMemSpecRd r s
  | .memInv r => Sys2Proof.Machine.execMemInv r s
  | .unsupportedM2sMessage head tag opcode => Sys2Proof.Machine.execUnsupportedM2sMessage head tag opcode s
  | .enqueueLine w ptr => Sys2Proof.Machine.execEnqueueLine w ptr s
  | .dequeueRead r ptr => Sys2Proof.Machine.execDequeueRead r ptr s
  | .release w ptr => Sys2Proof.Machine.execRelease w ptr s
  | .abort w ptr => Sys2Proof.Machine.execAbort w ptr s
  | .doorbellStatusRead r ptr => Sys2Proof.Machine.execDoorbellStatusRead r ptr s
  | .enqueueApertureRead r => Sys2Proof.Machine.execEnqueueApertureRead r s
  | .dequeueApertureWrite w => Sys2Proof.Machine.execDequeueApertureWrite w s
  | .updateLine w => Sys2Proof.Machine.execUpdateLine w s
  | .tallyWindowRead r => Sys2Proof.Machine.execTallyWindowRead r s
  | .counterWindowRead r => Sys2Proof.Machine.execCounterWindowRead r s
  | .counterWindowWrite w => Sys2Proof.Machine.execCounterWindowWrite w s
  | .shadowWrite w => Sys2Proof.Machine.execShadowWrite w s
  | .shadowRead r => Sys2Proof.Machine.execShadowRead r s
  | .commit w => Sys2Proof.Machine.execCommit w s
  | .discard w => Sys2Proof.Machine.execDiscard w s
  | .statusLineRead r => Sys2Proof.Machine.execStatusLineRead r s
  | .buddyRecordAck slice entry => Sys2Proof.Machine.execBuddyRecordAck slice entry s
  | .dramTierReadResult slice entry answer => Sys2Proof.Machine.execDramTierReadResult slice entry answer s
  | .mediaGrainDelivered slice entry answer => Sys2Proof.Machine.execMediaGrainDelivered slice entry answer s
  | .dramTierWriteAck slice entry => Sys2Proof.Machine.execDramTierWriteAck slice entry s
  | .engineAck slice entry => Sys2Proof.Machine.execEngineAck slice entry s
  | .nextLinePrefetch slice nth => Sys2Proof.Machine.execNextLinePrefetch slice nth s
  | .runAhead slice => Sys2Proof.Machine.execRunAhead slice s
  | .runAheadEntryExpiry slice line => Sys2Proof.Machine.execRunAheadEntryExpiry slice line s
  | .cleanOfferAnswer slice hold accept => Sys2Proof.Machine.execCleanOfferAnswer slice hold accept s
  | .offerDataAck slice hold => Sys2Proof.Machine.execOfferDataAck slice hold s
  | .lineCacheEccError slice set way corrected => Sys2Proof.Machine.execLineCacheEccError slice set way corrected s
  | .wayErrorWindowEnd slice => Sys2Proof.Machine.execWayErrorWindowEnd slice s
  | .slcWayTestWrite slice mask => Sys2Proof.Machine.execSlcWayTestWrite slice mask s
  | .wayTestDone slice way pass => Sys2Proof.Machine.execWayTestDone slice way pass s
  | .rescueSlipExpiry read => Sys2Proof.Machine.execRescueSlipExpiry read s
  | .susHoldExpiry die => Sys2Proof.Machine.execSusHoldExpiry die s
  | .deadlinePassed slice entry => Sys2Proof.Machine.execDeadlinePassed slice entry s
  | .answerInstant head rid => Sys2Proof.Machine.execAnswerInstant head rid s
  | .devloadWindowEnd => Sys2Proof.Machine.execDevloadWindowEnd s
  | .wearCreditAccrual => Sys2Proof.Machine.execWearCreditAccrual s
  | .writeBackStart lpn => Sys2Proof.Machine.execWriteBackStart lpn s
  | .bandRowVerified band row member errors => Sys2Proof.Machine.execBandRowVerified band row member errors s
  | .culletVictimSelection => Sys2Proof.Machine.execCulletVictimSelection s
  | .commitFold region => Sys2Proof.Machine.execCommitFold region s
  | .gatherZoneGrowth => Sys2Proof.Machine.execGatherZoneGrowth s
  | .gatherZoneShrink => Sys2Proof.Machine.execGatherZoneShrink s
  | .lehrRefresh => Sys2Proof.Machine.execLehrRefresh s
  | .mediaScan band row => Sys2Proof.Machine.execMediaScan band row s
  | .clearScheduled die => Sys2Proof.Machine.execClearScheduled die s
  | .sentinelReprogram die => Sys2Proof.Machine.execSentinelReprogram die s
  | .stagedPageMove => Sys2Proof.Machine.execStagedPageMove s
  | .remirrorComplete => Sys2Proof.Machine.execRemirrorComplete s
  | .spill queue => Sys2Proof.Machine.execSpill queue s
  | .spillPagePrefetch queue decoded => Sys2Proof.Machine.execSpillPagePrefetch queue decoded s
  | .tailTimeout queue => Sys2Proof.Machine.execTailTimeout queue s
  | .qptrJournal => Sys2Proof.Machine.execQptrJournal s
  | .tallyMerge check => Sys2Proof.Machine.execTallyMerge check s
  | .tallyFold set counter side => Sys2Proof.Machine.execTallyFold set counter side s
  | .epochBoundary set => Sys2Proof.Machine.execEpochBoundary set s
  | .tallyAtBoundary set => Sys2Proof.Machine.execTallyAtBoundary set s
  | .snapshotCopyComplete set => Sys2Proof.Machine.execSnapshotCopyComplete set s
  | .housekeepingRound sense => Sys2Proof.Machine.execHousekeepingRound sense s
  | .journalFlush => Sys2Proof.Machine.execJournalFlush s
  | .checkpoint => Sys2Proof.Machine.execCheckpoint s
  | .ceilingRecord => Sys2Proof.Machine.execCeilingRecord s
  | .meter => Sys2Proof.Machine.execMeter s
  | .throughSheetCut => Sys2Proof.Machine.execThroughSheetCut s
  | .throughSheetProgrammed sheet corrected => Sys2Proof.Machine.execThroughSheetProgrammed sheet corrected s
  | .drainComplete => Sys2Proof.Machine.execDrainComplete s
  | .drainTimeout => Sys2Proof.Machine.execDrainTimeout s
  | .indexVerified => Sys2Proof.Machine.execIndexVerified s
  | .pagesVerified => Sys2Proof.Machine.execPagesVerified s
  | .metadataVerified => Sys2Proof.Machine.execMetadataVerified s
  | .sealVerified vBank eUsed => Sys2Proof.Machine.execSealVerified vBank eUsed s
  | .supplyGood => Sys2Proof.Machine.execSupplyGood s
  | .restoreComplete => Sys2Proof.Machine.execRestoreComplete s
  | .reheatStep sweep => Sys2Proof.Machine.execReheatStep sweep s
  | .reheatStepTimeout sweep => Sys2Proof.Machine.execReheatStepTimeout sweep s
  | .reheatStepRetry sweep => Sys2Proof.Machine.execReheatStepRetry sweep s
  | .sliceFault slice => Sys2Proof.Machine.execSliceFault slice s
  | .mediaComplexFault complex => Sys2Proof.Machine.execMediaComplexFault complex s
  | .pipelineFault => Sys2Proof.Machine.execPipelineFault s
  | .dramStackFailure stack => Sys2Proof.Machine.execDramStackFailure stack s
  | .packageFailure package => Sys2Proof.Machine.execPackageFailure package s
  | .headInternalError head => Sys2Proof.Machine.execHeadInternalError head s
  | .fatalError => Sys2Proof.Machine.execFatalError s
  | .recoveryComplete unit => Sys2Proof.Machine.execRecoveryComplete unit s
  | .recoveryBudgetExceeded unit => Sys2Proof.Machine.execRecoveryBudgetExceeded unit s
  | .unitIdle unit => Sys2Proof.Machine.execUnitIdle unit s
  | .idleHandshakeTimeout unit => Sys2Proof.Machine.execIdleHandshakeTimeout unit s
  | .unitResetRelease unit => Sys2Proof.Machine.execUnitResetRelease unit s
  | .initialisationPassed unit => Sys2Proof.Machine.execInitialisationPassed unit s
  | .startBoundExpiry unit => Sys2Proof.Machine.execStartBoundExpiry unit s
  | .builtInTestDone unit pass => Sys2Proof.Machine.execBuiltInTestDone unit pass s
  | .stateDigestExpiry iface => Sys2Proof.Machine.execStateDigestExpiry iface s
  | .detectTimeout link => Sys2Proof.Machine.execDetectTimeout link s
  | .trainBlockReceived link port ptype reversed polarity => Sys2Proof.Machine.execTrainBlockReceived link port ptype reversed polarity s
  | .eqComplete link => Sys2Proof.Machine.execEqComplete link s
  | .deskewComplete link => Sys2Proof.Machine.execDeskewComplete link s
  | .checkPass link => Sys2Proof.Machine.execCheckPass link s
  | .blockLockLost link => Sys2Proof.Machine.execBlockLockLost link s
  | .recoveryTimeout link => Sys2Proof.Machine.execRecoveryTimeout link s
  | .frameCrcFailure link tag => Sys2Proof.Machine.execFrameCrcFailure link tag s
  | .homePortReturn link => Sys2Proof.Machine.execHomePortReturn link s
  | .dataResponse link tag errors => Sys2Proof.Machine.execDataResponse link tag errors s
  | .doneResponse link tag stat => Sys2Proof.Machine.execDoneResponse link tag stat s
  | .suspendedResponse link tag => Sys2Proof.Machine.execSuspendedResponse link tag s
  | .sentinelDataResponse link tag positions => Sys2Proof.Machine.execSentinelDataResponse link tag positions s
  | .commandReissueTimeout link tag => Sys2Proof.Machine.execCommandReissueTimeout link tag s
  | .sidebandAlert package alert => Sys2Proof.Machine.execSidebandAlert package alert s
  | .sidebandPoll package ack crc ptype dies serial caps => Sys2Proof.Machine.execSidebandPoll package ack crc ptype dies serial caps s
  | .powerOn bootSel headMode sqRole => Sys2Proof.Machine.execPowerOn bootSel headMode sqRole s
  | .powerLoss => Sys2Proof.Machine.execPowerLoss s
  | .vinGood mv => Sys2Proof.Machine.execVinGood mv s
  | .pwrfailNLow => Sys2Proof.Machine.execPwrfailNLow s
  | .vin12Low mv => Sys2Proof.Machine.execVin12Low mv s
  | .vaux3Low mv => Sys2Proof.Machine.execVaux3Low mv s
  | .railFault rail kind mv current => Sys2Proof.Machine.execRailFault rail kind mv current s
  | .railWarn rail kind mv => Sys2Proof.Machine.execRailWarn rail kind mv s
  | .phaseLost rail => Sys2Proof.Machine.execPhaseLost rail s
  | .railGood rail mv => Sys2Proof.Machine.execRailGood rail mv s
  | .railRiseTimeout rail => Sys2Proof.Machine.execRailRiseTimeout rail s
  | .sequencerStepAdvance => Sys2Proof.Machine.execSequencerStepAdvance s
  | .sequencerDownStep => Sys2Proof.Machine.execSequencerDownStep s
  | .dischargeTimeout rail => Sys2Proof.Machine.execDischargeTimeout rail s
  | .railCollapse rail => Sys2Proof.Machine.execRailCollapse rail s
  | .mpgoodRise group => Sys2Proof.Machine.execMpgoodRise group s
  | .mpgoodFall group => Sys2Proof.Machine.execMpgoodFall group s
  | .mpgRiseTimeout group => Sys2Proof.Machine.execMpgRiseTimeout group s
  | .sqFrameBroadcast => Sys2Proof.Machine.execSqFrameBroadcast s
  | .sqFrameReceived id target seq crc => Sys2Proof.Machine.execSqFrameReceived id target seq crc s
  | .sqStepHigh => Sys2Proof.Machine.execSqStepHigh s
  | .sqUpTimeout => Sys2Proof.Machine.execSqUpTimeout s
  | .sqDownTimeout => Sys2Proof.Machine.execSqDownTimeout s
  | .resetNAssert => Sys2Proof.Machine.execResetNAssert s
  | .resetNRelease => Sys2Proof.Machine.execResetNRelease s
  | .perstAssert head how => Sys2Proof.Machine.execPerstAssert head how s
  | .perstRelease head => Sys2Proof.Machine.execPerstRelease head s
  | .functionLevelReset head => Sys2Proof.Machine.execFunctionLevelReset head s
  | .linkUp head rate width cxl lowLatency reversed => Sys2Proof.Machine.execLinkUp head rate width cxl lowLatency reversed s
  | .linkLoss head => Sys2Proof.Machine.execLinkLoss head s
  | .ideIntegrityFailure head io => Sys2Proof.Machine.execIdeIntegrityFailure head io s
  | .inputGlitch pin => Sys2Proof.Machine.execInputGlitch pin s
  | .i3cSclStuck => Sys2Proof.Machine.execI3cSclStuck s
  | .watchdogKick => Sys2Proof.Machine.execWatchdogKick s
  | .watchdogExpiry => Sys2Proof.Machine.execWatchdogExpiry s
  | .coreResetHoldEnd => Sys2Proof.Machine.execCoreResetHoldEnd s
  | .clockSourceReady source => Sys2Proof.Machine.execClockSourceReady source s
  | .clockSourceLost source => Sys2Proof.Machine.execClockSourceLost source s
  | .pllLockLoss pll => Sys2Proof.Machine.execPllLockLoss pll s
  | .pllRelockTimeout pll => Sys2Proof.Machine.execPllRelockTimeout pll s
  | .clkSrcSelWrite value => Sys2Proof.Machine.execClkSrcSelWrite value s
  | .pllSwitchDone pll => Sys2Proof.Machine.execPllSwitchDone pll s
  | .clkTbLoRead => Sys2Proof.Machine.execClkTbLoRead s
  | .temperatureSample sensor raw selfCheckOk => Sys2Proof.Machine.execTemperatureSample sensor raw selfCheckOk s
  | .sampleLossTimeout package => Sys2Proof.Machine.execSampleLossTimeout package s
  | .throtNFall => Sys2Proof.Machine.execThrotNFall s
  | .throtNRise => Sys2Proof.Machine.execThrotNRise s
  | .throtHoldExpiry => Sys2Proof.Machine.execThrotHoldExpiry s
  | .throtStuckTimeout => Sys2Proof.Machine.execThrotStuckTimeout s
  | .mctpNotificationSent => Sys2Proof.Machine.execMctpNotificationSent s
  | .pmcIntervalBoundary group => Sys2Proof.Machine.execPmcIntervalBoundary group s
  | .pmcSnapshotPublish group => Sys2Proof.Machine.execPmcSnapshotPublish group s
  | .tierplanSliceRoll => Sys2Proof.Machine.execTierplanSliceRoll s
  | .stagingTimeout => Sys2Proof.Machine.execStagingTimeout s
  | .fwTransferTimeout => Sys2Proof.Machine.execFwTransferTimeout s
  | .fwLoadComplete => Sys2Proof.Machine.execFwLoadComplete s
  | .fwStartTimeout => Sys2Proof.Machine.execFwStartTimeout s
  | .fwFloorRaise => Sys2Proof.Machine.execFwFloorRaise s
  | .nonceExpiry => Sys2Proof.Machine.execNonceExpiry s
  | .sanitizeComplete => Sys2Proof.Machine.execSanitizeComplete s
  | .identify c => Sys2Proof.Machine.execIdentify c s
  | .backgroundOperationStatus c => Sys2Proof.Machine.execBackgroundOperationStatus c s
  | .getEventRecords c log => Sys2Proof.Machine.execGetEventRecords c log s
  | .clearEventRecords c log all handles => Sys2Proof.Machine.execClearEventRecords c log all handles s
  | .getEventInterruptPolicy c => Sys2Proof.Machine.execGetEventInterruptPolicy c s
  | .setEventInterruptPolicy c policy => Sys2Proof.Machine.execSetEventInterruptPolicy c policy s
  | .getFwInfo c => Sys2Proof.Machine.execGetFwInfo c s
  | .transferFwFull c slot data => Sys2Proof.Machine.execTransferFwFull c slot data s
  | .transferFwInitiate c slot off data => Sys2Proof.Machine.execTransferFwInitiate c slot off data s
  | .transferFwContinue c off data => Sys2Proof.Machine.execTransferFwContinue c off data s
  | .transferFwEnd c off data => Sys2Proof.Machine.execTransferFwEnd c off data s
  | .transferFwAbort c => Sys2Proof.Machine.execTransferFwAbort c s
  | .activateFwOnline c slot => Sys2Proof.Machine.execActivateFwOnline c slot s
  | .activateFwNextReset c slot => Sys2Proof.Machine.execActivateFwNextReset c slot s
  | .getTimestamp c => Sys2Proof.Machine.execGetTimestamp c s
  | .setTimestamp c time => Sys2Proof.Machine.execSetTimestamp c time s
  | .getSupportedLogs c => Sys2Proof.Machine.execGetSupportedLogs c s
  | .getLog c uuid off n => Sys2Proof.Machine.execGetLog c uuid off n s
  | .identifyMemoryDevice c => Sys2Proof.Machine.execIdentifyMemoryDevice c s
  | .getPartitionInfo c => Sys2Proof.Machine.execGetPartitionInfo c s
  | .setPartitionInfo c => Sys2Proof.Machine.execSetPartitionInfo c s
  | .getLsa c off n => Sys2Proof.Machine.execGetLsa c off n s
  | .setLsa c off data => Sys2Proof.Machine.execSetLsa c off data s
  | .getHealthInfo c => Sys2Proof.Machine.execGetHealthInfo c s
  | .getAlertConfiguration c => Sys2Proof.Machine.execGetAlertConfiguration c s
  | .setAlertConfiguration c valid enable life high low volErr persErr => Sys2Proof.Machine.execSetAlertConfiguration c valid enable life high low volErr persErr s
  | .getShutdownState c => Sys2Proof.Machine.execGetShutdownState c s
  | .setShutdownState c state => Sys2Proof.Machine.execSetShutdownState c state s
  | .getPoisonList c start n => Sys2Proof.Machine.execGetPoisonList c start n s
  | .injectPoison c dpa => Sys2Proof.Machine.execInjectPoison c dpa s
  | .clearPoison c dpa data => Sys2Proof.Machine.execClearPoison c dpa data s
  | .scanMedia c which => Sys2Proof.Machine.execScanMedia c which s
  | .sanitize c => Sys2Proof.Machine.execSanitize c s
  | .secureErase c => Sys2Proof.Machine.execSecureErase c s
  | .unsupportedCommand c opcode => Sys2Proof.Machine.execUnsupportedCommand c opcode s
  | .getMultiHeadedInfo c start limit => Sys2Proof.Machine.execGetMultiHeadedInfo c start limit s
  | .getEndpointId => Sys2Proof.Machine.execGetEndpointId s
  | .getMctpVersionSupport => Sys2Proof.Machine.execGetMctpVersionSupport s
  | .cdatTableAccess head entry => Sys2Proof.Machine.execCdatTableAccess head entry s
  | .doeDiscovery head index => Sys2Proof.Machine.execDoeDiscovery head index s
  | .getMeasurements iface index => Sys2Proof.Machine.execGetMeasurements iface index s
  | .setCertificate iface slot chain => Sys2Proof.Machine.execSetCertificate iface slot chain s
  | .keyExchange iface => Sys2Proof.Machine.execKeyExchange iface s
  | .keyProg head io set dir key => Sys2Proof.Machine.execKeyProg head io set dir key s
  | .kSetGo head io set => Sys2Proof.Machine.execKSetGo head io set s
  | .kSetStop head io set => Sys2Proof.Machine.execKSetStop head io set s
  | .gpfPhase1 head => Sys2Proof.Machine.execGpfPhase1 head s
  | .gpfPhase2 head => Sys2Proof.Machine.execGpfPhase2 head s
  | .stateDigestCapture c qgFirst qgCount => Sys2Proof.Machine.execStateDigestCapture c qgFirst qgCount s
  | .stateDigestPageRead c id page => Sys2Proof.Machine.execStateDigestPageRead c id page s
  | .deviceStatus c => Sys2Proof.Machine.execDeviceStatus c s
  | .unitSetStateOnline c unit gen => Sys2Proof.Machine.execUnitSetStateOnline c unit gen s
  | .unitSetStateDraining c unit gen => Sys2Proof.Machine.execUnitSetStateDraining c unit gen s
  | .unitSetStateQuiesced c unit gen => Sys2Proof.Machine.execUnitSetStateQuiesced c unit gen s
  | .unitSetStateOff c unit gen => Sys2Proof.Machine.execUnitSetStateOff c unit gen s
  | .unitSetStateReset c unit gen => Sys2Proof.Machine.execUnitSetStateReset c unit gen s
  | .unitSetStateRepair c unit gen => Sys2Proof.Machine.execUnitSetStateRepair c unit gen s
  | .unitSetStateRetire c unit gen => Sys2Proof.Machine.execUnitSetStateRetire c unit gen s
  | .unitGetState c first count => Sys2Proof.Machine.execUnitGetState c first count s
  | .imageStageChunk c off data => Sys2Proof.Machine.execImageStageChunk c off data s
  | .imageStageLast c off data => Sys2Proof.Machine.execImageStageLast c off data s
  | .imageValidationDone => Sys2Proof.Machine.execImageValidationDone s
  | .imageActivate c slot dryRun commitSvn seq => Sys2Proof.Machine.execImageActivate c slot dryRun commitSvn seq s
  | .imageQuery c => Sys2Proof.Machine.execImageQuery c s
  | .keyLoadDataKey c slot gen reserved blob => Sys2Proof.Machine.execKeyLoadDataKey c slot gen reserved blob s
  | .keyLoadOwnerSecret c slot gen secret => Sys2Proof.Machine.execKeyLoadOwnerSecret c slot gen secret s
  | .keyRetire c slot gen => Sys2Proof.Machine.execKeyRetire c slot gen s
  | .reheatStart c region k gen j base limit blob => Sys2Proof.Machine.execReheatStart c region k gen j base limit blob s
  | .reheatPause c sweep => Sys2Proof.Machine.execReheatPause c sweep s
  | .reheatResume c sweep => Sys2Proof.Machine.execReheatResume c sweep s
  | .reheatStatus c => Sys2Proof.Machine.execReheatStatus c s
  | .regionCommitCommit c region expected => Sys2Proof.Machine.execRegionCommitCommit c region expected s
  | .regionCommitDiscard c region expected => Sys2Proof.Machine.execRegionCommitDiscard c region expected s
  | .queueParam c queue ki maxKib timeoutUs => Sys2Proof.Machine.execQueueParam c queue ki maxKib timeoutUs s
  | .queueResetQueue c queue gen => Sys2Proof.Machine.execQueueResetQueue c queue gen s
  | .queueResetGroup c group gen => Sys2Proof.Machine.execQueueResetGroup c group gen s
  | .tallySnapshotNow c set => Sys2Proof.Machine.execTallySnapshotNow c set s
  | .tallySnapshotAt c set b => Sys2Proof.Machine.execTallySnapshotAt c set b s
  | .resetUnit c unit gen => Sys2Proof.Machine.execResetUnit c unit gen s
  | .resetCore c => Sys2Proof.Machine.execResetCore c s
  | .resetSystem c => Sys2Proof.Machine.execResetSystem c s
  | .quench c ending => Sys2Proof.Machine.execQuench c ending s
  | .debugUnlockChallenge c => Sys2Proof.Machine.execDebugUnlockChallenge c s
  | .debugUnlockResponse c slot pubkey sig => Sys2Proof.Machine.execDebugUnlockResponse c slot pubkey sig s
  | .mediaHealth c scope pkg die first count => Sys2Proof.Machine.execMediaHealth c scope pkg die first count s
  | .packageReplace c pkg evacuate gen => Sys2Proof.Machine.execPackageReplace c pkg evacuate gen s
  | .orchardRegraft c level index force => Sys2Proof.Machine.execOrchardRegraft c level index force s
  | .extest data => Sys2Proof.Machine.execExtest data s
  | .idcode => Sys2Proof.Machine.execIdcode s
  | .samplePreload data => Sys2Proof.Machine.execSamplePreload data s
  | .clamp data => Sys2Proof.Machine.execClamp data s
  | .highz data => Sys2Proof.Machine.execHighz data s
  | .dbgChal => Sys2Proof.Machine.execDbgChal s
  | .dbgResp request => Sys2Proof.Machine.execDbgResp request s
  | .dbgAccess a => Sys2Proof.Machine.execDbgAccess a s
  | .bypass data => Sys2Proof.Machine.execBypass data s
  | .cryLockdownWrite => Sys2Proof.Machine.execCryLockdownWrite s
  | .mpgLatchWrite mask => Sys2Proof.Machine.execMpgLatchWrite mask s
  | .sqLeaveWrite => Sys2Proof.Machine.execSqLeaveWrite s
  | .dbgMaRead => Sys2Proof.Machine.execDbgMaRead s
  | .dbgMaWrite => Sys2Proof.Machine.execDbgMaWrite s
  | .hdmDecoderCommit head n hpaBase hpaSize ways gran skip target lock => Sys2Proof.Machine.execHdmDecoderCommit head n hpaBase hpaSize ways gran skip target lock s
  | .registerWrite head addr size data => Sys2Proof.Machine.execRegisterWrite head addr size data s
  | .blockLockAcquired link => Sys2Proof.Machine.execBlockLockAcquired link s
  | .pwrGood package => Sys2Proof.Machine.execPwrGood package s
  | .vaux3Good mv => Sys2Proof.Machine.execVaux3Good mv s
  | .pllRelocked pll => Sys2Proof.Machine.execPllRelocked pll s
  | .configSpaceReady head => Sys2Proof.Machine.execConfigSpaceReady head s
  | .memoryActive => Sys2Proof.Machine.execMemoryActive s
  | .regraftComplete => Sys2Proof.Machine.execRegraftComplete s
  | .coreResetDrainEnd => Sys2Proof.Machine.execCoreResetDrainEnd s
  | .resetTakesEffect => Sys2Proof.Machine.execResetTakesEffect s

end Sys2Proof.Machine
end

