-- ==== Sys2Proof/Machine/Tick.lean ====
section
/-!
DEFINITION. One nanosecond of timebase (R397): what the block does while no command waits. The timebase advances, the
stamp ceiling is kept ahead of it (R258), and the occupancy ledger of each slice in service is counted (R424).
-/
namespace Sys2Proof.Machine

/-- The ledger class of a tracking-table entry that is in use (R424), tests in the order listed. A LOOKUP entry awaits the
DRAM tier until that has answered, then media while its media read runs or its page of the map is read; a grain that has
come waits for the orchard chain, or for the crypto engine. -/
def Dev.ledgerClass (d : Dev) (k e : Nat) (t : TtEntry) : Nat :=
  match t.state with
  | .ordered => 0x014
  | .lookup =>
    let mine := fun (s : Nat) => d.med.reads.filter (fun r => r.2.slice = s && r.2.entry = e && r.2.epoch = t.epoch)
    if t.dramOut then 0x016
    else if (mine k).any (fun r => !r.2.ready) then 0x015
    else if t.mapOut then 0x017
    else if (mine (fetchSlice k)).isEmpty then 0x018 else 0x019
  | .write => 0x016
  | .engine =>
    (match t.req.kind with
     | .tally => 0x01B
     | .counterRead => 0x01B
     | .counterWrite => 0x01B
     | _ => 0x01A)
  | _ => if !t.acked || t.through then 0x01C else 0x013

/-- The SCLK cycles (1.6 GHz) that end in the nanosecond after `tb`. -/
def sclkCycles (tb : Nat) : Nat := 8 * (tb + 1) / 5 - 8 * tb / 5

/-- Count the ledger of one slice over `n` cycles (R421, R424). -/
def Dev.ledger (d : Dev) (k n : Nat) : Dev :=
  let used := ((d.slice k).tt.filter (fun e => decide (e.1 < 8192))).map (fun e => d.ledgerClass k e.1 e.2)
  let waits := !(d.slice k).ingress.isEmpty ||
    ((d.slice (k ^^^ 1)).adoptedAway && !(d.slice (k ^^^ 1)).ingress.isEmpty)
  let free := 8192 - used.length
  let d := (d.perf 0x001 k 3 n).perf 0x010 k 3 (8192 * n)
  let d := d.each ((List.range 10).map (· + 0x013)) (fun d c =>
    let m := used.countP (· = c)
    if m = 0 then d else d.perf c k 3 (m * n))
  if free = 0 then d else d.perf (if waits then 0x012 else 0x011) k 3 (free * n)

/-- The QCLK cycles (1.4 GHz) that end in the nanosecond after `tb`. -/
def qclkCycles (tb : Nat) : Nat := 7 * (tb + 1) / 5 - 7 * tb / 5

/-- The merge stands still while a slice is in recovery (R237): each cycle in which an item of a set waits behind it is a
stall cycle of the set (which cycles code 0x071 counts is the model's reading: DESIGN CHOICE, log 97). -/
def Dev.mergeStalls (d : Dev) (n : Nat) : Dev :=
  if d.tal.items.isEmpty || !(List.range 16).any (fun k => (d.unit (sliceIx k)).recovery) then d
  else
    let sets := (d.tal.items.filterMap (fun i => (d.region i.req.region).map (·.setId))).foldl setInsert []
    d.each sets (fun d s => d.perf 0x071 s 3 n)

/-- The ledger of every slice in service. -/
def Dev.ledgers (d : Dev) (n : Nat) : Dev :=
  if (d.runGroups d.now).isEmpty then d
  else d.each (List.range 16) (fun d k => if d.serves (sliceIx k) then d.ledger k n else d)

/-- What the passing of time alone lets go: requests that wait for a slice, programs that wait for a window of a rate,
through sheets that wait for a pair, and partitions that wait for space (R41). In no-tier mode the journal is written to its
bands at once (R370). -/
def Dev.letGo (d : Dev) : Dev :=
  let d := if d.boot.tierWait.isNone then d else d.settleTier
  let d := if d.slices.all (fun e => e.2.ingress.isEmpty) then d else d.each (List.range 16) Dev.pumpShare
  let d := if d.med.reads.any (fun e => isMeta e.2.lpn && e.2.ready) then d.metaReads else d
  let d := if d.runs then d.each d.orcDue (fun d k => d.orcWrite 12 k) else d
  let d := if d.flag .PWR_STEP_NOTIER && d.runs && d.canGather && decide (d.jrn.mirrored < d.jrn.next) then d.flushJournal else d
  let d := d.issueSheets
  if d.med.progs.isEmpty then d else d.startProgs

/-- One nanosecond passes. A ceiling record is written before the timebase reaches the newest ceiling (R258). -/
def State.tick (s : State) : State :=
  if s.dev.aon then
    { s with tb := s.tb + 1
             ceiling := if s.ceiling ≤ s.tb + 1 then s.tb + 1 + 30000000000 else s.ceiling
             dev := { { (s.stamped.ledgers (sclkCycles s.tb)).mergeStalls (qclkCycles s.tb) with now := s.tb + 1 }.letGo with now := s.tb } }
  else s

end Sys2Proof.Machine
end

