-- ==== Sys2Proof/Safety.lean ====
section
/-!
DEFINITION. What a safe run is, and how statements say what a command leaves unchanged: the parts of the device's state
by name, and the register fields.
-/
namespace Sys2Proof.Machine

/-- A step answers a next state. -/
def Answers (s : State) : Prop := ∃ t, step s = .next t

/-- The timebase lies below the newest stamp ceiling, so that no stamp is ever given twice (R258, R397). -/
def State.BelowCeiling (s : State) : Prop := s.tb < s.ceiling

/-- The parts of the device's state, one for each field of `Dev` but the stamps of what is in hand. -/
inductive Part where
  | aon | regs | cfg | oldCfgs | boot | mgt | ust | evt | pmc | pwr | rst | clk | thm | pin | jrn | heads | slices | tier | poison
  | med | shadow | qen | tal | per | qch | cry | rid | dirtyShutdowns | out | freeCtr
  deriving DecidableEq, Repr

/-- Two devices agree in a part. -/
def Dev.same (d e : Dev) (p : Part) : Prop :=
  match p with
  | .aon => e.aon = d.aon
  | .regs => e.regs = d.regs
  | .cfg => e.cfg = d.cfg
  | .oldCfgs => e.oldCfgs = d.oldCfgs
  | .boot => e.boot = d.boot
  | .mgt => e.mgt = d.mgt
  | .ust => e.ust = d.ust
  | .evt => e.evt = d.evt
  | .pmc => e.pmc = d.pmc
  | .pwr => e.pwr = d.pwr
  | .rst => e.rst = d.rst
  | .clk => e.clk = d.clk
  | .thm => e.thm = d.thm
  | .pin => e.pin = d.pin
  | .jrn => e.jrn = d.jrn
  | .heads => e.heads = d.heads
  | .slices => e.slices = d.slices
  | .tier => e.tier = d.tier
  | .poison => e.poison = d.poison
  | .med => e.med = d.med
  | .shadow => e.shadow = d.shadow
  | .qen => e.qen = d.qen
  | .tal => e.tal = d.tal
  | .per => e.per = d.per
  | .qch => e.qch = d.qch
  | .cry => e.cry = d.cry
  | .rid => e.rid = d.rid
  | .dirtyShutdowns => e.dirtyShutdowns = d.dirtyShutdowns
  | .out => e.out = d.out
  | .freeCtr => e.freeCtr = d.freeCtr

/-- Every part but those of the list is unchanged. -/
def Dev.ChangesOnly (d e : Dev) (ps : List Part) : Prop := ∀ p, p ∉ ps → d.same e p

/-- Every register field but those of the list reads as before. -/
def Dev.FieldsOnly (d e : Dev) (fs : List Fld) : Prop := ∀ f i, f ∉ fs → e.reg f i = d.reg f i

/-- The register fields that an event occurrence writes (R412, R413, R415). -/
def evtFields : List Fld := [.EVT_CFGn_COUNT, .EVT_STATUSw_STATUS, .EVT_DROP_RATE, .EVT_DROP_MCTP]

/-- What was put out stays, and the output is among what came after it. -/
def Dev.Puts (d e : Dev) (o : Output) : Prop := ∃ l, e.out = l ++ d.out ∧ o ∈ l

/-- A saturating count went up by `n` (R8: a count saturates). -/
def Dev.Counted (d e : Dev) (f : Fld) (i n : Nat) : Prop := e.reg f i = satAdd f.info.width (d.reg f i) n

/-- A quench has begun at a stamp under a trigger, with the ending that the trigger names (R263, R265). -/
def Dev.QuenchBegun (d : Dev) (code ending stamp : Nat) : Prop :=
  d.reg .JRN_STATUS_QSTATE = 1 ∧ d.reg .JRN_STATUS_TRIGGER = code ∧ d.reg .JRN_QLAST_T_Q = stamp % 2 ^ 64 ∧
  d.qch.trigger = code ∧ d.qch.ending = ending ∧ d.qch.tq = stamp

/-- The device runs and no quench and no core reset does (R265, R384). -/
def State.Running (s : State) : Prop :=
  s.dev.aon = true ∧ s.dev.memActive = true ∧ s.dev.reg .JRN_STATUS_QSTATE = 0 ∧ s.dev.rst.core = .none

/-- A management command reaches its own checks: the interface is up and no check common to every command refuses it
(R429, R430). -/
def State.Admits (s : State) (c : CmdHdr) (need : Nat) (k : CmdKind) : Prop :=
  s.dev.aon = true ∧ s.stamped.ifaceUp c = true ∧ s.stamped.gate c need k = none

/-- No band of the media waits to be moved: none is rebuilt, drained or of an old geometry, and no package waits for its
rebuild. -/
def Dev.MediaCalm (d : Dev) : Prop :=
  (∀ e ∈ d.med.bands, e.2.rebuild = false ∧ e.2.state ≠ .victim ∧ e.2.set < oldSet) ∧
  (∀ p, p < 64 → (d.pkg p).rebuilt = true)

/-- The lehr may schedule the clear of a block of a die (R167, R193). -/
def Dev.MayClear (d : Dev) (die : Nat) : Prop :=
  d.runs = true ∧ d.ring.contains die = true ∧ d.serves (packageIx (diePkg die)) = true ∧ d.dieReachable die = true ∧
  (∀ i, i < 10 → (d.setDies ((d.ring.idxOf die + d.ring.length - i) % max d.ring.length 1)).countP (fun m => !d.dieHolds m) < 2) ∧
  (d.pkg (diePkg die)).denseClosed = false ∧
  d.med.blocks.countP (fun e => e.1 / 1024 = die && (e.2.state = .ready || e.2.state = .clearing)) < 8

/-- Nothing waits at a slice or its buddy: no entry is ORDERED, no record waits to be replayed, and both ingress queues are
empty. -/
def Dev.SliceQuiet (d : Dev) (k : Nat) : Prop :=
  (∀ x ∈ (d.slice k).tt, x.2.state ≠ .ordered) ∧ (d.slice k).replayQ = [] ∧ (d.slice k).ingress = [] ∧
  (d.slice (k ^^^ 1)).ingress = []

/-- Where an accepted request of a head lands: the region, the offset with alias bits removed and the key index (R46, R51,
R77). Exactly one decoder claims the address. -/
def Dev.Lands (d : Dev) (h hpa : Nat) (g : RegionRec) (off ki : Nat) : Prop :=
  d.canAccept h = true ∧ d.region g.number = some g ∧
  ∃ n, (List.range 8).filter (fun n => (d.decoder h n).hits hpa) = [n] ∧
    d.locate ((d.decoderBase h n + (d.decoder h n).dpaOff hpa) / 64 * 64) (2 ^ h) = some (g, off, ki)

/-- The slice that carries a share can take a request for a line into entry `e` of slice `k`: `waits` is all that waits for
the share and its buddy's, nothing is replayed, no request of the region waits elsewhere, nothing of the same line is in
flight, and no change of the image or of keys and no sweep is under way. -/
def Dev.Takes (d : Dev) (share k e : Nat) (g : RegionRec) (off : Nat) (waits : List Req := []) : Prop :=
  d.carrier share = some k ∧ d.serves (sliceIx k) = true ∧ (d.slice share).ingress = waits ∧
  (d.slice (share ^^^ 1)).ingress = [] ∧ (d.slice k).replayQ = [] ∧ freeKey (d.slice k).tt 8192 = some e ∧
  (∀ x ∈ (d.slice k).tt, x.2.req.dpa ≠ g.base + off ∨ x.2.req.region ≠ g.number) ∧
  (∀ x ∈ d.slices, x.1 ≠ share → ∀ c ∈ x.2.ingress, c.region ≠ g.number) ∧ d.oldCfgs = [] ∧ d.cry.past = [] ∧ d.cry.sweeps = []

/-- A request of H0 that its slice takes at once: it lands, its region and queue group do not refuse it, and the slice has
room. A request of H1 waits for its stamp to pass (R103). -/
def Dev.TakesAt (d : Dev) (h hpa : Nat) (rd : Bool) (g : RegionRec) (off ki k e : Nat) : Prop :=
  h = 0 ∧ d.Lands h hpa g off ki ∧ d.offline g (d.window g off) rd = false ∧ d.Takes (d.ownerOf g (d.window g off) off) k e g off

/-- A queue number lies in the queue set that a region names (R56). -/
def Dev.InSet (d : Dev) (g : RegionRec) (q : Nat) : Prop :=
  ∃ c, d.queueSet g.setId = some c ∧ c.groupFirst * 512 ≤ q ∧ q < (c.groupFirst + c.groupCount) * 512

/-- The line cache, the victim hold or the run-ahead buffer of a slice has a line. -/
def Dev.atHand (d : Dev) (k : Nat) (g : RegionRec) (off ki : Nat) : Bool :=
  (d.cached k g && ((d.slice k).lookup g.number (g.base + off) ki).isSome) ||
  (!d.flag .SLC_STATUS_BYPASS k && ((d.slice k).held g.number (g.base + off) ki).isSome) ||
  (d.slice k).ahead g.number (g.base + off) ki

/-- Two devices hold the same lines, stored poison included, but for line `sub` of page `pid`. -/
def Dev.LinesBut (d e : Dev) (pid sub : Nat) : Prop :=
  ∀ p n, n < 64 → (p ≠ pid ∨ n ≠ sub) → e.cellAt p n = d.cellAt p n ∧ e.poisoned p n = d.poisoned p n

/-- A command that hands a write to a head: MemWr with every byte enabled, or MemWrPtl. -/
def Writes (i : Instr) (w : HostWr) : Prop :=
  (i = .memWr w.head w.tag w.hpa w.data w.poison ∧ w.be = BitVec.allOnes 64) ∨ i = .memWrPtl w

/-- What a head puts out for a read's value: the data, or poison. -/
def RdVal.line? (v : RdVal) : Option Line := match v with | .data l => some l | _ => none

/-- The device with an instruction in the JTAG port's instruction register (R443). -/
abbrev State.jtagged (s : State) (ir : Nat) : Dev := { s.stamped with mgt := { s.dev.mgt with jtagIr := ir } }

/-- The UNIT SET STATE command of an operation (R320). -/
def unitCmd (op : UnitOp) (c : CmdHdr) (unit gen : Nat) : Instr :=
  match op with
  | .online => .unitSetStateOnline c unit gen
  | .draining => .unitSetStateDraining c unit gen
  | .quiesced => .unitSetStateQuiesced c unit gen
  | .off => .unitSetStateOff c unit gen
  | .reset => .unitSetStateReset c unit gen
  | .repair => .unitSetStateRepair c unit gen
  | .retire => .unitSetStateRetire c unit gen

/-- Every check of R321 passes for an operation on the unit with identifier `uid` and index `ix`. -/
def Dev.UnitAllows (d : Dev) (op : UnitOp) (uid gen ix : Nat) : Prop :=
  indexOfId uid = some ix ∧ (allowedOps (unitClass ix)).contains op = true ∧ gen = (d.unit ix).gen ∧
  d.reg .JRN_STATUS_QSTATE = 0 ∧ (d.unit ix).running = false ∧ d.ustate ix ∈ rowsFrom (unitClass ix) op ∧
  d.regionBarred ix op = false ∧ d.noteHolds ix op = true

/-- A management command: how it arrived, its opcode, the request bytes it needs, and which states admit it (R429 to R435).
RESET at system level is admitted as here but for the halt of R372. -/
def managementCmd (i : Instr) : Option (CmdHdr × Nat × Nat × CmdKind) :=
  match i with
  | .identify c => some (c, 0x0001, 0, .read)
  | .backgroundOperationStatus c => some (c, 0x0002, 0, .read)
  | .getEventRecords c _ => some (c, 0x0100, 1, .read)
  | .clearEventRecords c _ _ handles => some (c, 0x0101, (6 + 2 * handles.length), .change)
  | .getEventInterruptPolicy c => some (c, 0x0102, 0, .read)
  | .setEventInterruptPolicy c _ => some (c, 0x0103, 4, .change)
  | .getFwInfo c => some (c, 0x0200, 0, .read)
  | .transferFwFull c _ data => some (c, 0x0201, (128 + data.length), .change)
  | .transferFwInitiate c _ _ data => some (c, 0x0201, (128 + data.length), .change)
  | .transferFwContinue c _ data => some (c, 0x0201, (128 + data.length), .change)
  | .transferFwEnd c _ data => some (c, 0x0201, (128 + data.length), .change)
  | .transferFwAbort c => some (c, 0x0201, 128, .change)
  | .activateFwOnline c _ => some (c, 0x0202, 2, .change)
  | .activateFwNextReset c _ => some (c, 0x0202, 2, .change)
  | .getTimestamp c => some (c, 0x0300, 0, .read)
  | .setTimestamp c _ => some (c, 0x0301, 8, .change)
  | .getSupportedLogs c => some (c, 0x0400, 0, .read)
  | .getLog c _ _ _ => some (c, 0x0401, 24, .read)
  | .identifyMemoryDevice c => some (c, 0x4000, 0, .read)
  | .getPartitionInfo c => some (c, 0x4100, 0, .read)
  | .setPartitionInfo c => some (c, 0x4101, 0, .read)
  | .getLsa c _ _ => some (c, 0x4102, 8, .read)
  | .setLsa c _ data => some (c, 0x4103, (8 + data.length), .change)
  | .getHealthInfo c => some (c, 0x4200, 0, .read)
  | .getAlertConfiguration c => some (c, 0x4201, 0, .read)
  | .setAlertConfiguration c _ _ _ _ _ _ _ => some (c, 0x4202, 12, .change)
  | .getShutdownState c => some (c, 0x4203, 0, .read)
  | .setShutdownState c _ => some (c, 0x4204, 1, .change)
  | .getPoisonList c _ _ => some (c, 0x4300, 16, .read)
  | .injectPoison c _ => some (c, 0x4301, 8, .change)
  | .clearPoison c _ _ => some (c, 0x4302, 72, .change)
  | .scanMedia c which => some (c, (0x4303 + which % 3), 0, .read)
  | .sanitize c => some (c, 0x4400, 0, .change)
  | .secureErase c => some (c, 0x4401, 0, .change)
  | .unsupportedCommand c opcode => some (c, opcode, 0, .read)
  | .getMultiHeadedInfo c _ _ => some (c, 0x5500, 2, .read)
  | .stateDigestCapture c _ _ => some (c, 0xC001, 16, .read)
  | .stateDigestPageRead c _ _ => some (c, 0xC001, 16, .read)
  | .deviceStatus c => some (c, 0xC002, 0, .minimal)
  | .unitSetStateOnline c _ _ => some (c, 0xC010, 8, .own)
  | .unitSetStateDraining c _ _ => some (c, 0xC010, 8, .own)
  | .unitSetStateQuiesced c _ _ => some (c, 0xC010, 8, .own)
  | .unitSetStateOff c _ _ => some (c, 0xC010, 8, .own)
  | .unitSetStateReset c _ _ => some (c, 0xC010, 8, .own)
  | .unitSetStateRepair c _ _ => some (c, 0xC010, 8, .own)
  | .unitSetStateRetire c _ _ => some (c, 0xC010, 8, .own)
  | .unitGetState c _ _ => some (c, 0xC011, 4, .read)
  | .imageStageChunk c _ data => some (c, 0xC020, (8 + data.length), .change)
  | .imageStageLast c _ data => some (c, 0xC020, (8 + data.length), .change)
  | .imageActivate c _ _ _ _ => some (c, 0xC021, 8, .change)
  | .imageQuery c => some (c, 0xC022, 0, .read)
  | .keyLoadDataKey c _ _ _ _ => some (c, 0xC030, 48, .change)
  | .keyLoadOwnerSecret c _ _ _ => some (c, 0xC030, 40, .change)
  | .keyRetire c _ _ => some (c, 0xC031, 4, .change)
  | .reheatStart c _ _ _ _ _ _ _ => some (c, 0xC032, 72, .change)
  | .reheatPause c _ => some (c, 0xC032, 72, .change)
  | .reheatResume c _ => some (c, 0xC032, 72, .change)
  | .reheatStatus c => some (c, 0xC033, 0, .read)
  | .regionCommitCommit c _ _ => some (c, 0xC040, 16, .change)
  | .regionCommitDiscard c _ _ => some (c, 0xC040, 16, .change)
  | .queueParam c _ _ _ _ => some (c, 0xC050, 16, .change)
  | .queueResetQueue c _ _ => some (c, 0xC051, 8, .own)
  | .queueResetGroup c _ _ => some (c, 0xC051, 8, .own)
  | .tallySnapshotNow c _ => some (c, 0xC060, 16, .change)
  | .tallySnapshotAt c _ _ => some (c, 0xC060, 16, .change)
  | .resetUnit c _ _ => some (c, 0xC070, 8, .own)
  | .resetCore c => some (c, 0xC070, 8, .change)
  | .resetSystem c => some (c, 0xC070, 8, .change)
  | .quench c _ => some (c, 0xC080, 8, .change)
  | .debugUnlockChallenge c => some (c, 0xC0A0, 4, .change)
  | .debugUnlockResponse c _ _ _ => some (c, 0xC0A0, 196, .change)
  | .mediaHealth c _ _ _ _ _ => some (c, 0xC0B0, 8, .read)
  | .packageReplace c _ _ _ => some (c, 0xC0C0, 4, .own)
  | .orchardRegraft c _ _ _ => some (c, 0xC0D0, 16, .change)
  | _ => none

end Sys2Proof.Machine
end

