-- ==== Sys2Proof/Certificates/Slice0/Obligations.lean ====
section
/-!
DEFINITION. The statements for the provers: one definition each, in the order of OBLIGATIONS.json. "With V_AON up" is the
hypothesis `s.dev.aon = true`; conditions on the device are judged on `s.stamped`, the device with the timebase as its stamp.
-/
open Sys2Proof Sys2Proof.Machine

/-- O1. For every command c and every state s, step of s with c at the front of its queue is exec of c on s with the rest of the
queue. With an empty queue and V_AON up a step answers a next state whose timebase is one higher and lies below the stamp
ceiling; the queue stays empty. Without V_AON a step on an empty queue answers the same state. The queue of commands and the
idle step of one nanosecond are the model's own choices (log entries 2 and 3). -/
def Obligations.StepRunsFrontCommand : Prop :=
  (∀ (c : Instr) (rest : List Instr) (s : State),
    step { s with pending := c :: rest } = exec c { s with pending := rest }) ∧
  (∀ s : State, s.pending = [] → s.dev.aon = true → ∃ t, step s = .next t ∧ t.tb = s.tb + 1 ∧ t.tb < t.ceiling ∧ t.pending = []) ∧
  (∀ s : State, s.pending = [] → s.dev.aon = false → step s = .next s)

/-- O2. For every command c and every state s there is a state t with exec c s = next t, and t has the queue of s. No command
faults and none is refused. -/
def Obligations.EveryCommandAnswersNextState : Prop :=
  ∀ (c : Instr) (s : State), ∃ t, exec c s = .next t ∧ t.pending = s.pending

/-- O3. For every state whose timebase lies below its stamp ceiling: if step answers a next state, that state's timebase lies
below its ceiling too, is not below the earlier timebase, and its ceiling is not below the earlier ceiling. So no stamp is
given twice, through power-on too. -/
def Obligations.BelowCeilingKeptByEveryStep : Prop :=
  ∀ s t : State, s.BelowCeiling → step s = .next t → t.BelowCeiling ∧ s.tb ≤ t.tb ∧ s.ceiling ≤ t.ceiling

/-- O4. State.reset meets the invariant that every step keeps. The reset timebase of 1 s and the ceiling of 31 s are the model's
choice (log entry 1). -/
def Obligations.ResetIsBelowCeiling : Prop :=
  State.reset.BelowCeiling

/-- O5. While V_AON is down, every command other than POWER_ON answers the state unchanged. -/
def Obligations.NothingHappensWithoutStandbySupply : Prop :=
  ∀ (c : Instr) (s : State), s.dev.aon = false → (∀ b h r, c ≠ .powerOn b h r) → exec c s = .next s

/-- O6. With V_AON down, POWER_ON answers the state in which the timebase is the newest stamp ceiling rounded up to a multiple
of 10^9 ns and increased by 10^9 ns, and the ceiling lies 30 s above it; the sequencer stands at step 1, RST_CAUSE.POR is
set with level 0 and source 0, the straps are sampled, no image is in force, and the fused version floor is kept. -/
def Obligations.PowerOnLoadsTimebaseFromCeiling : Prop :=
  ∀ (b : Nat) (h r : Bool) (s : State), s.dev.aon = false → ∃ t, exec (.powerOn b h r) s = .next t ∧
    t.tb = (s.ceiling + 999999999) / 1000000000 * 1000000000 + 1000000000 ∧ t.ceiling = t.tb + 30000000000 ∧
    t.dev.aon = true ∧ t.dev.reg .PWR_STEP_STEP = 1 ∧ t.dev.reg .RST_CAUSE_POR = 1 ∧
    t.dev.pin.bootSel = b % 4 ∧ t.dev.pin.headMode = h ∧ t.dev.pin.sqRole = r ∧ t.dev.cfg = none ∧
    t.dev.boot.svnFloor = s.dev.boot.svnFloor

/-- O7. With V_AON up: CLOCK_SOURCE_READY and CLOCK_SOURCE_LOST make the source read ready or not in CLK_SRC_READY, and a loss
puts every running PLL on that source (PLL_F, from step 4 on the others too) into holdover and, if it is FOSC, sets
WCLK_SOSC; PLL_LOCK_LOSS of a locked PLL starts its relock at the stamp; PLL_RELOCKED ends it and is counted;
PLL_SWITCH_DONE takes the PLL out of holdover; CLK_SRC_SEL_WRITE changes nothing but CLK_STATUS.LAST, to BUSY while a switch
runs and to REFUSED when a named source is not ready or REFCLK is named for a PLL other than PLL_A, and otherwise reads OK
and sets WCLK_SOSC; CLK_TB_LO_READ answers the low half of the timebase and latches the upper half. Frames: only clock
state, registers, events and output change. -/
def Obligations.ClockCommandsTakeEffect : Prop :=
  (∀ (s : State) (c : Nat), s.dev.aon = true → c ≤ 4 → ∃ d, exec (.clockSourceReady c) s = .next { s with dev := d } ∧
    d.srcReady c = true ∧ s.stamped.ChangesOnly d [.regs]) ∧
  (∀ (s : State) (c : Nat), s.dev.aon = true → c ≤ 4 → ∃ d, exec (.clockSourceLost c) s = .next { s with dev := d } ∧
    d.srcReady c = false ∧ (c = 0 → d.reg .CLK_SRC_SEL_WCLK_SOSC = 1) ∧
    (∀ p < 6, s.dev.pllOn p = true → s.dev.pllRef p = c → (p = 5 ∨ 4 ≤ s.dev.step) → p ∈ d.clk.holdover) ∧
    s.stamped.ChangesOnly d [.regs, .clk, .evt, .out]) ∧
  (∀ (s : State) (p : Nat), s.dev.aon = true → p < 6 → s.dev.pllOn p = true →
    (s.dev.reg .CLK_SRC_READY_LOCK).testBit p = true → s.dev.srcReady (s.dev.pllRef p) = true →
    ∃ d, exec (.pllLockLoss p) s = .next { s with dev := d } ∧ d.clk.relocking.find p = some s.tb ∧
      s.stamped.ChangesOnly d [.regs, .clk, .slices]) ∧
  (∀ (s : State) (p : Nat), s.dev.aon = true → s.dev.clk.relocking.has p = true →
    ∃ d, exec (.pllRelocked p) s = .next { s with dev := d } ∧ d.clk.relocking.find p = none ∧
      s.dev.Counted d .CLK_STATUS_RELOCKS 0 1 ∧ s.stamped.ChangesOnly d [.regs, .clk, .evt, .out]) ∧
  (∀ (s : State) (p : Nat), s.dev.aon = true → s.dev.clk.switching.contains p = true →
    ∃ d, exec (.pllSwitchDone p) s = .next { s with dev := d } ∧ p ∉ d.clk.switching ∧ p ∉ d.clk.holdover ∧
      s.stamped.ChangesOnly d [.regs, .clk]) ∧
  (∀ (s : State) (v : Nat), s.dev.aon = true → s.dev.flag .CLK_STATUS_SWITCHING = false →
    ((∀ p < 6, s.dev.srcReady (bits v (2 * p) 2) = true ∧ (bits v (2 * p) 2 = 3 → p = 0)) ∧
      s.dev.srcReady (if v.testBit 12 then 4 else 0) = true → ∃ d, exec (.clkSrcSelWrite v) s = .next { s with dev := d } ∧
        d.reg .CLK_STATUS_LAST = 0 ∧ d.reg .CLK_SRC_SEL_WCLK_SOSC = b2n (v.testBit 12) ∧
        s.stamped.ChangesOnly d [.regs, .clk]) ∧
    (((∃ p < 6, s.dev.srcReady (bits v (2 * p) 2) = false ∨ bits v (2 * p) 2 = 3 ∧ p ≠ 0) ∨
      s.dev.srcReady (if v.testBit 12 then 4 else 0) = false) → ∃ d, exec (.clkSrcSelWrite v) s = .next { s with dev := d } ∧
        d.reg .CLK_STATUS_LAST = 1 ∧ s.stamped.ChangesOnly d [.regs] ∧ s.dev.FieldsOnly d [.CLK_STATUS_LAST])) ∧
  (∀ (s : State) (v : Nat), s.dev.aon = true → s.dev.flag .CLK_STATUS_SWITCHING = true →
    ∃ d, exec (.clkSrcSelWrite v) s = .next { s with dev := d } ∧ d.reg .CLK_STATUS_LAST = 2 ∧
      s.stamped.ChangesOnly d [.regs] ∧ s.dev.FieldsOnly d [.CLK_STATUS_LAST]) ∧
  (∀ s : State, s.dev.aon = true → ∃ d, exec .clkTbLoRead s = .next { s with dev := d } ∧
    d.out = .regRead (s.tb % 2 ^ 32) :: s.dev.out ∧ d.reg .CLK_TB_HI_TB_HI = s.tb / 2 ^ 32 % 2 ^ 32 ∧
    s.stamped.ChangesOnly d [.regs, .out] ∧ s.dev.FieldsOnly d [.CLK_TB_HI_TB_HI])

/-- O8. With V_AON up: VAUX3_GOOD shows the voltage, VAUX good, and V_AON no longer carried from VIN12; VIN_GOOD away from step
15 shows the voltage and VIN good and stamps it, and from step 15 (not halted, the power-down not by trigger 4) starts the
sequencer again at step 2; POWER_LOSS takes V_AON down and changes nothing else but dose accounts; VAUX3_LOW without VIN
good takes V_AON down too. -/
def Obligations.SupplyCommandsTakeEffect : Prop :=
  (∀ (s : State) (mv : Nat), s.dev.aon = true → ∃ d, exec (.vaux3Good mv) s = .next { s with dev := d } ∧
    d.reg .PWR_SUPPLY_VAUX3_MV = mv % 2 ^ 16 ∧ d.reg .PWR_SUPPLY_VAUX_GOOD = 1 ∧ d.reg .PWR_SUPPLY_AON_FROM_VIN = 0 ∧
    s.stamped.ChangesOnly d [.regs] ∧
    s.dev.FieldsOnly d [.PWR_SUPPLY_VAUX3_MV, .PWR_SUPPLY_VAUX_GOOD, .PWR_SUPPLY_AON_FROM_VIN]) ∧
  (∀ (s : State) (mv : Nat), s.dev.aon = true → s.dev.step ≠ 15 → s.dev.rst.reload = false →
    ∃ d, exec (.vinGood mv) s = .next { s with dev := d } ∧ d.reg .PWR_SUPPLY_VIN12_MV = mv % 2 ^ 16 ∧
    d.reg .PWR_SUPPLY_VIN_GOOD = 1 ∧ d.pin.vinGoodAt = s.tb ∧ s.stamped.ChangesOnly d [.regs, .pin] ∧
    s.dev.FieldsOnly d [.PWR_SUPPLY_VIN12_MV, .PWR_SUPPLY_VIN_GOOD]) ∧
  (∀ (s : State) (mv : Nat), s.dev.aon = true → s.dev.step = 15 → s.dev.rst.reload = false →
    s.dev.flag .PWR_STEP_HALTED = false → s.dev.pwr.downByT4 = false →
    ∃ d, exec (.vinGood mv) s = .next { s with dev := d } ∧ d.step = 2 ∧ d.pwr.fullUp = true ∧ d.cfg = none) ∧
  (∀ s : State, s.dev.aon = true → ∃ d, exec .powerLoss s = .next { s with dev := d } ∧ d.aon = false ∧
    s.stamped.ChangesOnly d [.aon, .med]) ∧
  (∀ (s : State) (mv : Nat), s.dev.aon = true → s.dev.flag .PWR_SUPPLY_VIN_GOOD = false →
    ∃ d, exec (.vaux3Low mv) s = .next { s with dev := d } ∧ d.aon = false ∧ d.reg .PWR_SUPPLY_VAUX3_MV = mv % 2 ^ 16 ∧
      s.stamped.ChangesOnly d [.aon, .regs, .med])

/-- O9. In a running device (Memory Active, no quench, no core reset): PWRFAIL_N_LOW begins a quench with trigger 1 and the
ending by supply state, VIN12_LOW with 2 and the same, VAUX3_LOW with VIN good with 3 and power-down, RAIL_FAULT of a good
rail with 4 and power-down, FATAL_ERROR, a PLL that has not relocked for 100 us, RESET_N_ASSERT and a RESET at system level
that takes effect with 7 and system reset. Each leaves JRN_STATUS.QSTATE at FREEZE, the trigger code, T_q and the ending. -/
def Obligations.TriggersBeginTheQuench : Prop :=
  (∀ s : State, s.Running → ∃ d, exec .pwrfailNLow s = .next { s with dev := d } ∧ d.QuenchBegun 1 2 s.tb ∧
    d.pin.pwrfailN = false) ∧
  (∀ (s : State) (mv : Nat), s.Running → ∃ d, exec (.vin12Low mv) s = .next { s with dev := d } ∧ d.QuenchBegun 2 2 s.tb ∧
    d.reg .PWR_SUPPLY_VIN_GOOD = 0) ∧
  (∀ (s : State) (mv : Nat), s.Running → s.dev.flag .PWR_SUPPLY_VIN_GOOD = true →
    ∃ d, exec (.vaux3Low mv) s = .next { s with dev := d } ∧ d.QuenchBegun 3 0 s.tb ∧ d.aon = true ∧
      d.reg .PWR_SUPPLY_AON_FROM_VIN = 1) ∧
  (∀ (s : State) (r : Nat) (k : RailKind) (mv i : Nat), s.Running → r < 9 → s.dev.railState r = 2 →
    ∃ d, exec (.railFault r k mv i) s = .next { s with dev := d } ∧ d.QuenchBegun 4 0 s.tb ∧ d.railState r = 3 ∧
      (k = .uv → r ∈ d.pwr.railHeld)) ∧
  (∀ s : State, s.Running → ∃ d, exec .fatalError s = .next { s with dev := d } ∧ d.QuenchBegun 7 3 s.tb ∧
    d.reg .RST_CAUSE_FATAL = 1 ∧ d.ust.fatals = satAdd 8 s.dev.ust.fatals 1) ∧
  (∀ (s : State) (p t : Nat), s.Running → s.dev.clk.relocking.find p = some t → t + 100000 ≤ s.tb →
    ∃ d, exec (.pllRelockTimeout p) s = .next { s with dev := d } ∧ d.QuenchBegun 7 3 s.tb ∧
      d.clk.relocking.find p = none ∧ d.reg .RST_CAUSE_FATAL = 1) ∧
  (∀ s : State, s.Running → ∃ d, exec .resetNAssert s = .next { s with dev := d } ∧ d.QuenchBegun 7 3 s.tb ∧
    d.pin.resetN = false ∧ d.reg .RST_CAUSE_RESET_N = 1 ∧ s.dev.Counted d .RST_COUNT_RESET_N 0 1) ∧
  (∀ (s : State) (p : PendReset), s.Running → s.dev.rst.reload = false → s.dev.rst.pend = some p → p.level = 2 →
    ∃ d, exec .resetTakesEffect s = .next { s with dev := d } ∧ d.QuenchBegun 7 3 s.tb ∧ d.rst.pend = none ∧
      d.reg .RST_CAUSE_CMD_SYS = 1)

/-- O10. With V_AON up and a rail r below 9: a warning excursion of a good rail is counted by its kind and the rail stays good;
the loss of a phase of a good rail is counted and the rail stays good; a rising rail that becomes good reads good with its
voltage; one that fails to rise reads failed to rise, counted, and a boot rail then halts the sequencer with ALERT_N; a
collapse of a rail that is on reads off, counted; a falling rail past its time is actively discharged, counted. Warnings,
phase losses and discharges change registers, events and output alone. -/
def Obligations.RailCommandsTakeEffect : Prop :=
  (∀ (s : State) (r : Nat) (k : RailKind) (mv : Nat), s.dev.aon = true → r < 9 → s.dev.railState r = 2 →
    ∃ d, exec (.railWarn r k mv) s = .next { s with dev := d } ∧ d.railState r = 2 ∧
      d.reg .PWR_RAILr_STAT_MV r = mv % 2 ^ 16 ∧
      s.dev.Counted d (match k with | .uv => .PWR_RAILr_CNT_UV | .ov => .PWR_RAILr_CNT_OV | .oc => .PWR_RAILr_CNT_OC) r 1 ∧
      s.stamped.ChangesOnly d [.regs, .evt, .out]) ∧
  (∀ (s : State) (r : Nat), s.dev.aon = true → r < 9 → s.dev.railState r = 2 →
    ∃ d, exec (.phaseLost r) s = .next { s with dev := d } ∧ d.railState r = 2 ∧
      s.dev.Counted d .PWR_RAILr_STAT_PHASES_LOST r 1 ∧ s.dev.Counted d .PWR_RAILr_CYC_PHASE_LOSS r 1 ∧
      s.stamped.ChangesOnly d [.regs, .evt, .out]) ∧
  (∀ (s : State) (r mv : Nat), s.dev.aon = true → r < 9 → s.dev.railState r = 1 →
    ∃ d, exec (.railGood r mv) s = .next { s with dev := d } ∧ d.railState r = 2 ∧
      d.reg .PWR_RAILr_STAT_MV r = mv % 2 ^ 16 ∧ s.stamped.ChangesOnly d [.regs, .pwr]) ∧
  (∀ (s : State) (r : Nat), s.dev.aon = true → r < 9 → s.dev.railState r = 1 →
    ∃ d, exec (.railRiseTimeout r) s = .next { s with dev := d } ∧ d.railState r = 5 ∧
      s.dev.Counted d .PWR_RAILr_CNT_RISE_FAIL r 1 ∧
      (r ∈ bootRails → d.reg .PWR_STEP_HALTED = 1 ∧ d.evt.alertHalt = true ∧ d.pwr.left = true)) ∧
  (∀ (s : State) (r : Nat), s.dev.aon = true → r < 9 → s.dev.railState r ∈ [2, 3, 4] →
    ∃ d, exec (.railCollapse r) s = .next { s with dev := d } ∧ d.railState r = 0 ∧
      s.dev.Counted d .PWR_RAILr_CNT_COLLAPSE r 1) ∧
  (∀ (s : State) (r : Nat), s.dev.aon = true → r < 9 → s.dev.railState r = 4 →
    ∃ d, exec (.dischargeTimeout r) s = .next { s with dev := d } ∧ d.railState r = 6 ∧
      s.dev.Counted d .PWR_RAILr_CNT_DISCH r 1 ∧ s.stamped.ChangesOnly d [.regs, .evt, .out])

/-- O11. With V_AON up and no halt: SEQUENCER_STEP_ADVANCE at a step 1 to 8 whose actions are complete enters the next step when
the device does not take part in the cooperation, and otherwise waits ready with SQ_WAIT set; SEQUENCER_DOWN_STEP at a step
10 to 14 does the same on the way down; SQ_STEP_HIGH takes a ready participant that does not hold the line to its next step,
on the way up within its target; SQ_DOWN_TIMEOUT takes a ready one on and is counted; SQ_UP_TIMEOUT is counted once for a
wait and the step stays. -/
def Obligations.SequencerStepsFollowTheLine : Prop :=
  (∀ s : State, s.dev.aon = true → s.dev.rst.reload = false → s.dev.step < 9 → s.stamped.stepDone = true →
    s.dev.flag .PWR_STEP_HALTED = false → s.dev.rst.held = false → ∃ d, exec .sequencerStepAdvance s = .next { s with dev := d } ∧
      (s.dev.sqTakesPart = false → d.step = s.dev.step + 1) ∧
      (s.dev.sqTakesPart = true → d.step = s.dev.step ∧ d.pwr.ready = true ∧ d.reg .PWR_STEP_SQ_WAIT = 1)) ∧
  (∀ s : State, s.dev.aon = true → 10 ≤ s.dev.step → s.dev.step < 15 → (s.dev.step = 11 → s.dev.pin.mpgood = 0) →
    ∃ d, exec .sequencerDownStep s = .next { s with dev := d } ∧
      (s.dev.sqTakesPart = false → d.step = s.dev.step + 1) ∧
      (s.dev.sqTakesPart = true → d.step = s.dev.step ∧ d.pwr.ready = true ∧ d.reg .PWR_STEP_SQ_WAIT = 1)) ∧
  (∀ s : State, s.dev.aon = true → s.dev.sqTakesPart = true → s.dev.pwr.ready = true →
    s.dev.flag .PWR_SQ_STAT_HOLDING = false →
    (10 ≤ s.dev.step ∧ s.dev.step < 15 ∨ s.dev.step < 9 ∧ s.dev.step + 1 ≤ s.dev.sqTarget) →
    ∃ d, exec .sqStepHigh s = .next { s with dev := d } ∧ d.step = s.dev.step + 1) ∧
  (∀ s : State, s.dev.aon = true → s.dev.sqTakesPart = true → 10 ≤ s.dev.step → s.dev.step < 15 → s.dev.pwr.ready = true →
    ∃ d, exec .sqDownTimeout s = .next { s with dev := d } ∧ d.step = s.dev.step + 1 ∧
      s.dev.Counted d .PWR_SQ_STAT_DOWN_TIMEOUTS 0 1) ∧
  (∀ s : State, s.dev.aon = true → s.dev.sqTakesPart = true → s.dev.step < 9 → s.dev.pwr.upTimeoutRaised = false →
    (s.dev.pwr.ready = true ∨ s.dev.pin.sqRole = false) →
    ∃ d, exec .sqUpTimeout s = .next { s with dev := d } ∧ d.step = s.dev.step ∧ d.pwr.upTimeoutRaised = true ∧
      s.dev.Counted d .PWR_SQ_STAT_UP_TIMEOUTS 0 1 ∧ s.stamped.ChangesOnly d [.regs, .evt, .out, .pwr])

/-- O12. With V_AON up: a master that takes part puts a frame with its target, its sequence byte and the CRC-8 of the frame on
the bus, and the next sequence byte is one more modulo 256; a follower that takes part keeps a frame with identity 0xB4, a
matching CRC and a target not below its step as its target; a frame with a wrong CRC is counted and changes nothing else; a
write of PWR_SQ_CTL.LEAVE takes the device out of the cooperation and releases the line. -/
def Obligations.SequencerBusCommandsTakeEffect : Prop :=
  (∀ s : State, s.dev.aon = true → s.dev.pin.sqRole = true → s.dev.sqTakesPart = true →
    ∃ d, exec .sqFrameBroadcast s = .next { s with dev := d } ∧
      d.out = .sqFrame (s.dev.sqTarget % 16) s.dev.pwr.frameSeq (crc8 [0xB4, s.dev.sqTarget % 16, s.dev.pwr.frameSeq]) :: s.dev.out ∧
      d.pwr.frameSeq = (s.dev.pwr.frameSeq + 1) % 256 ∧ s.stamped.ChangesOnly d [.regs, .out, .pwr]) ∧
  (∀ (s : State) (target seq : Nat), s.dev.aon = true → s.dev.pin.sqRole = false → s.dev.sqTakesPart = true →
    s.dev.step ≤ target → target < 16 →
    ∃ d, exec (.sqFrameReceived 0xB4 target seq (crc8 [0xB4, target, seq])) s = .next { s with dev := d } ∧
      d.reg .PWR_SQ_STAT_RX_TARGET = target ∧ d.pwr.gotFrame = true ∧ d.pwr.frameAt = s.tb ∧
      s.stamped.ChangesOnly d [.regs, .pin, .pwr]) ∧
  (∀ (s : State) (id target seq crc : Nat), s.dev.aon = true → s.dev.pin.sqRole = false → s.dev.sqTakesPart = true →
    crc ≠ crc8 [id, target, seq] →
    ∃ d, exec (.sqFrameReceived id target seq crc) s = .next { s with dev := d } ∧
      s.dev.Counted d .PWR_SQ_STAT_CRC_ERR 0 1 ∧ s.stamped.ChangesOnly d [.regs] ∧
      s.dev.FieldsOnly d [.PWR_SQ_STAT_CRC_ERR]) ∧
  (∀ s : State, s.dev.aon = true → ∃ d, exec .sqLeaveWrite s = .next { s with dev := d } ∧ d.pwr.left = true ∧
    d.sqTakesPart = false ∧ d.reg .PWR_SQ_STAT_HOLDING = 0 ∧ d.reg .PWR_SQ_CTL_LEAVE = 1 ∧
    s.stamped.ChangesOnly d [.regs, .pwr])

/-- O13. With V_AON up and a group g below 8: a filtered rise makes MPGOODg read high and a fall low; a fall of a group that is
up, outside a quench, latches it off and lowers MPENg; a group that fails to rise is counted and its MPENg is lowered; a
write of 1s to PWR_MPG.LATCH clears those latch bits, and in steps 8 and 9 raises MPENg of each group re-armed. -/
def Obligations.MediaRailGroupCommandsTakeEffect : Prop :=
  (∀ (s : State) (g : Nat), s.dev.aon = true → g < 8 → ∃ d, exec (.mpgoodRise g) s = .next { s with dev := d } ∧
    d.pin.mpgood.testBit g = true ∧ (d.reg .PWR_MPG_MPGOOD).testBit g = true) ∧
  (∀ (s : State) (g : Nat), s.dev.aon = true → g < 8 → ∃ d, exec (.mpgoodFall g) s = .next { s with dev := d } ∧
    d.pin.mpgood.testBit g = false ∧ (d.reg .PWR_MPG_MPGOOD).testBit g = false ∧
    (s.dev.reg .JRN_STATUS_QSTATE = 0 → s.stamped.mpgUp g = true →
      (d.reg .PWR_MPG_LATCH).testBit g = true ∧ d.mpen g = false)) ∧
  (∀ (s : State) (g : Nat), s.dev.aon = true → g < 8 → s.dev.mpen g = true → s.stamped.mpgUp g = false →
    ∃ d, exec (.mpgRiseTimeout g) s = .next { s with dev := d } ∧ d.mpen g = false ∧ g ∈ d.pwr.mpgFailed ∧
      s.dev.Counted d .PWR_MPGg_CNT_RISE_FAIL g 1) ∧
  (∀ (s : State) (mask : Nat), s.dev.aon = true → ∃ d, exec (.mpgLatchWrite mask) s = .next { s with dev := d } ∧
    (∀ g < 8, mask.testBit g = true → (d.reg .PWR_MPG_LATCH).testBit g = false) ∧
    (s.dev.step = 8 ∨ s.dev.step = 9 → ∀ g < 8, mask.testBit g = true → (s.dev.reg .PWR_MPG_LATCH).testBit g = true → d.mpen g = true) ∧
    s.stamped.ChangesOnly d [.regs, .pwr])

/-- O14. With V_AON up: a die or DRAM sample in range whose self-check passes is shown in its sensor register as valid and not
failed, stamped, and one that fails is shown failed and not valid; a package's sample that passes its check is shown
likewise, and one that fails changes nothing; a package without a valid sample for 100 ms reads not valid; THROT_N low makes
F_EXT the THROT_FRAC in force, and leaves it as it is while the pin is stuck under the releasing policy; a rise is stamped
and leaves F_EXT as it is; 1 ms after the rise F_EXT is 0 and the pin is not stuck; the stuck timer past its limit reads
stuck. -/
def Obligations.ThermalCommandsTakeEffect : Prop :=
  (∀ (s : State) (n raw : Nat), s.dev.aon = true → n < 80 → raw < 2 ^ 16 → -880 ≤ signed16 raw → signed16 raw ≤ 2400 →
    ∃ d, exec (.temperatureSample n raw true) s = .next { s with dev := d } ∧ d.reg .THM_SENSn_TEMP n = raw ∧
      d.reg .THM_SENSn_VALID n = 1 ∧ d.reg .THM_SENSn_FAILED n = 0 ∧ d.thm.sampleAt.find n = some s.tb) ∧
  (∀ (s : State) (n raw : Nat), s.dev.aon = true → n < 80 →
    ∃ d, exec (.temperatureSample n raw false) s = .next { s with dev := d } ∧ d.reg .THM_SENSn_VALID n = 0 ∧
      d.reg .THM_SENSn_FAILED n = 1) ∧
  (∀ (s : State) (n raw : Nat), s.dev.aon = true → 80 ≤ n → n < 144 → raw < 2 ^ 16 →
    (∃ d, exec (.temperatureSample n raw true) s = .next { s with dev := d } ∧ d.reg .THM_SENSn_TEMP n = raw ∧
      d.reg .THM_SENSn_VALID n = 1 ∧ d.reg .THM_SENSn_FAILED n = 0 ∧ d.thm.sampleAt.find n = some s.tb) ∧
    exec (.temperatureSample n raw false) s = .next { s with dev := s.stamped }) ∧
  (∀ (s : State) (p : Nat), s.dev.aon = true → p < 64 → s.dev.thm.sampleAt.findD (80 + p) 0 + 100000000 ≤ s.tb →
    ∃ d, exec (.sampleLossTimeout p) s = .next { s with dev := d } ∧ d.reg .THM_SENSn_VALID (80 + p) = 0 ∧
      s.stamped.ChangesOnly d [.regs, .med, .per, .thm]) ∧
  (∀ s : State, s.dev.aon = true → ∃ d, exec .throtNFall s = .next { s with dev := d } ∧ d.pin.throtN = false ∧
    d.reg .THM_EXT_LOW = 1 ∧
    d.thm.fExt = (if s.dev.flag .THM_EXT_STUCK && (s.dev.cfg.map (·.thermal.throtPolicy)).getD 0 = 1 then s.dev.thm.fExt
      else s.dev.throtFrac) ∧ s.stamped.ChangesOnly d [.regs, .pin, .per, .thm]) ∧
  (∀ s : State, s.dev.aon = true → s.dev.pin.throtN = false →
    ∃ d, exec .throtNRise s = .next { s with dev := d } ∧ d.thm.throtRiseAt = some s.tb ∧ d.thm.fExt = s.dev.thm.fExt ∧
      d.pin.throtN = true ∧ s.stamped.ChangesOnly d [.regs, .pin, .thm] ∧ s.dev.FieldsOnly d [.THM_EXT_LOW]) ∧
  (∀ (s : State) (t : Nat), s.dev.aon = true → s.dev.pin.throtN = true → s.dev.thm.throtRiseAt = some t → t + 1000000 ≤ s.tb →
    ∃ d, exec .throtHoldExpiry s = .next { s with dev := d } ∧ d.thm.fExt = 0 ∧ d.reg .THM_EXT_STUCK = 0 ∧
      s.stamped.ChangesOnly d [.regs, .per, .thm]) ∧
  (∀ s : State, s.dev.aon = true → s.dev.thm.throtRiseAt = none → s.dev.flag .THM_EXT_STUCK = false →
    s.dev.thm.throtOkAt + 1000000000 * ((s.dev.cfg.map (·.thermal.throtStuckS)).getD 60) < s.tb →
    ∃ d, exec .throtStuckTimeout s = .next { s with dev := d } ∧ d.reg .THM_EXT_STUCK = 1 ∧
      s.stamped.ChangesOnly d [.regs, .evt, .out, .per, .thm])

/-- O15. With V_AON up and a head the device has: PERSTn_N low reads low, and a live head (one that is FAILED too) goes to
RESETTING with no accepted request left; a hot reset or link-down reset takes it on to STARTING; a rise reads high, stamped,
and a head in RESETTING goes to STARTING; a function-level reset clears the head's MSI-X enable, masks and pending bits and
its background command and nothing else; once ready, configuration space reports revision and serial number,
Memory_Info_Valid is 1, Memory_Active follows the device outside PCIe-only mode, and range 1 reports the DPA limit. -/
def Obligations.HeadResetCommandsTakeEffect : Prop :=
  (∀ (s : State) (h : Nat), s.dev.aon = true → s.stamped.headLive h = true → s.dev.rst.core ≠ .hold →
    s.dev.ustate (headIx h) ∉ [.absent, .retired] → ∃ d, exec (.perstAssert h .perst) s = .next { s with dev := d } ∧
      (d.head h).perst = true ∧ d.ustate (headIx h) = .resetting ∧ (d.head h).live = [] ∧ (d.head h).memInfoValid = false ∧
      s.stamped.ChangesOnly d [.evt, .heads, .jrn, .med, .mgt, .out, .regs, .slices, .tal, .ust]) ∧
  (∀ (s : State) (h : Nat) (how : HeadReset), s.dev.aon = true → s.stamped.headLive h = true → s.dev.rst.core ≠ .hold →
    how ≠ .perst → s.dev.ustate (headIx h) ∉ [.absent, .retired] →
    ∃ d, exec (.perstAssert h how) s = .next { s with dev := d } ∧ d.ustate (headIx h) = .starting ∧ (d.head h).live = [] ∧
      (how = .linkDown → s.dev.reg .GLB_HEAD_LINK_WIDTH h ≠ 0 → s.dev.Counted d .GLB_HEAD_LINK_DOWN_COUNT h 1) ∧
      s.stamped.ChangesOnly d [.evt, .heads, .jrn, .med, .mgt, .out, .regs, .slices, .tal, .ust]) ∧
  (∀ (s : State) (h : Nat), s.dev.aon = true → h < s.dev.headCount → (s.dev.head h).perst = true →
    ∃ d, exec (.perstRelease h) s = .next { s with dev := d } ∧ (d.head h).perst = false ∧ (d.head h).perstRiseAt = s.tb ∧
      (s.stamped.headLive h = true → s.dev.ustate (headIx h) = .resetting → d.ustate (headIx h) = .starting) ∧
      s.stamped.ChangesOnly d [.evt, .heads, .jrn, .out, .regs, .ust]) ∧
  (∀ (s : State) (h : Nat), s.dev.aon = true → h < s.dev.headCount →
    ∃ d, exec (.functionLevelReset h) s = .next { s with dev := d } ∧
      d.evt = { s.dev.evt with
        msixOn := s.dev.evt.msixOn.filter (fun v => v ≠ h)
        msixMasked := s.dev.evt.msixMasked.filter (fun v => v / 256 ≠ h)
        msixPending := s.dev.evt.msixPending.filter (fun v => v / 256 ≠ h) } ∧
      d.mgt = { s.dev.mgt with bg := s.dev.mgt.bg.del h } ∧ s.stamped.ChangesOnly d [.evt, .mgt]) ∧
  (∀ (s : State) (h : Nat), s.dev.aon = true → s.stamped.headLive h = true → (s.dev.head h).perst = false →
    (s.dev.head h).memInfoValid = false → ∃ d, exec (.configSpaceReady h) s = .next { s with dev := d } ∧
      (d.head h).memInfoValid = true ∧ (d.head h).memActive = (s.dev.memActive && !s.dev.pcieOnly h) ∧
      (d.head h).range1 = s.dev.dpaLimit ∧
      (d.head h).config = some { revision := s.dev.boot.stepping, serial := s.dev.boot.serial } ∧
      s.stamped.ChangesOnly d [.heads])

/-- O16. With V_AON up: LINK_UP of a live head out of PERST with a width the head has and a rate code shows width, rate and
protocols and takes a head that is not being drained to ONLINE or DEGRADED, DEGRADED without CXL (in PCIe-only mode); a link
that leaves PCIe-only mode has retrained, which is counted as a loss and discards the accepted requests; LINK_LOSS of a link
that is up shows no link, counts it, discards the accepted requests and takes a head in service to OFF; a failed integrity
check of a secure CXL.mem or CXL.io stream ends that stream's security, keeps the other's, and is treated as a loss of the
link. -/
def Obligations.HeadLinkCommandsTakeEffect : Prop :=
  (∀ (s : State) (h rate width : Nat) (cxl ll rev : Bool), s.dev.aon = true → s.stamped.headLive h = true →
    (s.dev.head h).perst = false → width ∈ [1, 2, 4, 8, 16] → width ≤ (if s.dev.pin.headMode then 8 else 16) → 1 ≤ rate →
    rate ≤ 6 → s.dev.ustate (headIx h) ∈ [.off, .starting, .online, .degraded, .failed] →
    ∃ d, exec (.linkUp h rate width cxl ll rev) s = .next { s with dev := d } ∧ d.reg .GLB_HEAD_LINK_WIDTH h = width ∧
      d.reg .GLB_HEAD_LINK_RATE h = rate ∧ d.reg .GLB_HEAD_LINK_CXL h = b2n (cxl && decide (3 ≤ rate)) ∧
      d.serves (headIx h) = true ∧ ((cxl && decide (3 ≤ rate)) = false → d.ustate (headIx h) = .degraded) ∧
      (d.head h).trained = (width, rate) ∧
      (s.dev.pcieOnly h = true → (cxl && decide (3 ≤ rate)) = true →
        s.dev.Counted d .GLB_HEAD_LINK_DOWN_COUNT h 1 ∧ (d.head h).live = []) ∧
      s.stamped.ChangesOnly d [.evt, .heads, .jrn, .med, .out, .regs, .slices, .tal, .ust]) ∧
  (∀ (s : State) (h : Nat), s.dev.aon = true → h < s.dev.headCount → s.dev.reg .GLB_HEAD_LINK_WIDTH h ≠ 0 →
    ∃ d, exec (.linkLoss h) s = .next { s with dev := d } ∧ d.reg .GLB_HEAD_LINK_WIDTH h = 0 ∧ d.reg .GLB_HEAD_LINK_CXL h = 0 ∧
      s.dev.Counted d .GLB_HEAD_LINK_DOWN_COUNT h 1 ∧ (d.head h).live = [] ∧
      (s.dev.serves (headIx h) = true → d.ustate (headIx h) = .off) ∧
      s.stamped.ChangesOnly d [.evt, .heads, .jrn, .med, .out, .regs, .slices, .tal, .ust]) ∧
  (∀ (s : State) (h : Nat), s.dev.aon = true → h < s.dev.headCount → (s.dev.head h).memIde.secure = true →
    ∃ d, exec (.ideIntegrityFailure h false) s = .next { s with dev := d } ∧ (d.head h).memIde.secure = false ∧
      d.reg .GLB_HEAD_LINK_IDE_MEM h = 0 ∧ d.reg .GLB_HEAD_LINK_WIDTH h = 0 ∧ (d.head h).live = [] ∧
      (d.head h).ioIde = (s.dev.head h).ioIde ∧
      s.stamped.ChangesOnly d [.evt, .heads, .jrn, .med, .out, .regs, .slices, .tal, .ust]) ∧
  (∀ (s : State) (h : Nat), s.dev.aon = true → h < s.dev.headCount → (s.dev.head h).ioIde.secure = true →
    ∃ d, exec (.ideIntegrityFailure h true) s = .next { s with dev := d } ∧ (d.head h).ioIde.secure = false ∧
      d.reg .GLB_HEAD_LINK_IDE_IO h = 0 ∧ d.reg .GLB_HEAD_LINK_WIDTH h = 0 ∧ (d.head h).live = [] ∧
      (d.head h).memIde = (s.dev.head h).memIde ∧
      s.stamped.ChangesOnly d [.evt, .heads, .jrn, .med, .out, .regs, .slices, .tal, .ust])

/-- O17. With V_AON up: KICK restarts the watchdog at the stamp, and new firmware has then proved itself; a watchdog that counts
and is past its period begins a core reset, recorded in RST_CAUSE, as does a RESET at core level that takes effect; a drain
that is complete, or has lasted 100 us, ends in the hold with every tracking table and ingress queue empty, the firmware
reloading, and the reset counted; the hold's end leaves no core reset, outside a quench. RESET_N rising reads high, and ends
a held system reset: at step 4 the boot begins. -/
def Obligations.CoreResetRunsItsPhases : Prop :=
  (∀ s : State, s.dev.aon = true → ∃ d, exec .watchdogKick s = .next { s with dev := d } ∧ d.rst.kickAt = s.tb ∧
    d.mgt.fwUnproved = false ∧ s.stamped.ChangesOnly d [.mgt, .rst]) ∧
  (∀ s : State, s.Running → s.stamped.wdtRuns = true → s.dev.rst.kickAt + s.dev.reg .RST_WDT_PERIOD_MS * 1000000 ≤ s.tb →
    ∃ d, exec .watchdogExpiry s = .next { s with dev := d } ∧ d.rst.core = .draining ∧ d.rst.coreSince = s.tb ∧
      d.reg .RST_CAUSE_WDT = 1 ∧ d.reg .RST_CAUSE_LAST_LEVEL = 2 ∧ s.stamped.ChangesOnly d [.evt, .mgt, .out, .regs, .rst]) ∧
  (∀ (s : State) (p : PendReset), s.Running → s.dev.rst.reload = false → s.dev.rst.pend = some p → p.level ≠ 2 →
    ∃ d, exec .resetTakesEffect s = .next { s with dev := d } ∧ d.rst.core = .draining ∧ d.rst.pend = none ∧
      d.reg .RST_CAUSE_CMD_CORE = 1 ∧ s.stamped.ChangesOnly d [.regs, .rst]) ∧
  (∀ s : State, s.dev.aon = true → s.dev.rst.core = .draining →
    (s.stamped.drained = true ∨ s.dev.rst.coreSince + 100000 ≤ s.tb) →
    ∃ d, exec .coreResetDrainEnd s = .next { s with dev := d } ∧ d.rst.core = .hold ∧ d.rst.coreSince = s.tb ∧
      d.mgt.fwDown = true ∧ (∀ e ∈ d.slices, e.2.tt = [] ∧ e.2.ingress = []) ∧ s.dev.Counted d .RST_COUNT_CORE 0 1 ∧
      d.cfg = s.dev.cfg ∧ d.qen = s.dev.qen ∧ d.poison = s.dev.poison) ∧
  (∀ s : State, s.dev.aon = true → s.dev.rst.core = .hold → s.dev.reg .JRN_STATUS_QSTATE = 0 →
    ∃ d, exec .coreResetHoldEnd s = .next { s with dev := d } ∧ d.rst.core = .none ∧ d.qch.pendings = []) ∧
  (∀ s : State, s.dev.aon = true → s.dev.rst.held = true → s.dev.step ≠ 4 →
    ∃ d, exec .resetNRelease s = .next { s with dev := d } ∧ d.rst.held = false ∧ d.pin.resetN = true ∧
      s.stamped.ChangesOnly d [.pin, .rst]) ∧
  (∀ s : State, s.dev.aon = true → s.dev.rst.held = true → s.dev.step = 4 →
    ∃ d, exec .resetNRelease s = .next { s with dev := d } ∧ d.rst.held = false ∧ d.pin.resetN = true ∧ d.step = 4 ∧
      d.pwr.stepAt = s.tb) ∧
  (∀ s : State, s.dev.aon = true → s.dev.rst.held = false → exec .resetNRelease s =
    .next { s with dev := { s.stamped with pin := { s.dev.pin with resetN := true } } })

/-- O18. With V_AON up: the end of the drain, or 100 us after T_q, leaves either the INDEX state or a quench that found no
gather band; the verified index, pages and metadata each take the quench one state on; the verified seal records the seal
and takes the ending: power-down enters sequencer step 10 in DOWN, and without an ending taken and the supply not good the
quench holds; good supply ends the hold in a warm return; the restored warm return runs again with QSTATE 0; and a restart
at step 9 with an image in force ends in Memory Active. The two that write a startup checkpoint raise the stamp ceiling to
at least 30 s ahead. -/
def Obligations.QuenchPassesThroughItsStates : Prop :=
  (∀ s : State, s.dev.aon = true → s.dev.reg .JRN_STATUS_QSTATE = 1 → s.stamped.drained = true →
    ∃ d, exec .drainComplete s = .next { s with dev := d } ∧ (d.reg .JRN_STATUS_QSTATE = 2 ∨ d.qch.noGather = true)) ∧
  (∀ s : State, s.dev.aon = true → s.dev.reg .JRN_STATUS_QSTATE = 1 → s.dev.qch.tq + 100000 ≤ s.tb →
    ∃ d, exec .drainTimeout s = .next { s with dev := d } ∧ (d.reg .JRN_STATUS_QSTATE = 2 ∨ d.qch.noGather = true)) ∧
  (∀ s : State, s.dev.aon = true → s.dev.reg .JRN_STATUS_QSTATE = 2 →
    ∃ d, exec .indexVerified s = .next { s with dev := d } ∧ d.reg .JRN_STATUS_QSTATE = 3 ∧
      (∀ i ∈ d.qch.images, i.id = d.qch.id → i.indexEnd = true) ∧
      s.stamped.ChangesOnly d [.regs, .qch, .med, .freeCtr] ∧
      s.dev.FieldsOnly d [.JRN_STATUS_QSTATE]) ∧
  (∀ s : State, s.dev.aon = true → s.dev.reg .JRN_STATUS_QSTATE = 3 →
    ∃ d, exec .pagesVerified s = .next { s with dev := d } ∧ d.reg .JRN_STATUS_QSTATE = 4 ∧
      s.stamped.ChangesOnly d [.regs, .qch, .med, .freeCtr] ∧ s.dev.FieldsOnly d [.JRN_STATUS_QSTATE]) ∧
  (∀ s : State, s.dev.aon = true → s.dev.reg .JRN_STATUS_QSTATE = 4 →
    ∃ d, exec .metadataVerified s = .next { s with dev := d } ∧ d.reg .JRN_STATUS_QSTATE = 5 ∧
      (∀ i ∈ d.qch.images, i.id = d.qch.id → i.qmeta.isSome = true) ∧
      s.stamped.ChangesOnly d [.regs, .qch, .med, .cry, .freeCtr] ∧
      s.dev.FieldsOnly d [.JRN_STATUS_QSTATE]) ∧
  (∀ (s : State) (v e : Nat), s.dev.aon = true → s.dev.reg .JRN_STATUS_QSTATE = 5 → s.dev.qch.noGather = false →
    s.dev.qch.ending = 0 → ∃ d, exec (.sealVerified v e) s = .next { s with dev := d } ∧ d.reg .JRN_STATUS_QSTATE = 8 ∧
      d.step = 10 ∧ d.qch.sealedId = some s.dev.qch.id ∧ d.qch.vEnd = v ∧ d.qch.eUsed = e) ∧
  (∀ (s : State) (v e : Nat), s.dev.aon = true → s.dev.reg .JRN_STATUS_QSTATE = 5 → s.dev.qch.noGather = false →
    s.dev.qch.ending = 2 → s.dev.qch.sawReset = false → s.dev.pin.pwrfailN = false → s.dev.flag .PWR_SUPPLY_VIN_GOOD = true →
    ∃ d, exec (.sealVerified v e) s = .next { s with dev := d } ∧ d.reg .JRN_STATUS_QSTATE = 6 ∧
      d.qch.sealedId = some s.dev.qch.id) ∧
  (∀ s : State, s.dev.aon = true → s.dev.reg .JRN_STATUS_QSTATE = 6 → s.dev.railsUp = true → 10000000 ≤ s.tb →
    s.dev.qch.sawReset = false → ∃ d, exec .supplyGood s = .next { s with dev := d } ∧ d.reg .JRN_STATUS_QSTATE = 7 ∧
      d.pin.pwrfailN = true) ∧
  (∀ s : State, s.dev.aon = true → s.dev.reg .JRN_STATUS_QSTATE = 7 →
    ∃ t, exec .restoreComplete s = .next t ∧ t.dev.reg .JRN_STATUS_QSTATE = 0 ∧ t.tb = s.tb ∧ s.tb + 30000000000 ≤ t.ceiling) ∧
  (∀ s : State, s.dev.aon = true → s.dev.step = 9 → s.dev.memActive = false → s.dev.rst.held = false →
    s.dev.cfg.isSome = true → ∃ t, exec .memoryActive s = .next t ∧ t.dev.memActive = true ∧ t.tb = s.tb ∧
      s.tb + 30000000000 ≤ t.ceiling)

/-- O19. In a running device with an image: a housekeeping round samples the bank (the newest sample is VHOLD_SENSE times
HOLD_DIV / 100, at most four are kept) and shows the lowest of them; a due journal flush mirrors what the journal held and
stamps it; a checkpoint frees the older records, leaves no gather band waiting for it or returned, and raises the stamp
ceiling; a ceiling record within 5 s of the ceiling raises it by 30 s and changes nothing else; metering appends journal
records alone; the open through sheet is cut 400 ns after its first record and issued to a pair of dies or left to wait for
one; a cut and issued sheet of which no program or command runs any more reads programmed where its copy reads back with at
most 8 bits corrected: without writes waiting for it nothing else changes, and a write that waits for it alone is answered;
with more bits it is written again, counted. -/
def Obligations.PersistenceRoundsTakeEffect : Prop :=
  (∀ (s : State) (c : Cfg) (v : Nat), s.Running → s.dev.cfg = some c →
    ∃ d, exec (.housekeepingRound v) s = .next { s with dev := d } ∧
      d.per.samples = (v * c.power.holdDiv / 100 :: s.dev.per.samples).take 4 ∧
      d.reg .JRN_HOLDUP_V_BANK = d.per.samples.foldl min (d.per.samples.headD 0) / 10 % 2 ^ 16) ∧
  (∀ s : State, s.Running → s.dev.canGather = true → s.dev.jrn.flushedAt + s.dev.reg .JRN_CTL_FLUSH_US * 1000 ≤ s.tb →
    ∃ d, exec .journalFlush s = .next { s with dev := d } ∧ d.jrn.flushedAt = s.tb ∧ s.dev.jrn.next ≤ d.jrn.mirrored) ∧
  (∀ s : State, s.Running → ∃ t, exec .checkpoint s = .next t ∧ t.dev.jrn.recs = [] ∧ t.dev.jrn.startupAt = s.tb ∧
    t.dev.med.gatherPending = [] ∧ t.dev.med.gatherReturn = [] ∧ s.tb + 30000000000 ≤ t.ceiling ∧ t.tb = s.tb) ∧
  (∀ s : State, s.dev.aon = true → s.ceiling ≤ s.tb + 5000000000 →
    exec .ceilingRecord s = .next { s with ceiling := s.ceiling + 30000000000 }) ∧
  (∀ s : State, s.Running → ∃ d, exec .meter s = .next { s with dev := d } ∧ s.dev.jrn.next < d.jrn.next ∧
    d.jrn.mirrored = s.dev.jrn.mirrored ∧ s.stamped.ChangesOnly d [.jrn]) ∧
  (∀ (s : State) (x : ThruSheet), s.dev.aon = true → s.dev.per.sheets.find s.dev.per.nextSheet = some x → x.cut = false →
    x.firstAt + 400 ≤ s.tb → ∃ d, exec .throughSheetCut s = .next { s with dev := d } ∧
      (∃ y, d.per.sheets.find s.dev.per.nextSheet = some y ∧ y = { x with cut := true, dies := y.dies }) ∧
      s.stamped.ChangesOnly d [.per, .med, .regs, .pmc, .evt, .out, .freeCtr]) ∧
  (∀ (s : State) (n corr : Nat) (x : ThruSheet), s.dev.aon = true → s.dev.per.sheets.find n = some x → x.cut = true →
    x.programmed = false → x.dies ≠ [] → (∀ p ∈ s.dev.med.progs, p.use ≠ .thru n) →
    (∀ c ∈ s.dev.med.cmds, c.2.use = .thru n → c.2.die ∉ x.dies) →
    (8 < corr → ∃ d y, exec (.throughSheetProgrammed n corr) s = .next { s with dev := d } ∧ d.per.sheets.find n = some y ∧
      y = { x with dies := y.dies } ∧ s.dev.Counted d .JRN_THRU_SHEET_FAIL 0 1) ∧
    (corr ≤ 8 → ∃ d, exec (.throughSheetProgrammed n corr) s = .next { s with dev := d } ∧
      (x.waiters = [] → d.per.sheets.find n = some { x with programmed := true } ∧ s.stamped.ChangesOnly d [.per]) ∧
      (∀ (k e : Nat) (t : TtEntry), s.dev.per.sheets = [(n, x)] → x.waiters = [(k, e)] → s.dev.entry k e = some t →
        t.acked = true → t.sent = false → t.req.kind.isRead = false → (t.req.kind.merges = true → t.applied = true) →
        ((s.dev.head t.req.head).live.find t.req.rid).isSome = true →
        s.dev.Puts d (.mem t.req.head t.req.tag none false (s.dev.reg .GLB_HEAD_LOAD_DEVLOAD t.req.head)))))

/-- O20. With V_AON up: the oldest MCTP notification leaves the queue and is put out; an interval boundary captures what the 16
counters of its group held before the items of that stamp and, under CLEAR_ON_SNAP, leaves them what those items add; 4 us
later the captured values are published in PMC_SNAPn and SNAP_SEQ increments; a glitch on a filtered input counts an
occurrence of its event source, or in its register, and has no other effect than an event has (none on PERST1_N of a device
with one head); a stuck I3C clock leaves the device as it is. -/
def Obligations.EventAndCounterCommandsTakeEffect : Prop :=
  (∀ (s : State) (r : EvRec) (rest : List EvRec), s.dev.aon = true → s.dev.evt.mctpQ = r :: rest →
    ∃ d, exec .mctpNotificationSent s = .next { s with dev := d } ∧ d.evt = { s.dev.evt with mctpQ := rest } ∧
      d.out = .mctp r :: s.dev.out ∧ s.stamped.ChangesOnly d [.evt, .out]) ∧
  (∀ (s : State) (g : Nat), s.dev.aon = true → g < 32 → s.dev.reg .PMC_GRPg_CTL_INTERVAL_US g ≠ 0 →
    s.tb % (s.dev.reg .PMC_GRPg_CTL_INTERVAL_US g * 1000) = 0 → s.dev.pmc.lastBoundary.find g ≠ some s.tb →
    ∃ d, exec (.pmcIntervalBoundary g) s = .next { s with dev := d } ∧
      d.pmc.pend = s.dev.pmc.pend ++ [⟨g, s.tb, (groupCounters g).map (fun n => s.stamped.counterAt n)⟩] ∧
      (∀ n ∈ groupCounters g, d.reg .PMC_CTRn_COUNT n =
        if s.dev.flag .PMC_GRPg_CTL_CLEAR_ON_SNAP g then (s.dev.reg .PMC_CTRn_COUNT n + 2 ^ 48 - s.stamped.counterAt n) % 2 ^ 48
        else s.dev.reg .PMC_CTRn_COUNT n) ∧
      s.stamped.ChangesOnly d [.pmc, .regs] ∧ s.dev.FieldsOnly d [.PMC_CTRn_COUNT]) ∧
  (∀ (s : State) (g : Nat) (p : PmcPend), s.dev.aon = true → s.dev.pmc.pend.find? (fun q => q.group = g) = some p →
    p.boundary + 4000 ≤ s.tb → ∃ d, exec (.pmcSnapshotPublish g) s = .next { s with dev := d } ∧ p ∉ d.pmc.pend ∧
      (∀ c < 16, d.reg .PMC_SNAPn_COUNT (16 * g + c) = p.values.getD c 0 % 2 ^ (Fld.info .PMC_SNAPn_COUNT).width) ∧
      d.reg .PMC_GRPg_CTL_SNAP_SEQ g = (s.dev.reg .PMC_GRPg_CTL_SNAP_SEQ g + 1) % 2 ^ (Fld.info .PMC_GRPg_CTL_SNAP_SEQ).width ∧
      s.stamped.ChangesOnly d [.pmc, .regs] ∧ s.dev.FieldsOnly d [.PMC_SNAPn_COUNT, .PMC_GRPg_CTL_SNAP_SEQ]) ∧
  (∀ (s : State) (p : FilteredPin), s.dev.aon = true → (p = .perst1N → s.dev.pin.headMode = true) →
    ∃ d, exec (.inputGlitch p) s = .next { s with dev := d } ∧
      s.dev.Counted d (match p with | .throtN => .THM_EXT_GLITCH | .mpgood _ => .PWR_MPGg_CNT_GLITCH | _ => .EVT_CFGn_COUNT)
        (match p with | .pwrfailN => 16 | .resetN => 17 | .vhold => 18 | .perst0N => 96 | .perst1N => 97 | .throtN => 0
                      | .mpgood g => g) 1 ∧
      s.stamped.ChangesOnly d [.evt, .out, .regs] ∧
      s.dev.FieldsOnly d (.THM_EXT_GLITCH :: .PWR_MPGg_CNT_GLITCH :: evtFields)) ∧
  (∀ s : State, s.dev.aon = true → s.dev.pin.headMode = false →
    exec (.inputGlitch .perst1N) s = .next { s with dev := s.stamped }) ∧
  (∀ s : State, s.dev.aon = true → exec .i3cSclStuck s = .next { s with dev := s.stamped })

/-- O21. With V_AON up: a fault of a slice whose buddy serves takes the slice to RESETTING with cause 2 in recovery, its line
cache cleared, and the buddy runs solo; a fault while the buddy is in reset loses both slices of the pair as a double fault;
a fault of a complex or of a head in service takes it to RESETTING in recovery, and a head drops its accepted requests; the
failure of a stack or a package in service takes it to FAILED; a pipeline fault, with no slice in recovery, begins the
pipeline's recovery and leaves every group that served DEGRADED. Power, clock, reset, thermal, boot and quench state, the
configuration and the pins are unchanged. -/
def Obligations.UnitFaultsTakeEffect : Prop :=
  (∀ (s : State) (k : Nat), s.dev.aon = true → k < 16 → s.dev.serves (sliceIx k) = true →
    s.dev.serves (sliceIx (k ^^^ 1)) = true → s.dev.qen.recovering = none →
    ∃ d, exec (.sliceFault k) s = .next { s with dev := d } ∧ d.ustate (sliceIx k) = .resetting ∧
      (d.unit (sliceIx k)).recovery = true ∧ (d.unit (sliceIx k)).cause = 2 ∧ (d.slice k).ways = [] ∧
      d.reg .SLC_STATUS_SOLO (k ^^^ 1) = 1 ∧ s.stamped.ChangesOnly d [.mgt, .cry, .evt, .freeCtr, .heads, .jrn, .med, .out, .per, .pmc, .poison, .qen, .regs, .shadow, .slices, .tal, .tier, .ust]) ∧
  (∀ (s : State) (k : Nat), s.dev.aon = true → k < 16 → s.dev.serves (sliceIx k) = true →
    s.dev.ustate (sliceIx (k ^^^ 1)) = .resetting → (s.dev.unit (sliceIx (k ^^^ 1))).testing = false →
    s.dev.qen.recovering = none →
    ∃ d, exec (.sliceFault k) s = .next { s with dev := d } ∧ d.ustate (sliceIx k) = .failed ∧
      d.ustate (sliceIx (k ^^^ 1)) = .failed ∧ d.ust.doubles = satAdd 16 s.dev.ust.doubles 1 ∧
      s.stamped.ChangesOnly d [.mgt, .cry, .evt, .freeCtr, .heads, .jrn, .med, .out, .per, .pmc, .poison, .qen, .regs, .shadow, .slices, .tal, .tier, .ust]) ∧
  (∀ (s : State) (n : Nat), s.dev.aon = true → n < 8 → s.dev.serves (complexIx n) = true →
    ∃ d, exec (.mediaComplexFault n) s = .next { s with dev := d } ∧ d.ustate (complexIx n) = .resetting ∧
      (d.unit (complexIx n)).recovery = true ∧ s.stamped.ChangesOnly d [.mgt, .cry, .evt, .freeCtr, .heads, .jrn, .med, .out, .per, .pmc, .poison, .qen, .regs, .shadow, .slices, .tal, .tier, .ust]) ∧
  (∀ (s : State) (h : Nat), s.dev.aon = true → h < s.dev.headCount → s.dev.serves (headIx h) = true →
    ∃ d, exec (.headInternalError h) s = .next { s with dev := d } ∧ d.ustate (headIx h) = .resetting ∧
      (d.unit (headIx h)).recovery = true ∧ (d.head h).live = [] ∧ s.stamped.ChangesOnly d [.mgt, .cry, .evt, .freeCtr, .heads, .jrn, .med, .out, .per, .pmc, .poison, .qen, .regs, .shadow, .slices, .tal, .tier, .ust]) ∧
  (∀ (s : State) (k : Nat), s.dev.aon = true → k < 4 → s.dev.serves (stackIx k) = true →
    ∃ d, exec (.dramStackFailure k) s = .next { s with dev := d } ∧ d.ustate (stackIx k) = .failed ∧
      s.stamped.ChangesOnly d [.cry, .evt, .freeCtr, .heads, .jrn, .med, .out, .per, .pmc, .poison, .qen, .regs, .shadow, .slices, .tal, .tier, .ust]) ∧
  (∀ (s : State) (p : Nat), s.dev.aon = true → p < 64 → s.dev.serves (packageIx p) = true →
    ∃ d, exec (.packageFailure p) s = .next { s with dev := d } ∧ d.ustate (packageIx p) = .failed ∧
      s.stamped.ChangesOnly d [.cry, .evt, .freeCtr, .heads, .jrn, .med, .out, .per, .pmc, .poison, .qen, .regs, .shadow, .slices, .tal, .tier, .ust]) ∧
  (∀ s : State, s.dev.aon = true → s.dev.qen.recovering = none → (∀ k < 16, (s.dev.unit (sliceIx k)).recovery = false) →
    ∃ d, exec .pipelineFault s = .next { s with dev := d } ∧ d.qen.recovering = some s.tb ∧
      (∀ g < 256, s.dev.serves (groupIx g) = true → d.ustate (groupIx g) = .degraded) ∧
      s.stamped.ChangesOnly d [.cry, .evt, .freeCtr, .heads, .jrn, .med, .out, .per, .pmc, .poison, .qen, .regs, .shadow, .slices, .tal, .tier, .ust])

/-- O22. With V_AON up: the recovery of a slice or a media complex that is past its reset completes with the unit in service; a
head takes the state of its link; the pipeline's recovery ends and is counted; the budget of 40 us ends any recovery of a
unit other than a link with FAILED, cause 4, and that of the pipeline. -/
def Obligations.RecoveryEndsInTimeOrFails : Prop :=
  (∀ (s : State) (u : Nat), s.dev.aon = true → unitClass u ∈ [1, 2] → s.dev.ustate u = .resetting →
    (s.dev.unit u).testing = false → (s.dev.unit u).resetPhase = 0 →
    ∃ d, exec (.recoveryComplete u) s = .next { s with dev := d } ∧ d.serves u = true ∧ s.stamped.ChangesOnly d [.cry, .evt, .freeCtr, .heads, .jrn, .med, .out, .per, .pmc, .poison, .qen, .regs, .shadow, .slices, .tal, .tier, .ust]) ∧
  (∀ (s : State) (u : Nat), s.dev.aon = true → u < 2 → s.dev.ustate u = .resetting →
    (s.dev.unit u).testing = false → (s.dev.unit u).resetPhase = 0 →
    ∃ d, exec (.recoveryComplete u) s = .next { s with dev := d } ∧ d.ustate u ∈ [.off, .online, .degraded] ∧
      s.stamped.ChangesOnly d [.cry, .evt, .freeCtr, .heads, .jrn, .med, .out, .per, .pmc, .poison, .qen, .regs, .shadow, .slices, .tal, .tier, .ust]) ∧
  (∀ (s : State) (t : Nat), s.dev.aon = true → s.dev.qen.recovering = some t →
    ∃ d, exec (.recoveryComplete pipelineIx) s = .next { s with dev := d } ∧ d.qen.recovering = none ∧
      d.ust.recovered = satAdd 24 s.dev.ust.recovered 1 ∧ s.stamped.ChangesOnly d [.cry, .evt, .freeCtr, .heads, .jrn, .med, .out, .per, .pmc, .poison, .qen, .regs, .shadow, .slices, .tal, .tier, .ust]) ∧
  (∀ (s : State) (u : Nat), s.dev.aon = true → u < 222 → unitClass u ≠ 3 → s.dev.ustate u = .resetting →
    (s.dev.unit u).recovery = true → (s.dev.unit u).since + 40000 ≤ s.tb →
    ∃ d, exec (.recoveryBudgetExceeded u) s = .next { s with dev := d } ∧ d.ustate u = .failed ∧ (d.unit u).cause = 4 ∧
      s.stamped.ChangesOnly d [.cry, .evt, .freeCtr, .heads, .jrn, .med, .out, .per, .pmc, .poison, .qen, .regs, .shadow, .slices, .tal, .tier, .ust]) ∧
  (∀ (s : State) (t : Nat), s.dev.aon = true → s.dev.qen.recovering = some t → t + 40000 ≤ s.tb →
    ∃ d, exec (.recoveryBudgetExceeded pipelineIx) s = .next { s with dev := d } ∧ d.qen.recovering = none ∧
      (∀ g < 256, s.dev.serves (groupIx g) = true → d.ustate (groupIx g) = .failed) ∧ s.stamped.ChangesOnly d [.cry, .evt, .freeCtr, .heads, .jrn, .med, .out, .per, .pmc, .poison, .qen, .regs, .shadow, .slices, .tal, .tier, .ust])

/-- O23. With V_AON up: a draining unit that is idle and holds nothing takes the state commanded, as does one whose handshake
timeout has passed, counted; a resetting unit that answers the quiesce request, or lets it time out, has its reset asserted
at the stamp, and released once its hold time has passed; a starting slice, complex or stack that passes initialisation
serves, and a package with a serving port; a start past its bound fails with cause 8; the built-in test of REPAIR ends in
service or FAILED with cause 8; a digest snapshot is freed 60 s after its last page read. -/
def Obligations.UnitDrainsAndResetsFollowTheirTimers : Prop :=
  (∀ (s : State) (u : Nat) (t : UState), s.dev.aon = true → s.dev.ustate u = .draining → (s.dev.unit u).target = some t →
    t ∈ [.quiesced, .off, .retired] → s.stamped.holdsNothing u = true → ∃ d, exec (.unitIdle u) s = .next { s with dev := d } ∧ d.ustate u = t ∧
      s.stamped.ChangesOnly d [.cry, .evt, .freeCtr, .heads, .jrn, .med, .out, .per, .pmc, .poison, .qen, .regs, .shadow, .slices, .tal, .tier, .ust]) ∧
  (∀ (s : State) (u : Nat), s.dev.aon = true → s.dev.ustate u = .resetting → (s.dev.unit u).resetPhase = 1 →
    ∃ d, exec (.unitIdle u) s = .next { s with dev := d } ∧ (d.unit u).resetPhase = 2 ∧ (d.unit u).phaseAt = s.tb ∧
      d.ustate u = .resetting ∧ s.dev.Counted d .RST_COUNT_UNIT 0 1 ∧ s.stamped.ChangesOnly d [.evt, .out, .regs, .ust]) ∧
  (∀ (s : State) (u : Nat) (t : UState), s.dev.aon = true → s.dev.ustate u = .draining → (s.dev.unit u).target = some t →
    t ∈ [.quiesced, .off, .retired] → unitClass u ∈ [1, 2, 3] → (s.dev.unit u).since + s.dev.handshakeNs u ≤ s.tb →
    ∃ d, exec (.idleHandshakeTimeout u) s = .next { s with dev := d } ∧ d.ustate u = t ∧
      s.dev.Counted d .RST_HS_TIMEOUTS 0 1 ∧ s.stamped.ChangesOnly d [.cry, .evt, .freeCtr, .heads, .jrn, .med, .out, .per, .pmc, .poison, .qen, .regs, .shadow, .slices, .tal, .tier, .ust]) ∧
  (∀ (s : State) (u : Nat), s.dev.aon = true → s.dev.ustate u = .resetting → (s.dev.unit u).resetPhase = 1 →
    (s.dev.unit u).phaseAt + s.dev.handshakeNs u ≤ s.tb →
    ∃ d, exec (.idleHandshakeTimeout u) s = .next { s with dev := d } ∧ (d.unit u).resetPhase = 2 ∧
      s.dev.Counted d .RST_COUNT_UNIT 0 1 ∧ s.dev.Counted d .RST_HS_TIMEOUTS 0 1 ∧
      s.stamped.ChangesOnly d [.evt, .out, .regs, .ust]) ∧
  (∀ (s : State) (u : Nat), s.dev.aon = true → s.dev.ustate u = .resetting → (s.dev.unit u).resetPhase = 2 →
    (s.dev.unit u).phaseAt + holdNs u ≤ s.tb →
    ∃ d, exec (.unitResetRelease u) s = .next { s with dev := d } ∧ (d.unit u).resetPhase = 0 ∧ (d.unit u).phaseAt = s.tb ∧
      d.ustate u = .resetting ∧ s.stamped.ChangesOnly d (if unitClass u = 2 then
        [.cry, .evt, .freeCtr, .jrn, .med, .out, .pmc, .regs, .tier, .ust] else [.ust])) ∧
  (∀ (s : State) (u : Nat), s.dev.aon = true → s.dev.ustate u = .starting →
    (unitClass u ∈ [1, 2, 5] ∨ unitClass u = 4 ∧ (s.dev.pkgLinks (u - 154)).any (fun x => s.dev.serves (linkIx x.2)) = true) →
    ∃ d, exec (.initialisationPassed u) s = .next { s with dev := d } ∧ d.serves u = true ∧
      s.stamped.ChangesOnly d [.cry, .evt, .freeCtr, .heads, .jrn, .med, .out, .per, .pmc, .poison, .qen, .regs, .shadow, .slices, .tal, .tier, .ust]) ∧
  (∀ (s : State) (u t : Nat), s.dev.aon = true → s.dev.ustate u = .starting → (s.dev.unit u).bound = some t → t ≤ s.tb →
    ∃ d, exec (.startBoundExpiry u) s = .next { s with dev := d } ∧ d.ustate u = .failed ∧ (d.unit u).cause = 8 ∧
      s.stamped.ChangesOnly d [.cry, .evt, .freeCtr, .heads, .jrn, .med, .out, .per, .pmc, .poison, .qen, .regs, .shadow, .slices, .tal, .tier, .ust]) ∧
  (∀ (s : State) (u : Nat) (pass : Bool), s.dev.aon = true → s.dev.ustate u = .resetting → (s.dev.unit u).testing = true →
    unitClass u ∈ [1, 2, 3, 5] → ∃ d, exec (.builtInTestDone u pass) s = .next { s with dev := d } ∧
      (pass = true → d.serves u = true) ∧ (pass = false → d.ustate u = .failed ∧ (d.unit u).cause = 8) ∧
      s.stamped.ChangesOnly d [.cry, .evt, .freeCtr, .heads, .jrn, .med, .out, .per, .pmc, .poison, .qen, .regs, .shadow, .slices, .tal, .tier, .ust]) ∧
  (∀ (s : State) (i : Nat) (x : Snapshot), s.dev.aon = true → s.dev.ust.snaps.find i = some x →
    x.lastRead + 60000000000 ≤ s.tb → ∃ d, exec (.stateDigestExpiry i) s = .next { s with dev := d } ∧
      d.ust = { s.dev.ust with snaps := s.dev.ust.snaps.del i } ∧ s.stamped.ChangesOnly d [.ust])

/-- O24. With the interface up, no common check refusing, and every check of UNIT SET STATE passing: ONLINE of a draining or
quiesced slice, complex or link returns it to service, and of an OFF slice or complex starts it; DRAINING leaves a region or
group DRAINING; QUIESCED leaves a slice or complex draining toward QUIESCED; OFF takes a region or group OFF and leaves a
slice or link draining toward OFF; RESET, and RESET_UNIT, take a slice or complex to RESETTING and a head to STARTING;
REPAIR leaves the unit RESETTING under test; RETIRE leaves it RETIRED, or a serving stack draining toward it. The reply has
return code Success and the unit reply of the state left. Power, clock, reset and quench state and the configuration are
unchanged, and boot state too but for a region's journal record under RETIRE. -/
def Obligations.UnitSetStateMovesTheUnit : Prop :=
  (∀ (s : State) (c : CmdHdr) (uid gen ix : Nat), s.Admits c 8 .own → s.stamped.UnitAllows .online uid gen ix →
    ∃ d, exec (.unitSetStateOnline c uid gen) s = .next { s with dev := d } ∧
      (s.dev.ustate ix ≠ .off → d.serves ix = true) ∧
      (s.dev.ustate ix = .off → unitClass ix ∈ [1, 2] → d.ustate ix = .starting ∧ (d.unit ix).bound.isSome = true) ∧
      (unitClass ix ∈ [6, 7] → d.serves ix = true) ∧
      s.dev.Puts d (.reply c.iface 0xC010 0 (d.unitReply uid)) ∧ s.stamped.ChangesOnly d [.mgt, .cry, .evt, .freeCtr, .heads, .jrn, .med, .out, .per, .pmc, .poison, .qen, .regs, .shadow, .slices, .tal, .tier, .ust]) ∧
  (∀ (s : State) (c : CmdHdr) (uid gen ix : Nat), s.Admits c 8 .own → s.stamped.UnitAllows .draining uid gen ix →
    ∃ d, exec (.unitSetStateDraining c uid gen) s = .next { s with dev := d } ∧ d.ustate ix = .draining ∧
      (d.unit ix).cause = 1 ∧ s.dev.Puts d (.reply c.iface 0xC010 0 (d.unitReply uid)) ∧ s.stamped.ChangesOnly d [.mgt, .cry, .evt, .freeCtr, .heads, .jrn, .med, .out, .per, .pmc, .poison, .qen, .regs, .shadow, .slices, .tal, .tier, .ust]) ∧
  (∀ (s : State) (c : CmdHdr) (uid gen ix : Nat), s.Admits c 8 .own → s.stamped.UnitAllows .quiesced uid gen ix →
    ∃ d, exec (.unitSetStateQuiesced c uid gen) s = .next { s with dev := d } ∧ d.ustate ix = .draining ∧
      (d.unit ix).target = some .quiesced ∧ s.dev.Puts d (.reply c.iface 0xC010 0 (d.unitReply uid)) ∧
      s.stamped.ChangesOnly d [.mgt, .cry, .evt, .freeCtr, .heads, .jrn, .med, .out, .per, .pmc, .poison, .qen, .regs, .shadow, .slices, .tal, .tier, .ust]) ∧
  (∀ (s : State) (c : CmdHdr) (uid gen ix : Nat), s.Admits c 8 .own → s.stamped.UnitAllows .off uid gen ix →
    ∃ d, exec (.unitSetStateOff c uid gen) s = .next { s with dev := d } ∧
      (unitClass ix ∈ [6, 7] → d.ustate ix = .off ∧ (d.unit ix).cause = 1) ∧
      (unitClass ix ∈ [1, 3] → d.ustate ix = .draining ∧ (d.unit ix).target = some .off) ∧
      s.dev.Puts d (.reply c.iface 0xC010 0 (d.unitReply uid)) ∧ s.stamped.ChangesOnly d [.mgt, .cry, .evt, .freeCtr, .heads, .jrn, .med, .out, .per, .pmc, .poison, .qen, .regs, .shadow, .slices, .tal, .tier, .ust]) ∧
  (∀ (s : State) (c : CmdHdr) (uid gen ix : Nat), s.Admits c 8 .own → s.stamped.UnitAllows .reset uid gen ix →
    (∃ d, exec (.unitSetStateReset c uid gen) s = .next { s with dev := d } ∧
      d.ustate ix = (if unitClass ix = 0 then .starting else .resetting) ∧
      s.dev.Puts d (.reply c.iface 0xC010 0 (d.unitReply uid)) ∧ s.stamped.ChangesOnly d [.mgt, .cry, .evt, .freeCtr, .heads, .jrn, .med, .out, .per, .pmc, .poison, .qen, .regs, .shadow, .slices, .tal, .tier, .ust]) ∧
    (∃ d, exec (.resetUnit c uid gen) s = .next { s with dev := d } ∧
      d.ustate ix = (if unitClass ix = 0 then .starting else .resetting) ∧
      s.dev.Puts d (.reply c.iface 0xC070 0 (d.unitReply uid)) ∧ s.stamped.ChangesOnly d [.mgt, .cry, .evt, .freeCtr, .heads, .jrn, .med, .out, .per, .pmc, .poison, .qen, .regs, .shadow, .slices, .tal, .tier, .ust])) ∧
  (∀ (s : State) (c : CmdHdr) (uid gen ix : Nat), s.Admits c 8 .own → s.stamped.UnitAllows .repair uid gen ix →
    ∃ d, exec (.unitSetStateRepair c uid gen) s = .next { s with dev := d } ∧ d.ustate ix = .resetting ∧
      (d.unit ix).testing = true ∧ s.dev.Puts d (.reply c.iface 0xC010 0 (d.unitReply uid)) ∧
      s.stamped.ChangesOnly d [.mgt, .cry, .evt, .freeCtr, .heads, .jrn, .med, .out, .per, .pmc, .poison, .qen, .regs, .shadow, .slices, .tal, .tier, .ust]) ∧
  (∀ (s : State) (c : CmdHdr) (uid gen ix : Nat), s.Admits c 8 .own → s.stamped.UnitAllows .retire uid gen ix →
    ∃ d, exec (.unitSetStateRetire c uid gen) s = .next { s with dev := d } ∧
      (¬ (unitClass ix = 5 ∧ s.dev.serves ix = true) → d.ustate ix = .retired) ∧
      (unitClass ix = 5 ∧ s.dev.serves ix = true → d.ustate ix = .draining ∧ (d.unit ix).target = some .retired) ∧
      s.dev.Puts d (.reply c.iface 0xC010 0 (d.unitReply uid)) ∧ s.stamped.ChangesOnly d [.boot, .mgt, .cry, .evt, .freeCtr, .heads, .jrn, .med, .out, .per, .pmc, .poison, .qen, .regs, .shadow, .slices, .tal, .tier, .ust])

/-- O25. With the interface up and no common check refusing, for each of the seven operations: during a quench the command is
Busy, counted, whatever it names; outside one, an identifier that names no unit is Invalid Input; an operation that the
class does not have is Unsupported; a stale generation is counted and answered Stale; a command still running for the unit
is Busy, counted; a state without a row is Invalid Input. In each the unit table is as before. -/
def Obligations.UnitSetStateRefusalsChangeNoUnit : Prop :=
  (∀ (op : UnitOp) (s : State) (c : CmdHdr) (uid gen : Nat), s.Admits c 8 .own →
    ∃ d, exec (unitCmd op c uid gen) s = .next { s with dev := d } ∧
      (s.dev.reg .JRN_STATUS_QSTATE ≠ 0 →
        d.ust = s.dev.ust ∧ s.dev.Counted d .UST_STALE_BUSY 0 1 ∧ s.dev.Puts d (.reply c.iface 0xC010 6 (d.unitReply uid))) ∧
      (s.dev.reg .JRN_STATUS_QSTATE = 0 → indexOfId uid = none →
        d.ust = s.dev.ust ∧ s.dev.Puts d (.reply c.iface 0xC010 2 (d.unitReply uid))) ∧
      (∀ ix, s.dev.reg .JRN_STATUS_QSTATE = 0 → indexOfId uid = some ix → (allowedOps (unitClass ix)).contains op = false →
        d.ust = s.dev.ust ∧ s.dev.Puts d (.reply c.iface 0xC010 3 (d.unitReply uid))) ∧
      (∀ ix, s.dev.reg .JRN_STATUS_QSTATE = 0 → indexOfId uid = some ix → (allowedOps (unitClass ix)).contains op = true →
        gen ≠ (s.dev.unit ix).gen →
        d.ust = s.dev.ust ∧ s.dev.Counted d .UST_STALE_STALE 0 1 ∧
        s.dev.Puts d (.reply c.iface 0xC010 0xC000 (d.unitReply uid))) ∧
      (∀ ix, s.dev.reg .JRN_STATUS_QSTATE = 0 → indexOfId uid = some ix → (allowedOps (unitClass ix)).contains op = true →
        gen = (s.dev.unit ix).gen → (s.dev.unit ix).running = true →
        d.ust = s.dev.ust ∧ s.dev.Counted d .UST_STALE_BUSY 0 1 ∧ s.dev.Puts d (.reply c.iface 0xC010 6 (d.unitReply uid))) ∧
      (∀ ix, s.dev.reg .JRN_STATUS_QSTATE = 0 → indexOfId uid = some ix → (allowedOps (unitClass ix)).contains op = true →
        gen = (s.dev.unit ix).gen → (s.dev.unit ix).running = false →
        s.dev.ustate ix ∉ rowsFrom (unitClass ix) op →
        d.ust = s.dev.ust ∧ s.dev.Puts d (.reply c.iface 0xC010 2 (d.unitReply uid))))

/-- O26. For every management command c: with V_AON up and its interface up, the command answers a next state in which the
newest response put out is one for its interface and its opcode; with the interface down nothing changes; and where a check
common to every command refuses it (Not Ready, Busy, Invalid Payload Length), the response carries that return code and no
payload, the refusal is counted, and nothing else of the device changes. RESET at system level is left out of the last
clause at step 15. -/
def Obligations.EveryManagementCommandIsAnswered : Prop :=
  (∀ (i : Instr) (s : State) (c : CmdHdr) (op need : Nat) (k : CmdKind), managementCmd i = some (c, op, need, k) →
    s.dev.aon = true → s.stamped.ifaceUp c = true → ∃ d rc p l rest, exec i s = .next { s with dev := d } ∧
      d.out = l ++ .reply c.iface op rc p :: rest ∧ ∀ j q r x, Output.reply j q r x ∉ l) ∧
  (∀ (i : Instr) (s : State) (c : CmdHdr) (op need : Nat) (k : CmdKind), managementCmd i = some (c, op, need, k) →
    s.dev.aon = true → s.stamped.ifaceUp c = false → exec i s = .next { s with dev := s.stamped }) ∧
  (∀ (i : Instr) (s : State) (c : CmdHdr) (op need rc : Nat) (k : CmdKind), managementCmd i = some (c, op, need, k) →
    (s.dev.step = 15 → i ≠ .resetSystem c) → s.dev.aon = true → s.stamped.ifaceUp c = true → s.stamped.gate c need k = some rc →
    rc ∉ [0, 1] → ∃ d, exec i s = .next { s with dev := d } ∧ d.out = .reply c.iface op rc [] :: s.dev.out ∧
      s.dev.Counted d .MGT_CMD_REFUSED 0 1 ∧ s.stamped.ChangesOnly d [.regs, .out] ∧ s.dev.FieldsOnly d [.MGT_CMD_REFUSED])

/-- O27. With the interface up and no common check refusing, each of these commands answers the state in which its response has
been put out and counted, and nothing else has changed: Identify, Background Operation Status without a command, Get
Supported Logs, Get Log, Get Timestamp, Identify Memory Device, Get Partition Info, Set Partition Info (Unsupported), Get
LSA, Get Health Info, Get Shutdown State, Get Alert Configuration, Get FW Info, Scan Media and the other unsupported
commands, Get Multi-Headed Info over MCTP in two-head mode. Background Operation Status of a command reports its opcode and
return code. The byte layouts are the model's, taken from the CXL standard (log entry 40). -/
def Obligations.InformationCommandsReport : Prop :=
  (∀ (s : State) (c : CmdHdr), s.Admits c 0 .read →
    exec (.identify c) s = .next { s with
    dev := s.stamped.reply c 0x0001 0 (leBytes 2 Config.vendorId ++ leBytes 2 0x9400 ++
      leBytes 4 Config.subsystemId ++ leBytes 8 s.dev.boot.serial ++ leBytes 1 13 ++ leBytes 1 3) } ∧
    (s.dev.mgt.bg.find c.iface = none →
      exec (.backgroundOperationStatus c) s = .next { s with dev := s.stamped.reply c 0x0002 0 (zeros 8) }) ∧
    (∀ b, s.dev.mgt.bg.find c.iface = some b → ∃ d pct, exec (.backgroundOperationStatus c) s = .next { s with dev := d } ∧
      d.out = .reply c.iface 0x0002 0 (leBytes 1 (b2n b.running + 2 * pct) ++ zeros 1 ++ leBytes 2 b.opcode ++ leBytes 2 b.rc ++
        zeros 2) :: s.dev.out ∧ (b.running = false → pct = b.pct) ∧ (b.running = true → pct < 100) ∧
      s.stamped.ChangesOnly d [.regs, .out, .freeCtr]) ∧
    exec (.getSupportedLogs c) s = .next { s with
    dev := s.stamped.reply c 0x0400 0 (leBytes 2 1 ++ zeros 6 ++ effectsUuid ++
      leBytes 4 effectsLog.length) } ∧
    exec (.getTimestamp c) s = .next { s with dev := s.stamped.reply c 0x0300 0 (leBytes 8 (s.dev.hostTimeOf s.tb)) } ∧
    exec (.identifyMemoryDevice c) s = .next { s with
    dev := s.stamped.reply c 0x4000 0
      (fitBytes (s.dev.runningFw.elim [] (·.version)) 16 ++ leBytes 8 (s.dev.dpaLimit / 2 ^ 28) ++ leBytes 8 0 ++
       leBytes 8 (s.dev.dpaLimit / 2 ^ 28) ++ leBytes 8 0 ++ leBytes 2 256 ++ leBytes 2 256 ++ leBytes 2 256 ++ leBytes 2 256 ++
       leBytes 4 s.dev.mgt.lsa.length ++ leBytes 3 65536 ++ leBytes 2 0 ++ leBytes 1 3 ++ leBytes 1 1) } ∧
    exec (.getPartitionInfo c) s = .next { s with
    dev := s.stamped.reply c 0x4100 0
      (leBytes 8 0 ++ leBytes 8 (s.dev.dpaLimit / 2 ^ 28) ++ leBytes 8 0 ++ leBytes 8 0) } ∧
    exec (.setPartitionInfo c) s = .next { s with dev := s.stamped.reply c 0x4101 3 [] } ∧
    exec (.getHealthInfo c) s = .next { s with
    dev := s.stamped.reply c 0x4200 0
      (leBytes 1 s.stamped.healthStatus ++ leBytes 1 s.stamped.mediaStatus ++ leBytes 1 s.stamped.additionalStatus ++
       leBytes 1 s.stamped.lifeUsed ++ leInt16 s.stamped.deviceTemp ++ leBytes 4 s.dev.dirtyShutdowns ++
       leBytes 4 (min s.dev.med.corrVol (2 ^ 32 - 1)) ++ leBytes 4 (min s.dev.med.corrPers (2 ^ 32 - 1))) } ∧
    exec (.getAlertConfiguration c) s = .next { s with
    dev := s.stamped.reply c 0x4201 0
      (leBytes 1 (u8 s.dev.mgt.alertCfg 0) ++ leBytes 1 0x1F ++ leBytes 1 90 ++ leBytes 1 (s.dev.alertAt 0) ++ leInt16 105 ++
       leInt16 s.dev.underCritical ++ leBytes 2 (s.dev.alertAt 1) ++ leBytes 2 (s.dev.alertAt 2) ++ leBytes 2 (s.dev.alertAt 3) ++
       leBytes 2 (s.dev.alertAt 4)) } ∧
    exec (.getShutdownState c) s = .next { s with dev := s.stamped.reply c 0x4203 0 (leBytes 1 s.dev.mgt.shutdownState) } ∧
    exec (.getFwInfo c) s = .next { s with
    dev := s.stamped.reply c 0x0200 0
      (leBytes 1 2 ++ leBytes 1 (s.dev.mgt.fwActive + 1 + 8 * ((s.dev.mgt.fwNext.map (· + 1)).getD 0)) ++ leBytes 1 1 ++ zeros 13 ++
       fitBytes (((s.dev.mgt.fw.find 0).map (·.version)).getD []) 16 ++
       fitBytes (((s.dev.mgt.fw.find 1).map (·.version)).getD []) 16 ++ zeros 32) } ∧
    (∀ which, exec (.scanMedia c which) s = .next { s with dev := s.stamped.reply c (0x4303 + which % 3) 3 [] }) ∧
    (∀ op, exec (.unsupportedCommand c op) s = .next { s with dev := s.stamped.reply c op 3 [] })) ∧
  (∀ (s : State) (c : CmdHdr) (off n : Nat), s.Admits c 24 .read → off + n ≤ effectsLog.length →
    exec (.getLog c effectsUuid off n) s = .next { s with dev := s.stamped.reply c 0x0401 0 (Sys2Proof.slice effectsLog off n) }) ∧
  (∀ (s : State) (c : CmdHdr) (off n : Nat), s.Admits c 8 .read → off + n ≤ s.dev.mgt.lsa.length → n ≤ 8192 →
    exec (.getLsa c off n) s = .next { s with dev := s.stamped.reply c 0x4102 0 (Sys2Proof.slice s.dev.mgt.lsa off n) }) ∧
  (∀ (s : State) (c : CmdHdr) (start limit : Nat), s.Admits c 2 .read → c.iface = 2 → s.dev.pin.headMode = true →
    exec (.getMultiHeadedInfo c start limit) s = .next { s with
    dev := s.stamped.reply c 0x5500 0
      (leBytes 1 2 ++ leBytes 1 2 ++ zeros 2 ++ leBytes 1 start ++ leBytes 1 ((([0, 1] : List Nat).drop start).take limit).length ++
       zeros 2 ++ ((([0, 1] : List Nat).drop start).take limit).flatMap (leBytes 1)) })

/-- O28. With the interface up and no common check refusing: Set Timestamp maps the host time given to the stamp of its
acceptance, for the whole device; Set LSA replaces the bytes of its range and no others; Set Shutdown State and Set Event
Interrupt Policy store their value, which Get Event Interrupt Policy then reports; Set Alert Configuration gives each alert
that its mask names its threshold and its enable, and leaves the others. Each answers Success, and nothing else of the
device changes but the command count. -/
def Obligations.SettingCommandsStore : Prop :=
  (∀ (s : State) (c : CmdHdr) (t : Nat), s.Admits c 8 .change → exec (.setTimestamp c t) s = .next { s with
    dev :=
    Dev.reply { s.stamped with evt := { s.dev.evt with hostTime := some (t % 2 ^ 64, s.tb) } } c 0x0301 0 [] }) ∧
  (∀ (s : State) (c : CmdHdr) (off : Nat) (data : List Byte), s.Admits c (8 + data.length) .change →
    off + data.length ≤ s.dev.mgt.lsa.length → ∃ l, l.length = s.dev.mgt.lsa.length ∧ Sys2Proof.slice l off data.length = data ∧
      (∀ i, (i < off ∨ off + data.length ≤ i) → l[i]? = s.dev.mgt.lsa[i]?) ∧
      exec (.setLsa c off data) s = .next { s with
    dev :=
        Dev.reply { s.stamped with mgt := { s.dev.mgt with lsa := l } } c 0x4103 0 [] }) ∧
  (∀ (s : State) (c : CmdHdr) (v : Nat), s.Admits c 1 .change → exec (.setShutdownState c v) s = .next { s with
    dev :=
    Dev.reply { s.stamped with mgt := { s.dev.mgt with shutdownState := v % 256 } } c 0x4204 0 [] }) ∧
  (∀ (s : State) (c : CmdHdr) (p : List Byte), s.Admits c 4 .change → p.length = 4 →
    ∃ d, exec (.setEventInterruptPolicy c p) s = .next { s with dev := d } ∧ d.evt.policy.find c.iface = some p ∧
      (∀ i ≠ c.iface, d.evt.policy.find i = s.dev.evt.policy.find i) ∧ d.out = .reply c.iface 0x0103 0 [] :: s.dev.out ∧
      s.stamped.ChangesOnly d [.evt, .regs, .out]) ∧
  (∀ (s : State) (c : CmdHdr) (p : List Byte), s.Admits c 0 .read → p.length = 4 → s.dev.evt.policy.find c.iface = some p →
    exec (.getEventInterruptPolicy c) s = .next { s with dev := s.stamped.reply c 0x0102 0 p }) ∧
  (∀ (s : State) (c : CmdHdr) (valid enable life high low vol pers : Nat), s.Admits c 12 .change →
    ∃ d, exec (.setAlertConfiguration c valid enable life high low vol pers) s = .next { s with dev := d } ∧
      (valid.testBit 0 = true → d.alertAt 0 = life % 256) ∧ (valid.testBit 1 = true → d.alertAt 1 = high % 65536) ∧
      (valid.testBit 2 = true → d.alertAt 2 = low % 65536) ∧ (valid.testBit 3 = true → d.alertAt 3 = vol % 65536) ∧
      (valid.testBit 4 = true → d.alertAt 4 = pers % 65536) ∧
      (∀ i < 5, valid.testBit i = false → d.alertAt i = s.dev.alertAt i ∧ d.alertOn i = s.dev.alertOn i) ∧
      (∀ i < 5, valid.testBit i = true → d.alertOn i = enable.testBit i) ∧
      d.out = .reply c.iface 0x4202 0 [] :: s.dev.out ∧ s.stamped.ChangesOnly d [.mgt, .regs, .out])

/-- O29. With the interface up and no common check refusing: Get Event Records of a log answers its overflow state and its
oldest records, at most 63, and changes nothing; Clear Event Records by handles removes the oldest records when the handles
are theirs in order, answers Invalid Handle and changes no log otherwise, and clears all records of a log that has
overflowed; the overflow ends with it. -/
def Obligations.EventLogCommandsReadAndClear : Prop :=
  (∀ (s : State) (c : CmdHdr) (n : Nat), s.Admits c 1 .read → n < 4 →
    exec (.getEventRecords c n) s = .next { s with
    dev := s.stamped.reply c 0x0100 0
      (leBytes 1 (b2n (decide (0 < (s.dev.log c.iface n).ovfCount)) + 2 * b2n (decide (63 < (s.dev.log c.iface n).recs.length))) ++
       zeros 1 ++ leBytes 2 (s.dev.log c.iface n).ovfCount ++ leBytes 8 (s.dev.log c.iface n).ovfFirst ++
       leBytes 8 (s.dev.log c.iface n).ovfLast ++ leBytes 2 ((s.dev.log c.iface n).recs.take 63).length ++ zeros 10 ++
       ((s.dev.log c.iface n).recs.take 63).flatMap LogRec.bytes) }) ∧
  (∀ (s : State) (c : CmdHdr) (n : Nat) (hs : List Nat), s.Admits c (6 + 2 * hs.length) .change → n < 4 → hs ≠ [] →
    ∃ d, exec (.clearEventRecords c n false hs) s = .next { s with dev := d } ∧
      (((s.dev.log c.iface n).recs.take hs.length).map (·.handle % 65536) = hs →
        (d.log c.iface n).recs = (s.dev.log c.iface n).recs.drop hs.length ∧ (d.log c.iface n).ovfCount = 0 ∧
        d.out = .reply c.iface 0x0101 0 [] :: s.dev.out) ∧
      (((s.dev.log c.iface n).recs.take hs.length).map (·.handle % 65536) ≠ hs →
        d.evt = s.dev.evt ∧ d.out = .reply c.iface 0x0101 0x0E [] :: s.dev.out) ∧
      (∀ i m, 4 * i + m ≠ 4 * c.iface + n → d.log i m = s.dev.log i m) ∧ s.stamped.ChangesOnly d [.evt, .regs, .out]) ∧
  (∀ (s : State) (c : CmdHdr) (n : Nat), s.Admits c 6 .change → n < 4 → (s.dev.log c.iface n).ovfCount ≠ 0 →
    ∃ d, exec (.clearEventRecords c n true []) s = .next { s with dev := d } ∧ (d.log c.iface n).recs = [] ∧
      (d.log c.iface n).ovfCount = 0 ∧ d.out = .reply c.iface 0x0101 0 [] :: s.dev.out ∧
      s.stamped.ChangesOnly d [.evt, .regs, .out])

/-- O30. With the interface up and no common check refusing: a full transfer to the inactive slot stores the object and is
validated; an initiate opens a session for its interface; a part that starts where the last ended is appended, and one that
does not is out of order and changes nothing; the end stores and validates the whole; an abort, and 60 s without a part, end
the session and leave the other slot as it is; while another interface holds the session each part is Busy and changes
nothing. -/
def Obligations.FirmwareTransferCommandsTakeEffect : Prop :=
  (∀ (s : State) (c : CmdHdr) (slot : Nat) (data : List Byte), s.Admits c (128 + data.length) .change →
    s.dev.mgt.xfer = none → s.dev.fwTarget slot = true → exec (.transferFwFull c slot data) s = .next { s with
    dev :=
      Dev.reply { s.stamped with mgt := { s.dev.mgt with fw := s.dev.mgt.fw.put (slot - 1) (s.dev.fwObj data), xfer := none } }
        c 0x0201 (if (s.dev.fwObj data).valid then 0 else 0x0A) [] }) ∧
  (∀ (s : State) (c : CmdHdr) (slot : Nat) (data : List Byte), s.Admits c (128 + data.length) .change →
    s.dev.mgt.xfer = none → s.dev.fwTarget slot = true → exec (.transferFwInitiate c slot 0 data) s = .next { s with
    dev :=
      Dev.reply { s.stamped with mgt := { s.dev.mgt with xfer := some ⟨c.iface, slot - 1, data, s.tb⟩ } } c 0x0201 0 [] }) ∧
  (∀ (s : State) (c : CmdHdr) (x : FwXfer) (off : Nat) (data : List Byte), s.Admits c (128 + data.length) .change →
    s.dev.mgt.xfer = some x → x.iface = c.iface →
    (off * 128 = x.data.length →
      exec (.transferFwContinue c off data) s = .next { s with
    dev :=
        Dev.reply { s.stamped with mgt := { s.dev.mgt with xfer := some { x with data := x.data ++ data, lastAt := s.tb } } }
          c 0x0201 0 [] } ∧
      exec (.transferFwEnd c off data) s = .next { s with
    dev :=
        Dev.reply { s.stamped with mgt := { s.dev.mgt with fw := s.dev.mgt.fw.put x.slot (s.dev.fwObj (x.data ++ data)),
                                                           xfer := none } }
          c 0x0201 (if (s.dev.fwObj (x.data ++ data)).valid then 0 else 0x0A) [] }) ∧
    (off * 128 ≠ x.data.length →
      exec (.transferFwContinue c off data) s = .next { s with dev := s.stamped.reply c 0x0201 9 [] } ∧
      exec (.transferFwEnd c off data) s = .next { s with dev := s.stamped.reply c 0x0201 9 [] })) ∧
  (∀ (s : State) (c : CmdHdr) (x : FwXfer), s.Admits c 128 .change → s.dev.mgt.xfer = some x → x.iface = c.iface →
    ∃ d, exec (.transferFwAbort c) s = .next { s with dev := d } ∧ d.mgt.xfer = none ∧
      (∀ n ≠ x.slot, d.mgt.fw.find n = s.dev.mgt.fw.find n) ∧ d.mgt.fwActive = s.dev.mgt.fwActive ∧
      d.out = .reply c.iface 0x0201 0 [] :: s.dev.out ∧ s.stamped.ChangesOnly d [.mgt, .regs, .out, .freeCtr]) ∧
  (∀ (s : State) (x : FwXfer), s.dev.aon = true → s.dev.mgt.xfer = some x → x.lastAt + 60000000000 ≤ s.tb →
    ∃ d, exec .fwTransferTimeout s = .next { s with dev := d } ∧ d.mgt.xfer = none ∧
      (∀ n ≠ x.slot, d.mgt.fw.find n = s.dev.mgt.fw.find n) ∧ s.stamped.ChangesOnly d [.mgt, .freeCtr]) ∧
  (∀ (s : State) (c : CmdHdr) (x : FwXfer) (slot off : Nat) (data : List Byte), s.Admits c (128 + data.length) .change →
    s.dev.mgt.xfer = some x → x.iface ≠ c.iface →
    (∀ i ∈ [Instr.transferFwFull c slot data, .transferFwInitiate c slot off data, .transferFwContinue c off data,
            .transferFwEnd c off data], exec i s = .next { s with dev := s.stamped.reply c 0x0201 6 [] }))

/-- O31. With the interface up and no common check refusing: an online activation that nothing refuses makes the slot active,
ends the nonce, starts its load as the interface's background command and answers that it has started; an activation at the
next reset notes the slot and changes nothing else; a load that completes starts the firmware at the stamp, unproved after
an online activation; after a core reset it makes the firmware ready and restarts the watchdog; new firmware that has not
restarted the watchdog within 2 s falls back to the other slot, the failed one marked invalid; after 1 h the floor is at
least the running firmware's security version. -/
def Obligations.FirmwareActivationTakesEffect : Prop :=
  (∀ (s : State) (c : CmdHdr) (slot : Nat), s.Admits c 2 .change → s.dev.fwRefusal slot = none → s.dev.bgRuns c.iface = false →
    ∃ d, exec (.activateFwOnline c slot) s = .next { s with dev := d } ∧ d.mgt.fwActive = slot - 1 ∧ d.mgt.fwNext = none ∧
      d.mgt.fwLoading = some (slot - 1, c.iface) ∧ d.mgt.nonce = none ∧ d.bgRuns c.iface = true ∧
      d.reg .MGT_STATUS_FALLBACK = 0 ∧ d.out = .reply c.iface 0x0202 1 [] :: s.dev.out ∧
      s.stamped.ChangesOnly d [.mgt, .regs, .out]) ∧
  (∀ (s : State) (c : CmdHdr) (slot : Nat), s.Admits c 2 .change → s.dev.fwRefusal slot = none →
    exec (.activateFwNextReset c slot) s = .next { s with
    dev :=
      Dev.reply { s.stamped with mgt := { s.dev.mgt with fwNext := some (slot - 1) } } c 0x0202 0 [] }) ∧
  (∀ (s : State) (n i : Nat), s.dev.aon = true → s.dev.mgt.fwLoading = some (n, i) →
    ∃ d, exec .fwLoadComplete s = .next { s with dev := d } ∧ d.mgt.fwLoading = none ∧ d.mgt.fwStartedAt = s.tb ∧
      d.mgt.fwUnproved = decide (i < 3) ∧ d.mgt.fwWdtResets = [] ∧ d.mgt.fwActive = s.dev.mgt.fwActive ∧
      s.stamped.ChangesOnly d [.mgt]) ∧
  (∀ s : State, s.dev.aon = true → s.dev.mgt.fwLoading = none → s.dev.mgt.fwDown = true → s.dev.rst.core = .none →
    exec .fwLoadComplete s = .next { s with
    dev := { s.stamped with
      mgt := { s.dev.mgt with fwDown := false, fwStartedAt := s.tb }, rst := { s.dev.rst with kickAt := s.tb } } }) ∧
  (∀ s : State, s.dev.aon = true → s.dev.fwReady = true → s.dev.mgt.fwUnproved = true →
    s.dev.mgt.fwStartedAt + 2000000000 ≤ s.tb →
    ∃ d, exec .fwStartTimeout s = .next { s with dev := d } ∧ d.mgt.fwActive = 1 - s.dev.mgt.fwActive ∧
      d.mgt.fwLoading = some (1 - s.dev.mgt.fwActive, 3) ∧ d.reg .MGT_STATUS_FALLBACK = 1 ∧
      (∀ o, s.dev.mgt.fw.find s.dev.mgt.fwActive = some o →
        d.mgt.fw.find s.dev.mgt.fwActive = some { o with valid := false }) ∧
      s.stamped.ChangesOnly d [.mgt, .evt, .regs, .out]) ∧
  (∀ s : State, s.dev.aon = true → s.dev.fwReady = true → s.dev.mgt.fwStartedAt + 3600000000000 ≤ s.tb →
    exec .fwFloorRaise s = .next { s with
    dev := { s.stamped with boot :=
      { s.dev.boot with fwFloor := max s.dev.boot.fwFloor (s.dev.runningFw.elim 0 (·.svn)) } } })

/-- O32. With the interface up, no common check refusing and nothing in the way of an erase, in a device whose key, map, tier
and poison tables are in their canonical form: Secure Erase leaves every slot EMPTY, no sweep, every map entry unwritten, no
poisoned line, no persistent page in the DRAM tier, no through record and no retained quench image, and answers Success;
Sanitize does the same and runs on in the background; its end is noted for its interface. -/
def Obligations.EraseRemovesKeysAndData : Prop :=
  (∀ (s : State) (c : CmdHdr), s.Admits c 0 .change → s.dev.eraseRefusal = none → s.dev.cry.slots.wf = true →
    s.dev.med.map.wf = true → s.dev.bgRuns c.iface = false →
    ∀ i ∈ [Instr.secureErase c, .sanitize c], ∃ d rc op, exec i s = .next { s with dev := d } ∧
      (∀ n, (d.slot n).st = .empty) ∧ d.cry.sweeps = [] ∧ (∀ l, d.mapEntry l = mapUnwritten) ∧ d.poison.lines = [] ∧
      (∀ p, isLpn p = true → d.tier.find p = none) ∧ d.per.thru = [] ∧ d.qch.images = [] ∧ d.med.staged = [] ∧
      s.dev.Puts d (.reply c.iface op rc []) ∧
      (i = .secureErase c → op = 0x4401 ∧ rc = 0) ∧
      (i = .sanitize c → op = 0x4400 ∧ rc = 1 ∧ d.mgt.sanitizing = some c.iface ∧ d.bgRuns c.iface = true) ∧
      s.stamped.ChangesOnly d [.cry, .evt, .jrn, .med, .mgt, .out, .per, .poison, .qch, .regs, .tier]) ∧
  (∀ (s : State) (i : Nat), s.dev.aon = true → s.dev.mgt.sanitizing = some i → s.dev.fwReady = true →
    ∃ d, exec .sanitizeComplete s = .next { s with dev := d } ∧ d.mgt.sanitizing = none ∧
      (∀ b, s.dev.mgt.bg.find i = some b → b.opcode = 0x4400 → b.running = true →
        d.mgt.bg.find i = some { b with pct := 100, rc := 0, running := false }) ∧
      d.med.map = s.dev.med.map ∧ d.med.pages = s.dev.med.pages ∧
      s.stamped.ChangesOnly d [.evt, .freeCtr, .jrn, .med, .mgt, .out, .regs])

/-- O33. With the interface up and no common check refusing: the first chunk opens the session of its interface on the target
slot, which is RECEIVING and holds the chunk; a chunk at the next offset is appended; the last chunk closes the session and
starts the background validation; a chunk at another offset ends the session with the slot INVALID, as do 60 s without a
chunk; the end of validation leaves the slot STAGED or INVALID as the checks of the image say, with their result and section
in IMG_STATUS. -/
def Obligations.ImageStagingTakesEffect : Prop :=
  (∀ (s : State) (c : CmdHdr) (data : List Byte), s.Admits c (8 + data.length) .change → data ≠ [] → data.length ≤ 4096 →
    s.dev.boot.stage = none → s.dev.boot.validating = none →
    ∃ d, exec (.imageStageChunk c 0 data) s = .next { s with dev := d } ∧
      d.boot.stage = some ⟨c.iface, s.dev.stageTarget, data.length, s.tb⟩ ∧
      d.boot.slotState s.dev.stageTarget = .receiving ∧ d.boot.bytes s.dev.stageTarget = data ∧
      d.reg .IMG_STATUS_STAGE_STATE = 1 ∧
      d.out = .reply c.iface 0xC020 0 (d.stageReply 0 s.dev.stageTarget data.length) :: s.dev.out ∧
      s.stamped.ChangesOnly d [.boot, .regs, .out]) ∧
  (∀ (s : State) (c : CmdHdr) (t : StageSession) (data : List Byte), s.Admits c (8 + data.length) .change → data ≠ [] →
    data.length ≤ 4096 → s.dev.boot.stage = some t → s.dev.boot.validating = none → t.iface = c.iface → t.slot < 2 →
    t.next + data.length ≤ 2 ^ 22 → s.dev.bgRuns c.iface = false →
    (∃ d, exec (.imageStageChunk c t.next data) s = .next { s with dev := d } ∧
      d.boot.stage = some { t with next := t.next + data.length, lastAt := s.tb } ∧
      d.boot.bytes t.slot = s.dev.boot.bytes t.slot ++ data ∧
      d.out = .reply c.iface 0xC020 0 (d.stageReply 0 t.slot (t.next + data.length)) :: s.dev.out ∧
      s.stamped.ChangesOnly d [.boot, .regs, .out]) ∧
    (∃ d, exec (.imageStageLast c t.next data) s = .next { s with dev := d } ∧ d.boot.stage = none ∧
      d.boot.validating = some (t.slot, c.iface) ∧ d.boot.bytes t.slot = s.dev.boot.bytes t.slot ++ data ∧
      d.reg .IMG_STATUS_STAGE_STATE = 2 ∧ d.bgRuns c.iface = true ∧
      d.out = .reply c.iface 0xC020 1 (d.stageReply 0 t.slot (t.next + data.length)) :: s.dev.out ∧
      s.stamped.ChangesOnly d [.boot, .mgt, .regs, .out]) ∧
    (∀ off, off ≠ t.next → ∃ d, exec (.imageStageChunk c off data) s = .next { s with dev := d } ∧ d.boot.stage = none ∧
      d.boot.slotState t.slot = .invalid ∧ d.reg .IMG_STATUS_STAGE_STATE = 4 ∧ d.reg .IMG_STATUS_LAST_RESULT = 0x0F ∧
      d.out = .reply c.iface 0xC020 2 (d.stageReply 0x0F t.slot t.next) :: s.dev.out)) ∧
  (∀ (s : State) (t : StageSession), s.dev.aon = true → s.dev.boot.stage = some t → t.lastAt + 60000000000 ≤ s.tb →
    ∃ d, exec .stagingTimeout s = .next { s with dev := d } ∧ d.boot.stage = none ∧ d.boot.slotState t.slot = .invalid ∧
      d.reg .IMG_STATUS_STAGE_STATE = 4 ∧ s.stamped.ChangesOnly d [.boot, .regs]) ∧
  (∀ (s : State) (n i : Nat), s.dev.aon = true → s.dev.boot.validating = some (n, i) → s.dev.fwReady = true →
    ∃ d, exec .imageValidationDone s = .next { s with dev := d } ∧ d.boot.validating = none ∧
      d.boot.slotState n = (if (s.dev.validate (s.dev.boot.bytes n)).1 = 0 then .staged else .invalid) ∧
      d.reg .IMG_STATUS_LAST_RESULT = (s.dev.validate (s.dev.boot.bytes n)).1 % 2 ^ (Fld.info .IMG_STATUS_LAST_RESULT).width ∧
      d.reg .IMG_STATUS_LAST_SECTION =
        (s.dev.validate (s.dev.boot.bytes n)).2.1 % 2 ^ (Fld.info .IMG_STATUS_LAST_SECTION).width ∧
      s.stamped.ChangesOnly d [.boot, .mgt, .regs])

/-- O34. With the interface up, no common check refusing, the expected activation sequence and a STAGED or PREVIOUS slot: where
the image validates and its change is compatible, a dry run answers OK and changes no more than the result fields, and an
activation makes the slot ACTIVE and the source of the image in force, with the activation sequence one higher, the result
0, and under COMMIT_SVN the security floor at least the image's; where it does not validate the result is the check's and
the image in force stays. A wrong sequence is Stale and changes nothing of the image. IMAGE QUERY changes nothing but the
command count. A roll that is due takes its next slice to the new plan, and the last one ends the roll: the plan is in
force, but for partitions that wait. -/
def Obligations.ImageActivationTakesEffect : Prop :=
  (∀ (s : State) (c : CmdHdr) (slot : Nat) (dry commit : Bool), s.Admits c 8 .change → s.dev.boot.stage = none →
    s.dev.boot.validating = none → slot < 2 → s.dev.boot.slotState slot ∈ [.staged, .previous] →
    ∃ d p, exec (.imageActivate c slot dry commit (s.dev.reg .IMG_SEQ_ACT_SEQ)) s = .next { s with dev := d } ∧
      match s.dev.validate (s.dev.boot.bytes slot) with
      | (r, sec, none) => d.cfg = s.dev.cfg ∧ d.boot = s.dev.boot ∧
          d.reg .IMG_STATUS_LAST_RESULT = r % 2 ^ (Fld.info .IMG_STATUS_LAST_RESULT).width ∧
          d.reg .IMG_STATUS_LAST_SECTION = sec % 2 ^ (Fld.info .IMG_STATUS_LAST_SECTION).width ∧
          s.dev.Puts d (.reply c.iface 0xC021 (imgRc r) p) ∧ s.stamped.ChangesOnly d [.regs, .out, .evt, .freeCtr]
      | (_, _, some new) =>
        match s.dev.cfg.bind (fun old => s.dev.liveRefusal old new) with
        | some sec => d.cfg = s.dev.cfg ∧ d.boot = s.dev.boot ∧ d.reg .IMG_STATUS_LAST_RESULT = 0x0C ∧
            d.reg .IMG_STATUS_LAST_SECTION = sec % 2 ^ (Fld.info .IMG_STATUS_LAST_SECTION).width ∧
            s.dev.Puts d (.reply c.iface 0xC021 2 p)
        | none => d.reg .IMG_STATUS_LAST_RESULT = 0 ∧ s.dev.Puts d (.reply c.iface 0xC021 0 p) ∧
            (dry = true → d.cfg = s.dev.cfg ∧ s.stamped.ChangesOnly d [.regs, .out, .evt, .freeCtr]) ∧
            (dry = false → d.cfg.isSome = true ∧ d.boot.slotState slot = .active ∧
              d.reg .IMG_STATUS_ACTIVE_SLOT = slot ∧
              d.reg .IMG_SEQ_ACT_SEQ = (s.dev.reg .IMG_SEQ_ACT_SEQ + 1) % 2 ^ (Fld.info .IMG_SEQ_ACT_SEQ).width ∧
              (commit = true → new.svn ≤ d.boot.svnFloor) ∧ s.dev.boot.svnFloor ≤ d.boot.svnFloor)) ∧
  (∀ (s : State) (c : CmdHdr) (slot seq : Nat) (dry commit : Bool), s.Admits c 8 .change → seq ≠ s.dev.reg .IMG_SEQ_ACT_SEQ →
    ∃ d p, exec (.imageActivate c slot dry commit seq) s = .next { s with dev := d } ∧
      d.out = .reply c.iface 0xC021 0xC000 p :: s.dev.out ∧ s.stamped.ChangesOnly d [.regs, .out, .freeCtr] ∧
      s.dev.FieldsOnly d [.MGT_CMD_REFUSED]) ∧
  (∀ (s : State) (c : CmdHdr), s.Admits c 0 .read → ∃ p, exec (.imageQuery c) s = .next { s with
    dev :=
    s.stamped.reply c 0xC022 0 p } ∧ p.take 4 = leBytes 4 (s.stamped.word .IMG_STATUS_ACTIVE_SLOT)) ∧
  (∀ (s : State) (t : TierCfg) (k : Nat) (rest : List Nat), s.Running → s.dev.boot.rollTier = some t →
    s.dev.boot.rollQueue = k :: rest → s.dev.boot.rollAt + 1000000 ≤ s.tb →
    ∃ d, exec .tierplanSliceRoll s = .next { s with dev := d } ∧ (d.slice k).planned = s.tb ∧
      (∀ e ∈ (d.slice k).ways, e.1 % 24 < t.waysInUse) ∧ (rest ≠ [] → d.boot.rollQueue = rest ∧ d.boot.rollAt = s.tb) ∧
      (rest = [] → d.boot.rollTier = none ∧ d.cfg.map (·.tier.waysInUse) = s.dev.cfg.map (fun _ => t.waysInUse) ∧
        (d.boot.tierWait = none → d.cfg.map (·.tier) = s.dev.cfg.map (fun _ => t)) ∧
        (d.boot.tierWait = none ∨ d.boot.tierWait = some t)) ∧
      s.stamped.ChangesOnly d [.boot, .cfg, .cry, .evt, .freeCtr, .heads, .jrn, .med, .out, .per, .pmc, .poison, .qen, .regs,
        .shadow, .slices, .tal, .tier, .ust])

/-- O35. With the interface up, no common check refusing, and the key path open: loading a data key into an EMPTY slot of a
region's or queue set's allocation under the owner secret leaves the slot ACTIVE with the unwrapped key and a generation one
higher, or, where the key does not unwrap, changes no slot and counts the failure; loading the owner secret in a secured
session while every slot is EMPTY stores it; retiring an ACTIVE slot leaves it EMPTY with its key gone. No other slot
changes. Lockdown by CRY_CTL is entered with cause 0. -/
def Obligations.KeyCommandsTakeEffect : Prop :=
  (∀ (s : State) (c : CmdHdr) (n : Nat) (o blob : List Byte), s.Admits c 48 .change → n < 4096 → s.dev.keyGate c = none →
    s.dev.cry.owner = some o → (s.dev.slot n).st = .empty → (s.dev.slotAlloc n).1 < 2 →
    ∃ d, exec (.keyLoadDataKey c n (s.dev.slot n).gen false blob) s = .next { s with dev := d } ∧
      (∀ m ≠ n, d.slot m = s.dev.slot m) ∧ s.stamped.ChangesOnly d [.cry, .evt, .jrn, .out, .regs] ∧
      match Config.keyUnwrap o n (s.dev.slot n).gen (blob.take 40) with
      | some k => d.slot n = { st := .active, gen := ((s.dev.slot n).gen + 1) % 65536, key := k, sweep := 0 } ∧
          s.dev.Puts d (.reply c.iface 0xC030 0 (d.slotReply n))
      | none => d.slot n = s.dev.slot n ∧ s.dev.Counted d .CRY_ERR1_UNWRAP 0 1 ∧
          s.dev.Puts d (.reply c.iface 0xC030 2 (d.slotReply n))) ∧
  (∀ (s : State) (c : CmdHdr) (n : Nat) (secret : List Byte), s.Admits c 40 .change → n < 4096 → s.dev.keyGate c = none →
    c.secured = true → (∀ e ∈ s.dev.cry.slots, e.2.st = .empty) →
    exec (.keyLoadOwnerSecret c n (s.dev.slot n).gen secret) s = .next { s with
      dev := Dev.reply { s.stamped with cry := { s.dev.cry with owner := some (secret.take 32) } } c 0xC030 0
        (s.dev.slotReply n) }) ∧
  (∀ (s : State) (c : CmdHdr) (n : Nat), s.Admits c 4 .change → n < 4096 → s.dev.keyGate c = none →
    (s.dev.slot n).st = .active → ∃ d, exec (.keyRetire c n (s.dev.slot n).gen) s = .next { s with dev := d } ∧
      d.slot n = { st := .empty, gen := ((s.dev.slot n).gen + 1) % 65536, key := 0, sweep := 0 } ∧
      (∀ m ≠ n, d.slot m = s.dev.slot m) ∧ s.dev.Puts d (.reply c.iface 0xC031 0 (d.slotReply n)) ∧
      s.stamped.ChangesOnly d [.cry, .evt, .jrn, .out, .regs]) ∧
  (∀ s : State, s.dev.aon = true → s.dev.flag .CRY_STATUS_LOCKED = false →
    ∃ d, exec .cryLockdownWrite s = .next { s with dev := d } ∧ d.reg .CRY_STATUS_LOCKED = 1 ∧
      d.reg .CRY_STATUS_LOCK_CAUSE = 0 ∧ d.reg .CRY_CTL_LOCKDOWN = 1 ∧ s.stamped.ChangesOnly d [.evt, .out, .regs])

/-- O36. With the interface up, no common check refusing and the key path open: a start whose checks pass takes k to SWEEP-OLD
and j to SWEEP-NEW with the key that unwraps, and the sweep runs from BASE; pause and resume change its state. In a running
device a running sweep passes pages that hold nothing to the next that does; a step that ends within 2 us moves the boundary
one page on, and at LIMIT ends the sweep with the new key in k and j EMPTY; a step past 2 us is abandoned, counted, and
tried again after its retry time. -/
def Obligations.SweepCommandsTakeEffect : Prop :=
  (∀ (s : State) (c : CmdHdr) (r : RegionRec) (k j base limit n : Nat) (blob : List Byte), s.Admits c 72 .change →
    s.dev.keyGate c = none → (s.dev.slot k).st = .active → s.dev.region r.number = some r → r.rtype ≠ .queue →
    freeKey s.dev.cry.sweeps 4 = some n → r.keyBase ≤ k → k < r.keyBase + 2 ^ r.aliasW → (s.dev.slot j).st = .empty →
    (s.dev.slotAlloc j).1 = 2 → base % 4096 = 0 → limit % 4096 = 0 → base < limit → limit ≤ s.dev.sweepEnd r →
    ∃ d, exec (.reheatStart c r.number k (s.dev.slot k).gen j base limit blob) s = .next { s with dev := d } ∧
      match (s.dev.unwrap j blob).1 with
      | some key => (d.slot k).st = .sweepOld ∧ (d.slot k).key = (s.dev.slot k).key ∧ (d.slot j).st = .sweepNew ∧
          (d.slot j).key = key ∧ d.cry.sweeps.find n = 
            some { st := 1, region := r.number, k := k, j := j, base := base, limit := limit, d := base, step := some s.tb } ∧
          s.dev.Puts d (.reply c.iface 0xC032 0 (d.sweepReply n))
      | none => d.cry.sweeps = s.dev.cry.sweeps ∧ d.cry.slots = s.dev.cry.slots ∧ s.dev.Puts d (.reply c.iface 0xC032 2 [])) ∧
  (∀ (s : State) (c : CmdHdr) (n : Nat) (w : Sweep), s.Admits c 72 .change → s.dev.cry.sweeps.find n = some w →
    (w.st ≠ 2 → ∃ d, exec (.reheatPause c n) s = .next { s with dev := d } ∧
      d.cry.sweeps.find n = some { w with st := 2, step := none, retryAt := s.tb } ∧
      d.out = .reply c.iface 0xC032 0 (d.sweepReply n) :: s.dev.out ∧ s.stamped.ChangesOnly d [.cry, .out, .regs]) ∧
    (w.st ≠ 1 → ∃ d, exec (.reheatResume c n) s = .next { s with dev := d } ∧
      d.cry.sweeps.find n = some { w with st := 1, step := some s.tb, retryAt := s.tb } ∧
      d.out = .reply c.iface 0xC032 0 (d.sweepReply n) :: s.dev.out ∧ s.stamped.ChangesOnly d [.cry, .out, .regs])) ∧
  (∀ (s : State) (c : CmdHdr), s.Admits c 0 .read → exec (.reheatStatus c) s = .next { s with
    dev := s.stamped.reply c 0xC033 0 ((List.range 4).flatMap (fun n => (s.dev.sweepRegs n).flatMap (leBytes 8))) }) ∧
  (∀ (s : State) (n : Nat) (w : Sweep) (r : RegionRec), s.Running → s.dev.cry.sweeps.find n = some w →
    s.dev.region w.region = some r → w.st = 1 → s.dev.sweepClear r (w.d / 4096) = true → s.dev.sweepNext r w.d w.limit < w.limit →
    ∃ d, exec (.reheatStep n) s = .next { s with dev := d } ∧
      d.cry.sweeps.find n = some { w with d := s.dev.sweepNext r w.d w.limit, abandons := 0 } ∧
      s.stamped.ChangesOnly d [.cry, .jrn]) ∧
  (∀ (s : State) (n t : Nat) (w : Sweep) (r : RegionRec), s.Running → s.dev.cry.sweeps.find n = some w →
    s.dev.region w.region = some r → w.st = 1 → s.dev.sweepClear r (w.d / 4096) = false → w.step = some t → t ≤ s.tb →
    s.tb < t + 2000 → w.k ≠ w.j → ∃ d, exec (.reheatStep n) s = .next { s with dev := d } ∧
      (w.d + 4096 < w.limit → ∃ u, s.tb ≤ u ∧ d.cry.sweeps.find n = 
        some { w with d := w.d + 4096, pages := w.pages + 1, step := some u, abandons := 0 }) ∧
      (w.limit ≤ w.d + 4096 → d.cry.sweeps.find n = none ∧ (d.slot w.k).st = .active ∧ (d.slot w.k).key = (s.dev.slot w.j).key ∧
        (d.slot w.j).st = .empty)) ∧
  (∀ (s : State) (n t : Nat) (w : Sweep), s.dev.aon = true → s.dev.cry.sweeps.find n = some w → w.step = some t →
    t + 2000 ≤ s.tb → ∃ d, exec (.reheatStepTimeout n) s = .next { s with dev := d } ∧
      d.cry.sweeps.find n = 
        some { w with step := none, abandons := w.abandons + 1, retryAt := s.tb + ((s.dev.cfg.map (·.crypto.rhRetryUs)).getD 50) * 1000 } ∧
      s.dev.Counted d .CRY_RHs_CNT_ABANDONS n 1 ∧ s.stamped.ChangesOnly d [.cry, .evt, .out, .regs]) ∧
  (∀ (s : State) (n : Nat) (w : Sweep), s.Running → s.dev.cry.sweeps.find n = some w → w.st = 1 → w.step = none →
    w.retryAt ≤ s.tb → ∃ d, exec (.reheatStepRetry n) s = .next { s with dev := d } ∧
      d.cry.sweeps.find n = some { w with step := some s.tb } ∧ s.stamped.ChangesOnly d [.cry])

/-- O37. With the interface up and no common check refusing: a RESET at core or system level that finds none waiting is noted
with its level, interface and acceptance stamp, which it answers; with one waiting both are Busy; RESET at system level over
MCTP is accepted in the halt at step 15; QUENCH in a running device begins a quench with trigger 5, the ending it names and
T_q at its acceptance stamp, and answers the quench number and T_q. -/
def Obligations.ResetAndQuenchCommandsTakeEffect : Prop :=
  (∀ (s : State) (c : CmdHdr), s.Admits c 8 .change → s.dev.rst.pend = none →
    exec (.resetCore c) s = .next { s with
      dev := Dev.reply { s.stamped with rst := { s.dev.rst with pend := some ⟨1, c.iface, s.tb⟩ } } c 0xC070 0 (leBytes 8 s.tb) } ∧
    (s.dev.step ≠ 15 → exec (.resetSystem c) s = .next { s with
      dev := Dev.reply { s.stamped with rst := { s.dev.rst with pend := some ⟨2, c.iface, s.tb⟩ } } c 0xC070 0
        (leBytes 8 s.tb) })) ∧
  (∀ (s : State) (c : CmdHdr), s.dev.aon = true → s.stamped.ifaceUp c = true → c.iface = 2 → 8 ≤ c.len → s.dev.step = 15 →
    s.dev.flag .PWR_STEP_HALTED = true → s.dev.rst.pend = none → exec (.resetSystem c) s = .next { s with
      dev := Dev.reply { s.stamped with rst := { s.dev.rst with pend := some ⟨2, c.iface, s.tb⟩ } } c 0xC070 0 (leBytes 8 s.tb) }) ∧
  (∀ (s : State) (c : CmdHdr), s.Admits c 8 .change → s.dev.rst.pend.isSome = true →
    exec (.resetCore c) s = .next { s with dev := s.stamped.reply c 0xC070 6 [] } ∧
    exec (.quench c 0) s = .next { s with dev := s.stamped.reply c 0xC080 6 [] }) ∧
  (∀ (s : State) (c : CmdHdr) (e : Nat), s.Running → s.Admits c 8 .change → e < 2 → s.dev.rst.pend = none →
    ∃ d, exec (.quench c e) s = .next { s with dev := d } ∧ d.QuenchBegun 5 e s.tb ∧
      s.dev.Puts d (.reply c.iface 0xC080 0 (leBytes 8 d.qch.id ++ leBytes 8 s.tb)))

/-- O38. With the interface up and no common check refusing: QUEUE PARAM with parameters inside their ranges, a key index of the
set's allocation, and an empty queue where the key index moves, stores each parameter given and answers the values in force;
QUEUE RESET of a queue whose group exists, with its generation, empties the queue, closes its open frame, moves its head to
its tail and counts the reset; of a group in service it does so for its 512 queues, passing through RESETTING back to its
earlier state with a generation two higher. -/
def Obligations.QueueCommandsTakeEffect : Prop :=
  (∀ (s : State) (c : CmdHdr) (q : Nat) (x : QueueSet) (ki maxKib t : Option Nat), s.Admits c 16 .change →
    s.dev.setOfQueue q = some x →
    (∀ k, ki = some k → s.dev.queueKeyAllowed x.setId k = true ∧
      (k ≠ s.dev.queueKey q → (s.dev.queue q).frames = [] ∧ (s.dev.queue q).isOpen = false)) →
    (∀ m, maxKib = some m → m ≤ 4194304) → (∀ u, t = some u → 10 ≤ u ∧ u ≤ 60000) →
    ∃ d, exec (.queueParam c q ki maxKib t) s = .next { s with dev := d } ∧
      (∀ k, ki = some k → d.queueKey q = k) ∧ (∀ m, maxKib = some m → d.queueLimit q = m * 1024) ∧
      (∀ u, t = some u → d.queueTimeout q = u) ∧
      d.queue q = { s.dev.queue q with ki := (d.queue q).ki, maxKib := (d.queue q).maxKib, timeoutUs := (d.queue q).timeoutUs } ∧
      (∀ p ≠ q, d.queue p = s.dev.queue p) ∧ d.out = .reply c.iface 0xC050 0 (d.queueReply q) :: s.dev.out ∧
      s.stamped.ChangesOnly d [.qen, .out, .regs]) ∧
  (∀ (s : State) (c : CmdHdr) (q : Nat), s.Admits c 8 .own → groupOf q < 256 → s.dev.reg .JRN_STATUS_QSTATE = 0 →
    (s.dev.unit (groupIx (groupOf q))).running = false → s.dev.ustate (groupIx (groupOf q)) ≠ .absent →
    ∃ d, exec (.queueResetQueue c q (s.dev.unit (groupIx (groupOf q))).gen) s = .next { s with dev := d } ∧
      (d.queue q).frames = [] ∧ (d.queue q).asm = .idle ∧ (d.queue q).headSeq = (s.dev.queue q).tailSeq ∧
      (d.queue q).tailSeq = (s.dev.queue q).tailSeq ∧ (d.queue q).resets = ((s.dev.queue q).resets + 1) % 256 ∧
      d.stranded q = true ∧ (∀ p ≠ q, d.queue p = s.dev.queue p) ∧ d.ust = s.dev.ust ∧
      s.dev.Puts d (.reply c.iface 0xC051 0 (d.unitReply (unitIdOf (groupIx (groupOf q))) ++ leBytes 8 s.tb))) ∧
  (∀ (s : State) (c : CmdHdr) (g : Nat), s.Admits c 8 .own → g < 256 → s.dev.reg .JRN_STATUS_QSTATE = 0 →
    (s.dev.unit (groupIx g)).running = false → s.dev.ustate (groupIx g) ∈ [.online, .degraded, .draining] →
    ∃ d, exec (.queueResetGroup c g (s.dev.unit (groupIx g)).gen) s = .next { s with dev := d } ∧
      (∀ i < 512, (d.queue (512 * g + i)).frames = [] ∧ (d.queue (512 * g + i)).asm = .idle) ∧
      d.ustate (groupIx g) = s.dev.ustate (groupIx g) ∧
      (d.unit (groupIx g)).gen = ((s.dev.unit (groupIx g)).gen + 2) % 65536 ∧
      (∀ p, groupOf p ≠ g → d.queue p = s.dev.queue p) ∧
      s.dev.Puts d (.reply c.iface 0xC051 0 (d.unitReply (unitIdOf (groupIx g)) ++ leBytes 8 s.tb)))

/-- O39. With the interface up and no common check refusing: a snapshot at a stamp ahead of now is noted as the set's boundary;
one for now, with the configuration of that stamp the one in force, is noted or its copy starts; REGION COMMIT with the
expected epoch and a delta that is neither in overflow nor unpersisted makes the delta the committed contents, the epoch one
higher and the shadow state IDLE; DISCARD drops the delta and keeps the epoch; a stale epoch changes nothing of the delta,
the committed contents or the epoch and is answered Stale; a forced REGRAFT of an entry of the orchard notes it as running
and answers the first graft value; its end is noted. -/
def Obligations.SnapshotCommitAndRegraftCommands : Prop :=
  (∀ (s : State) (c : CmdHdr) (set b : Nat) (x : CounterSet), s.Admits c 16 .change → s.dev.counterSet set = some x →
    x.snapRegion ≠ 255 → s.tb < b → b ≤ s.tb + 10000000000 → (s.dev.talSet set).copy = none → (s.dev.talSet set).at_ = none →
    s.dev.memActive = true → ∃ d id, exec (.tallySnapshotAt c set b) s = .next { s with dev := d } ∧
      (d.talSet set).at_ = some b ∧ (d.talSet set).copy = none ∧
      s.dev.Puts d (.reply c.iface 0xC060 0 (leBytes 8 id ++ leBytes 8 b ++ leBytes 1 (id % 2) ++ zeros 7)) ∧
      s.stamped.ChangesOnly d [.tal, .out, .regs, .freeCtr]) ∧
  (∀ (s : State) (c : CmdHdr) (set : Nat) (x : CounterSet), s.Admits c 16 .change → s.dev.counterSet set = some x →
    x.snapRegion ≠ 255 → (s.dev.talSet set).copy = none → (s.dev.talSet set).at_ = none → s.dev.memActive = true →
    s.dev.cfgAt s.tb = s.dev.cfg → ∃ d id, exec (.tallySnapshotNow c set) s = .next { s with dev := d } ∧
      ((d.talSet set).at_ = some s.tb ∨ (d.talSet set).copy.isSome = true) ∧
      s.dev.Puts d (.reply c.iface 0xC060 0 (leBytes 8 id ++ leBytes 8 s.tb ++ leBytes 1 (id % 2) ++ zeros 7))) ∧
  (∀ (s : State) (c : CmdHdr) (r : RegionRec) (e : Nat), s.Admits c 16 .change → s.dev.region r.number = some r →
    r.rtype = .table → r.shadow = true → s.stamped.offline r (.control 0) false = false →
    ∃ d g, exec (.regionCommitCommit c r.number e) s = .next { s with dev := d } ∧
      exec (.regionCommitDiscard c r.number e) s = .next { s with dev := g } ∧
      (e = (s.dev.shadowOf r.number).epoch →
        (d.reg .RGN_SHADOW_LAST_RESULT r.number = 0 → (d.shadowOf r.number).state = 0 ∧ (d.shadowOf r.number).delta = [] ∧
          (d.shadowOf r.number).epoch = (e + 1) % 2 ^ 64 ∧ (d.shadowOf r.number).committedAt = s.tb ∧
          (d.shadowOf r.number).folding = (s.dev.shadowOf r.number).delta) ∧
        ((s.dev.shadowOf r.number).state ≠ 2 →
          (∀ x ∈ (s.dev.shadowOf r.number).delta, (s.dev.page (s.dev.pid r true x.2)).unpers = false) →
          d.reg .RGN_SHADOW_LAST_RESULT r.number = 0) ∧
        s.dev.Puts d (.reply c.iface 0xC040 0 (d.commitReply r.number)) ∧
        (g.shadowOf r.number).state = 0 ∧ (g.shadowOf r.number).delta = [] ∧ (g.shadowOf r.number).epoch = e ∧
        g.reg .RGN_SHADOW_LAST_RESULT r.number = 5 ∧ s.dev.Puts g (.reply c.iface 0xC040 0 (g.commitReply r.number))) ∧
      (e ≠ (s.dev.shadowOf r.number).epoch → d.shadowOf r.number = { s.dev.shadowOf r.number with dropped := [] } ∧
        d.reg .RGN_SHADOW_LAST_RESULT r.number = 1 ∧ s.dev.Puts d (.reply c.iface 0xC040 0xC000 (d.commitReply r.number)) ∧
        g.shadowOf r.number = { s.dev.shadowOf r.number with dropped := [] })) ∧
  (∀ (s : State) (c : CmdHdr) (level index : Nat), s.Admits c 16 .change → level ≤ 10 → index < ceilDiv (2 ^ 32) (8 ^ level) →
    ∃ d, exec (.orchardRegraft c level index true) s = .next { s with dev := d } ∧ d.cry.regraft = some (level, index) ∧
      d.cry.orphans = graftAt s.dev.cry.orphans (level, index) ∧
      s.dev.Puts d (.reply c.iface 0xC0D0 0 (leBytes 1 level ++ zeros 7 ++ leBytes 8 index ++ leBytes 8 s.dev.cry.graft))) ∧
  (∀ s : State, s.Running → s.dev.cry.regraft.isSome = true → exec .regraftComplete s = .next { s with
    dev := { s.stamped with cry := { s.dev.cry with regraft := none } } })

/-- O40. With the interface up and no common check refusing: MEDIA HEALTH of the device, of a present package or of one of its
dies answers its scope and the timebase and changes nothing but the command count; PACKAGE REPLACE with the package's
generation retires a FAILED package that is rebuilt and a DRAINING one that no map entry names, and drains one in service
under EVACUATE; Get Poison List changes nothing of the data; Inject Poison of a line of a main window whose page it can
write leaves it poisoned; Clear Poison of such a line ends its poison, or finds the line lost. -/
def Obligations.HealthPackageAndPoisonCommands : Prop :=
  (∀ (s : State) (c : CmdHdr) (p k : Nat), s.Admits c 8 .read →
    exec (.mediaHealth c 0 p k 0 0) s = .next { s with
      dev := s.stamped.reply c 0xC0B0 0 (leBytes 1 0 ++ zeros 7 ++ leBytes 8 s.tb ++ s.stamped.healthDevice) } ∧
    (p < 64 → s.dev.ustate (packageIx p) ≠ .absent → exec (.mediaHealth c 1 p k 0 0) s = .next { s with
      dev := s.stamped.reply c 0xC0B0 0 (leBytes 1 1 ++ zeros 7 ++ leBytes 8 s.tb ++ s.stamped.unitReply (unitIdOf (packageIx p)) ++
        s.stamped.healthPackage p) }) ∧
    (p < 64 → s.dev.ustate (packageIx p) ≠ .absent → k < 16 → k < s.dev.diesPerPkg →
      exec (.mediaHealth c 2 p k 0 0) s = .next { s with
        dev := s.stamped.reply c 0xC0B0 0 (leBytes 1 2 ++ zeros 7 ++ leBytes 8 s.tb ++ s.stamped.healthDie (p * 16 + k)) }) ∧
    (∀ first count, p < 64 → s.dev.ustate (packageIx p) ≠ .absent → k < 16 → k < s.dev.diesPerPkg → 0 < count → count ≤ 256 →
      first + count ≤ 1024 → exec (.mediaHealth c 3 p k first count) s = .next { s with
        dev := s.stamped.reply c 0xC0B0 0 (leBytes 1 3 ++ zeros 7 ++ leBytes 8 s.tb ++ (leBytes 2 count ++ zeros 6 ++
          (List.range count).flatMap (fun i => s.stamped.healthBlock (blockKey (p * 16 + k) (first + i))))) })) ∧
  (∀ (s : State) (c : CmdHdr) (p : Nat) (e : Bool), s.Admits c 4 .own → p < 64 → s.dev.reg .JRN_STATUS_QSTATE = 0 →
    ∃ d, exec (.packageReplace c p e (s.dev.unit (packageIx p)).gen) s = .next { s with dev := d } ∧
      ((s.dev.ustate (packageIx p) = .failed ∧ (s.dev.pkg p).rebuilt = true ∨
        s.dev.ustate (packageIx p) = .draining ∧ s.dev.pagesOnPackage p = 0) →
        d.ustate (packageIx p) = .retired ∧ (d.pkg p).replacing = true) ∧
      (s.dev.serves (packageIx p) = true → e = true → d.ustate (packageIx p) = .draining ∧ (d.unit (packageIx p)).cause = 1) ∧
      (s.dev.serves (packageIx p) = true → e = false → d.ust = s.dev.ust)) ∧
  (∀ (s : State) (c : CmdHdr) (start n : Nat), s.Admits c 16 .read →
    ∃ d p, exec (.getPoisonList c start n) s = .next { s with dev := d } ∧ d.out = .reply c.iface 0x4300 0 p :: s.dev.out ∧
      d.poison = s.dev.poison ∧ s.stamped.ChangesOnly d [.mgt, .out, .regs]) ∧
  (∀ (s : State) (c : CmdHdr) (dpa off ki pid : Nat) (r : RegionRec), s.Admits c 8 .change → s.dev.memActive = true →
    s.stamped.locate (dpa / 64 * 64) (if c.iface = 2 then 3 else 2 ^ c.iface) = some (r, off, ki) →
    s.stamped.window r off = .main → (s.stamped.writePid r off).1 = some pid →
    ∃ d, exec (.injectPoison c dpa) s = .next { s with dev := d } ∧ d.poison.lines.find (pid * 64 + off % 4096 / 64) = some 1 ∧
      s.dev.Puts d (.reply c.iface 0x4301 0 [])) ∧
  (∀ (s : State) (c : CmdHdr) (dpa off ki pid : Nat) (r : RegionRec) (data : Line), s.Admits c 72 .change →
    s.dev.memActive = true → s.stamped.locate (dpa / 64 * 64) (if c.iface = 2 then 3 else 2 ^ c.iface) = some (r, off, ki) →
    s.stamped.window r off = .main → (s.stamped.writePid r off).1 = some pid →
    ∃ d, exec (.clearPoison c dpa data) s = .next { s with dev := d } ∧
      (d.poison.lines.find (pid * 64 + off % 4096 / 64) = none ∨
       d.poison.lines.find (pid * 64 + off % 4096 / 64) = some poisonInternal ∧ s.dev.Counted d .DRT_PDEG_LOST 0 1) ∧
      s.dev.Puts d (.reply c.iface 0x4302 0 []))

/-- O41. With the interface up and no common check refusing: a capture of at most 16 groups replaces the interface's snapshot by
one with the next identifier, stamped at acceptance, of 14 + 2 x count pages of 4096 bytes, whose second and third pages
hold the records of all units, answers its page 0, and changes no unit; a page read of the snapshot held answers that page;
a read of another snapshot is Stale with page 0, a page past the end Invalid Input. DEVICE STATUS answers its fields, the
timebase and the serial number and changes nothing but the command count. -/
def Obligations.DigestAndStatusCommandsReport : Prop :=
  (∀ (s : State) (c : CmdHdr) (first count : Nat), s.Admits c 16 .read → count ≤ 16 → first + count ≤ 256 →
    ∃ d x, exec (.stateDigestCapture c first count) s = .next { s with dev := d } ∧ d.ust.snaps.find c.iface = some x ∧
      x.id = s.dev.mgt.snapId + 1 ∧ d.mgt.snapId = x.id ∧ x.stamp = s.tb ∧ x.pages.length = 14 + 2 * count ∧
      (∀ p ∈ x.pages, p.length = 4096) ∧
      (x.pages.drop 1).take 2 = pagesOf 2 ((List.range 542).flatMap s.stamped.unitRecord) ∧
      (∀ i ≠ c.iface, d.ust.snaps.find i = s.dev.ust.snaps.find i) ∧ d.ust.units = s.dev.ust.units ∧
      d.out = .reply c.iface 0xC001 0 (x.reply 0) :: s.dev.out ∧ s.stamped.ChangesOnly d [.mgt, .ust, .out, .regs]) ∧
  (∀ (s : State) (c : CmdHdr) (first count : Nat), s.Admits c 16 .read → 16 < count ∨ 256 < first + count →
    exec (.stateDigestCapture c first count) s = .next { s with dev := s.stamped.reply c 0xC001 2 [] }) ∧
  (∀ (s : State) (c : CmdHdr) (id page : Nat) (x : Snapshot), s.Admits c 16 .read → s.dev.ust.snaps.find c.iface = some x →
    (id = x.id → page < x.pages.length → exec (.stateDigestPageRead c id page) s = .next { s with
      dev := Dev.reply { s.stamped with ust := { s.dev.ust with snaps := s.dev.ust.snaps.put c.iface { x with lastRead := s.tb } } }
        c 0xC001 0 (x.reply page) }) ∧
    (id = x.id → x.pages.length ≤ page → exec (.stateDigestPageRead c id page) s = .next { s with
      dev := s.stamped.reply c 0xC001 2 [] }) ∧
    (id ≠ x.id → exec (.stateDigestPageRead c id page) s = .next { s with
      dev := s.stamped.reply c 0xC001 0xC000 (x.reply 0) })) ∧
  (∀ (s : State) (c : CmdHdr), s.Admits c 0 .minimal → exec (.deviceStatus c) s = .next { s with
    dev := s.stamped.reply c 0xC002 0 (leBytes 4 (s.stamped.word .PWR_STEP_STEP) ++ leBytes 4 (s.stamped.word .RST_CAUSE_POR) ++
      leBytes 1 (s.dev.reg .JRN_STATUS_QSTATE) ++ leBytes 1 (s.dev.reg .JRN_STATUS_TRIGGER) ++ zeros 2 ++
      leBytes 8 (s.stamped.word .PWR_SUPPLY_VIN12_MV) ++ leBytes 4 (s.stamped.word .CLK_STATUS_SWITCHING) ++
      leBytes 4 (s.stamped.word .THM_STATUS_MAX_N) ++ leBytes 8 s.tb ++ leBytes 8 s.dev.boot.serial) })

/-- O42. Out of lockdown, phase 0 issues a 32-byte nonce stamped at acceptance with the serial number and the tries left; phase
1 takes the nonce and authorises debug exactly where a nonce younger than 60 s and the key and signature hold, else it
counts a failed try, and the last try enters lockdown; in lockdown both are refused and change nothing. A nonce ends 60 s
after its issue. JTAG: IDCODE, BYPASS, CLAMP and HIGHZ shift out the ID or the bypassed bits; EXTEST (RESET_N low) and
SAMPLE/PRELOAD load the boundary register; EXTEST with RESET_N high acts as BYPASS; DBG_CHAL issues a nonce; DBG_RESP
answers it as phase 1; DBG_ACCESS is BYPASS until debug is authorised, and then halts the firmware, reads or writes a
register (an EVT_STATUSw by its bits), or accesses a DPA, with result 1 on one of no region and nothing while memory is not
active. The data layouts of the JTAG registers are the model's (log entry 42). -/
def Obligations.DebugUnlockAndJtagTakeEffect : Prop :=
  (∀ (s : State) (c : CmdHdr), s.Admits c 4 .change → s.dev.flag .CRY_STATUS_LOCKED = false →
    ∃ d n, exec (.debugUnlockChallenge c) s = .next { s with dev := d } ∧ n.length = 32 ∧
      d.mgt = { s.dev.mgt with nonce := some (n, s.tb) } ∧
      d.out = .reply c.iface 0xC0A0 0 (n ++ leBytes 8 s.dev.boot.serial ++ leBytes 1 s.dev.triesLeft ++ zeros 7) :: s.dev.out ∧
      s.stamped.ChangesOnly d [.mgt, .out, .regs, .freeCtr]) ∧
  (∀ (s : State) (c : CmdHdr) (slot t : Nat) (n pub sig : List Byte), s.Admits c 196 .change →
    s.dev.flag .CRY_STATUS_LOCKED = false → s.dev.mgt.nonce = some (n, t) →
    ∃ d, exec (.debugUnlockResponse c slot pub sig) s = .next { s with dev := d } ∧ d.mgt.nonce = none ∧
      (s.tb < t + 60000000000 ∧ s.dev.unlocks n slot (fit 96 pub) (fit 96 sig) = true →
        d.reg .CRY_STATUS_DEBUG_AUTH = 1 ∧ d.mgt.unlockFails = s.dev.mgt.unlockFails ∧
        s.dev.Puts d (.reply c.iface 0xC0A0 0 (leBytes 1 1 ++ leBytes 1 s.dev.triesLeft ++ zeros 6))) ∧
      (¬(s.tb < t + 60000000000 ∧ s.dev.unlocks n slot (fit 96 pub) (fit 96 sig) = true) →
        d.reg .CRY_STATUS_DEBUG_AUTH = s.dev.reg .CRY_STATUS_DEBUG_AUTH ∧ d.mgt.unlockFails = s.dev.mgt.unlockFails + 1 ∧
        (d.triesLeft = 0 → d.reg .CRY_STATUS_LOCKED = 1 ∧ d.reg .CRY_STATUS_LOCK_CAUSE = 1) ∧
        s.dev.Puts d (.reply c.iface 0xC0A0 0 (leBytes 1 0 ++ leBytes 1 d.triesLeft ++ zeros 6))) ∧
      s.stamped.ChangesOnly d [.mgt, .evt, .out, .regs]) ∧
  (∀ (s : State) (c : CmdHdr) (slot : Nat) (pub sig : List Byte), s.dev.flag .CRY_STATUS_LOCKED = true →
    (s.Admits c 4 .change → exec (.debugUnlockChallenge c) s = .next { s with dev := s.stamped.reply c 0xC0A0 0x13 [] }) ∧
    (s.Admits c 196 .change →
      exec (.debugUnlockResponse c slot pub sig) s = .next { s with dev := s.stamped.reply c 0xC0A0 0x13 [] })) ∧
  (∀ (s : State) (n : List Byte) (t : Nat), s.dev.aon = true → s.dev.mgt.nonce = some (n, t) →
    (t + 60000000000 ≤ s.tb → exec .nonceExpiry s = .next { s with
      dev := { s.stamped with mgt := { s.dev.mgt with nonce := none } } }) ∧
    (s.tb < t + 60000000000 → exec .nonceExpiry s = .next { s with dev := s.stamped })) ∧
  (∀ (s : State) (data : List Byte), s.dev.aon = true →
    exec .idcode s = .next { s with dev := (s.jtagged 0x01).emit (.jtag (leBytes 4 (1 + 2 * (Config.jedecId % 2 ^ 11) +
      0x9400 * 2 ^ 12 + s.dev.boot.stepping % 16 * 2 ^ 28))) } ∧
    exec (.bypass data) s = .next { s with dev := (s.jtagged 0xFF).emit (.jtag (leBytes data.length (2 * leNat data))) } ∧
    exec (.clamp data) s = .next { s with dev := (s.jtagged 0x08).emit (.jtag (leBytes data.length (2 * leNat data))) } ∧
    exec (.highz data) s = .next { s with dev := (s.jtagged 0x09).emit (.jtag (leBytes data.length (2 * leNat data))) } ∧
    (∃ d b, exec (.samplePreload data) s = .next { s with dev := d } ∧ d.mgt = { s.dev.mgt with jtagIr := 0x02, boundary := data } ∧
      b.length = data.length ∧ d.out = .jtag b :: s.dev.out ∧ s.stamped.ChangesOnly d [.mgt, .out, .freeCtr]) ∧
    (s.dev.pin.resetN = false → ∃ d b, exec (.extest data) s = .next { s with dev := d } ∧
      d.mgt = { s.dev.mgt with jtagIr := 0, boundary := data } ∧ b.length = data.length ∧ d.out = .jtag b :: s.dev.out ∧
      s.stamped.ChangesOnly d [.mgt, .out, .freeCtr]) ∧
    (s.dev.pin.resetN = true → exec (.extest data) s = .next { s with
      dev := (s.jtagged 0).emit (.jtag (leBytes data.length (2 * leNat data))) })) ∧
  (∀ s : State, s.dev.aon = true → s.dev.flag .CRY_STATUS_LOCKED = false →
    ∃ d n, exec .dbgChal s = .next { s with dev := d } ∧ n.length = 32 ∧
      d.mgt = { s.dev.mgt with jtagIr := 0x20, nonce := some (n, s.tb) } ∧
      d.out = .jtag (n ++ leBytes 8 s.dev.boot.serial ++ leBytes 1 s.dev.triesLeft ++ zeros 7) :: s.dev.out) ∧
  (∀ (s : State) (req n : List Byte) (t : Nat), s.dev.aon = true → s.dev.flag .CRY_STATUS_LOCKED = false →
    196 ≤ req.length → u8 req 0 = 1 → s.dev.mgt.nonce = some (n, t) → ∃ d, exec (.dbgResp req) s = .next { s with dev := d } ∧
      d.mgt.nonce = none ∧ d.mgt.jtagIr = 0x21 ∧
      (d.reg .CRY_STATUS_DEBUG_AUTH = if s.tb < t + 60000000000 ∧
          s.dev.unlocks n (u8 req 1) (Sys2Proof.slice req 4 96) (Sys2Proof.slice req 100 96) = true then 1
        else s.dev.reg .CRY_STATUS_DEBUG_AUTH)) ∧
  (∀ (s : State) (a : DbgAcc), s.dev.aon = true → s.dev.flag .CRY_STATUS_DEBUG_AUTH = false →
    exec (.dbgAccess a) s = .next { s with dev := (s.jtagged 0x22).emit (.jtag []) }) ∧
  (∀ (s : State) (stop : Bool) (addr size : Nat), s.dev.aon = true → s.dev.flag .CRY_STATUS_DEBUG_AUTH = true →
    exec (.dbgAccess (.halt stop)) s = .next { s with
      dev := { s.jtagged 0x22 with rst := { s.dev.rst with fwHalted := stop } } } ∧
    ∃ d, exec (.dbgAccess (.barRead addr size)) s = .next { s with dev := d } ∧
      d.out = .jtag (leBytes size ((s.jtagged 0x22).readBar2 addr size).1) :: s.dev.out ∧
      s.stamped.ChangesOnly d [.mgt, .regs, .out, .freeCtr]) ∧
  (∀ (s : State) (addr : Nat) (data : Line), s.dev.aon = true → s.dev.flag .CRY_STATUS_DEBUG_AUTH = true →
    (s.dev.memActive = false → exec (.dbgAccess (.dpaRead addr)) s = .next { s with dev := (s.jtagged 0x22).emit (.jtag []) } ∧
      exec (.dbgAccess (.dpaWrite addr data)) s = .next { s with dev := (s.jtagged 0x22).emit (.jtag []) }) ∧
    (s.dev.memActive = true → s.dev.locate (addr / 64 * 64) 3 = none →
      (∃ d, exec (.dbgAccess (.dpaRead addr)) s = .next { s with dev := d } ∧ s.dev.Puts d (.jtag (leBytes 1 1))) ∧
      (∃ d, exec (.dbgAccess (.dpaWrite addr data)) s = .next { s with dev := d } ∧ s.dev.Puts d (.jtag (leBytes 1 1))))) ∧
  (∀ (s : State) (w v : Nat), s.dev.aon = true → s.dev.flag .CRY_STATUS_DEBUG_AUTH = true → w < 32 → v < 2 ^ 32 →
    ∃ d, exec (.dbgAccess (.barWrite (0x1400000 + 4 * w) 4 v)) s = .next { s with dev := d } ∧
      d.reg .EVT_STATUSw_STATUS w = (s.dev.reg .EVT_STATUSw_STATUS w - (s.dev.reg .EVT_STATUSw_STATUS w &&& v)) % 2 ^ 32 ∧
      s.stamped.ChangesOnly d [.mgt, .regs, .ust])

/-- O43. A write of a head with its link down, of a head the device does not have, of a size other than 4 or 8 bytes or off its
natural alignment changes nothing; a write of a register of read-only fields changes nothing but the note of the stamp's
writes (R450); a write of EVT_STATUSw clears exactly the bits written as 1; a write of EVT_CTL stores RATE where it lies in
1 to 255 and MCTP_EID, but nothing where a later source (H0, then H1, then master 0) has written those bytes at the same
stamp, and is itself noted for its stamp; a write of SLC_CTL that no later source has made of a slice in service stores its
five bits, and of a slice that is RESETTING, OFF or FAILED it reads back while the slice goes on acting by the old value. -/
def Obligations.RegisterWritesFollowTheirAccessTypes : Prop :=
  (∀ (s : State) (head addr size v : Nat), s.dev.aon = true →
    (s.dev.headCount ≤ head ∨ s.dev.reg .GLB_HEAD_LINK_WIDTH head = 0 ∨ (size ≠ 4 ∧ size ≠ 8) ∨ addr % size ≠ 0) →
    exec (.registerWrite head addr size v) s = .next { s with dev := s.stamped }) ∧
  (∀ (s : State) (head addr v n o : Nat) (r : RegInfo), s.dev.aon = true → head < s.dev.headCount →
    s.dev.reg .GLB_HEAD_LINK_WIDTH head ≠ 0 → regAt addr = some (r, n, o) → (∀ f ∈ r.fields, f.info.access = .ro) →
    ∃ d, exec (.registerWrite head addr 4 v) s = .next { s with dev := d } ∧ s.stamped.ChangesOnly d [.ust] ∧
    d.ust = { s.dev.ust with barAt := d.ust.barAt, barWrites := d.ust.barWrites }) ∧
  (∀ (s : State) (head w v : Nat), s.dev.aon = true → head < s.dev.headCount → s.dev.reg .GLB_HEAD_LINK_WIDTH head ≠ 0 →
    w < 32 → v < 2 ^ 32 → ∃ d, exec (.registerWrite head (0x1400000 + 4 * w) 4 v) s = .next { s with dev := d } ∧
      d.reg .EVT_STATUSw_STATUS w = (s.dev.reg .EVT_STATUSw_STATUS w - (s.dev.reg .EVT_STATUSw_STATUS w &&& v)) % 2 ^ 32 ∧
      (∀ f i, (f, i) ≠ (Fld.EVT_STATUSw_STATUS, w) → d.reg f i = s.dev.reg f i) ∧ s.stamped.ChangesOnly d [.regs, .ust]) ∧
  (∀ (s : State) (head v : Nat), s.dev.aon = true → head < s.dev.headCount → s.dev.reg .GLB_HEAD_LINK_WIDTH head ≠ 0 →
    s.dev.reg .EVT_CTL_RATE < 256 → s.dev.reg .EVT_CTL_MCTP_EID < 256 →
    ∃ d, exec (.registerWrite head 0x1400200 4 v) s = .next { s with dev := d } ∧
      ((∀ i < 4, s.stamped.writtenLater head (0x1400200 + i) = false) →
        d.reg .EVT_CTL_RATE = (if v % 256 = 0 then s.dev.reg .EVT_CTL_RATE else v % 256) ∧
        d.reg .EVT_CTL_MCTP_EID = v / 256 % 256) ∧
      ((∀ i < 4, s.stamped.writtenLater head (0x1400200 + i) = true) → d.reg .EVT_CTL_RATE = s.dev.reg .EVT_CTL_RATE ∧
        d.reg .EVT_CTL_MCTP_EID = s.dev.reg .EVT_CTL_MCTP_EID) ∧
      s.dev.FieldsOnly d [.EVT_CTL_RATE, .EVT_CTL_MCTP_EID] ∧ s.stamped.ChangesOnly d [.regs, .ust] ∧
      d.ust.barAt = s.tb ∧ (head, 0x1400200, 4) ∈ d.ust.barWrites) ∧
  (∀ (s : State) (head k v : Nat), s.dev.aon = true → head < s.dev.headCount → s.dev.reg .GLB_HEAD_LINK_WIDTH head ≠ 0 →
    k < 16 → s.dev.cfg.isSome = true → v < 32 →
    (∀ i < 4, s.stamped.writtenLater head (0x400008 + 0x10000 * k + i) = false) → ∃ d,
      exec (.registerWrite head (0x400008 + 0x10000 * k) 4 v) s = .next { s with dev := d } ∧
      ([Fld.SLC_CTL_DRAM_SPEC_EN, .SLC_CTL_MEDIA_SPEC_EN, .SLC_CTL_RUNAHEAD_EN, .SLC_CTL_PF_EN, .SLC_CTL_SPECRD_EN].map
        (fun f => d.flag f k) = (List.range 5).map v.testBit) ∧
      (s.dev.serves (sliceIx k) = true → d.ust.kept = s.dev.ust.kept) ∧ d.ust.units = s.dev.ust.units ∧
      ((s.dev.ustate (sliceIx k) = .resetting ∨ s.dev.ustate (sliceIx k) = .off ∨ s.dev.ustate (sliceIx k) = .failed) →
        ∀ f ∈ [Fld.SLC_CTL_DRAM_SPEC_EN, .SLC_CTL_MEDIA_SPEC_EN, .SLC_CTL_RUNAHEAD_EN, .SLC_CTL_PF_EN, .SLC_CTL_SPECRD_EN],
          d.regInForce f k = s.dev.regInForce f k) ∧
      s.stamped.ChangesOnly d [.regs, .ust])

/-- O44. While debug is not authorised or memory is not active, GO changes nothing but the WRITE bit. Otherwise, on an address
of no region the result is 1 (refused); on a line of a main window of a region in service: a read without rights is refused,
with CIPHERTEXT rights answers 3, with higher rights answers 0 with the line's data where the line can be read under a key;
a write below READ-WRITE rights is refused and leaves the data as it is; with them it answers 0, and the line holds the data
or is poisoned. -/
def Obligations.MailboxAccessesFollowTheRights : Prop :=
  (∀ s : State, s.dev.aon = true → (s.dev.flag .CRY_STATUS_DEBUG_AUTH = false ∨ s.dev.memActive = false) →
    exec .dbgMaRead s = .next { s with dev := s.stamped.setFlag .DBG_MA_CTL_WRITE 0 false } ∧
    exec .dbgMaWrite s = .next { s with dev := s.stamped.setFlag .DBG_MA_CTL_WRITE 0 true }) ∧
  (∀ s : State, s.dev.aon = true → s.dev.flag .CRY_STATUS_DEBUG_AUTH = true → s.dev.memActive = true →
    s.dev.locate (s.dev.reg .DBG_MA_ADDR_DPA / 64 * 64) 3 = none →
    (∃ d, exec .dbgMaRead s = .next { s with dev := d } ∧ d.reg .DBG_MA_CTL_RESULT = 1) ∧
    (∃ d, exec .dbgMaWrite s = .next { s with dev := d } ∧ d.reg .DBG_MA_CTL_RESULT = 1)) ∧
  (∀ (s : State) (g : RegionRec) (off ki : Nat), s.dev.aon = true → s.dev.flag .CRY_STATUS_DEBUG_AUTH = true →
    s.dev.memActive = true → s.dev.locate (s.dev.reg .DBG_MA_ADDR_DPA / 64 * 64) 3 = some (g, off, ki) →
    s.dev.region g.number = some g → s.dev.window g off = .main → s.dev.offline g .main false = false →
    (∃ d, exec .dbgMaRead s = .next { s with dev := d } ∧
      (s.dev.rights 3 ki = 0 → d.reg .DBG_MA_CTL_RESULT = 1 ∧ d.reg .DBG_MA_DATA_LINE = s.dev.reg .DBG_MA_DATA_LINE) ∧
      (s.dev.rights 3 ki = 1 → d.reg .DBG_MA_CTL_RESULT = 3) ∧
      (2 ≤ s.dev.rights 3 ki → ∀ l, (s.dev.lineVal (s.dev.readPid g off) (off % 4096 / 64) ki).1 = .data l →
        (s.dev.slot ki).st ≠ .empty → (s.dev.slot ki).st ≠ .sweepNew →
        d.reg .DBG_MA_CTL_RESULT = 0 ∧ d.reg .DBG_MA_DATA_LINE = l.toNat) ∧ d.tier = s.dev.tier) ∧
    (∃ d, exec .dbgMaWrite s = .next { s with dev := d } ∧
      (s.dev.rights 3 ki ≠ 3 → d.reg .DBG_MA_CTL_RESULT = 1 ∧
        s.stamped.ChangesOnly d [.cry, .evt, .out, .regs, .freeCtr]) ∧
      (s.dev.rights 3 ki = 3 → d.reg .DBG_MA_CTL_RESULT = 0 ∧
        (d.poisoned (s.dev.readPid g off) (off % 4096 / 64) = true ∨
         ∃ c, d.cellAt (s.dev.readPid g off) (off % 4096 / 64) = some c ∧
           c.data = BitVec.ofNat 512 (s.dev.reg .DBG_MA_DATA_LINE)))))

/-- O45. While the head's DOE (or the MCTP responder) is up: DOE Discovery answers the protocol entry and the next index; CDAT
Table Access the entry and the next; Get Measurements the signed measurements asked for, or nothing for an index outside 1
to 5; Set Certificate stores slot 1 inside a session, where a head's DOE object holds the chain, and nothing else ever; Key
Exchange opens the session. Inside a session, KEY_PROG stores a 32-byte key, K_SET_GO makes the stream secure on a set whose
two keys are programmed and only then, K_SET_STOP removes a set's keys and ends a stream that runs on it. GPF phases of a
head with a CXL link complete at once. Get Endpoint ID and Get MCTP Version Support are always answered. The layouts are the
model's, taken from the standards. -/
def Obligations.DoeSpdmAndIdeServicesTakeEffect : Prop :=
  (∀ (s : State) (h i : Nat), s.dev.aon = true → h < 2 → s.stamped.doeUp h = true →
    exec (.doeDiscovery h i) s = .next { s with
      dev := s.stamped.emit (.obj h 0 (match i with
        | 0 => [0x01, 0x00, 0, 1] | 1 => [0x01, 0x00, 1, 2] | 2 => [0x01, 0x00, 2, 3] | 3 => [0x98, 0x1E, 2, 0]
        | _ => [0xFF, 0xFF, 0, 0])) } ∧
    exec (.cdatTableAccess h i) s = .next { s with
      dev := s.stamped.emit (.obj h 2 (match (s.stamped.cdatHeader h :: s.stamped.cdatEntries h)[i]? with
        | some e => leBytes 1 0 ++ leBytes 1 0 ++
            leBytes 2 (if i < (s.stamped.cdatEntries h).length then i + 1 else 0xFFFF) ++ e
        | none => [])) }) ∧
  (∀ (s : State) (h i : Nat), s.dev.aon = true → s.stamped.doeUp h = true → 1 ≤ i → i ≤ 5 →
    ∃ sig, exec (.getMeasurements h i) s = .next { s with
      dev := s.stamped.emit (.obj h 1 (leBytes 1 i ++ leBytes 2 (s.stamped.measurement i).length ++ s.stamped.measurement i ++ sig)) }) ∧
  (∀ (s : State) (h i : Nat), s.dev.aon = true → s.stamped.doeUp h = true → i = 0 ∨ (5 < i ∧ i ≠ 0xFF) →
    exec (.getMeasurements h i) s = .next { s with dev := s.stamped.emit (.obj h 1 []) }) ∧
  (∀ (s : State) (h slot : Nat) (chain : List Byte), s.dev.aon = true → s.stamped.doeUp h = true →
    (slot = 1 ∧ s.dev.session h = true ∧ doeFits h chain.length = true → exec (.setCertificate h slot chain) s = .next { s with
      dev := Dev.emit { s.stamped with cry := { s.dev.cry with cert1 := chain } } (.obj h 1 [0]) }) ∧
    (¬(slot = 1 ∧ s.dev.session h = true ∧ doeFits h chain.length = true) → exec (.setCertificate h slot chain) s = .next { s with
      dev := s.stamped.emit (.obj h 1 []) })) ∧
  (∀ (s : State) (h : Nat), s.dev.aon = true → s.stamped.doeUp h = true →
    ∃ d m, exec (.keyExchange h) s = .next { s with dev := d } ∧ d.session h = true ∧ d.out = .obj h 1 m :: s.dev.out ∧
      (∀ i ≠ h, i < 3 → d.session i = s.dev.session i) ∧ s.stamped.ChangesOnly d [.mgt, .heads, .out, .freeCtr]) ∧
  (∀ (s : State) (h set dir : Nat) (io : Bool) (key : List Byte), s.dev.aon = true → h < 2 → s.stamped.doeUp h = true →
    s.dev.session h = true →
    (set < 2 → dir < 2 → key.length = 32 → ∃ d, exec (.keyProg h io set dir key) s = .next { s with dev := d } ∧
      ((d.head h).ide io).keys.find (2 * set + dir) = some key ∧ ((d.head h).ide io).active = ((s.dev.head h).ide io).active ∧
      ((d.head h).ide io).secure = ((s.dev.head h).ide io).secure ∧ (d.head h).ide (!io) = (s.dev.head h).ide (!io) ∧
      d.out = .obj h 3 [0] :: s.dev.out ∧ s.stamped.ChangesOnly d [.heads, .out]) ∧
    (set < 2 → ((s.dev.head h).ide io).keys.has (2 * set) = true → ((s.dev.head h).ide io).keys.has (2 * set + 1) = true →
      ∃ d, exec (.kSetGo h io set) s = .next { s with dev := d } ∧
        (d.head h).ide io = { (s.dev.head h).ide io with active := some set, secure := true } ∧
        (d.head h).ide (!io) = (s.dev.head h).ide (!io) ∧ d.out = .obj h 3 [0] :: s.dev.out ∧
        s.stamped.ChangesOnly d [.heads, .out]) ∧
    (set < 2 → ((s.dev.head h).ide io).keys.has (2 * set) = false ∨ ((s.dev.head h).ide io).keys.has (2 * set + 1) = false →
      exec (.kSetGo h io set) s = .next { s with dev := s.stamped.emit (.obj h 3 [1]) }) ∧
    (set < 2 → ∃ d, exec (.kSetStop h io set) s = .next { s with dev := d } ∧
      (∀ k, k / 2 = set → ((d.head h).ide io).keys.find k = none) ∧
      (((s.dev.head h).ide io).active = some set → ((d.head h).ide io).secure = false ∧ ((d.head h).ide io).active = none) ∧
      (((s.dev.head h).ide io).active ≠ some set → ((d.head h).ide io).secure = ((s.dev.head h).ide io).secure ∧
        ((d.head h).ide io).active = ((s.dev.head h).ide io).active) ∧
      d.out = .obj h 3 [0] :: s.dev.out ∧ s.stamped.ChangesOnly d [.heads, .out])) ∧
  (∀ (s : State) (h : Nat), s.dev.aon = true → h < s.dev.headCount → s.dev.flag .GLB_HEAD_LINK_CXL h = true →
    exec (.gpfPhase1 h) s = .next { s with dev := s.stamped.emit (.gpf h 1) } ∧
    exec (.gpfPhase2 h) s = .next { s with dev := s.stamped.emit (.gpf h 2) }) ∧
  (∀ s : State, s.dev.aon = true →
    (∃ p, exec .getMctpVersionSupport s = .next { s with dev := s.stamped.emit (.mctpControl 4 p) }) ∧
    ∃ d p, exec .getEndpointId s = .next { s with dev := d } ∧ d.out = .mctpControl 2 p :: s.dev.out ∧ p.length = 4 ∧
      s.stamped.ChangesOnly d [.out, .freeCtr])

/-- O46. On a head whose memory information is valid, committing an unlocked decoder stores its fields. It is committed, with
its lock, exactly where its values are those that R77 allows, the decoder below it is committed, and its range ends at or
below 2^48; otherwise it is not committed and reports the error. A locked decoder, and one of a head without valid memory
information, is not changed. No other decoder and no other head changes. -/
def Obligations.HdmDecodersCommitInOrder : Prop :=
  (∀ (s : State) (h n base size ways gran skip target : Nat) (lock : Bool), s.dev.aon = true → h < s.dev.headCount → n < 8 →
    (s.dev.head h).memInfoValid = true → (s.dev.decoder h n).locked = false →
    ∃ d, exec (.hdmDecoderCommit h n base size ways gran skip target lock) s = .next { s with dev := d } ∧
      (d.decoder h n).hpaBase = base ∧ (d.decoder h n).hpaSize = size ∧ (d.decoder h n).ways = ways ∧
      (d.decoder h n).gran = gran ∧ (d.decoder h n).skip = skip ∧ (d.decoder h n).target = target ∧
      ((d.decoder h n).legal = true ∧ (n = 0 ∨ (s.dev.decoder h (n - 1)).committed = true) ∧
          d.decoderBase h n + size / ways ≤ 2 ^ 48 →
        (d.decoder h n).committed = true ∧ (d.decoder h n).locked = lock ∧ (d.decoder h n).errNotCommitted = false) ∧
      (¬((d.decoder h n).legal = true ∧ (n = 0 ∨ (s.dev.decoder h (n - 1)).committed = true) ∧
          d.decoderBase h n + size / ways ≤ 2 ^ 48) →
        (d.decoder h n).committed = false ∧ (d.decoder h n).errNotCommitted = true ∧ (d.decoder h n).locked = false) ∧
      (∀ i m, (i, m) ≠ (h, n) → d.decoder i m = s.dev.decoder i m) ∧ s.stamped.ChangesOnly d [.heads]) ∧
  (∀ (s : State) (h n base size ways gran skip target : Nat) (lock : Bool), s.dev.aon = true →
    (s.dev.headCount ≤ h ∨ 8 ≤ n ∨ (s.dev.head h).memInfoValid = false ∨ (s.dev.decoder h n).locked = true) →
    exec (.hdmDecoderCommit h n base size ways gran skip target lock) s = .next { s with dev := s.stamped })

/-- O47. For a link: DETECT times out to the next mode after 1 ms, and fails the link after the last; block lock leads to TRAIN
from DETECT or RECOVERY; the expected port and type lead to EQ, or past it to DESKEW after a recovery, with reversal and
polarity stored, and another port or type fails the link; EQ, DESKEW and CHECK complete in order; a passed check makes it
ACTIVE and its unit ONLINE in mode 0 and DEGRADED otherwise, a recovery counting as recovered; lost block lock in ACTIVE
enters RECOVERY, counted, with its unit RESETTING; a recovery that passes 50 us starts a full training, and the third full
training within 1 s fails the link. -/
def Obligations.LinkTrainingFollowsItsStates : Prop :=
  (∀ (s : State) (m : Nat), s.dev.aon = true → m < 128 → (s.dev.link m).train = 1 → (s.dev.link m).since + 1000000 ≤ s.tb →
    ((s.dev.link m).mode < 5 → exec (.detectTimeout m) s = .next { s with
      dev := s.stamped.setLink m { s.dev.link m with mode := (s.dev.link m).mode + 1, since := s.tb, rec_ := false } }) ∧
    (5 ≤ (s.dev.link m).mode → ∃ d, exec (.detectTimeout m) s = .next { s with dev := d } ∧ d.ustate (linkIx m) = .failed ∧
      (d.link m).train = 0)) ∧
  (∀ (s : State) (m : Nat), s.dev.aon = true → m < 128 →
    ((s.dev.link m).train = 1 ∨ (s.dev.link m).train = 7 → exec (.blockLockAcquired m) s = .next { s with
      dev := s.stamped.setLink m { s.dev.link m with train := 2 } }) ∧
    ((s.dev.link m).train = 3 → exec (.eqComplete m) s = .next { s with
      dev := s.stamped.setLink m { s.dev.link m with train := 4 } }) ∧
    ((s.dev.link m).train = 4 → exec (.deskewComplete m) s = .next { s with
      dev := s.stamped.setLink m { s.dev.link m with train := 5 } })) ∧
  (∀ (s : State) (m p port ptype pol : Nat) (rev : Bool) (c : Cfg), s.dev.aon = true → m < 128 → (s.dev.link m).train = 2 →
    s.dev.cfg = some c → s.dev.linkPkg m = some (p, port) →
    (ptype = c.wiring.pkgType → ∃ d, exec (.trainBlockReceived m port ptype rev pol) s = .next { s with dev := d } ∧
      d.link m = { s.dev.link m with train := if (s.dev.link m).rec_ then 4 else 3 } ∧
      d.flag .MCX_LINKi_STAT_REVERSED m = rev ∧ d.reg .MCX_LINKi_STAT_POLARITY m = pol % 4 ∧
      s.dev.FieldsOnly d [.MCX_LINKi_STAT_REVERSED, .MCX_LINKi_STAT_POLARITY] ∧ s.stamped.ChangesOnly d [.med, .regs]) ∧
    (∀ q, (q ≠ port ∨ ptype ≠ c.wiring.pkgType) → ∃ d, exec (.trainBlockReceived m q ptype rev pol) s = .next { s with dev := d } ∧
      d.ustate (linkIx m) = .failed ∧ (d.link m).train = 0)) ∧
  (∀ (s : State) (m : Nat), s.dev.aon = true → m < 128 → (s.dev.link m).train = 5 →
    ((s.dev.link m).rec_ = false ∨ s.tb < (s.dev.link m).since + 50000) →
    ∃ d, exec (.checkPass m) s = .next { s with dev := d } ∧
      d.link m = { s.dev.link m with train := 6, rec_ := false, activeAt := s.tb } ∧
      d.ustate (linkIx m) = (if (s.dev.link m).mode = 0 then .online else .degraded) ∧
      (s.dev.ustate (linkIx m) = .resetting → d.ust.recovered = satAdd 24 s.dev.ust.recovered 1)) ∧
  (∀ (s : State) (m : Nat), s.dev.aon = true → m < 128 → (s.dev.link m).train = 6 →
    ∃ d, exec (.blockLockLost m) s = .next { s with dev := d } ∧
      d.link m = { s.dev.link m with train := 7, rec_ := true, since := s.tb } ∧ s.dev.Counted d .MCX_LINKi_ERR_RETRAINS m 1 ∧
      (s.dev.serves (linkIx m) = true → d.ustate (linkIx m) = .resetting ∧ (d.unit (linkIx m)).cause = 5 ∧
        (d.unit (linkIx m)).recovery = true)) ∧
  (∀ (s : State) (m : Nat), s.dev.aon = true → m < 128 → (s.dev.link m).rec_ = true →
    (s.dev.link m).since + 50000 ≤ s.tb → ∃ d, exec (.recoveryTimeout m) s = .next { s with dev := d } ∧
      (((s.dev.link m).fulls.filter (fun t => decide (s.tb < t + 1000000000))).length < 2 →
        (d.link m).train = 1 ∧ (d.link m).mode = 0 ∧ (d.link m).since = s.tb ∧ (d.link m).rec_ = false ∧
        d.ustate (linkIx m) = .starting) ∧
      (2 ≤ ((s.dev.link m).fulls.filter (fun t => decide (s.tb < t + 1000000000))).length →
        (d.link m).train = 0 ∧ d.ustate (linkIx m) = .failed))

/-- O48. For a listed command of a link: the grain of a direct read that decodes with at most 18 errors is ready, corrected
errors counted; one that does not decode goes to the next step of the ladder; DONE of a program or clear ends the die's
operation, where no read or program waits for the die, a cleared block becoming READY with 50 more wear, RETIRED on failure,
FREE on abort; a status that tells no outcome makes the device query; DONE of a sentinel's program records dose and time;
SUSPENDED ends its command, and the die takes the read that waits for it, or resumes where none waits; the sentinel's data
give the bands of the die the off-time dose of one of the positions. A command unanswered past its time is reissued,
counted, a program or clear as a query. A failed frame is counted and reissues the command whose response it was; 16 in one
1 ms window take an ACTIVE link to RECOVERY; in CHECK one starts the next mode. A port ONLINE for 1 s gets the dies of its
home port back. -/
def Obligations.LinkResponsesEndOrReissueCommands : Prop :=
  (∀ (s : State) (m tag n : Nat) (errors : List Nat) (c : MCmd) (r : MRead) (b : Band), s.dev.aon = true →
    s.dev.med.cmds.find (m * 4096 + tag % 4096) = some c → c.op = 1 → c.use = .grain n false → s.dev.med.reads.find n = some r →
    s.dev.band (entryBand r.loc) = some b → r.slice < 16 → r.step = 0 → isMeta r.lpn = false →
    (∀ x ∈ s.dev.med.reads, isMeta x.2.lpn = true → x.2.ready = false) →
    ∃ d r', exec (.dataResponse m tag errors) s = .next { s with dev := d } ∧ d.med.reads.find n = some r' ∧
      (errors.headD 0 ≤ 18 → r'.ready = true ∧ r'.lost = r.lost ∧ r'.step = 0 ∧
        (errors.headD 0 ≠ 0 → s.dev.Counted d .MCX_ECC_CNT0_CORRECTED (s.dev.complexOf r.die) 1)) ∧
      (18 < errors.headD 0 → r'.step = if b.stream = 5 then 5 else nextStep (refSet (s.stamped.bandDose b)) 0)) ∧
  (∀ (s : State) (m tag stat : Nat) (c : MCmd), s.dev.aon = true → s.dev.med.cmds.find (m * 4096 + tag % 4096) = some c →
    ∃ d, exec (.doneResponse m tag stat) s = .next { s with dev := d } ∧
      (c.op = 2 → stat = 0 → (∀ n, c.use ≠ .thru n) → (∀ o, (s.dev.die c.die).op = some o → o.opid = c.opid) →
        (s.dev.die c.die).queue = [] → s.dev.med.progs = [] →
        d.med.cmds.find (m * 4096 + tag % 4096) = none ∧ (d.die c.die).op = none) ∧
      (∀ k, c.op = 3 → c.use = .clear k → (s.dev.block k).state = .clearing →
        (stat = 0 → (d.block k).state = .ready ∧ (d.block k).wear = (s.dev.block k).wear + 50) ∧
        (stat = 1 → (d.block k).state = .retired) ∧
        (stat = 2 → (d.block k).state = .free ∧ (d.block k).wear = (s.dev.block k).wear)) ∧
      (c.op = 2 ∨ c.op = 3 → 2 < stat →
        d.med.cmds.find (m * 4096 + tag % 4096) = some { c with op := 7, issuedAt := s.tb }) ∧
      (c.op = 7 → stat = 4 → d.med.cmds.find (m * 4096 + tag % 4096) = some { c with issuedAt := s.tb }) ∧
      (c.op = 8 → c.use = .sentinel false → stat = 0 → d.med.cmds.find (m * 4096 + tag % 4096) = none ∧
        d.die c.die = { s.dev.die c.die with sentinelDose := s.stamped.pkgDose (diePkg c.die), sentinelAt := s.tb,
                                             sentinelDue := false }) ∧
      (c.op = 4 ∨ c.op = 5 ∨ c.op = 6 → d.med.cmds.find (m * 4096 + tag % 4096) = none)) ∧
  (∀ (s : State) (m tag : Nat) (c : MCmd), s.dev.aon = true → s.dev.med.cmds.find (m * 4096 + tag % 4096) = some c → c.op = 4 →
    s.dev.med.progs = [] → ((s.dev.die c.die).queue = [] → (∀ o, (s.dev.die c.die).op = some o → o.suspended = none) →
      exec (.suspendedResponse m tag) s = .next { s with dev := s.stamped.dropCmd (m * 4096 + tag % 4096) }) ∧
    ∀ h o t, s.dev.homeLink c.die = some h → s.dev.dieReachable c.die = true → (s.dev.die c.die).thru = none →
      (∀ x ∈ s.dev.med.cmds, x.2.die = c.die → x.2.op ≠ 1) → (s.dev.die c.die).op = some o → o.suspended = some t →
      ∃ d x, exec (.suspendedResponse m tag) s = .next { s with dev := d } ∧
        d.med.cmds.find (h * 4096 + s.dev.med.nextTag % 4096) = some x ∧ x.die = c.die ∧ x.issuedAt = s.tb ∧
        (∀ q, (s.dev.die c.die).queue = [q] → q.rank ≤ 4 → x.op = 1 ∧ x.use = q.use ∧ (d.die c.die).queue = [] ∧
          (d.die c.die).op = some o) ∧
        ((s.dev.die c.die).queue = [] → s.dev.reg .JRN_STATUS_QSTATE = 0 → x.op = 5 ∧
          (d.die c.die).op = some { o with suspended := none, endAt := o.endAt + (s.tb - t) })) ∧
  (∀ (s : State) (m tag : Nat) (positions : List Nat) (c : MCmd), s.dev.aon = true → positions ≠ [] →
    s.dev.med.cmds.find (m * 4096 + tag % 4096) = some c → c.use = .sentinel true → s.dev.med.bands.wf = true →
    ∃ d, ∃ x ∈ positions, exec (.sentinelDataResponse m tag positions) s = .next { s with dev := d } ∧
      d.med.cmds.find (m * 4096 + tag % 4096) = none ∧
      d.die c.die = { s.dev.die c.die with sentinelDue := true, fallback := false } ∧
      ∀ n b, s.dev.band n = some b → c.die ∈ s.dev.setDies b.set → ∃ b', d.band n = some b' ∧
        b'.adj = b.adj + (((doseOfPosition (min x 512) -
          (s.stamped.pkgDose (diePkg c.die) - (s.dev.die c.die).sentinelDose)) * 11 / 10 : Nat) : Int)) ∧
  (∀ (s : State) (m tag : Nat) (c : MCmd), s.dev.aon = true → s.dev.med.cmds.find (m * 4096 + tag % 4096) = some c →
    (s.tb < c.issuedAt + reissueAfter c.op → exec (.commandReissueTimeout m tag) s = .next { s with dev := s.stamped }) ∧
    (c.issuedAt + reissueAfter c.op ≤ s.tb → ∃ d, exec (.commandReissueTimeout m tag) s = .next { s with dev := d } ∧
      d.med.cmds.find (m * 4096 + tag % 4096) =
        some { c with op := if c.op = 2 ∨ c.op = 3 then 7 else c.op, issuedAt := s.tb } ∧
      s.dev.Counted d .MCX_LINKi_ERR_REISSUE m 1 ∧ s.stamped.ChangesOnly d [.med, .regs])) ∧
  (∀ (s : State) (m : Nat) (tag : Option Nat), s.dev.aon = true → m < 128 →
    ∃ d, exec (.frameCrcFailure m tag) s = .next { s with dev := d } ∧ s.dev.Counted d .MCX_LINKi_ERR_CRC m 1 ∧
      ((s.dev.link m).train ≠ 5 → (s.dev.link m).train ≠ 6 → d.link m = s.dev.link m ∧
        ∀ t c, tag = some t → s.dev.med.cmds.find (m * 4096 + t % 4096) = some c → d.med.cmds.find (m * 4096 + t % 4096) =
          some { c with op := if c.op = 2 ∨ c.op = 3 then 7 else c.op, issuedAt := s.tb }) ∧
      ((s.dev.link m).train = 5 → (s.dev.link m).mode < 5 → (d.link m).train = 1 ∧ (d.link m).mode = (s.dev.link m).mode + 1) ∧
      ((s.dev.link m).train = 6 →
        ((s.dev.link m).crc.1 = s.tb / 1000000 → 15 ≤ (s.dev.link m).crc.2 → (d.link m).train = 7) ∧
        ((s.dev.link m).crc.1 ≠ s.tb / 1000000 → (d.link m).train = 6 ∧ (d.link m).crc = (s.tb / 1000000, 1)))) ∧
  (∀ (s : State) (m : Nat), s.dev.aon = true → m < 128 → s.dev.ustate (linkIx m) = .online →
    (s.dev.link m).activeAt + 1000000000 ≤ s.tb → ∃ d, exec (.homePortReturn m) s = .next { s with dev := d } ∧
      (∀ n, d.die n = if s.dev.naturalLink n = some m then { s.dev.die n with home := none } else s.dev.die n) ∧
      s.stamped.ChangesOnly d [.med])

/-- O49. An alert of a present package that is enabled raises the package's alert event, and one that is not changes nothing.
From step 8 on, a poll of a package: with four failed CRCs only counts them; that answers where none was known and fits
starts the package, and where it does not fit leaves it OFF with an event; that answers where one is known ends its misses;
that does not answer makes a RETIRED package ABSENT at the third miss and a package in service without an active link
FAILED. PWR_GOOD of a STARTING package enables the ports of its port mask, and a port that is OFF starts training. -/
def Obligations.SidebandCommandsTakeEffect : Prop :=
  (∀ (s : State) (p a : Nat), s.dev.aon = true → p < 64 → (s.dev.pkg p).present = true → 0 < a →
    ((s.dev.regInForce .MCX_SB_CTL_ALERT_EN (p / s.dev.groupSize)).testBit (p % s.dev.groupSize) = true →
      ∃ d, exec (.sidebandAlert p a) s = .next { s with dev := d } ∧
        s.dev.Counted d .EVT_CFGn_COUNT (388 + 16 * (p / s.dev.groupSize)) 1 ∧ s.stamped.ChangesOnly d [.evt, .out, .regs]) ∧
    ((s.dev.regInForce .MCX_SB_CTL_ALERT_EN (p / s.dev.groupSize)).testBit (p % s.dev.groupSize) = false →
      exec (.sidebandAlert p a) s = .next { s with dev := s.stamped })) ∧
  (∀ (s : State) (c : Cfg) (p crc ptype dies serial : Nat) (caps : PkgCaps) (ack : Bool), s.dev.aon = true → s.dev.cfg = some c →
    p < 64 → p < c.wiring.pkgCount → 8 ≤ s.dev.step →
    (4 ≤ crc → exec (.sidebandPoll p ack crc ptype dies serial caps) s = .next { s with
      dev := s.stamped.count .MCX_SB_STAT_CRC (p / s.dev.groupSize) 4 }) ∧
    (crc < 4 → (s.dev.pkg p).present = false → (s.dev.ustate (packageIx p) = .absent ∨ s.dev.ustate (packageIx p) = .off) →
      ∃ d, exec (.sidebandPoll p true crc ptype dies serial caps) s = .next { s with dev := d } ∧
        (d.pkg p).present = true ∧ (d.pkg p).serial = serial ∧ (d.pkg p).ptype = ptype ∧ (d.pkg p).caps = caps.susp ∧
        (ptype = s.dev.wantType p ∧ dies = s.dev.diesPerPkg → d.ustate (packageIx p) = .starting ∧ (d.pkg p).refTable = caps.refs.take 480) ∧
        (¬(ptype = s.dev.wantType p ∧ dies = s.dev.diesPerPkg) → d.ustate (packageIx p) = .off ∧
          s.dev.Counted d .EVT_CFGn_COUNT (387 + 16 * (p / s.dev.groupSize)) 1)) ∧
    (crc < 4 → (s.dev.pkg p).present = true → exec (.sidebandPoll p true crc ptype dies serial caps) s = .next { s with
      dev := (s.stamped.count .MCX_SB_STAT_CRC (p / s.dev.groupSize) crc).setPkg p { s.dev.pkg p with missed := 0 } }) ∧
    (crc < 4 → ∃ d, exec (.sidebandPoll p false crc ptype dies serial caps) s = .next { s with dev := d } ∧
      s.dev.Counted d .MCX_SB_STAT_NAK (p / s.dev.groupSize) 4 ∧
      (s.dev.ustate (packageIx p) = .retired → (s.dev.pkg p).missed + 1 < 3 →
        d.pkg p = { s.dev.pkg p with missed := (s.dev.pkg p).missed + 1 } ∧ d.ustate (packageIx p) = .retired) ∧
      (s.dev.ustate (packageIx p) = .retired → 2 ≤ (s.dev.pkg p).missed → d.ustate (packageIx p) = .absent ∧
        (d.pkg p).present = false) ∧
      (s.dev.serves (packageIx p) = true → (s.dev.pkg p).present = true →
        (∀ x ∈ s.dev.pkgLinks p, (s.dev.link x.2).train ≠ 6) → d.ustate (packageIx p) = .failed))) ∧
  (∀ (s : State) (c : Cfg) (p : Nat), s.dev.aon = true → s.dev.cfg = some c → c.wiring.link.length ≤ 128 → p < 64 →
    s.dev.ustate (packageIx p) = .starting → (s.dev.pkg p).present = true → (s.dev.pkg p).pwrGood = false →
    ∃ d, exec (.pwrGood p) s = .next { s with dev := d } ∧ (d.pkg p).pwrGood = true ∧ (d.pkg p).portEn = s.dev.portMask p ∧
      ∀ x ∈ s.dev.pkgLinks p, (s.dev.portMask p).testBit x.1 = true → (d.link x.2).enabled = true ∧
        (s.dev.ustate (linkIx x.2) = .off → (s.dev.link x.2).train = 0 → (s.dev.link x.2).fulls = [] →
          (d.link x.2).train = 1 ∧ d.ustate (linkIx x.2) = .starting))

/-- O50. Rule R322. With the interface up and no common check refusing, UNIT GET STATE of one unit index or of a range of up to
256 consecutive ones answers Success with UST_SEQ, the timebase at its acceptance, the count and one record for each unit,
whose bytes are the unit identifier, the state code, the cause and the generation. The command names no generation and is
answered whatever the units' generations are. Nothing changes but the count of executed commands and what was put out. -/
def Obligations.UnitGetStateReportsAndChangesNothing : Prop :=
  (∀ (s : State) (c : CmdHdr) (first count : Nat), s.Admits c 4 .read → 0 < count → count ≤ 256 → first + count ≤ 542 →
    ∃ d, exec (.unitGetState c first count) s = .next { s with dev := d } ∧
      d.out = .reply c.iface 0xC011 0 (leBytes 8 s.dev.ust.seq ++ leBytes 8 s.tb ++ leBytes 2 count ++ zeros 6 ++
        (List.range count).flatMap (fun i => s.stamped.unitRecord (first + i))) :: s.dev.out ∧
      s.dev.FieldsOnly d [.MGT_CMD_EXECUTED] ∧ s.dev.Counted d .MGT_CMD_EXECUTED 0 1 ∧ s.stamped.ChangesOnly d [.out, .regs]) ∧
  (∀ (d : Dev) (ix : Nat), (d.unitRecord ix).take 6 =
    leBytes 2 (unitIdOf ix) ++ leBytes 1 (d.ustate ix).code ++ leBytes 1 (d.unit ix).cause ++ leBytes 2 (d.unit ix).gen)

/-- O51. While the device runs: a queue that is due and has spill space, while the gather zone need not shrink, spills 16 cells
past its head segment into one more spill page, counted; another keeps its cells. With spilled cells and room in the head
segment the oldest of them come back into pool cells; where the media lost their page, their lines are poisoned, their
frames DAMAGED and the queue stranded. A frame open past its boundary, with the queue engine running and no earlier request
still to be forwarded, is counted as timed out and its queue stranded; under DISCARD the queue goes IDLE with its frames as
before, under DELIVER the frame is appended with FLAGS.TIMEOUT and the tail SEQ; before the boundary nothing happens; a
dropping queue goes IDLE. Changed persistent queues have their pointers journalled. -/
def Obligations.QueueEngineOwnWork : Prop :=
  (∀ (s : State) (q : Nat) (c : QueueSet), s.Running → s.dev.setOfQueue q = some c →
    (s.dev.spillDue q = true → 4096 ≤ s.dev.spillSpace → s.stamped.mustShrink = false → ∃ d, exec (.spill q) s = .next { s with dev := d } ∧
      d.queue q = { s.dev.queue q with frames := spillCells (s.dev.queue q).frames ((s.dev.queue q).headSeg c.headWin) 16
                                       spillPages := (s.dev.queue q).spillPages + 1 } ∧
      (∀ r, r ≠ q → d.queue r = s.dev.queue r) ∧ s.dev.Counted d .QEN_SPILL_WRITTEN 0 1 ∧
      s.dev.FieldsOnly d [.QEN_SPILL_WRITTEN] ∧ s.stamped.ChangesOnly d [.qen, .regs]) ∧
    ((s.dev.spillDue q = false ∨ s.dev.spillSpace < 4096 ∨ s.stamped.mustShrink = true) → exec (.spill q) s = .next { s with
      dev := { s.stamped with qen := { s.dev.qen with spilling := s.dev.poolSpills } } })) ∧
  (∀ (s : State) (q : Nat) (c : QueueSet) (st : List Nat), s.Running → s.dev.setOfQueue q = some c →
    0 < spilledCells (s.dev.queue q).frames → headCells (s.dev.queue q).frames < c.headWin →
    s.dev.takeCells (s.dev.homeStack (groupOf q)) (min 16 (spilledCells (s.dev.queue q).frames)) = some st →
    exec (.spillPagePrefetch q true) s = .next { s with
      dev := s.stamped.setQueue q { s.dev.queue q with
        frames := takeBack (s.dev.queue q).frames st
        spillPages := ceilDiv (spilledCells (takeBack (s.dev.queue q).frames st)) 16 } } ∧
    ∃ d, exec (.spillPagePrefetch q false) s = .next { s with dev := d } ∧ d.stranded q = true ∧
      (∀ r, r ≠ q → d.queue r = s.dev.queue r) ∧
      (d.queue q).frames = takeBack (loseCells (s.dev.queue q).frames (min 16 (spilledCells (s.dev.queue q).frames))) st) ∧
  (∀ (s : State) (q a us last : Nat), s.dev.aon = true → (s.dev.queue q).asm = .dropping a us last →
    (s.tb < a + us * 1000 → exec (.tailTimeout q) s = .next { s with dev := s.stamped }) ∧
    (a + us * 1000 ≤ s.tb → s.dev.queueWaits q (a + us * 1000) = false → s.dev.queuesRun = true → exec (.tailTimeout q) s = .next { s with
      dev := s.stamped.setQueue q { s.dev.queue q with asm := .idle } })) ∧
  (∀ (s : State) (q : Nat) (f : OpenFrame) (c : QueueSet), s.dev.aon = true → (s.dev.queue q).asm = .opened f →
    s.dev.setOfQueue q = some c →
    (s.tb < f.openedAt + f.timeoutUs * 1000 → exec (.tailTimeout q) s = .next { s with dev := s.stamped }) ∧
    (f.openedAt + f.timeoutUs * 1000 ≤ s.tb → s.dev.queueWaits q (f.openedAt + f.timeoutUs * 1000) = false →
      s.dev.queuesRun = true → ∃ d, exec (.tailTimeout q) s = .next { s with dev := d } ∧ (d.queue q).asm = .idle ∧
        s.dev.Counted d .QEN_TIMEOUT_COUNT 0 1 ∧ d.stranded q = true ∧ (∀ r, r ≠ q → d.queue r = s.dev.queue r) ∧
        (c.deliver = false → (d.queue q).frames = (s.dev.queue q).frames ∧ (d.queue q).tailSeq = (s.dev.queue q).tailSeq) ∧
        (c.deliver = true → (d.queue q).tailSeq = ((s.dev.queue q).tailSeq + 1) % 2 ^ 32 ∧
          ∃ fr, (d.queue q).frames = (s.dev.queue q).frames ++ [fr] ∧ fr.flags % 2 = 1 ∧ fr.seq = (s.dev.queue q).tailSeq ∧
            fr.len = f.len))) ∧
  (∀ s : State, s.Running → ∃ d, exec .qptrJournal s = .next { s with dev := d } ∧ d.qen.changed = [] ∧
    d.qen.queues = s.dev.qen.queues ∧ s.stamped.ChangesOnly d [.qen, .jrn] ∧
    ∀ q, q ∈ s.dev.qen.changed → d.qen.journalled.find q = some (s.dev.queue q).pointers ∧
      ∃ r ∈ d.jrn.recs, r.code = 0x08 ∧ r.a = q ∧ r.b = (s.dev.queue q).headSeq ∧ r.c = (s.dev.queue q).tailSeq)

/-- O52. The first item in merge order, with every watermark beyond it, leaves the queue of items and its entry counts as
applied; nothing is merged before the watermarks pass. Applied with no boundary due, under the configuration in force, in a
region that is not released: an ADD record adds its increment, modulo 2^64, to the side in force; a record with another OP,
or a counter outside the set, is counted and changes no delta; an exact read under a key gives its entry the home line with
both sides' pending deltas. A side FOLD_NS old is folded: it is cleared, and the home line of a volatile set holds the sum.
An automatic or commanded boundary behind every watermark flips the side and starts the copy, or is counted as skipped while
one runs. The copy ends when its time has passed: COPYING clears and nothing else of the set changes. -/
def Obligations.TallyEngineOwnWork : Prop :=
  (∀ (s : State) (i : TalItem), s.dev.aon = true → firstItem s.dev.tal.items = some i →
    (s.stamped.watermark (i.stamp + 1) = false → exec (.tallyMerge .ok) s = .next { s with dev := s.stamped }) ∧
    (s.stamped.watermark (i.stamp + 1) = true → ∃ d, exec (.tallyMerge .ok) s = .next { s with dev := d } ∧
      d.tal.items = s.dev.tal.items.filter (fun j => j.order ≠ i.order) ∧
      ∀ t, s.dev.entry i.slice i.entry = some t → t.req.rid = i.req.rid → t.state ≠ .done →
        ∃ t', d.entry i.slice i.entry = some t' ∧ t'.applied = true ∧ t'.req = t.req)) ∧
  (∀ (s : State) (i : TalItem) (g r : RegionRec) (cs : CounterSet), s.dev.aon = true → firstItem s.dev.tal.items = some i →
    s.stamped.watermark (i.stamp + 1) = true → s.dev.cry.past = [] → s.dev.cfgAt i.stamp = s.dev.cfg →
    s.dev.ustate (regionIx i.req.region) ≠ .retired → s.dev.region i.req.region = some g →
    s.dev.counterSet g.setId = some cs → s.dev.counterRegion cs.setId = some r →
    (∀ b c a, s.dev.nextBoundary cs = some (b, c, a) → i.req.stamp < b) →
    (i.req.kind = .tally → i.req.poison = false → i.req.be = BitVec.ofNat 64 0xFFFF →
      ∃ d, exec (.tallyMerge .ok) s = .next { s with dev := d } ∧
        (lineAt i.req.data 4 1 = 1 → lineAt i.req.data 0 4 < cs.count →
          (∃ l, (s.stamped.homeLine r (lineAt i.req.data 0 4 / 8)).1 = .data l) →
          ((s.dev.talSet cs.setId).side = 0 → (d.talEntry cs.setId (lineAt i.req.data 0 4)).d0 =
            ((s.dev.talEntry cs.setId (lineAt i.req.data 0 4)).d0 + lineAt i.req.data 8 8) % 2 ^ 64) ∧
          ((s.dev.talSet cs.setId).side ≠ 0 → (d.talEntry cs.setId (lineAt i.req.data 0 4)).d1 =
            ((s.dev.talEntry cs.setId (lineAt i.req.data 0 4)).d1 + lineAt i.req.data 8 8) % 2 ^ 64)) ∧
        (2 < lineAt i.req.data 4 1 → s.dev.Counted d .TAL_BAD_BAD_OP 0 1 ∧ d.tal.cache = s.dev.tal.cache) ∧
        (lineAt i.req.data 4 1 = 1 → cs.count ≤ lineAt i.req.data 0 4 →
          s.dev.Counted d .TAL_BAD_OUT_OF_SET 0 1 ∧ d.tal.cache = s.dev.tal.cache)) ∧
    (i.req.kind = .counterRead → (s.dev.slot g.keyBase).st ≠ .empty → (s.dev.slot g.keyBase).st ≠ .sweepNew → ∃ d, exec (.tallyMerge .ok) s = .next { s with dev := d } ∧ d.tal.cache = s.dev.tal.cache ∧
      ∀ t, s.dev.entry i.slice i.entry = some t → t.req.rid = i.req.rid → t.state ≠ .done → ∃ t', d.entry i.slice i.entry = some t' ∧
        t'.val = some (s.stamped.counterRead g cs (i.req.off / 64)).1)) ∧
  (∀ (s : State) (set n t : Nat), s.dev.aon = true → (s.dev.talEntry set n).at0 = some t →
    (s.tb < t + s.dev.reg .TAL_CTL_FOLD_NS → exec (.tallyFold set n 0) s = .next { s with dev := s.stamped }) ∧
    (∀ (r : RegionRec) (l : Line), t + s.dev.reg .TAL_CTL_FOLD_NS ≤ s.tb → s.dev.qen.recovering = none →
      (s.dev.talSet set).copy = none → s.dev.tal.cache.wf = true → s.dev.counterRegion set = some r → r.persist = false →
      (s.dev.slot r.keyBase).st = .active → (s.stamped.homeLine r (n / 8)).1 = .data l →
      ∃ d, exec (.tallyFold set n 0) s = .next { s with dev := d } ∧
        (d.talEntry set n).at0 = none ∧ (d.talEntry set n).d0 = 0 ∧
        ((s.dev.talEntry set n).at1.isSome = true → (d.talEntry set n).d1 = (s.dev.talEntry set n).d1) ∧
        (d.homeLine r (n / 8)).1 = .data (addCounters l ((List.range 8).map (fun k =>
          if k = n % 8 then (s.dev.talEntry set n).d0 else 0))))) ∧
  (∀ (s : State) (auto : Bool) (set b : Nat) (cs : CounterSet) (c a : Bool), s.dev.aon = true → s.dev.memActive = true →
    s.dev.counterSet set = some cs → s.dev.nextBoundary cs = some (b, c, a) → s.dev.cfgAt b = s.dev.cfg → (if auto then a else c) = true →
    s.stamped.watermark b = true → (∀ i ∈ s.dev.tal.items, b ≤ i.stamp) →
    ∃ d, exec (if auto then .epochBoundary set else .tallyAtBoundary set) s = .next { s with dev := d } ∧
      (d.talSet set).lastBoundary = (if a then max b (s.dev.talSet set).lastBoundary else (s.dev.talSet set).lastBoundary) ∧
      (d.talSet set).at_ = (if c then none else (s.dev.talSet set).at_) ∧
      ((c || cs.autoSnap) = true → cs.snapRegion ≠ 255 →
        ((s.dev.talSet set).copy = none → (d.talSet set).side = 1 - (s.dev.talSet set).side ∧
          (d.talSet set).snapId = (s.dev.talSet set).snapId + 1 ∧ d.flag .TAL_SETs_STAT_COPYING set = true ∧
          (d.talSet set).copy = some {
            id := (s.dev.talSet set).snapId + 1, boundary := b, region := cs.snapRegion
            epoch := if a && cs.autoSnap then epochAt cs b - 1 else 2 ^ 64 - 1
            bank := ((s.dev.talSet set).snapId + 1) % 2, offset := bankOffset cs (((s.dev.talSet set).snapId + 1) % 2) }) ∧
        ((s.dev.talSet set).copy.isSome = true → s.dev.Counted d .TAL_SETs_STAT_SKIPPED set 1 ∧
          (d.talSet set).copy = (s.dev.talSet set).copy ∧ (d.talSet set).side = (s.dev.talSet set).side)) ∧
      ((c || cs.autoSnap) = false → (d.talSet set).copy = (s.dev.talSet set).copy ∧
        (d.talSet set).side = (s.dev.talSet set).side ∧ s.stamped.ChangesOnly d [.tal])) ∧
  (∀ (s : State) (set : Nat) (cs : CounterSet) (c : SnapCopy), s.Running → s.dev.counterSet set = some cs →
    (s.dev.talSet set).copy = some c →
    (s.tb < c.boundary + ceilDiv cs.count 2 → exec (.snapshotCopyComplete set) s = .next { s with dev := s.stamped }) ∧
    (c.boundary + ceilDiv cs.count 2 ≤ s.tb → ∃ d, exec (.snapshotCopyComplete set) s = .next { s with dev := d } ∧
      d.talSet set = { s.dev.talSet set with copy := none } ∧ d.flag .TAL_SETs_STAT_COPYING set = false))

/-- O53. While the device runs: the write-back of a page dirty for WB_AGE puts a snapshot of it, with its version, into the row
being filled of its stream, and for a row that fills a program waits or runs on every die of its band set; a page not due
changes nothing. A row verified with at most 8 corrected bits maps each of its pages, whose version and source still stand,
to its place; with more, the row is abandoned, counted, its band becomes a victim and the member's block is marked. The
fold, once no COMMIT of the region is held, moves committed delta pages to their main-window pages and ends. A staged page
joins the row of the lehr stream. After the remirror every dirty page has two copies again. A second of timebase adds the
governor's rate to the wear credit, up to its capacity. -/
def Obligations.MediaWritesTakeEffect : Prop :=
  (∀ (s : State) (lpn : Nat), s.Running → isLpn lpn = true → (s.dev.page lpn).dirty = true →
    (s.dev.page lpn).landed ≠ some (s.dev.page lpn).version →
    (∀ r ∈ s.dev.med.rows, ∀ p ∈ r.pages, p.lpn = lpn → p.version = none) →
    (∀ r : RowFill, (s.dev.page lpn).dirtiedAt + s.dev.wbAge ≤ s.tb → s.stamped.fillRow (s.stamped.streamOf lpn) none = some r →
      ∃ d, exec (.writeBackStart lpn) s = .next { s with dev := d } ∧ d.med.rows = s.dev.med.rows.map (fun x =>
          if x.band = r.band && x.row = r.row then { r with pages := r.pages ++ [{
            lpn := lpn, version := some (s.dev.page lpn).version, src := s.dev.mapEntry lpn, lines := s.dev.pageLines lpn }] }
          else x) ∧
        d.med.map = s.dev.med.map ∧ d.med.pages = s.dev.med.pages ∧
        s.stamped.ChangesOnly d [.cry, .evt, .freeCtr, .med, .out, .pmc, .regs] ∧
        (r.pages.length < 7 → d.med.progs = s.dev.med.progs) ∧
        (r.pages.length = 7 → ∀ b, s.dev.band r.band = some b → ∀ i < 10,
          (∃ p ∈ d.med.progs, p.op = 2 ∧ p.use = .sheet r.band r.row i ∧ p.die = (s.dev.setDies b.set).getD i 0) ∨
          ∃ o, (d.die ((s.dev.setDies b.set).getD i 0)).op = some o ∧ o.clear = false ∧ o.band = r.band ∧ o.row = r.row)) ∧
    (s.tb < (s.dev.page lpn).dirtiedAt + s.dev.wbAge → s.dev.uncovered * 4096 * 4 ≤ s.dev.budget →
      (s.dev.page lpn).unpers = false → s.dev.boot.rollTier = none → s.dev.boot.tierWait = none →
      exec (.writeBackStart lpn) s = .next { s with dev := s.stamped })) ∧
  (∀ (s : State) (band row member errors : Nat) (r : RowFill) (b : Band), s.Running →
    s.dev.med.rows.find? (fun r => r.band = band && r.row = row && r.pages.length = 8) = some r → s.dev.band band = some b →
    (∀ c ∈ s.dev.med.cmds, ∀ m, c.2.use ≠ .sheet band row m) →
    (∀ p ∈ s.dev.med.progs, p.op = 2 → p.band = band → p.row ≠ row) → (∀ e ∈ s.dev.med.bands, e.2.rebuild = false) →
    ∃ d, exec (.bandRowVerified band row member errors) s = .next { s with dev := d } ∧
      (errors ≤ 8 → (r.pages.map (·.lpn)).Nodup → ∀ i p v, r.pages[i]? = some p → p.version = some v →
        isMeta p.lpn = false →
        s.dev.mapEntry p.lpn = p.src → (s.dev.page p.lpn).dirty = true → (s.dev.page p.lpn).version = v →
        d.mapEntry p.lpn = entryOf band row i) ∧
      (8 < errors → s.dev.Counted d .DRT_CULLET_CNT_ABANDONED 0 1 ∧
        (∃ b', d.band band = some b' ∧ b'.state = .victim) ∧
        (d.block ((s.dev.bandBlocks b).getD (member % 10) 0)).marked = true)) ∧
  (∀ (s : State) (r : RegionRec), s.Running → s.dev.region r.number = some r → (s.dev.shadowOf r.number).folding ≠ [] →
    s.dev.commitHeld r.number = false → ∃ d, exec (.commitFold r.number) s = .next { s with dev := d } ∧
      d.shadowOf r.number = { s.dev.shadowOf r.number with folding := [] } ∧
      s.stamped.ChangesOnly d [.cry, .jrn, .med, .per, .poison, .shadow, .tier] ∧
      ∀ p k, (s.dev.shadowOf r.number).folding = [(p, k)] → s.dev.pid r true k ≠ s.dev.pid r false p →
        d.tier.find (s.dev.pid r false p) = s.dev.tier.find (s.dev.pid r true k) ∧
        (isLpn (s.dev.pid r false p) = true → d.mapEntry (s.dev.pid r false p) = s.dev.mapEntry (s.dev.pid r true k))) ∧
  (∀ (s : State) (l : Nat) (r : RowFill), s.Running →
    s.dev.med.staged.find? (fun l => !s.dev.med.rows.any (fun r => r.pages.any (fun p => p.lpn = l))) = some l →
    ((s.dev.chooseSet false).isSome = true ∨ s.dev.streamOpen 3 ≠ []) → s.dev.fillRow 3 none = some r →
    ∃ d, exec .stagedPageMove s = .next { s with dev := d } ∧ d.med.rows = s.dev.med.rows.map (fun x =>
        if x.band = r.band && x.row = r.row then { r with pages := r.pages ++ [
          { lpn := l, version := none, src := s.dev.mapEntry l, lines :=
              match s.dev.med.pages.find (s.dev.mapEntry l) with | some m => m.lines | none => [] }] }
        else x) ∧
      d.med.staged = s.dev.med.staged ∧ d.med.map = s.dev.med.map ∧ d.med.pages = s.dev.med.pages ∧
      s.stamped.ChangesOnly d [.evt, .freeCtr, .med, .out, .pmc, .regs]) ∧
  (∀ s : State, s.dev.aon = true → s.dev.med.remirror = true → 2 ≤ s.dev.onlineStacks.length → s.dev.tier.wf = true →
    ∃ d, exec .remirrorComplete s = .next { s with dev := d } ∧ d.med = { s.dev.med with remirror := false } ∧
      d.flag .DRT_REMIRROR_ACTIVE = false ∧ s.dev.Counted d .EVT_CFGn_COUNT 657 1 ∧
      ∀ lpn p, d.tier.find lpn = some p → isLpn lpn = true → p.dirty = true → 2 ≤ p.copies.length) ∧
  (∀ s : State, s.dev.aon = true → s.dev.med.creditInit = true →
    (s.tb < s.dev.med.accruedAt + 1000000000 → exec .wearCreditAccrual s = .next { s with dev := s.stamped }) ∧
    (s.dev.med.accruedAt + 1000000000 ≤ s.tb → ∃ d, exec .wearCreditAccrual s = .next { s with dev := d } ∧
      d.med = { s.dev.med with credit := min (s.dev.med.credit + (s.dev.wearRate : Int)) (s.dev.wearCap : Int)
                               accruedAt := s.dev.med.accruedAt + 1000000000 } ∧
      (0 < d.med.credit → d.flag .GLB_WEAR_STAT_DEBT = false ∧ d.flag .GLB_WEAR_STAT_LIFTED = false) ∧
      s.dev.FieldsOnly d [.GLB_WEAR_STAT_DEBT, .GLB_WEAR_STAT_LIFTED] ∧ s.stamped.ChangesOnly d [.med, .regs]))

/-- O54. While the device runs, and no band waits to be moved: with free and ready blocks below twice FREE_LOW the cullet engine
drains one of the bands of highest score into stream 2, and the lehr drains one of the bands it takes next into stream 3, or
of a gather band moves the staged pages there and, with none left, renews its dose record; with none to take, nothing
changes. The gather zone grows by one band of the next number, usable after the next checkpoint, where free blocks and the
ceiling allow; it shrinks by returning an empty band or by compacting its oldest one. A clear starts on one of the least-
worn free blocks of a die that may be cleared: the block is CLEARING and its clear waits or runs; where nothing else waits
and the limits allow it, the die is busy for 300 us and the command listed. A scan of a row with valid data is queued or
sent on every member that can be reached. A sentinel that is due is programmed. -/
def Obligations.MediaUpkeepTakesEffect : Prop :=
  (∀ s : State, s.Running → s.dev.MediaCalm → s.dev.freeReady * 100 < 2 * s.dev.freeLow * s.dev.allBlocks →
    (s.stamped.cullets = [] → exec .culletVictimSelection s = .next { s with dev := s.stamped }) ∧
    (s.stamped.cullets ≠ [] → ∃ d, exec .culletVictimSelection s = .next { s with dev := d } ∧
      ∃ n ∈ s.stamped.cullets, ∃ b, s.dev.band n = some b ∧ d.band n = some { b with state := .victim, copyTo := 2 })) ∧
  (∀ s : State, s.Running → 2 * s.dev.freeLow * s.dev.allBlocks ≤ s.dev.freeReady * 100 →
    exec .culletVictimSelection s = .next { s with dev := s.stamped }) ∧
  (∀ s : State, s.Running → s.dev.MediaCalm →
    (s.stamped.lehrNext = [] → exec .lehrRefresh s = .next { s with dev := s.stamped }) ∧
    (s.stamped.lehrNext ≠ [] → ∃ d, exec .lehrRefresh s = .next { s with dev := d } ∧
      ∃ n ∈ s.stamped.lehrNext, ∃ b, s.dev.band n = some b ∧
        (b.stream ≠ 5 → d.band n = some { b with state := .victim, copyTo := 3 }) ∧
        (b.stream = 5 → s.dev.bandEmpty n = false → ∃ x, d.band n = some x ∧ x.state = b.state ∧ x.stream = 5) ∧
        (b.stream = 5 → s.dev.bandEmpty n = true → d.band n = some { b with
          early := false, urgent := false, adj := 0, overdue := false, base :=
            (s.dev.setDies b.set).map (fun die => s.stamped.pkgDose (diePkg die)) }))) ∧
  (∀ (s : State) (j : Nat), s.Running → 2 * s.dev.freeLow * s.dev.allBlocks < s.dev.freeReady * 100 →
    s.dev.footprint + gatherBandBytes ≤ ((s.dev.cfg.map (·.band.gatherCeil)).getD 0) * 2 ^ 30 → s.dev.chooseSet true = some j →
    s.dev.med.bands.has (s.dev.med.nextBand % 0x1FFF8) = false →
    ∃ d b, exec .gatherZoneGrowth s = .next { s with dev := d } ∧
      d.med.gatherPending = s.dev.med.gatherPending ++ [s.dev.med.nextBand % 0x1FFF8] ∧ d.med.gather = s.dev.med.gather ∧
      d.med.nextBand = s.dev.med.nextBand % 0x1FFF8 + 1 ∧ d.band (s.dev.med.nextBand % 0x1FFF8) = some b ∧ b.set = j ∧
      b.stream = 5 ∧ b.state = .opened ∧ s.stamped.ChangesOnly d [.med, .jrn]) ∧
  (∀ s : State, s.Running → (s.dev.freeReady * 100 ≤ 2 * s.dev.freeLow * s.dev.allBlocks ∨ s.dev.chooseSet true = none) →
    exec .gatherZoneGrowth s = .next { s with dev := s.stamped }) ∧
  (∀ s : State, s.Running →
    (s.dev.freeReady * 100 < s.dev.freeLow * s.dev.allBlocks → s.dev.gatherFloor + gatherBandBytes ≤ s.dev.footprint →
      ∃ d, exec .gatherZoneShrink s = .next { s with dev := d } ∧
        ((∃ b ∈ s.dev.med.gather, s.dev.validPages b = [] ∧ d.med.gather = setErase s.dev.med.gather b ∧
            b ∈ d.med.gatherReturn) ∨
          (∃ b rest, s.dev.med.gather = b :: rest ∧ d.med.gather = s.dev.med.gather ∧
            ∀ x, s.dev.band b = some x → d.band b = some { x with state := .victim, copyTo := 5 }) ∨
          (s.dev.med.gather = [] ∧ d.med = s.dev.med))) ∧
    (s.dev.freeLow * s.dev.allBlocks ≤ s.dev.freeReady * 100 ∨ s.dev.footprint < s.dev.gatherFloor + gatherBandBytes →
      exec .gatherZoneShrink s = .next { s with dev := s.stamped })) ∧
  (∀ (s : State) (die : Nat), s.dev.aon = true → s.dev.MayClear die → s.dev.clearable die ≠ [] →
    (∀ k ∈ s.dev.clearable die, (s.dev.block k).wear < 100000000) →
    ∃ d k, exec (.clearScheduled die) s = .next { s with dev := d } ∧ k ∈ s.dev.clearable die ∧
      (d.block k).state = .clearing ∧ (d.block k).wear = (s.dev.block k).wear ∧
      ((∃ p ∈ d.med.progs, p.op = 3 ∧ p.die = die ∧ p.use = .clear k) ∨
        ∃ o, (d.die die).op = some o ∧ o.clear = true ∧ o.block = k % 1024) ∧
      (s.dev.med.progs = [] → (s.dev.die die).op = none → (s.dev.die die).thru = none → (s.dev.die die).queue = [] →
        s.dev.serving die = false → s.dev.mayRun die = true →
        s.stamped.rateAllows { die := die, op := 3, use := .control, dur := 0 } = true →
        (∃ o, (d.die die).op = some o ∧ o.clear = true ∧ o.block = k % 1024 ∧
          o.endAt = max (s.dev.die die).freeAt s.tb + 300000) ∧
        ∃ tag c, d.med.cmds.find tag = some c ∧ c.op = 3 ∧ c.die = die ∧ c.use = .clear k)) ∧
  (∀ (s : State) (n row : Nat) (b : Band), s.Running → s.dev.band n = some b → s.dev.flag .DRT_LEHR_CTL_SCAN_EN = true →
    row < b.rows → (∃ e ∈ s.dev.heldIn n, entryRow e.2 = row) →
    ∃ d, exec (.mediaScan n row) s = .next { s with dev := d } ∧ s.stamped.ChangesOnly d [.med, .regs] ∧
      ∀ die ∈ s.dev.setDies b.set, s.dev.dieReachable die = true →
        (∃ q ∈ (d.die die).queue, q.use = .scan n row) ∨
        ∃ tag c, d.med.cmds.find tag = some c ∧ c.op = 1 ∧ c.die = die ∧ c.use = .scan n row) ∧
  (∀ (s : State) (die m : Nat), s.dev.aon = true → s.dev.ring.contains die = true → s.dev.dieReachable die = true →
    s.dev.reg .JRN_STATUS_QSTATE = 0 → s.dev.rst.core = .none → s.dev.homeLink die = some m →
    ((s.dev.die die).sentinelDue = true ∨ (s.dev.die die).sentinelAt + 86400000000000 ≤ s.tb) →
    ∃ d c, exec (.sentinelReprogram die) s = .next { s with dev := d } ∧ s.stamped.ChangesOnly d [.med] ∧
      d.med.cmds.find (m * 4096 + s.dev.med.nextTag % 4096) = some c ∧ c.op = 8 ∧ c.die = die ∧ c.issuedAt = s.tb ∧
      c.opid = ((s.dev.die die).opid + 1) % 65536 ∧ c.use = .sentinel false)

/-- O55. At a slice that runs, with nothing waiting there: the acknowledgement of a write's acceptance record sends its
completion and, of an engine's request, passes it on. The DRAM tier's answer under the entry's token epoch sends a read's
value, or poison, and frees the entry, a line on media gets a media read, a partial write goes to WRITE; under another epoch
it is dropped. A delivered grain, its orchard chain complete, answers its read and ends it; a partial write goes to WRITE.
The stacks' or the engine's acknowledgement ends an entry. A deadline that passes makes the entry overdue. At the answer
instant the head answers, poison for a read, counts it with event 67, and the record is gone. A read on its link that slips
is rescued by reads around its die; a suspension that lasted SUS_HOLD resumes, its end moved by the time held, but not in a
quench, and where a demand read waits a new one is taken. -/
def Obligations.TrackingTableEntriesProgress : Prop :=
  (∀ (s : State) (k e : Nat) (t : TtEntry), s.dev.aon = true → s.dev.sliceRuns k = true → s.dev.SliceQuiet k →
    s.dev.entry k e = some t → t.acked = false →
    (t.state ≠ .done → (t.req.kind.isRead = true ∨ t.through = true ∨ t.sent = true) →
      exec (.buddyRecordAck k e) s = .next { s with
        dev := s.stamped.setEntry k e { t with acked := true, state := if t.req.kind.isEngine && t.state = .accepted then .engine else t.state } }) ∧
    (t.req.kind.isRead = false → t.through = false → t.sent = false →
      ((s.dev.head t.req.head).live.find t.req.rid).isSome = true →
      ∃ d, exec (.buddyRecordAck k e) s = .next { s with dev := d } ∧ (d.head t.req.head).live.find t.req.rid = none ∧
        s.dev.Puts d (.mem t.req.head t.req.tag none false (s.dev.reg .GLB_HEAD_LOAD_DEVLOAD t.req.head)) ∧
        d.entry k e = (if t.state = .done then none else some { t with
          acked := true, sent := true
          state := if t.req.kind.isEngine && t.state = .accepted then .engine else t.state }) ∧
        (t.req.kind ≠ .commitDoorbell → s.stamped.ChangesOnly d [.slices, .heads, .regs, .evt, .out, .pmc, .freeCtr]))) ∧
  (∀ (s : State) (k e : Nat) (t : TtEntry), s.dev.aon = true → s.dev.sliceRuns k = true → s.dev.SliceQuiet k →
    s.dev.entry k e = some t → t.state = .lookup → t.dramOut = true →
    (∀ (epoch : Nat) (c : TierCheck), epoch ≠ t.epoch → exec (.dramTierReadResult k e ⟨epoch, c⟩) s = .next { s with dev := s.stamped }) ∧
    ((t.media = false ∨ mapPoisoned ≤ s.dev.mapEntry (s.dev.entryPid t)) →
      (t.req.kind.isRead = true → ((s.dev.head t.req.head).live.find t.req.rid).isSome = true →
        ∃ d, exec (.dramTierReadResult k e ⟨t.epoch, .ok⟩) s = .next { s with dev := d } ∧ d.entry k e = none ∧
          (∀ p n, d.cellAt p n = s.dev.cellAt p n ∧ d.poisoned p n = s.dev.poisoned p n) ∧
          s.dev.Puts d (.mem t.req.head t.req.tag (t.val.bind RdVal.line?) (t.val.bind RdVal.line?).isNone
            (s.dev.reg .GLB_HEAD_LOAD_DEVLOAD t.req.head))) ∧
      (t.req.kind.isRead = false → ∃ d t', exec (.dramTierReadResult k e ⟨t.epoch, .ok⟩) s = .next { s with dev := d } ∧
        d.entry k e = some t' ∧ t'.state = .write ∧ t'.req = t.req ∧ t'.dramOut = false ∧
        ∀ p n, d.cellAt p n = s.dev.cellAt p n ∧ d.poisoned p n = s.dev.poisoned p n)) ∧
    (∀ (die : Nat), t.media = true → s.dev.mapEntry (s.dev.entryPid t) < mapPoisoned → k < 16 →
      s.dev.cfgAt t.req.stamp = s.dev.cfg →
      (t.mapOut = true → s.dev.mapHeld (s.dev.entryPid t / mapPageEntries) = true) →
      (∀ r ∈ s.dev.med.reads, r.2.slice ≠ k ∨ r.2.entry ≠ e ∨ r.2.epoch ≠ t.epoch) →
      s.dev.grainDie (s.dev.mapEntry (s.dev.entryPid t)) (t.req.off % 4096 / 256) = some die →
      ∃ d r, exec (.dramTierReadResult k e ⟨t.epoch, .ok⟩) s = .next { s with dev := d } ∧
        d.entry k e = some { t with dramOut := false, mapOut := false } ∧ s.dev.med.nextRead < d.med.nextRead ∧
        d.med.reads.find (d.med.nextRead - 1) = some r ∧ r.slice = k ∧ r.entry = e ∧ r.die = die ∧ r.spec = false ∧
        r.loc = s.dev.mapEntry (s.dev.entryPid t) ∧ r.lpn = s.dev.entryPid t ∧ r.deadline = t.req.deadline ∧
        r.epoch = t.epoch ∧ s.stamped.ChangesOnly d [.slices, .med, .cry, .evt, .freeCtr, .out, .pmc, .regs])) ∧
  (∀ (s : State) (k e n : Nat) (t : TtEntry) (r : MRead), s.dev.aon = true → s.dev.sliceRuns k = true →
    s.dev.SliceQuiet k → s.dev.entry k e = some t → t.state = .lookup → t.req.kind.isEngine = false →
    s.dev.med.reads.find? (fun x => x.2.slice = k && x.2.entry = e && x.2.epoch = t.epoch && x.2.ready) = some (n, r) →
    r.step = 0 → r.spec = false → s.dev.chainCheck r .ok = .ok →
    (∀ x ∈ s.dev.med.reads, x.2.slice ≠ fetchSlice k ∨ x.2.entry ≠ e ∨ x.2.epoch ≠ t.epoch) →
    (t.req.kind.isRead = true → ((s.dev.head t.req.head).live.find t.req.rid).isSome = true →
      ∃ d, exec (.mediaGrainDelivered k e ⟨t.epoch, .ok⟩) s = .next { s with dev := d } ∧ d.entry k e = none ∧
        d.med.reads.find n = none ∧ (∀ p n, d.cellAt p n = s.dev.cellAt p n ∧ d.poisoned p n = s.dev.poisoned p n) ∧
        s.dev.Puts d (.mem t.req.head t.req.tag (if r.lost then none else t.val.bind RdVal.line?)
          (r.lost || (t.val.bind RdVal.line?).isNone) (s.dev.reg .GLB_HEAD_LOAD_DEVLOAD t.req.head))) ∧
    (t.req.kind.isRead = false → r.lost = false →
      ∃ d t', exec (.mediaGrainDelivered k e ⟨t.epoch, .ok⟩) s = .next { s with dev := d } ∧ d.med.reads.find n = none ∧
        d.entry k e = some t' ∧ t'.state = .write ∧ t'.req = t.req ∧
        ∀ p n, d.cellAt p n = s.dev.cellAt p n ∧ d.poisoned p n = s.dev.poisoned p n)) ∧
  (∀ (s : State) (k e : Nat) (t : TtEntry), s.dev.aon = true → s.dev.sliceRuns k = true → s.dev.SliceQuiet k →
    s.dev.entry k e = some t →
    (t.state = .write → t.sent = true → ∃ d, exec (.dramTierWriteAck k e) s = .next { s with dev := d } ∧
      d.entry k e = none ∧ (∀ x, x ≠ e → d.entry k x = s.dev.entry k x) ∧
      (t.req.kind ≠ .commitDoorbell → s.stamped.ChangesOnly d [.slices])) ∧
    (t.state = .write → t.sent = false → t.acked = false ∨ t.through = true → t.req.kind.isRead = false →
      exec (.dramTierWriteAck k e) s = .next { s with dev := s.stamped.setEntry k e { t with state := .done } }) ∧
    (t.state = .write → t.sent = false → t.acked = true → t.through = false → t.req.kind.isRead = false →
      ((s.dev.head t.req.head).live.find t.req.rid).isSome = true →
      ∃ d, exec (.dramTierWriteAck k e) s = .next { s with dev := d } ∧ d.entry k e = none ∧
        s.dev.Puts d (.mem t.req.head t.req.tag none false (s.dev.reg .GLB_HEAD_LOAD_DEVLOAD t.req.head))) ∧
    (t.state = .engine → t.req.kind.isEngine = true → (∀ x ∈ s.dev.med.reads, x.2.slice ≠ k ∨ x.2.entry ≠ e) →
      (t.applied = true ∨ (t.req.kind ≠ .tally ∧ t.req.kind ≠ .counterRead ∧ t.req.kind ≠ .counterWrite)) →
      (t.req.kind.isRead = false → t.sent = true → ∃ d, exec (.engineAck k e) s = .next { s with dev := d } ∧
        d.entry k e = none ∧ s.stamped.ChangesOnly d [.slices]) ∧
      (t.req.kind.isRead = true → ((s.dev.head t.req.head).live.find t.req.rid).isSome = true →
        ∃ d, exec (.engineAck k e) s = .next { s with dev := d } ∧ d.entry k e = none ∧
          s.dev.Puts d (.mem t.req.head t.req.tag (t.val.bind RdVal.line?) (t.val.bind RdVal.line?).isNone
            (s.dev.reg .GLB_HEAD_LOAD_DEVLOAD t.req.head)))) ∧
    (s.tb < t.req.deadline → exec (.deadlinePassed k e) s = .next { s with dev := s.stamped }) ∧
    (t.req.deadline ≤ s.tb → t.overdue = false → t.sent = false →
      ∃ d, exec (.deadlinePassed k e) s = .next { s with dev := d } ∧ d.entry k e = some { t with overdue := true } ∧
        s.stamped.ChangesOnly d [.slices, .med, .evt, .freeCtr, .out, .pmc, .regs])) ∧
  (∀ (s : State) (h rid : Nat) (r : Req), s.dev.aon = true → (s.dev.head h).live.find rid = some r →
    (s.tb < r.answerAt → exec (.answerInstant h rid) s = .next { s with dev := s.stamped }) ∧
    (r.answerAt ≤ s.tb → ∃ d, exec (.answerInstant h rid) s = .next { s with dev := d } ∧
      (d.head h).live.find rid = none ∧ s.dev.Counted d .EVT_CFGn_COUNT 67 1 ∧
      s.dev.Counted d (if r.kind.isRead then .GLB_LAT_ALIM_READS else .GLB_LAT_ALIM_OTHERS) 0 1 ∧
      s.dev.Puts d (.mem h r.tag none r.kind.isRead (s.dev.reg .GLB_HEAD_LOAD_DEVLOAD h)) ∧
      s.stamped.ChangesOnly d [.heads, .regs, .evt, .out, .pmc, .freeCtr])) ∧
  (∀ (s : State) (n : Nat) (r : MRead) (b : Band) (c : Option Cfg), s.dev.aon = true → s.dev.med.reads.find n = some r →
    s.dev.band (entryBand r.loc) = some b → r.rescue = false → r.ready = false → r.path ≠ .around → r.spec = false →
    r.rank ≤ 3 → s.dev.dieReachable r.die = true → s.dev.queuedOn (fun u => decide (u = .grain n false)) = [] →
    8 ≤ (s.stamped.aroundMembers b.set r.die r.rank r.deadline).1.length →
    c = (match s.dev.entry r.slice r.entry with | some t => s.dev.cfgAt t.req.stamp | none => s.dev.cfg) →
    (s.tb < r.predicted - 100 + (c.map (·.latency.rescueSlip)).getD 100 →
      exec (.rescueSlipExpiry n) s = .next { s with dev := s.stamped }) ∧
    (r.predicted - 100 + (c.map (·.latency.rescueSlip)).getD 100 ≤ s.tb →
      ∃ d r', exec (.rescueSlipExpiry n) s = .next { s with dev := d } ∧ d.med.reads.find n = some r' ∧ r'.rescue = true ∧
        r'.members = (s.stamped.aroundMembers b.set r.die r.rank r.deadline).1 ∧ r'.die = r.die ∧ r'.loc = r.loc ∧
        s.dev.Counted d .MCX_SCHED_CNT1_RESCUES (s.dev.complexOf r.die) 1 ∧
        s.stamped.ChangesOnly d [.med, .evt, .freeCtr, .out, .pmc, .regs])) ∧
  (∀ (s : State) (n a : Nat) (o : DieOp), s.dev.aon = true → (s.dev.die n).op = some o → o.suspended = some a →
    (s.tb < a + (s.dev.cfg.map (·.latency.susHold)).getD 10 * 1000 ∨ s.dev.reg .JRN_STATUS_QSTATE ≠ 0 →
      exec (.susHoldExpiry n) s = .next { s with dev := s.stamped }) ∧
    (a + (s.dev.cfg.map (·.latency.susHold)).getD 10 * 1000 ≤ s.tb → s.dev.reg .JRN_STATUS_QSTATE = 0 → (s.dev.die n).thru = none →
      (∀ p ∈ s.dev.med.progs, p.die ≠ n ∨ p.thru = false) →
      ((∀ q ∈ (s.dev.die n).queue, 3 < q.rank) ∨ (s.dev.pkg (diePkg n)).caps ≤ o.suspends + o.prio →
        ∃ d, exec (.susHoldExpiry n) s = .next { s with dev := d } ∧
          (d.die n).op = some { o with suspended := none, endAt := o.endAt + (s.tb - a) } ∧ s.stamped.ChangesOnly d [.med]) ∧
      ((∃ q ∈ (s.dev.die n).queue, q.rank ≤ 3) → o.suspends < (s.dev.cfg.map (·.latency.susMax)).getD 16 →
        o.suspends + o.prio < (s.dev.pkg (diePkg n)).caps → ∃ d o', exec (.susHoldExpiry n) s = .next { s with dev := d } ∧
          (d.die n).op = some o' ∧ o'.suspended = some s.tb ∧ o'.suspends = o.suspends + 1 ∧
          o'.endAt = o.endAt + (s.tb - a) + 500 ∧ s.stamped.ChangesOnly d [.med, .evt, .freeCtr, .out, .pmc, .regs])))

/-- O56. A slice that runs takes a prefetch sent to it: dropped past 75 % of its internal entries, or with its sector at hand or
in flight, else it takes an internal entry under a new token epoch; the DRAM tier's answer to that fills the sector into a
free way that its region may use, and frees the entry. Run-ahead looks up the oldest waiting read in a free slot of its 64,
and accepts nothing; an entry 2 us old goes. A clean offer that the DRAM tier accepts is sending, counted; one it declines
or already holds frees the hold entry, counted. Offer data that is acknowledged is held by the DRAM tier while clean copies
have room, and no line's content changes. An uncorrected error, or the eighth corrected one of a 1 s window, disables the
way: its sectors go, its mark is set with an event, and bypass holds exactly below 12 enabled ways. A test written to an
enabled way has no effect; a passed test enables the way, a failed one leaves it disabled with an event. At the end of a
DevLoad window, once for each 4 us of timebase, each head's DevLoad is the highest level, or one below the last value. -/
def Obligations.LineCacheAndLoadCommandsTakeEffect : Prop :=
  (∀ (s : State) (k n : Nat) (p : PfReq), s.dev.aon = true → s.dev.sliceRuns k = true → (s.dev.slice k).pf[n]? = some p →
    (3072 < s.dev.intUse k ∨ s.dev.region p.region = none ∨ (∃ x ∈ (s.dev.slice k).tt, sectorOf x.2.req.dpa = p.sector) ∨
        (s.dev.slice k).holds p.region p.sector p.ki = true ∨
        (∃ x ∈ (s.dev.slice k).ways, x.2.sector = p.sector ∧ x.2.region = p.region ∧ x.2.ki = p.ki ∧ x.2.lines ≠ []) →
      ∃ d, exec (.nextLinePrefetch k n) s = .next { s with dev := d } ∧ d.slice k = { s.dev.slice k with pf := (s.dev.slice k).pf.eraseIdx n } ∧
        s.stamped.ChangesOnly d [.slices, .regs, .pmc, .evt, .out, .freeCtr]) ∧
    (∀ (g : RegionRec) (i : Nat), s.dev.intUse k ≤ 3072 → s.dev.region p.region = some g → s.dev.cached k g = true →
      (∀ x ∈ (s.dev.slice k).ways, x.2.sector ≠ p.sector) → (∀ x ∈ (s.dev.slice k).hold, x.2.sector ≠ p.sector) →
      (∀ x ∈ (s.dev.slice k).tt, sectorOf x.2.req.dpa ≠ p.sector) →
      (List.range 4096).find? (fun i => !(s.dev.slice k).tt.has (8192 + i) && !(s.dev.slice k).int.has (8192 + i)) = some i →
      ∃ d, exec (.nextLinePrefetch k n) s = .next { s with dev := d } ∧ (d.slice k).pf = (s.dev.slice k).pf.eraseIdx n ∧
        (d.slice k).tt = (s.dev.slice k).tt ∧ (d.slice k).ways = (s.dev.slice k).ways ∧
        (d.slice k).int.find (8192 + i) = some { pf := p, epoch := ((s.dev.slice k).epoch (8192 + i) + 1) % 64 } ∧
        s.stamped.ChangesOnly d [.slices])) ∧
  (∀ (s : State) (k e : Nat) (p : IntEntry) (g : RegionRec) (w pid : Nat), s.dev.aon = true → s.dev.sliceRuns k = true →
    s.dev.entry k e = none → (s.dev.slice k).int.find e = some p → s.dev.region p.pf.region = some g →
    (∀ x ∈ s.dev.med.reads, x.2.slice ≠ k ∨ x.2.entry ≠ e) → pid = s.dev.readPid g (p.pf.sector * 256 - g.base) →
    (∀ i ∈ sectorSubs (p.pf.sector * 256 - g.base), s.dev.onMedia pid i = false) →
    s.dev.flag .SLC_STATUS_BYPASS k = false → (s.dev.slice k).hold.length < 32 →
    (∀ x ∈ (s.dev.slice k).ways, x.2.sector ≠ p.pf.sector) →
    s.dev.sectorLines pid (p.pf.sector * 256 % 4096 / 256 * 4) p.pf.ki ≠ [] →
    (s.dev.fillWays k s.tb g.number).find? (fun w =>
      ((s.dev.slice k).ways.find (setOfSector p.pf.sector * 24 + w)).all (fun x => x.lines.isEmpty)) = some w →
    ∃ d, exec (.dramTierReadResult k e ⟨p.epoch, .ok⟩) s = .next { s with dev := d } ∧ (d.slice k).int.find e = none ∧
      (d.slice k).tt = (s.dev.slice k).tt ∧ (d.slice k).ways.find (setOfSector p.pf.sector * 24 + w) =
        some { sector := p.pf.sector, region := g.number, ki := p.pf.ki
               lines := s.dev.sectorLines pid (p.pf.sector * 256 % 4096 / 256 * 4) p.pf.ki }) ∧
  (∀ (s : State) (k : Nat) (r : Req) (rest : List Req) (g : RegionRec), s.dev.aon = true → s.dev.sliceRuns k = true →
    s.dev.waiting k = r :: rest → s.dev.regionAt r.stamp r.region = some g →
    (s.stamped.runAheadDue k = false → exec (.runAhead k) s = .next { s with dev := s.stamped }) ∧
    (s.stamped.runAheadDue k = true → r.kind = .read → (∃ i, i < 64 ∧ ∀ x ∈ (s.dev.slice k).ra, x.slot ≠ i) →
      (∀ x ∈ (s.dev.slice k).ra, x.line ≠ r.dpa / 64) → ∃ d, exec (.runAhead k) s = .next { s with dev := d } ∧
        (∃ x ∈ (d.slice k).ra, x.line = r.dpa / 64 ∧ x.region = g.number ∧ x.ki = r.ki ∧ x.off = r.off ∧ x.stamp = r.stamp) ∧
        (∀ x ∈ (d.slice k).ra, x ∈ (s.dev.slice k).ra ∨ (x.slot < 64 ∧ ∀ y ∈ (s.dev.slice k).ra, y.slot ≠ x.slot)) ∧
        (d.slice k).tt = (s.dev.slice k).tt ∧ (d.slice k).ingress = (s.dev.slice k).ingress ∧
        s.stamped.ChangesOnly d [.med, .slices, .cry, .evt, .freeCtr, .out, .pmc, .regs])) ∧
  (∀ (s : State) (k line : Nat), s.dev.aon = true →
    ∃ d, exec (.runAheadEntryExpiry k line) s = .next { s with dev := d } ∧ d.slice k = { s.dev.slice k with
        ra := (s.dev.slice k).ra.filter (fun x => !(x.line = line && x.filledAt.any (fun t => decide (t + 2000 ≤ s.tb)))) } ∧
      s.stamped.ChangesOnly d [.slices, .evt, .freeCtr, .out, .pmc, .regs]) ∧
  (∀ (s : State) (k h : Nat) (x : HoldEntry) (g : RegionRec), s.dev.aon = true → (s.dev.slice k).hold.find h = some x →
    s.dev.region x.region = some g →
    (x.sending = false →
      (∀ accept : Bool, (accept = false ∨ ∀ e ∈ x.lines,
          s.dev.inTier (s.dev.readPid g (x.sector * 256 - g.base)) (x.sector % 16 * 4 + e.1) = true) →
        exec (.cleanOfferAnswer k h accept) s = .next { s with
          dev := (s.stamped.setSlice k { s.dev.slice k with hold := (s.dev.slice k).hold.del h }).count .SLC_OFFER_DECLINED k }) ∧
      ((∃ e ∈ x.lines, s.dev.inTier (s.dev.readPid g (x.sector * 256 - g.base)) (x.sector % 16 * 4 + e.1) = false) →
        exec (.cleanOfferAnswer k h true) s = .next { s with
          dev := (s.stamped.setSlice k { s.dev.slice k with hold := (s.dev.slice k).hold.put h { x with sending := true } }).count .SLC_OFFER_ACCEPTED k })) ∧
    (x.sending = true → ∃ d, exec (.offerDataAck k h) s = .next { s with dev := d } ∧ (d.slice k).hold.find h = none ∧
      (∀ p n, d.inTier p n = true → d.cellAt p n = s.dev.cellAt p n) ∧ s.stamped.ChangesOnly d [.slices, .tier, .freeCtr] ∧
      (s.dev.tier.countP (fun e => isLpn e.1 && !e.2.dirty) < s.dev.cleanRoom → (∀ p n, d.cellAt p n = s.dev.cellAt p n) ∧
        ∀ e ∈ x.lines, (s.dev.cellAt (s.dev.readPid g (x.sector * 256 - g.base)) (x.sector % 16 * 4 + e.1)).isSome = true →
          d.inTier (s.dev.readPid g (x.sector * 256 - g.base)) (x.sector % 16 * 4 + e.1) = true))) ∧
  (∀ (s : State) (k set way n : Nat), s.dev.aon = true → k < 16 → way < 24 → s.dev.wayOn k way = true →
    n = (match (s.dev.slice k).ce.find way with | some c => if c.1 = s.tb / 1000000000 then c.2 else 0 | none => 0) →
    (n < 7 → exec (.lineCacheEccError k set way true) s = .next { s with
      dev := (s.stamped.setSlice k { s.dev.slice k with ce := (s.dev.slice k).ce.put way (s.tb / 1000000000, n + 1) }).count .SLC_WAY_STAT_CE_TOTAL k }) ∧
    (∀ corrected : Bool, (corrected = false ∨ 7 ≤ n) →
      ∃ d, exec (.lineCacheEccError k set way corrected) s = .next { s with dev := d } ∧
        (d.reg .SLC_WAY_DIS_WAY_DIS k).testBit way = true ∧ s.dev.Counted d .EVT_CFGn_COUNT (128 + 16 * k) 1 ∧
        (∀ i, i % 24 = way → (d.slice k).ways.find i = none) ∧ d.flag .SLC_STATUS_BYPASS k = decide (d.waysOn k < 12))) ∧
  (∀ (s : State) (k : Nat), s.dev.aon = true → ∃ d, exec (.wayErrorWindowEnd k) s = .next { s with dev := d } ∧
    s.stamped.ChangesOnly d [.slices] ∧ (∀ w c, (d.slice k).ce.find w = some c → s.tb / 1000000000 ≤ c.1) ∧
    ∀ w c, (s.dev.slice k).ce.find w = some c → s.tb / 1000000000 ≤ c.1 → (d.slice k).ce.find w = some c) ∧
  (∀ (s : State) (k mask : Nat), s.dev.aon = true → k < 16 →
    ∃ d, exec (.slcWayTestWrite k mask) s = .next { s with dev := d } ∧ s.dev.FieldsOnly d [.SLC_WAY_TEST_TESTING] ∧
      s.stamped.ChangesOnly d [.regs] ∧ ∀ w, w < 24 → (d.reg .SLC_WAY_TEST_TESTING k).testBit w =
        ((s.dev.reg .SLC_WAY_TEST_TESTING k).testBit w || (mask.testBit w && (s.dev.reg .SLC_WAY_DIS_WAY_DIS k).testBit w))) ∧
  (∀ (s : State) (k way : Nat), s.dev.aon = true → k < 16 → (s.dev.reg .SLC_WAY_TEST_TESTING k).testBit way = true →
    (∃ d, exec (.wayTestDone k way true) s = .next { s with dev := d } ∧ (d.reg .SLC_WAY_TEST_TESTING k).testBit way = false ∧
      (d.reg .SLC_WAY_DIS_WAY_DIS k).testBit way = false ∧ d.flag .SLC_STATUS_BYPASS k = decide (d.waysOn k < 12)) ∧
    (∃ d, exec (.wayTestDone k way false) s = .next { s with dev := d } ∧ (d.reg .SLC_WAY_TEST_TESTING k).testBit way = false ∧
      d.reg .SLC_WAY_DIS_WAY_DIS k = s.dev.reg .SLC_WAY_DIS_WAY_DIS k ∧ s.dev.Counted d .EVT_CFGn_COUNT (130 + 16 * k) 1)) ∧
  (∀ (s : State) (h : Nat), s.dev.aon = true → h < s.dev.headCount →
    (∀ c, s.dev.cfg = some c → c.latency.occTh.length ≤ 3 ∧ c.latency.dirtyTh.length ≤ 3) →
    (s.tb / 4000 ≤ s.dev.per.loadWindow → exec .devloadWindowEnd s = .next { s with dev := s.stamped }) ∧
    (s.dev.per.loadWindow < s.tb / 4000 → ∃ d, exec .devloadWindowEnd s = .next { s with dev := d } ∧
      d.per.loadWindow = s.tb / 4000 ∧ (d.head h).occPeak = (s.dev.head h).live.length ∧ (d.head h).live = (s.dev.head h).live ∧ d.per.dirtyPeak = s.dev.uncovered ∧
      (s.dev.reg .GLB_HEAD_LOAD_DEVLOAD h ≤ 3 → d.reg .GLB_HEAD_LOAD_DEVLOAD h =
        max (max (max (d.reg .GLB_HEAD_LOAD_OCC_LVL h) (d.reg .GLB_HEAD_LOAD_WB_LVL h))
          (max (d.reg .GLB_HEAD_LOAD_WEAR_LVL h) (d.reg .GLB_HEAD_LOAD_THERM_LVL h))) (s.dev.reg .GLB_HEAD_LOAD_DEVLOAD h - 1)) ∧
      d.reg .GLB_HEAD_LOAD_OCC_LVL h = levelOf (s.dev.head h).occPeak 65536 ((s.dev.cfg.map (·.latency.occTh)).getD [25, 75, 90]) ∧
      d.reg .GLB_HEAD_LOAD_WEAR_LVL h = s.dev.wearLevel))

/-- O57. A read of H0 that lands in a TABLE or SCRATCH window and is taken at once: where the line is at hand it is answered
with its value, else it waits in LOOKUP with that value, its stamp, deadline and answer instant; no line changes. The value
is poison for a stored-poisoned line, zeros for an unwritten one, the data under its key, poison under another key; a
shadow-window page outside the delta is the main window's. The status line is answered at once. A read or write of H1 waits
at its share for its stamp to pass, and nothing else changes; the next nanosecond of timebase takes it. A MemSpecRd hint
enters the run-ahead buffer where it is enabled and has room, else it is dropped; MemInv completes. An address that no
decoder claims is event 64, an unsupported message event 65, a tally-window read poison and event 69; a region out of
service answers a read with poison and discards a write with event 73. -/
def Obligations.HostReadsTakeTheLineAsItStands : Prop :=
  (∀ (s : State) (i : Instr) (r : HostReq) (g : RegionRec) (off ki k e : Nat), s.dev.aon = true →
    s.dev.TakesAt r.head r.hpa true g off ki k e → (s.dev.slot ki).st = .active →
    ((i = .memRd r ∧ (s.dev.window g off = .main ∨ s.dev.window g off = .shadow)) ∨
      (i = .shadowRead r ∧ s.dev.window g off = .shadow)) →
    ∃ d, exec i s = .next { s with dev := d } ∧ (∀ p n, d.cellAt p n = s.dev.cellAt p n ∧ d.poisoned p n = s.dev.poisoned p n) ∧
      (s.dev.atHand k g off ki = true → d.entry k e = none ∧
        s.dev.Puts d (.mem r.head r.tag (s.stamped.readLine g off ki).1.line? (s.stamped.readLine g off ki).1.line?.isNone
          (s.dev.reg .GLB_HEAD_LOAD_DEVLOAD r.head))) ∧
      (s.dev.atHand k g off ki = false → ∃ t, d.entry k e = some t ∧ t.state = .lookup ∧ t.dramOut = true ∧ t.req.kind = .read ∧
        t.val = some (s.stamped.readLine g off ki).1 ∧ t.req.head = r.head ∧ t.req.tag = r.tag ∧ t.req.stamp = s.tb ∧
        t.req.deadline = s.tb + s.dev.deadlineTime .read g.latclass ∧
        (d.head r.head).live.find s.dev.rid = some t.req ∧
        s.tb + (s.dev.cfg.map (·.latency.limit)).getD 1000 * 1000 ≤ t.req.answerAt + 1000 ∧
        (0 < (s.dev.cfg.map (·.latency.limit)).getD 1000 →
          t.req.answerAt < s.tb + (s.dev.cfg.map (·.latency.limit)).getD 1000 * 1000))) ∧
  (∀ (d : Dev) (g : RegionRec) (off ki : Nat), (d.slot ki).st = .active → d.orphanOf (d.readPid g off) = none →
    (d.shadowOf g.number).spill = [] →
    (d.poisoned (d.readPid g off) (off % 4096 / 64) = true → (d.readLine g off ki).1 = .stored) ∧
    (d.poisoned (d.readPid g off) (off % 4096 / 64) = false →
      (d.cellAt (d.readPid g off) (off % 4096 / 64) = none → (d.readLine g off ki).1 = .data 0) ∧
      (∀ c, d.cellAt (d.readPid g off) (off % 4096 / 64) = some c → d.staleLine (d.readPid g off) (off % 4096 / 64) = false →
        (d.readLine g off ki).1 = if c.ki = ki ∧ c.key = (d.slot ki).key then .data c.data else .macFail))) ∧
  (∀ (d : Dev) (g : RegionRec) (off : Nat), g.rtype = .table → g.size ≤ off → off < 2 * g.size →
    (∀ n, (d.shadowOf g.number).delta.find ((off - g.size) / 4096) = some n → d.readPid g off = d.pid g true n) ∧
    ((d.shadowOf g.number).delta.find ((off - g.size) / 4096) = none → d.readPid g off = d.readPid g (off - g.size))) ∧
  (∀ (s : State) (r : HostReq) (g : RegionRec) (off ki k e : Nat), s.dev.aon = true →
    s.dev.TakesAt r.head r.hpa true g off ki k e → s.dev.window g off = .control 64 →
    ∃ d, exec (.statusLineRead r) s = .next { s with dev := d } ∧ d.entry k e = none ∧ d.shadow = s.dev.shadow ∧
      s.dev.Puts d (.mem r.head r.tag (some (s.dev.shadowStatus g)) false (s.dev.reg .GLB_HEAD_LOAD_DEVLOAD r.head))) ∧
  (∀ (s : State) (i : Instr) (h tag hpa : Nat) (w : HostWr) (rd : Bool) (g : RegionRec) (off ki k e : Nat), s.dev.aon = true →
    h ≠ 0 → s.dev.Lands h hpa g off ki → s.dev.offline g .main rd = false → s.dev.window g off = .main →
    s.dev.Takes (s.dev.ownerOf g .main off) k e g off →
    ((i = .memRd ⟨h, tag, hpa⟩ ∧ rd = true) ∨ (Writes i w ∧ w.head = h ∧ w.tag = tag ∧ w.hpa = hpa ∧ w.be ≠ 0 ∧ rd = false)) →
    ∃ d q, exec i s = .next { s with dev := d } ∧ (d.slice (s.dev.ownerOf g .main off)).ingress = [q] ∧ q.head = h ∧
      q.tag = tag ∧ q.off = off ∧ q.ki = ki ∧ q.stamp = s.tb ∧ q.kind.isRead = rd ∧ (d.head h).live.find s.dev.rid = some q ∧
      (d.slice k).tt = (s.dev.slice k).tt ∧ s.stamped.ChangesOnly d [.heads, .slices, .regs, .rid, .freeCtr]) ∧
  (∀ (s : State) (r : Req) (g : RegionRec) (share k e : Nat), s.dev.aon = true → share < 16 → s.dev.region r.region = some g →
    g.number = r.region → s.dev.window g r.off = .main → r.dpa = g.base + r.off → r.stamp ≤ s.tb → r.poison = false →
    (s.dev.slot r.ki).st = .active → s.dev.Takes share k e g r.off [r] →
    (∀ x ∈ s.dev.slices, x.1 ≠ share → x.2.ingress = []) → s.dev.boot.tierWait = none →
    s.dev.flag .PWR_STEP_NOTIER = false → (∀ x ∈ s.dev.med.reads, x.2.ready = false) →
    (r.kind = .write → r.be = BitVec.allOnes 64 → (s.tick.dev.slice share).ingress = [] ∧
      (∃ t, s.tick.dev.entry k e = some t ∧ t.req = r ∧ t.state = .write) ∧
      (s.tick.dev.cellAt (s.dev.readPid g r.off) (r.off % 4096 / 64) =
          some { data := r.data, ki := r.ki, key := (s.dev.slot r.ki).key } ∨
        s.tick.dev.poisoned (s.dev.readPid g r.off) (r.off % 4096 / 64) = true)) ∧
    (r.kind = .read → (s.tick.dev.slice share).ingress = [] ∧
      ((s.tick.dev.entry k e = none ∧ (s.tick.dev.head r.head).live.find r.rid = none) ∨
        ∃ t, s.tick.dev.entry k e = some t ∧ t.req = r))) ∧
  (∀ (s : State) (r : HostReq) (g : RegionRec) (off ki k : Nat), s.dev.aon = true → s.dev.Lands r.head r.hpa g off ki →
    (s.dev.window g off = .main ∨ s.dev.window g off = .shadow) → s.dev.offline g (s.dev.window g off) true = false →
    s.dev.carrier (s.dev.ownerOf g (s.dev.window g off) off) = some k →
    (s.dev.inForce .SLC_CTL_SPECRD_EN k = true → (∃ i, i < 64 ∧ ∀ x ∈ (s.dev.slice k).ra, x.slot ≠ i) →
      (∀ x ∈ (s.dev.slice k).ra, x.line ≠ (g.base + off) / 64) → ∃ d x, exec (.memSpecRd r) s = .next { s with dev := d } ∧
        (d.slice k).ra = (s.dev.slice k).ra ++ [x] ∧ x.line = (g.base + off) / 64 ∧ x.region = g.number ∧ x.ki = ki ∧
        x.off = off ∧ x.stamp = s.tb ∧ x.slot < 64 ∧ (∀ y ∈ (s.dev.slice k).ra, y.slot ≠ x.slot) ∧
        (d.slice k).tt = (s.dev.slice k).tt ∧ s.stamped.ChangesOnly d [.slices, .med, .cry, .evt, .freeCtr, .out, .pmc, .regs]) ∧
    (s.dev.inForce .SLC_CTL_SPECRD_EN k = false ∨ (∀ i, i < 64 → ∃ x ∈ (s.dev.slice k).ra, x.slot = i) ∨
        (∃ x ∈ (s.dev.slice k).ra, x.line = (g.base + off) / 64) →
      exec (.memSpecRd r) s = .next { s with dev := s.stamped })) ∧
  (∀ (s : State) (r : HostReq), s.dev.aon = true → s.dev.canAccept r.head = true →
    exec (.memInv r) s = .next { s with dev := { s.stamped with
      out := .mem r.head r.tag none false (s.dev.reg .GLB_HEAD_LOAD_DEVLOAD r.head) :: s.dev.out } } ∧
    ((∀ n, n < 8 → (s.dev.decoder r.head n).hits r.hpa = false) →
      (∃ d, exec (.memRd r) s = .next { s with dev := d } ∧ s.dev.Counted d .EVT_CFGn_COUNT 64 1 ∧
        s.stamped.ChangesOnly d [.evt, .out, .regs] ∧
        s.dev.Puts d (.mem r.head r.tag none true (s.dev.reg .GLB_HEAD_LOAD_DEVLOAD r.head))) ∧
      (∀ data p, ∃ d, exec (.memWr r.head r.tag r.hpa data p) s = .next { s with dev := d } ∧
        s.dev.Counted d .EVT_CFGn_COUNT 64 1 ∧ s.stamped.ChangesOnly d [.evt, .out, .regs] ∧
        s.dev.Puts d (.mem r.head r.tag none false (s.dev.reg .GLB_HEAD_LOAD_DEVLOAD r.head))))) ∧
  (∀ (s : State) (h tag op : Nat), s.dev.aon = true → s.dev.serves (headIx h) = true →
    s.dev.flag .GLB_HEAD_LINK_CXL h = true → ∃ d, exec (.unsupportedM2sMessage h tag op) s = .next { s with dev := d } ∧
      s.dev.Counted d .EVT_CFGn_COUNT 65 1 ∧ s.stamped.ChangesOnly d [.evt, .out, .regs]) ∧
  (∀ (s : State) (r : HostReq) (g : RegionRec) (off ki : Nat), s.dev.aon = true → s.dev.Lands r.head r.hpa g off ki →
    (s.dev.window g off = .tally → ∃ d, exec (.tallyWindowRead r) s = .next { s with dev := d } ∧
      s.dev.Counted d .EVT_CFGn_COUNT 69 1 ∧ s.stamped.ChangesOnly d [.evt, .out, .regs] ∧
      s.dev.Puts d (.mem r.head r.tag none true (s.dev.reg .GLB_HEAD_LOAD_DEVLOAD r.head))) ∧
    (s.dev.window g off = .main →
      (s.dev.offline g .main true = true → exec (.memRd r) s = .next { s with dev := { s.stamped with
        out := .mem r.head r.tag none true (s.dev.reg .GLB_HEAD_LOAD_DEVLOAD r.head) :: s.dev.out } }) ∧
      (∀ data p, s.dev.offline g .main false = true → ∃ d, exec (.memWr r.head r.tag r.hpa data p) s = .next { s with dev := d } ∧
        s.dev.Counted d .EVT_CFGn_COUNT 73 1 ∧ s.stamped.ChangesOnly d [.evt, .out, .regs] ∧
        s.dev.Puts d (.mem r.head r.tag none false (s.dev.reg .GLB_HEAD_LOAD_DEVLOAD r.head)))))

/-- O58. A write of H0 taken at once whose page is the main window's or already in the delta: the line holds the data, merged
into the old line where only part is enabled, under its key and without poison, or it is lost to poison; with the Poison bit
the line is stored poisoned; a partial write to a stored-poisoned line changes no line and one to a line that does not
verify poisons it. No other line changes, and the entry waits for its acknowledgement. No enabled byte: completed without
effect. The first shadow write to a page opens a delta page and leaves the main window's lines; past the limit it is
discarded and the state is OVERFLOW. COMMIT with the expected epoch commits the delta at its stamp, DISCARD drops it;
another epoch, an overflow, or a malformed doorbell only sets LAST_RESULT. -/
def Obligations.HostWritesTakeEffectAtAcceptance : Prop :=
  (∀ (s : State) (i : Instr) (w : HostWr) (g : RegionRec) (off ki k e : Nat), s.dev.aon = true →
    s.dev.TakesAt w.head w.hpa false g off ki k e → (s.dev.slot ki).st = .active → w.be ≠ 0 →
    ((Writes i w ∧ (s.dev.window g off = .main ∨ (s.dev.window g off = .shadow ∧ s.dev.inDelta g off = true))) ∨
      (i = .shadowWrite w ∧ s.dev.window g off = .shadow ∧ s.dev.inDelta g off = true)) →
    ∃ d t, exec i s = .next { s with dev := d } ∧ d.entry k e = some t ∧ t.sent = false ∧ t.acked = false ∧
      t.req.head = w.head ∧ t.req.tag = w.tag ∧ t.req.stamp = s.tb ∧ (w.be = BitVec.allOnes 64 → t.state = .write) ∧
      (t.state = .write ∨ t.state = .lookup) ∧
      s.dev.LinesBut d (s.dev.readPid g off) (off % 4096 / 64) ∧
      (w.poison = true → d.poisoned (s.dev.readPid g off) (off % 4096 / 64) = true) ∧
      (w.poison = false → ∀ l, ((w.be = BitVec.allOnes 64 ∧ l = w.data) ∨ (w.be ≠ BitVec.allOnes 64 ∧ ∃ old,
          (s.stamped.lineVal (s.dev.readPid g off) (off % 4096 / 64) ki).1 = .data old ∧ l = mergeBytes old w.data w.be)) →
        (d.cellAt (s.dev.readPid g off) (off % 4096 / 64) = some { data := l, ki := ki, key := (s.dev.slot ki).key } ∧
          d.poisoned (s.dev.readPid g off) (off % 4096 / 64) = false) ∨
        (isLpn (s.dev.readPid g off) = true ∧ d.poisoned (s.dev.readPid g off) (off % 4096 / 64) = true)) ∧
      (w.poison = false → w.be ≠ BitVec.allOnes 64 →
        ((s.stamped.lineVal (s.dev.readPid g off) (off % 4096 / 64) ki).1 = .stored →
          d.poisoned (s.dev.readPid g off) (off % 4096 / 64) = true ∧
          d.cellAt (s.dev.readPid g off) (off % 4096 / 64) = s.dev.cellAt (s.dev.readPid g off) (off % 4096 / 64)) ∧
        ((s.stamped.lineVal (s.dev.readPid g off) (off % 4096 / 64) ki).1 = .macFail →
          d.poisoned (s.dev.readPid g off) (off % 4096 / 64) = true))) ∧
  (∀ (s : State) (w : HostWr), s.dev.aon = true → s.dev.canAccept w.head = true → w.be = 0 →
    exec (.memWrPtl w) s = .next { s with dev := { s.stamped with
      out := .mem w.head w.tag none false (s.dev.reg .GLB_HEAD_LOAD_DEVLOAD w.head) :: s.dev.out } }) ∧
  (∀ (s : State) (i : Instr) (w : HostWr) (g : RegionRec) (off ki k e : Nat), s.dev.aon = true →
    s.dev.TakesAt w.head w.hpa false g off ki k e → s.dev.window g off = .shadow → s.dev.inDelta g off = false → w.be ≠ 0 →
    (Writes i w ∨ i = .shadowWrite w) →
    (∀ n, (s.dev.shadowOf g.number).state ≠ 2 → (s.dev.shadowOf g.number).delta.length < shadowLimit g →
      freeDelta (s.dev.shadowOf g.number) (shadowLimit g) = some n → w.be = BitVec.allOnes 64 → w.poison = false →
      (s.dev.slot ki).st = .active → ∃ d, exec i s = .next { s with dev := d } ∧ (d.shadowOf g.number).state = 1 ∧
        (d.shadowOf g.number).delta = (s.dev.shadowOf g.number).delta.put ((off - g.size) / 4096) n ∧
        (d.shadowOf g.number).epoch = (s.dev.shadowOf g.number).epoch ∧
        ((d.cellAt (s.dev.pid g true n) (off % 4096 / 64) = some { data := w.data, ki := ki, key := (s.dev.slot ki).key } ∧
          d.poisoned (s.dev.pid g true n) (off % 4096 / 64) = false) ∨
          d.poisoned (s.dev.pid g true n) (off % 4096 / 64) = true) ∧
        (s.dev.readPid g off ≠ s.dev.pid g true n →
          ∀ j, d.cellAt (s.dev.readPid g off) j = s.dev.cellAt (s.dev.readPid g off) j)) ∧
    ((s.dev.shadowOf g.number).state = 2 ∨ shadowLimit g ≤ (s.dev.shadowOf g.number).delta.length →
      ∃ d, exec i s = .next { s with dev := d } ∧ (d.shadowOf g.number).state = 2 ∧
        (d.shadowOf g.number).delta = (s.dev.shadowOf g.number).delta ∧
        (d.shadowOf g.number).epoch = (s.dev.shadowOf g.number).epoch ∧ (off - g.size) / 64 ∈ (d.shadowOf g.number).spill ∧
        ∀ p n, d.cellAt p n = s.dev.cellAt p n ∧ d.poisoned p n = s.dev.poisoned p n)) ∧
  (∀ (s : State) (w : HostWr) (g : RegionRec) (off ki k e : Nat), s.dev.aon = true →
    s.dev.TakesAt w.head w.hpa false g off ki k e → s.dev.window g off = .control 0 → w.be ≠ 0 →
    (lineAt w.data 0 4 = 1 → ∃ d, exec (.commit w) s = .next { s with dev := d } ∧
      (w.be ≠ BitVec.allOnes 64 ∨ w.poison = true ∨ lineAt w.data 4 4 ≠ 0 ∨ lineAt w.data 16 48 ≠ 0 →
        d.shadow = s.dev.shadow ∧ d.reg .RGN_SHADOW_LAST_RESULT g.number = 4) ∧
      (w.be = BitVec.allOnes 64 → w.poison = false → lineAt w.data 4 4 = 0 → lineAt w.data 16 48 = 0 →
        (lineAt w.data 8 8 ≠ (s.dev.shadowOf g.number).epoch →
          d.shadow = s.dev.shadow ∧ d.reg .RGN_SHADOW_LAST_RESULT g.number = 1) ∧
        (lineAt w.data 8 8 = (s.dev.shadowOf g.number).epoch → (s.dev.shadowOf g.number).state = 2 →
          d.shadow = s.dev.shadow ∧ d.reg .RGN_SHADOW_LAST_RESULT g.number = 2) ∧
        (lineAt w.data 8 8 = (s.dev.shadowOf g.number).epoch → (s.dev.shadowOf g.number).state ≠ 2 →
          (∀ x ∈ (s.dev.shadowOf g.number).delta, (s.dev.page (s.dev.pid g true x.2)).unpers = false) →
          d.shadowOf g.number = { s.dev.shadowOf g.number with
            state := 0, epoch := ((s.dev.shadowOf g.number).epoch + 1) % 2 ^ 64, committedAt := s.tb, delta := []
            folding := (s.dev.shadowOf g.number).delta, spill := [] } ∧
          d.reg .RGN_SHADOW_LAST_RESULT g.number = 0))) ∧
    (lineAt w.data 0 4 = 2 → w.be = BitVec.allOnes 64 → w.poison = false → lineAt w.data 4 4 = 0 → lineAt w.data 16 48 = 0 →
      ∃ d, exec (.discard w) s = .next { s with dev := d } ∧
        (lineAt w.data 8 8 ≠ (s.dev.shadowOf g.number).epoch →
          d.shadow = s.dev.shadow ∧ d.reg .RGN_SHADOW_LAST_RESULT g.number = 1) ∧
        (lineAt w.data 8 8 = (s.dev.shadowOf g.number).epoch →
          d.shadowOf g.number = { s.dev.shadowOf g.number with
            state := 0, delta := [], spill := [], dropped := (s.dev.shadowOf g.number).delta } ∧
          d.reg .RGN_SHADOW_LAST_RESULT g.number = 5)))

/-- O59. For a request of H0 taken at once, its queue in the set and its pointer copies good: line 0 of a frame with a good
length reserves its cells, or drops the frame with its reason counted; a frame of one line is complete at once with the tail
SEQ and its stamp, a longer one opens; a later line is kept, and the last one completes the frame. A dequeue read takes the
line of the head frame, the empty header, zeros past the end, or poison for a bad line, and removes nothing; the status read
takes the status line. RELEASE with the head SEQ removes up to COUNT frames, a stale one is counted, a malformed one is
counted and changes nothing; ABORT ends assembly. Update lines, counter reads and counter writes of alias 0 wait for the
merge under their stamp; through another alias a read is poison and a write is discarded, both counted. -/
def Obligations.QueueAndCounterRequestsTakeEffect : Prop :=
  (∀ (s : State) (w : HostWr) (g : RegionRec) (off ki k e q o : Nat), s.dev.aon = true →
    s.dev.TakesAt w.head w.hpa false g off ki k e → s.dev.window g off = .enqueue q o → s.dev.InSet g q →
    s.dev.qen.ptrBad.find q = none → w.be ≠ 0 → w.poison = false →
    ((s.dev.queue q).asm = .idle → o = 0 → 0 < lineAt (mergeBytes 0 w.data w.be) 0 2 →
      lineAt (mergeBytes 0 w.data w.be) 0 2 ≤ 16128 → ∃ d, exec (.enqueueLine w .ok) s = .next { s with dev := d } ∧
        (∀ r, (s.dev.reserveFrame q (lineAt (mergeBytes 0 w.data w.be) 0 2)).1 = .error r → d.queue q = { s.dev.queue q with
          drops := satAdd 32 (s.dev.queue q).drops 1
          asm := .dropping s.tb (s.dev.queueTimeout q) (64 * (frameLines (lineAt (mergeBytes 0 w.data w.be) 0 2) - 1)) }) ∧
        (∀ x, (s.dev.reserveFrame q (lineAt (mergeBytes 0 w.data w.be) 0 2)).1 = .ok x →
          (frameLines (lineAt (mergeBytes 0 w.data w.be) 0 2) = 1 → (d.queue q).asm = .idle ∧
            (d.queue q).tailSeq = ((s.dev.queue q).tailSeq + 1) % 2 ^ 32 ∧ ∃ fr, (d.queue q).frames.getLast? = some fr ∧
              fr.len = lineAt (mergeBytes 0 w.data w.be) 0 2 ∧ fr.seq = (s.dev.queue q).tailSeq ∧ fr.stamp = s.tb ∧ fr.flags = 0 ∧
              (s.dev.queuePersist q = false → (d.queue q).frames = (s.dev.queue q).frames ++ [fr])) ∧
          (frameLines (lineAt (mergeBytes 0 w.data w.be) 0 2) ≠ 1 → (d.queue q).tailSeq = (s.dev.queue q).tailSeq ∧
            ∃ f, (d.queue q).asm = .opened f ∧ f.len = lineAt (mergeBytes 0 w.data w.be) 0 2 ∧
              f.line0 = mergeBytes 0 w.data w.be ∧ f.openedAt = s.tb ∧ f.timeoutUs = s.dev.queueTimeout q))) ∧
    (∀ f, (s.dev.queue q).asm = .opened f → 0 < o / 64 → f.lines.has (o / 64) = false →
      (o < 64 * (frameLines f.len - 1) → ∃ d f' c, exec (.enqueueLine w .ok) s = .next { s with dev := d } ∧
        (d.queue q).asm = .opened f' ∧ (d.queue q).frames = (s.dev.queue q).frames ∧ f'.lines.find (o / 64) = some c ∧
        c.data = mergeBytes 0 w.data w.be) ∧
      (o = 64 * (frameLines f.len - 1) → ∃ d fr, exec (.enqueueLine w .ok) s = .next { s with dev := d } ∧
        (d.queue q).asm = .idle ∧ (d.queue q).frames = (s.dev.queue q).frames ++ [fr] ∧ fr.len = f.len ∧ fr.user = f.user ∧
        fr.seq = (s.dev.queue q).tailSeq ∧ fr.stamp = s.tb ∧
        (d.queue q).tailSeq = ((s.dev.queue q).tailSeq + 1) % 2 ^ 32))) ∧
  (∀ (s : State) (r : HostReq) (g : RegionRec) (off ki k e q : Nat), s.dev.aon = true →
    s.dev.TakesAt r.head r.hpa true g off ki k e → s.dev.InSet g q → s.dev.qen.ptrBad.find q = none →
    (∀ o, s.dev.window g off = .dequeue q o → ∃ d t, exec (.dequeueRead r .ok) s = .next { s with dev := d } ∧
      d.qen = s.dev.qen ∧ d.entry k e = some t ∧ t.state = .accepted ∧ t.req.head = r.head ∧ t.req.tag = r.tag ∧
      ((s.dev.queue q).frames = [] →
        t.val = some (.data (if o = 0 then withHeader 0 0 0 0 (s.dev.queue q).headSeq 0 else 0))) ∧
      (∀ f fs, (s.dev.queue q).frames = f :: fs →
        (frameLines f.len ≤ o / 64 → t.val = some (.data 0)) ∧
        (o / 64 < frameLines f.len → f.bad.contains (o / 64) = true → t.val = some .stored) ∧
        (∀ c, o / 64 < frameLines f.len → f.bad.contains (o / 64) = false → s.dev.queuePersist q = false →
          f.lines.find (o / 64) = some c → s.dev.verifies c (s.dev.queueKey q) = true →
          t.val = some (.data (if o / 64 = 0 then withHeader c.data f.len f.flags f.user f.seq f.stamp else c.data))))) ∧
    (s.dev.window g off = .doorbell q → ∃ d t, exec (.doorbellStatusRead r .ok) s = .next { s with dev := d } ∧
      d.qen = s.dev.qen ∧ d.entry k e = some t ∧ t.state = .accepted ∧ t.val = some (.data (s.dev.queueStatus q)))) ∧
  (∀ (s : State) (w : HostWr) (g : RegionRec) (off ki k e q : Nat), s.dev.aon = true →
    s.dev.TakesAt w.head w.hpa false g off ki k e → s.dev.window g off = .doorbell q → s.dev.InSet g q →
    s.dev.qen.ptrBad.find q = none → w.be ≠ 0 →
    (lineAt w.data 0 4 = 1 → ∃ d, exec (.release w .ok) s = .next { s with dev := d } ∧
      (w.be = BitVec.allOnes 64 → w.poison = false → 0 < lineAt w.data 12 2 → lineAt w.data 12 2 ≤ 256 →
        (lineAt w.data 8 4 = (s.dev.queue q).headSeq → d.queue q = { s.dev.queue q with
          frames := (s.dev.queue q).frames.drop (min (lineAt w.data 12 2) (s.dev.queue q).frames.length)
          headSeq := ((s.dev.queue q).headSeq + min (lineAt w.data 12 2) (s.dev.queue q).frames.length) % 2 ^ 32
          spillPages := ceilDiv (spilledCells ((s.dev.queue q).frames.drop (min (lineAt w.data 12 2) (s.dev.queue q).frames.length))) 16 }) ∧
        (lineAt w.data 8 4 ≠ (s.dev.queue q).headSeq → d.qen = s.dev.qen ∧ s.dev.Counted d .QEN_MISC_STALE_REL 0 1)) ∧
      (w.be ≠ BitVec.allOnes 64 ∨ w.poison = true ∨ lineAt w.data 12 2 = 0 ∨ 256 < lineAt w.data 12 2 →
        d.qen = s.dev.qen ∧ s.dev.Counted d .QEN_MISC_BAD_DOORBELL 0 1)) ∧
    (lineAt w.data 0 4 = 2 → w.be = BitVec.allOnes 64 → w.poison = false →
      ∃ d, exec (.abort w .ok) s = .next { s with dev := d } ∧ (d.queue q).asm = .idle ∧
        (d.queue q).frames = (s.dev.queue q).frames ∧ (d.queue q).headSeq = (s.dev.queue q).headSeq ∧
        (d.queue q).tailSeq = (s.dev.queue q).tailSeq)) ∧
  (∀ (s : State) (i : Instr) (w : HostWr) (g : RegionRec) (off ki k e m : Nat) (kind : ReqKind), s.dev.aon = true →
    (((i = .updateLine w ∧ s.dev.window g off = .tally ∧ kind = .tally) ∨
      (i = .counterWindowWrite w ∧ s.dev.window g off = .counter m ∧ 8 * m < s.dev.regionCount g ∧ kind = .counterWrite)) ∧
      w.be ≠ 0 ∧ s.dev.TakesAt w.head w.hpa false g off ki k e) ∨
    (i = .counterWindowRead ⟨w.head, w.tag, w.hpa⟩ ∧ s.dev.window g off = .counter m ∧ 8 * m < s.dev.regionCount g ∧
      kind = .counterRead ∧ s.dev.TakesAt w.head w.hpa true g off ki k e) →
    (ki = g.keyBase → ∃ d x t, exec i s = .next { s with dev := d } ∧ d.tal.items = s.dev.tal.items ++ [x] ∧
      x.stamp = s.tb ∧ x.head = w.head ∧ x.slice = k ∧ x.entry = e ∧ x.req.kind = kind ∧ x.req.off = off ∧
      x.req.region = g.number ∧ (kind ≠ .counterRead → x.req.data = w.data ∧ x.req.be = w.be ∧ x.req.poison = w.poison) ∧
      d.entry k e = some t ∧ t.req = x.req ∧ t.state = .accepted ∧ d.tal.cache = s.dev.tal.cache) ∧
    (ki ≠ g.keyBase → ∃ d, exec i s = .next { s with dev := d } ∧ d.tal = s.dev.tal ∧ d.slices = s.dev.slices ∧
      s.dev.Puts d (.mem w.head w.tag none (decide (kind = .counterRead)) (s.dev.reg .GLB_HEAD_LOAD_DEVLOAD w.head)) ∧
      (kind = .counterRead → s.dev.Counted d .CRY_ERR0_MAC_FAIL 0 1) ∧
      (kind ≠ .counterRead → s.dev.Counted d .TAL_BAD_KEY 0 1)))

/-- O60. Rule R214. A read that lands in an enqueue aperture of a queue of the region's set is answered with poison; a write
that lands in a dequeue aperture of such a queue, with some byte enabled, is discarded and completed. Each raises host-
interface event 69. Neither changes the queues or anything but the events, the registers and what is put out. For a queue
number outside the set the read is answered with poison and the write is discarded with event 70, as rule R56 has it, and no
queue changes either. -/
def Obligations.ApertureAccessesOfTheWrongKindChangeNoQueue : Prop :=
  (∀ (s : State) (r : HostReq) (g : RegionRec) (off ki q o : Nat), s.dev.aon = true → s.dev.Lands r.head r.hpa g off ki →
    s.dev.window g off = .enqueue q o → ∃ d, exec (.enqueueApertureRead r) s = .next { s with dev := d } ∧
      exec (.memRd r) s = .next { s with dev := d } ∧
      s.dev.Puts d (.mem r.head r.tag none true (s.dev.reg .GLB_HEAD_LOAD_DEVLOAD r.head)) ∧ d.qen = s.dev.qen ∧
      s.stamped.ChangesOnly d [.evt, .out, .regs] ∧ (s.dev.InSet g q → s.dev.Counted d .EVT_CFGn_COUNT 69 1)) ∧
  (∀ (s : State) (w : HostWr) (g : RegionRec) (off ki q o : Nat), s.dev.aon = true → s.dev.Lands w.head w.hpa g off ki →
    s.dev.window g off = .dequeue q o → w.be ≠ 0 → ∃ d, exec (.dequeueApertureWrite w) s = .next { s with dev := d } ∧
      exec (.memWrPtl w) s = .next { s with dev := d } ∧
      s.dev.Puts d (.mem w.head w.tag none false (s.dev.reg .GLB_HEAD_LOAD_DEVLOAD w.head)) ∧ d.qen = s.dev.qen ∧
      s.stamped.ChangesOnly d [.evt, .out, .regs] ∧ (s.dev.InSet g q → s.dev.Counted d .EVT_CFGn_COUNT 69 1) ∧
      (¬ s.dev.InSet g q → s.dev.Counted d .EVT_CFGn_COUNT 70 1)) ∧
  (∀ (s : State) (i : Instr) (h tag hpa : Nat) (w : HostWr) (g : RegionRec) (off ki q o : Nat), s.dev.aon = true →
    s.dev.Lands h hpa g off ki → ¬ s.dev.InSet g q →
    (((s.dev.window g off = .dequeue q o ∨ s.dev.window g off = .doorbell q) → exec (.memRd ⟨h, tag, hpa⟩) s = .next { s with
        dev := { s.stamped with out := .mem h tag none true (s.dev.reg .GLB_HEAD_LOAD_DEVLOAD h) :: s.dev.out } }) ∧
      ((s.dev.window g off = .enqueue q o ∨ s.dev.window g off = .doorbell q) → Writes i w → w.head = h → w.hpa = hpa → w.be ≠ 0 →
        ∃ d, exec i s = .next { s with dev := d } ∧ d.qen = s.dev.qen ∧ s.dev.Counted d .EVT_CFGn_COUNT 70 1 ∧
          s.dev.Puts d (.mem h w.tag none false (s.dev.reg .GLB_HEAD_LOAD_DEVLOAD h)))))
end

