-- ==== Sys2Proof/Laws/State.lean ====
section
/-!
SUPPORT. One lemma per field of `Dev` for each of the shared updates of `Machine/Ops.lean`: what each leaves unchanged, and what
it writes.
-/
namespace Sys2Proof.Machine

/-! ## setReg -/

@[simp] theorem Dev.setReg_now (d : Dev) (f : Fld) (i v : Nat) : (d.setReg f i v).now = d.now := rfl
@[simp] theorem Dev.setReg_cause (d : Dev) (f : Fld) (i v : Nat) : (d.setReg f i v).cause = d.cause := rfl
@[simp] theorem Dev.setReg_aon (d : Dev) (f : Fld) (i v : Nat) : (d.setReg f i v).aon = d.aon := rfl
@[simp] theorem Dev.setReg_cfg (d : Dev) (f : Fld) (i v : Nat) : (d.setReg f i v).cfg = d.cfg := rfl
@[simp] theorem Dev.setReg_oldCfgs (d : Dev) (f : Fld) (i v : Nat) : (d.setReg f i v).oldCfgs = d.oldCfgs := rfl
@[simp] theorem Dev.setReg_boot (d : Dev) (f : Fld) (i v : Nat) : (d.setReg f i v).boot = d.boot := rfl
@[simp] theorem Dev.setReg_mgt (d : Dev) (f : Fld) (i v : Nat) : (d.setReg f i v).mgt = d.mgt := rfl
@[simp] theorem Dev.setReg_ust (d : Dev) (f : Fld) (i v : Nat) : (d.setReg f i v).ust = d.ust := rfl
@[simp] theorem Dev.setReg_evt (d : Dev) (f : Fld) (i v : Nat) : (d.setReg f i v).evt = d.evt := rfl
@[simp] theorem Dev.setReg_pmc (d : Dev) (f : Fld) (i v : Nat) : (d.setReg f i v).pmc = d.pmc := rfl
@[simp] theorem Dev.setReg_pwr (d : Dev) (f : Fld) (i v : Nat) : (d.setReg f i v).pwr = d.pwr := rfl
@[simp] theorem Dev.setReg_rst (d : Dev) (f : Fld) (i v : Nat) : (d.setReg f i v).rst = d.rst := rfl
@[simp] theorem Dev.setReg_clk (d : Dev) (f : Fld) (i v : Nat) : (d.setReg f i v).clk = d.clk := rfl
@[simp] theorem Dev.setReg_thm (d : Dev) (f : Fld) (i v : Nat) : (d.setReg f i v).thm = d.thm := rfl
@[simp] theorem Dev.setReg_pin (d : Dev) (f : Fld) (i v : Nat) : (d.setReg f i v).pin = d.pin := rfl
@[simp] theorem Dev.setReg_jrn (d : Dev) (f : Fld) (i v : Nat) : (d.setReg f i v).jrn = d.jrn := rfl
@[simp] theorem Dev.setReg_heads (d : Dev) (f : Fld) (i v : Nat) : (d.setReg f i v).heads = d.heads := rfl
@[simp] theorem Dev.setReg_slices (d : Dev) (f : Fld) (i v : Nat) : (d.setReg f i v).slices = d.slices := rfl
@[simp] theorem Dev.setReg_tier (d : Dev) (f : Fld) (i v : Nat) : (d.setReg f i v).tier = d.tier := rfl
@[simp] theorem Dev.setReg_poison (d : Dev) (f : Fld) (i v : Nat) : (d.setReg f i v).poison = d.poison := rfl
@[simp] theorem Dev.setReg_med (d : Dev) (f : Fld) (i v : Nat) : (d.setReg f i v).med = d.med := rfl
@[simp] theorem Dev.setReg_shadow (d : Dev) (f : Fld) (i v : Nat) : (d.setReg f i v).shadow = d.shadow := rfl
@[simp] theorem Dev.setReg_qen (d : Dev) (f : Fld) (i v : Nat) : (d.setReg f i v).qen = d.qen := rfl
@[simp] theorem Dev.setReg_tal (d : Dev) (f : Fld) (i v : Nat) : (d.setReg f i v).tal = d.tal := rfl
@[simp] theorem Dev.setReg_per (d : Dev) (f : Fld) (i v : Nat) : (d.setReg f i v).per = d.per := rfl
@[simp] theorem Dev.setReg_qch (d : Dev) (f : Fld) (i v : Nat) : (d.setReg f i v).qch = d.qch := rfl
@[simp] theorem Dev.setReg_cry (d : Dev) (f : Fld) (i v : Nat) : (d.setReg f i v).cry = d.cry := rfl
@[simp] theorem Dev.setReg_rid (d : Dev) (f : Fld) (i v : Nat) : (d.setReg f i v).rid = d.rid := rfl
@[simp] theorem Dev.setReg_dirtyShutdowns (d : Dev) (f : Fld) (i v : Nat) : (d.setReg f i v).dirtyShutdowns = d.dirtyShutdowns := rfl
@[simp] theorem Dev.setReg_out (d : Dev) (f : Fld) (i v : Nat) : (d.setReg f i v).out = d.out := rfl
@[simp] theorem Dev.setReg_freeCtr (d : Dev) (f : Fld) (i v : Nat) : (d.setReg f i v).freeCtr = d.freeCtr := rfl

/-! ## setFlag -/

@[simp] theorem Dev.setFlag_now (d : Dev) (f : Fld) (i : Nat) (v : Bool) : (d.setFlag f i v).now = d.now := rfl
@[simp] theorem Dev.setFlag_cause (d : Dev) (f : Fld) (i : Nat) (v : Bool) : (d.setFlag f i v).cause = d.cause := rfl
@[simp] theorem Dev.setFlag_aon (d : Dev) (f : Fld) (i : Nat) (v : Bool) : (d.setFlag f i v).aon = d.aon := rfl
@[simp] theorem Dev.setFlag_cfg (d : Dev) (f : Fld) (i : Nat) (v : Bool) : (d.setFlag f i v).cfg = d.cfg := rfl
@[simp] theorem Dev.setFlag_oldCfgs (d : Dev) (f : Fld) (i : Nat) (v : Bool) : (d.setFlag f i v).oldCfgs = d.oldCfgs := rfl
@[simp] theorem Dev.setFlag_boot (d : Dev) (f : Fld) (i : Nat) (v : Bool) : (d.setFlag f i v).boot = d.boot := rfl
@[simp] theorem Dev.setFlag_mgt (d : Dev) (f : Fld) (i : Nat) (v : Bool) : (d.setFlag f i v).mgt = d.mgt := rfl
@[simp] theorem Dev.setFlag_ust (d : Dev) (f : Fld) (i : Nat) (v : Bool) : (d.setFlag f i v).ust = d.ust := rfl
@[simp] theorem Dev.setFlag_evt (d : Dev) (f : Fld) (i : Nat) (v : Bool) : (d.setFlag f i v).evt = d.evt := rfl
@[simp] theorem Dev.setFlag_pmc (d : Dev) (f : Fld) (i : Nat) (v : Bool) : (d.setFlag f i v).pmc = d.pmc := rfl
@[simp] theorem Dev.setFlag_pwr (d : Dev) (f : Fld) (i : Nat) (v : Bool) : (d.setFlag f i v).pwr = d.pwr := rfl
@[simp] theorem Dev.setFlag_rst (d : Dev) (f : Fld) (i : Nat) (v : Bool) : (d.setFlag f i v).rst = d.rst := rfl
@[simp] theorem Dev.setFlag_clk (d : Dev) (f : Fld) (i : Nat) (v : Bool) : (d.setFlag f i v).clk = d.clk := rfl
@[simp] theorem Dev.setFlag_thm (d : Dev) (f : Fld) (i : Nat) (v : Bool) : (d.setFlag f i v).thm = d.thm := rfl
@[simp] theorem Dev.setFlag_pin (d : Dev) (f : Fld) (i : Nat) (v : Bool) : (d.setFlag f i v).pin = d.pin := rfl
@[simp] theorem Dev.setFlag_jrn (d : Dev) (f : Fld) (i : Nat) (v : Bool) : (d.setFlag f i v).jrn = d.jrn := rfl
@[simp] theorem Dev.setFlag_heads (d : Dev) (f : Fld) (i : Nat) (v : Bool) : (d.setFlag f i v).heads = d.heads := rfl
@[simp] theorem Dev.setFlag_slices (d : Dev) (f : Fld) (i : Nat) (v : Bool) : (d.setFlag f i v).slices = d.slices := rfl
@[simp] theorem Dev.setFlag_tier (d : Dev) (f : Fld) (i : Nat) (v : Bool) : (d.setFlag f i v).tier = d.tier := rfl
@[simp] theorem Dev.setFlag_poison (d : Dev) (f : Fld) (i : Nat) (v : Bool) : (d.setFlag f i v).poison = d.poison := rfl
@[simp] theorem Dev.setFlag_med (d : Dev) (f : Fld) (i : Nat) (v : Bool) : (d.setFlag f i v).med = d.med := rfl
@[simp] theorem Dev.setFlag_shadow (d : Dev) (f : Fld) (i : Nat) (v : Bool) : (d.setFlag f i v).shadow = d.shadow := rfl
@[simp] theorem Dev.setFlag_qen (d : Dev) (f : Fld) (i : Nat) (v : Bool) : (d.setFlag f i v).qen = d.qen := rfl
@[simp] theorem Dev.setFlag_tal (d : Dev) (f : Fld) (i : Nat) (v : Bool) : (d.setFlag f i v).tal = d.tal := rfl
@[simp] theorem Dev.setFlag_per (d : Dev) (f : Fld) (i : Nat) (v : Bool) : (d.setFlag f i v).per = d.per := rfl
@[simp] theorem Dev.setFlag_qch (d : Dev) (f : Fld) (i : Nat) (v : Bool) : (d.setFlag f i v).qch = d.qch := rfl
@[simp] theorem Dev.setFlag_cry (d : Dev) (f : Fld) (i : Nat) (v : Bool) : (d.setFlag f i v).cry = d.cry := rfl
@[simp] theorem Dev.setFlag_rid (d : Dev) (f : Fld) (i : Nat) (v : Bool) : (d.setFlag f i v).rid = d.rid := rfl
@[simp] theorem Dev.setFlag_dirtyShutdowns (d : Dev) (f : Fld) (i : Nat) (v : Bool) : (d.setFlag f i v).dirtyShutdowns = d.dirtyShutdowns := rfl
@[simp] theorem Dev.setFlag_out (d : Dev) (f : Fld) (i : Nat) (v : Bool) : (d.setFlag f i v).out = d.out := rfl
@[simp] theorem Dev.setFlag_freeCtr (d : Dev) (f : Fld) (i : Nat) (v : Bool) : (d.setFlag f i v).freeCtr = d.freeCtr := rfl

/-! ## count -/

@[simp] theorem Dev.count_now (d : Dev) (f : Fld) (i n : Nat) : (d.count f i n).now = d.now := rfl
@[simp] theorem Dev.count_cause (d : Dev) (f : Fld) (i n : Nat) : (d.count f i n).cause = d.cause := rfl
@[simp] theorem Dev.count_aon (d : Dev) (f : Fld) (i n : Nat) : (d.count f i n).aon = d.aon := rfl
@[simp] theorem Dev.count_cfg (d : Dev) (f : Fld) (i n : Nat) : (d.count f i n).cfg = d.cfg := rfl
@[simp] theorem Dev.count_oldCfgs (d : Dev) (f : Fld) (i n : Nat) : (d.count f i n).oldCfgs = d.oldCfgs := rfl
@[simp] theorem Dev.count_boot (d : Dev) (f : Fld) (i n : Nat) : (d.count f i n).boot = d.boot := rfl
@[simp] theorem Dev.count_mgt (d : Dev) (f : Fld) (i n : Nat) : (d.count f i n).mgt = d.mgt := rfl
@[simp] theorem Dev.count_ust (d : Dev) (f : Fld) (i n : Nat) : (d.count f i n).ust = d.ust := rfl
@[simp] theorem Dev.count_evt (d : Dev) (f : Fld) (i n : Nat) : (d.count f i n).evt = d.evt := rfl
@[simp] theorem Dev.count_pmc (d : Dev) (f : Fld) (i n : Nat) : (d.count f i n).pmc = d.pmc := rfl
@[simp] theorem Dev.count_pwr (d : Dev) (f : Fld) (i n : Nat) : (d.count f i n).pwr = d.pwr := rfl
@[simp] theorem Dev.count_rst (d : Dev) (f : Fld) (i n : Nat) : (d.count f i n).rst = d.rst := rfl
@[simp] theorem Dev.count_clk (d : Dev) (f : Fld) (i n : Nat) : (d.count f i n).clk = d.clk := rfl
@[simp] theorem Dev.count_thm (d : Dev) (f : Fld) (i n : Nat) : (d.count f i n).thm = d.thm := rfl
@[simp] theorem Dev.count_pin (d : Dev) (f : Fld) (i n : Nat) : (d.count f i n).pin = d.pin := rfl
@[simp] theorem Dev.count_jrn (d : Dev) (f : Fld) (i n : Nat) : (d.count f i n).jrn = d.jrn := rfl
@[simp] theorem Dev.count_heads (d : Dev) (f : Fld) (i n : Nat) : (d.count f i n).heads = d.heads := rfl
@[simp] theorem Dev.count_slices (d : Dev) (f : Fld) (i n : Nat) : (d.count f i n).slices = d.slices := rfl
@[simp] theorem Dev.count_tier (d : Dev) (f : Fld) (i n : Nat) : (d.count f i n).tier = d.tier := rfl
@[simp] theorem Dev.count_poison (d : Dev) (f : Fld) (i n : Nat) : (d.count f i n).poison = d.poison := rfl
@[simp] theorem Dev.count_med (d : Dev) (f : Fld) (i n : Nat) : (d.count f i n).med = d.med := rfl
@[simp] theorem Dev.count_shadow (d : Dev) (f : Fld) (i n : Nat) : (d.count f i n).shadow = d.shadow := rfl
@[simp] theorem Dev.count_qen (d : Dev) (f : Fld) (i n : Nat) : (d.count f i n).qen = d.qen := rfl
@[simp] theorem Dev.count_tal (d : Dev) (f : Fld) (i n : Nat) : (d.count f i n).tal = d.tal := rfl
@[simp] theorem Dev.count_per (d : Dev) (f : Fld) (i n : Nat) : (d.count f i n).per = d.per := rfl
@[simp] theorem Dev.count_qch (d : Dev) (f : Fld) (i n : Nat) : (d.count f i n).qch = d.qch := rfl
@[simp] theorem Dev.count_cry (d : Dev) (f : Fld) (i n : Nat) : (d.count f i n).cry = d.cry := rfl
@[simp] theorem Dev.count_rid (d : Dev) (f : Fld) (i n : Nat) : (d.count f i n).rid = d.rid := rfl
@[simp] theorem Dev.count_dirtyShutdowns (d : Dev) (f : Fld) (i n : Nat) : (d.count f i n).dirtyShutdowns = d.dirtyShutdowns := rfl
@[simp] theorem Dev.count_out (d : Dev) (f : Fld) (i n : Nat) : (d.count f i n).out = d.out := rfl
@[simp] theorem Dev.count_freeCtr (d : Dev) (f : Fld) (i n : Nat) : (d.count f i n).freeCtr = d.freeCtr := rfl

/-! ## countWrap -/

@[simp] theorem Dev.countWrap_now (d : Dev) (f : Fld) (i n : Nat) : (d.countWrap f i n).now = d.now := rfl
@[simp] theorem Dev.countWrap_cause (d : Dev) (f : Fld) (i n : Nat) : (d.countWrap f i n).cause = d.cause := rfl
@[simp] theorem Dev.countWrap_aon (d : Dev) (f : Fld) (i n : Nat) : (d.countWrap f i n).aon = d.aon := rfl
@[simp] theorem Dev.countWrap_cfg (d : Dev) (f : Fld) (i n : Nat) : (d.countWrap f i n).cfg = d.cfg := rfl
@[simp] theorem Dev.countWrap_oldCfgs (d : Dev) (f : Fld) (i n : Nat) : (d.countWrap f i n).oldCfgs = d.oldCfgs := rfl
@[simp] theorem Dev.countWrap_boot (d : Dev) (f : Fld) (i n : Nat) : (d.countWrap f i n).boot = d.boot := rfl
@[simp] theorem Dev.countWrap_mgt (d : Dev) (f : Fld) (i n : Nat) : (d.countWrap f i n).mgt = d.mgt := rfl
@[simp] theorem Dev.countWrap_ust (d : Dev) (f : Fld) (i n : Nat) : (d.countWrap f i n).ust = d.ust := rfl
@[simp] theorem Dev.countWrap_evt (d : Dev) (f : Fld) (i n : Nat) : (d.countWrap f i n).evt = d.evt := rfl
@[simp] theorem Dev.countWrap_pmc (d : Dev) (f : Fld) (i n : Nat) : (d.countWrap f i n).pmc = d.pmc := rfl
@[simp] theorem Dev.countWrap_pwr (d : Dev) (f : Fld) (i n : Nat) : (d.countWrap f i n).pwr = d.pwr := rfl
@[simp] theorem Dev.countWrap_rst (d : Dev) (f : Fld) (i n : Nat) : (d.countWrap f i n).rst = d.rst := rfl
@[simp] theorem Dev.countWrap_clk (d : Dev) (f : Fld) (i n : Nat) : (d.countWrap f i n).clk = d.clk := rfl
@[simp] theorem Dev.countWrap_thm (d : Dev) (f : Fld) (i n : Nat) : (d.countWrap f i n).thm = d.thm := rfl
@[simp] theorem Dev.countWrap_pin (d : Dev) (f : Fld) (i n : Nat) : (d.countWrap f i n).pin = d.pin := rfl
@[simp] theorem Dev.countWrap_jrn (d : Dev) (f : Fld) (i n : Nat) : (d.countWrap f i n).jrn = d.jrn := rfl
@[simp] theorem Dev.countWrap_heads (d : Dev) (f : Fld) (i n : Nat) : (d.countWrap f i n).heads = d.heads := rfl
@[simp] theorem Dev.countWrap_slices (d : Dev) (f : Fld) (i n : Nat) : (d.countWrap f i n).slices = d.slices := rfl
@[simp] theorem Dev.countWrap_tier (d : Dev) (f : Fld) (i n : Nat) : (d.countWrap f i n).tier = d.tier := rfl
@[simp] theorem Dev.countWrap_poison (d : Dev) (f : Fld) (i n : Nat) : (d.countWrap f i n).poison = d.poison := rfl
@[simp] theorem Dev.countWrap_med (d : Dev) (f : Fld) (i n : Nat) : (d.countWrap f i n).med = d.med := rfl
@[simp] theorem Dev.countWrap_shadow (d : Dev) (f : Fld) (i n : Nat) : (d.countWrap f i n).shadow = d.shadow := rfl
@[simp] theorem Dev.countWrap_qen (d : Dev) (f : Fld) (i n : Nat) : (d.countWrap f i n).qen = d.qen := rfl
@[simp] theorem Dev.countWrap_tal (d : Dev) (f : Fld) (i n : Nat) : (d.countWrap f i n).tal = d.tal := rfl
@[simp] theorem Dev.countWrap_per (d : Dev) (f : Fld) (i n : Nat) : (d.countWrap f i n).per = d.per := rfl
@[simp] theorem Dev.countWrap_qch (d : Dev) (f : Fld) (i n : Nat) : (d.countWrap f i n).qch = d.qch := rfl
@[simp] theorem Dev.countWrap_cry (d : Dev) (f : Fld) (i n : Nat) : (d.countWrap f i n).cry = d.cry := rfl
@[simp] theorem Dev.countWrap_rid (d : Dev) (f : Fld) (i n : Nat) : (d.countWrap f i n).rid = d.rid := rfl
@[simp] theorem Dev.countWrap_dirtyShutdowns (d : Dev) (f : Fld) (i n : Nat) : (d.countWrap f i n).dirtyShutdowns = d.dirtyShutdowns := rfl
@[simp] theorem Dev.countWrap_out (d : Dev) (f : Fld) (i n : Nat) : (d.countWrap f i n).out = d.out := rfl
@[simp] theorem Dev.countWrap_freeCtr (d : Dev) (f : Fld) (i n : Nat) : (d.countWrap f i n).freeCtr = d.freeCtr := rfl

/-! ## setFieldBit -/

@[simp] theorem Dev.setFieldBit_now (d : Dev) (f : Fld) (i b : Nat) (v : Bool) : (d.setFieldBit f i b v).now = d.now := rfl
@[simp] theorem Dev.setFieldBit_cause (d : Dev) (f : Fld) (i b : Nat) (v : Bool) : (d.setFieldBit f i b v).cause = d.cause := rfl
@[simp] theorem Dev.setFieldBit_aon (d : Dev) (f : Fld) (i b : Nat) (v : Bool) : (d.setFieldBit f i b v).aon = d.aon := rfl
@[simp] theorem Dev.setFieldBit_cfg (d : Dev) (f : Fld) (i b : Nat) (v : Bool) : (d.setFieldBit f i b v).cfg = d.cfg := rfl
@[simp] theorem Dev.setFieldBit_oldCfgs (d : Dev) (f : Fld) (i b : Nat) (v : Bool) : (d.setFieldBit f i b v).oldCfgs = d.oldCfgs := rfl
@[simp] theorem Dev.setFieldBit_boot (d : Dev) (f : Fld) (i b : Nat) (v : Bool) : (d.setFieldBit f i b v).boot = d.boot := rfl
@[simp] theorem Dev.setFieldBit_mgt (d : Dev) (f : Fld) (i b : Nat) (v : Bool) : (d.setFieldBit f i b v).mgt = d.mgt := rfl
@[simp] theorem Dev.setFieldBit_ust (d : Dev) (f : Fld) (i b : Nat) (v : Bool) : (d.setFieldBit f i b v).ust = d.ust := rfl
@[simp] theorem Dev.setFieldBit_evt (d : Dev) (f : Fld) (i b : Nat) (v : Bool) : (d.setFieldBit f i b v).evt = d.evt := rfl
@[simp] theorem Dev.setFieldBit_pmc (d : Dev) (f : Fld) (i b : Nat) (v : Bool) : (d.setFieldBit f i b v).pmc = d.pmc := rfl
@[simp] theorem Dev.setFieldBit_pwr (d : Dev) (f : Fld) (i b : Nat) (v : Bool) : (d.setFieldBit f i b v).pwr = d.pwr := rfl
@[simp] theorem Dev.setFieldBit_rst (d : Dev) (f : Fld) (i b : Nat) (v : Bool) : (d.setFieldBit f i b v).rst = d.rst := rfl
@[simp] theorem Dev.setFieldBit_clk (d : Dev) (f : Fld) (i b : Nat) (v : Bool) : (d.setFieldBit f i b v).clk = d.clk := rfl
@[simp] theorem Dev.setFieldBit_thm (d : Dev) (f : Fld) (i b : Nat) (v : Bool) : (d.setFieldBit f i b v).thm = d.thm := rfl
@[simp] theorem Dev.setFieldBit_pin (d : Dev) (f : Fld) (i b : Nat) (v : Bool) : (d.setFieldBit f i b v).pin = d.pin := rfl
@[simp] theorem Dev.setFieldBit_jrn (d : Dev) (f : Fld) (i b : Nat) (v : Bool) : (d.setFieldBit f i b v).jrn = d.jrn := rfl
@[simp] theorem Dev.setFieldBit_heads (d : Dev) (f : Fld) (i b : Nat) (v : Bool) : (d.setFieldBit f i b v).heads = d.heads := rfl
@[simp] theorem Dev.setFieldBit_slices (d : Dev) (f : Fld) (i b : Nat) (v : Bool) : (d.setFieldBit f i b v).slices = d.slices := rfl
@[simp] theorem Dev.setFieldBit_tier (d : Dev) (f : Fld) (i b : Nat) (v : Bool) : (d.setFieldBit f i b v).tier = d.tier := rfl
@[simp] theorem Dev.setFieldBit_poison (d : Dev) (f : Fld) (i b : Nat) (v : Bool) : (d.setFieldBit f i b v).poison = d.poison := rfl
@[simp] theorem Dev.setFieldBit_med (d : Dev) (f : Fld) (i b : Nat) (v : Bool) : (d.setFieldBit f i b v).med = d.med := rfl
@[simp] theorem Dev.setFieldBit_shadow (d : Dev) (f : Fld) (i b : Nat) (v : Bool) : (d.setFieldBit f i b v).shadow = d.shadow := rfl
@[simp] theorem Dev.setFieldBit_qen (d : Dev) (f : Fld) (i b : Nat) (v : Bool) : (d.setFieldBit f i b v).qen = d.qen := rfl
@[simp] theorem Dev.setFieldBit_tal (d : Dev) (f : Fld) (i b : Nat) (v : Bool) : (d.setFieldBit f i b v).tal = d.tal := rfl
@[simp] theorem Dev.setFieldBit_per (d : Dev) (f : Fld) (i b : Nat) (v : Bool) : (d.setFieldBit f i b v).per = d.per := rfl
@[simp] theorem Dev.setFieldBit_qch (d : Dev) (f : Fld) (i b : Nat) (v : Bool) : (d.setFieldBit f i b v).qch = d.qch := rfl
@[simp] theorem Dev.setFieldBit_cry (d : Dev) (f : Fld) (i b : Nat) (v : Bool) : (d.setFieldBit f i b v).cry = d.cry := rfl
@[simp] theorem Dev.setFieldBit_rid (d : Dev) (f : Fld) (i b : Nat) (v : Bool) : (d.setFieldBit f i b v).rid = d.rid := rfl
@[simp] theorem Dev.setFieldBit_dirtyShutdowns (d : Dev) (f : Fld) (i b : Nat) (v : Bool) : (d.setFieldBit f i b v).dirtyShutdowns = d.dirtyShutdowns := rfl
@[simp] theorem Dev.setFieldBit_out (d : Dev) (f : Fld) (i b : Nat) (v : Bool) : (d.setFieldBit f i b v).out = d.out := rfl
@[simp] theorem Dev.setFieldBit_freeCtr (d : Dev) (f : Fld) (i b : Nat) (v : Bool) : (d.setFieldBit f i b v).freeCtr = d.freeCtr := rfl

/-! ## emit -/

@[simp] theorem Dev.emit_now (d : Dev) (o : Output) : (d.emit o).now = d.now := rfl
@[simp] theorem Dev.emit_cause (d : Dev) (o : Output) : (d.emit o).cause = d.cause := rfl
@[simp] theorem Dev.emit_aon (d : Dev) (o : Output) : (d.emit o).aon = d.aon := rfl
@[simp] theorem Dev.emit_regs (d : Dev) (o : Output) : (d.emit o).regs = d.regs := rfl
@[simp] theorem Dev.emit_cfg (d : Dev) (o : Output) : (d.emit o).cfg = d.cfg := rfl
@[simp] theorem Dev.emit_oldCfgs (d : Dev) (o : Output) : (d.emit o).oldCfgs = d.oldCfgs := rfl
@[simp] theorem Dev.emit_boot (d : Dev) (o : Output) : (d.emit o).boot = d.boot := rfl
@[simp] theorem Dev.emit_mgt (d : Dev) (o : Output) : (d.emit o).mgt = d.mgt := rfl
@[simp] theorem Dev.emit_ust (d : Dev) (o : Output) : (d.emit o).ust = d.ust := rfl
@[simp] theorem Dev.emit_evt (d : Dev) (o : Output) : (d.emit o).evt = d.evt := rfl
@[simp] theorem Dev.emit_pmc (d : Dev) (o : Output) : (d.emit o).pmc = d.pmc := rfl
@[simp] theorem Dev.emit_pwr (d : Dev) (o : Output) : (d.emit o).pwr = d.pwr := rfl
@[simp] theorem Dev.emit_rst (d : Dev) (o : Output) : (d.emit o).rst = d.rst := rfl
@[simp] theorem Dev.emit_clk (d : Dev) (o : Output) : (d.emit o).clk = d.clk := rfl
@[simp] theorem Dev.emit_thm (d : Dev) (o : Output) : (d.emit o).thm = d.thm := rfl
@[simp] theorem Dev.emit_pin (d : Dev) (o : Output) : (d.emit o).pin = d.pin := rfl
@[simp] theorem Dev.emit_jrn (d : Dev) (o : Output) : (d.emit o).jrn = d.jrn := rfl
@[simp] theorem Dev.emit_heads (d : Dev) (o : Output) : (d.emit o).heads = d.heads := rfl
@[simp] theorem Dev.emit_slices (d : Dev) (o : Output) : (d.emit o).slices = d.slices := rfl
@[simp] theorem Dev.emit_tier (d : Dev) (o : Output) : (d.emit o).tier = d.tier := rfl
@[simp] theorem Dev.emit_poison (d : Dev) (o : Output) : (d.emit o).poison = d.poison := rfl
@[simp] theorem Dev.emit_med (d : Dev) (o : Output) : (d.emit o).med = d.med := rfl
@[simp] theorem Dev.emit_shadow (d : Dev) (o : Output) : (d.emit o).shadow = d.shadow := rfl
@[simp] theorem Dev.emit_qen (d : Dev) (o : Output) : (d.emit o).qen = d.qen := rfl
@[simp] theorem Dev.emit_tal (d : Dev) (o : Output) : (d.emit o).tal = d.tal := rfl
@[simp] theorem Dev.emit_per (d : Dev) (o : Output) : (d.emit o).per = d.per := rfl
@[simp] theorem Dev.emit_qch (d : Dev) (o : Output) : (d.emit o).qch = d.qch := rfl
@[simp] theorem Dev.emit_cry (d : Dev) (o : Output) : (d.emit o).cry = d.cry := rfl
@[simp] theorem Dev.emit_rid (d : Dev) (o : Output) : (d.emit o).rid = d.rid := rfl
@[simp] theorem Dev.emit_dirtyShutdowns (d : Dev) (o : Output) : (d.emit o).dirtyShutdowns = d.dirtyShutdowns := rfl
@[simp] theorem Dev.emit_freeCtr (d : Dev) (o : Output) : (d.emit o).freeCtr = d.freeCtr := rfl

/-! ## journal -/

@[simp] theorem Dev.journal_now (d : Dev) (code a b c : Nat) : (d.journal code a b c).now = d.now := rfl
@[simp] theorem Dev.journal_cause (d : Dev) (code a b c : Nat) : (d.journal code a b c).cause = d.cause := rfl
@[simp] theorem Dev.journal_aon (d : Dev) (code a b c : Nat) : (d.journal code a b c).aon = d.aon := rfl
@[simp] theorem Dev.journal_regs (d : Dev) (code a b c : Nat) : (d.journal code a b c).regs = d.regs := rfl
@[simp] theorem Dev.journal_cfg (d : Dev) (code a b c : Nat) : (d.journal code a b c).cfg = d.cfg := rfl
@[simp] theorem Dev.journal_oldCfgs (d : Dev) (code a b c : Nat) : (d.journal code a b c).oldCfgs = d.oldCfgs := rfl
@[simp] theorem Dev.journal_boot (d : Dev) (code a b c : Nat) : (d.journal code a b c).boot = d.boot := rfl
@[simp] theorem Dev.journal_mgt (d : Dev) (code a b c : Nat) : (d.journal code a b c).mgt = d.mgt := rfl
@[simp] theorem Dev.journal_ust (d : Dev) (code a b c : Nat) : (d.journal code a b c).ust = d.ust := rfl
@[simp] theorem Dev.journal_evt (d : Dev) (code a b c : Nat) : (d.journal code a b c).evt = d.evt := rfl
@[simp] theorem Dev.journal_pmc (d : Dev) (code a b c : Nat) : (d.journal code a b c).pmc = d.pmc := rfl
@[simp] theorem Dev.journal_pwr (d : Dev) (code a b c : Nat) : (d.journal code a b c).pwr = d.pwr := rfl
@[simp] theorem Dev.journal_rst (d : Dev) (code a b c : Nat) : (d.journal code a b c).rst = d.rst := rfl
@[simp] theorem Dev.journal_clk (d : Dev) (code a b c : Nat) : (d.journal code a b c).clk = d.clk := rfl
@[simp] theorem Dev.journal_thm (d : Dev) (code a b c : Nat) : (d.journal code a b c).thm = d.thm := rfl
@[simp] theorem Dev.journal_pin (d : Dev) (code a b c : Nat) : (d.journal code a b c).pin = d.pin := rfl
@[simp] theorem Dev.journal_heads (d : Dev) (code a b c : Nat) : (d.journal code a b c).heads = d.heads := rfl
@[simp] theorem Dev.journal_slices (d : Dev) (code a b c : Nat) : (d.journal code a b c).slices = d.slices := rfl
@[simp] theorem Dev.journal_tier (d : Dev) (code a b c : Nat) : (d.journal code a b c).tier = d.tier := rfl
@[simp] theorem Dev.journal_poison (d : Dev) (code a b c : Nat) : (d.journal code a b c).poison = d.poison := rfl
@[simp] theorem Dev.journal_med (d : Dev) (code a b c : Nat) : (d.journal code a b c).med = d.med := rfl
@[simp] theorem Dev.journal_shadow (d : Dev) (code a b c : Nat) : (d.journal code a b c).shadow = d.shadow := rfl
@[simp] theorem Dev.journal_qen (d : Dev) (code a b c : Nat) : (d.journal code a b c).qen = d.qen := rfl
@[simp] theorem Dev.journal_tal (d : Dev) (code a b c : Nat) : (d.journal code a b c).tal = d.tal := rfl
@[simp] theorem Dev.journal_per (d : Dev) (code a b c : Nat) : (d.journal code a b c).per = d.per := rfl
@[simp] theorem Dev.journal_qch (d : Dev) (code a b c : Nat) : (d.journal code a b c).qch = d.qch := rfl
@[simp] theorem Dev.journal_cry (d : Dev) (code a b c : Nat) : (d.journal code a b c).cry = d.cry := rfl
@[simp] theorem Dev.journal_rid (d : Dev) (code a b c : Nat) : (d.journal code a b c).rid = d.rid := rfl
@[simp] theorem Dev.journal_dirtyShutdowns (d : Dev) (code a b c : Nat) : (d.journal code a b c).dirtyShutdowns = d.dirtyShutdowns := rfl
@[simp] theorem Dev.journal_out (d : Dev) (code a b c : Nat) : (d.journal code a b c).out = d.out := rfl
@[simp] theorem Dev.journal_freeCtr (d : Dev) (code a b c : Nat) : (d.journal code a b c).freeCtr = d.freeCtr := rfl

/-! ## setUnitRec -/

@[simp] theorem Dev.setUnitRec_now (d : Dev) (ix : Nat) (r : UnitRec) : (d.setUnitRec ix r).now = d.now := rfl
@[simp] theorem Dev.setUnitRec_cause (d : Dev) (ix : Nat) (r : UnitRec) : (d.setUnitRec ix r).cause = d.cause := rfl
@[simp] theorem Dev.setUnitRec_aon (d : Dev) (ix : Nat) (r : UnitRec) : (d.setUnitRec ix r).aon = d.aon := rfl
@[simp] theorem Dev.setUnitRec_regs (d : Dev) (ix : Nat) (r : UnitRec) : (d.setUnitRec ix r).regs = d.regs := rfl
@[simp] theorem Dev.setUnitRec_cfg (d : Dev) (ix : Nat) (r : UnitRec) : (d.setUnitRec ix r).cfg = d.cfg := rfl
@[simp] theorem Dev.setUnitRec_oldCfgs (d : Dev) (ix : Nat) (r : UnitRec) : (d.setUnitRec ix r).oldCfgs = d.oldCfgs := rfl
@[simp] theorem Dev.setUnitRec_boot (d : Dev) (ix : Nat) (r : UnitRec) : (d.setUnitRec ix r).boot = d.boot := rfl
@[simp] theorem Dev.setUnitRec_mgt (d : Dev) (ix : Nat) (r : UnitRec) : (d.setUnitRec ix r).mgt = d.mgt := rfl
@[simp] theorem Dev.setUnitRec_evt (d : Dev) (ix : Nat) (r : UnitRec) : (d.setUnitRec ix r).evt = d.evt := rfl
@[simp] theorem Dev.setUnitRec_pmc (d : Dev) (ix : Nat) (r : UnitRec) : (d.setUnitRec ix r).pmc = d.pmc := rfl
@[simp] theorem Dev.setUnitRec_pwr (d : Dev) (ix : Nat) (r : UnitRec) : (d.setUnitRec ix r).pwr = d.pwr := rfl
@[simp] theorem Dev.setUnitRec_rst (d : Dev) (ix : Nat) (r : UnitRec) : (d.setUnitRec ix r).rst = d.rst := rfl
@[simp] theorem Dev.setUnitRec_clk (d : Dev) (ix : Nat) (r : UnitRec) : (d.setUnitRec ix r).clk = d.clk := rfl
@[simp] theorem Dev.setUnitRec_thm (d : Dev) (ix : Nat) (r : UnitRec) : (d.setUnitRec ix r).thm = d.thm := rfl
@[simp] theorem Dev.setUnitRec_pin (d : Dev) (ix : Nat) (r : UnitRec) : (d.setUnitRec ix r).pin = d.pin := rfl
@[simp] theorem Dev.setUnitRec_jrn (d : Dev) (ix : Nat) (r : UnitRec) : (d.setUnitRec ix r).jrn = d.jrn := rfl
@[simp] theorem Dev.setUnitRec_heads (d : Dev) (ix : Nat) (r : UnitRec) : (d.setUnitRec ix r).heads = d.heads := rfl
@[simp] theorem Dev.setUnitRec_slices (d : Dev) (ix : Nat) (r : UnitRec) : (d.setUnitRec ix r).slices = d.slices := rfl
@[simp] theorem Dev.setUnitRec_tier (d : Dev) (ix : Nat) (r : UnitRec) : (d.setUnitRec ix r).tier = d.tier := rfl
@[simp] theorem Dev.setUnitRec_poison (d : Dev) (ix : Nat) (r : UnitRec) : (d.setUnitRec ix r).poison = d.poison := rfl
@[simp] theorem Dev.setUnitRec_med (d : Dev) (ix : Nat) (r : UnitRec) : (d.setUnitRec ix r).med = d.med := rfl
@[simp] theorem Dev.setUnitRec_shadow (d : Dev) (ix : Nat) (r : UnitRec) : (d.setUnitRec ix r).shadow = d.shadow := rfl
@[simp] theorem Dev.setUnitRec_qen (d : Dev) (ix : Nat) (r : UnitRec) : (d.setUnitRec ix r).qen = d.qen := rfl
@[simp] theorem Dev.setUnitRec_tal (d : Dev) (ix : Nat) (r : UnitRec) : (d.setUnitRec ix r).tal = d.tal := rfl
@[simp] theorem Dev.setUnitRec_per (d : Dev) (ix : Nat) (r : UnitRec) : (d.setUnitRec ix r).per = d.per := rfl
@[simp] theorem Dev.setUnitRec_qch (d : Dev) (ix : Nat) (r : UnitRec) : (d.setUnitRec ix r).qch = d.qch := rfl
@[simp] theorem Dev.setUnitRec_cry (d : Dev) (ix : Nat) (r : UnitRec) : (d.setUnitRec ix r).cry = d.cry := rfl
@[simp] theorem Dev.setUnitRec_rid (d : Dev) (ix : Nat) (r : UnitRec) : (d.setUnitRec ix r).rid = d.rid := rfl
@[simp] theorem Dev.setUnitRec_dirtyShutdowns (d : Dev) (ix : Nat) (r : UnitRec) : (d.setUnitRec ix r).dirtyShutdowns = d.dirtyShutdowns := rfl
@[simp] theorem Dev.setUnitRec_out (d : Dev) (ix : Nat) (r : UnitRec) : (d.setUnitRec ix r).out = d.out := rfl
@[simp] theorem Dev.setUnitRec_freeCtr (d : Dev) (ix : Nat) (r : UnitRec) : (d.setUnitRec ix r).freeCtr = d.freeCtr := rfl

@[simp] theorem Dev.emit_out (d : Dev) (o : Output) : (d.emit o).out = o :: d.out := rfl
@[simp] theorem Dev.setReg_regs (d : Dev) (f : Fld) (i v : Nat) :
    (d.setReg f i v).regs = d.regs.put (f.key i) (v % 2 ^ f.info.width) := rfl
@[simp] theorem Dev.setUnitRec_units (d : Dev) (ix : Nat) (r : UnitRec) :
    (d.setUnitRec ix r).ust.units = d.ust.units.put ix r := rfl
@[simp] theorem Dev.journal_next (d : Dev) (code a b c : Nat) : (d.journal code a b c).jrn.next = d.jrn.next + 1 := rfl
@[simp] theorem Dev.when_true (d : Dev) (f : Dev → Dev) : d.when true f = f d := rfl
@[simp] theorem Dev.when_false (d : Dev) (f : Dev → Dev) : d.when false f = d := rfl

end Sys2Proof.Machine
end

