-- ==== Sys2Proof/Laws/Store.lean ====
section
/-!
SUPPORT. The keyed store: reading after writing, removing and changing; and that every operation keeps the canonical form.
-/
namespace Sys2Proof
variable {α : Type}

@[simp] theorem AMap.find_nil (k : Nat) : AMap.find ([] : AMap α) k = none := rfl

theorem AMap.find_cons (k a : Nat) (v : α) (r : AMap α) :
    AMap.find ((a, v) :: r) k = if a = k then some v else AMap.find r k := rfl

@[simp] theorem AMap.find_put (m : AMap α) (k : Nat) (v : α) : (m.put k v).find k = some v := by
  induction m with
  | nil => simp [AMap.put, AMap.find_cons]
  | cons e r ih =>
    obtain ⟨a, w⟩ := e
    simp only [AMap.put]
    split
    · simp [AMap.find_cons]
    · split
      · simp [AMap.find_cons]
      · rw [AMap.find_cons, if_neg (by omega)]; exact ih

theorem AMap.find_put_ne (m : AMap α) {k j : Nat} (v : α) (h : k ≠ j) : (m.put k v).find j = m.find j := by
  induction m with
  | nil => simp [AMap.put, AMap.find_cons, h]
  | cons e r ih =>
    obtain ⟨a, w⟩ := e
    simp only [AMap.put]
    split
    · rw [AMap.find_cons, if_neg h]
    · split
      · subst_vars; rw [AMap.find_cons, if_neg h, AMap.find_cons, if_neg h]
      · rw [AMap.find_cons, AMap.find_cons, ih]

theorem AMap.find_put_eq (m : AMap α) (k j : Nat) (v : α) :
    (m.put k v).find j = if k = j then some v else m.find j := by
  by_cases h : k = j
  · subst h; simp
  · rw [find_put_ne m v h, if_neg h]

@[simp] theorem AMap.findD_put (m : AMap α) (k : Nat) (v d : α) : (m.put k v).findD k d = v := by
  simp [AMap.findD]

theorem AMap.findD_put_ne (m : AMap α) {k j : Nat} (v d : α) (h : k ≠ j) : (m.put k v).findD j d = m.findD j d := by
  simp [AMap.findD, find_put_ne m v h]

@[simp] theorem AMap.has_put (m : AMap α) (k : Nat) (v : α) : (m.put k v).has k = true := by simp [AMap.has]

@[simp] theorem AMap.find_del (m : AMap α) (k : Nat) : (m.del k).find k = none := by
  induction m with
  | nil => rfl
  | cons e r ih =>
    obtain ⟨a, w⟩ := e
    by_cases h : a = k
    · simpa [AMap.del, h] using ih
    · simpa [AMap.del, h, AMap.find_cons] using ih

theorem AMap.find_del_ne (m : AMap α) {k j : Nat} (h : k ≠ j) : (m.del k).find j = m.find j := by
  induction m with
  | nil => rfl
  | cons e r ih =>
    obtain ⟨a, w⟩ := e
    by_cases hk : a = k
    · have hj : a ≠ j := fun e => h (hk.symm.trans e)
      have : AMap.del ((a, w) :: r) k = AMap.del r k := by simp [AMap.del, hk]
      rw [this, AMap.find_cons, if_neg hj, ih]
    · have : AMap.del ((a, w) :: r) k = (a, w) :: AMap.del r k := by simp [AMap.del, hk]
      rw [this, AMap.find_cons, AMap.find_cons, ih]

/-- The first key of a canonical table lies below the keys that follow. -/
theorem AMap.wf_cons (k : Nat) (v : α) (r : AMap α) :
    AMap.wf ((k, v) :: r) = true ↔ (∀ e ∈ r.head?, k < e.1) ∧ AMap.wf r = true := by
  cases r with
  | nil => simp [AMap.wf]
  | cons e r => simp [AMap.wf]

theorem AMap.put_head (m : AMap α) (k : Nat) (v : α) (e : Nat × α) (h : e ∈ (m.put k v).head?) :
    e.1 = k ∨ e ∈ m.head? := by
  cases m with
  | nil => simp [AMap.put] at h; simp [← h]
  | cons a r =>
    obtain ⟨a, w⟩ := a
    simp only [AMap.put] at h
    split at h
    · simp at h; simp [← h]
    · split at h
      · simp at h; simp [← h]
      · exact .inr (by simpa using h)

/-- Storing a value keeps the canonical form. -/
theorem AMap.put_wf (m : AMap α) (k : Nat) (v : α) (h : m.wf = true) : (m.put k v).wf = true := by
  induction m with
  | nil => rfl
  | cons e r ih =>
    obtain ⟨a, w⟩ := e
    obtain ⟨hh, hr⟩ := (AMap.wf_cons a w r).mp h
    simp only [AMap.put]
    split
    · exact (AMap.wf_cons _ _ _).mpr ⟨by simpa using ‹k < a›, h⟩
    · split
      · subst_vars; exact (AMap.wf_cons _ _ _).mpr ⟨hh, hr⟩
      · refine (AMap.wf_cons _ _ _).mpr ⟨fun e he => ?_, ih hr⟩
        rcases AMap.put_head r k v e he with h' | h'
        · omega
        · exact hh e h'

/-- Every key of a canonical table lies above a bound below its first key. -/
theorem AMap.wf_above (m : AMap α) (h : m.wf = true) (b : Nat) (hb : ∀ e ∈ m.head?, b < e.1) : ∀ e ∈ m, b < e.1 := by
  induction m generalizing b with
  | nil => simp
  | cons e r ih =>
    obtain ⟨a, w⟩ := e
    obtain ⟨hh, hr⟩ := (AMap.wf_cons a w r).mp h
    have hab : b < a := hb (a, w) (by simp)
    intro e he
    rcases List.mem_cons.mp he with rfl | he
    · exact hab
    · exact Nat.lt_trans hab (ih hr a hh e he)

/-- Leaving entries out keeps the canonical form. -/
theorem AMap.filter_wf (m : AMap α) (p : Nat × α → Bool) (h : m.wf = true) : AMap.wf (m.filter p) = true := by
  induction m with
  | nil => rfl
  | cons e r ih =>
    obtain ⟨a, w⟩ := e
    obtain ⟨hh, hr⟩ := (AMap.wf_cons a w r).mp h
    rw [List.filter_cons]
    split
    · refine (AMap.wf_cons _ _ _).mpr ⟨fun e he => ?_, ih hr⟩
      exact AMap.wf_above r hr a hh e (List.mem_filter.mp (List.mem_of_mem_head? he)).1
    · exact ih hr

theorem AMap.del_wf (m : AMap α) (k : Nat) (h : m.wf = true) : (m.del k).wf = true := AMap.filter_wf m _ h

theorem AMap.keep_wf (m : AMap α) (p : Nat → α → Bool) (h : m.wf = true) : (m.keep p).wf = true := AMap.filter_wf m _ h

theorem AMap.alter_wf (m : AMap α) (k : Nat) (f : α → α) (h : m.wf = true) : (m.alter k f).wf = true := by
  unfold AMap.alter
  split
  · exact AMap.put_wf m k _ h
  · exact h

end Sys2Proof
end

