-- ==== Sys2Proof/Laws/Regs.lean ====
section
/-!
SUPPORT. Register fields and units: reading after writing.
-/
namespace Sys2Proof.Machine

/-- A field number is below 1024, so that a key names one field and one instance. -/
theorem Fld.num_lt (f : Fld) : f.num < 1024 := by cases f <;> decide

theorem Fld.num_inj {f g : Fld} (h : f.num = g.num) : f = g := by
  have hf := f.ofNat_ctorIdx
  have hg := g.ofNat_ctorIdx
  have : f.ctorIdx = g.ctorIdx := h
  rw [← hf, ← hg, this]

theorem Fld.key_inj {f g : Fld} {i j : Nat} (h : f.key i = g.key j) : f = g ∧ i = j := by
  have hf := f.num_lt
  have hg := g.num_lt
  unfold Fld.key at h
  exact ⟨Fld.num_inj (by omega), by omega⟩

/-- A field holds what was written, cut to its width. -/
@[simp] theorem Dev.reg_setReg (d : Dev) (f : Fld) (i v : Nat) : (d.setReg f i v).reg f i = v % 2 ^ f.info.width := by
  simp [Dev.reg, Dev.setReg]

theorem Dev.dflt_setReg (d : Dev) (f : Fld) (i v : Nat) (g : Fld) (j : Nat) : (d.setReg f i v).dflt g j = d.dflt g j := by
  cases g <;> rfl

/-- A write leaves every other field, and every other instance, as it was. -/
theorem Dev.reg_setReg_ne (d : Dev) {f g : Fld} {i j : Nat} (v : Nat) (h : f ≠ g ∨ i ≠ j) :
    (d.setReg f i v).reg g j = d.reg g j := by
  have hk : f.key i ≠ g.key j := fun e => by
    obtain ⟨a, b⟩ := Fld.key_inj e
    rcases h with h | h
    · exact h a
    · exact h b
  unfold Dev.reg
  rw [Dev.setReg_regs, AMap.find_put_ne _ _ hk, Dev.dflt_setReg]

/-- A field is read off the register store, and its reset value off the configuration: nothing else counts. -/
theorem Dev.reg_congr {d e : Dev} (hr : e.regs = d.regs) (hc : e.cfg = d.cfg) (f : Fld) (i : Nat) : e.reg f i = d.reg f i := by
  have hd : e.dflt f i = d.dflt f i := by
    unfold Dev.dflt Dev.eventRec Dev.presetWord
    rw [hc]
  unfold Dev.reg
  rw [hr, hd]

/-- A register store and a configuration read as a device that holds them. -/
def regOf (r : AMap Nat) (c : Option Cfg) (f : Fld) (i : Nat) : Nat := ({ regs := r, cfg := c } : Dev).reg f i

/-- A record update of any part leaves the register fields to the register store and the configuration. -/
theorem Dev.reg_mk (now : Nat) (cause : Option Nat) (aon : Bool) (regs : AMap Nat) (cfg : Option Cfg) (oldCfgs : List
    (Nat × Cfg)) (boot : BootS) (mgt : MgtS) (ust : UstS) (evt : EvtS) (pmc : PmcS) (pwr : PwrS) (rst : RstS) (clk :
    ClkS) (thm : ThmS) (pin : PinS) (jrn : JrnS) (heads : AMap HeadS) (slices : AMap SliceS) (tier : AMap TPage)
    (poison : PoisonS) (med : MediaS) (shadow : AMap ShadowS) (qen : QenS) (tal : TalS) (per : PerS) (qch : QuenchS)
    (cry : CryS) (rid : Nat) (dirtyShutdowns : Nat) (out : List Output) (freeCtr : Nat) (f : Fld) (i : Nat) :
    (Dev.mk now cause aon regs cfg oldCfgs boot mgt ust evt pmc pwr rst clk thm pin jrn heads slices tier poison
      med shadow qen tal per qch cry rid dirtyShutdowns out freeCtr).reg f i = regOf regs cfg f i :=
  Dev.reg_congr (d := { regs := regs, cfg := cfg }) rfl rfl f i

theorem regOf_regs (e : Dev) (c : Option Cfg) (h : e.cfg = c) (f : Fld) (i : Nat) : regOf e.regs c f i = e.reg f i := by
  subst h; exact Dev.reg_congr (d := e) (e := { regs := e.regs, cfg := e.cfg }) rfl rfl f i

/-- What a field reads after a write, in one formula. -/
theorem Dev.reg_setReg_eq (d : Dev) (f g : Fld) (i j v : Nat) :
    (d.setReg f i v).reg g j = if f = g ∧ i = j then v % 2 ^ f.info.width else d.reg g j := by
  split
  · obtain ⟨rfl, rfl⟩ := ‹_ ∧ _›; simp
  · exact d.reg_setReg_ne v (by
      by_cases hf : f = g
      · exact .inr fun e => ‹¬(_ ∧ _)› ⟨hf, e⟩
      · exact .inl hf)

/-- A unit reads as the record it was given. -/
@[simp] theorem Dev.unit_setUnitRec (d : Dev) (ix : Nat) (r : UnitRec) : (d.setUnitRec ix r).unit ix = r := by
  simp [Dev.unit]

theorem Dev.unit_setUnitRec_ne (d : Dev) {ix iy : Nat} (r : UnitRec) (h : ix ≠ iy) :
    (d.setUnitRec ix r).unit iy = d.unit iy := by
  simp [Dev.unit, AMap.findD_put_ne _ _ _ h]

end Sys2Proof.Machine
end

