-- ==== Sys2Proof/Laws/Events.lean ====
section
/-!
SUPPORT. What an event occurrence can change (R412): the register fields of the event block, the event state, and what is
put out; and what putting an answer out leaves unchanged.
-/
namespace Sys2Proof.Machine

/-- A field that an event occurrence can write. -/
def Fld.isEvt (f : Fld) : Bool := evtFields.contains f

/-- Two devices that differ at most in event register fields, event state and output, the output only grown. -/
def Dev.EvOnly (d e : Dev) : Prop :=
  ∃ r v o, e = { d with regs := r, evt := v, out := o ++ d.out } ∧
    ∀ g j, Fld.isEvt g = false → r.find (g.key j) = d.regs.find (g.key j)

theorem Dev.EvOnly.refl (d : Dev) : d.EvOnly d := ⟨d.regs, d.evt, [], rfl, fun _ _ _ => rfl⟩

theorem Dev.EvOnly.trans {a b c : Dev} (h : a.EvOnly b) (k : b.EvOnly c) : a.EvOnly c := by
  obtain ⟨r, v, o, rfl, hr⟩ := h
  obtain ⟨r', v', o', rfl, hr'⟩ := k
  exact ⟨r', v', o' ++ o, by simp, fun g j hg => (hr' g j hg).trans (hr g j hg)⟩

theorem Dev.EvOnly.each {α : Type} (l : List α) (f : Dev → α → Dev) (h : ∀ (d : Dev) a, d.EvOnly (f d a)) (d : Dev) :
    d.EvOnly (d.each l f) := by
  induction l generalizing d with
  | nil => exact .refl d
  | cons a l ih => exact (h d a).trans (ih (f d a))

theorem Dev.EvOnly.ite {d a b : Dev} (c : Prop) [Decidable c] (ha : d.EvOnly a) (hb : d.EvOnly b) :
    d.EvOnly (if c then a else b) := by
  split <;> assumption

theorem Dev.setReg_evOnly (d : Dev) {f : Fld} (h : f.isEvt = true) (i v : Nat) : d.EvOnly (d.setReg f i v) :=
  ⟨_, d.evt, [], rfl, fun g j hg => AMap.find_put_ne _ _ (fun e => by
    obtain ⟨rfl, _⟩ := Fld.key_inj e
    rw [h] at hg
    exact Bool.noConfusion hg)⟩

theorem Dev.count_evOnly (d : Dev) {f : Fld} (h : f.isEvt = true) (i n : Nat) : d.EvOnly (d.count f i n) :=
  d.setReg_evOnly h i _

theorem Dev.evt_evOnly (d : Dev) (v : EvtS) : d.EvOnly { d with evt := v } := ⟨d.regs, v, [], rfl, fun _ _ _ => rfl⟩

theorem Dev.emit_evOnly (d : Dev) (o : Output) : d.EvOnly (d.emit o) := ⟨d.regs, d.evt, [o], rfl, fun _ _ _ => rfl⟩

theorem Dev.msix_evOnly (d : Dev) (h v : Nat) : d.EvOnly (d.msix h v) := by
  unfold Dev.msix
  dsimp only
  split
  · exact d.evt_evOnly _
  · split
    · exact d.emit_evOnly _
    · split
      · exact d.evt_evOnly _
      · exact ((d.evt_evOnly _).trans (Dev.evt_evOnly _ _)).trans (Dev.emit_evOnly _ _)

theorem Dev.notifyMctp_evOnly (d : Dev) (r : EvRec) : d.EvOnly (d.notifyMctp r) := by
  unfold Dev.notifyMctp
  split
  · exact d.count_evOnly rfl _ _
  · split
    · exact d.count_evOnly rfl _ _
    · exact d.evt_evOnly _

theorem Dev.logRecord_evOnly (d : Dev) (src heads : Nat) (r : EvRec) : d.EvOnly (d.logRecord src heads r) :=
  (d.evt_evOnly _).trans (.each _ _ (fun d h => d.msix_evOnly h _) _)

theorem Dev.placeRecord_evOnly (d : Dev) (src heads : Nat) (r : EvRec) : d.EvOnly (d.placeRecord src heads r) := by
  have rest : ∀ (e : Dev) (b c : Prop) [Decidable b] [Decidable c], d.EvOnly e →
      d.EvOnly (if c then (if b then e.logRecord src heads r else e).notifyMctp r
        else if b then e.logRecord src heads r else e) := by
    intro e b c _ _ h
    have k := Dev.EvOnly.ite b (h.trans (e.logRecord_evOnly src heads r)) h
    exact .ite c (k.trans (Dev.notifyMctp_evOnly _ r)) k
  exact .ite _ (.refl d) (.ite _ (d.count_evOnly rfl _ _) (rest _ _ _ (d.evt_evOnly _)))

/-- An event occurrence changes event fields, event state and output only. -/
theorem Dev.raise_evOnly (d : Dev) (src : Nat) (i : EvInfo) : d.EvOnly (d.raise src i) := by
  unfold Dev.raise
  dsimp only
  split
  · exact d.count_evOnly rfl _ _
  · refine Dev.EvOnly.trans ?_ (Dev.placeRecord_evOnly _ _ _ _)
    have h : ∀ v, d.EvOnly (({ d.count .EVT_CFGn_COUNT src with evt := v } : Dev).setFieldBit .EVT_STATUSw_STATUS
        (src / 32) (src % 32) true) :=
      fun v => ((d.count_evOnly rfl _ _).trans (Dev.evt_evOnly _ v)).trans (Dev.setReg_evOnly _ rfl _ _)
    split
    · exact (h _).trans (.each _ _ (fun d h => d.msix_evOnly _ _) _)
    · exact h _

theorem Dev.dflt_cfg (d e : Dev) (h : e.cfg = d.cfg) (f : Fld) (i : Nat) : e.dflt f i = d.dflt f i := by
  unfold Dev.dflt Dev.eventRec Dev.presetWord
  rw [h]

theorem Dev.EvOnly.reg {d e : Dev} (h : d.EvOnly e) (f : Fld) (hf : f.isEvt = false) (i : Nat) : e.reg f i = d.reg f i := by
  obtain ⟨r, v, o, rfl, hr⟩ := h
  have hd := Dev.dflt_cfg d { d with regs := r, evt := v, out := o ++ d.out } rfl f i
  have hk := hr f i hf
  simp only [Dev.reg] at *
  rw [hk, hd]

@[simp] theorem Dev.raise_reg (d : Dev) (src : Nat) (i : EvInfo) (f : Fld) (j : Nat) (h : f.isEvt = false) :
    (d.raise src i).reg f j = d.reg f j := (d.raise_evOnly src i).reg f h j

/-- What was put out stays. -/
theorem Dev.EvOnly.out {d e : Dev} (h : d.EvOnly e) : ∃ o, e.out = o ++ d.out := by
  obtain ⟨r, v, o, rfl, _⟩ := h
  exact ⟨o, rfl⟩

@[simp] theorem Dev.raise_now (d : Dev) (src : Nat) (i : EvInfo) : (d.raise src i).now = d.now := by
  obtain ⟨r, v, o, h, _⟩ := d.raise_evOnly src i; rw [h]
@[simp] theorem Dev.raise_cause (d : Dev) (src : Nat) (i : EvInfo) : (d.raise src i).cause = d.cause := by
  obtain ⟨r, v, o, h, _⟩ := d.raise_evOnly src i; rw [h]
@[simp] theorem Dev.raise_aon (d : Dev) (src : Nat) (i : EvInfo) : (d.raise src i).aon = d.aon := by
  obtain ⟨r, v, o, h, _⟩ := d.raise_evOnly src i; rw [h]
@[simp] theorem Dev.raise_cfg (d : Dev) (src : Nat) (i : EvInfo) : (d.raise src i).cfg = d.cfg := by
  obtain ⟨r, v, o, h, _⟩ := d.raise_evOnly src i; rw [h]
@[simp] theorem Dev.raise_oldCfgs (d : Dev) (src : Nat) (i : EvInfo) : (d.raise src i).oldCfgs = d.oldCfgs := by
  obtain ⟨r, v, o, h, _⟩ := d.raise_evOnly src i; rw [h]
@[simp] theorem Dev.raise_boot (d : Dev) (src : Nat) (i : EvInfo) : (d.raise src i).boot = d.boot := by
  obtain ⟨r, v, o, h, _⟩ := d.raise_evOnly src i; rw [h]
@[simp] theorem Dev.raise_mgt (d : Dev) (src : Nat) (i : EvInfo) : (d.raise src i).mgt = d.mgt := by
  obtain ⟨r, v, o, h, _⟩ := d.raise_evOnly src i; rw [h]
@[simp] theorem Dev.raise_ust (d : Dev) (src : Nat) (i : EvInfo) : (d.raise src i).ust = d.ust := by
  obtain ⟨r, v, o, h, _⟩ := d.raise_evOnly src i; rw [h]
@[simp] theorem Dev.raise_pmc (d : Dev) (src : Nat) (i : EvInfo) : (d.raise src i).pmc = d.pmc := by
  obtain ⟨r, v, o, h, _⟩ := d.raise_evOnly src i; rw [h]
@[simp] theorem Dev.raise_pwr (d : Dev) (src : Nat) (i : EvInfo) : (d.raise src i).pwr = d.pwr := by
  obtain ⟨r, v, o, h, _⟩ := d.raise_evOnly src i; rw [h]
@[simp] theorem Dev.raise_rst (d : Dev) (src : Nat) (i : EvInfo) : (d.raise src i).rst = d.rst := by
  obtain ⟨r, v, o, h, _⟩ := d.raise_evOnly src i; rw [h]
@[simp] theorem Dev.raise_clk (d : Dev) (src : Nat) (i : EvInfo) : (d.raise src i).clk = d.clk := by
  obtain ⟨r, v, o, h, _⟩ := d.raise_evOnly src i; rw [h]
@[simp] theorem Dev.raise_thm (d : Dev) (src : Nat) (i : EvInfo) : (d.raise src i).thm = d.thm := by
  obtain ⟨r, v, o, h, _⟩ := d.raise_evOnly src i; rw [h]
@[simp] theorem Dev.raise_pin (d : Dev) (src : Nat) (i : EvInfo) : (d.raise src i).pin = d.pin := by
  obtain ⟨r, v, o, h, _⟩ := d.raise_evOnly src i; rw [h]
@[simp] theorem Dev.raise_jrn (d : Dev) (src : Nat) (i : EvInfo) : (d.raise src i).jrn = d.jrn := by
  obtain ⟨r, v, o, h, _⟩ := d.raise_evOnly src i; rw [h]
@[simp] theorem Dev.raise_heads (d : Dev) (src : Nat) (i : EvInfo) : (d.raise src i).heads = d.heads := by
  obtain ⟨r, v, o, h, _⟩ := d.raise_evOnly src i; rw [h]
@[simp] theorem Dev.raise_slices (d : Dev) (src : Nat) (i : EvInfo) : (d.raise src i).slices = d.slices := by
  obtain ⟨r, v, o, h, _⟩ := d.raise_evOnly src i; rw [h]
@[simp] theorem Dev.raise_tier (d : Dev) (src : Nat) (i : EvInfo) : (d.raise src i).tier = d.tier := by
  obtain ⟨r, v, o, h, _⟩ := d.raise_evOnly src i; rw [h]
@[simp] theorem Dev.raise_poison (d : Dev) (src : Nat) (i : EvInfo) : (d.raise src i).poison = d.poison := by
  obtain ⟨r, v, o, h, _⟩ := d.raise_evOnly src i; rw [h]
@[simp] theorem Dev.raise_med (d : Dev) (src : Nat) (i : EvInfo) : (d.raise src i).med = d.med := by
  obtain ⟨r, v, o, h, _⟩ := d.raise_evOnly src i; rw [h]
@[simp] theorem Dev.raise_shadow (d : Dev) (src : Nat) (i : EvInfo) : (d.raise src i).shadow = d.shadow := by
  obtain ⟨r, v, o, h, _⟩ := d.raise_evOnly src i; rw [h]
@[simp] theorem Dev.raise_qen (d : Dev) (src : Nat) (i : EvInfo) : (d.raise src i).qen = d.qen := by
  obtain ⟨r, v, o, h, _⟩ := d.raise_evOnly src i; rw [h]
@[simp] theorem Dev.raise_tal (d : Dev) (src : Nat) (i : EvInfo) : (d.raise src i).tal = d.tal := by
  obtain ⟨r, v, o, h, _⟩ := d.raise_evOnly src i; rw [h]
@[simp] theorem Dev.raise_per (d : Dev) (src : Nat) (i : EvInfo) : (d.raise src i).per = d.per := by
  obtain ⟨r, v, o, h, _⟩ := d.raise_evOnly src i; rw [h]
@[simp] theorem Dev.raise_qch (d : Dev) (src : Nat) (i : EvInfo) : (d.raise src i).qch = d.qch := by
  obtain ⟨r, v, o, h, _⟩ := d.raise_evOnly src i; rw [h]
@[simp] theorem Dev.raise_cry (d : Dev) (src : Nat) (i : EvInfo) : (d.raise src i).cry = d.cry := by
  obtain ⟨r, v, o, h, _⟩ := d.raise_evOnly src i; rw [h]
@[simp] theorem Dev.raise_rid (d : Dev) (src : Nat) (i : EvInfo) : (d.raise src i).rid = d.rid := by
  obtain ⟨r, v, o, h, _⟩ := d.raise_evOnly src i; rw [h]
@[simp] theorem Dev.raise_dirtyShutdowns (d : Dev) (src : Nat) (i : EvInfo) : (d.raise src i).dirtyShutdowns = d.dirtyShutdowns := by
  obtain ⟨r, v, o, h, _⟩ := d.raise_evOnly src i; rw [h]
@[simp] theorem Dev.raise_freeCtr (d : Dev) (src : Nat) (i : EvInfo) : (d.raise src i).freeCtr = d.freeCtr := by
  obtain ⟨r, v, o, h, _⟩ := d.raise_evOnly src i; rw [h]

end Sys2Proof.Machine
end

