-- ==== Sys2Proof/Laws/Outcome.lean ====
section
/-!
SUPPORT. The frames every command's meaning is written over, once each: what `State.on`, `State.onHealth`,
`State.command`, `State.onPower` and `State.onCheckpoint` can do to the state outside the device, and what they do with
V_AON up and down.
-/
namespace Sys2Proof.Machine

theorem State.on_aon {s : State} (h : s.dev.aon = true) (f : Dev → Dev) :
    s.on f = .next { s with dev := f s.stamped } := by
  unfold State.on; rw [if_pos h]

theorem State.on_off {s : State} (h : s.dev.aon = false) (f : Dev → Dev) : s.on f = .next s := by simp [State.on, h]

/-- `State.on` changes the device alone. -/
theorem State.on_next (s : State) (f : Dev → Dev) : ∃ d, s.on f = .next { s with dev := d } := by
  by_cases h : s.dev.aon = true
  · exact ⟨_, s.on_aon h f⟩
  · exact ⟨s.dev, s.on_off (by simpa using h) f⟩

/-- Watching the health adds at most one event occurrence. -/
theorem Dev.watchHealth_evOnly (d : Dev) (f : Dev → Dev) : (f d).EvOnly (d.watchHealth f) := by
  unfold Dev.watchHealth
  dsimp only
  split
  · exact .refl _
  · exact Dev.raise_evOnly _ _ _

theorem State.onHealth_aon {s : State} (h : s.dev.aon = true) (f : Dev → Dev) :
    s.onHealth f = .next { s with dev := s.stamped.watchHealth f } := State.on_aon h _

theorem State.onHealth_off {s : State} (h : s.dev.aon = false) (f : Dev → Dev) : s.onHealth f = .next s :=
  State.on_off h _

theorem State.onHealth_next (s : State) (f : Dev → Dev) : ∃ d, s.onHealth f = .next { s with dev := d } := s.on_next _

theorem State.command_aon {s : State} (h : s.dev.aon = true) (c : CmdHdr) (opcode need : Nat) (k : CmdKind)
    (f : Dev → CmdOut) :
    s.command c opcode need k f = .next { s with dev := s.stamped.watchHealth (·.command c opcode need k f) } :=
  State.onHealth_aon h _

theorem State.command_off {s : State} (h : s.dev.aon = false) (c : CmdHdr) (opcode need : Nat) (k : CmdKind)
    (f : Dev → CmdOut) : s.command c opcode need k f = .next s := State.onHealth_off h _

theorem State.command_next (s : State) (c : CmdHdr) (opcode need : Nat) (k : CmdKind) (f : Dev → CmdOut) :
    ∃ d, s.command c opcode need k f = .next { s with dev := d } := s.onHealth_next _

/-- A command that may end in a power-on reset either changes the device alone, or loads the timebase (R397). -/
theorem State.onPower_next (s : State) (f : Dev → Dev) : ∃ d, s.onPower f = .next { s with dev := d } ∨
    s.onPower f = .next { s with tb := loadedTb s.ceiling, ceiling := loadedTb s.ceiling + 30000000000, dev := d } := by
  unfold State.onPower
  split
  · by_cases h : (f s.stamped).rst.reload = true
    · exact ⟨_, .inr (by simp only [h]; rfl)⟩
    · exact ⟨f s.stamped, .inl (by simp [h])⟩
  · exact ⟨s.dev, .inl rfl⟩

theorem State.onPower_off {s : State} (h : s.dev.aon = false) (f : Dev → Dev) : s.onPower f = .next s := by
  simp [State.onPower, h]

/-- A command that writes a startup checkpoint raises the ceiling at most. -/
theorem State.onCheckpoint_next (s : State) (c : Dev → Bool) (f : Dev → Dev) :
    ∃ d n, s.onCheckpoint c f = .next { s with dev := d, ceiling := n } ∧ s.ceiling ≤ n := by
  unfold State.onCheckpoint
  split
  · exact ⟨_, _, rfl, Nat.le_max_left _ _⟩
  · exact ⟨s.dev, s.ceiling, rfl, Nat.le_refl _⟩

theorem State.onCheckpoint_off {s : State} (h : s.dev.aon = false) (c : Dev → Bool) (f : Dev → Dev) :
    s.onCheckpoint c f = .next s := by
  simp [State.onCheckpoint, h]

/-- The loaded timebase lies above the ceiling (R397). -/
theorem lt_loadedTb (c : Nat) : c < loadedTb c := by
  unfold loadedTb roundUp ceilDiv
  omega

end Sys2Proof.Machine
end

