-- ==== Sys2Proof/Laws/Units.lean ====
section
/-!
SUPPORT. A change of a unit's state (R315, R316): the state it leaves, and what it leaves unchanged; folds over lists that keep
a part of the device.
-/
namespace Sys2Proof.Machine

/-- What each step of a fold keeps, the fold keeps. -/
theorem Dev.each_keeps {α β : Type} (g : Dev → β) (l : List α) (f : Dev → α → Dev) (h : ∀ d a, g (f d a) = g d) (d : Dev) :
    g (d.each l f) = g d := by
  induction l generalizing d with
  | nil => rfl
  | cons a l ih => exact (ih (f d a)).trans (h d a)

theorem Dev.when_keeps {β : Type} (g : Dev → β) (c : Bool) (f : Dev → Dev) (h : ∀ d, g (f d) = g d) (d : Dev) :
    g (d.when c f) = g d := by
  unfold Dev.when; split
  · exact h d
  · rfl

/-- The state a unit is given is the state it has. -/
@[simp] theorem Dev.setUnit_ustate (d : Dev) (ix : Nat) (st : UState) (cause : Nat) (hw : Bool) :
    (d.setUnit ix st cause hw).ustate ix = st := by
  unfold Dev.setUnit
  dsimp only
  split
  · simp [Dev.ustate, Dev.unit, Dev.setUnitRec, AMap.findD]
    simpa [Dev.unit, AMap.findD] using ‹(d.unit ix).state = st›
  · simp [Dev.ustate, Dev.unit, AMap.findD]

/-- A change of a unit's state leaves every other unit as it was. -/
theorem Dev.setUnit_unit_ne (d : Dev) {ix iy : Nat} (h : ix ≠ iy) (st : UState) (cause : Nat) (hw : Bool) :
    (d.setUnit ix st cause hw).unit iy = d.unit iy := by
  unfold Dev.setUnit
  dsimp only
  split
  · exact d.unit_setUnitRec_ne _ h
  · simp [Dev.unit, AMap.findD_put_ne _ _ _ h]

theorem Dev.setUnit_reg (d : Dev) (ix : Nat) (st : UState) (cause : Nat) (hw : Bool) (f : Fld) (j : Nat)
    (h : f.isEvt = false) : (d.setUnit ix st cause hw).reg f j = d.reg f j := by
  unfold Dev.setUnit
  dsimp only
  split
  · exact Dev.reg_congr rfl rfl f j
  · rw [Dev.raise_reg _ _ _ _ _ h]; exact Dev.reg_congr rfl rfl f j

@[simp] theorem Dev.setUnit_now (d : Dev) (ix : Nat) (st : UState) (cause : Nat) (hw : Bool) :
    (d.setUnit ix st cause hw).now = d.now := by
  unfold Dev.setUnit; dsimp only; split <;> simp
@[simp] theorem Dev.setUnit_cause (d : Dev) (ix : Nat) (st : UState) (cause : Nat) (hw : Bool) :
    (d.setUnit ix st cause hw).cause = d.cause := by
  unfold Dev.setUnit; dsimp only; split <;> simp
@[simp] theorem Dev.setUnit_aon (d : Dev) (ix : Nat) (st : UState) (cause : Nat) (hw : Bool) :
    (d.setUnit ix st cause hw).aon = d.aon := by
  unfold Dev.setUnit; dsimp only; split <;> simp
@[simp] theorem Dev.setUnit_cfg (d : Dev) (ix : Nat) (st : UState) (cause : Nat) (hw : Bool) :
    (d.setUnit ix st cause hw).cfg = d.cfg := by
  unfold Dev.setUnit; dsimp only; split <;> simp
@[simp] theorem Dev.setUnit_oldCfgs (d : Dev) (ix : Nat) (st : UState) (cause : Nat) (hw : Bool) :
    (d.setUnit ix st cause hw).oldCfgs = d.oldCfgs := by
  unfold Dev.setUnit; dsimp only; split <;> simp
@[simp] theorem Dev.setUnit_boot (d : Dev) (ix : Nat) (st : UState) (cause : Nat) (hw : Bool) :
    (d.setUnit ix st cause hw).boot = d.boot := by
  unfold Dev.setUnit; dsimp only; split <;> simp
@[simp] theorem Dev.setUnit_mgt (d : Dev) (ix : Nat) (st : UState) (cause : Nat) (hw : Bool) :
    (d.setUnit ix st cause hw).mgt = d.mgt := by
  unfold Dev.setUnit; dsimp only; split <;> simp
@[simp] theorem Dev.setUnit_pmc (d : Dev) (ix : Nat) (st : UState) (cause : Nat) (hw : Bool) :
    (d.setUnit ix st cause hw).pmc = d.pmc := by
  unfold Dev.setUnit; dsimp only; split <;> simp
@[simp] theorem Dev.setUnit_pwr (d : Dev) (ix : Nat) (st : UState) (cause : Nat) (hw : Bool) :
    (d.setUnit ix st cause hw).pwr = d.pwr := by
  unfold Dev.setUnit; dsimp only; split <;> simp
@[simp] theorem Dev.setUnit_rst (d : Dev) (ix : Nat) (st : UState) (cause : Nat) (hw : Bool) :
    (d.setUnit ix st cause hw).rst = d.rst := by
  unfold Dev.setUnit; dsimp only; split <;> simp
@[simp] theorem Dev.setUnit_clk (d : Dev) (ix : Nat) (st : UState) (cause : Nat) (hw : Bool) :
    (d.setUnit ix st cause hw).clk = d.clk := by
  unfold Dev.setUnit; dsimp only; split <;> simp
@[simp] theorem Dev.setUnit_thm (d : Dev) (ix : Nat) (st : UState) (cause : Nat) (hw : Bool) :
    (d.setUnit ix st cause hw).thm = d.thm := by
  unfold Dev.setUnit; dsimp only; split <;> simp
@[simp] theorem Dev.setUnit_pin (d : Dev) (ix : Nat) (st : UState) (cause : Nat) (hw : Bool) :
    (d.setUnit ix st cause hw).pin = d.pin := by
  unfold Dev.setUnit; dsimp only; split <;> simp
@[simp] theorem Dev.setUnit_heads (d : Dev) (ix : Nat) (st : UState) (cause : Nat) (hw : Bool) :
    (d.setUnit ix st cause hw).heads = d.heads := by
  unfold Dev.setUnit; dsimp only; split <;> simp
@[simp] theorem Dev.setUnit_slices (d : Dev) (ix : Nat) (st : UState) (cause : Nat) (hw : Bool) :
    (d.setUnit ix st cause hw).slices = d.slices := by
  unfold Dev.setUnit; dsimp only; split <;> simp
@[simp] theorem Dev.setUnit_tier (d : Dev) (ix : Nat) (st : UState) (cause : Nat) (hw : Bool) :
    (d.setUnit ix st cause hw).tier = d.tier := by
  unfold Dev.setUnit; dsimp only; split <;> simp
@[simp] theorem Dev.setUnit_poison (d : Dev) (ix : Nat) (st : UState) (cause : Nat) (hw : Bool) :
    (d.setUnit ix st cause hw).poison = d.poison := by
  unfold Dev.setUnit; dsimp only; split <;> simp
@[simp] theorem Dev.setUnit_med (d : Dev) (ix : Nat) (st : UState) (cause : Nat) (hw : Bool) :
    (d.setUnit ix st cause hw).med = d.med := by
  unfold Dev.setUnit; dsimp only; split <;> simp
@[simp] theorem Dev.setUnit_shadow (d : Dev) (ix : Nat) (st : UState) (cause : Nat) (hw : Bool) :
    (d.setUnit ix st cause hw).shadow = d.shadow := by
  unfold Dev.setUnit; dsimp only; split <;> simp
@[simp] theorem Dev.setUnit_qen (d : Dev) (ix : Nat) (st : UState) (cause : Nat) (hw : Bool) :
    (d.setUnit ix st cause hw).qen = d.qen := by
  unfold Dev.setUnit; dsimp only; split <;> simp
@[simp] theorem Dev.setUnit_tal (d : Dev) (ix : Nat) (st : UState) (cause : Nat) (hw : Bool) :
    (d.setUnit ix st cause hw).tal = d.tal := by
  unfold Dev.setUnit; dsimp only; split <;> simp
@[simp] theorem Dev.setUnit_per (d : Dev) (ix : Nat) (st : UState) (cause : Nat) (hw : Bool) :
    (d.setUnit ix st cause hw).per = d.per := by
  unfold Dev.setUnit; dsimp only; split <;> simp
@[simp] theorem Dev.setUnit_qch (d : Dev) (ix : Nat) (st : UState) (cause : Nat) (hw : Bool) :
    (d.setUnit ix st cause hw).qch = d.qch := by
  unfold Dev.setUnit; dsimp only; split <;> simp
@[simp] theorem Dev.setUnit_cry (d : Dev) (ix : Nat) (st : UState) (cause : Nat) (hw : Bool) :
    (d.setUnit ix st cause hw).cry = d.cry := by
  unfold Dev.setUnit; dsimp only; split <;> simp
@[simp] theorem Dev.setUnit_rid (d : Dev) (ix : Nat) (st : UState) (cause : Nat) (hw : Bool) :
    (d.setUnit ix st cause hw).rid = d.rid := by
  unfold Dev.setUnit; dsimp only; split <;> simp
@[simp] theorem Dev.setUnit_dirtyShutdowns (d : Dev) (ix : Nat) (st : UState) (cause : Nat) (hw : Bool) :
    (d.setUnit ix st cause hw).dirtyShutdowns = d.dirtyShutdowns := by
  unfold Dev.setUnit; dsimp only; split <;> simp
@[simp] theorem Dev.setUnit_freeCtr (d : Dev) (ix : Nat) (st : UState) (cause : Nat) (hw : Bool) :
    (d.setUnit ix st cause hw).freeCtr = d.freeCtr := by
  unfold Dev.setUnit; dsimp only; split <;> simp

end Sys2Proof.Machine
end

