-- ==== Sys2Proof/WellFormed.lean ====
section
/-!
DEFINITION. Well-formed commands: every operand names a part the device has, or fits the field that carries it. A
well-formed command can still be one that the device refuses.
-/
namespace Sys2Proof

/-- A number fits a field of `w` bits. -/
def fits (w n : Nat) : Bool := decide (n < 2 ^ w)
/-- A number that may be absent fits a field of `w` bits. -/
def optFits (w : Nat) (n : Option Nat) : Bool := n.all (fits w)
/-- A field of `n` bytes. -/
def hasLen (n : Nat) (l : List Byte) : Bool := l.length == n
/-- A head (R68): H0 or H1. -/
def headOk (h : Nat) : Bool := decide (h < 2)
/-- A command interface (R428): the mailbox of H0 or H1, or MCTP. -/
def ifaceOk (i : Nat) : Bool := decide (i < 3)
/-- A slice (R313): S0 to S15. -/
def sliceOk (k : Nat) : Bool := decide (k < 16)
/-- A media complex: MC0 to MC7. -/
def complexOk (n : Nat) : Bool := decide (n < 8)
/-- An M-link: ML0 to ML127. -/
def linkOk (m : Nat) : Bool := decide (m < 128)
/-- A package: P0 to P63. -/
def packageOk (p : Nat) : Bool := decide (p < 64)
/-- A DRAM stack. -/
def stackOk (d : Nat) : Bool := decide (d < 4)
/-- A region: R0 to R63. -/
def regionOk (r : Nat) : Bool := decide (r < 64)
/-- A queue: 256 groups of 512 queues. -/
def queueOk (q : Nat) : Bool := decide (q < 256 * 512)
/-- A counter set (R231). -/
def setOk (n : Nat) : Bool := decide (n < 64)
/-- A reheat sweep (R303). -/
def sweepOk (n : Nat) : Bool := decide (n < 4)
/-- A module rail (R357). -/
def railOk (r : Nat) : Bool := decide (r < 9)
/-- A media rail group (R373). -/
def mpgOk (g : Nat) : Bool := decide (g < 8)
/-- A PLL (R390): A to F. -/
def pllOk (p : Nat) : Bool := decide (p < 6)
/-- A clock source (R389). -/
def sourceOk (c : Nat) : Bool := decide (c < 5)
/-- A sensor (R400). -/
def sensorOk (n : Nat) : Bool := decide (n < 144)
/-- A performance-counter group (R421). -/
def pmcGroupOk (g : Nat) : Bool := decide (g < 32)
/-- A media die: package × 16 + die number. -/
def dieOk (k : Nat) : Bool := decide (k < 1024)
/-- A unit index (R313). -/
def unitOk (u : Nat) : Bool := decide (u < 542)
/-- A tracking-table entry (R102): 8,192 for hosts, 4,096 internal. -/
def entryOk (e : Nat) : Bool := decide (e < 12352)
/-- A line-cache way (R116). -/
def wayOk (w : Nat) : Bool := decide (w < 24)
/-- A host physical address of a line: 52 bits, 64-byte aligned. -/
def hpaOk (a : Nat) : Bool := decide (a < 2 ^ 52) && a % 64 == 0
/-- An IMAGE STAGE chunk (R434): 1 to 4,096 bytes. -/
def chunkOk (l : List Byte) : Bool := decide (1 ≤ l.length) && decide (l.length ≤ 4096)
/-- A BX-space access (R449): 4 or 8 bytes, naturally aligned, within 64 MiB. -/
def accessOk (addr size data : Nat) : Bool :=
  (size == 4 || size == 8) && addr % size == 0 && decide (addr < 2 ^ 26) && fits (8 * size) data

/-- A read request names a head and an aligned line. -/
def HostReq.wf (r : HostReq) : Bool := headOk r.head && fits 16 r.tag && hpaOk r.hpa
/-- A write request names a head and an aligned line. -/
def HostWr.wf (w : HostWr) : Bool := headOk w.head && fits 16 w.tag && hpaOk w.hpa
/-- A command header names an interface. -/
def CmdHdr.wf (c : CmdHdr) : Bool := ifaceOk c.iface
/-- A filtered pin names a media rail group. -/
def FilteredPin.wf (p : FilteredPin) : Bool := match p with | .mpgood g => mpgOk g | _ => true
/-- A JTAG access is to a line, or to an aligned word of BX space. -/
def DbgAcc.wf (a : DbgAcc) : Bool :=
  match a with
  | .dpaRead dpa => dpa % 64 == 0
  | .dpaWrite dpa _ => dpa % 64 == 0
  | .barRead addr size => accessOk addr size 0
  | .barWrite addr size data => accessOk addr size data
  | .halt _ => true
/-- A tier check names a stack. -/
def TierCheck.wf (c : TierCheck) : Bool :=
  match c with
  | .corrected d => stackOk d
  | .oneCopy d _ => stackOk d
  | _ => true
/-- A grain check names an orchard level (R289). -/
def GrainCheck.wf (c : GrainCheck) : Bool := match c with | .orphan l => decide (l < 12) | _ => true
/-- A tier answer carries a token epoch of 6 bits (R111). -/
def TierAnswer.wf (a : TierAnswer) : Bool := fits 6 a.epoch && a.check.wf
/-- A grain carries a token epoch of 6 bits (R111). -/
def GrainAnswer.wf (a : GrainAnswer) : Bool := fits 6 a.epoch && a.check.wf
/-- A package's tables hold 8-bit and 16-bit fields. -/
def PkgCaps.wf (c : PkgCaps) : Bool := fits 8 c.susp && c.refs.all (fits 16)
/-- A cache check names a counter. -/
def CacheCheck.wf (c : CacheCheck) : Bool := match c with | .lost set counter => setOk set && fits 28 counter | _ => true

/-- A command is well formed. -/
def Instr.wf (i : Instr) : Bool :=
  match i with
  | .memRd r => r.wf
  | .memWr head tag hpa _ _ => headOk head && fits 16 tag && hpaOk hpa
  | .memWrPtl w => w.wf
  | .memSpecRd r => r.wf
  | .memInv r => r.wf
  | .unsupportedM2sMessage head tag opcode => headOk head && fits 16 tag && fits 8 opcode
  | .enqueueLine w _ => w.wf
  | .dequeueRead r _ => r.wf
  | .release w _ => w.wf
  | .abort w _ => w.wf
  | .doorbellStatusRead r _ => r.wf
  | .enqueueApertureRead r => r.wf
  | .dequeueApertureWrite w => w.wf
  | .updateLine w => w.wf
  | .tallyWindowRead r => r.wf
  | .counterWindowRead r => r.wf
  | .counterWindowWrite w => w.wf
  | .shadowWrite w => w.wf
  | .shadowRead r => r.wf
  | .commit w => w.wf
  | .discard w => w.wf
  | .statusLineRead r => r.wf
  | .buddyRecordAck slice entry => sliceOk slice && entryOk entry
  | .dramTierReadResult slice entry answer => sliceOk slice && entryOk entry && answer.wf
  | .mediaGrainDelivered slice entry answer => sliceOk slice && entryOk entry && answer.wf
  | .dramTierWriteAck slice entry => sliceOk slice && entryOk entry
  | .engineAck slice entry => sliceOk slice && entryOk entry
  | .nextLinePrefetch slice _ => sliceOk slice
  | .runAhead slice => sliceOk slice
  | .runAheadEntryExpiry slice _ => sliceOk slice
  | .cleanOfferAnswer slice hold _ => sliceOk slice && fits 16 hold
  | .offerDataAck slice hold => sliceOk slice && fits 16 hold
  | .lineCacheEccError slice set way _ => sliceOk slice && fits 16 set && wayOk way
  | .wayErrorWindowEnd slice => sliceOk slice
  | .slcWayTestWrite slice mask => sliceOk slice && fits 24 mask
  | .wayTestDone slice way _ => sliceOk slice && wayOk way
  | .rescueSlipExpiry _ => true
  | .susHoldExpiry die => dieOk die
  | .deadlinePassed slice entry => sliceOk slice && entryOk entry
  | .answerInstant head _ => headOk head
  | .devloadWindowEnd => true
  | .wearCreditAccrual => true
  | .writeBackStart lpn => fits 32 lpn
  | .bandRowVerified _ _ _ _ => true
  | .culletVictimSelection => true
  | .commitFold region => regionOk region
  | .gatherZoneGrowth => true
  | .gatherZoneShrink => true
  | .lehrRefresh => true
  | .mediaScan _ _ => true
  | .clearScheduled die => dieOk die
  | .sentinelReprogram die => dieOk die
  | .stagedPageMove => true
  | .remirrorComplete => true
  | .spill queue => queueOk queue
  | .spillPagePrefetch queue _ => queueOk queue
  | .tailTimeout queue => queueOk queue
  | .qptrJournal => true
  | .tallyMerge check => check.wf
  | .tallyFold set counter side => setOk set && fits 28 counter && fits 1 side
  | .epochBoundary set => setOk set
  | .tallyAtBoundary set => setOk set
  | .snapshotCopyComplete set => setOk set
  | .housekeepingRound sense => fits 16 sense
  | .journalFlush => true
  | .checkpoint => true
  | .ceilingRecord => true
  | .meter => true
  | .throughSheetCut => true
  | .throughSheetProgrammed _ _ => true
  | .drainComplete => true
  | .drainTimeout => true
  | .indexVerified => true
  | .pagesVerified => true
  | .metadataVerified => true
  | .sealVerified vBank _ => fits 16 vBank
  | .supplyGood => true
  | .restoreComplete => true
  | .reheatStep sweep => sweepOk sweep
  | .reheatStepTimeout sweep => sweepOk sweep
  | .reheatStepRetry sweep => sweepOk sweep
  | .sliceFault slice => sliceOk slice
  | .mediaComplexFault complex => complexOk complex
  | .pipelineFault => true
  | .dramStackFailure stack => stackOk stack
  | .packageFailure package => packageOk package
  | .headInternalError head => headOk head
  | .fatalError => true
  | .recoveryComplete unit => unitOk unit
  | .recoveryBudgetExceeded unit => unitOk unit
  | .unitIdle unit => unitOk unit
  | .idleHandshakeTimeout unit => unitOk unit
  | .unitResetRelease unit => unitOk unit
  | .initialisationPassed unit => unitOk unit
  | .startBoundExpiry unit => unitOk unit
  | .builtInTestDone unit _ => unitOk unit
  | .stateDigestExpiry iface => ifaceOk iface
  | .detectTimeout link => linkOk link
  | .trainBlockReceived link port ptype _ polarity => linkOk link && fits 2 port && fits 8 ptype && fits 4 polarity
  | .eqComplete link => linkOk link
  | .deskewComplete link => linkOk link
  | .checkPass link => linkOk link
  | .blockLockLost link => linkOk link
  | .recoveryTimeout link => linkOk link
  | .frameCrcFailure link tag => linkOk link && optFits 16 tag
  | .homePortReturn link => linkOk link
  | .dataResponse link tag _ => linkOk link && fits 16 tag
  | .doneResponse link tag stat => linkOk link && fits 16 tag && fits 8 stat
  | .suspendedResponse link tag => linkOk link && fits 16 tag
  | .sentinelDataResponse link tag _ => linkOk link && fits 16 tag
  | .commandReissueTimeout link tag => linkOk link && fits 16 tag
  | .sidebandAlert package alert => packageOk package && fits 8 alert
  | .sidebandPoll package _ crc ptype dies serial caps => packageOk package && decide (crc ≤ 4) && fits 8 ptype && fits 8 dies && fits 64 serial && caps.wf
  | .powerOn bootSel _ _ => fits 2 bootSel
  | .powerLoss => true
  | .vinGood mv => fits 16 mv
  | .pwrfailNLow => true
  | .vin12Low mv => fits 16 mv
  | .vaux3Low mv => fits 16 mv
  | .railFault rail _ mv current => railOk rail && fits 16 mv && fits 16 current
  | .railWarn rail _ mv => railOk rail && fits 16 mv
  | .phaseLost rail => railOk rail
  | .railGood rail mv => railOk rail && fits 16 mv
  | .railRiseTimeout rail => railOk rail
  | .sequencerStepAdvance => true
  | .sequencerDownStep => true
  | .dischargeTimeout rail => railOk rail
  | .railCollapse rail => railOk rail
  | .mpgoodRise group => mpgOk group
  | .mpgoodFall group => mpgOk group
  | .mpgRiseTimeout group => mpgOk group
  | .sqFrameBroadcast => true
  | .sqFrameReceived id target seq crc => fits 8 id && fits 8 target && fits 8 seq && fits 8 crc
  | .sqStepHigh => true
  | .sqUpTimeout => true
  | .sqDownTimeout => true
  | .resetNAssert => true
  | .resetNRelease => true
  | .perstAssert head _ => headOk head
  | .perstRelease head => headOk head
  | .functionLevelReset head => headOk head
  | .linkUp head rate width _ _ _ => headOk head && fits 8 rate && fits 8 width
  | .linkLoss head => headOk head
  | .ideIntegrityFailure head _ => headOk head
  | .inputGlitch pin => pin.wf
  | .i3cSclStuck => true
  | .watchdogKick => true
  | .watchdogExpiry => true
  | .coreResetHoldEnd => true
  | .clockSourceReady source => sourceOk source
  | .clockSourceLost source => sourceOk source
  | .pllLockLoss pll => pllOk pll
  | .pllRelockTimeout pll => pllOk pll
  | .clkSrcSelWrite value => fits 32 value
  | .pllSwitchDone pll => pllOk pll
  | .clkTbLoRead => true
  | .temperatureSample sensor raw _ => sensorOk sensor && fits 16 raw
  | .sampleLossTimeout package => packageOk package
  | .throtNFall => true
  | .throtNRise => true
  | .throtHoldExpiry => true
  | .throtStuckTimeout => true
  | .mctpNotificationSent => true
  | .pmcIntervalBoundary group => pmcGroupOk group
  | .pmcSnapshotPublish group => pmcGroupOk group
  | .tierplanSliceRoll => true
  | .stagingTimeout => true
  | .fwTransferTimeout => true
  | .fwLoadComplete => true
  | .fwStartTimeout => true
  | .fwFloorRaise => true
  | .nonceExpiry => true
  | .sanitizeComplete => true
  | .identify c => c.wf
  | .backgroundOperationStatus c => c.wf
  | .getEventRecords c log => c.wf && fits 8 log
  | .clearEventRecords c log _ handles => c.wf && fits 8 log && handles.all (fits 16)
  | .getEventInterruptPolicy c => c.wf
  | .setEventInterruptPolicy c policy => c.wf && hasLen 4 policy
  | .getFwInfo c => c.wf
  | .transferFwFull c slot _ => c.wf && fits 8 slot
  | .transferFwInitiate c slot off _ => c.wf && fits 8 slot && fits 32 off
  | .transferFwContinue c off _ => c.wf && fits 32 off
  | .transferFwEnd c off _ => c.wf && fits 32 off
  | .transferFwAbort c => c.wf
  | .activateFwOnline c slot => c.wf && fits 8 slot
  | .activateFwNextReset c slot => c.wf && fits 8 slot
  | .getTimestamp c => c.wf
  | .setTimestamp c time => c.wf && fits 64 time
  | .getSupportedLogs c => c.wf
  | .getLog c uuid off n => c.wf && hasLen 16 uuid && fits 32 off && fits 32 n
  | .identifyMemoryDevice c => c.wf
  | .getPartitionInfo c => c.wf
  | .setPartitionInfo c => c.wf
  | .getLsa c off n => c.wf && fits 32 off && fits 32 n
  | .setLsa c off _ => c.wf && fits 32 off
  | .getHealthInfo c => c.wf
  | .getAlertConfiguration c => c.wf
  | .setAlertConfiguration c valid enable life high low volErr persErr => c.wf && fits 8 valid && fits 8 enable && fits 8 life && fits 16 high && fits 16 low && fits 16 volErr && fits 16 persErr
  | .getShutdownState c => c.wf
  | .setShutdownState c state => c.wf && fits 8 state
  | .getPoisonList c start n => c.wf && fits 64 start && fits 32 n
  | .injectPoison c dpa => c.wf && fits 64 dpa
  | .clearPoison c dpa _ => c.wf && fits 64 dpa
  | .scanMedia c which => c.wf && fits 8 which
  | .sanitize c => c.wf
  | .secureErase c => c.wf
  | .unsupportedCommand c opcode => c.wf && fits 16 opcode
  | .getMultiHeadedInfo c start limit => c.wf && fits 64 start && fits 8 limit
  | .getEndpointId => true
  | .getMctpVersionSupport => true
  | .cdatTableAccess head entry => headOk head && fits 16 entry
  | .doeDiscovery head index => headOk head && fits 8 index
  | .getMeasurements iface index => ifaceOk iface && fits 8 index
  | .setCertificate iface slot _ => ifaceOk iface && fits 8 slot
  | .keyExchange iface => ifaceOk iface
  | .keyProg head _ set dir key => headOk head && fits 1 set && fits 1 dir && hasLen 32 key
  | .kSetGo head _ set => headOk head && fits 1 set
  | .kSetStop head _ set => headOk head && fits 1 set
  | .gpfPhase1 head => headOk head
  | .gpfPhase2 head => headOk head
  | .stateDigestCapture c qgFirst qgCount => c.wf && fits 8 qgFirst && fits 8 qgCount
  | .stateDigestPageRead c id page => c.wf && fits 64 id && fits 16 page
  | .deviceStatus c => c.wf
  | .unitSetStateOnline c unit gen => c.wf && fits 16 unit && fits 16 gen
  | .unitSetStateDraining c unit gen => c.wf && fits 16 unit && fits 16 gen
  | .unitSetStateQuiesced c unit gen => c.wf && fits 16 unit && fits 16 gen
  | .unitSetStateOff c unit gen => c.wf && fits 16 unit && fits 16 gen
  | .unitSetStateReset c unit gen => c.wf && fits 16 unit && fits 16 gen
  | .unitSetStateRepair c unit gen => c.wf && fits 16 unit && fits 16 gen
  | .unitSetStateRetire c unit gen => c.wf && fits 16 unit && fits 16 gen
  | .unitGetState c first count => c.wf && fits 16 first && fits 16 count
  | .imageStageChunk c off data => c.wf && fits 32 off && chunkOk data
  | .imageStageLast c off data => c.wf && fits 32 off && chunkOk data
  | .imageValidationDone => true
  | .imageActivate c slot _ _ seq => c.wf && fits 8 slot && fits 32 seq
  | .imageQuery c => c.wf
  | .keyLoadDataKey c slot gen _ blob => c.wf && fits 16 slot && fits 16 gen && hasLen 40 blob
  | .keyLoadOwnerSecret c slot gen secret => c.wf && fits 16 slot && fits 16 gen && hasLen 32 secret
  | .keyRetire c slot gen => c.wf && fits 16 slot && fits 16 gen
  | .reheatStart c region k gen j base limit blob => c.wf && fits 8 region && fits 16 k && fits 16 gen && fits 16 j && fits 64 base && fits 64 limit && hasLen 40 blob
  | .reheatPause c sweep => c.wf && fits 8 sweep
  | .reheatResume c sweep => c.wf && fits 8 sweep
  | .reheatStatus c => c.wf
  | .regionCommitCommit c region expected => c.wf && fits 8 region && fits 64 expected
  | .regionCommitDiscard c region expected => c.wf && fits 8 region && fits 64 expected
  | .queueParam c queue ki maxKib timeoutUs => c.wf && fits 32 queue && optFits 16 ki && optFits 32 maxKib && optFits 16 timeoutUs
  | .queueResetQueue c queue gen => c.wf && fits 32 queue && fits 16 gen
  | .queueResetGroup c group gen => c.wf && fits 32 group && fits 16 gen
  | .tallySnapshotNow c set => c.wf && fits 8 set
  | .tallySnapshotAt c set b => c.wf && fits 8 set && fits 64 b
  | .resetUnit c unit gen => c.wf && fits 16 unit && fits 16 gen
  | .resetCore c => c.wf
  | .resetSystem c => c.wf
  | .quench c ending => c.wf && fits 8 ending
  | .debugUnlockChallenge c => c.wf
  | .debugUnlockResponse c slot pubkey sig => c.wf && fits 8 slot && hasLen 96 pubkey && hasLen 96 sig
  | .mediaHealth c scope pkg die first count => c.wf && fits 8 scope && fits 8 pkg && fits 8 die && fits 16 first && fits 16 count
  | .packageReplace c pkg _ gen => c.wf && fits 8 pkg && fits 16 gen
  | .orchardRegraft c level index _ => c.wf && fits 8 level && fits 64 index
  | .extest _ => true
  | .idcode => true
  | .samplePreload _ => true
  | .clamp _ => true
  | .highz _ => true
  | .dbgChal => true
  | .dbgResp _ => true
  | .dbgAccess a => a.wf
  | .bypass _ => true
  | .cryLockdownWrite => true
  | .mpgLatchWrite mask => fits 8 mask
  | .sqLeaveWrite => true
  | .dbgMaRead => true
  | .dbgMaWrite => true
  | .hdmDecoderCommit head n hpaBase hpaSize ways gran skip target _ => headOk head && fits 4 n && fits 64 hpaBase && fits 64 hpaSize && fits 8 ways && fits 32 gran && fits 64 skip && fits 8 target
  | .registerWrite head addr size data => headOk head && accessOk addr size data
  | .blockLockAcquired link => linkOk link
  | .pwrGood package => packageOk package
  | .vaux3Good mv => fits 16 mv
  | .pllRelocked pll => pllOk pll
  | .configSpaceReady head => headOk head
  | .memoryActive => true
  | .regraftComplete => true
  | .coreResetDrainEnd => true
  | .resetTakesEffect => true

end Sys2Proof
end

