-- ==== Sys2Proof/Tests/Slice0.lean ====
section
/-!
SUPPORT. Tests of the model: small states and commands, the well-formedness checks, a witness for the hypotheses of every
obligation and of each of its clauses (`meets_<obligation>`), and single steps with values worked out from the spec's rules
(`test_<command>`).
-/
namespace Sys2Proof.Tests
open Sys2Proof Sys2Proof.Machine
set_option Elab.async false

/-! ## A small device in service -/

/-- A persistent TABLE region with a shadow window of 256 MiB at DPA 0. -/
def rTable : RegionRec :=
  ⟨0, .table, true, true, false, true, 3, 0, 0, 4, 0, 0, 0, 0, 1, 0, 2 ^ 28, 100⟩
/-- A volatile SCRATCH region at 4 GiB. -/
def rScratch : RegionRec :=
  ⟨1, .scratch, false, false, false, true, 3, 1, 0, 4, 0, 0, 1, 0, 0, 2 ^ 32, 2 ^ 28, 101⟩
/-- A volatile COUNTER region of counter set 0 at 8 GiB; two key indices by its alias bit. -/
def rCounter : RegionRec :=
  ⟨2, .counter, false, false, false, true, 3, 2, 0, 0, 1, 30, 2, 0, 0, 2 ^ 33, 2 ^ 28, 102⟩
/-- A volatile QUEUE region of queue set 0 at 16 GiB. -/
def rQueue : RegionRec :=
  ⟨3, .queue, false, false, false, true, 3, 2, 0, 0, 0, 0, 4, 0, 0, 2 ^ 34, 2 ^ 28, 103⟩
/-- A volatile TABLE region with a shadow window at 32 GiB. -/
def rVol : RegionRec :=
  ⟨4, .table, false, true, false, true, 3, 0, 0, 4, 0, 0, 5, 0, 1, 2 ^ 35, 2 ^ 28, 104⟩
/-- The volatile SCRATCH region that snapshots of counter set 0 go to. -/
def rSnap : RegionRec :=
  ⟨5, .scratch, false, false, false, true, 3, 1, 0, 0, 0, 0, 6, 0, 0, 2 ^ 36, 2 ^ 28, 105⟩

def qSet : QueueSet := ⟨0, false, false, false, true, 0, 2, 4, 0, 0, 100, 16, 1024, 64, 80, 1024⟩
def cSet : CounterSet := ⟨0, false, true, 4096, 0, 5, 0⟩

/-- A ring of 16 packages with one die each. -/
def ring16 : List (Nat × Nat) := (List.range 16).map (fun p => (p, 0))

def cfg0 : Cfg :=
  { uid := 1, svn := 1, version := 1
    ident := ⟨[], [], 4, [16, 5, 0, 0], 0⟩
    clock := ⟨1, 0, 1, 0, 400, List.replicate 6 ⟨1, 0, 40, 0, 4, 4⟩⟩
    power := ⟨10000, 600, 1000, 90, 10, 10, 1, 1000, []⟩
    wiring := ⟨16, 2, (List.range 32).map (fun m => (m / 2, m % 2)), []⟩
    band := ⟨10, 64, 8, 4, 30, 2000, [4, 4, 4, 4, 4], ring16⟩
    tier := ⟨24, 2, 1024, 64, 64, 4096, 64, 64, 1024⟩
    regions := [rTable, rScratch, rCounter, rQueue, rVol, rSnap]
    queueSets := [qSet], counterSets := [cSet]
    crypto := ⟨[⟨0, 4, 0, 0⟩, ⟨4, 1, 1, 0⟩, ⟨5, 10, 0, 4⟩, ⟨20, 4, 2, 0⟩], [], 3, false, 3, 100, 50⟩
    thermal := ⟨50, 0, 60, 85, ⟨false, 10, 80, 95⟩, ⟨false, 10, 80, 95⟩, ⟨false, 10, 60, 75⟩⟩
    events := none, presets := none
    latency := ⟨1000, 4000, 16000, 1000, 8, 10, 100, [10, 20, 30], [10, 20, 30], 2, 50, 80, 16⟩
    seq := SeqCfg.default, digests := [] }

/-- The units in service: H0, the slices, the complexes, 32 links, 16 packages, the stacks, 6 regions, 2 queue groups. -/
def units0 : AMap UnitRec :=
  ([0] ++ (List.range 24).map (· + 2) ++ (List.range 32).map (· + 26) ++ (List.range 16).map (· + 154) ++
    (List.range 4).map (· + 218) ++ (List.range 6).map (· + 222) ++ (List.range 2).map (· + 286)).map
    (fun i => (i, ({ state := .online } : UnitRec)))

/-- A head with its configuration space ready and one decoder over the first TiB. -/
def head0 : HeadS :=
  { perst := false, memInfoValid := true, memActive := true, range1 := 2 ^ 37
    decoders := [(0, { hpaSize := 2 ^ 40, committed := true })] }

/-- Memory Active at step 9, every rail and domain up, every source ready. -/
def dv : Dev :=
  let d : Dev :=
    { cfg := some cfg0
      ust := { units := units0 }
      rst := { kickAt := 999999000000 }
      clk := { off := [] }
      heads := [(0, head0)]
      cry := { slots := (List.range 8).map (fun k => (k, ({ st := .active, key := BitVec.ofNat 256 (k + 1) } : KeySlot)))
               owner := some [] }
      med := { segs := [(segKey 0 false 0, 0), (segKey 0 true 0, 1)]
               bands := [(0, { set := 0, blocks := List.replicate 10 0, stream := 5, state := .opened, openedAt := 0 }),
                         (1, { set := 2, blocks := List.replicate 10 1, stream := 0, state := .opened, openedAt := 0 })]
               nextBand := 2
               gather := [0]
               links := (List.range 32).map (fun m => (m, { train := 6, enabled := true }))
               pkgs := (List.range 16).map (fun p => (p, { present := true, pwrGood := true, ptype := 2, dies := 1, portEn := 3 }))
               creditInit := true, accruedAt := 999999999999 } }
  let d := (d.setReg .PWR_STEP_STEP 0 9).setFlag .GLB_STATUS_MEM_ACTIVE 0 true
  let d := d.each (List.range 9) (fun d r => d.setReg .PWR_RAILr_STAT_STATE r 2)
  let d := (d.setReg .PWR_PD_ON 0 (2 ^ 32 - 1)).setFlag .PWR_SUPPLY_VIN_GOOD 0 true
  let d := (d.setReg .CLK_SRC_READY_SRC 0 0x1F).setReg .CLK_SRC_READY_LOCK 0 0x3F
  let d := (d.setReg .GLB_HEAD_LINK_WIDTH 0 16).setReg .GLB_HEAD_LINK_RATE 0 5
  (d.setFlag .GLB_HEAD_LINK_CXL 0 true).setReg .JRN_BUDGET_EFFECTIVE 0 1024

/-- A state at 1,000 s with a device and no command waiting. -/
def st (d : Dev) : State := { tb := 1000000000000, ceiling := 1030000000000, dev := d, pending := [] }
/-- A command that arrives over MCTP, long enough for every opcode. -/
def hdr : CmdHdr := ⟨2, false, 9000⟩
/-- A command in a secured session over MCTP. -/
def hdrSec : CmdHdr := ⟨2, true, 9000⟩
/-- A device with a unit in a state. -/
def put (d : Dev) (u : Nat) (x : UState) : Dev := d.setUnitRec u { d.unit u with state := x }

/-- A request of head 0 for line `off` of a region, accepted 1 µs ago. -/
def rq (k : ReqKind) (g : RegionRec) (off : Nat) : Req :=
  { rid := 1, head := 0, tag := 9, kind := k, dpa := g.base + off, region := g.number, off := off, ki := g.keyBase
    stamp := 999999999000, deadline := 1000000003000, answerAt := 999999999500, latclass := g.latclass, data := 0
    be := BitVec.ofNat 64 (2 ^ 64 - 1), poison := false }
/-- An update of counter `n` with operation 1. -/
def rqTally (n op : Nat) : Req :=
  { rq .tally rCounter (2 ^ 28) with data := BitVec.ofNat 512 (n + op * 2 ^ 32), be := BitVec.ofNat 64 0xFFFF }
/-- An item of slice 0 that waits for the merge. -/
def item (r : Req) : TalItem := ⟨999999999000, 0, 0, 0, 0, r⟩
/-- The configuration with another FREE_LOW. -/
def cfgFree (n : Nat) : Cfg := { cfg0 with band := { cfg0.band with freeLow := n } }
/-- A TABLE page written once, its first line dirty. -/
def dirtyPage : TPage := { lines := [(0, ⟨5, 0, 1⟩)], dirty := true, version := 1, copies := [0, 1], written := [0] }
/-- A page in a row being filled. -/
def rowPage (lpn : Nat) (v : Option Nat) : RowPage := ⟨lpn, v, 0xFFFFFFFF, [], []⟩

/-! ## Hypotheses put together -/

theorem lands_of {d : Dev} {h hpa : Nat} {g : RegionRec} {off ki : Nat} (n : Nat)
    (x : d.canAccept h = true ∧ d.region g.number = some g ∧
      (List.range 8).filter (fun n => (d.decoder h n).hits hpa) = [n] ∧
      d.locate ((d.decoderBase h n + (d.decoder h n).dpaOff hpa) / 64 * 64) (2 ^ h) = some (g, off, ki)) :
    d.Lands h hpa g off ki := ⟨x.1, x.2.1, n, x.2.2⟩

theorem takesAt_of {d : Dev} {hpa : Nat} {rd : Bool} {g : RegionRec} {off ki k e : Nat} (l : d.Lands 0 hpa g off ki)
    (o : d.offline g (d.window g off) rd = false)
    (x : d.carrier (d.ownerOf g (d.window g off) off) = some k ∧ d.serves (sliceIx k) = true ∧
      (d.slice (d.ownerOf g (d.window g off) off)).ingress = [] ∧
      (d.slice (d.ownerOf g (d.window g off) off ^^^ 1)).ingress = [] ∧ (d.slice k).replayQ = [] ∧
      freeKey (d.slice k).tt 8192 = some e ∧ (∀ x ∈ (d.slice k).tt, x.2.req.dpa ≠ g.base + off ∨ x.2.req.region ≠ g.number) ∧
      (∀ x ∈ d.slices, x.1 ≠ d.ownerOf g (d.window g off) off → ∀ c ∈ x.2.ingress, c.region ≠ g.number) ∧ d.oldCfgs = [] ∧
      d.cry.past = [] ∧ d.cry.sweeps = []) : d.TakesAt 0 hpa rd g off ki k e := ⟨rfl, l, o, x⟩

theorem inSet_of {d : Dev} {g : RegionRec} {q : Nat} (c : QueueSet)
    (x : d.queueSet g.setId = some c ∧ c.groupFirst * 512 ≤ q ∧ q < (c.groupFirst + c.groupCount) * 512) : d.InSet g q := ⟨c, x⟩

theorem notInSet_of {d : Dev} {g : RegionRec} {q : Nat} (c : QueueSet) (x : d.queueSet g.setId = some c)
    (y : (c.groupFirst + c.groupCount) * 512 ≤ q) : ¬ d.InSet g q := by
  rintro ⟨c', h, -, h'⟩
  rw [x] at h
  cases h
  exact absurd h' (Nat.not_lt.mpr y)

/-! ## Well-formedness

Every command that has a check, well formed, and once for each of its checks with one operand that fails it. -/

theorem test_wf_accepts_0 : ([.memRd ⟨0, 0, 0⟩, .memWr 0 0 0 0 false, .memWrPtl ⟨0, 0, 0, 0, 0, false⟩, .memSpecRd ⟨0, 0, 0⟩,
    .memInv ⟨0, 0, 0⟩, .unsupportedM2sMessage 0 0 0, .enqueueLine ⟨0, 0, 0, 0, 0, false⟩ .ok,
    .dequeueRead ⟨0, 0, 0⟩ .ok, .release ⟨0, 0, 0, 0, 0, false⟩ .ok, .abort ⟨0, 0, 0, 0, 0, false⟩ .ok,
    .doorbellStatusRead ⟨0, 0, 0⟩ .ok, .enqueueApertureRead ⟨0, 0, 0⟩, .dequeueApertureWrite ⟨0, 0, 0, 0, 0, false⟩,
    .updateLine ⟨0, 0, 0, 0, 0, false⟩, .tallyWindowRead ⟨0, 0, 0⟩, .counterWindowRead ⟨0, 0, 0⟩,
    .counterWindowWrite ⟨0, 0, 0, 0, 0, false⟩, .shadowWrite ⟨0, 0, 0, 0, 0, false⟩, .shadowRead ⟨0, 0, 0⟩,
    .commit ⟨0, 0, 0, 0, 0, false⟩, .discard ⟨0, 0, 0, 0, 0, false⟩, .statusLineRead ⟨0, 0, 0⟩, .buddyRecordAck 0 0,
    .dramTierReadResult 0 0 ⟨0, .ok⟩, .mediaGrainDelivered 0 0 ⟨0, .ok⟩, .dramTierWriteAck 0 0, .engineAck 0 0,
    .nextLinePrefetch 0 0, .runAhead 0, .runAheadEntryExpiry 0 0, .cleanOfferAnswer 0 0 false, .offerDataAck 0 0,
    .lineCacheEccError 0 0 0 false, .wayErrorWindowEnd 0, .slcWayTestWrite 0 0, .wayTestDone 0 0 false,
    .susHoldExpiry 0, .deadlinePassed 0 0, .answerInstant 0 0, .writeBackStart 0, .commitFold 0, .clearScheduled 0,
    .sentinelReprogram 0, .spill 0, .spillPagePrefetch 0 false, .tailTimeout 0, .tallyMerge .ok, .tallyFold 0 0 0,
    .epochBoundary 0, .tallyAtBoundary 0, .snapshotCopyComplete 0, .housekeepingRound 0, .sealVerified 0 0,
    .reheatStep 0, .reheatStepTimeout 0, .reheatStepRetry 0, .sliceFault 0, .mediaComplexFault 0,
    .dramStackFailure 0, .packageFailure 0] : List Instr).all Instr.wf = true := by
  decide +kernel
theorem test_wf_accepts_1 : ([.headInternalError 0, .recoveryComplete 0, .recoveryBudgetExceeded 0, .unitIdle 0, .idleHandshakeTimeout 0,
    .unitResetRelease 0, .initialisationPassed 0, .startBoundExpiry 0, .builtInTestDone 0 false,
    .stateDigestExpiry 0, .detectTimeout 0, .trainBlockReceived 0 0 0 false 0, .eqComplete 0, .deskewComplete 0,
    .checkPass 0, .blockLockLost 0, .recoveryTimeout 0, .frameCrcFailure 0 none, .homePortReturn 0,
    .dataResponse 0 0 [], .doneResponse 0 0 0, .suspendedResponse 0 0, .sentinelDataResponse 0 0 [],
    .commandReissueTimeout 0 0, .sidebandAlert 0 0, .sidebandPoll 0 false 0 0 0 0 ⟨0, []⟩, .powerOn 0 false false,
    .vinGood 0, .vin12Low 0, .vaux3Low 0, .railFault 0 .uv 0 0, .railWarn 0 .uv 0, .phaseLost 0, .railGood 0 0,
    .railRiseTimeout 0, .dischargeTimeout 0, .railCollapse 0, .mpgoodRise 0, .mpgoodFall 0, .mpgRiseTimeout 0,
    .sqFrameReceived 0 0 0 0, .perstAssert 0 .hot, .perstRelease 0, .functionLevelReset 0,
    .linkUp 0 0 0 false false false, .linkLoss 0, .ideIntegrityFailure 0 false, .inputGlitch .throtN,
    .clockSourceReady 0, .clockSourceLost 0, .pllLockLoss 0, .pllRelockTimeout 0, .clkSrcSelWrite 0,
    .pllSwitchDone 0, .temperatureSample 0 0 false, .sampleLossTimeout 0, .pmcIntervalBoundary 0,
    .pmcSnapshotPublish 0, .identify ⟨0, false, 0⟩, .backgroundOperationStatus ⟨0, false, 0⟩] : List Instr).all Instr.wf = true := by
  decide +kernel
theorem test_wf_accepts_2 : ([.getEventRecords ⟨0, false, 0⟩ 0, .clearEventRecords ⟨0, false, 0⟩ 0 false [],
    .getEventInterruptPolicy ⟨0, false, 0⟩, .setEventInterruptPolicy ⟨0, false, 0⟩ (List.replicate 4 0),
    .getFwInfo ⟨0, false, 0⟩, .transferFwFull ⟨0, false, 0⟩ 0 [], .transferFwInitiate ⟨0, false, 0⟩ 0 0 [],
    .transferFwContinue ⟨0, false, 0⟩ 0 [], .transferFwEnd ⟨0, false, 0⟩ 0 [], .transferFwAbort ⟨0, false, 0⟩,
    .activateFwOnline ⟨0, false, 0⟩ 0, .activateFwNextReset ⟨0, false, 0⟩ 0, .getTimestamp ⟨0, false, 0⟩,
    .setTimestamp ⟨0, false, 0⟩ 0, .getSupportedLogs ⟨0, false, 0⟩, .getLog ⟨0, false, 0⟩ (List.replicate 16 0) 0 0,
    .identifyMemoryDevice ⟨0, false, 0⟩, .getPartitionInfo ⟨0, false, 0⟩, .setPartitionInfo ⟨0, false, 0⟩,
    .getLsa ⟨0, false, 0⟩ 0 0, .setLsa ⟨0, false, 0⟩ 0 [], .getHealthInfo ⟨0, false, 0⟩,
    .getAlertConfiguration ⟨0, false, 0⟩, .setAlertConfiguration ⟨0, false, 0⟩ 0 0 0 0 0 0 0,
    .getShutdownState ⟨0, false, 0⟩, .setShutdownState ⟨0, false, 0⟩ 0, .getPoisonList ⟨0, false, 0⟩ 0 0,
    .injectPoison ⟨0, false, 0⟩ 0, .clearPoison ⟨0, false, 0⟩ 0 0, .scanMedia ⟨0, false, 0⟩ 0,
    .sanitize ⟨0, false, 0⟩, .secureErase ⟨0, false, 0⟩, .unsupportedCommand ⟨0, false, 0⟩ 0,
    .getMultiHeadedInfo ⟨0, false, 0⟩ 0 0, .cdatTableAccess 0 0, .doeDiscovery 0 0, .getMeasurements 0 0,
    .setCertificate 0 0 [], .keyExchange 0, .keyProg 0 false 0 0 (List.replicate 32 0), .kSetGo 0 false 0,
    .kSetStop 0 false 0, .gpfPhase1 0, .gpfPhase2 0, .stateDigestCapture ⟨0, false, 0⟩ 0 0,
    .stateDigestPageRead ⟨0, false, 0⟩ 0 0, .deviceStatus ⟨0, false, 0⟩, .unitSetStateOnline ⟨0, false, 0⟩ 0 0,
    .unitSetStateDraining ⟨0, false, 0⟩ 0 0, .unitSetStateQuiesced ⟨0, false, 0⟩ 0 0,
    .unitSetStateOff ⟨0, false, 0⟩ 0 0, .unitSetStateReset ⟨0, false, 0⟩ 0 0, .unitSetStateRepair ⟨0, false, 0⟩ 0 0,
    .unitSetStateRetire ⟨0, false, 0⟩ 0 0, .unitGetState ⟨0, false, 0⟩ 0 0, .imageStageChunk ⟨0, false, 0⟩ 0 [0],
    .imageStageLast ⟨0, false, 0⟩ 0 [0], .imageActivate ⟨0, false, 0⟩ 0 false false 0, .imageQuery ⟨0, false, 0⟩,
    .keyLoadDataKey ⟨0, false, 0⟩ 0 0 false (List.replicate 40 0)] : List Instr).all Instr.wf = true := by
  decide +kernel
theorem test_wf_accepts_3 : ([.keyLoadOwnerSecret ⟨0, false, 0⟩ 0 0 (List.replicate 32 0), .keyRetire ⟨0, false, 0⟩ 0 0,
    .reheatStart ⟨0, false, 0⟩ 0 0 0 0 0 0 (List.replicate 40 0), .reheatPause ⟨0, false, 0⟩ 0,
    .reheatResume ⟨0, false, 0⟩ 0, .reheatStatus ⟨0, false, 0⟩, .regionCommitCommit ⟨0, false, 0⟩ 0 0,
    .regionCommitDiscard ⟨0, false, 0⟩ 0 0, .queueParam ⟨0, false, 0⟩ 0 none none none,
    .queueResetQueue ⟨0, false, 0⟩ 0 0, .queueResetGroup ⟨0, false, 0⟩ 0 0, .tallySnapshotNow ⟨0, false, 0⟩ 0,
    .tallySnapshotAt ⟨0, false, 0⟩ 0 0, .resetUnit ⟨0, false, 0⟩ 0 0, .resetCore ⟨0, false, 0⟩,
    .resetSystem ⟨0, false, 0⟩, .quench ⟨0, false, 0⟩ 0, .debugUnlockChallenge ⟨0, false, 0⟩,
    .debugUnlockResponse ⟨0, false, 0⟩ 0 (List.replicate 96 0) (List.replicate 96 0),
    .mediaHealth ⟨0, false, 0⟩ 0 0 0 0 0, .packageReplace ⟨0, false, 0⟩ 0 false 0,
    .orchardRegraft ⟨0, false, 0⟩ 0 0 false, .dbgAccess (.halt true), .mpgLatchWrite 0,
    .hdmDecoderCommit 0 0 0 0 0 0 0 0 false, .registerWrite 0 0 8 0, .blockLockAcquired 0, .pwrGood 0, .vaux3Good 0,
    .pllRelocked 0, .configSpaceReady 0] : List Instr).all Instr.wf = true := by
  decide +kernel
theorem test_wf_refuses_0 : ([.memRd ⟨2, 0, 0⟩, .memRd ⟨0, 65536, 0⟩, .memRd ⟨0, 0, 2 ^ 52⟩, .memWr 2 0 0 0 false, .memWr 0 (2 ^ 16) 0 0 false,
    .memWr 0 0 32 0 false, .memWrPtl ⟨2, 0, 0, 0, 0, false⟩, .memWrPtl ⟨0, 65536, 0, 0, 0, false⟩,
    .memWrPtl ⟨0, 0, 1, 0, 0, false⟩, .memSpecRd ⟨2, 0, 0⟩, .memSpecRd ⟨0, 65536, 0⟩, .memSpecRd ⟨0, 0, 2 ^ 52⟩,
    .memInv ⟨2, 0, 0⟩, .memInv ⟨0, 65536, 0⟩, .memInv ⟨0, 0, 2 ^ 52⟩, .unsupportedM2sMessage 2 0 0,
    .unsupportedM2sMessage 0 (2 ^ 16) 0, .unsupportedM2sMessage 0 0 (2 ^ 8), .enqueueLine ⟨2, 0, 0, 0, 0, false⟩ .ok,
    .enqueueLine ⟨0, 65536, 0, 0, 0, false⟩ .ok, .enqueueLine ⟨0, 0, 1, 0, 0, false⟩ .ok, .dequeueRead ⟨2, 0, 0⟩ .ok,
    .dequeueRead ⟨0, 65536, 0⟩ .ok, .dequeueRead ⟨0, 0, 2 ^ 52⟩ .ok, .release ⟨2, 0, 0, 0, 0, false⟩ .ok,
    .release ⟨0, 65536, 0, 0, 0, false⟩ .ok, .release ⟨0, 0, 1, 0, 0, false⟩ .ok, .abort ⟨2, 0, 0, 0, 0, false⟩ .ok,
    .abort ⟨0, 65536, 0, 0, 0, false⟩ .ok, .abort ⟨0, 0, 1, 0, 0, false⟩ .ok, .doorbellStatusRead ⟨2, 0, 0⟩ .ok,
    .doorbellStatusRead ⟨0, 65536, 0⟩ .ok, .doorbellStatusRead ⟨0, 0, 2 ^ 52⟩ .ok, .enqueueApertureRead ⟨2, 0, 0⟩,
    .enqueueApertureRead ⟨0, 65536, 0⟩, .enqueueApertureRead ⟨0, 0, 2 ^ 52⟩,
    .dequeueApertureWrite ⟨2, 0, 0, 0, 0, false⟩, .dequeueApertureWrite ⟨0, 65536, 0, 0, 0, false⟩,
    .dequeueApertureWrite ⟨0, 0, 1, 0, 0, false⟩, .updateLine ⟨2, 0, 0, 0, 0, false⟩,
    .updateLine ⟨0, 65536, 0, 0, 0, false⟩, .updateLine ⟨0, 0, 1, 0, 0, false⟩, .tallyWindowRead ⟨2, 0, 0⟩,
    .tallyWindowRead ⟨0, 65536, 0⟩, .tallyWindowRead ⟨0, 0, 2 ^ 52⟩, .counterWindowRead ⟨2, 0, 0⟩,
    .counterWindowRead ⟨0, 65536, 0⟩, .counterWindowRead ⟨0, 0, 2 ^ 52⟩, .counterWindowWrite ⟨2, 0, 0, 0, 0, false⟩,
    .counterWindowWrite ⟨0, 65536, 0, 0, 0, false⟩, .counterWindowWrite ⟨0, 0, 1, 0, 0, false⟩,
    .shadowWrite ⟨2, 0, 0, 0, 0, false⟩, .shadowWrite ⟨0, 65536, 0, 0, 0, false⟩,
    .shadowWrite ⟨0, 0, 1, 0, 0, false⟩, .shadowRead ⟨2, 0, 0⟩, .shadowRead ⟨0, 65536, 0⟩,
    .shadowRead ⟨0, 0, 2 ^ 52⟩, .commit ⟨2, 0, 0, 0, 0, false⟩, .commit ⟨0, 65536, 0, 0, 0, false⟩,
    .commit ⟨0, 0, 1, 0, 0, false⟩] : List Instr).all (fun i => !i.wf) = true := by
  decide +kernel
theorem test_wf_refuses_1 : ([.discard ⟨2, 0, 0, 0, 0, false⟩, .discard ⟨0, 65536, 0, 0, 0, false⟩, .discard ⟨0, 0, 1, 0, 0, false⟩,
    .statusLineRead ⟨2, 0, 0⟩, .statusLineRead ⟨0, 65536, 0⟩, .statusLineRead ⟨0, 0, 2 ^ 52⟩, .buddyRecordAck 16 0,
    .buddyRecordAck 0 12352, .dramTierReadResult 16 0 ⟨0, .ok⟩, .dramTierReadResult 0 12352 ⟨0, .ok⟩,
    .dramTierReadResult 0 0 ⟨64, .ok⟩, .dramTierReadResult 0 0 ⟨0, .corrected 4⟩,
    .dramTierReadResult 0 0 ⟨0, .oneCopy 4 false⟩, .mediaGrainDelivered 16 0 ⟨0, .ok⟩,
    .mediaGrainDelivered 0 12352 ⟨0, .ok⟩, .mediaGrainDelivered 0 0 ⟨64, .ok⟩,
    .mediaGrainDelivered 0 0 ⟨0, .orphan 12⟩, .dramTierWriteAck 16 0, .dramTierWriteAck 0 12352, .engineAck 16 0,
    .engineAck 0 12352, .nextLinePrefetch 16 0, .runAhead 16, .runAheadEntryExpiry 16 0,
    .cleanOfferAnswer 16 0 false, .cleanOfferAnswer 0 (2 ^ 16) false, .offerDataAck 16 0, .offerDataAck 0 (2 ^ 16),
    .lineCacheEccError 16 0 0 false, .lineCacheEccError 0 (2 ^ 16) 0 false, .lineCacheEccError 0 0 24 false,
    .wayErrorWindowEnd 16, .slcWayTestWrite 16 0, .slcWayTestWrite 0 (2 ^ 24), .wayTestDone 16 0 false,
    .wayTestDone 0 24 false, .susHoldExpiry 1024, .deadlinePassed 16 0, .deadlinePassed 0 12352, .answerInstant 2 0,
    .writeBackStart (2 ^ 32), .commitFold 64, .clearScheduled 1024, .sentinelReprogram 1024, .spill 131072,
    .spillPagePrefetch 131072 false, .tailTimeout 131072, .tallyMerge (.lost 64 0), .tallyMerge (.lost 0 (2 ^ 28)),
    .tallyFold 64 0 0, .tallyFold 0 (2 ^ 28) 0, .tallyFold 0 0 (2 ^ 1), .epochBoundary 64, .tallyAtBoundary 64,
    .snapshotCopyComplete 64, .housekeepingRound (2 ^ 16), .sealVerified (2 ^ 16) 0, .reheatStep 4,
    .reheatStepTimeout 4, .reheatStepRetry 4] : List Instr).all (fun i => !i.wf) = true := by
  decide +kernel
theorem test_wf_refuses_2 : ([.sliceFault 16, .mediaComplexFault 8, .dramStackFailure 4, .packageFailure 64, .headInternalError 2,
    .recoveryComplete 542, .recoveryBudgetExceeded 542, .unitIdle 542, .idleHandshakeTimeout 542,
    .unitResetRelease 542, .initialisationPassed 542, .startBoundExpiry 542, .builtInTestDone 542 false,
    .stateDigestExpiry 3, .detectTimeout 128, .trainBlockReceived 128 0 0 false 0,
    .trainBlockReceived 0 (2 ^ 2) 0 false 0, .trainBlockReceived 0 0 (2 ^ 8) false 0,
    .trainBlockReceived 0 0 0 false (2 ^ 4), .eqComplete 128, .deskewComplete 128, .checkPass 128,
    .blockLockLost 128, .recoveryTimeout 128, .frameCrcFailure 128 none, .frameCrcFailure 0 (some (2 ^ 16)),
    .homePortReturn 128, .dataResponse 128 0 [], .dataResponse 0 (2 ^ 16) [], .doneResponse 128 0 0,
    .doneResponse 0 (2 ^ 16) 0, .doneResponse 0 0 (2 ^ 8), .suspendedResponse 128 0, .suspendedResponse 0 (2 ^ 16),
    .sentinelDataResponse 128 0 [], .sentinelDataResponse 0 (2 ^ 16) [], .commandReissueTimeout 128 0,
    .commandReissueTimeout 0 (2 ^ 16), .sidebandAlert 64 0, .sidebandAlert 0 (2 ^ 8),
    .sidebandPoll 64 false 0 0 0 0 ⟨0, []⟩, .sidebandPoll 0 false 5 0 0 0 ⟨0, []⟩,
    .sidebandPoll 0 false 0 (2 ^ 8) 0 0 ⟨0, []⟩, .sidebandPoll 0 false 0 0 (2 ^ 8) 0 ⟨0, []⟩,
    .sidebandPoll 0 false 0 0 0 (2 ^ 64) ⟨0, []⟩, .sidebandPoll 0 false 0 0 0 0 ⟨256, []⟩,
    .sidebandPoll 0 false 0 0 0 0 ⟨0, [65536]⟩, .powerOn (2 ^ 2) false false, .vinGood (2 ^ 16), .vin12Low (2 ^ 16),
    .vaux3Low (2 ^ 16), .railFault 9 .uv 0 0, .railFault 0 .uv (2 ^ 16) 0, .railFault 0 .uv 0 (2 ^ 16),
    .railWarn 9 .uv 0, .railWarn 0 .uv (2 ^ 16), .phaseLost 9, .railGood 9 0, .railGood 0 (2 ^ 16),
    .railRiseTimeout 9] : List Instr).all (fun i => !i.wf) = true := by
  decide +kernel
theorem test_wf_refuses_3 : ([.dischargeTimeout 9, .railCollapse 9, .mpgoodRise 8, .mpgoodFall 8, .mpgRiseTimeout 8,
    .sqFrameReceived (2 ^ 8) 0 0 0, .sqFrameReceived 0 (2 ^ 8) 0 0, .sqFrameReceived 0 0 (2 ^ 8) 0,
    .sqFrameReceived 0 0 0 (2 ^ 8), .perstAssert 2 .hot, .perstRelease 2, .functionLevelReset 2,
    .linkUp 2 0 0 false false false, .linkUp 0 (2 ^ 8) 0 false false false, .linkUp 0 0 (2 ^ 8) false false false,
    .linkLoss 2, .ideIntegrityFailure 2 false, .inputGlitch (.mpgood 8), .clockSourceReady 5, .clockSourceLost 5,
    .pllLockLoss 6, .pllRelockTimeout 6, .clkSrcSelWrite (2 ^ 32), .pllSwitchDone 6, .temperatureSample 144 0 false,
    .temperatureSample 0 (2 ^ 16) false, .sampleLossTimeout 64, .pmcIntervalBoundary 32, .pmcSnapshotPublish 32,
    .identify ⟨3, false, 0⟩, .backgroundOperationStatus ⟨3, false, 0⟩, .getEventRecords ⟨3, false, 0⟩ 0,
    .getEventRecords ⟨0, false, 0⟩ (2 ^ 8), .clearEventRecords ⟨3, false, 0⟩ 0 false [],
    .clearEventRecords ⟨0, false, 0⟩ (2 ^ 8) false [], .clearEventRecords ⟨0, false, 0⟩ 0 false [65536],
    .getEventInterruptPolicy ⟨3, false, 0⟩, .setEventInterruptPolicy ⟨3, false, 0⟩ (List.replicate 4 0),
    .setEventInterruptPolicy ⟨0, false, 0⟩ [], .getFwInfo ⟨3, false, 0⟩, .transferFwFull ⟨3, false, 0⟩ 0 [],
    .transferFwFull ⟨0, false, 0⟩ (2 ^ 8) [], .transferFwInitiate ⟨3, false, 0⟩ 0 0 [],
    .transferFwInitiate ⟨0, false, 0⟩ (2 ^ 8) 0 [], .transferFwInitiate ⟨0, false, 0⟩ 0 (2 ^ 32) [],
    .transferFwContinue ⟨3, false, 0⟩ 0 [], .transferFwContinue ⟨0, false, 0⟩ (2 ^ 32) [],
    .transferFwEnd ⟨3, false, 0⟩ 0 [], .transferFwEnd ⟨0, false, 0⟩ (2 ^ 32) [], .transferFwAbort ⟨3, false, 0⟩,
    .activateFwOnline ⟨3, false, 0⟩ 0, .activateFwOnline ⟨0, false, 0⟩ (2 ^ 8), .activateFwNextReset ⟨3, false, 0⟩ 0,
    .activateFwNextReset ⟨0, false, 0⟩ (2 ^ 8), .getTimestamp ⟨3, false, 0⟩, .setTimestamp ⟨3, false, 0⟩ 0,
    .setTimestamp ⟨0, false, 0⟩ (2 ^ 64), .getSupportedLogs ⟨3, false, 0⟩,
    .getLog ⟨3, false, 0⟩ (List.replicate 16 0) 0 0, .getLog ⟨0, false, 0⟩ [] 0 0] : List Instr).all (fun i => !i.wf) = true := by
  decide +kernel
theorem test_wf_refuses_4 : ([.getLog ⟨0, false, 0⟩ (List.replicate 16 0) (2 ^ 32) 0, .getLog ⟨0, false, 0⟩ (List.replicate 16 0) 0 (2 ^ 32),
    .identifyMemoryDevice ⟨3, false, 0⟩, .getPartitionInfo ⟨3, false, 0⟩, .setPartitionInfo ⟨3, false, 0⟩,
    .getLsa ⟨3, false, 0⟩ 0 0, .getLsa ⟨0, false, 0⟩ (2 ^ 32) 0, .getLsa ⟨0, false, 0⟩ 0 (2 ^ 32),
    .setLsa ⟨3, false, 0⟩ 0 [], .setLsa ⟨0, false, 0⟩ (2 ^ 32) [], .getHealthInfo ⟨3, false, 0⟩,
    .getAlertConfiguration ⟨3, false, 0⟩, .setAlertConfiguration ⟨3, false, 0⟩ 0 0 0 0 0 0 0,
    .setAlertConfiguration ⟨0, false, 0⟩ (2 ^ 8) 0 0 0 0 0 0,
    .setAlertConfiguration ⟨0, false, 0⟩ 0 (2 ^ 8) 0 0 0 0 0,
    .setAlertConfiguration ⟨0, false, 0⟩ 0 0 (2 ^ 8) 0 0 0 0,
    .setAlertConfiguration ⟨0, false, 0⟩ 0 0 0 (2 ^ 16) 0 0 0,
    .setAlertConfiguration ⟨0, false, 0⟩ 0 0 0 0 (2 ^ 16) 0 0,
    .setAlertConfiguration ⟨0, false, 0⟩ 0 0 0 0 0 (2 ^ 16) 0,
    .setAlertConfiguration ⟨0, false, 0⟩ 0 0 0 0 0 0 (2 ^ 16), .getShutdownState ⟨3, false, 0⟩,
    .setShutdownState ⟨3, false, 0⟩ 0, .setShutdownState ⟨0, false, 0⟩ (2 ^ 8), .getPoisonList ⟨3, false, 0⟩ 0 0,
    .getPoisonList ⟨0, false, 0⟩ (2 ^ 64) 0, .getPoisonList ⟨0, false, 0⟩ 0 (2 ^ 32), .injectPoison ⟨3, false, 0⟩ 0,
    .injectPoison ⟨0, false, 0⟩ (2 ^ 64), .clearPoison ⟨3, false, 0⟩ 0 0, .clearPoison ⟨0, false, 0⟩ (2 ^ 64) 0,
    .scanMedia ⟨3, false, 0⟩ 0, .scanMedia ⟨0, false, 0⟩ (2 ^ 8), .sanitize ⟨3, false, 0⟩,
    .secureErase ⟨3, false, 0⟩, .unsupportedCommand ⟨3, false, 0⟩ 0, .unsupportedCommand ⟨0, false, 0⟩ (2 ^ 16),
    .getMultiHeadedInfo ⟨3, false, 0⟩ 0 0, .getMultiHeadedInfo ⟨0, false, 0⟩ (2 ^ 64) 0,
    .getMultiHeadedInfo ⟨0, false, 0⟩ 0 (2 ^ 8), .cdatTableAccess 2 0, .cdatTableAccess 0 (2 ^ 16),
    .doeDiscovery 2 0, .doeDiscovery 0 (2 ^ 8), .getMeasurements 3 0, .getMeasurements 0 (2 ^ 8),
    .setCertificate 3 0 [], .setCertificate 0 (2 ^ 8) [], .keyExchange 3, .keyProg 2 false 0 0 (List.replicate 32 0),
    .keyProg 0 false (2 ^ 1) 0 (List.replicate 32 0), .keyProg 0 false 0 (2 ^ 1) (List.replicate 32 0),
    .keyProg 0 false 0 0 [], .kSetGo 2 false 0, .kSetGo 0 false (2 ^ 1), .kSetStop 2 false 0,
    .kSetStop 0 false (2 ^ 1), .gpfPhase1 2, .gpfPhase2 2, .stateDigestCapture ⟨3, false, 0⟩ 0 0,
    .stateDigestCapture ⟨0, false, 0⟩ (2 ^ 8) 0] : List Instr).all (fun i => !i.wf) = true := by
  decide +kernel
theorem test_wf_refuses_5 : ([.stateDigestCapture ⟨0, false, 0⟩ 0 (2 ^ 8), .stateDigestPageRead ⟨3, false, 0⟩ 0 0,
    .stateDigestPageRead ⟨0, false, 0⟩ (2 ^ 64) 0, .stateDigestPageRead ⟨0, false, 0⟩ 0 (2 ^ 16),
    .deviceStatus ⟨3, false, 0⟩, .unitSetStateOnline ⟨3, false, 0⟩ 0 0, .unitSetStateOnline ⟨0, false, 0⟩ (2 ^ 16) 0,
    .unitSetStateOnline ⟨0, false, 0⟩ 0 (2 ^ 16), .unitSetStateDraining ⟨3, false, 0⟩ 0 0,
    .unitSetStateDraining ⟨0, false, 0⟩ (2 ^ 16) 0, .unitSetStateDraining ⟨0, false, 0⟩ 0 (2 ^ 16),
    .unitSetStateQuiesced ⟨3, false, 0⟩ 0 0, .unitSetStateQuiesced ⟨0, false, 0⟩ (2 ^ 16) 0,
    .unitSetStateQuiesced ⟨0, false, 0⟩ 0 (2 ^ 16), .unitSetStateOff ⟨3, false, 0⟩ 0 0,
    .unitSetStateOff ⟨0, false, 0⟩ (2 ^ 16) 0, .unitSetStateOff ⟨0, false, 0⟩ 0 (2 ^ 16),
    .unitSetStateReset ⟨3, false, 0⟩ 0 0, .unitSetStateReset ⟨0, false, 0⟩ (2 ^ 16) 0,
    .unitSetStateReset ⟨0, false, 0⟩ 0 (2 ^ 16), .unitSetStateRepair ⟨3, false, 0⟩ 0 0,
    .unitSetStateRepair ⟨0, false, 0⟩ (2 ^ 16) 0, .unitSetStateRepair ⟨0, false, 0⟩ 0 (2 ^ 16),
    .unitSetStateRetire ⟨3, false, 0⟩ 0 0, .unitSetStateRetire ⟨0, false, 0⟩ (2 ^ 16) 0,
    .unitSetStateRetire ⟨0, false, 0⟩ 0 (2 ^ 16), .unitGetState ⟨3, false, 0⟩ 0 0,
    .unitGetState ⟨0, false, 0⟩ (2 ^ 16) 0, .unitGetState ⟨0, false, 0⟩ 0 (2 ^ 16),
    .imageStageChunk ⟨3, false, 0⟩ 0 [0], .imageStageChunk ⟨0, false, 0⟩ (2 ^ 32) [0],
    .imageStageChunk ⟨0, false, 0⟩ 0 [], .imageStageChunk ⟨0, false, 0⟩ 0 (List.replicate 4097 0),
    .imageStageLast ⟨3, false, 0⟩ 0 [0], .imageStageLast ⟨0, false, 0⟩ (2 ^ 32) [0],
    .imageStageLast ⟨0, false, 0⟩ 0 [], .imageStageLast ⟨0, false, 0⟩ 0 (List.replicate 4097 0),
    .imageActivate ⟨3, false, 0⟩ 0 false false 0, .imageActivate ⟨0, false, 0⟩ (2 ^ 8) false false 0,
    .imageActivate ⟨0, false, 0⟩ 0 false false (2 ^ 32), .imageQuery ⟨3, false, 0⟩,
    .keyLoadDataKey ⟨3, false, 0⟩ 0 0 false (List.replicate 40 0),
    .keyLoadDataKey ⟨0, false, 0⟩ (2 ^ 16) 0 false (List.replicate 40 0),
    .keyLoadDataKey ⟨0, false, 0⟩ 0 (2 ^ 16) false (List.replicate 40 0), .keyLoadDataKey ⟨0, false, 0⟩ 0 0 false [],
    .keyLoadOwnerSecret ⟨3, false, 0⟩ 0 0 (List.replicate 32 0),
    .keyLoadOwnerSecret ⟨0, false, 0⟩ (2 ^ 16) 0 (List.replicate 32 0),
    .keyLoadOwnerSecret ⟨0, false, 0⟩ 0 (2 ^ 16) (List.replicate 32 0), .keyLoadOwnerSecret ⟨0, false, 0⟩ 0 0 [],
    .keyRetire ⟨3, false, 0⟩ 0 0, .keyRetire ⟨0, false, 0⟩ (2 ^ 16) 0, .keyRetire ⟨0, false, 0⟩ 0 (2 ^ 16),
    .reheatStart ⟨3, false, 0⟩ 0 0 0 0 0 0 (List.replicate 40 0),
    .reheatStart ⟨0, false, 0⟩ (2 ^ 8) 0 0 0 0 0 (List.replicate 40 0),
    .reheatStart ⟨0, false, 0⟩ 0 (2 ^ 16) 0 0 0 0 (List.replicate 40 0),
    .reheatStart ⟨0, false, 0⟩ 0 0 (2 ^ 16) 0 0 0 (List.replicate 40 0),
    .reheatStart ⟨0, false, 0⟩ 0 0 0 (2 ^ 16) 0 0 (List.replicate 40 0),
    .reheatStart ⟨0, false, 0⟩ 0 0 0 0 (2 ^ 64) 0 (List.replicate 40 0),
    .reheatStart ⟨0, false, 0⟩ 0 0 0 0 0 (2 ^ 64) (List.replicate 40 0), .reheatStart ⟨0, false, 0⟩ 0 0 0 0 0 0 []] : List Instr).all (fun i => !i.wf) = true := by
  decide +kernel
theorem test_wf_refuses_6 : ([.reheatPause ⟨3, false, 0⟩ 0, .reheatPause ⟨0, false, 0⟩ (2 ^ 8), .reheatResume ⟨3, false, 0⟩ 0,
    .reheatResume ⟨0, false, 0⟩ (2 ^ 8), .reheatStatus ⟨3, false, 0⟩, .regionCommitCommit ⟨3, false, 0⟩ 0 0,
    .regionCommitCommit ⟨0, false, 0⟩ (2 ^ 8) 0, .regionCommitCommit ⟨0, false, 0⟩ 0 (2 ^ 64),
    .regionCommitDiscard ⟨3, false, 0⟩ 0 0, .regionCommitDiscard ⟨0, false, 0⟩ (2 ^ 8) 0,
    .regionCommitDiscard ⟨0, false, 0⟩ 0 (2 ^ 64), .queueParam ⟨3, false, 0⟩ 0 none none none,
    .queueParam ⟨0, false, 0⟩ (2 ^ 32) none none none, .queueParam ⟨0, false, 0⟩ 0 (some (2 ^ 16)) none none,
    .queueParam ⟨0, false, 0⟩ 0 none (some (2 ^ 32)) none, .queueParam ⟨0, false, 0⟩ 0 none none (some (2 ^ 16)),
    .queueResetQueue ⟨3, false, 0⟩ 0 0, .queueResetQueue ⟨0, false, 0⟩ (2 ^ 32) 0,
    .queueResetQueue ⟨0, false, 0⟩ 0 (2 ^ 16), .queueResetGroup ⟨3, false, 0⟩ 0 0,
    .queueResetGroup ⟨0, false, 0⟩ (2 ^ 32) 0, .queueResetGroup ⟨0, false, 0⟩ 0 (2 ^ 16),
    .tallySnapshotNow ⟨3, false, 0⟩ 0, .tallySnapshotNow ⟨0, false, 0⟩ (2 ^ 8), .tallySnapshotAt ⟨3, false, 0⟩ 0 0,
    .tallySnapshotAt ⟨0, false, 0⟩ (2 ^ 8) 0, .tallySnapshotAt ⟨0, false, 0⟩ 0 (2 ^ 64),
    .resetUnit ⟨3, false, 0⟩ 0 0, .resetUnit ⟨0, false, 0⟩ (2 ^ 16) 0, .resetUnit ⟨0, false, 0⟩ 0 (2 ^ 16),
    .resetCore ⟨3, false, 0⟩, .resetSystem ⟨3, false, 0⟩, .quench ⟨3, false, 0⟩ 0, .quench ⟨0, false, 0⟩ (2 ^ 8),
    .debugUnlockChallenge ⟨3, false, 0⟩,
    .debugUnlockResponse ⟨3, false, 0⟩ 0 (List.replicate 96 0) (List.replicate 96 0),
    .debugUnlockResponse ⟨0, false, 0⟩ (2 ^ 8) (List.replicate 96 0) (List.replicate 96 0),
    .debugUnlockResponse ⟨0, false, 0⟩ 0 [] (List.replicate 96 0),
    .debugUnlockResponse ⟨0, false, 0⟩ 0 (List.replicate 96 0) [], .mediaHealth ⟨3, false, 0⟩ 0 0 0 0 0,
    .mediaHealth ⟨0, false, 0⟩ (2 ^ 8) 0 0 0 0, .mediaHealth ⟨0, false, 0⟩ 0 (2 ^ 8) 0 0 0,
    .mediaHealth ⟨0, false, 0⟩ 0 0 (2 ^ 8) 0 0, .mediaHealth ⟨0, false, 0⟩ 0 0 0 (2 ^ 16) 0,
    .mediaHealth ⟨0, false, 0⟩ 0 0 0 0 (2 ^ 16), .packageReplace ⟨3, false, 0⟩ 0 false 0,
    .packageReplace ⟨0, false, 0⟩ (2 ^ 8) false 0, .packageReplace ⟨0, false, 0⟩ 0 false (2 ^ 16),
    .orchardRegraft ⟨3, false, 0⟩ 0 0 false, .orchardRegraft ⟨0, false, 0⟩ (2 ^ 8) 0 false,
    .orchardRegraft ⟨0, false, 0⟩ 0 (2 ^ 64) false, .dbgAccess (.dpaRead 1), .dbgAccess (.dpaWrite 1 0),
    .dbgAccess (.barRead 2 4), .dbgAccess (.barWrite 4 8 0), .mpgLatchWrite (2 ^ 8),
    .hdmDecoderCommit 2 0 0 0 0 0 0 0 false, .hdmDecoderCommit 0 (2 ^ 4) 0 0 0 0 0 0 false,
    .hdmDecoderCommit 0 0 (2 ^ 64) 0 0 0 0 0 false, .hdmDecoderCommit 0 0 0 (2 ^ 64) 0 0 0 0 false] : List Instr).all (fun i => !i.wf) = true := by
  decide +kernel
theorem test_wf_refuses_7 : ([.hdmDecoderCommit 0 0 0 0 (2 ^ 8) 0 0 0 false, .hdmDecoderCommit 0 0 0 0 0 (2 ^ 32) 0 0 false,
    .hdmDecoderCommit 0 0 0 0 0 0 (2 ^ 64) 0 false, .hdmDecoderCommit 0 0 0 0 0 0 0 (2 ^ 8) false,
    .registerWrite 2 0 8 0, .registerWrite 0 0 2 0, .registerWrite 0 4 8 0, .registerWrite 0 (2 ^ 26) 8 0,
    .registerWrite 0 0 8 (2 ^ 64), .blockLockAcquired 128, .pwrGood 64, .vaux3Good (2 ^ 16), .pllRelocked 6,
    .configSpaceReady 2] : List Instr).all (fun i => !i.wf) = true := by
  decide +kernel

/-! ## The spec's worked examples -/

/-- Region 5 of the examples: 64 GiB, no shadow, ALIAS_W 3, ALIAS_POS 36, KEY_BASE 0x200. -/
def r5 : RegionRec :=
  ⟨5, .table, true, false, false, true, 3, 0, 0, 8, 3, 36, 0x200, 0, 0, 0x8000000000, 2 ^ 36, 105⟩
/-- A device whose one region is region 5. -/
def dv5 : Dev := { dv with cfg := some { cfg0 with regions := [r5] } }

/-- "Forming a key index": DPA 0x00D5_1234_5640 is line 0x0005_1234_5640 under alias 5, key index 0x205. -/
theorem test_example_key_index : dv5.locate 0xD512345640 1 = some (r5, 0x512345640, 0x205) := by decide +kernel

/-- Decoder 0 of "Decoding into region 5". -/
def dec5 : Decoder :=
  { hpaBase := 0x10000000000, hpaSize := 2 ^ 38, ways := 4, gran := 1024, skip := 0x8000000000, target := 2, committed := true }
/-- "Decoding into region 5": HPA 0x0100_0155_1A48 is this device's, at DPA 0x0080_0055_4648. -/
theorem test_example_hpa_decode :
    dec5.hits 0x10001551A48 = true ∧ dec5.hits 0x10001551648 = false ∧
      dec5.skip + dec5.dpaOff 0x10001551A48 = 0x8000554648 := by decide +kernel

/-- "One miss, one eviction, one write in the hold": S10 owns the line, its set is 469, and the next sector is S11's. -/
theorem test_example_slice_and_set :
    sectorOf 0x8000554640 = 0x80005546 ∧ sliceOfSector 0x80005546 = 10 ∧ setOfSector 0x80005546 = 469 ∧
      sliceOfSector 0x80005547 = 11 := by decide +kernel

/-- "From DPA to die and grain": the entry's fields, and data strip 6 at member 8. -/
theorem test_example_map_entry :
    entryBand 0x4D2C1A65 = 39512 ∧ entryRow 0x4D2C1A65 = 844 ∧ entrySlot 0x4D2C1A65 = 5 ∧ grainPos 844 5 6 = 8 := by
  decide +kernel

/-- "One band's dose across a power cycle": 84.9, 204.9, 274.9 and 480 eq-h are sets 14, 18, 20 and 23. -/
theorem test_example_reference_sets :
    [849 * 1024 / 10, 2049 * 1024 / 10, 2749 * 1024 / 10, 480 * 1024].map refSet = [14, 18, 20, 23] := by decide +kernel

/-- "One band's dose across a power cycle": an hour at 85 °C is 1 eq-h, one at 70 °C is 0.354, to a part in a thousand. -/
theorem test_example_dose_rates :
    doseRate (85 * 16) * 3600000000000 / 2 ^ 48 + 1 = 1024 ∧
      (doseRate (70 * 16) * 3600000000000 * 1000 / 1024 + 2 ^ 47) / 2 ^ 48 = 354 := by decide +kernel

/-- "One frame through queue 2,100": group 4, 16 lines and 4 cells. -/
theorem test_example_queue_frame : groupOf 2100 = 4 ∧ frameLines 1000 = 16 ∧ frameCells 1000 = 4 := by decide +kernel

/-- Region 20 of the queue example, and a device that has it. -/
def r20 : RegionRec :=
  ⟨20, .queue, false, false, false, true, 3, 0, 0, 0, 0, 0, 0, 3, 0, 0x10000000000, 2 ^ 28, 120⟩
/-- "One frame through queue 2,100": its enqueue slot, its dequeue slot and its doorbell line; S15 owns them. -/
theorem test_example_queue_windows :
    dv.window r20 (0x100020D0000 - r20.base) = .enqueue 2100 0 ∧ dv.window r20 (0x1008_20D_0000 - r20.base) = .dequeue 2100 0 ∧
      dv.window r20 (0x10100020D00 - r20.base) = .doorbell 2100 ∧
      [0x100020D0000, 0x1008_20D_0000, 0x10100020D00].map
        (fun a => dv.ownerOf r20 (dv.window r20 (a - r20.base)) (a - r20.base)) = [15, 15, 15] := by decide +kernel

/-- "A boundary between two increments": counter 4,242 of bank 0 lies at 0x9490; S1 owns its line, S3 and S9 the update
lines at 0xC0 and 0x240; bank 1 starts 8,007,680 B after bank 0. -/
def set2 : CounterSet := { cSet with setId := 2, count := 1000000, snapOffset := 0 }
def r30 : RegionRec := { rCounter with number := 30, setId := 2, base := 0x20000000000 }
def dv30 : Dev := { dv with cfg := some { cfg0 with regions := [r30], counterSets := [set2] } }
theorem test_example_counter_windows :
    bankOffset set2 1 = 8007680 ∧ dv30.window r30 (8 * 4242) = .counter 530 ∧
      dv30.ownerOf r30 (.counter 530) 0x8480 = 1 ∧ dv30.window r30 0x100000C0 = .tally ∧
      dv30.ownerOf r30 .tally 0x100000C0 = 3 ∧ dv30.ownerOf r30 .tally 0x10000240 = 9 := by decide +kernel

/-- "Sizing the hold-up bank for 64 × BXM-256": 27 mF at 45 V give 2,880 MiB; at 51 V they give more than 4 GiB. -/
theorem test_example_hold_up :
    roundBound (energyBound (availEnergy 88 27000 45000 20000) 64) = 2880 * 2 ^ 20 ∧
      4096 * 2 ^ 20 ≤ roundBound (energyBound (availEnergy 88 27000 51000 20000) 64) := by decide +kernel

/-- "A hot spot under slice S5": 96.0 °C is 10.0 % and 94.6 °C is 0; 34.0 % lies between the sixteenths about 98.4 °C. -/
theorem test_example_throttle :
    [1536, 1513].map (throttleOf ⟨false, 10, 95, 100⟩) = [100, 0] ∧ throttleOf ⟨false, 10, 95, 100⟩ 1574 < 340 ∧
      340 < throttleOf ⟨false, 10, 95, 100⟩ 1575 := by
  decide +kernel

/-- "One M-link seen from three blocks": the registers of ML053. -/
theorem test_example_link_registers :
    (regAt 0x8610A0).map (fun x => (x.1.fields.contains .MCX_LINKi_STAT_STATE, x.2)) = some (true, 53, 0) ∧
      (regAt 0xF0113C).map (fun x => x.2) = some (79, 0) ∧ (regAt 0x140_21A8).map (fun x => x.2) = some (565, 0) := by
  decide +kernel

/-! ## Single steps -/

/-- The device after a command; an empty device where it gives no next state. -/
def after (o : Out) : Dev := match o with | .next t => t.dev | _ => {}
/-- The outputs that a command added to `dv`'s, newest first. -/
def outs (o : Out) : List Output := (after o).out

/-- R398: a read of CLK_TB_LO latches the upper half: 10^12 is 232 × 2^32 + 3,567,587,328. -/
theorem test_clk_tb_lo_read : (after (execClkTbLoRead (st dv))).reg .CLK_TB_HI_TB_HI 0 = 232 := by decide +kernel

/-- "A hot spot under slice S5": sensor 16 at 96.0 °C (1,536 sixteenths) throttles S5 and S5 alone by 10.0 %. -/
def dvHot : Dev := { dv with cfg := some { cfg0 with thermal := { cfg0.thermal with die := ⟨false, 10, 95, 100⟩ } } }
theorem test_temperature_sample :
    let d := after (execTemperatureSample 16 1536 true (st dvHot))
    d.reg .THM_SENSn_FRAC 16 = 100 ∧ d.reg .THM_THROT_SLICES 0 = 32 ∧ d.reg .THM_THROT_DEVICE 0 = 100 := by decide +kernel

/-- R47: a read of a line that nothing has written takes zeros. -/
theorem test_mem_rd_unwritten :
    ((after (execMemRd ⟨0, 9, 64⟩ (st dv))).slices.flatMap (fun k => k.2.tt.map (fun e => (e.2.req.dpa, e.2.val)))) =
      [(64, some (.data 0))] := by decide +kernel
/-- R13: a DPA in no region is answered with poison at once. -/
theorem test_mem_rd_no_region : outs (execMemRd ⟨0, 9, 2 ^ 39⟩ (st dv)) = [.mem 0 9 none true 0] := by decide +kernel

/-- A write of line 5 to offset 64, and then the read of another tag: the write's data. -/
theorem test_mem_wr_then_read :
    let s := st (after (execMemWr 0 9 64 5 false (st dv)))
    (s.dev.slices.flatMap (fun k => k.2.tt.map (fun e => e.2.req.data))) = [5] ∧
      (match s.dev.cellAt 0 1 with | some c => c.data | none => 0) = 5 := by decide +kernel

/-- R432: an unknown opcode answers Unsupported. -/
theorem test_unsupported_command : outs (execUnsupportedCommand hdr 0x1234 (st dv)) = [.reply 2 0x1234 3 []] := by decide +kernel

/-- R356: with both supplies gone the device stops. -/
theorem test_power_loss : (after (execPowerLoss (st dv))).aon = false := by decide +kernel

/-- R263: PWRFAIL_N low, trigger 1, begins the quench; JRN_STATUS.QSTATE 1. -/
theorem test_pwrfail : (after (execPwrfailNLow (st dv))).reg .JRN_STATUS_QSTATE = 1 := by decide +kernel

/-- R207 to R209: a frame of 48 bytes fits one line; it takes the tail's SEQ and the line's stamp, and the tail moves on. -/
theorem test_enqueue_one_line :
    (after (execEnqueueLine ⟨0, 9, 2 ^ 34 + 1023 * 16384, 48, BitVec.allOnes 64, false⟩ .ok (st dv))).qen.queues.map
      (fun e => (e.1, e.2.tailSeq, e.2.frames.map (fun f => (f.len, f.seq, f.stamp)))) =
      [(1023, 1, [(48, 0, 1000000000000)])] := by decide +kernel

/-- "A watchdog core reset": RST_CAUSE.WDT set, the drain begun. -/
theorem test_watchdog_expiry :
    let d := after (execWatchdogExpiry (st { dv with rst := { kickAt := 0 } }))
    d.flag .RST_CAUSE_WDT = true ∧ d.rst.core = .draining := by decide +kernel

/-- R358: V_CORE at 0.680 V lies outside ±8 % of 0.75 V, a fault; PWR_RAILr_STAT.STATE 3. -/
theorem test_rail_fault :
    (after (execRailFault 1 .uv 680 10 (st dv))).reg .PWR_RAILr_STAT_STATE 1 = 3 := by decide +kernel

/-- UST_STATEn is read-only: a write of it changes no register. -/
theorem test_register_write_read_only : (after (execRegisterWrite 0 0xF0107C 4 5 (st dv))).regs = dv.regs := by decide +kernel

/-- "One M-link seen from three blocks": MCX_LINKn_STAT and UST_STATEn give one state, here of ML005. -/
theorem test_link_state_two_views :
    (dv.readBar2 0xF0107C 4).1 % 16 = (dv.readBar2 0x8010A0 8).1 % 16 := by decide +kernel

/-- Before Memory Active a head takes no request: from reset, nothing happens. -/
theorem test_mem_rd_at_reset :
    (match execMemRd ⟨0, 9, 64⟩ State.reset with | .next t => decide (t = State.reset) | _ => false) = true := by decide +kernel
/-- R397: with a stamp ceiling of 31 s in the boot store, the timebase starts at 32 s after a power-on reset. -/
theorem test_power_on :
    (match execPowerOn 0 false false { State.reset with dev := { aon := false } } with
     | .next t => (t.tb, t.dev.aon) | _ => (0, false)) = (32000000000, true) := by
  decide +kernel

/-! ## Hypotheses met

For each obligation, its clauses' hypotheses together, each met by a state and operands. -/

def s0_StepRunsFrontCommand : State := st { dv with aon := false }
theorem meets_StepRunsFrontCommand :
    (∃ (s : State),
      s.pending = [] ∧ s.dev.aon = true) ∧
    (∃ (s : State),
      s.pending = [] ∧ s.dev.aon = false) :=
  ⟨⟨st dv, by decide +kernel⟩,
   ⟨s0_StepRunsFrontCommand, by decide +kernel⟩⟩

theorem meets_BelowCeilingKeptByEveryStep :
    (∃ (s : State) (t : State),
      s.BelowCeiling ∧ step s = .next t) :=
  ⟨State.reset, { State.reset with tb := 1000000001 }, by unfold State.BelowCeiling; decide +kernel, by rfl⟩

def s0_NothingHappensWithoutStandbySupply : State := st { dv with aon := false }
theorem meets_NothingHappensWithoutStandbySupply :
    (∃ (c : Instr) (s : State),
      s.dev.aon = false ∧ (∀ b h r, c ≠ .powerOn b h r)) :=
  ⟨.clkTbLoRead, s0_NothingHappensWithoutStandbySupply, by decide +kernel, by intro b h r e; cases e⟩

def s0_PowerOnLoadsTimebaseFromCeiling : State := st { dv with aon := false }
theorem meets_PowerOnLoadsTimebaseFromCeiling :
    (∃ (s : State),
      s.dev.aon = false) :=
  ⟨s0_PowerOnLoadsTimebaseFromCeiling, by decide +kernel⟩

def s0_ClockCommandsTakeEffect : State := st { dv with clk := { off := [], relocking := [(2, 0)] } }
def s1_ClockCommandsTakeEffect : State := st { dv with clk := { off := [], switching := [0], holdover := [0] } }
def s2_ClockCommandsTakeEffect : State := st (dv.setReg .CLK_SRC_READY_SRC 0 1)
def s3_ClockCommandsTakeEffect : State := st (dv.setFlag .CLK_STATUS_SWITCHING 0 true)
theorem meets_ClockCommandsTakeEffect :
    (∃ (s : State) (c : Nat),
      s.dev.aon = true ∧ c ≤ 4 ∧ c = 0) ∧
    (∃ (s : State) (c : Nat) (p : Nat),
      s.dev.aon = true ∧ c ≤ 4 ∧ p < 6 ∧ s.dev.pllOn p = true ∧ s.dev.pllRef p = c ∧ (p = 5 ∨ 4 ≤ s.dev.step)) ∧
    (∃ (s : State) (p : Nat),
      s.dev.aon = true ∧ p < 6 ∧ s.dev.pllOn p = true ∧ (s.dev.reg .CLK_SRC_READY_LOCK).testBit p = true ∧ s.dev.srcReady (s.dev.pllRef p) = true) ∧
    (∃ (s : State) (p : Nat),
      s.dev.aon = true ∧ s.dev.clk.relocking.has p = true) ∧
    (∃ (s : State) (p : Nat),
      s.dev.aon = true ∧ s.dev.clk.switching.contains p = true) ∧
    (∃ (s : State) (v : Nat),
      s.dev.aon = true ∧ s.dev.flag .CLK_STATUS_SWITCHING = false ∧ ((∀ p < 6, s.dev.srcReady (bits v (2 * p) 2) = true ∧ (bits v (2 * p) 2 = 3 → p = 0)) ∧ s.dev.srcReady (if v.testBit 12 then 4 else 0) = true)) ∧
    (∃ (s : State) (v : Nat),
      s.dev.aon = true ∧ s.dev.flag .CLK_STATUS_SWITCHING = false ∧ ((∃ p < 6, s.dev.srcReady (bits v (2 * p) 2) = false ∨ bits v (2 * p) 2 = 3 ∧ p ≠ 0) ∨ s.dev.srcReady (if v.testBit 12 then 4 else 0) = false)) ∧
    (∃ (s : State),
      s.dev.aon = true ∧ s.dev.flag .CLK_STATUS_SWITCHING = true) :=
  ⟨⟨st dv, 0, by decide +kernel⟩,
   ⟨st dv, 0, 0, by decide +kernel⟩,
   ⟨st dv, 5, by decide +kernel⟩,
   ⟨s0_ClockCommandsTakeEffect, 2, by decide +kernel⟩,
   ⟨s1_ClockCommandsTakeEffect, 0, by decide +kernel⟩,
   ⟨st dv, 3, by decide +kernel⟩,
   ⟨s2_ClockCommandsTakeEffect, 1, by decide +kernel⟩,
   ⟨s3_ClockCommandsTakeEffect, by decide +kernel⟩⟩

def s0_SupplyCommandsTakeEffect : State := st (dv.setReg .PWR_STEP_STEP 0 15)
def s1_SupplyCommandsTakeEffect : State := st (dv.setReg .PWR_SUPPLY_VIN_GOOD 0 0)
theorem meets_SupplyCommandsTakeEffect :
    (∃ (s : State),
      s.dev.aon = true ∧ s.dev.step ≠ 15 ∧ s.dev.rst.reload = false) ∧
    (∃ (s : State),
      s.dev.aon = true ∧ s.dev.step = 15 ∧ s.dev.rst.reload = false ∧ s.dev.flag .PWR_STEP_HALTED = false ∧ s.dev.pwr.downByT4 = false) ∧
    (∃ (s : State),
      s.dev.aon = true ∧ s.dev.flag .PWR_SUPPLY_VIN_GOOD = false) :=
  ⟨⟨st dv, by decide +kernel⟩,
   ⟨s0_SupplyCommandsTakeEffect, by decide +kernel⟩,
   ⟨s1_SupplyCommandsTakeEffect, by decide +kernel⟩⟩

def s0_TriggersBeginTheQuench : State := st { dv with clk := { off := [], relocking := [(5, 999999900000)] } }
def s1_TriggersBeginTheQuench : State := st { dv with rst := { pend := some ⟨2, 2, 999000000000⟩ } }
theorem meets_TriggersBeginTheQuench :
    (∃ (s : State),
      s.Running ∧ s.dev.flag .PWR_SUPPLY_VIN_GOOD = true) ∧
    (∃ (s : State) (r : Nat) (k : RailKind),
      s.Running ∧ r < 9 ∧ s.dev.railState r = 2 ∧ k = .uv) ∧
    (∃ (s : State) (p : Nat) (t : Nat),
      s.Running ∧ s.dev.clk.relocking.find p = some t ∧ t + 100000 ≤ s.tb) ∧
    (∃ (s : State) (p : PendReset),
      s.Running ∧ s.dev.rst.reload = false ∧ s.dev.rst.pend = some p ∧ p.level = 2) :=
  ⟨⟨st dv, by unfold State.Running; decide +kernel⟩,
   ⟨st dv, 8, .uv, by unfold State.Running; decide +kernel⟩,
   ⟨s0_TriggersBeginTheQuench, 5, 999999900000, by unfold State.Running; decide +kernel⟩,
   ⟨s1_TriggersBeginTheQuench, ⟨2, 2, 999000000000⟩, by unfold State.Running; decide +kernel⟩⟩

def s0_RailCommandsTakeEffect : State := st (dv.setReg .PWR_RAILr_STAT_STATE 1 1)
def s1_RailCommandsTakeEffect : State := st (dv.setReg .PWR_RAILr_STAT_STATE 7 4)
theorem meets_RailCommandsTakeEffect :
    (∃ (s : State) (r : Nat),
      s.dev.aon = true ∧ r < 9 ∧ s.dev.railState r = 2) ∧
    (∃ (s : State) (r : Nat),
      s.dev.aon = true ∧ r < 9 ∧ s.dev.railState r = 2) ∧
    (∃ (s : State) (r : Nat),
      s.dev.aon = true ∧ r < 9 ∧ s.dev.railState r = 1 ∧ r ∈ bootRails) ∧
    (∃ (s : State) (r : Nat),
      s.dev.aon = true ∧ r < 9 ∧ s.dev.railState r ∈ [2, 3, 4]) ∧
    (∃ (s : State) (r : Nat),
      s.dev.aon = true ∧ r < 9 ∧ s.dev.railState r = 4) :=
  ⟨⟨st dv, 0, by decide +kernel⟩,
   ⟨st dv, 8, by decide +kernel⟩,
   ⟨s0_RailCommandsTakeEffect, 1, by decide +kernel⟩,
   ⟨s1_RailCommandsTakeEffect, 7, by decide +kernel⟩,
   ⟨s1_RailCommandsTakeEffect, 7, by decide +kernel⟩⟩

def s0_SequencerStepsFollowTheLine : State := st { ((dv.setReg .PWR_STEP_STEP 0 8).setReg .PWR_MPG_LATCH 0 255) with pwr := { left := true, ready := true }, pin := { dv.pin with mpgood := 255 } }
def s1_SequencerStepsFollowTheLine : State := st { ((dv.setReg .PWR_STEP_STEP 0 8).setReg .PWR_MPG_LATCH 0 255) with pwr := { left := false, ready := true }, pin := { dv.pin with mpgood := 255 } }
def s2_SequencerStepsFollowTheLine : State := st { (dv.setReg .PWR_STEP_STEP 0 14) with pwr := { left := true } }
def s3_SequencerStepsFollowTheLine : State := st (dv.setReg .PWR_STEP_STEP 0 10)
def s4_SequencerStepsFollowTheLine : State := st { ((dv.setReg .PWR_STEP_STEP 0 14).setFlag .PWR_SQ_STAT_HOLDING 0 false) with pwr := { ready := true } }
def s5_SequencerStepsFollowTheLine : State := st { (dv.setReg .PWR_STEP_STEP 0 10) with pwr := { ready := true } }
theorem meets_SequencerStepsFollowTheLine :
    (∃ (s : State),
      s.dev.aon = true ∧ s.dev.rst.reload = false ∧ s.dev.step < 9 ∧ s.stamped.stepDone = true ∧ s.dev.flag .PWR_STEP_HALTED = false ∧ s.dev.rst.held = false ∧ s.dev.sqTakesPart = false) ∧
    (∃ (s : State),
      s.dev.aon = true ∧ s.dev.rst.reload = false ∧ s.dev.step < 9 ∧ s.stamped.stepDone = true ∧ s.dev.flag .PWR_STEP_HALTED = false ∧ s.dev.rst.held = false ∧ s.dev.sqTakesPart = true) ∧
    (∃ (s : State),
      s.dev.aon = true ∧ 10 ≤ s.dev.step ∧ s.dev.step < 15 ∧ (s.dev.step = 11 → s.dev.pin.mpgood = 0) ∧ s.dev.sqTakesPart = false) ∧
    (∃ (s : State),
      s.dev.aon = true ∧ 10 ≤ s.dev.step ∧ s.dev.step < 15 ∧ (s.dev.step = 11 → s.dev.pin.mpgood = 0) ∧ s.dev.sqTakesPart = true) ∧
    (∃ (s : State),
      s.dev.aon = true ∧ s.dev.sqTakesPart = true ∧ s.dev.pwr.ready = true ∧ s.dev.flag .PWR_SQ_STAT_HOLDING = false ∧ (10 ≤ s.dev.step ∧ s.dev.step < 15 ∨ s.dev.step < 9 ∧ s.dev.step + 1 ≤ s.dev.sqTarget)) ∧
    (∃ (s : State),
      s.dev.aon = true ∧ s.dev.sqTakesPart = true ∧ 10 ≤ s.dev.step ∧ s.dev.step < 15 ∧ s.dev.pwr.ready = true) ∧
    (∃ (s : State),
      s.dev.aon = true ∧ s.dev.sqTakesPart = true ∧ s.dev.step < 9 ∧ s.dev.pwr.upTimeoutRaised = false ∧ (s.dev.pwr.ready = true ∨ s.dev.pin.sqRole = false)) :=
  ⟨⟨s0_SequencerStepsFollowTheLine, by decide +kernel⟩,
   ⟨s1_SequencerStepsFollowTheLine, by decide +kernel⟩,
   ⟨s2_SequencerStepsFollowTheLine, by decide +kernel⟩,
   ⟨s3_SequencerStepsFollowTheLine, by decide +kernel⟩,
   ⟨s4_SequencerStepsFollowTheLine, by decide +kernel⟩,
   ⟨s5_SequencerStepsFollowTheLine, by decide +kernel⟩,
   ⟨s1_SequencerStepsFollowTheLine, by decide +kernel⟩⟩

def s0_SequencerBusCommandsTakeEffect : State := st { dv with pin := { dv.pin with sqRole := false } }
theorem meets_SequencerBusCommandsTakeEffect :
    (∃ (s : State),
      s.dev.aon = true ∧ s.dev.pin.sqRole = true ∧ s.dev.sqTakesPart = true) ∧
    (∃ (s : State) (target : Nat),
      s.dev.aon = true ∧ s.dev.pin.sqRole = false ∧ s.dev.sqTakesPart = true ∧ s.dev.step ≤ target ∧ target < 16) ∧
    (∃ (s : State) (id : Nat) (target : Nat) (seq : Nat) (crc : Nat),
      s.dev.aon = true ∧ s.dev.pin.sqRole = false ∧ s.dev.sqTakesPart = true ∧ crc ≠ crc8 [id, target, seq]) :=
  ⟨⟨st dv, by decide +kernel⟩,
   ⟨s0_SequencerBusCommandsTakeEffect, 15, by decide +kernel⟩,
   ⟨s0_SequencerBusCommandsTakeEffect, 1, 9, 3, (crc8 [1, 9, 3] + 1), by decide +kernel⟩⟩

def s0_MediaRailGroupCommandsTakeEffect : State := st { (dv.setReg .PWR_MPG_MPEN 0 255) with pin := { dv.pin with mpgood := 255 }, pwr := { mpgStableAt := [(7, 999999000000)] } }
def s1_MediaRailGroupCommandsTakeEffect : State := st (dv.setReg .PWR_MPG_MPEN 0 255)
def s2_MediaRailGroupCommandsTakeEffect : State := st ((dv.setReg .PWR_STEP_STEP 0 8).setReg .PWR_MPG_LATCH 0 255)
theorem meets_MediaRailGroupCommandsTakeEffect :
    (∃ (s : State) (g : Nat),
      s.dev.aon = true ∧ g < 8 ∧ s.dev.reg .JRN_STATUS_QSTATE = 0 ∧ s.stamped.mpgUp g = true) ∧
    (∃ (s : State) (g : Nat),
      s.dev.aon = true ∧ g < 8 ∧ s.dev.mpen g = true ∧ s.stamped.mpgUp g = false) ∧
    (∃ (s : State) (mask : Nat) (g : Nat),
      s.dev.aon = true ∧ g < 8 ∧ mask.testBit g = true) ∧
    (∃ (s : State) (mask : Nat) (g : Nat),
      s.dev.aon = true ∧ (s.dev.step = 8 ∨ s.dev.step = 9) ∧ g < 8 ∧ mask.testBit g = true ∧ (s.dev.reg .PWR_MPG_LATCH).testBit g = true) :=
  ⟨⟨s0_MediaRailGroupCommandsTakeEffect, 7, by decide +kernel⟩,
   ⟨s1_MediaRailGroupCommandsTakeEffect, 7, by decide +kernel⟩,
   ⟨st dv, 128, 7, by decide +kernel⟩,
   ⟨s2_MediaRailGroupCommandsTakeEffect, 128, 7, by decide +kernel⟩⟩

def s0_ThermalCommandsTakeEffect : State := st { dv with pin := { dv.pin with throtN := false } }
def s1_ThermalCommandsTakeEffect : State := st { dv with thm := { throtRiseAt := some 999999000000 } }
def s2_ThermalCommandsTakeEffect : State := st { dv with thm := { throtRiseAt := none } }
theorem meets_ThermalCommandsTakeEffect :
    (∃ (s : State) (n : Nat) (raw : Nat),
      s.dev.aon = true ∧ n < 80 ∧ raw < 2 ^ 16 ∧ -880 ≤ signed16 raw ∧ signed16 raw ≤ 2400) ∧
    (∃ (s : State) (n : Nat) (raw : Nat),
      s.dev.aon = true ∧ 80 ≤ n ∧ n < 144 ∧ raw < 2 ^ 16) ∧
    (∃ (s : State) (p : Nat),
      s.dev.aon = true ∧ p < 64 ∧ s.dev.thm.sampleAt.findD (80 + p) 0 + 100000000 ≤ s.tb) ∧
    (∃ (s : State),
      s.dev.aon = true ∧ s.dev.pin.throtN = false) ∧
    (∃ (s : State) (t : Nat),
      s.dev.aon = true ∧ s.dev.pin.throtN = true ∧ s.dev.thm.throtRiseAt = some t ∧ t + 1000000 ≤ s.tb) ∧
    (∃ (s : State),
      s.dev.aon = true ∧ s.dev.thm.throtRiseAt = none ∧ s.dev.flag .THM_EXT_STUCK = false ∧ s.dev.thm.throtOkAt + 1000000000 * ((s.dev.cfg.map (·.thermal.throtStuckS)).getD 60) < s.tb) :=
  ⟨⟨st dv, 79, 2400, by decide +kernel⟩,
   ⟨st dv, 143, 0, by decide +kernel⟩,
   ⟨st dv, 0, by decide +kernel⟩,
   ⟨s0_ThermalCommandsTakeEffect, by decide +kernel⟩,
   ⟨s1_ThermalCommandsTakeEffect, 999999000000, by decide +kernel⟩,
   ⟨s2_ThermalCommandsTakeEffect, by decide +kernel⟩⟩

def s0_HeadResetCommandsTakeEffect : State := st (put { dv with heads := [(0, { head0 with perst := true })] } 0 .resetting)
def s1_HeadResetCommandsTakeEffect : State := st { dv with heads := [(0, { head0 with memInfoValid := false })] }
theorem meets_HeadResetCommandsTakeEffect :
    (∃ (s : State) (h : Nat),
      s.dev.aon = true ∧ s.stamped.headLive h = true ∧ s.dev.rst.core ≠ .hold ∧ s.dev.ustate (headIx h) ∉ [.absent, .retired]) ∧
    (∃ (s : State) (h : Nat) (how : HeadReset),
      s.dev.aon = true ∧ s.stamped.headLive h = true ∧ s.dev.rst.core ≠ .hold ∧ how ≠ .perst ∧ s.dev.ustate (headIx h) ∉ [.absent, .retired] ∧ how = .linkDown ∧ s.dev.reg .GLB_HEAD_LINK_WIDTH h ≠ 0) ∧
    (∃ (s : State) (h : Nat),
      s.dev.aon = true ∧ h < s.dev.headCount ∧ (s.dev.head h).perst = true ∧ s.stamped.headLive h = true ∧ s.dev.ustate (headIx h) = .resetting) ∧
    (∃ (s : State) (h : Nat),
      s.dev.aon = true ∧ s.stamped.headLive h = true ∧ (s.dev.head h).perst = false ∧ (s.dev.head h).memInfoValid = false) :=
  ⟨⟨st dv, 0, by decide +kernel⟩,
   ⟨st dv, 0, .linkDown, by decide +kernel⟩,
   ⟨s0_HeadResetCommandsTakeEffect, 0, by decide +kernel⟩,
   ⟨s1_HeadResetCommandsTakeEffect, 0, by decide +kernel⟩⟩

def s0_HeadLinkCommandsTakeEffect : State := st (dv.setFlag .GLB_HEAD_LINK_CXL 0 false)
def s1_HeadLinkCommandsTakeEffect : State := st { dv with heads := [(0, { head0 with memIde := { secure := true } })] }
def s2_HeadLinkCommandsTakeEffect : State := st { dv with heads := [(0, { head0 with ioIde := { secure := true } })] }
theorem meets_HeadLinkCommandsTakeEffect :
    (∃ (s : State) (h : Nat) (rate : Nat) (width : Nat) (cxl : Bool),
      s.dev.aon = true ∧ s.stamped.headLive h = true ∧ (s.dev.head h).perst = false ∧ width ∈ [1, 2, 4, 8, 16] ∧ width ≤ (if s.dev.pin.headMode then 8 else 16) ∧ 1 ≤ rate ∧ rate ≤ 6 ∧ s.dev.ustate (headIx h) ∈ [.off, .starting, .online, .degraded, .failed] ∧ (cxl && decide (3 ≤ rate)) = false) ∧
    (∃ (s : State) (h : Nat) (rate : Nat) (width : Nat) (cxl : Bool),
      s.dev.aon = true ∧ s.stamped.headLive h = true ∧ (s.dev.head h).perst = false ∧ width ∈ [1, 2, 4, 8, 16] ∧ width ≤ (if s.dev.pin.headMode then 8 else 16) ∧ 1 ≤ rate ∧ rate ≤ 6 ∧ s.dev.ustate (headIx h) ∈ [.off, .starting, .online, .degraded, .failed] ∧ s.dev.pcieOnly h = true ∧ (cxl && decide (3 ≤ rate)) = true) ∧
    (∃ (s : State) (h : Nat),
      s.dev.aon = true ∧ h < s.dev.headCount ∧ s.dev.reg .GLB_HEAD_LINK_WIDTH h ≠ 0 ∧ s.dev.serves (headIx h) = true) ∧
    (∃ (s : State) (h : Nat),
      s.dev.aon = true ∧ h < s.dev.headCount ∧ (s.dev.head h).memIde.secure = true) ∧
    (∃ (s : State) (h : Nat),
      s.dev.aon = true ∧ h < s.dev.headCount ∧ (s.dev.head h).ioIde.secure = true) :=
  ⟨⟨st dv, 0, 6, 16, false, by decide +kernel⟩,
   ⟨s0_HeadLinkCommandsTakeEffect, 0, 6, 16, true, by decide +kernel⟩,
   ⟨st dv, 0, by decide +kernel⟩,
   ⟨s1_HeadLinkCommandsTakeEffect, 0, by decide +kernel⟩,
   ⟨s2_HeadLinkCommandsTakeEffect, 0, by decide +kernel⟩⟩

def s0_CoreResetRunsItsPhases : State := st ((dv.setReg .RST_WDT_PERIOD_MS 0 1))
def s1_CoreResetRunsItsPhases : State := st { dv with rst := { pend := some ⟨1, 2, 999000000000⟩ } }
def s2_CoreResetRunsItsPhases : State := st { dv with rst := { core := .draining, coreSince := 999999900000 }, slices := [(0, {})] }
def s3_CoreResetRunsItsPhases : State := st { dv with rst := { core := .hold } }
def s4_CoreResetRunsItsPhases : State := st { dv with rst := { held := true } }
def s5_CoreResetRunsItsPhases : State := st { (dv.setReg .PWR_STEP_STEP 0 4) with rst := { held := true } }
theorem meets_CoreResetRunsItsPhases :
    (∃ (s : State),
      s.Running ∧ s.stamped.wdtRuns = true ∧ s.dev.rst.kickAt + s.dev.reg .RST_WDT_PERIOD_MS * 1000000 ≤ s.tb) ∧
    (∃ (s : State) (p : PendReset),
      s.Running ∧ s.dev.rst.reload = false ∧ s.dev.rst.pend = some p ∧ p.level ≠ 2) ∧
    (∃ (s : State),
      s.dev.aon = true ∧ s.dev.rst.core = .draining ∧ (s.stamped.drained = true ∨ s.dev.rst.coreSince + 100000 ≤ s.tb)) ∧
    (∃ (s : State),
      s.dev.aon = true ∧ s.dev.rst.core = .hold ∧ s.dev.reg .JRN_STATUS_QSTATE = 0) ∧
    (∃ (s : State),
      s.dev.aon = true ∧ s.dev.rst.held = true ∧ s.dev.step ≠ 4) ∧
    (∃ (s : State),
      s.dev.aon = true ∧ s.dev.rst.held = true ∧ s.dev.step = 4) ∧
    (∃ (s : State),
      s.dev.aon = true ∧ s.dev.rst.held = false) :=
  ⟨⟨s0_CoreResetRunsItsPhases, by unfold State.Running; decide +kernel⟩,
   ⟨s1_CoreResetRunsItsPhases, ⟨1, 2, 999000000000⟩, by unfold State.Running; decide +kernel⟩,
   ⟨s2_CoreResetRunsItsPhases, by decide +kernel⟩,
   ⟨s3_CoreResetRunsItsPhases, by decide +kernel⟩,
   ⟨s4_CoreResetRunsItsPhases, by decide +kernel⟩,
   ⟨s5_CoreResetRunsItsPhases, by decide +kernel⟩,
   ⟨st dv, by decide +kernel⟩⟩

def s0_QuenchPassesThroughItsStates : State := st { (dv.setReg .JRN_STATUS_QSTATE 0 1) with qch := { id := 3, tq := 999999000000, drainAt := 999999000000, ending := 2, images := [⟨3, 1, 2, 999999000000, [], [], false, [], none, 0, none, []⟩] } }
def s1_QuenchPassesThroughItsStates : State := st { (dv.setReg .JRN_STATUS_QSTATE 0 2) with qch := { id := 3, tq := 999999000000, drainAt := 999999000000, ending := 2, images := [⟨3, 1, 2, 999999000000, [], [], false, [], none, 0, none, []⟩] } }
def s2_QuenchPassesThroughItsStates : State := st { (dv.setReg .JRN_STATUS_QSTATE 0 3) with qch := { id := 3, tq := 999999000000, drainAt := 999999000000, ending := 2, images := [⟨3, 1, 2, 999999000000, [], [], false, [], none, 0, none, []⟩] } }
def s3_QuenchPassesThroughItsStates : State := st { (dv.setReg .JRN_STATUS_QSTATE 0 4) with qch := { id := 3, tq := 999999000000, drainAt := 999999000000, ending := 2, images := [⟨3, 1, 2, 999999000000, [], [], false, [], none, 0, none, []⟩] } }
def s4_QuenchPassesThroughItsStates : State := st { (dv.setReg .JRN_STATUS_QSTATE 0 5) with qch := { id := 3, ending := 0 } }
def s5_QuenchPassesThroughItsStates : State := st { ((dv.setReg .JRN_STATUS_QSTATE 0 5)) with qch := { id := 3, ending := 2 }, pin := { dv.pin with pwrfailN := false } }
def s6_QuenchPassesThroughItsStates : State := st { (dv.setReg .JRN_STATUS_QSTATE 0 6) with qch := { id := 3, ending := 2 } }
def s7_QuenchPassesThroughItsStates : State := st { (dv.setReg .JRN_STATUS_QSTATE 0 7) with qch := { id := 3 } }
def s8_QuenchPassesThroughItsStates : State := st (dv.setFlag .GLB_STATUS_MEM_ACTIVE 0 false)
theorem meets_QuenchPassesThroughItsStates :
    (∃ (s : State),
      s.dev.aon = true ∧ s.dev.reg .JRN_STATUS_QSTATE = 1 ∧ s.stamped.drained = true) ∧
    (∃ (s : State),
      s.dev.aon = true ∧ s.dev.reg .JRN_STATUS_QSTATE = 1 ∧ s.dev.qch.tq + 100000 ≤ s.tb) ∧
    (∃ (s : State),
      s.dev.aon = true ∧ s.dev.reg .JRN_STATUS_QSTATE = 2) ∧
    (∃ (s : State),
      s.dev.aon = true ∧ s.dev.reg .JRN_STATUS_QSTATE = 3) ∧
    (∃ (s : State),
      s.dev.aon = true ∧ s.dev.reg .JRN_STATUS_QSTATE = 4) ∧
    (∃ (s : State),
      s.dev.aon = true ∧ s.dev.reg .JRN_STATUS_QSTATE = 5 ∧ s.dev.qch.noGather = false ∧ s.dev.qch.ending = 0) ∧
    (∃ (s : State),
      s.dev.aon = true ∧ s.dev.reg .JRN_STATUS_QSTATE = 5 ∧ s.dev.qch.noGather = false ∧ s.dev.qch.ending = 2 ∧ s.dev.qch.sawReset = false ∧ s.dev.pin.pwrfailN = false ∧ s.dev.flag .PWR_SUPPLY_VIN_GOOD = true) ∧
    (∃ (s : State),
      s.dev.aon = true ∧ s.dev.reg .JRN_STATUS_QSTATE = 6 ∧ s.dev.railsUp = true ∧ 10000000 ≤ s.tb ∧ s.dev.qch.sawReset = false) ∧
    (∃ (s : State),
      s.dev.aon = true ∧ s.dev.reg .JRN_STATUS_QSTATE = 7) ∧
    (∃ (s : State),
      s.dev.aon = true ∧ s.dev.step = 9 ∧ s.dev.memActive = false ∧ s.dev.rst.held = false ∧ s.dev.cfg.isSome = true) :=
  ⟨⟨s0_QuenchPassesThroughItsStates, by decide +kernel⟩,
   ⟨s0_QuenchPassesThroughItsStates, by decide +kernel⟩,
   ⟨s1_QuenchPassesThroughItsStates, by decide +kernel⟩,
   ⟨s2_QuenchPassesThroughItsStates, by decide +kernel⟩,
   ⟨s3_QuenchPassesThroughItsStates, by decide +kernel⟩,
   ⟨s4_QuenchPassesThroughItsStates, by decide +kernel⟩,
   ⟨s5_QuenchPassesThroughItsStates, by decide +kernel⟩,
   ⟨s6_QuenchPassesThroughItsStates, by decide +kernel⟩,
   ⟨s7_QuenchPassesThroughItsStates, by decide +kernel⟩,
   ⟨s8_QuenchPassesThroughItsStates, by decide +kernel⟩⟩

def s0_PersistenceRoundsTakeEffect : State := st { dv with per := { dv.per with sheets := [(0, ⟨999999999600, false, false, [], []⟩)] } }
def s1_PersistenceRoundsTakeEffect : State := st { dv with per := { dv.per with sheets := [(0, ⟨999999999600, true, false, [], [0, 16]⟩)], nextSheet := 1 } }
def s2_PersistenceRoundsTakeEffect : State := st { dv with per := { dv.per with sheets := [(0, ⟨999999999600, true, false, [(15, 0)], [0, 16]⟩)], nextSheet := 1 }, slices := [(15, { tt := [(0, { req := rq .write rVol 64, state := .done, seq := 0, acked := true, through := true })] })], heads := [(0, { head0 with live := [(1, rq .write rVol 64)] })] }
theorem meets_PersistenceRoundsTakeEffect :
    (∃ (s : State) (c : Cfg),
      s.Running ∧ s.dev.cfg = some c) ∧
    (∃ (s : State),
      s.Running ∧ s.dev.canGather = true ∧ s.dev.jrn.flushedAt + s.dev.reg .JRN_CTL_FLUSH_US * 1000 ≤ s.tb) ∧
    (∃ (s : State),
      s.dev.aon = true ∧ s.ceiling ≤ s.tb + 5000000000) ∧
    (∃ (s : State) (x : ThruSheet),
      s.dev.aon = true ∧ s.dev.per.sheets.find s.dev.per.nextSheet = some x ∧ x.cut = false ∧ x.firstAt + 400 ≤ s.tb) ∧
    (∃ (s : State) (n : Nat) (corr : Nat) (x : ThruSheet),
      s.dev.aon = true ∧ s.dev.per.sheets.find n = some x ∧ x.cut = true ∧ x.programmed = false ∧ x.dies ≠ [] ∧ (∀ p ∈ s.dev.med.progs, p.use ≠ .thru n) ∧ (∀ c ∈ s.dev.med.cmds, c.2.use = .thru n → c.2.die ∉ x.dies) ∧ 8 < corr) ∧
    (∃ (s : State) (n : Nat) (corr : Nat) (x : ThruSheet),
      s.dev.aon = true ∧ s.dev.per.sheets.find n = some x ∧ x.cut = true ∧ x.programmed = false ∧ x.dies ≠ [] ∧ (∀ p ∈ s.dev.med.progs, p.use ≠ .thru n) ∧ (∀ c ∈ s.dev.med.cmds, c.2.use = .thru n → c.2.die ∉ x.dies) ∧ corr ≤ 8 ∧ x.waiters = []) ∧
    (∃ (s : State) (n : Nat) (corr : Nat) (x : ThruSheet) (k : Nat) (e : Nat) (t : TtEntry),
      s.dev.aon = true ∧ s.dev.per.sheets.find n = some x ∧ x.cut = true ∧ x.programmed = false ∧ x.dies ≠ [] ∧ (∀ p ∈ s.dev.med.progs, p.use ≠ .thru n) ∧ (∀ c ∈ s.dev.med.cmds, c.2.use = .thru n → c.2.die ∉ x.dies) ∧ corr ≤ 8 ∧ s.dev.per.sheets = [(n, x)] ∧ x.waiters = [(k, e)] ∧ s.dev.entry k e = some t ∧ t.acked = true ∧ t.sent = false ∧ t.req.kind.isRead = false ∧ (t.req.kind.merges = true → t.applied = true) ∧ ((s.dev.head t.req.head).live.find t.req.rid).isSome = true) :=
  ⟨⟨st dv, cfg0, by unfold State.Running; decide +kernel⟩,
   ⟨st dv, by unfold State.Running; decide +kernel⟩,
   ⟨{ st dv with ceiling := 1005000000000 }, by decide +kernel⟩,
   ⟨s0_PersistenceRoundsTakeEffect, ⟨999999999600, false, false, [], []⟩, by decide +kernel⟩,
   ⟨s1_PersistenceRoundsTakeEffect, 0, 9, ⟨999999999600, true, false, [], [0, 16]⟩, by decide +kernel⟩,
   ⟨s1_PersistenceRoundsTakeEffect, 0, 8, ⟨999999999600, true, false, [], [0, 16]⟩, by decide +kernel⟩,
   ⟨s2_PersistenceRoundsTakeEffect, 0, 8, ⟨999999999600, true, false, [(15, 0)], [0, 16]⟩, 15, 0, { req := rq .write rVol 64, state := .done, seq := 0, acked := true, through := true }, by decide +kernel⟩⟩

def s0_EventAndCounterCommandsTakeEffect : State := st { dv with evt := { mctpQ := [{ source := 24, sev := 1, stamp := 5, count := 1 }] } }
def s1_EventAndCounterCommandsTakeEffect : State := st (dv.setReg .PMC_GRPg_CTL_INTERVAL_US 31 1000000)
def s2_EventAndCounterCommandsTakeEffect : State := st { dv with pmc := { pend := [⟨31, 999999996000, List.replicate 16 7⟩] } }
theorem meets_EventAndCounterCommandsTakeEffect :
    (∃ (s : State) (r : EvRec) (rest : List EvRec),
      s.dev.aon = true ∧ s.dev.evt.mctpQ = r :: rest) ∧
    (∃ (s : State) (g : Nat) (n : Nat),
      s.dev.aon = true ∧ g < 32 ∧ s.dev.reg .PMC_GRPg_CTL_INTERVAL_US g ≠ 0 ∧ s.tb % (s.dev.reg .PMC_GRPg_CTL_INTERVAL_US g * 1000) = 0 ∧ s.dev.pmc.lastBoundary.find g ≠ some s.tb ∧ n ∈ groupCounters g) ∧
    (∃ (s : State) (g : Nat) (p : PmcPend) (c : Nat),
      s.dev.aon = true ∧ s.dev.pmc.pend.find? (fun q => q.group = g) = some p ∧ p.boundary + 4000 ≤ s.tb ∧ c < 16) ∧
    (∃ (s : State) (p : FilteredPin),
      s.dev.aon = true ∧ (p = .perst1N → s.dev.pin.headMode = true)) ∧
    (∃ (s : State),
      s.dev.aon = true ∧ s.dev.pin.headMode = false) :=
  ⟨⟨s0_EventAndCounterCommandsTakeEffect, { source := 24, sev := 1, stamp := 5, count := 1 }, [], by decide +kernel⟩,
   ⟨s1_EventAndCounterCommandsTakeEffect, 31, 496, by decide +kernel⟩,
   ⟨s2_EventAndCounterCommandsTakeEffect, 31, ⟨31, 999999996000, List.replicate 16 7⟩, 15, by decide +kernel⟩,
   ⟨st dv, .throtN, by decide +kernel⟩,
   ⟨st dv, by decide +kernel⟩⟩

def s0_UnitFaultsTakeEffect : State := st (put dv (sliceIx 15) .resetting)
theorem meets_UnitFaultsTakeEffect :
    (∃ (s : State) (k : Nat),
      s.dev.aon = true ∧ k < 16 ∧ s.dev.serves (sliceIx k) = true ∧ s.dev.serves (sliceIx (k ^^^ 1)) = true ∧ s.dev.qen.recovering = none) ∧
    (∃ (s : State) (k : Nat),
      s.dev.aon = true ∧ k < 16 ∧ s.dev.serves (sliceIx k) = true ∧ s.dev.ustate (sliceIx (k ^^^ 1)) = .resetting ∧ (s.dev.unit (sliceIx (k ^^^ 1))).testing = false ∧ s.dev.qen.recovering = none) ∧
    (∃ (s : State) (n : Nat),
      s.dev.aon = true ∧ n < 8 ∧ s.dev.serves (complexIx n) = true) ∧
    (∃ (s : State) (h : Nat),
      s.dev.aon = true ∧ h < s.dev.headCount ∧ s.dev.serves (headIx h) = true) ∧
    (∃ (s : State) (k : Nat),
      s.dev.aon = true ∧ k < 4 ∧ s.dev.serves (stackIx k) = true) ∧
    (∃ (s : State) (p : Nat),
      s.dev.aon = true ∧ p < 64 ∧ s.dev.serves (packageIx p) = true) ∧
    (∃ (s : State) (g : Nat),
      s.dev.aon = true ∧ s.dev.qen.recovering = none ∧ (∀ k < 16, (s.dev.unit (sliceIx k)).recovery = false) ∧ g < 256 ∧ s.dev.serves (groupIx g) = true) :=
  ⟨⟨st dv, 15, by decide +kernel⟩,
   ⟨s0_UnitFaultsTakeEffect, 14, by decide +kernel⟩,
   ⟨st dv, 7, by decide +kernel⟩,
   ⟨st dv, 0, by decide +kernel⟩,
   ⟨st dv, 3, by decide +kernel⟩,
   ⟨st dv, 15, by decide +kernel⟩,
   ⟨st dv, 1, by decide +kernel⟩⟩

def s0_RecoveryEndsInTimeOrFails : State := st (dv.setUnitRec 17 { dv.unit 17 with state := .resetting, recovery := true, since := 999999990000 })
def s1_RecoveryEndsInTimeOrFails : State := st (dv.setUnitRec 0 { dv.unit 0 with state := .resetting, recovery := true, since := 999999990000 })
def s2_RecoveryEndsInTimeOrFails : State := st (dv.setUnitRec 2 { dv.unit 2 with state := .resetting, recovery := true, since := 999999960000 })
def s3_RecoveryEndsInTimeOrFails : State := st { dv with qen := { recovering := some 999999960000 } }
theorem meets_RecoveryEndsInTimeOrFails :
    (∃ (s : State) (u : Nat),
      s.dev.aon = true ∧ unitClass u ∈ [1, 2] ∧ s.dev.ustate u = .resetting ∧ (s.dev.unit u).testing = false ∧ (s.dev.unit u).resetPhase = 0) ∧
    (∃ (s : State) (u : Nat),
      s.dev.aon = true ∧ u < 2 ∧ s.dev.ustate u = .resetting ∧ (s.dev.unit u).testing = false ∧ (s.dev.unit u).resetPhase = 0) ∧
    (∃ (s : State) (u : Nat),
      s.dev.aon = true ∧ u < 222 ∧ unitClass u ≠ 3 ∧ s.dev.ustate u = .resetting ∧ (s.dev.unit u).recovery = true ∧ (s.dev.unit u).since + 40000 ≤ s.tb) ∧
    (∃ (s : State) (t : Nat) (g : Nat),
      s.dev.aon = true ∧ s.dev.qen.recovering = some t ∧ t + 40000 ≤ s.tb ∧ g < 256 ∧ s.dev.serves (groupIx g) = true) :=
  ⟨⟨s0_RecoveryEndsInTimeOrFails, 17, by decide +kernel⟩,
   ⟨s1_RecoveryEndsInTimeOrFails, 0, by decide +kernel⟩,
   ⟨s2_RecoveryEndsInTimeOrFails, 2, by decide +kernel⟩,
   ⟨s3_RecoveryEndsInTimeOrFails, 999999960000, 1, by decide +kernel⟩⟩

def s0_UnitDrainsAndResetsFollowTheirTimers : State := st (dv.setUnitRec 17 { dv.unit 17 with state := .draining, target := some .off, since := 0 })
def s1_UnitDrainsAndResetsFollowTheirTimers : State := st (dv.setUnitRec 17 { dv.unit 17 with state := .draining, target := some .retired, since := 0 })
def s2_UnitDrainsAndResetsFollowTheirTimers : State := st (dv.setUnitRec 17 { dv.unit 17 with state := .resetting, resetPhase := 1, phaseAt := 0 })
def s3_UnitDrainsAndResetsFollowTheirTimers : State := st (dv.setUnitRec 17 { dv.unit 17 with state := .resetting, resetPhase := 2, phaseAt := 0 })
def s4_UnitDrainsAndResetsFollowTheirTimers : State := st (dv.setUnitRec 169 { dv.unit 169 with state := .starting })
def s5_UnitDrainsAndResetsFollowTheirTimers : State := st (dv.setUnitRec 221 { dv.unit 221 with state := .starting, bound := some 1000000000000 })
def s6_UnitDrainsAndResetsFollowTheirTimers : State := st (dv.setUnitRec 221 { dv.unit 221 with state := .resetting, testing := true })
def s7_UnitDrainsAndResetsFollowTheirTimers : State := st (dv.setUnitRec 2 { dv.unit 2 with state := .resetting, testing := true })
def s8_UnitDrainsAndResetsFollowTheirTimers : State := st { dv with ust := { dv.ust with snaps := [(2, ⟨1, 5, 0, 0, [], 940000000000⟩)] } }
theorem meets_UnitDrainsAndResetsFollowTheirTimers :
    (∃ (s : State) (u : Nat) (t : UState),
      s.dev.aon = true ∧ s.dev.ustate u = .draining ∧ (s.dev.unit u).target = some t ∧ t ∈ [.quiesced, .off, .retired] ∧ s.stamped.holdsNothing u = true) ∧
    (∃ (s : State) (u : Nat) (t : UState),
      s.dev.aon = true ∧ s.dev.ustate u = .draining ∧ (s.dev.unit u).target = some t ∧ t ∈ [.quiesced, .off, .retired] ∧ unitClass u ∈ [1, 2, 3] ∧ (s.dev.unit u).since + s.dev.handshakeNs u ≤ s.tb) ∧
    (∃ (s : State) (u : Nat),
      s.dev.aon = true ∧ s.dev.ustate u = .resetting ∧ (s.dev.unit u).resetPhase = 1 ∧ (s.dev.unit u).phaseAt + s.dev.handshakeNs u ≤ s.tb) ∧
    (∃ (s : State) (u : Nat),
      s.dev.aon = true ∧ s.dev.ustate u = .resetting ∧ (s.dev.unit u).resetPhase = 2 ∧ (s.dev.unit u).phaseAt + holdNs u ≤ s.tb) ∧
    (∃ (s : State) (u : Nat),
      s.dev.aon = true ∧ s.dev.ustate u = .starting ∧ (unitClass u ∈ [1, 2, 5] ∨ unitClass u = 4 ∧ (s.dev.pkgLinks (u - 154)).any (fun x => s.dev.serves (linkIx x.2)) = true)) ∧
    (∃ (s : State) (u : Nat) (t : Nat),
      s.dev.aon = true ∧ s.dev.ustate u = .starting ∧ (s.dev.unit u).bound = some t ∧ t ≤ s.tb) ∧
    (∃ (s : State) (u : Nat) (pass : Bool),
      s.dev.aon = true ∧ s.dev.ustate u = .resetting ∧ (s.dev.unit u).testing = true ∧ unitClass u ∈ [1, 2, 3, 5] ∧ pass = true) ∧
    (∃ (s : State) (u : Nat) (pass : Bool),
      s.dev.aon = true ∧ s.dev.ustate u = .resetting ∧ (s.dev.unit u).testing = true ∧ unitClass u ∈ [1, 2, 3, 5] ∧ pass = false) ∧
    (∃ (s : State) (i : Nat) (x : Snapshot),
      s.dev.aon = true ∧ s.dev.ust.snaps.find i = some x ∧ x.lastRead + 60000000000 ≤ s.tb) :=
  ⟨⟨s0_UnitDrainsAndResetsFollowTheirTimers, 17, .off, by decide +kernel⟩,
   ⟨s1_UnitDrainsAndResetsFollowTheirTimers, 17, .retired, by decide +kernel⟩,
   ⟨s2_UnitDrainsAndResetsFollowTheirTimers, 17, by decide +kernel⟩,
   ⟨s3_UnitDrainsAndResetsFollowTheirTimers, 17, by decide +kernel⟩,
   ⟨s4_UnitDrainsAndResetsFollowTheirTimers, 169, by decide +kernel⟩,
   ⟨s5_UnitDrainsAndResetsFollowTheirTimers, 221, 1000000000000, by decide +kernel⟩,
   ⟨s6_UnitDrainsAndResetsFollowTheirTimers, 221, true, by decide +kernel⟩,
   ⟨s7_UnitDrainsAndResetsFollowTheirTimers, 2, false, by decide +kernel⟩,
   ⟨s8_UnitDrainsAndResetsFollowTheirTimers, 2, ⟨1, 5, 0, 0, [], 940000000000⟩, by decide +kernel⟩⟩

def s0_UnitSetStateMovesTheUnit : State := st (put dv 17 .quiesced)
def s1_UnitSetStateMovesTheUnit : State := st (put dv 17 .off)
def s2_UnitSetStateMovesTheUnit : State := st (put dv 222 .off)
def s3_UnitSetStateMovesTheUnit : State := st (put dv 17 .failed)
theorem meets_UnitSetStateMovesTheUnit :
    (∃ (s : State) (c : CmdHdr) (uid : Nat) (gen : Nat) (ix : Nat),
      s.Admits c 8 .own ∧ s.stamped.UnitAllows .online uid gen ix ∧ s.dev.ustate ix ≠ .off) ∧
    (∃ (s : State) (c : CmdHdr) (uid : Nat) (gen : Nat) (ix : Nat),
      s.Admits c 8 .own ∧ s.stamped.UnitAllows .online uid gen ix ∧ s.dev.ustate ix = .off ∧ unitClass ix ∈ [1, 2]) ∧
    (∃ (s : State) (c : CmdHdr) (uid : Nat) (gen : Nat) (ix : Nat),
      s.Admits c 8 .own ∧ s.stamped.UnitAllows .online uid gen ix ∧ unitClass ix ∈ [6, 7]) ∧
    (∃ (s : State) (c : CmdHdr) (uid : Nat) (gen : Nat) (ix : Nat),
      s.Admits c 8 .own ∧ s.stamped.UnitAllows .draining uid gen ix) ∧
    (∃ (s : State) (c : CmdHdr) (uid : Nat) (gen : Nat) (ix : Nat),
      s.Admits c 8 .own ∧ s.stamped.UnitAllows .quiesced uid gen ix) ∧
    (∃ (s : State) (c : CmdHdr) (uid : Nat) (gen : Nat) (ix : Nat),
      s.Admits c 8 .own ∧ s.stamped.UnitAllows .off uid gen ix ∧ unitClass ix ∈ [6, 7]) ∧
    (∃ (s : State) (c : CmdHdr) (uid : Nat) (gen : Nat) (ix : Nat),
      s.Admits c 8 .own ∧ s.stamped.UnitAllows .off uid gen ix ∧ unitClass ix ∈ [1, 3]) ∧
    (∃ (s : State) (c : CmdHdr) (uid : Nat) (gen : Nat) (ix : Nat),
      s.Admits c 8 .own ∧ s.stamped.UnitAllows .reset uid gen ix) ∧
    (∃ (s : State) (c : CmdHdr) (uid : Nat) (gen : Nat) (ix : Nat),
      s.Admits c 8 .own ∧ s.stamped.UnitAllows .repair uid gen ix) ∧
    (∃ (s : State) (c : CmdHdr) (uid : Nat) (gen : Nat) (ix : Nat),
      s.Admits c 8 .own ∧ s.stamped.UnitAllows .retire uid gen ix ∧ (¬ (unitClass ix = 5 ∧ s.dev.serves ix = true))) ∧
    (∃ (s : State) (c : CmdHdr) (uid : Nat) (gen : Nat) (ix : Nat),
      s.Admits c 8 .own ∧ s.stamped.UnitAllows .retire uid gen ix ∧ (unitClass ix = 5 ∧ s.dev.serves ix = true)) :=
  ⟨⟨s0_UnitSetStateMovesTheUnit, hdr, (unitIdOf 17), 0, 17, by unfold State.Admits Dev.UnitAllows; decide +kernel⟩,
   ⟨s1_UnitSetStateMovesTheUnit, hdr, (unitIdOf 17), 0, 17, by unfold State.Admits Dev.UnitAllows; decide +kernel⟩,
   ⟨s2_UnitSetStateMovesTheUnit, hdr, (unitIdOf 222), 0, 222, by unfold State.Admits Dev.UnitAllows; decide +kernel⟩,
   ⟨st dv, hdr, (unitIdOf 222), 0, 222, by unfold State.Admits Dev.UnitAllows; decide +kernel⟩,
   ⟨st dv, hdr, (unitIdOf 25), 0, 25, by unfold State.Admits Dev.UnitAllows; decide +kernel⟩,
   ⟨st dv, hdr, (unitIdOf 287), 0, 287, by unfold State.Admits Dev.UnitAllows; decide +kernel⟩,
   ⟨st dv, hdr, (unitIdOf 17), 0, 17, by unfold State.Admits Dev.UnitAllows; decide +kernel⟩,
   ⟨st dv, hdr, (unitIdOf 17), 0, 17, by unfold State.Admits Dev.UnitAllows; decide +kernel⟩,
   ⟨s3_UnitSetStateMovesTheUnit, hdr, (unitIdOf 17), 0, 17, by unfold State.Admits Dev.UnitAllows; decide +kernel⟩,
   ⟨s3_UnitSetStateMovesTheUnit, hdr, (unitIdOf 17), 0, 17, by unfold State.Admits Dev.UnitAllows; decide +kernel⟩,
   ⟨st dv, hdr, (unitIdOf 221), 0, 221, by unfold State.Admits Dev.UnitAllows; decide +kernel⟩⟩

def s0_UnitSetStateRefusalsChangeNoUnit : State := st (dv.setReg .JRN_STATUS_QSTATE 0 1)
def s1_UnitSetStateRefusalsChangeNoUnit : State := st (put dv 17 .resetting)
def s2_UnitSetStateRefusalsChangeNoUnit : State := st (put dv 17 .online)
theorem meets_UnitSetStateRefusalsChangeNoUnit :
    (∃ (s : State) (c : CmdHdr),
      s.Admits c 8 .own ∧ s.dev.reg .JRN_STATUS_QSTATE ≠ 0) ∧
    (∃ (s : State) (c : CmdHdr) (uid : Nat),
      s.Admits c 8 .own ∧ s.dev.reg .JRN_STATUS_QSTATE = 0 ∧ indexOfId uid = none) ∧
    (∃ (op : UnitOp) (s : State) (c : CmdHdr) (uid : Nat) (ix : Nat),
      s.Admits c 8 .own ∧ s.dev.reg .JRN_STATUS_QSTATE = 0 ∧ indexOfId uid = some ix ∧ (allowedOps (unitClass ix)).contains op = false) ∧
    (∃ (op : UnitOp) (s : State) (c : CmdHdr) (uid : Nat) (gen : Nat) (ix : Nat),
      s.Admits c 8 .own ∧ s.dev.reg .JRN_STATUS_QSTATE = 0 ∧ indexOfId uid = some ix ∧ (allowedOps (unitClass ix)).contains op = true ∧ gen ≠ (s.dev.unit ix).gen) ∧
    (∃ (op : UnitOp) (s : State) (c : CmdHdr) (uid : Nat) (gen : Nat) (ix : Nat),
      s.Admits c 8 .own ∧ s.dev.reg .JRN_STATUS_QSTATE = 0 ∧ indexOfId uid = some ix ∧ (allowedOps (unitClass ix)).contains op = true ∧ gen = (s.dev.unit ix).gen ∧ (s.dev.unit ix).running = true) ∧
    (∃ (op : UnitOp) (s : State) (c : CmdHdr) (uid : Nat) (gen : Nat) (ix : Nat),
      s.Admits c 8 .own ∧ s.dev.reg .JRN_STATUS_QSTATE = 0 ∧ indexOfId uid = some ix ∧ (allowedOps (unitClass ix)).contains op = true ∧ gen = (s.dev.unit ix).gen ∧ (s.dev.unit ix).running = false ∧ s.dev.ustate ix ∉ rowsFrom (unitClass ix) op) :=
  ⟨⟨s0_UnitSetStateRefusalsChangeNoUnit, hdr, by unfold State.Admits; decide +kernel⟩,
   ⟨st dv, hdr, 0x8000, by unfold State.Admits; decide +kernel⟩,
   ⟨.reset, st dv, hdr, (unitIdOf 222), 222, by unfold State.Admits; decide +kernel⟩,
   ⟨.online, st dv, hdr, (unitIdOf 17), 1, 17, by unfold State.Admits; decide +kernel⟩,
   ⟨.online, s1_UnitSetStateRefusalsChangeNoUnit, hdr, (unitIdOf 17), 0, 17, by unfold State.Admits; decide +kernel⟩,
   ⟨.online, s2_UnitSetStateRefusalsChangeNoUnit, hdr, (unitIdOf 17), 0, 17, by unfold State.Admits; decide +kernel⟩⟩

theorem meets_EveryManagementCommandIsAnswered :
    (∃ (i : Instr) (s : State) (c : CmdHdr) (op : Nat) (need : Nat) (k : CmdKind),
      managementCmd i = some (c, op, need, k) ∧ s.dev.aon = true ∧ s.stamped.ifaceUp c = true) ∧
    (∃ (i : Instr) (s : State) (c : CmdHdr) (op : Nat) (need : Nat) (k : CmdKind),
      managementCmd i = some (c, op, need, k) ∧ s.dev.aon = true ∧ s.stamped.ifaceUp c = true) ∧
    (∃ (i : Instr) (s : State) (c : CmdHdr) (op : Nat) (need : Nat) (k : CmdKind),
      managementCmd i = some (c, op, need, k) ∧ s.dev.aon = true ∧ s.stamped.ifaceUp c = false) ∧
    (∃ (i : Instr) (s : State) (c : CmdHdr) (op : Nat) (need : Nat) (rc : Nat) (k : CmdKind),
      managementCmd i = some (c, op, need, k) ∧ (s.dev.step = 15 → i ≠ .resetSystem c) ∧ s.dev.aon = true ∧ s.stamped.ifaceUp c = true ∧ s.stamped.gate c need k = some rc ∧ rc ∉ [0, 1]) :=
  ⟨⟨.identify hdr, st dv, hdr, 1, 0, .read, by rfl, by decide +kernel⟩,
   ⟨.identify hdr, st dv, hdr, 1, 0, .read, by rfl, by decide +kernel⟩,
   ⟨.identify ⟨1, false, 9000⟩, st dv, ⟨1, false, 9000⟩, 1, 0, .read, by rfl, by decide +kernel⟩,
   ⟨.setTimestamp ⟨2, false, 7⟩ 5, st dv, ⟨2, false, 7⟩, 0x0301, 8, 0x16, .change, by rfl, by intro _; exact Instr.noConfusion, by decide +kernel⟩⟩

def s0_InformationCommandsReport : State := st { dv with mgt := { bg := [(2, ⟨0x0202, 100, 0, false⟩)] } }
def s1_InformationCommandsReport : State := st { dv with mgt := { bg := [(2, ⟨0x4400, 40, 0, true⟩)] } }
def s2_InformationCommandsReport : State := st { dv with mgt := { lsa := zeros 64 } }
def s3_InformationCommandsReport : State := st { dv with pin := { dv.pin with headMode := true } }
theorem meets_InformationCommandsReport :
    (∃ (s : State) (c : CmdHdr),
      s.Admits c 0 .read ∧ s.dev.mgt.bg.find c.iface = none) ∧
    (∃ (s : State) (c : CmdHdr) (b : BgCmd),
      s.Admits c 0 .read ∧ s.dev.mgt.bg.find c.iface = some b ∧ b.running = false) ∧
    (∃ (s : State) (c : CmdHdr) (b : BgCmd),
      s.Admits c 0 .read ∧ s.dev.mgt.bg.find c.iface = some b ∧ b.running = true) ∧
    (∃ (s : State) (c : CmdHdr) (off : Nat) (n : Nat),
      s.Admits c 24 .read ∧ off + n ≤ effectsLog.length) ∧
    (∃ (s : State) (c : CmdHdr) (off : Nat) (n : Nat),
      s.Admits c 8 .read ∧ off + n ≤ s.dev.mgt.lsa.length ∧ n ≤ 8192) ∧
    (∃ (s : State) (c : CmdHdr),
      s.Admits c 2 .read ∧ c.iface = 2 ∧ s.dev.pin.headMode = true) :=
  ⟨⟨st dv, hdr, by unfold State.Admits; decide +kernel⟩,
   ⟨s0_InformationCommandsReport, hdr, ⟨0x0202, 100, 0, false⟩, by unfold State.Admits; decide +kernel⟩,
   ⟨s1_InformationCommandsReport, hdr, ⟨0x4400, 40, 0, true⟩, by unfold State.Admits; decide +kernel⟩,
   ⟨st dv, hdr, 0, 4, by unfold State.Admits; decide +kernel⟩,
   ⟨s2_InformationCommandsReport, hdr, 60, 4, by unfold State.Admits; decide +kernel⟩,
   ⟨s3_InformationCommandsReport, hdr, by unfold State.Admits; decide +kernel⟩⟩

def s0_SettingCommandsStore : State := st { dv with mgt := { lsa := zeros 64 } }
def s1_SettingCommandsStore : State := st { dv with evt := { policy := [(2, [1, 2, 3, 0])] } }
theorem meets_SettingCommandsStore :
    (∃ (s : State) (c : CmdHdr),
      s.Admits c 8 .change) ∧
    (∃ (s : State) (c : CmdHdr) (off : Nat) (data : List Byte) (i : Nat),
      s.Admits c (8 + data.length) .change ∧ off + data.length ≤ s.dev.mgt.lsa.length ∧ (i < off ∨ off + data.length ≤ i)) ∧
    (∃ (s : State) (c : CmdHdr),
      s.Admits c 1 .change) ∧
    (∃ (s : State) (c : CmdHdr) (p : List Byte) (i : Nat),
      s.Admits c 4 .change ∧ p.length = 4 ∧ i ≠ c.iface) ∧
    (∃ (s : State) (c : CmdHdr) (p : List Byte),
      s.Admits c 0 .read ∧ p.length = 4 ∧ s.dev.evt.policy.find c.iface = some p) ∧
    (∃ (s : State) (c : CmdHdr) (valid : Nat),
      s.Admits c 12 .change ∧ valid.testBit 0 = true) ∧
    (∃ (s : State) (c : CmdHdr) (valid : Nat),
      s.Admits c 12 .change ∧ valid.testBit 1 = true) ∧
    (∃ (s : State) (c : CmdHdr) (valid : Nat),
      s.Admits c 12 .change ∧ valid.testBit 2 = true) ∧
    (∃ (s : State) (c : CmdHdr) (valid : Nat),
      s.Admits c 12 .change ∧ valid.testBit 3 = true) ∧
    (∃ (s : State) (c : CmdHdr) (valid : Nat),
      s.Admits c 12 .change ∧ valid.testBit 4 = true) ∧
    (∃ (s : State) (c : CmdHdr) (valid : Nat) (i : Nat),
      s.Admits c 12 .change ∧ i < 5 ∧ valid.testBit i = false) ∧
    (∃ (s : State) (c : CmdHdr) (valid : Nat) (i : Nat),
      s.Admits c 12 .change ∧ i < 5 ∧ valid.testBit i = true) :=
  ⟨⟨st dv, hdr, by unfold State.Admits; decide +kernel⟩,
   ⟨s0_SettingCommandsStore, hdr, 60, [1, 2, 3, 4], 59, by unfold State.Admits; decide +kernel⟩,
   ⟨st dv, hdr, by unfold State.Admits; decide +kernel⟩,
   ⟨st dv, hdr, [1, 2, 3, 0], 0, by unfold State.Admits; decide +kernel⟩,
   ⟨s1_SettingCommandsStore, hdr, [1, 2, 3, 0], by unfold State.Admits; decide +kernel⟩,
   ⟨st dv, hdr, 1, by unfold State.Admits; decide +kernel⟩,
   ⟨st dv, hdr, 2, by unfold State.Admits; decide +kernel⟩,
   ⟨st dv, hdr, 4, by unfold State.Admits; decide +kernel⟩,
   ⟨st dv, hdr, 8, by unfold State.Admits; decide +kernel⟩,
   ⟨st dv, hdr, 16, by unfold State.Admits; decide +kernel⟩,
   ⟨st dv, hdr, 15, 4, by unfold State.Admits; decide +kernel⟩,
   ⟨st dv, hdr, 16, 4, by unfold State.Admits; decide +kernel⟩⟩

def s0_EventLogCommandsReadAndClear : State := st { dv with evt := { logs := [(11, { recs := [⟨1, 3, 0, { source := 24, sev := 1, stamp := 5, count := 1 }⟩], nextHandle := 2, ovfCount := 0 })] } }
def s1_EventLogCommandsReadAndClear : State := st { dv with evt := { logs := [(11, { recs := [⟨1, 3, 0, { source := 24, sev := 1, stamp := 5, count := 1 }⟩], nextHandle := 2, ovfCount := 5 })] } }
theorem meets_EventLogCommandsReadAndClear :
    (∃ (s : State) (c : CmdHdr) (n : Nat),
      s.Admits c 1 .read ∧ n < 4) ∧
    (∃ (s : State) (c : CmdHdr) (n : Nat) (hs : List Nat),
      s.Admits c (6 + 2 * hs.length) .change ∧ n < 4 ∧ hs ≠ [] ∧ ((s.dev.log c.iface n).recs.take hs.length).map (·.handle % 65536) = hs) ∧
    (∃ (s : State) (c : CmdHdr) (n : Nat) (hs : List Nat),
      s.Admits c (6 + 2 * hs.length) .change ∧ n < 4 ∧ hs ≠ [] ∧ ((s.dev.log c.iface n).recs.take hs.length).map (·.handle % 65536) ≠ hs) ∧
    (∃ (s : State) (c : CmdHdr) (n : Nat) (hs : List Nat) (i : Nat) (m : Nat),
      s.Admits c (6 + 2 * hs.length) .change ∧ n < 4 ∧ hs ≠ [] ∧ 4 * i + m ≠ 4 * c.iface + n) ∧
    (∃ (s : State) (c : CmdHdr) (n : Nat),
      s.Admits c 6 .change ∧ n < 4 ∧ (s.dev.log c.iface n).ovfCount ≠ 0) :=
  ⟨⟨st dv, hdr, 3, by unfold State.Admits; decide +kernel⟩,
   ⟨s0_EventLogCommandsReadAndClear, hdr, 3, [1], by unfold State.Admits; decide +kernel⟩,
   ⟨s0_EventLogCommandsReadAndClear, hdr, 3, [2], by unfold State.Admits; decide +kernel⟩,
   ⟨s0_EventLogCommandsReadAndClear, hdr, 3, [1], 0, 0, by unfold State.Admits; decide +kernel⟩,
   ⟨s1_EventLogCommandsReadAndClear, hdr, 3, by unfold State.Admits; decide +kernel⟩⟩

def s0_FirmwareTransferCommandsTakeEffect : State := st { dv with mgt := { xfer := some ⟨2, 1, zeros 128, 940000000000⟩ } }
theorem meets_FirmwareTransferCommandsTakeEffect :
    (∃ (s : State) (c : CmdHdr) (slot : Nat) (data : List Byte),
      s.Admits c (128 + data.length) .change ∧ s.dev.mgt.xfer = none ∧ s.dev.fwTarget slot = true) ∧
    (∃ (s : State) (c : CmdHdr) (x : FwXfer) (off : Nat) (data : List Byte),
      s.Admits c (128 + data.length) .change ∧ s.dev.mgt.xfer = some x ∧ x.iface = c.iface ∧ off * 128 = x.data.length) ∧
    (∃ (s : State) (c : CmdHdr) (x : FwXfer) (off : Nat) (data : List Byte),
      s.Admits c (128 + data.length) .change ∧ s.dev.mgt.xfer = some x ∧ x.iface = c.iface ∧ off * 128 ≠ x.data.length) ∧
    (∃ (s : State) (c : CmdHdr) (x : FwXfer) (n : Nat),
      s.Admits c 128 .change ∧ s.dev.mgt.xfer = some x ∧ x.iface = c.iface ∧ n ≠ x.slot) ∧
    (∃ (s : State) (x : FwXfer) (n : Nat),
      s.dev.aon = true ∧ s.dev.mgt.xfer = some x ∧ x.lastAt + 60000000000 ≤ s.tb ∧ n ≠ x.slot) ∧
    (∃ (s : State) (c : CmdHdr) (x : FwXfer) (slot : Nat) (off : Nat) (data : List Byte) (i : Instr),
      s.Admits c (128 + data.length) .change ∧ s.dev.mgt.xfer = some x ∧ x.iface ≠ c.iface ∧ i ∈ [Instr.transferFwFull c slot data, .transferFwInitiate c slot off data, .transferFwContinue c off data, .transferFwEnd c off data]) :=
  ⟨⟨st dv, hdr, 2, zeros 128, by unfold State.Admits; decide +kernel⟩,
   ⟨s0_FirmwareTransferCommandsTakeEffect, hdr, ⟨2, 1, zeros 128, 940000000000⟩, 1, zeros 128, by unfold State.Admits; decide +kernel⟩,
   ⟨s0_FirmwareTransferCommandsTakeEffect, hdr, ⟨2, 1, zeros 128, 940000000000⟩, 2, zeros 128, by unfold State.Admits; decide +kernel⟩,
   ⟨s0_FirmwareTransferCommandsTakeEffect, hdr, ⟨2, 1, zeros 128, 940000000000⟩, 0, by unfold State.Admits; decide +kernel⟩,
   ⟨s0_FirmwareTransferCommandsTakeEffect, ⟨2, 1, zeros 128, 940000000000⟩, 0, by decide +kernel⟩,
   ⟨s0_FirmwareTransferCommandsTakeEffect, ⟨0, false, 9000⟩, ⟨2, 1, zeros 128, 940000000000⟩, 2, 0, zeros 128, .transferFwFull ⟨0, false, 9000⟩ 2 (zeros 128), by unfold State.Admits; decide +kernel, by rfl, by decide, by simp⟩⟩

def s0_FirmwareActivationTakesEffect : State := st { dv with mgt := { fw := [(0, { valid := true, svn := 0, minFormat := 1, version := [], bytes := [] }), (1, { valid := true, svn := 0, minFormat := 1, version := [], bytes := [] })] } }
def s1_FirmwareActivationTakesEffect : State := st { dv with mgt := { fwLoading := some (1, 2) } }
def s2_FirmwareActivationTakesEffect : State := st { dv with mgt := { fwDown := true } }
def s3_FirmwareActivationTakesEffect : State := st { dv with mgt := { fwUnproved := true, fwStartedAt := 998000000000 } }
theorem meets_FirmwareActivationTakesEffect :
    (∃ (s : State) (c : CmdHdr) (slot : Nat),
      s.Admits c 2 .change ∧ s.dev.fwRefusal slot = none ∧ s.dev.bgRuns c.iface = false) ∧
    (∃ (s : State) (n : Nat) (i : Nat),
      s.dev.aon = true ∧ s.dev.mgt.fwLoading = some (n, i)) ∧
    (∃ (s : State),
      s.dev.aon = true ∧ s.dev.mgt.fwLoading = none ∧ s.dev.mgt.fwDown = true ∧ s.dev.rst.core = .none) ∧
    (∃ (s : State) (o : FwObj),
      s.dev.aon = true ∧ s.dev.fwReady = true ∧ s.dev.mgt.fwUnproved = true ∧ s.dev.mgt.fwStartedAt + 2000000000 ≤ s.tb ∧ s.dev.mgt.fw.find s.dev.mgt.fwActive = some o) ∧
    (∃ (s : State),
      s.dev.aon = true ∧ s.dev.fwReady = true ∧ s.dev.mgt.fwStartedAt + 3600000000000 ≤ s.tb) :=
  ⟨⟨s0_FirmwareActivationTakesEffect, hdr, 2, by unfold State.Admits; decide +kernel⟩,
   ⟨s1_FirmwareActivationTakesEffect, 1, 2, by decide +kernel⟩,
   ⟨s2_FirmwareActivationTakesEffect, by decide +kernel⟩,
   ⟨s3_FirmwareActivationTakesEffect, { valid := true, svn := 0, minFormat := 1, version := [], bytes := [] }, by decide +kernel⟩,
   ⟨{ st { dv with mgt := { fwStartedAt := 1 } } with tb := 3600000000001 }, by decide +kernel⟩⟩

def s0_EraseRemovesKeysAndData : State := st { (put dv 222 .off) with mgt := { sanitizing := none } }
def s1_EraseRemovesKeysAndData : State := st { (put dv 222 .off) with mgt := { sanitizing := some 2, bg := [(2, ⟨0x4400, 0, 0, true⟩)] } }
theorem meets_EraseRemovesKeysAndData :
    (∃ (s : State) (c : CmdHdr) (i : Instr) (p : Nat),
      s.Admits c 0 .change ∧ s.dev.eraseRefusal = none ∧ s.dev.cry.slots.wf = true ∧ s.dev.med.map.wf = true ∧ s.dev.bgRuns c.iface = false ∧ i ∈ [Instr.secureErase c, .sanitize c] ∧ isLpn p = true) ∧
    (∃ (s : State) (c : CmdHdr) (i : Instr),
      s.Admits c 0 .change ∧ s.dev.eraseRefusal = none ∧ s.dev.cry.slots.wf = true ∧ s.dev.med.map.wf = true ∧ s.dev.bgRuns c.iface = false ∧ i ∈ [Instr.secureErase c, .sanitize c] ∧ i = .secureErase c) ∧
    (∃ (s : State) (c : CmdHdr) (i : Instr),
      s.Admits c 0 .change ∧ s.dev.eraseRefusal = none ∧ s.dev.cry.slots.wf = true ∧ s.dev.med.map.wf = true ∧ s.dev.bgRuns c.iface = false ∧ i ∈ [Instr.secureErase c, .sanitize c] ∧ i = .sanitize c) ∧
    (∃ (s : State) (i : Nat) (b : BgCmd),
      s.dev.aon = true ∧ s.dev.mgt.sanitizing = some i ∧ s.dev.fwReady = true ∧ s.dev.mgt.bg.find i = some b ∧ b.opcode = 0x4400 ∧ b.running = true) :=
  ⟨⟨s0_EraseRemovesKeysAndData, hdr, .secureErase hdr, 0, by unfold State.Admits; decide +kernel, by decide +kernel, by decide +kernel, by decide +kernel, by decide +kernel, by simp, by decide⟩,
   ⟨s0_EraseRemovesKeysAndData, hdr, .secureErase hdr, by unfold State.Admits; decide +kernel, by decide +kernel, by decide +kernel, by decide +kernel, by decide +kernel, by simp, rfl⟩,
   ⟨s0_EraseRemovesKeysAndData, hdr, .sanitize hdr, by unfold State.Admits; decide +kernel, by decide +kernel, by decide +kernel, by decide +kernel, by decide +kernel, by simp, rfl⟩,
   ⟨s1_EraseRemovesKeysAndData, 2, ⟨0x4400, 0, 0, true⟩, by decide +kernel⟩⟩

def s0_ImageStagingTakesEffect : State := st { dv with boot := { stage := some ⟨2, 1, 128, 940000000000⟩ } }
def s1_ImageStagingTakesEffect : State := st { dv with boot := { validating := some (1, 2) } }
theorem meets_ImageStagingTakesEffect :
    (∃ (s : State) (c : CmdHdr) (data : List Byte),
      s.Admits c (8 + data.length) .change ∧ data ≠ [] ∧ data.length ≤ 4096 ∧ s.dev.boot.stage = none ∧ s.dev.boot.validating = none) ∧
    (∃ (s : State) (c : CmdHdr) (t : StageSession) (data : List Byte) (off : Nat),
      s.Admits c (8 + data.length) .change ∧ data ≠ [] ∧ data.length ≤ 4096 ∧ s.dev.boot.stage = some t ∧ s.dev.boot.validating = none ∧ t.iface = c.iface ∧ t.slot < 2 ∧ t.next + data.length ≤ 2 ^ 22 ∧ s.dev.bgRuns c.iface = false ∧ off ≠ t.next) ∧
    (∃ (s : State) (t : StageSession),
      s.dev.aon = true ∧ s.dev.boot.stage = some t ∧ t.lastAt + 60000000000 ≤ s.tb) ∧
    (∃ (s : State) (n : Nat) (i : Nat),
      s.dev.aon = true ∧ s.dev.boot.validating = some (n, i) ∧ s.dev.fwReady = true) :=
  ⟨⟨st dv, hdr, zeros 128, by unfold State.Admits; decide +kernel⟩,
   ⟨s0_ImageStagingTakesEffect, hdr, ⟨2, 1, 128, 940000000000⟩, zeros 128, 0, by unfold State.Admits; decide +kernel⟩,
   ⟨s0_ImageStagingTakesEffect, ⟨2, 1, 128, 940000000000⟩, by decide +kernel⟩,
   ⟨s1_ImageStagingTakesEffect, 1, 2, by decide +kernel⟩⟩

def s0_ImageActivationTakesEffect : State := st { dv with boot := { slotA := .active, slotB := .staged } }
def s1_ImageActivationTakesEffect : State := st { dv with boot := { rollTier := some cfg0.tier, rollQueue := [3, 4], rollAt := 999999000000 } }
def s2_ImageActivationTakesEffect : State := st { dv with boot := { rollTier := some cfg0.tier, rollQueue := [3], rollAt := 999999000000 } }
theorem meets_ImageActivationTakesEffect :
    (∃ (s : State) (c : CmdHdr) (slot : Nat) (dry : Bool),
      s.Admits c 8 .change ∧ s.dev.boot.stage = none ∧ s.dev.boot.validating = none ∧ slot < 2 ∧ s.dev.boot.slotState slot ∈ [.staged, .previous] ∧ dry = true) ∧
    (∃ (s : State) (c : CmdHdr) (slot : Nat) (dry : Bool) (commit : Bool),
      s.Admits c 8 .change ∧ s.dev.boot.stage = none ∧ s.dev.boot.validating = none ∧ slot < 2 ∧ s.dev.boot.slotState slot ∈ [.staged, .previous] ∧ dry = false ∧ commit = true) ∧
    (∃ (s : State) (c : CmdHdr) (seq : Nat),
      s.Admits c 8 .change ∧ seq ≠ s.dev.reg .IMG_SEQ_ACT_SEQ) ∧
    (∃ (s : State) (c : CmdHdr),
      s.Admits c 0 .read) ∧
    (∃ (s : State) (t : TierCfg) (k : Nat) (rest : List Nat),
      s.Running ∧ s.dev.boot.rollTier = some t ∧ s.dev.boot.rollQueue = k :: rest ∧ s.dev.boot.rollAt + 1000000 ≤ s.tb ∧ rest ≠ []) ∧
    (∃ (s : State) (t : TierCfg) (k : Nat) (rest : List Nat),
      s.Running ∧ s.dev.boot.rollTier = some t ∧ s.dev.boot.rollQueue = k :: rest ∧ s.dev.boot.rollAt + 1000000 ≤ s.tb ∧ rest = []) :=
  ⟨⟨s0_ImageActivationTakesEffect, hdr, 1, true, by unfold State.Admits; decide +kernel⟩,
   ⟨s0_ImageActivationTakesEffect, hdr, 1, false, true, by unfold State.Admits; decide +kernel⟩,
   ⟨st dv, hdr, 5, by unfold State.Admits; decide +kernel⟩,
   ⟨st dv, hdr, by unfold State.Admits; decide +kernel⟩,
   ⟨s1_ImageActivationTakesEffect, cfg0.tier, 3, [4], by unfold State.Running; decide +kernel⟩,
   ⟨s2_ImageActivationTakesEffect, cfg0.tier, 3, [], by unfold State.Running; decide +kernel⟩⟩

def s0_KeyCommandsTakeEffect : State := st { dv with cry := { owner := some [] } }
def s1_KeyCommandsTakeEffect : State := st { dv with cry := {}, mgt := { spdm := true } }
theorem meets_KeyCommandsTakeEffect :
    (∃ (s : State) (c : CmdHdr) (n : Nat) (o : List Byte) (m : Nat),
      s.Admits c 48 .change ∧ n < 4096 ∧ s.dev.keyGate c = none ∧ s.dev.cry.owner = some o ∧ (s.dev.slot n).st = .empty ∧ (s.dev.slotAlloc n).1 < 2 ∧ m ≠ n) ∧
    (∃ (s : State) (c : CmdHdr) (n : Nat),
      s.Admits c 40 .change ∧ n < 4096 ∧ s.dev.keyGate c = none ∧ c.secured = true ∧ (∀ e ∈ s.dev.cry.slots, e.2.st = .empty)) ∧
    (∃ (s : State) (c : CmdHdr) (n : Nat) (m : Nat),
      s.Admits c 4 .change ∧ n < 4096 ∧ s.dev.keyGate c = none ∧ (s.dev.slot n).st = .active ∧ m ≠ n) ∧
    (∃ (s : State),
      s.dev.aon = true ∧ s.dev.flag .CRY_STATUS_LOCKED = false) :=
  ⟨⟨s0_KeyCommandsTakeEffect, hdr, 3, [], 5, by unfold State.Admits; decide +kernel⟩,
   ⟨s1_KeyCommandsTakeEffect, hdrSec, 4095, by unfold State.Admits; decide +kernel⟩,
   ⟨st dv, hdr, 7, 0, by unfold State.Admits; decide +kernel⟩,
   ⟨st dv, by decide +kernel⟩⟩

def s0_SweepCommandsTakeEffect : State := st { dv with cry := { slots := [(5, { st := .sweepOld, key := 6 }), (20, { st := .sweepNew, key := 9 })], sweeps := [(0, ⟨1, 4, 5, 20, 0, 8192, 0, 0, none, 0, 0⟩)] }, tier := [] }
def s1_SweepCommandsTakeEffect : State := st { dv with cry := { slots := [(5, { st := .sweepOld, key := 6 }), (20, { st := .sweepNew, key := 9 })], sweeps := [(0, ⟨2, 4, 5, 20, 0, 8192, 0, 0, none, 0, 0⟩)] }, tier := [] }
def s2_SweepCommandsTakeEffect : State := st { dv with cry := { slots := [(5, { st := .sweepOld, key := 6 }), (20, { st := .sweepNew, key := 9 })], sweeps := [(0, ⟨1, 4, 5, 20, 0, 8192, 0, 0, none, 0, 0⟩)] }, tier := [(volBase + 8 * 2 ^ 40 + 1, { lines := [(0, ⟨1, 5, 6⟩)], copies := [0] })] }
def s3_SweepCommandsTakeEffect : State := st { dv with cry := { slots := [(5, { st := .sweepOld, key := 6 }), (20, { st := .sweepNew, key := 9 })], sweeps := [(0, ⟨1, 4, 5, 20, 0, 8192, 0, 0, some 999999999000, 0, 0⟩)] }, tier := [(volBase + 8 * 2 ^ 40, { lines := [(0, ⟨1, 5, 6⟩)], copies := [0] })] }
def s4_SweepCommandsTakeEffect : State := st { dv with cry := { slots := [(5, { st := .sweepOld, key := 6 }), (20, { st := .sweepNew, key := 9 })], sweeps := [(0, ⟨1, 4, 5, 20, 0, 4096, 0, 0, some 999999999000, 0, 0⟩)] }, tier := [(volBase + 8 * 2 ^ 40, { lines := [(0, ⟨1, 5, 6⟩)], copies := [0] })] }
def s5_SweepCommandsTakeEffect : State := st { dv with cry := { slots := [(5, { st := .sweepOld, key := 6 }), (20, { st := .sweepNew, key := 9 })], sweeps := [(0, ⟨1, 4, 5, 20, 0, 8192, 0, 0, some 999999998000, 0, 0⟩)] }, tier := [(volBase + 8 * 2 ^ 40, { lines := [(0, ⟨1, 5, 6⟩)], copies := [0] })] }
def s6_SweepCommandsTakeEffect : State := st { dv with cry := { slots := [(5, { st := .sweepOld, key := 6 }), (20, { st := .sweepNew, key := 9 })], sweeps := [(0, ⟨1, 4, 5, 20, 0, 8192, 0, 0, none, 0, 0⟩)] }, tier := [(volBase + 8 * 2 ^ 40, { lines := [(0, ⟨1, 5, 6⟩)], copies := [0] })] }
theorem meets_SweepCommandsTakeEffect :
    (∃ (s : State) (c : CmdHdr) (r : RegionRec) (k : Nat) (j : Nat) (base : Nat) (limit : Nat) (n : Nat),
      s.Admits c 72 .change ∧ s.dev.keyGate c = none ∧ (s.dev.slot k).st = .active ∧ s.dev.region r.number = some r ∧ r.rtype ≠ .queue ∧ freeKey s.dev.cry.sweeps 4 = some n ∧ r.keyBase ≤ k ∧ k < r.keyBase + 2 ^ r.aliasW ∧ (s.dev.slot j).st = .empty ∧ (s.dev.slotAlloc j).1 = 2 ∧ base % 4096 = 0 ∧ limit % 4096 = 0 ∧ base < limit ∧ limit ≤ s.dev.sweepEnd r) ∧
    (∃ (s : State) (c : CmdHdr) (n : Nat) (w : Sweep),
      s.Admits c 72 .change ∧ s.dev.cry.sweeps.find n = some w ∧ w.st ≠ 2) ∧
    (∃ (s : State) (c : CmdHdr) (n : Nat) (w : Sweep),
      s.Admits c 72 .change ∧ s.dev.cry.sweeps.find n = some w ∧ w.st ≠ 1) ∧
    (∃ (s : State) (c : CmdHdr),
      s.Admits c 0 .read) ∧
    (∃ (s : State) (n : Nat) (w : Sweep) (r : RegionRec),
      s.Running ∧ s.dev.cry.sweeps.find n = some w ∧ s.dev.region w.region = some r ∧ w.st = 1 ∧ s.dev.sweepClear r (w.d / 4096) = true ∧ s.dev.sweepNext r w.d w.limit < w.limit) ∧
    (∃ (s : State) (n : Nat) (t : Nat) (w : Sweep) (r : RegionRec),
      s.Running ∧ s.dev.cry.sweeps.find n = some w ∧ s.dev.region w.region = some r ∧ w.st = 1 ∧ s.dev.sweepClear r (w.d / 4096) = false ∧ w.step = some t ∧ t ≤ s.tb ∧ s.tb < t + 2000 ∧ w.k ≠ w.j ∧ w.d + 4096 < w.limit) ∧
    (∃ (s : State) (n : Nat) (t : Nat) (w : Sweep) (r : RegionRec),
      s.Running ∧ s.dev.cry.sweeps.find n = some w ∧ s.dev.region w.region = some r ∧ w.st = 1 ∧ s.dev.sweepClear r (w.d / 4096) = false ∧ w.step = some t ∧ t ≤ s.tb ∧ s.tb < t + 2000 ∧ w.k ≠ w.j ∧ w.limit ≤ w.d + 4096) ∧
    (∃ (s : State) (n : Nat) (t : Nat) (w : Sweep),
      s.dev.aon = true ∧ s.dev.cry.sweeps.find n = some w ∧ w.step = some t ∧ t + 2000 ≤ s.tb) ∧
    (∃ (s : State) (n : Nat) (w : Sweep),
      s.Running ∧ s.dev.cry.sweeps.find n = some w ∧ w.st = 1 ∧ w.step = none ∧ w.retryAt ≤ s.tb) :=
  ⟨⟨st dv, hdr, rVol, 5, 20, 0, 2 ^ 28, 0, by unfold State.Admits; decide +kernel⟩,
   ⟨s0_SweepCommandsTakeEffect, hdr, 0, ⟨1, 4, 5, 20, 0, 8192, 0, 0, none, 0, 0⟩, by unfold State.Admits; decide +kernel⟩,
   ⟨s1_SweepCommandsTakeEffect, hdr, 0, ⟨2, 4, 5, 20, 0, 8192, 0, 0, none, 0, 0⟩, by unfold State.Admits; decide +kernel⟩,
   ⟨st dv, hdr, by unfold State.Admits; decide +kernel⟩,
   ⟨s2_SweepCommandsTakeEffect, 0, ⟨1, 4, 5, 20, 0, 8192, 0, 0, none, 0, 0⟩, rVol, by unfold State.Running; decide +kernel⟩,
   ⟨s3_SweepCommandsTakeEffect, 0, 999999999000, ⟨1, 4, 5, 20, 0, 8192, 0, 0, some 999999999000, 0, 0⟩, rVol, by unfold State.Running; decide +kernel⟩,
   ⟨s4_SweepCommandsTakeEffect, 0, 999999999000, ⟨1, 4, 5, 20, 0, 4096, 0, 0, some 999999999000, 0, 0⟩, rVol, by unfold State.Running; decide +kernel⟩,
   ⟨s5_SweepCommandsTakeEffect, 0, 999999998000, ⟨1, 4, 5, 20, 0, 8192, 0, 0, some 999999998000, 0, 0⟩, by decide +kernel⟩,
   ⟨s6_SweepCommandsTakeEffect, 0, ⟨1, 4, 5, 20, 0, 8192, 0, 0, none, 0, 0⟩, by unfold State.Running; decide +kernel⟩⟩

def s0_ResetAndQuenchCommandsTakeEffect : State := st ((dv.setReg .PWR_STEP_STEP 0 15).setFlag .PWR_STEP_HALTED 0 true)
def s1_ResetAndQuenchCommandsTakeEffect : State := st { dv with rst := { pend := some ⟨1, 2, 5⟩ } }
theorem meets_ResetAndQuenchCommandsTakeEffect :
    (∃ (s : State) (c : CmdHdr),
      s.Admits c 8 .change ∧ s.dev.rst.pend = none ∧ s.dev.step ≠ 15) ∧
    (∃ (s : State) (c : CmdHdr),
      s.dev.aon = true ∧ s.stamped.ifaceUp c = true ∧ c.iface = 2 ∧ 8 ≤ c.len ∧ s.dev.step = 15 ∧ s.dev.flag .PWR_STEP_HALTED = true ∧ s.dev.rst.pend = none) ∧
    (∃ (s : State) (c : CmdHdr),
      s.Admits c 8 .change ∧ s.dev.rst.pend.isSome = true) ∧
    (∃ (s : State) (c : CmdHdr) (e : Nat),
      s.Running ∧ s.Admits c 8 .change ∧ e < 2 ∧ s.dev.rst.pend = none) :=
  ⟨⟨st dv, hdr, by unfold State.Admits; decide +kernel⟩,
   ⟨s0_ResetAndQuenchCommandsTakeEffect, hdr, by decide +kernel⟩,
   ⟨s1_ResetAndQuenchCommandsTakeEffect, hdr, by unfold State.Admits; decide +kernel⟩,
   ⟨st dv, hdr, 1, by unfold State.Running State.Admits; decide +kernel⟩⟩

theorem meets_QueueCommandsTakeEffect :
    (∃ (s : State) (c : CmdHdr) (q : Nat) (x : QueueSet) (ki : Option Nat) (maxKib : Option Nat) (t : Option Nat) (k : Nat),
      s.Admits c 16 .change ∧ s.dev.setOfQueue q = some x ∧ (∀ k, ki = some k → s.dev.queueKeyAllowed x.setId k = true ∧ (k ≠ s.dev.queueKey q → (s.dev.queue q).frames = [] ∧ (s.dev.queue q).isOpen = false)) ∧ (∀ m, maxKib = some m → m ≤ 4194304) ∧ (∀ u, t = some u → 10 ≤ u ∧ u ≤ 60000) ∧ ki = some k) ∧
    (∃ (s : State) (c : CmdHdr) (q : Nat) (x : QueueSet) (ki : Option Nat) (maxKib : Option Nat) (t : Option Nat) (m : Nat),
      s.Admits c 16 .change ∧ s.dev.setOfQueue q = some x ∧ (∀ k, ki = some k → s.dev.queueKeyAllowed x.setId k = true ∧ (k ≠ s.dev.queueKey q → (s.dev.queue q).frames = [] ∧ (s.dev.queue q).isOpen = false)) ∧ (∀ m, maxKib = some m → m ≤ 4194304) ∧ (∀ u, t = some u → 10 ≤ u ∧ u ≤ 60000) ∧ maxKib = some m) ∧
    (∃ (s : State) (c : CmdHdr) (q : Nat) (x : QueueSet) (ki : Option Nat) (maxKib : Option Nat) (t : Option Nat) (u : Nat),
      s.Admits c 16 .change ∧ s.dev.setOfQueue q = some x ∧ (∀ k, ki = some k → s.dev.queueKeyAllowed x.setId k = true ∧ (k ≠ s.dev.queueKey q → (s.dev.queue q).frames = [] ∧ (s.dev.queue q).isOpen = false)) ∧ (∀ m, maxKib = some m → m ≤ 4194304) ∧ (∀ u, t = some u → 10 ≤ u ∧ u ≤ 60000) ∧ t = some u) ∧
    (∃ (s : State) (c : CmdHdr) (q : Nat) (x : QueueSet) (ki : Option Nat) (maxKib : Option Nat) (t : Option Nat) (p : Nat),
      s.Admits c 16 .change ∧ s.dev.setOfQueue q = some x ∧ (∀ k, ki = some k → s.dev.queueKeyAllowed x.setId k = true ∧ (k ≠ s.dev.queueKey q → (s.dev.queue q).frames = [] ∧ (s.dev.queue q).isOpen = false)) ∧ (∀ m, maxKib = some m → m ≤ 4194304) ∧ (∀ u, t = some u → 10 ≤ u ∧ u ≤ 60000) ∧ p ≠ q) ∧
    (∃ (s : State) (c : CmdHdr) (q : Nat) (p : Nat),
      s.Admits c 8 .own ∧ groupOf q < 256 ∧ s.dev.reg .JRN_STATUS_QSTATE = 0 ∧ (s.dev.unit (groupIx (groupOf q))).running = false ∧ s.dev.ustate (groupIx (groupOf q)) ≠ .absent ∧ p ≠ q) ∧
    (∃ (s : State) (c : CmdHdr) (g : Nat) (i : Nat),
      s.Admits c 8 .own ∧ g < 256 ∧ s.dev.reg .JRN_STATUS_QSTATE = 0 ∧ (s.dev.unit (groupIx g)).running = false ∧ s.dev.ustate (groupIx g) ∈ [.online, .degraded, .draining] ∧ i < 512) ∧
    (∃ (s : State) (c : CmdHdr) (g : Nat) (p : Nat),
      s.Admits c 8 .own ∧ g < 256 ∧ s.dev.reg .JRN_STATUS_QSTATE = 0 ∧ (s.dev.unit (groupIx g)).running = false ∧ s.dev.ustate (groupIx g) ∈ [.online, .degraded, .draining] ∧ groupOf p ≠ g) :=
  ⟨⟨st dv, hdr, 1023, qSet, some 4, some 4194304, some 60000, 4, by unfold State.Admits; decide +kernel, by decide +kernel, by intro k hk; cases hk; decide +kernel, by intro k hk; cases hk; decide +kernel, by intro k hk; cases hk; decide +kernel, by decide +kernel⟩,
   ⟨st dv, hdr, 1023, qSet, some 4, some 4194304, some 60000, 4194304, by unfold State.Admits; decide +kernel, by decide +kernel, by intro k hk; cases hk; decide +kernel, by intro k hk; cases hk; decide +kernel, by intro k hk; cases hk; decide +kernel, by decide +kernel⟩,
   ⟨st dv, hdr, 1023, qSet, some 4, some 4194304, some 10, 10, by unfold State.Admits; decide +kernel, by decide +kernel, by intro k hk; cases hk; decide +kernel, by intro k hk; cases hk; decide +kernel, by intro k hk; cases hk; decide +kernel, by decide +kernel⟩,
   ⟨st dv, hdr, 1023, qSet, some 4, some 4194304, some 10, 0, by unfold State.Admits; decide +kernel, by decide +kernel, by intro k hk; cases hk; decide +kernel, by intro k hk; cases hk; decide +kernel, by intro k hk; cases hk; decide +kernel, by decide +kernel⟩,
   ⟨st dv, hdr, 1023, 511, by unfold State.Admits; decide +kernel⟩,
   ⟨st dv, hdr, 1, 0, by unfold State.Admits; decide +kernel⟩,
   ⟨st dv, hdr, 1, 511, by unfold State.Admits; decide +kernel⟩⟩

def s0_SnapshotCommitAndRegraftCommands : State := st { dv with shadow := [(4, { state := 1, epoch := 7, delta := [(3, 0)] })] }
def s1_SnapshotCommitAndRegraftCommands : State := st { dv with cry := { dv.cry with regraft := some (10, 3), orphans := [(10, 3)] } }
theorem meets_SnapshotCommitAndRegraftCommands :
    (∃ (s : State) (c : CmdHdr) (set : Nat) (b : Nat) (x : CounterSet),
      s.Admits c 16 .change ∧ s.dev.counterSet set = some x ∧ x.snapRegion ≠ 255 ∧ s.tb < b ∧ b ≤ s.tb + 10000000000 ∧ (s.dev.talSet set).copy = none ∧ (s.dev.talSet set).at_ = none ∧ s.dev.memActive = true) ∧
    (∃ (s : State) (c : CmdHdr) (set : Nat) (x : CounterSet),
      s.Admits c 16 .change ∧ s.dev.counterSet set = some x ∧ x.snapRegion ≠ 255 ∧ (s.dev.talSet set).copy = none ∧ (s.dev.talSet set).at_ = none ∧ s.dev.memActive = true ∧ s.dev.cfgAt s.tb = s.dev.cfg) ∧
    (∃ (s : State) (c : CmdHdr) (r : RegionRec) (e : Nat),
      s.Admits c 16 .change ∧ s.dev.region r.number = some r ∧ r.rtype = .table ∧ r.shadow = true ∧ s.stamped.offline r (.control 0) false = false ∧ e = (s.dev.shadowOf r.number).epoch) ∧
    (∃ (s : State) (c : CmdHdr) (r : RegionRec) (e : Nat),
      s.Admits c 16 .change ∧ s.dev.region r.number = some r ∧ r.rtype = .table ∧ r.shadow = true ∧ s.stamped.offline r (.control 0) false = false ∧ e = (s.dev.shadowOf r.number).epoch ∧ (s.dev.shadowOf r.number).state ≠ 2 ∧ (∀ x ∈ (s.dev.shadowOf r.number).delta, (s.dev.page (s.dev.pid r true x.2)).unpers = false)) ∧
    (∃ (s : State) (c : CmdHdr) (r : RegionRec) (e : Nat),
      s.Admits c 16 .change ∧ s.dev.region r.number = some r ∧ r.rtype = .table ∧ r.shadow = true ∧ s.stamped.offline r (.control 0) false = false ∧ e ≠ (s.dev.shadowOf r.number).epoch) ∧
    (∃ (s : State) (c : CmdHdr) (level : Nat) (index : Nat),
      s.Admits c 16 .change ∧ level ≤ 10 ∧ index < ceilDiv (2 ^ 32) (8 ^ level)) ∧
    (∃ (s : State),
      s.Running ∧ s.dev.cry.regraft.isSome = true) :=
  ⟨⟨st dv, hdr, 0, 1010000000000, cSet, by unfold State.Admits; decide +kernel⟩,
   ⟨st dv, hdr, 0, cSet, by unfold State.Admits; decide +kernel⟩,
   ⟨s0_SnapshotCommitAndRegraftCommands, hdr, rVol, 7, by unfold State.Admits; decide +kernel⟩,
   ⟨s0_SnapshotCommitAndRegraftCommands, hdr, rVol, 7, by unfold State.Admits; decide +kernel⟩,
   ⟨s0_SnapshotCommitAndRegraftCommands, hdr, rVol, 6, by unfold State.Admits; decide +kernel⟩,
   ⟨st dv, hdr, 10, 3, by unfold State.Admits; decide +kernel⟩,
   ⟨s1_SnapshotCommitAndRegraftCommands, by unfold State.Running; decide +kernel⟩⟩

def s0_HealthPackageAndPoisonCommands : State := st (put dv 169 .failed)
theorem meets_HealthPackageAndPoisonCommands :
    (∃ (s : State) (c : CmdHdr) (p : Nat) (k : Nat) (first : Nat) (count : Nat),
      s.Admits c 8 .read ∧ p < 64 ∧ s.dev.ustate (packageIx p) ≠ .absent ∧ k < 16 ∧ k < s.dev.diesPerPkg ∧ 0 < count ∧ count ≤ 256 ∧ first + count ≤ 1024) ∧
    (∃ (s : State) (c : CmdHdr) (p : Nat),
      s.Admits c 4 .own ∧ p < 64 ∧ s.dev.reg .JRN_STATUS_QSTATE = 0 ∧ (s.dev.ustate (packageIx p) = .failed ∧ (s.dev.pkg p).rebuilt = true ∨ s.dev.ustate (packageIx p) = .draining ∧ s.dev.pagesOnPackage p = 0)) ∧
    (∃ (s : State) (c : CmdHdr) (p : Nat) (e : Bool),
      s.Admits c 4 .own ∧ p < 64 ∧ s.dev.reg .JRN_STATUS_QSTATE = 0 ∧ s.dev.serves (packageIx p) = true ∧ e = true) ∧
    (∃ (s : State) (c : CmdHdr) (p : Nat) (e : Bool),
      s.Admits c 4 .own ∧ p < 64 ∧ s.dev.reg .JRN_STATUS_QSTATE = 0 ∧ s.dev.serves (packageIx p) = true ∧ e = false) ∧
    (∃ (s : State) (c : CmdHdr),
      s.Admits c 16 .read) ∧
    (∃ (s : State) (c : CmdHdr) (dpa : Nat) (off : Nat) (ki : Nat) (pid : Nat) (r : RegionRec),
      s.Admits c 8 .change ∧ s.dev.memActive = true ∧ s.stamped.locate (dpa / 64 * 64) (if c.iface = 2 then 3 else 2 ^ c.iface) = some (r, off, ki) ∧ s.stamped.window r off = .main ∧ (s.stamped.writePid r off).1 = some pid) ∧
    (∃ (s : State) (c : CmdHdr) (dpa : Nat) (off : Nat) (ki : Nat) (pid : Nat) (r : RegionRec),
      s.Admits c 72 .change ∧ s.dev.memActive = true ∧ s.stamped.locate (dpa / 64 * 64) (if c.iface = 2 then 3 else 2 ^ c.iface) = some (r, off, ki) ∧ s.stamped.window r off = .main ∧ (s.stamped.writePid r off).1 = some pid) :=
  ⟨⟨st dv, hdr, 15, 0, 768, 256, by unfold State.Admits; decide +kernel⟩,
   ⟨s0_HealthPackageAndPoisonCommands, hdr, 15, by unfold State.Admits; decide +kernel⟩,
   ⟨st dv, hdr, 15, true, by unfold State.Admits; decide +kernel⟩,
   ⟨st dv, hdr, 15, false, by unfold State.Admits; decide +kernel⟩,
   ⟨st dv, hdr, by unfold State.Admits; decide +kernel⟩,
   ⟨st dv, hdr, 2 ^ 35 + 2 ^ 28 - 1, 2 ^ 28 - 64, 5, volBase + 8 * 2 ^ 40 + 65535, rVol, by unfold State.Admits; decide +kernel⟩,
   ⟨st dv, hdr, 2 ^ 35 + 2 ^ 28 - 1, 2 ^ 28 - 64, 5, volBase + 8 * 2 ^ 40 + 65535, rVol, by unfold State.Admits; decide +kernel⟩⟩

def s0_DigestAndStatusCommandsReport : State := st { dv with ust := { dv.ust with snaps := [(2, ⟨7, 5, 0, 0, [[1], [2]], 999000000000⟩)] } }
theorem meets_DigestAndStatusCommandsReport :
    (∃ (s : State) (c : CmdHdr) (first : Nat) (count : Nat),
      s.Admits c 16 .read ∧ count ≤ 16 ∧ first + count ≤ 256) ∧
    (∃ (s : State) (c : CmdHdr) (first : Nat) (count : Nat) (i : Nat),
      s.Admits c 16 .read ∧ count ≤ 16 ∧ first + count ≤ 256 ∧ i ≠ c.iface) ∧
    (∃ (s : State) (c : CmdHdr) (first : Nat) (count : Nat),
      s.Admits c 16 .read ∧ (16 < count ∨ 256 < first + count)) ∧
    (∃ (s : State) (c : CmdHdr) (id : Nat) (page : Nat) (x : Snapshot),
      s.Admits c 16 .read ∧ s.dev.ust.snaps.find c.iface = some x ∧ id = x.id ∧ page < x.pages.length) ∧
    (∃ (s : State) (c : CmdHdr) (id : Nat) (page : Nat) (x : Snapshot),
      s.Admits c 16 .read ∧ s.dev.ust.snaps.find c.iface = some x ∧ id = x.id ∧ x.pages.length ≤ page) ∧
    (∃ (s : State) (c : CmdHdr) (id : Nat) (x : Snapshot),
      s.Admits c 16 .read ∧ s.dev.ust.snaps.find c.iface = some x ∧ id ≠ x.id) ∧
    (∃ (s : State) (c : CmdHdr),
      s.Admits c 0 .minimal) :=
  ⟨⟨st dv, hdr, 240, 16, by unfold State.Admits; decide +kernel⟩,
   ⟨st dv, hdr, 240, 16, 0, by unfold State.Admits; decide +kernel⟩,
   ⟨st dv, hdr, 241, 16, by unfold State.Admits; decide +kernel⟩,
   ⟨s0_DigestAndStatusCommandsReport, hdr, 7, 1, ⟨7, 5, 0, 0, [[1], [2]], 999000000000⟩, by unfold State.Admits; decide +kernel⟩,
   ⟨s0_DigestAndStatusCommandsReport, hdr, 7, 2, ⟨7, 5, 0, 0, [[1], [2]], 999000000000⟩, by unfold State.Admits; decide +kernel⟩,
   ⟨s0_DigestAndStatusCommandsReport, hdr, 6, ⟨7, 5, 0, 0, [[1], [2]], 999000000000⟩, by unfold State.Admits; decide +kernel⟩,
   ⟨st dv, hdr, by unfold State.Admits; decide +kernel⟩⟩

def s0_DebugUnlockAndJtagTakeEffect : State := st { dv with mgt := { nonce := some (zeros 48, 5) } }
def s1_DebugUnlockAndJtagTakeEffect : State := st (dv.setFlag .CRY_STATUS_LOCKED 0 true)
def s2_DebugUnlockAndJtagTakeEffect : State := st { dv with mgt := { nonce := some (zeros 48, 940000000000) } }
def s3_DebugUnlockAndJtagTakeEffect : State := st { dv with mgt := { nonce := some (zeros 48, 940000000001) } }
def s4_DebugUnlockAndJtagTakeEffect : State := st { dv with pin := { dv.pin with resetN := false } }
def s5_DebugUnlockAndJtagTakeEffect : State := st ((dv.setFlag .CRY_STATUS_DEBUG_AUTH 0 true).setFlag .GLB_STATUS_MEM_ACTIVE 0 false)
def s6_DebugUnlockAndJtagTakeEffect : State := st (dv.setFlag .CRY_STATUS_DEBUG_AUTH 0 true)
theorem meets_DebugUnlockAndJtagTakeEffect :
    (∃ (s : State) (c : CmdHdr),
      s.Admits c 4 .change ∧ s.dev.flag .CRY_STATUS_LOCKED = false) ∧
    (∃ (s : State) (c : CmdHdr) (t : Nat) (n : List Byte),
      s.Admits c 196 .change ∧ s.dev.flag .CRY_STATUS_LOCKED = false ∧ s.dev.mgt.nonce = some (n, t) ∧ ¬ s.tb < t + 60000000000) ∧
    (∃ (s : State) (c : CmdHdr),
      s.dev.flag .CRY_STATUS_LOCKED = true ∧ s.Admits c 4 .change) ∧
    (∃ (s : State) (c : CmdHdr),
      s.dev.flag .CRY_STATUS_LOCKED = true ∧ s.Admits c 196 .change) ∧
    (∃ (s : State) (n : List Byte) (t : Nat),
      s.dev.aon = true ∧ s.dev.mgt.nonce = some (n, t) ∧ t + 60000000000 ≤ s.tb) ∧
    (∃ (s : State) (n : List Byte) (t : Nat),
      s.dev.aon = true ∧ s.dev.mgt.nonce = some (n, t) ∧ s.tb < t + 60000000000) ∧
    (∃ (s : State),
      s.dev.aon = true ∧ s.dev.pin.resetN = false) ∧
    (∃ (s : State),
      s.dev.aon = true ∧ s.dev.pin.resetN = true) ∧
    (∃ (s : State) (req : List Byte) (n : List Byte) (t : Nat),
      s.dev.aon = true ∧ s.dev.flag .CRY_STATUS_LOCKED = false ∧ 196 ≤ req.length ∧ u8 req 0 = 1 ∧ s.dev.mgt.nonce = some (n, t)) ∧
    (∃ (s : State),
      s.dev.aon = true ∧ s.dev.flag .CRY_STATUS_DEBUG_AUTH = false) ∧
    (∃ (s : State),
      s.dev.aon = true ∧ s.dev.flag .CRY_STATUS_DEBUG_AUTH = true ∧ s.dev.memActive = false) ∧
    (∃ (s : State) (addr : Nat),
      s.dev.aon = true ∧ s.dev.flag .CRY_STATUS_DEBUG_AUTH = true ∧ s.dev.memActive = true ∧ s.dev.locate (addr / 64 * 64) 3 = none) ∧
    (∃ (s : State) (w : Nat) (v : Nat),
      s.dev.aon = true ∧ s.dev.flag .CRY_STATUS_DEBUG_AUTH = true ∧ w < 32 ∧ v < 2 ^ 32) :=
  ⟨⟨st dv, hdr, by unfold State.Admits; decide +kernel⟩,
   ⟨s0_DebugUnlockAndJtagTakeEffect, hdr, 5, zeros 48, by unfold State.Admits; decide +kernel⟩,
   ⟨s1_DebugUnlockAndJtagTakeEffect, hdr, by unfold State.Admits; decide +kernel⟩,
   ⟨s1_DebugUnlockAndJtagTakeEffect, hdr, by unfold State.Admits; decide +kernel⟩,
   ⟨s2_DebugUnlockAndJtagTakeEffect, zeros 48, 940000000000, by decide +kernel⟩,
   ⟨s3_DebugUnlockAndJtagTakeEffect, zeros 48, 940000000001, by decide +kernel⟩,
   ⟨s4_DebugUnlockAndJtagTakeEffect, by decide +kernel⟩,
   ⟨st dv, by decide +kernel⟩,
   ⟨s0_DebugUnlockAndJtagTakeEffect, 1 :: zeros 200, zeros 48, 5, by decide +kernel⟩,
   ⟨st dv, by decide +kernel⟩,
   ⟨s5_DebugUnlockAndJtagTakeEffect, by decide +kernel⟩,
   ⟨s6_DebugUnlockAndJtagTakeEffect, 2 ^ 45, by decide +kernel⟩,
   ⟨s6_DebugUnlockAndJtagTakeEffect, 31, 2 ^ 32 - 1, by decide +kernel⟩⟩

def s0_RegisterWritesFollowTheirAccessTypes : State := st { dv with ust := { dv.ust with barAt := 1000000000000, barWrites := [(2, 0x1400200, 4)] } }
def s1_RegisterWritesFollowTheirAccessTypes : State := st (put dv (sliceIx 15) .off)
theorem meets_RegisterWritesFollowTheirAccessTypes :
    (∃ (s : State) (head : Nat) (addr : Nat) (size : Nat),
      s.dev.aon = true ∧ (s.dev.headCount ≤ head ∨ s.dev.reg .GLB_HEAD_LINK_WIDTH head = 0 ∨ (size ≠ 4 ∧ size ≠ 8) ∨ addr % size ≠ 0)) ∧
    (∃ (s : State) (head : Nat) (addr : Nat) (n : Nat) (o : Nat) (r : RegInfo),
      s.dev.aon = true ∧ head < s.dev.headCount ∧ s.dev.reg .GLB_HEAD_LINK_WIDTH head ≠ 0 ∧ regAt addr = some (r, n, o) ∧ (∀ f ∈ r.fields, f.info.access = .ro)) ∧
    (∃ (s : State) (head : Nat) (w : Nat) (v : Nat) (f : Fld) (i : Nat),
      s.dev.aon = true ∧ head < s.dev.headCount ∧ s.dev.reg .GLB_HEAD_LINK_WIDTH head ≠ 0 ∧ w < 32 ∧ v < 2 ^ 32 ∧ (f, i) ≠ (Fld.EVT_STATUSw_STATUS, w)) ∧
    (∃ (s : State) (head : Nat),
      s.dev.aon = true ∧ head < s.dev.headCount ∧ s.dev.reg .GLB_HEAD_LINK_WIDTH head ≠ 0 ∧ s.dev.reg .EVT_CTL_RATE < 256 ∧ s.dev.reg .EVT_CTL_MCTP_EID < 256 ∧ (∀ i < 4, s.stamped.writtenLater head (0x1400200 + i) = false)) ∧
    (∃ (s : State) (head : Nat),
      s.dev.aon = true ∧ head < s.dev.headCount ∧ s.dev.reg .GLB_HEAD_LINK_WIDTH head ≠ 0 ∧ s.dev.reg .EVT_CTL_RATE < 256 ∧ s.dev.reg .EVT_CTL_MCTP_EID < 256 ∧ (∀ i < 4, s.stamped.writtenLater head (0x1400200 + i) = true)) ∧
    (∃ (s : State) (head : Nat) (k : Nat) (v : Nat),
      s.dev.aon = true ∧ head < s.dev.headCount ∧ s.dev.reg .GLB_HEAD_LINK_WIDTH head ≠ 0 ∧ k < 16 ∧ s.dev.cfg.isSome = true ∧ v < 32 ∧ (∀ i < 4, s.stamped.writtenLater head (0x400008 + 0x10000 * k + i) = false) ∧ s.dev.serves (sliceIx k) = true) ∧
    (∃ (s : State) (head : Nat) (k : Nat) (v : Nat) (f : Fld),
      s.dev.aon = true ∧ head < s.dev.headCount ∧ s.dev.reg .GLB_HEAD_LINK_WIDTH head ≠ 0 ∧ k < 16 ∧ s.dev.cfg.isSome = true ∧ v < 32 ∧ (∀ i < 4, s.stamped.writtenLater head (0x400008 + 0x10000 * k + i) = false) ∧ (s.dev.ustate (sliceIx k) = .resetting ∨ s.dev.ustate (sliceIx k) = .off ∨ s.dev.ustate (sliceIx k) = .failed) ∧ f ∈ [Fld.SLC_CTL_DRAM_SPEC_EN, .SLC_CTL_MEDIA_SPEC_EN, .SLC_CTL_RUNAHEAD_EN, .SLC_CTL_PF_EN, .SLC_CTL_SPECRD_EN]) :=
  ⟨⟨st dv, 0, 2, 4, by decide +kernel⟩,
   ⟨st dv, 0, 0, 0, 0, ⟨0x0, 4, 0x0, 1, 0x0, 1, [.GLB_ID_DEVICE, .GLB_ID_STEPPING, .GLB_ID_PART, .GLB_ID_HEADMODE]⟩, by decide +kernel⟩,
   ⟨st dv, 0, 31, 2 ^ 32 - 1, .EVT_STATUSw_STATUS, 30, by decide +kernel⟩,
   ⟨st dv, 0, by decide +kernel⟩,
   ⟨s0_RegisterWritesFollowTheirAccessTypes, 0, by decide +kernel⟩,
   ⟨st dv, 0, 15, 31, by decide +kernel⟩,
   ⟨s1_RegisterWritesFollowTheirAccessTypes, 0, 15, 31, .SLC_CTL_PF_EN, by decide +kernel⟩⟩

def s0_MailboxAccessesFollowTheRights : State := st ((dv.setFlag .CRY_STATUS_DEBUG_AUTH 0 true).setReg .DBG_MA_ADDR_DPA 0 (2 ^ 48 - 1))
def s1_MailboxAccessesFollowTheRights : State := st ((dv.setFlag .CRY_STATUS_DEBUG_AUTH 0 true).setReg .DBG_MA_ADDR_DPA 0 (2 ^ 35 + 2 ^ 28 - 1))
theorem meets_MailboxAccessesFollowTheRights :
    (∃ (s : State),
      s.dev.aon = true ∧ (s.dev.flag .CRY_STATUS_DEBUG_AUTH = false ∨ s.dev.memActive = false)) ∧
    (∃ (s : State),
      s.dev.aon = true ∧ s.dev.flag .CRY_STATUS_DEBUG_AUTH = true ∧ s.dev.memActive = true ∧ s.dev.locate (s.dev.reg .DBG_MA_ADDR_DPA / 64 * 64) 3 = none) ∧
    (∃ (s : State) (g : RegionRec) (off : Nat) (ki : Nat),
      s.dev.aon = true ∧ s.dev.flag .CRY_STATUS_DEBUG_AUTH = true ∧ s.dev.memActive = true ∧ s.dev.locate (s.dev.reg .DBG_MA_ADDR_DPA / 64 * 64) 3 = some (g, off, ki) ∧ s.dev.region g.number = some g ∧ s.dev.window g off = .main ∧ s.dev.offline g .main false = false) :=
  ⟨⟨st dv, by decide +kernel⟩,
   ⟨s0_MailboxAccessesFollowTheRights, by decide +kernel⟩,
   ⟨s1_MailboxAccessesFollowTheRights, rVol, 2 ^ 28 - 64, 5, by decide +kernel⟩⟩

def s0_DoeSpdmAndIdeServicesTakeEffect : State := st { dv with heads := [(0, { head0 with spdm := true, memIde := { keys := [], active := none } })] }
def s1_DoeSpdmAndIdeServicesTakeEffect : State := st { dv with heads := [(0, { head0 with spdm := true, memIde := { keys := [(0, zeros 32), (1, zeros 32), (2, zeros 32), (3, zeros 32)], active := none } })] }
def s2_DoeSpdmAndIdeServicesTakeEffect : State := st { dv with heads := [(0, { head0 with spdm := true, memIde := { keys := [(0, zeros 32), (1, zeros 32), (2, zeros 32), (3, zeros 32)], active := some 1 } })] }
def s3_DoeSpdmAndIdeServicesTakeEffect : State := st { dv with heads := [(0, { head0 with spdm := true, memIde := { keys := [(0, zeros 32), (1, zeros 32), (2, zeros 32), (3, zeros 32)], active := some 0 } })] }
theorem meets_DoeSpdmAndIdeServicesTakeEffect :
    (∃ (s : State) (h : Nat) (i : Nat),
      s.dev.aon = true ∧ s.stamped.doeUp h = true ∧ 1 ≤ i ∧ i ≤ 5) ∧
    (∃ (s : State) (h : Nat) (i : Nat),
      s.dev.aon = true ∧ s.stamped.doeUp h = true ∧ (i = 0 ∨ (5 < i ∧ i ≠ 0xFF))) ∧
    (∃ (s : State) (h : Nat) (slot : Nat) (chain : List Byte),
      s.dev.aon = true ∧ s.stamped.doeUp h = true ∧ (slot = 1 ∧ s.dev.session h = true ∧ doeFits h chain.length = true)) ∧
    (∃ (s : State) (h : Nat) (slot : Nat) (chain : List Byte),
      s.dev.aon = true ∧ s.stamped.doeUp h = true ∧ (¬(slot = 1 ∧ s.dev.session h = true ∧ doeFits h chain.length = true))) ∧
    (∃ (s : State) (h : Nat) (i : Nat),
      s.dev.aon = true ∧ s.stamped.doeUp h = true ∧ i ≠ h ∧ i < 3) ∧
    (∃ (s : State) (h : Nat) (set : Nat) (dir : Nat) (key : List Byte),
      s.dev.aon = true ∧ h < 2 ∧ s.stamped.doeUp h = true ∧ s.dev.session h = true ∧ set < 2 ∧ dir < 2 ∧ key.length = 32) ∧
    (∃ (s : State) (h : Nat) (set : Nat) (io : Bool),
      s.dev.aon = true ∧ h < 2 ∧ s.stamped.doeUp h = true ∧ s.dev.session h = true ∧ set < 2 ∧ ((s.dev.head h).ide io).keys.has (2 * set) = true ∧ ((s.dev.head h).ide io).keys.has (2 * set + 1) = true) ∧
    (∃ (s : State) (h : Nat) (set : Nat) (io : Bool),
      s.dev.aon = true ∧ h < 2 ∧ s.stamped.doeUp h = true ∧ s.dev.session h = true ∧ set < 2 ∧ (((s.dev.head h).ide io).keys.has (2 * set) = false ∨ ((s.dev.head h).ide io).keys.has (2 * set + 1) = false)) ∧
    (∃ (s : State) (h : Nat) (set : Nat) (k : Nat),
      s.dev.aon = true ∧ h < 2 ∧ s.stamped.doeUp h = true ∧ s.dev.session h = true ∧ set < 2 ∧ k / 2 = set) ∧
    (∃ (s : State) (h : Nat) (set : Nat) (io : Bool),
      s.dev.aon = true ∧ h < 2 ∧ s.stamped.doeUp h = true ∧ s.dev.session h = true ∧ set < 2 ∧ ((s.dev.head h).ide io).active = some set) ∧
    (∃ (s : State) (h : Nat) (set : Nat) (io : Bool),
      s.dev.aon = true ∧ h < 2 ∧ s.stamped.doeUp h = true ∧ s.dev.session h = true ∧ set < 2 ∧ ((s.dev.head h).ide io).active ≠ some set) ∧
    (∃ (s : State) (h : Nat),
      s.dev.aon = true ∧ h < s.dev.headCount ∧ s.dev.flag .GLB_HEAD_LINK_CXL h = true) :=
  ⟨⟨st dv, 0, 5, by decide +kernel⟩,
   ⟨st dv, 0, 6, by decide +kernel⟩,
   ⟨s0_DoeSpdmAndIdeServicesTakeEffect, 0, 1, [1], by decide +kernel⟩,
   ⟨st dv, 0, 1, [1], by decide +kernel⟩,
   ⟨st dv, 0, 2, by decide +kernel⟩,
   ⟨s0_DoeSpdmAndIdeServicesTakeEffect, 0, 1, 1, zeros 32, by decide +kernel⟩,
   ⟨s1_DoeSpdmAndIdeServicesTakeEffect, 0, 1, false, by decide +kernel⟩,
   ⟨s0_DoeSpdmAndIdeServicesTakeEffect, 0, 1, false, by decide +kernel⟩,
   ⟨s1_DoeSpdmAndIdeServicesTakeEffect, 0, 1, 3, by decide +kernel⟩,
   ⟨s2_DoeSpdmAndIdeServicesTakeEffect, 0, 1, false, by decide +kernel⟩,
   ⟨s3_DoeSpdmAndIdeServicesTakeEffect, 0, 1, false, by decide +kernel⟩,
   ⟨st dv, 0, by decide +kernel⟩⟩

theorem meets_HdmDecodersCommitInOrder :
    (∃ (s : State) (h : Nat) (n : Nat),
      s.dev.aon = true ∧ h < s.dev.headCount ∧ n < 8 ∧ (s.dev.head h).memInfoValid = true ∧ (s.dev.decoder h n).locked = false) ∧
    (∃ (s : State) (h : Nat) (n : Nat),
      s.dev.aon = true ∧ h < s.dev.headCount ∧ n < 8 ∧ (s.dev.head h).memInfoValid = true ∧ (s.dev.decoder h n).locked = false) ∧
    (∃ (s : State) (h : Nat) (n : Nat) (i : Nat) (m : Nat),
      s.dev.aon = true ∧ h < s.dev.headCount ∧ n < 8 ∧ (s.dev.head h).memInfoValid = true ∧ (s.dev.decoder h n).locked = false ∧ (i, m) ≠ (h, n)) ∧
    (∃ (s : State) (h : Nat) (n : Nat),
      s.dev.aon = true ∧ (s.dev.headCount ≤ h ∨ 8 ≤ n ∨ (s.dev.head h).memInfoValid = false ∨ (s.dev.decoder h n).locked = true)) :=
  ⟨⟨st dv, 0, 1, by decide +kernel⟩,
   ⟨st dv, 0, 7, by decide +kernel⟩,
   ⟨st dv, 0, 7, 0, 6, by decide +kernel⟩,
   ⟨st dv, 0, 8, by decide +kernel⟩⟩

def s0_LinkTrainingFollowsItsStates : State := st (dv.setLink 31 { train := 1, mode := 4, since := 0 })
def s1_LinkTrainingFollowsItsStates : State := st (dv.setLink 31 { train := 1, mode := 5, since := 0 })
def s2_LinkTrainingFollowsItsStates : State := st (dv.setLink 31 { train := 7, mode := 0, since := 0 })
def s3_LinkTrainingFollowsItsStates : State := st (dv.setLink 31 { train := 3, mode := 0, since := 0 })
def s4_LinkTrainingFollowsItsStates : State := st (dv.setLink 31 { train := 4, mode := 0, since := 0 })
def s5_LinkTrainingFollowsItsStates : State := st (dv.setLink 31 { train := 2, mode := 0, since := 0 })
def s6_LinkTrainingFollowsItsStates : State := st ((put dv (linkIx 31) .resetting).setLink 31 { train := 5, mode := 0, since := 999999950001, rec_ := true })
def s7_LinkTrainingFollowsItsStates : State := st (dv.setLink 31 { train := 7, mode := 0, since := 0, rec_ := true, fulls := [999000000001] })
def s8_LinkTrainingFollowsItsStates : State := st (dv.setLink 31 { train := 7, mode := 0, since := 0, rec_ := true, fulls := [999000000001, 999000000002] })
theorem meets_LinkTrainingFollowsItsStates :
    (∃ (s : State) (m : Nat),
      s.dev.aon = true ∧ m < 128 ∧ (s.dev.link m).train = 1 ∧ (s.dev.link m).since + 1000000 ≤ s.tb ∧ (s.dev.link m).mode < 5) ∧
    (∃ (s : State) (m : Nat),
      s.dev.aon = true ∧ m < 128 ∧ (s.dev.link m).train = 1 ∧ (s.dev.link m).since + 1000000 ≤ s.tb ∧ 5 ≤ (s.dev.link m).mode) ∧
    (∃ (s : State) (m : Nat),
      s.dev.aon = true ∧ m < 128 ∧ ((s.dev.link m).train = 1 ∨ (s.dev.link m).train = 7)) ∧
    (∃ (s : State) (m : Nat),
      s.dev.aon = true ∧ m < 128 ∧ (s.dev.link m).train = 3) ∧
    (∃ (s : State) (m : Nat),
      s.dev.aon = true ∧ m < 128 ∧ (s.dev.link m).train = 4) ∧
    (∃ (s : State) (m : Nat) (p : Nat) (port : Nat) (ptype : Nat) (c : Cfg),
      s.dev.aon = true ∧ m < 128 ∧ (s.dev.link m).train = 2 ∧ s.dev.cfg = some c ∧ s.dev.linkPkg m = some (p, port) ∧ ptype = c.wiring.pkgType) ∧
    (∃ (s : State) (m : Nat) (p : Nat) (port : Nat) (ptype : Nat) (c : Cfg) (q : Nat),
      s.dev.aon = true ∧ m < 128 ∧ (s.dev.link m).train = 2 ∧ s.dev.cfg = some c ∧ s.dev.linkPkg m = some (p, port) ∧ (q ≠ port ∨ ptype ≠ c.wiring.pkgType)) ∧
    (∃ (s : State) (m : Nat),
      s.dev.aon = true ∧ m < 128 ∧ (s.dev.link m).train = 5 ∧ ((s.dev.link m).rec_ = false ∨ s.tb < (s.dev.link m).since + 50000) ∧ s.dev.ustate (linkIx m) = .resetting) ∧
    (∃ (s : State) (m : Nat),
      s.dev.aon = true ∧ m < 128 ∧ (s.dev.link m).train = 6 ∧ s.dev.serves (linkIx m) = true) ∧
    (∃ (s : State) (m : Nat),
      s.dev.aon = true ∧ m < 128 ∧ (s.dev.link m).rec_ = true ∧ (s.dev.link m).since + 50000 ≤ s.tb ∧ ((s.dev.link m).fulls.filter (fun t => decide (s.tb < t + 1000000000))).length < 2) ∧
    (∃ (s : State) (m : Nat),
      s.dev.aon = true ∧ m < 128 ∧ (s.dev.link m).rec_ = true ∧ (s.dev.link m).since + 50000 ≤ s.tb ∧ 2 ≤ ((s.dev.link m).fulls.filter (fun t => decide (s.tb < t + 1000000000))).length) :=
  ⟨⟨s0_LinkTrainingFollowsItsStates, 31, by decide +kernel⟩,
   ⟨s1_LinkTrainingFollowsItsStates, 31, by decide +kernel⟩,
   ⟨s2_LinkTrainingFollowsItsStates, 31, by decide +kernel⟩,
   ⟨s3_LinkTrainingFollowsItsStates, 31, by decide +kernel⟩,
   ⟨s4_LinkTrainingFollowsItsStates, 31, by decide +kernel⟩,
   ⟨s5_LinkTrainingFollowsItsStates, 31, 15, 1, 2, cfg0, by decide +kernel⟩,
   ⟨s5_LinkTrainingFollowsItsStates, 31, 15, 1, 2, cfg0, 0, by decide +kernel⟩,
   ⟨s6_LinkTrainingFollowsItsStates, 31, by decide +kernel⟩,
   ⟨st dv, 31, by decide +kernel⟩,
   ⟨s7_LinkTrainingFollowsItsStates, 31, by decide +kernel⟩,
   ⟨s8_LinkTrainingFollowsItsStates, 31, by decide +kernel⟩⟩

def s0_LinkResponsesEndOrReissueCommands : State := st { dv with med := { dv.med with cmds := [(31 * 4096 + 4095, ⟨1, 16, 0, 5, .grain 0 false, 0⟩)], reads := [(0, { slice := 15, entry := 0, loc := entryOf 1 0 0, lpn := 0, grain := 0, die := 32, path := .direct, predicted := 0, deadline := 0 })] } }
def s1_LinkResponsesEndOrReissueCommands : State := st { dv with med := { dv.med with cmds := [(31 * 4096 + 4095, ⟨2, 16, 0, 5, .sheet 1 0 0, 0⟩)], dies := [(16, { op := some { clear := false, endAt := 5, opid := 0 } })] } }
def s2_LinkResponsesEndOrReissueCommands : State := st { dv with med := { dv.med with cmds := [(31 * 4096 + 4095, ⟨3, 16, 0, 5, .clear 16384, 0⟩)], blocks := [(16384, { state := .clearing })] } }
def s3_LinkResponsesEndOrReissueCommands : State := st { dv with med := { dv.med with cmds := [(31 * 4096 + 4095, ⟨3, 16, 0, 5, .clear 16384, 0⟩)] } }
def s4_LinkResponsesEndOrReissueCommands : State := st { dv with med := { dv.med with cmds := [(31 * 4096 + 4095, ⟨7, 16, 0, 5, .query 0, 0⟩)] } }
def s5_LinkResponsesEndOrReissueCommands : State := st { dv with med := { dv.med with cmds := [(31 * 4096 + 4095, ⟨8, 16, 0, 5, .sentinel false, 0⟩)] } }
def s6_LinkResponsesEndOrReissueCommands : State := st { dv with med := { dv.med with cmds := [(31 * 4096 + 4095, ⟨6, 16, 0, 5, .control, 0⟩)] } }
def s7_LinkResponsesEndOrReissueCommands : State := st { dv with med := { dv.med with cmds := [(31 * 4096 + 4095, ⟨4, 16, 0, 5, .control, 0⟩)], reads := [(0, { slice := 15, entry := 0, loc := entryOf 1 0 0, lpn := 0, grain := 0, die := 32, path := .direct, predicted := 0, deadline := 0 })], dies := [(16, { op := some { clear := false, endAt := 5, opid := 0, suspended := some 999999999000 }, queue := [⟨.grain 0 false, 2, 5, 0⟩] })] } }
def s8_LinkResponsesEndOrReissueCommands : State := st { dv with med := { dv.med with cmds := [(31 * 4096 + 4095, ⟨4, 16, 0, 5, .control, 0⟩)], dies := [(16, { op := some { clear := false, endAt := 5, opid := 0, suspended := some 999999999000 } })] } }
def s9_LinkResponsesEndOrReissueCommands : State := st { dv with med := { dv.med with cmds := [(31 * 4096 + 4095, ⟨9, 16, 0, 5, .sentinel true, 0⟩)] } }
def s10_LinkResponsesEndOrReissueCommands : State := st { dv with med := { dv.med with cmds := [(31 * 4096 + 4095, ⟨1, 16, 0, 999999999000, .control, 0⟩)] } }
def s11_LinkResponsesEndOrReissueCommands : State := st { dv with med := { dv.med with cmds := [(31 * 4096 + 4095, ⟨1, 16, 0, 5, .control, 0⟩)] } }
def s12_LinkResponsesEndOrReissueCommands : State := st (({ (put dv (linkIx 31) .resetting) with med := { dv.med with cmds := [(31 * 4096 + 4095, ⟨1, 16, 0, 5, .control, 0⟩)] } } : Dev).setLink 31 { train := 4, mode := 0, since := 0 })
def s13_LinkResponsesEndOrReissueCommands : State := st (dv.setLink 31 { train := 5, mode := 4, since := 0 })
def s14_LinkResponsesEndOrReissueCommands : State := st (dv.setLink 31 { train := 6, mode := 0, since := 0, crc := (1000000, 15) })
def s15_LinkResponsesEndOrReissueCommands : State := st (dv.setLink 31 { train := 6, mode := 0, since := 0, crc := (999999, 15) })
theorem meets_LinkResponsesEndOrReissueCommands :
    (∃ (s : State) (m : Nat) (tag : Nat) (n : Nat) (errors : List Nat) (c : MCmd) (r : MRead) (b : Band),
      s.dev.aon = true ∧ s.dev.med.cmds.find (m * 4096 + tag % 4096) = some c ∧ c.op = 1 ∧ c.use = .grain n false ∧ s.dev.med.reads.find n = some r ∧ s.dev.band (entryBand r.loc) = some b ∧ r.slice < 16 ∧ r.step = 0 ∧ isMeta r.lpn = false ∧ (∀ x ∈ s.dev.med.reads, isMeta x.2.lpn = true → x.2.ready = false) ∧ errors.headD 0 ≤ 18 ∧ errors.headD 0 ≠ 0) ∧
    (∃ (s : State) (m : Nat) (tag : Nat) (n : Nat) (errors : List Nat) (c : MCmd) (r : MRead) (b : Band),
      s.dev.aon = true ∧ s.dev.med.cmds.find (m * 4096 + tag % 4096) = some c ∧ c.op = 1 ∧ c.use = .grain n false ∧ s.dev.med.reads.find n = some r ∧ s.dev.band (entryBand r.loc) = some b ∧ r.slice < 16 ∧ r.step = 0 ∧ isMeta r.lpn = false ∧ (∀ x ∈ s.dev.med.reads, isMeta x.2.lpn = true → x.2.ready = false) ∧ 18 < errors.headD 0) ∧
    (∃ (s : State) (m : Nat) (tag : Nat) (stat : Nat) (c : MCmd),
      s.dev.aon = true ∧ s.dev.med.cmds.find (m * 4096 + tag % 4096) = some c ∧ c.op = 2 ∧ stat = 0 ∧ (∀ n, c.use ≠ .thru n) ∧ (∀ o, (s.dev.die c.die).op = some o → o.opid = c.opid) ∧ (s.dev.die c.die).queue = [] ∧ s.dev.med.progs = []) ∧
    (∃ (s : State) (m : Nat) (tag : Nat) (stat : Nat) (c : MCmd) (k : Nat),
      s.dev.aon = true ∧ s.dev.med.cmds.find (m * 4096 + tag % 4096) = some c ∧ c.op = 3 ∧ c.use = .clear k ∧ (s.dev.block k).state = .clearing ∧ stat = 0) ∧
    (∃ (s : State) (m : Nat) (tag : Nat) (stat : Nat) (c : MCmd) (k : Nat),
      s.dev.aon = true ∧ s.dev.med.cmds.find (m * 4096 + tag % 4096) = some c ∧ c.op = 3 ∧ c.use = .clear k ∧ (s.dev.block k).state = .clearing ∧ stat = 1) ∧
    (∃ (s : State) (m : Nat) (tag : Nat) (stat : Nat) (c : MCmd) (k : Nat),
      s.dev.aon = true ∧ s.dev.med.cmds.find (m * 4096 + tag % 4096) = some c ∧ c.op = 3 ∧ c.use = .clear k ∧ (s.dev.block k).state = .clearing ∧ stat = 2) ∧
    (∃ (s : State) (m : Nat) (tag : Nat) (stat : Nat) (c : MCmd),
      s.dev.aon = true ∧ s.dev.med.cmds.find (m * 4096 + tag % 4096) = some c ∧ (c.op = 2 ∨ c.op = 3) ∧ 2 < stat) ∧
    (∃ (s : State) (m : Nat) (tag : Nat) (stat : Nat) (c : MCmd),
      s.dev.aon = true ∧ s.dev.med.cmds.find (m * 4096 + tag % 4096) = some c ∧ c.op = 7 ∧ stat = 4) ∧
    (∃ (s : State) (m : Nat) (tag : Nat) (stat : Nat) (c : MCmd),
      s.dev.aon = true ∧ s.dev.med.cmds.find (m * 4096 + tag % 4096) = some c ∧ c.op = 8 ∧ c.use = .sentinel false ∧ stat = 0) ∧
    (∃ (s : State) (m : Nat) (tag : Nat) (c : MCmd),
      s.dev.aon = true ∧ s.dev.med.cmds.find (m * 4096 + tag % 4096) = some c ∧ (c.op = 4 ∨ c.op = 5 ∨ c.op = 6)) ∧
    (∃ (s : State) (m : Nat) (tag : Nat) (c : MCmd) (q : QRead) (h : Nat) (o : DieOp) (t : Nat),
      s.dev.aon = true ∧ s.dev.med.cmds.find (m * 4096 + tag % 4096) = some c ∧ c.op = 4 ∧ s.dev.med.progs = [] ∧ s.dev.homeLink c.die = some h ∧ s.dev.dieReachable c.die = true ∧ (s.dev.die c.die).thru = none ∧ (∀ x ∈ s.dev.med.cmds, x.2.die = c.die → x.2.op ≠ 1) ∧ (s.dev.die c.die).op = some o ∧ o.suspended = some t ∧ (s.dev.die c.die).queue = [q] ∧ q.rank ≤ 4) ∧
    (∃ (s : State) (m : Nat) (tag : Nat) (c : MCmd) (h : Nat) (o : DieOp) (t : Nat),
      s.dev.aon = true ∧ s.dev.med.cmds.find (m * 4096 + tag % 4096) = some c ∧ c.op = 4 ∧ s.dev.med.progs = [] ∧ s.dev.homeLink c.die = some h ∧ s.dev.dieReachable c.die = true ∧ (s.dev.die c.die).thru = none ∧ (∀ x ∈ s.dev.med.cmds, x.2.die = c.die → x.2.op ≠ 1) ∧ (s.dev.die c.die).op = some o ∧ o.suspended = some t ∧ (s.dev.die c.die).queue = [] ∧ s.dev.reg .JRN_STATUS_QSTATE = 0) ∧
    (∃ (s : State) (m : Nat) (tag : Nat) (positions : List Nat) (c : MCmd) (n : Nat) (b : Band),
      s.dev.aon = true ∧ positions ≠ [] ∧ s.dev.med.cmds.find (m * 4096 + tag % 4096) = some c ∧ c.use = .sentinel true ∧ s.dev.med.bands.wf = true ∧ s.dev.band n = some b ∧ c.die ∈ s.dev.setDies b.set) ∧
    (∃ (s : State) (m : Nat) (tag : Nat) (c : MCmd),
      s.dev.aon = true ∧ s.dev.med.cmds.find (m * 4096 + tag % 4096) = some c ∧ s.tb < c.issuedAt + reissueAfter c.op) ∧
    (∃ (s : State) (m : Nat) (tag : Nat) (c : MCmd),
      s.dev.aon = true ∧ s.dev.med.cmds.find (m * 4096 + tag % 4096) = some c ∧ c.issuedAt + reissueAfter c.op ≤ s.tb) ∧
    (∃ (s : State) (m : Nat) (tag : Option Nat) (t : Nat) (c : MCmd),
      s.dev.aon = true ∧ m < 128 ∧ (s.dev.link m).train ≠ 5 ∧ (s.dev.link m).train ≠ 6 ∧ tag = some t ∧ s.dev.med.cmds.find (m * 4096 + t % 4096) = some c) ∧
    (∃ (s : State) (m : Nat),
      s.dev.aon = true ∧ m < 128 ∧ (s.dev.link m).train = 5 ∧ (s.dev.link m).mode < 5) ∧
    (∃ (s : State) (m : Nat),
      s.dev.aon = true ∧ m < 128 ∧ (s.dev.link m).train = 6 ∧ (s.dev.link m).crc.1 = s.tb / 1000000 ∧ 15 ≤ (s.dev.link m).crc.2) ∧
    (∃ (s : State) (m : Nat),
      s.dev.aon = true ∧ m < 128 ∧ (s.dev.link m).train = 6 ∧ (s.dev.link m).crc.1 ≠ s.tb / 1000000) ∧
    (∃ (s : State) (m : Nat),
      s.dev.aon = true ∧ m < 128 ∧ s.dev.ustate (linkIx m) = .online ∧ (s.dev.link m).activeAt + 1000000000 ≤ s.tb) ∧
    (∃ (s : State) (m : Nat),
      s.dev.aon = true ∧ m < 128 ∧ s.dev.ustate (linkIx m) = .online ∧ (s.dev.link m).activeAt + 1000000000 ≤ s.tb) ∧
    (∃ (s : State) (m : Nat) (tag : Nat) (c : MCmd),
      s.dev.aon = true ∧ s.dev.med.cmds.find (m * 4096 + tag % 4096) = some c ∧ c.op = 4 ∧ s.dev.med.progs = [] ∧ (s.dev.die c.die).queue = [] ∧ (s.dev.die c.die).op = none) :=
  ⟨⟨s0_LinkResponsesEndOrReissueCommands, 31, 4095, 0, [18], ⟨1, 16, 0, 5, .grain 0 false, 0⟩, { slice := 15, entry := 0, loc := entryOf 1 0 0, lpn := 0, grain := 0, die := 32, path := .direct, predicted := 0, deadline := 0 }, { set := 2, blocks := List.replicate 10 1, stream := 0, state := .opened, openedAt := 0 }, by decide +kernel⟩,
   ⟨s0_LinkResponsesEndOrReissueCommands, 31, 4095, 0, [19], ⟨1, 16, 0, 5, .grain 0 false, 0⟩, { slice := 15, entry := 0, loc := entryOf 1 0 0, lpn := 0, grain := 0, die := 32, path := .direct, predicted := 0, deadline := 0 }, { set := 2, blocks := List.replicate 10 1, stream := 0, state := .opened, openedAt := 0 }, by decide +kernel⟩,
   ⟨s1_LinkResponsesEndOrReissueCommands, 31, 4095, 0, ⟨2, 16, 0, 5, .sheet 1 0 0, 0⟩, (by decide +kernel), (by decide +kernel), (by decide +kernel), (by decide +kernel), (by intro _ h; cases h), (fun o h => Option.some.inj ((by decide +kernel : _ = some ({ clear := false, endAt := 5, opid := 0 } : DieOp)).symm.trans h) ▸ rfl), (by decide +kernel), (by decide +kernel)⟩,
   ⟨s2_LinkResponsesEndOrReissueCommands, 31, 4095, 0, ⟨3, 16, 0, 5, .clear 16384, 0⟩, 16384, by decide +kernel⟩,
   ⟨s2_LinkResponsesEndOrReissueCommands, 31, 4095, 1, ⟨3, 16, 0, 5, .clear 16384, 0⟩, 16384, by decide +kernel⟩,
   ⟨s2_LinkResponsesEndOrReissueCommands, 31, 4095, 2, ⟨3, 16, 0, 5, .clear 16384, 0⟩, 16384, by decide +kernel⟩,
   ⟨s3_LinkResponsesEndOrReissueCommands, 31, 4095, 3, ⟨3, 16, 0, 5, .clear 16384, 0⟩, by decide +kernel⟩,
   ⟨s4_LinkResponsesEndOrReissueCommands, 31, 4095, 4, ⟨7, 16, 0, 5, .query 0, 0⟩, by decide +kernel⟩,
   ⟨s5_LinkResponsesEndOrReissueCommands, 31, 4095, 0, ⟨8, 16, 0, 5, .sentinel false, 0⟩, by decide +kernel⟩,
   ⟨s6_LinkResponsesEndOrReissueCommands, 31, 4095, ⟨6, 16, 0, 5, .control, 0⟩, by decide +kernel⟩,
   ⟨s7_LinkResponsesEndOrReissueCommands, 31, 4095, ⟨4, 16, 0, 5, .control, 0⟩, ⟨.grain 0 false, 2, 5, 0⟩, 2, { clear := false, endAt := 5, opid := 0, suspended := some 999999999000 }, 999999999000, by decide +kernel⟩,
   ⟨s8_LinkResponsesEndOrReissueCommands, 31, 4095, ⟨4, 16, 0, 5, .control, 0⟩, 2, { clear := false, endAt := 5, opid := 0, suspended := some 999999999000 }, 999999999000, by decide +kernel⟩,
   ⟨s9_LinkResponsesEndOrReissueCommands, 31, 4095, [512], ⟨9, 16, 0, 5, .sentinel true, 0⟩, 0, { set := 0, blocks := List.replicate 10 0, stream := 5, state := .opened, openedAt := 0 }, by decide +kernel⟩,
   ⟨s10_LinkResponsesEndOrReissueCommands, 31, 4095, ⟨1, 16, 0, 999999999000, .control, 0⟩, by decide +kernel⟩,
   ⟨s11_LinkResponsesEndOrReissueCommands, 31, 4095, ⟨1, 16, 0, 5, .control, 0⟩, by decide +kernel⟩,
   ⟨s12_LinkResponsesEndOrReissueCommands, 31, some 4095, 4095, ⟨1, 16, 0, 5, .control, 0⟩, by decide +kernel⟩,
   ⟨s13_LinkResponsesEndOrReissueCommands, 31, by decide +kernel⟩,
   ⟨s14_LinkResponsesEndOrReissueCommands, 31, by decide +kernel⟩,
   ⟨s15_LinkResponsesEndOrReissueCommands, 31, by decide +kernel⟩,
   ⟨st dv, 31, by decide +kernel⟩,
   ⟨st dv, 31, by decide +kernel⟩,
   ⟨st { dv with med := { dv.med with cmds := [(31 * 4096 + 4095, ⟨4, 16, 0, 5, .control, 0⟩)] } }, 31, 4095, ⟨4, 16, 0, 5, .control, 0⟩, by decide +kernel⟩⟩

def s0_SidebandCommandsTakeEffect : State := st (dv.setReg .MCX_SB_CTL_ALERT_EN 7 255)
def s1_SidebandCommandsTakeEffect : State := st (dv.setReg .MCX_SB_CTL_ALERT_EN 7 0)
def s2_SidebandCommandsTakeEffect : State := st ((put dv 169 .absent).setPkg 15 {})
def s3_SidebandCommandsTakeEffect : State := st ((put dv 169 .retired).setPkg 15 { missed := 1 })
def s4_SidebandCommandsTakeEffect : State := st ((put dv 169 .retired).setPkg 15 { missed := 2 })
def s5_SidebandCommandsTakeEffect : State := st ((dv.setLink 30 {}).setLink 31 {})
def s6_SidebandCommandsTakeEffect : State := st ((((put (put (put dv 169 .starting) 56 .off) 57 .off).setPkg 15 { present := true }).setLink 30 {}).setLink 31 {})
theorem meets_SidebandCommandsTakeEffect :
    (∃ (s : State) (p : Nat) (a : Nat),
      s.dev.aon = true ∧ p < 64 ∧ (s.dev.pkg p).present = true ∧ 0 < a ∧ (s.dev.regInForce .MCX_SB_CTL_ALERT_EN (p / s.dev.groupSize)).testBit (p % s.dev.groupSize) = true) ∧
    (∃ (s : State) (p : Nat) (a : Nat),
      s.dev.aon = true ∧ p < 64 ∧ (s.dev.pkg p).present = true ∧ 0 < a ∧ (s.dev.regInForce .MCX_SB_CTL_ALERT_EN (p / s.dev.groupSize)).testBit (p % s.dev.groupSize) = false) ∧
    (∃ (s : State) (c : Cfg) (p : Nat) (crc : Nat),
      s.dev.aon = true ∧ s.dev.cfg = some c ∧ p < 64 ∧ p < c.wiring.pkgCount ∧ 8 ≤ s.dev.step ∧ 4 ≤ crc) ∧
    (∃ (s : State) (c : Cfg) (p : Nat) (crc : Nat) (ptype : Nat) (dies : Nat),
      s.dev.aon = true ∧ s.dev.cfg = some c ∧ p < 64 ∧ p < c.wiring.pkgCount ∧ 8 ≤ s.dev.step ∧ crc < 4 ∧ (s.dev.pkg p).present = false ∧ (s.dev.ustate (packageIx p) = .absent ∨ s.dev.ustate (packageIx p) = .off) ∧ (ptype = s.dev.wantType p ∧ dies = s.dev.diesPerPkg)) ∧
    (∃ (s : State) (c : Cfg) (p : Nat) (crc : Nat) (ptype : Nat) (dies : Nat),
      s.dev.aon = true ∧ s.dev.cfg = some c ∧ p < 64 ∧ p < c.wiring.pkgCount ∧ 8 ≤ s.dev.step ∧ crc < 4 ∧ (s.dev.pkg p).present = false ∧ (s.dev.ustate (packageIx p) = .absent ∨ s.dev.ustate (packageIx p) = .off) ∧ (¬(ptype = s.dev.wantType p ∧ dies = s.dev.diesPerPkg))) ∧
    (∃ (s : State) (c : Cfg) (p : Nat) (crc : Nat),
      s.dev.aon = true ∧ s.dev.cfg = some c ∧ p < 64 ∧ p < c.wiring.pkgCount ∧ 8 ≤ s.dev.step ∧ crc < 4 ∧ (s.dev.pkg p).present = true) ∧
    (∃ (s : State) (c : Cfg) (p : Nat) (crc : Nat),
      s.dev.aon = true ∧ s.dev.cfg = some c ∧ p < 64 ∧ p < c.wiring.pkgCount ∧ 8 ≤ s.dev.step ∧ crc < 4 ∧ s.dev.ustate (packageIx p) = .retired ∧ (s.dev.pkg p).missed + 1 < 3) ∧
    (∃ (s : State) (c : Cfg) (p : Nat) (crc : Nat),
      s.dev.aon = true ∧ s.dev.cfg = some c ∧ p < 64 ∧ p < c.wiring.pkgCount ∧ 8 ≤ s.dev.step ∧ crc < 4 ∧ s.dev.ustate (packageIx p) = .retired ∧ 2 ≤ (s.dev.pkg p).missed) ∧
    (∃ (s : State) (c : Cfg) (p : Nat) (crc : Nat),
      s.dev.aon = true ∧ s.dev.cfg = some c ∧ p < 64 ∧ p < c.wiring.pkgCount ∧ 8 ≤ s.dev.step ∧ crc < 4 ∧ s.dev.serves (packageIx p) = true ∧ (s.dev.pkg p).present = true ∧ (∀ x ∈ s.dev.pkgLinks p, (s.dev.link x.2).train ≠ 6)) ∧
    (∃ (s : State) (c : Cfg) (p : Nat) (x : Nat × Nat),
      s.dev.aon = true ∧ s.dev.cfg = some c ∧ c.wiring.link.length ≤ 128 ∧ p < 64 ∧ s.dev.ustate (packageIx p) = .starting ∧ (s.dev.pkg p).present = true ∧ (s.dev.pkg p).pwrGood = false ∧ x ∈ s.dev.pkgLinks p ∧ (s.dev.portMask p).testBit x.1 = true ∧ s.dev.ustate (linkIx x.2) = .off ∧ (s.dev.link x.2).train = 0 ∧ (s.dev.link x.2).fulls = []) :=
  ⟨⟨s0_SidebandCommandsTakeEffect, 15, 1, by decide +kernel⟩,
   ⟨s1_SidebandCommandsTakeEffect, 15, 1, by decide +kernel⟩,
   ⟨st dv, cfg0, 15, 4, by decide +kernel⟩,
   ⟨s2_SidebandCommandsTakeEffect, cfg0, 15, 3, 2, 1, by decide +kernel⟩,
   ⟨s2_SidebandCommandsTakeEffect, cfg0, 15, 3, 3, 1, by decide +kernel⟩,
   ⟨st dv, cfg0, 15, 3, by decide +kernel⟩,
   ⟨s3_SidebandCommandsTakeEffect, cfg0, 15, 0, by decide +kernel⟩,
   ⟨s4_SidebandCommandsTakeEffect, cfg0, 15, 0, by decide +kernel⟩,
   ⟨s5_SidebandCommandsTakeEffect, cfg0, 15, 0, by decide +kernel⟩,
   ⟨s6_SidebandCommandsTakeEffect, cfg0, 15, (0, 30), by decide +kernel⟩⟩

theorem meets_UnitGetStateReportsAndChangesNothing :
    (∃ (s : State) (c : CmdHdr) (first : Nat) (count : Nat),
      s.Admits c 4 .read ∧ 0 < count ∧ count ≤ 256 ∧ first + count ≤ 542) :=
  ⟨st dv, hdr, 286, 256, by unfold State.Admits; decide +kernel⟩

def s0_QueueEngineOwnWork : State := st { dv with qen := { queues := [(1023, { frames := [{ len := 16128, user := 0, flags := 0, seq := 0, stamp := 5, stack := List.replicate 64 0 }, { len := 16128, user := 0, flags := 0, seq := 0, stamp := 5, stack := List.replicate 64 0 }], tailSeq := 2 })] }, med := { dv.med with gather := List.range 200 } }
def s1_QueueEngineOwnWork : State := st { dv with qen := { queues := [(1023, { frames := [{ len := 100, user := 0, flags := 0, seq := 0, stamp := 5, spilled := [0], stack := [0] }], tailSeq := 1, spillPages := 1 })] } }
def s2_QueueEngineOwnWork : State := st { dv with qen := { queues := [(1023, { asm := .dropping 999999900001 100 1 })] } }
def s3_QueueEngineOwnWork : State := st { dv with qen := { queues := [(1023, { asm := .dropping 999999900000 100 1 })] } }
def s4_QueueEngineOwnWork : State := st { dv with qen := { queues := [(1023, { asm := .opened { len := 100, user := 3, line0 := 7, openedAt := 999999900001, timeoutUs := 100, lines := [(0, ⟨7, 4, 5⟩)], stack := [0] }, tailSeq := 1 })] } }
def s5_QueueEngineOwnWork : State := st { dv with qen := { queues := [(1023, { asm := .opened { len := 100, user := 3, line0 := 7, openedAt := 999999900000, timeoutUs := 100, lines := [(0, ⟨7, 4, 5⟩)], stack := [0] }, tailSeq := 1 })] } }
def s6_QueueEngineOwnWork : State := st { dv with cfg := some { cfg0 with queueSets := [{ qSet with deliver := true }] },  qen := { queues := [(1023, { asm := .opened { len := 100, user := 3, line0 := 7, openedAt := 999999900000, timeoutUs := 100, lines := [(0, ⟨7, 4, 5⟩)], stack := [0] }, tailSeq := 1 })] } }
def s7_QueueEngineOwnWork : State := st { dv with qen := { queues := [(1023, { headSeq := 1 })], changed := [1023] } }
theorem meets_QueueEngineOwnWork :
    (∃ (s : State) (q : Nat) (c : QueueSet) (r : Nat),
      s.Running ∧ s.dev.setOfQueue q = some c ∧ s.dev.spillDue q = true ∧ 4096 ≤ s.dev.spillSpace ∧ s.stamped.mustShrink = false ∧ r ≠ q) ∧
    (∃ (s : State) (q : Nat) (c : QueueSet),
      s.Running ∧ s.dev.setOfQueue q = some c ∧ (s.dev.spillDue q = false ∨ s.dev.spillSpace < 4096 ∨ s.stamped.mustShrink = true)) ∧
    (∃ (s : State) (q : Nat) (c : QueueSet) (st : List Nat),
      s.Running ∧ s.dev.setOfQueue q = some c ∧ 0 < spilledCells (s.dev.queue q).frames ∧ headCells (s.dev.queue q).frames < c.headWin ∧ s.dev.takeCells (s.dev.homeStack (groupOf q)) (min 16 (spilledCells (s.dev.queue q).frames)) = some st) ∧
    (∃ (s : State) (q : Nat) (a : Nat) (us : Nat) (last : Nat),
      s.dev.aon = true ∧ (s.dev.queue q).asm = .dropping a us last ∧ s.tb < a + us * 1000) ∧
    (∃ (s : State) (q : Nat) (a : Nat) (us : Nat) (last : Nat),
      s.dev.aon = true ∧ (s.dev.queue q).asm = .dropping a us last ∧ a + us * 1000 ≤ s.tb ∧ s.dev.queueWaits q (a + us * 1000) = false ∧ s.dev.queuesRun = true) ∧
    (∃ (s : State) (q : Nat) (f : OpenFrame) (c : QueueSet),
      s.dev.aon = true ∧ (s.dev.queue q).asm = .opened f ∧ s.dev.setOfQueue q = some c ∧ s.tb < f.openedAt + f.timeoutUs * 1000) ∧
    (∃ (s : State) (q : Nat) (f : OpenFrame) (c : QueueSet) (r : Nat),
      s.dev.aon = true ∧ (s.dev.queue q).asm = .opened f ∧ s.dev.setOfQueue q = some c ∧ f.openedAt + f.timeoutUs * 1000 ≤ s.tb ∧ s.dev.queueWaits q (f.openedAt + f.timeoutUs * 1000) = false ∧ s.dev.queuesRun = true ∧ r ≠ q) ∧
    (∃ (s : State) (q : Nat) (f : OpenFrame) (c : QueueSet),
      s.dev.aon = true ∧ (s.dev.queue q).asm = .opened f ∧ s.dev.setOfQueue q = some c ∧ f.openedAt + f.timeoutUs * 1000 ≤ s.tb ∧ s.dev.queueWaits q (f.openedAt + f.timeoutUs * 1000) = false ∧ s.dev.queuesRun = true ∧ c.deliver = false) ∧
    (∃ (s : State) (q : Nat) (f : OpenFrame) (c : QueueSet),
      s.dev.aon = true ∧ (s.dev.queue q).asm = .opened f ∧ s.dev.setOfQueue q = some c ∧ f.openedAt + f.timeoutUs * 1000 ≤ s.tb ∧ s.dev.queueWaits q (f.openedAt + f.timeoutUs * 1000) = false ∧ s.dev.queuesRun = true ∧ c.deliver = true) ∧
    (∃ (s : State) (q : Nat),
      s.Running ∧ q ∈ s.dev.qen.changed) :=
  ⟨⟨s0_QueueEngineOwnWork, 1023, qSet, 0, by unfold State.Running; decide +kernel⟩,
   ⟨st dv, 1023, qSet, by unfold State.Running; decide +kernel⟩,
   ⟨s1_QueueEngineOwnWork, 1023, qSet, [0], by unfold State.Running; decide +kernel⟩,
   ⟨s2_QueueEngineOwnWork, 1023, 999999900001, 100, 1, by decide +kernel⟩,
   ⟨s3_QueueEngineOwnWork, 1023, 999999900000, 100, 1, by decide +kernel⟩,
   ⟨s4_QueueEngineOwnWork, 1023, { len := 100, user := 3, line0 := 7, openedAt := 999999900001, timeoutUs := 100, lines := [(0, ⟨7, 4, 5⟩)], stack := [0] }, qSet, by decide +kernel⟩,
   ⟨s5_QueueEngineOwnWork, 1023, { len := 100, user := 3, line0 := 7, openedAt := 999999900000, timeoutUs := 100, lines := [(0, ⟨7, 4, 5⟩)], stack := [0] }, qSet, 0, by decide +kernel⟩,
   ⟨s5_QueueEngineOwnWork, 1023, { len := 100, user := 3, line0 := 7, openedAt := 999999900000, timeoutUs := 100, lines := [(0, ⟨7, 4, 5⟩)], stack := [0] }, qSet, by decide +kernel⟩,
   ⟨s6_QueueEngineOwnWork, 1023, { len := 100, user := 3, line0 := 7, openedAt := 999999900000, timeoutUs := 100, lines := [(0, ⟨7, 4, 5⟩)], stack := [0] }, { qSet with deliver := true }, by decide +kernel⟩,
   ⟨s7_QueueEngineOwnWork, 1023, by unfold State.Running; decide +kernel⟩⟩

def s0_TallyEngineOwnWork : State := st { dv with tal := { items := [{ item (rqTally 0 1) with stamp := 1000000000000 }] } }
def s1_TallyEngineOwnWork : State := st { dv with tal := { items := [item (rqTally 0 1)] }, slices := [(0, { tt := [(0, { req := (rqTally 0 1), state := .engine, seq := 0 })] })] }
def s2_TallyEngineOwnWork : State := st { dv with tal := { items := [item (rqTally 4095 1)] }, slices := [(0, { tt := [(0, { req := (rqTally 4095 1), state := .engine, seq := 0 })] })] }
def s3_TallyEngineOwnWork : State := st { dv with tal := { sets := [(0, { side := 1 })], items := [item (rqTally 4095 1)] }, slices := [(0, { tt := [(0, { req := (rqTally 4095 1), state := .engine, seq := 0 })] })] }
def s4_TallyEngineOwnWork : State := st { dv with tal := { items := [item (rqTally 0 3)] }, slices := [(0, { tt := [(0, { req := (rqTally 0 3), state := .engine, seq := 0 })] })] }
def s5_TallyEngineOwnWork : State := st { dv with tal := { items := [item (rqTally 4096 1)] }, slices := [(0, { tt := [(0, { req := (rqTally 4096 1), state := .engine, seq := 0 })] })] }
def s6_TallyEngineOwnWork : State := st { dv with tal := { items := [item (rq .counterRead rCounter 0)] }, slices := [(0, { tt := [(0, { req := (rq .counterRead rCounter 0), state := .engine, seq := 0 })] })] }
def s7_TallyEngineOwnWork : State := st { dv with tal := { sets := [(0, {})], cache := [(4095, { d0 := 3, at0 := some 999999999999 })] } }
def s8_TallyEngineOwnWork : State := st { dv with tal := { sets := [(0, {})], cache := [(4095, { d0 := 3, at0 := some 5, at1 := some 6 })] } }
def s9_TallyEngineOwnWork : State := st { dv with tal := { sets := [(0, { at_ := some 999999999000 })] } }
def s10_TallyEngineOwnWork : State := st { dv with tal := { sets := [(0, { at_ := some 999999999000, copy := some ⟨1, 5, 0, 0, 5, 0, []⟩ })] } }
def s11_TallyEngineOwnWork : State := st { dv with cfg := some { cfg0 with counterSets := [{ cSet with autoSnap := false, epochMs := 1 }] }, tal := { sets := [(0, { lastBoundary := 999999000000 })] } }
def s12_TallyEngineOwnWork : State := st { dv with tal := { sets := [(0, { copy := some ⟨1, 999999997953, 0, 0, 5, 0, []⟩ })] } }
def s13_TallyEngineOwnWork : State := st { dv with tal := { sets := [(0, { copy := some ⟨1, 999999997952, 0, 0, 5, 0, []⟩ })] } }
theorem meets_TallyEngineOwnWork :
    (∃ (s : State) (i : TalItem),
      s.dev.aon = true ∧ firstItem s.dev.tal.items = some i ∧ s.stamped.watermark (i.stamp + 1) = false) ∧
    (∃ (s : State) (i : TalItem) (t : TtEntry),
      s.dev.aon = true ∧ firstItem s.dev.tal.items = some i ∧ s.stamped.watermark (i.stamp + 1) = true ∧ s.dev.entry i.slice i.entry = some t ∧ t.req.rid = i.req.rid ∧ t.state ≠ .done) ∧
    (∃ (s : State) (i : TalItem) (g : RegionRec) (r : RegionRec) (cs : CounterSet),
      s.dev.aon = true ∧ firstItem s.dev.tal.items = some i ∧ s.stamped.watermark (i.stamp + 1) = true ∧ s.dev.cry.past = [] ∧ s.dev.cfgAt i.stamp = s.dev.cfg ∧ s.dev.ustate (regionIx i.req.region) ≠ .retired ∧ s.dev.region i.req.region = some g ∧ s.dev.counterSet g.setId = some cs ∧ s.dev.counterRegion cs.setId = some r ∧ (∀ b c a, s.dev.nextBoundary cs = some (b, c, a) → i.req.stamp < b) ∧ i.req.kind = .tally ∧ i.req.poison = false ∧ i.req.be = BitVec.ofNat 64 0xFFFF ∧ lineAt i.req.data 4 1 = 1 ∧ lineAt i.req.data 0 4 < cs.count ∧ (∃ l, (s.stamped.homeLine r (lineAt i.req.data 0 4 / 8)).1 = .data l) ∧ (s.dev.talSet cs.setId).side = 0) ∧
    (∃ (s : State) (i : TalItem) (g : RegionRec) (r : RegionRec) (cs : CounterSet),
      s.dev.aon = true ∧ firstItem s.dev.tal.items = some i ∧ s.stamped.watermark (i.stamp + 1) = true ∧ s.dev.cry.past = [] ∧ s.dev.cfgAt i.stamp = s.dev.cfg ∧ s.dev.ustate (regionIx i.req.region) ≠ .retired ∧ s.dev.region i.req.region = some g ∧ s.dev.counterSet g.setId = some cs ∧ s.dev.counterRegion cs.setId = some r ∧ (∀ b c a, s.dev.nextBoundary cs = some (b, c, a) → i.req.stamp < b) ∧ i.req.kind = .tally ∧ i.req.poison = false ∧ i.req.be = BitVec.ofNat 64 0xFFFF ∧ lineAt i.req.data 4 1 = 1 ∧ lineAt i.req.data 0 4 < cs.count ∧ (∃ l, (s.stamped.homeLine r (lineAt i.req.data 0 4 / 8)).1 = .data l) ∧ (s.dev.talSet cs.setId).side ≠ 0) ∧
    (∃ (s : State) (i : TalItem) (g : RegionRec) (r : RegionRec) (cs : CounterSet),
      s.dev.aon = true ∧ firstItem s.dev.tal.items = some i ∧ s.stamped.watermark (i.stamp + 1) = true ∧ s.dev.cry.past = [] ∧ s.dev.cfgAt i.stamp = s.dev.cfg ∧ s.dev.ustate (regionIx i.req.region) ≠ .retired ∧ s.dev.region i.req.region = some g ∧ s.dev.counterSet g.setId = some cs ∧ s.dev.counterRegion cs.setId = some r ∧ (∀ b c a, s.dev.nextBoundary cs = some (b, c, a) → i.req.stamp < b) ∧ i.req.kind = .tally ∧ i.req.poison = false ∧ i.req.be = BitVec.ofNat 64 0xFFFF ∧ 2 < lineAt i.req.data 4 1) ∧
    (∃ (s : State) (i : TalItem) (g : RegionRec) (r : RegionRec) (cs : CounterSet),
      s.dev.aon = true ∧ firstItem s.dev.tal.items = some i ∧ s.stamped.watermark (i.stamp + 1) = true ∧ s.dev.cry.past = [] ∧ s.dev.cfgAt i.stamp = s.dev.cfg ∧ s.dev.ustate (regionIx i.req.region) ≠ .retired ∧ s.dev.region i.req.region = some g ∧ s.dev.counterSet g.setId = some cs ∧ s.dev.counterRegion cs.setId = some r ∧ (∀ b c a, s.dev.nextBoundary cs = some (b, c, a) → i.req.stamp < b) ∧ i.req.kind = .tally ∧ i.req.poison = false ∧ i.req.be = BitVec.ofNat 64 0xFFFF ∧ lineAt i.req.data 4 1 = 1 ∧ cs.count ≤ lineAt i.req.data 0 4) ∧
    (∃ (s : State) (i : TalItem) (g : RegionRec) (r : RegionRec) (cs : CounterSet) (t : TtEntry),
      s.dev.aon = true ∧ firstItem s.dev.tal.items = some i ∧ s.stamped.watermark (i.stamp + 1) = true ∧ s.dev.cry.past = [] ∧ s.dev.cfgAt i.stamp = s.dev.cfg ∧ s.dev.ustate (regionIx i.req.region) ≠ .retired ∧ s.dev.region i.req.region = some g ∧ s.dev.counterSet g.setId = some cs ∧ s.dev.counterRegion cs.setId = some r ∧ (∀ b c a, s.dev.nextBoundary cs = some (b, c, a) → i.req.stamp < b) ∧ i.req.kind = .counterRead ∧ (s.dev.slot g.keyBase).st ≠ .empty ∧ (s.dev.slot g.keyBase).st ≠ .sweepNew ∧ s.dev.entry i.slice i.entry = some t ∧ t.req.rid = i.req.rid ∧ t.state ≠ .done) ∧
    (∃ (s : State) (set : Nat) (n : Nat) (t : Nat),
      s.dev.aon = true ∧ (s.dev.talEntry set n).at0 = some t ∧ s.tb < t + s.dev.reg .TAL_CTL_FOLD_NS) ∧
    (∃ (s : State) (set : Nat) (n : Nat) (t : Nat) (r : RegionRec) (l : Line),
      s.dev.aon = true ∧ (s.dev.talEntry set n).at0 = some t ∧ t + s.dev.reg .TAL_CTL_FOLD_NS ≤ s.tb ∧ s.dev.qen.recovering = none ∧ (s.dev.talSet set).copy = none ∧ s.dev.tal.cache.wf = true ∧ s.dev.counterRegion set = some r ∧ r.persist = false ∧ (s.dev.slot r.keyBase).st = .active ∧ (s.stamped.homeLine r (n / 8)).1 = .data l ∧ (s.dev.talEntry set n).at1.isSome = true) ∧
    (∃ (s : State) (auto : Bool) (set : Nat) (b : Nat) (cs : CounterSet) (c : Bool) (a : Bool),
      s.dev.aon = true ∧ s.dev.memActive = true ∧ s.dev.counterSet set = some cs ∧ s.dev.nextBoundary cs = some (b, c, a) ∧ s.dev.cfgAt b = s.dev.cfg ∧ (if auto then a else c) = true ∧ s.stamped.watermark b = true ∧ (∀ i ∈ s.dev.tal.items, b ≤ i.stamp) ∧ (c || cs.autoSnap) = true ∧ cs.snapRegion ≠ 255 ∧ (s.dev.talSet set).copy = none) ∧
    (∃ (s : State) (auto : Bool) (set : Nat) (b : Nat) (cs : CounterSet) (c : Bool) (a : Bool),
      s.dev.aon = true ∧ s.dev.memActive = true ∧ s.dev.counterSet set = some cs ∧ s.dev.nextBoundary cs = some (b, c, a) ∧ s.dev.cfgAt b = s.dev.cfg ∧ (if auto then a else c) = true ∧ s.stamped.watermark b = true ∧ (∀ i ∈ s.dev.tal.items, b ≤ i.stamp) ∧ (c || cs.autoSnap) = true ∧ cs.snapRegion ≠ 255 ∧ (s.dev.talSet set).copy.isSome = true) ∧
    (∃ (s : State) (auto : Bool) (set : Nat) (b : Nat) (cs : CounterSet) (c : Bool) (a : Bool),
      s.dev.aon = true ∧ s.dev.memActive = true ∧ s.dev.counterSet set = some cs ∧ s.dev.nextBoundary cs = some (b, c, a) ∧ s.dev.cfgAt b = s.dev.cfg ∧ (if auto then a else c) = true ∧ s.stamped.watermark b = true ∧ (∀ i ∈ s.dev.tal.items, b ≤ i.stamp) ∧ (c || cs.autoSnap) = false) ∧
    (∃ (s : State) (set : Nat) (cs : CounterSet) (c : SnapCopy),
      s.Running ∧ s.dev.counterSet set = some cs ∧ (s.dev.talSet set).copy = some c ∧ s.tb < c.boundary + ceilDiv cs.count 2) ∧
    (∃ (s : State) (set : Nat) (cs : CounterSet) (c : SnapCopy),
      s.Running ∧ s.dev.counterSet set = some cs ∧ (s.dev.talSet set).copy = some c ∧ c.boundary + ceilDiv cs.count 2 ≤ s.tb) :=
  ⟨⟨s0_TallyEngineOwnWork, { item (rqTally 0 1) with stamp := 1000000000000 }, by decide +kernel⟩,
   ⟨s1_TallyEngineOwnWork, item (rqTally 0 1), { req := (rqTally 0 1), state := .engine, seq := 0 }, by decide +kernel⟩,
   ⟨s2_TallyEngineOwnWork, item (rqTally 4095 1), rCounter, rCounter, cSet, (by decide +kernel), (by decide +kernel), (by decide +kernel), (by decide +kernel), (by decide +kernel), (by decide +kernel), (by decide +kernel), (by decide +kernel), (by decide +kernel), (by intro b c a h; exact absurd (h.symm.trans (by decide +kernel : _ = none)) (Option.some_ne_none _)), (by decide +kernel), (by decide +kernel), (by decide +kernel), (by decide +kernel), (by decide +kernel), (⟨0, by decide +kernel⟩), (by decide +kernel)⟩,
   ⟨s3_TallyEngineOwnWork, item (rqTally 4095 1), rCounter, rCounter, cSet, (by decide +kernel), (by decide +kernel), (by decide +kernel), (by decide +kernel), (by decide +kernel), (by decide +kernel), (by decide +kernel), (by decide +kernel), (by decide +kernel), (by intro b c a h; exact absurd (h.symm.trans (by decide +kernel : _ = none)) (Option.some_ne_none _)), (by decide +kernel), (by decide +kernel), (by decide +kernel), (by decide +kernel), (by decide +kernel), (⟨0, by decide +kernel⟩), (by decide +kernel)⟩,
   ⟨s4_TallyEngineOwnWork, item (rqTally 0 3), rCounter, rCounter, cSet, (by decide +kernel), (by decide +kernel), (by decide +kernel), (by decide +kernel), (by decide +kernel), (by decide +kernel), (by decide +kernel), (by decide +kernel), (by decide +kernel), (by intro b c a h; exact absurd (h.symm.trans (by decide +kernel : _ = none)) (Option.some_ne_none _)), (by decide +kernel), (by decide +kernel), (by decide +kernel), (by decide +kernel)⟩,
   ⟨s5_TallyEngineOwnWork, item (rqTally 4096 1), rCounter, rCounter, cSet, (by decide +kernel), (by decide +kernel), (by decide +kernel), (by decide +kernel), (by decide +kernel), (by decide +kernel), (by decide +kernel), (by decide +kernel), (by decide +kernel), (by intro b c a h; exact absurd (h.symm.trans (by decide +kernel : _ = none)) (Option.some_ne_none _)), (by decide +kernel), (by decide +kernel), (by decide +kernel), (by decide +kernel), (by decide +kernel)⟩,
   ⟨s6_TallyEngineOwnWork, item (rq .counterRead rCounter 0), rCounter, rCounter, cSet, { req := (rq .counterRead rCounter 0), state := .engine, seq := 0 }, (by decide +kernel), (by decide +kernel), (by decide +kernel), (by decide +kernel), (by decide +kernel), (by decide +kernel), (by decide +kernel), (by decide +kernel), (by decide +kernel), (by intro b c a h; exact absurd (h.symm.trans (by decide +kernel : _ = none)) (Option.some_ne_none _)), (by decide +kernel), (by decide +kernel), (by decide +kernel), (by decide +kernel), (by decide +kernel), (by decide +kernel)⟩,
   ⟨s7_TallyEngineOwnWork, 0, 4095, 999999999999, by decide +kernel⟩,
   ⟨s8_TallyEngineOwnWork, 0, 4095, 5, rCounter, 0, by decide +kernel⟩,
   ⟨s9_TallyEngineOwnWork, false, 0, 999999999000, cSet, true, false, by decide +kernel⟩,
   ⟨s10_TallyEngineOwnWork, false, 0, 999999999000, cSet, true, false, by decide +kernel⟩,
   ⟨s11_TallyEngineOwnWork, true, 0, 1000000000000, { cSet with autoSnap := false, epochMs := 1 }, false, true, by decide +kernel⟩,
   ⟨s12_TallyEngineOwnWork, 0, cSet, ⟨1, 999999997953, 0, 0, 5, 0, []⟩, by unfold State.Running; decide +kernel⟩,
   ⟨s13_TallyEngineOwnWork, 0, cSet, ⟨1, 999999997952, 0, 0, 5, 0, []⟩, by unfold State.Running; decide +kernel⟩⟩

def s0_MediaWritesTakeEffect : State := st { dv with med := { dv.med with rows := [⟨1, 0, []⟩] }, tier := [(0, dirtyPage)] }
def s1_MediaWritesTakeEffect : State := st { dv with med := { dv.med with rows := [⟨1, 0, (List.range 7).map (fun i => rowPage (i + 10) none)⟩] }, tier := [(0, dirtyPage)] }
def s2_MediaWritesTakeEffect : State := st { dv with tier := [(0, { dirtyPage with dirtiedAt := 999999999000 })] }
def s3_MediaWritesTakeEffect : State := st { dv with med := { dv.med with rows := [⟨1, 0, rowPage 0 (some 1) :: (List.range 7).map (fun i => rowPage (i + 10) none)⟩] }, tier := [(0, dirtyPage)] }
def s4_MediaWritesTakeEffect : State := st { dv with shadow := [(0, { folding := [(3, 0)], epoch := 1 })], tier := [(262144, dirtyPage)] }
def s5_MediaWritesTakeEffect : State := st { dv with med := { dv.med with staged := [3], rows := [⟨2, 0, []⟩], bands := dv.med.bands ++ [(2, { set := 3, blocks := List.replicate 10 2, stream := 3, state := .opened, openedAt := 0 })], nextBand := 3 } }
def s6_MediaWritesTakeEffect : State := st { dv with med := { dv.med with remirror := true }, tier := [(0, dirtyPage)] }
def s7_MediaWritesTakeEffect : State := st { dv with med := { dv.med with accruedAt := 999000000000 } }
theorem meets_MediaWritesTakeEffect :
    (∃ (s : State) (lpn : Nat) (r : RowFill),
      s.Running ∧ isLpn lpn = true ∧ (s.dev.page lpn).dirty = true ∧ (s.dev.page lpn).landed ≠ some (s.dev.page lpn).version ∧ (∀ r ∈ s.dev.med.rows, ∀ p ∈ r.pages, p.lpn = lpn → p.version = none) ∧ (s.dev.page lpn).dirtiedAt + s.dev.wbAge ≤ s.tb ∧ s.stamped.fillRow (s.stamped.streamOf lpn) none = some r ∧ r.pages.length < 7) ∧
    (∃ (s : State) (lpn : Nat) (r : RowFill) (b : Band) (i : Nat),
      s.Running ∧ isLpn lpn = true ∧ (s.dev.page lpn).dirty = true ∧ (s.dev.page lpn).landed ≠ some (s.dev.page lpn).version ∧ (∀ r ∈ s.dev.med.rows, ∀ p ∈ r.pages, p.lpn = lpn → p.version = none) ∧ (s.dev.page lpn).dirtiedAt + s.dev.wbAge ≤ s.tb ∧ s.stamped.fillRow (s.stamped.streamOf lpn) none = some r ∧ r.pages.length = 7 ∧ s.dev.band r.band = some b ∧ i < 10) ∧
    (∃ (s : State) (lpn : Nat),
      s.Running ∧ isLpn lpn = true ∧ (s.dev.page lpn).dirty = true ∧ (s.dev.page lpn).landed ≠ some (s.dev.page lpn).version ∧ (∀ r ∈ s.dev.med.rows, ∀ p ∈ r.pages, p.lpn = lpn → p.version = none) ∧ s.tb < (s.dev.page lpn).dirtiedAt + s.dev.wbAge ∧ s.dev.uncovered * 4096 * 4 ≤ s.dev.budget ∧ (s.dev.page lpn).unpers = false ∧ s.dev.boot.rollTier = none ∧ s.dev.boot.tierWait = none) ∧
    (∃ (s : State) (band : Nat) (row : Nat) (errors : Nat) (r : RowFill) (b : Band) (i : Nat) (p : RowPage) (v : Nat),
      s.Running ∧ s.dev.med.rows.find? (fun r => r.band = band && r.row = row && r.pages.length = 8) = some r ∧ s.dev.band band = some b ∧ (∀ c ∈ s.dev.med.cmds, ∀ m, c.2.use ≠ .sheet band row m) ∧ (∀ p ∈ s.dev.med.progs, p.op = 2 → p.band = band → p.row ≠ row) ∧ (∀ e ∈ s.dev.med.bands, e.2.rebuild = false) ∧ errors ≤ 8 ∧ (r.pages.map (·.lpn)).Nodup ∧ r.pages[i]? = some p ∧ p.version = some v ∧ isMeta p.lpn = false ∧ s.dev.mapEntry p.lpn = p.src ∧ (s.dev.page p.lpn).dirty = true ∧ (s.dev.page p.lpn).version = v) ∧
    (∃ (s : State) (band : Nat) (row : Nat) (errors : Nat) (r : RowFill) (b : Band),
      s.Running ∧ s.dev.med.rows.find? (fun r => r.band = band && r.row = row && r.pages.length = 8) = some r ∧ s.dev.band band = some b ∧ (∀ c ∈ s.dev.med.cmds, ∀ m, c.2.use ≠ .sheet band row m) ∧ (∀ p ∈ s.dev.med.progs, p.op = 2 → p.band = band → p.row ≠ row) ∧ (∀ e ∈ s.dev.med.bands, e.2.rebuild = false) ∧ 8 < errors) ∧
    (∃ (s : State) (r : RegionRec) (p : Nat) (k : Nat),
      s.Running ∧ s.dev.region r.number = some r ∧ (s.dev.shadowOf r.number).folding ≠ [] ∧ s.dev.commitHeld r.number = false ∧ (s.dev.shadowOf r.number).folding = [(p, k)] ∧ s.dev.pid r true k ≠ s.dev.pid r false p ∧ isLpn (s.dev.pid r false p) = true) ∧
    (∃ (s : State) (l : Nat) (r : RowFill),
      s.Running ∧ s.dev.med.staged.find? (fun l => !s.dev.med.rows.any (fun r => r.pages.any (fun p => p.lpn = l))) = some l ∧ ((s.dev.chooseSet false).isSome = true ∨ s.dev.streamOpen 3 ≠ []) ∧ s.dev.fillRow 3 none = some r) ∧
    (∃ (s : State) (lpn : Nat) (p : TPage),
      s.dev.aon = true ∧ s.dev.med.remirror = true ∧ 2 ≤ s.dev.onlineStacks.length ∧ s.dev.tier.wf = true ∧ isLpn lpn = true ∧ p.dirty = true) ∧
    (∃ (s : State),
      s.dev.aon = true ∧ s.dev.med.creditInit = true ∧ s.tb < s.dev.med.accruedAt + 1000000000) ∧
    (∃ (s : State),
      s.dev.aon = true ∧ s.dev.med.creditInit = true ∧ s.dev.med.accruedAt + 1000000000 ≤ s.tb) :=
  ⟨⟨s0_MediaWritesTakeEffect, 0, ⟨1, 0, []⟩, by unfold State.Running; decide +kernel⟩,
   ⟨s1_MediaWritesTakeEffect, 0, ⟨1, 0, (List.range 7).map (fun i => rowPage (i + 10) none)⟩, { set := 2, blocks := List.replicate 10 1, stream := 0, state := .opened, openedAt := 0 }, 9, by unfold State.Running; decide +kernel⟩,
   ⟨s2_MediaWritesTakeEffect, 0, by unfold State.Running; decide +kernel⟩,
   ⟨s3_MediaWritesTakeEffect, 1, 0, 8, ⟨1, 0, rowPage 0 (some 1) :: (List.range 7).map (fun i => rowPage (i + 10) none)⟩, { set := 2, blocks := List.replicate 10 1, stream := 0, state := .opened, openedAt := 0 }, 0, rowPage 0 (some 1), 1, (by unfold State.Running; decide +kernel), (by decide +kernel), (by decide +kernel), (by intro c hc; cases hc), (by decide +kernel), (by decide +kernel), (by decide +kernel), (by decide +kernel), (by decide +kernel), (by decide +kernel), (by decide +kernel), (by decide +kernel), (by decide +kernel), (by decide +kernel)⟩,
   ⟨s3_MediaWritesTakeEffect, 1, 0, 9, ⟨1, 0, rowPage 0 (some 1) :: (List.range 7).map (fun i => rowPage (i + 10) none)⟩, { set := 2, blocks := List.replicate 10 1, stream := 0, state := .opened, openedAt := 0 }, (by unfold State.Running; decide +kernel), (by decide +kernel), (by decide +kernel), (by intro c hc; cases hc), (by decide +kernel), (by decide +kernel), (by decide +kernel)⟩,
   ⟨s4_MediaWritesTakeEffect, rTable, 3, 0, by unfold State.Running; decide +kernel⟩,
   ⟨s5_MediaWritesTakeEffect, 3, ⟨2, 0, []⟩, by unfold State.Running; decide +kernel⟩,
   ⟨s6_MediaWritesTakeEffect, 0, dirtyPage, by decide +kernel⟩,
   ⟨st dv, by decide +kernel⟩,
   ⟨s7_MediaWritesTakeEffect, by decide +kernel⟩⟩

def s0_MediaUpkeepTakesEffect : State := st { dv with cfg := some (cfgFree 60), med := dv.med }
def s1_MediaUpkeepTakesEffect : State := st { dv with cfg := some (cfgFree 60), med := { dv.med with bands := [(0, { set := 0, blocks := List.replicate 10 0, stream := 5, state := .opened, openedAt := 0 }), (1, { set := 2, blocks := List.replicate 10 1, stream := 0, state := .full, openedAt := 0, urgent := false })] } }
def s2_MediaUpkeepTakesEffect : State := st { dv with cfg := some (cfgFree 8), med := dv.med }
def s3_MediaUpkeepTakesEffect : State := st { dv with cfg := some (cfgFree 8), med := { dv.med with bands := [(0, { set := 0, blocks := List.replicate 10 0, stream := 5, state := .opened, openedAt := 0 }), (1, { set := 2, blocks := List.replicate 10 1, stream := 0, state := .full, openedAt := 0, urgent := true })] } }
def s4_MediaUpkeepTakesEffect : State := st { dv with cfg := some (cfgFree 8), med := { dv.med with blocks := (List.range 10).map (fun i => (blockKey (i * 16) 1, { state := .ready })) } }
def s5_MediaUpkeepTakesEffect : State := st { dv with cfg := some (cfgFree 101), med := { dv.med with gather := List.range 200 } }
def s6_MediaUpkeepTakesEffect : State := st { dv with med := { dv.med with map := [(5, entryOf 1 3 0)], bands := [(1, { set := 2, blocks := List.replicate 10 1, stream := 0, state := .opened, openedAt := 0, rows := 4 })] } }
def s7_MediaUpkeepTakesEffect : State := st { dv with med := { dv.med with dies := [(240, { sentinelDue := true })] } }
theorem meets_MediaUpkeepTakesEffect :
    (∃ (s : State),
      s.Running ∧ s.dev.MediaCalm ∧ s.dev.freeReady * 100 < 2 * s.dev.freeLow * s.dev.allBlocks ∧ s.stamped.cullets = []) ∧
    (∃ (s : State),
      s.Running ∧ s.dev.MediaCalm ∧ s.dev.freeReady * 100 < 2 * s.dev.freeLow * s.dev.allBlocks ∧ s.stamped.cullets ≠ []) ∧
    (∃ (s : State),
      s.Running ∧ 2 * s.dev.freeLow * s.dev.allBlocks ≤ s.dev.freeReady * 100) ∧
    (∃ (s : State),
      s.Running ∧ s.dev.MediaCalm ∧ s.stamped.lehrNext = []) ∧
    (∃ (s : State),
      s.Running ∧ s.dev.MediaCalm ∧ s.stamped.lehrNext ≠ []) ∧
    (∃ (s : State) (j : Nat),
      s.Running ∧ 2 * s.dev.freeLow * s.dev.allBlocks < s.dev.freeReady * 100 ∧ s.dev.footprint + gatherBandBytes ≤ ((s.dev.cfg.map (·.band.gatherCeil)).getD 0) * 2 ^ 30 ∧ s.dev.chooseSet true = some j ∧ s.dev.med.bands.has (s.dev.med.nextBand % 0x1FFF8) = false) ∧
    (∃ (s : State),
      s.Running ∧ (s.dev.freeReady * 100 ≤ 2 * s.dev.freeLow * s.dev.allBlocks ∨ s.dev.chooseSet true = none)) ∧
    (∃ (s : State),
      s.Running ∧ s.dev.freeReady * 100 < s.dev.freeLow * s.dev.allBlocks ∧ s.dev.gatherFloor + gatherBandBytes ≤ s.dev.footprint) ∧
    (∃ (s : State),
      s.Running ∧ (s.dev.freeLow * s.dev.allBlocks ≤ s.dev.freeReady * 100 ∨ s.dev.footprint < s.dev.gatherFloor + gatherBandBytes)) ∧
    (∃ (s : State) (die : Nat),
      s.dev.aon = true ∧ s.dev.MayClear die ∧ s.dev.clearable die ≠ [] ∧ (∀ k ∈ s.dev.clearable die, (s.dev.block k).wear < 100000000) ∧ s.dev.med.progs = [] ∧ (s.dev.die die).op = none ∧ (s.dev.die die).thru = none ∧ (s.dev.die die).queue = [] ∧ s.dev.serving die = false ∧ s.dev.mayRun die = true ∧ s.stamped.rateAllows { die := die, op := 3, use := .control, dur := 0 } = true) ∧
    (∃ (s : State) (n : Nat) (row : Nat) (b : Band) (die : Nat),
      s.Running ∧ s.dev.band n = some b ∧ s.dev.flag .DRT_LEHR_CTL_SCAN_EN = true ∧ row < b.rows ∧ (∃ e ∈ s.dev.heldIn n, entryRow e.2 = row) ∧ die ∈ s.dev.setDies b.set ∧ s.dev.dieReachable die = true) ∧
    (∃ (s : State) (die : Nat) (m : Nat),
      s.dev.aon = true ∧ s.dev.ring.contains die = true ∧ s.dev.dieReachable die = true ∧ s.dev.reg .JRN_STATUS_QSTATE = 0 ∧ s.dev.rst.core = .none ∧ s.dev.homeLink die = some m ∧ ((s.dev.die die).sentinelDue = true ∨ (s.dev.die die).sentinelAt + 86400000000000 ≤ s.tb)) :=
  ⟨⟨s0_MediaUpkeepTakesEffect, (by unfold State.Running; decide +kernel), (by unfold Dev.MediaCalm; decide +kernel), (by decide +kernel), (by decide +kernel)⟩,
   ⟨s1_MediaUpkeepTakesEffect, by unfold State.Running Dev.MediaCalm; decide +kernel⟩,
   ⟨s2_MediaUpkeepTakesEffect, by unfold State.Running; decide +kernel⟩,
   ⟨s2_MediaUpkeepTakesEffect, by unfold State.Running Dev.MediaCalm; decide +kernel⟩,
   ⟨s3_MediaUpkeepTakesEffect, by unfold State.Running Dev.MediaCalm; decide +kernel⟩,
   ⟨s4_MediaUpkeepTakesEffect, 0, by unfold State.Running; decide +kernel⟩,
   ⟨s0_MediaUpkeepTakesEffect, by unfold State.Running; decide +kernel⟩,
   ⟨s5_MediaUpkeepTakesEffect, by unfold State.Running; decide +kernel⟩,
   ⟨s2_MediaUpkeepTakesEffect, by unfold State.Running; decide +kernel⟩,
   ⟨st dv, 240, by unfold Dev.MayClear; decide +kernel⟩,
   ⟨s6_MediaUpkeepTakesEffect, 1, 3, { set := 2, blocks := List.replicate 10 1, stream := 0, state := .opened, openedAt := 0, rows := 4 }, 32, by unfold State.Running; decide +kernel⟩,
   ⟨s7_MediaUpkeepTakesEffect, 240, 30, by decide +kernel⟩⟩

def s0_TrackingTableEntriesProgress : State := st { dv with slices := [(15, { tt := [(8191, { req := (rq .read rVol 64), state := .lookup, seq := 0 })] })] }
def s1_TrackingTableEntriesProgress : State := st { dv with slices := [(15, { tt := [(8191, { req := (rq .write rVol 64), state := .write, seq := 0 })] })], heads := [(0, { head0 with live := [(1, (rq .write rVol 64))] })] }
def s2_TrackingTableEntriesProgress : State := st { dv with slices := [(15, { tt := [(8191, { req := (rq .read rTable 64), state := .lookup, seq := 0, dramOut := true })] })] }
def s3_TrackingTableEntriesProgress : State := st { dv with slices := [(15, { tt := [(8191, { req := (rq .read rTable 64), state := .lookup, seq := 0, dramOut := true })] })], heads := [(0, { head0 with live := [(1, (rq .read rTable 64))] })] }
def s4_TrackingTableEntriesProgress : State := st { dv with slices := [(15, { tt := [(8191, { req := (rq .read rTable 64), state := .lookup, seq := 0, dramOut := true, media := true })] })], heads := [(0, { head0 with live := [(1, (rq .read rTable 64))] })] }
def s5_TrackingTableEntriesProgress : State := st { dv with slices := [(15, { tt := [(8191, { req := (rq .write rTable 64), state := .lookup, seq := 0, acked := true, dramOut := true })] })] }
def s6_TrackingTableEntriesProgress : State := st { dv with slices := [(15, { tt := [(8191, { req := (rq .write rTable 64), state := .lookup, seq := 0, acked := true, dramOut := true, media := true })] })] }
def s7_TrackingTableEntriesProgress : State := st { dv with slices := [(15, { tt := [(8191, { req := (rq .read rTable 64), state := .lookup, seq := 0, dramOut := true, media := true })] })], med := { dv.med with map := [(0, entryOf 1 0 0)], pages := [(entryOf 1 0 0, { lpn := 0, lines := [], writtenAt := 0 })] } }
def s8_TrackingTableEntriesProgress : State := st { dv with slices := [(15, { tt := [(8191, { req := (rq .read rTable 64), state := .lookup, seq := 0, media := true })] })], heads := [(0, { head0 with live := [(1, (rq .read rTable 64))] })], med := { dv.med with map := [(0, entryOf 1 0 0)], pages := [(entryOf 1 0 0, { lpn := 0, lines := [], writtenAt := 0 })], reads := [(0, { slice := 15, entry := 8191, loc := entryOf 1 0 0, lpn := 0, grain := 0, die := 32, path := .direct, predicted := 5, deadline := 5, ready := true })] } }
def s9_TrackingTableEntriesProgress : State := st { dv with slices := [(15, { tt := [(8191, { req := (rq .write rTable 64), state := .lookup, seq := 0, sent := true, media := true })] })], med := { dv.med with map := [(0, entryOf 1 0 0)], pages := [(entryOf 1 0 0, { lpn := 0, lines := [], writtenAt := 0 })], reads := [(0, { slice := 15, entry := 8191, loc := entryOf 1 0 0, lpn := 0, grain := 0, die := 32, path := .direct, predicted := 5, deadline := 5, ready := true })] } }
def s10_TrackingTableEntriesProgress : State := st { dv with slices := [(15, { tt := [(8191, { req := (rq .write rVol 64), state := .write, seq := 0, sent := true })] })] }
def s11_TrackingTableEntriesProgress : State := st { dv with slices := [(15, { tt := [(8191, { req := (rq .write rVol 64), state := .write, seq := 0 })] })] }
def s12_TrackingTableEntriesProgress : State := st { dv with slices := [(15, { tt := [(8191, { req := (rq .write rVol 64), state := .write, seq := 0, acked := true })] })], heads := [(0, { head0 with live := [(1, (rq .write rVol 64))] })] }
def s13_TrackingTableEntriesProgress : State := st { dv with slices := [(15, { tt := [(8191, { req := (rqTally 5 1), state := .engine, seq := 0, sent := true, applied := true })] })] }
def s14_TrackingTableEntriesProgress : State := st { dv with slices := [(15, { tt := [(8191, { req := (rq .qstatus rQueue (2 ^ 32)), state := .engine, seq := 0, applied := true })] })], heads := [(0, { head0 with live := [(1, (rq .qstatus rQueue (2 ^ 32)))] })] }
def s15_TrackingTableEntriesProgress : State := st { dv with slices := [(15, { tt := [(8191, { req := { rq .read rVol 64 with deadline := 1000000000000 }, state := .lookup, seq := 0 })] })] }
def s16_TrackingTableEntriesProgress : State := st { dv with heads := [(0, { head0 with live := [(1, { rq .read rVol 64 with answerAt := 1000000000001 })] })] }
def s17_TrackingTableEntriesProgress : State := st { dv with heads := [(0, { head0 with live := [(1, { rq .read rVol 64 with answerAt := 1000000000000 })] })] }
def s18_TrackingTableEntriesProgress : State := st { dv with slices := [(15, { tt := [(8191, { req := (rq .read rTable 64), state := .lookup, seq := 0, media := true })] })], med := { dv.med with map := [(0, entryOf 1 0 0)], pages := [(entryOf 1 0 0, { lpn := 0, lines := [], writtenAt := 0 })], reads := [(0, { slice := 15, entry := 8191, loc := entryOf 1 0 0, lpn := 0, grain := 0, die := 32, path := .direct, predicted := 1000000000001, deadline := 5, ready := false })] } }
def s19_TrackingTableEntriesProgress : State := st { dv with slices := [(15, { tt := [(8191, { req := (rq .read rTable 64), state := .lookup, seq := 0, media := true })] })], med := { dv.med with map := [(0, entryOf 1 0 0)], pages := [(entryOf 1 0 0, { lpn := 0, lines := [], writtenAt := 0 })], reads := [(0, { slice := 15, entry := 8191, loc := entryOf 1 0 0, lpn := 0, grain := 0, die := 32, path := .direct, predicted := 1000000000000, deadline := 5, ready := false })] } }
def s20_TrackingTableEntriesProgress : State := st (dv.setDie 15 { op := some { clear := false, endAt := 5, opid := 1, suspended := some 999999990001 } })
def s21_TrackingTableEntriesProgress : State := st (dv.setDie 15 { op := some { clear := false, endAt := 5, opid := 1, suspended := some 999999990000 } })
def s22_TrackingTableEntriesProgress : State := st (dv.setDie 15 { op := some { clear := false, endAt := 5, opid := 1, suspended := some 999999990000 }, queue := [⟨.grain 0 false, 2, 5, 0⟩] })
theorem meets_TrackingTableEntriesProgress :
    (∃ (s : State) (k : Nat) (e : Nat) (t : TtEntry),
      s.dev.aon = true ∧ s.dev.sliceRuns k = true ∧ s.dev.SliceQuiet k ∧ s.dev.entry k e = some t ∧ t.acked = false ∧ t.state ≠ .done ∧ (t.req.kind.isRead = true ∨ t.through = true ∨ t.sent = true)) ∧
    (∃ (s : State) (k : Nat) (e : Nat) (t : TtEntry),
      s.dev.aon = true ∧ s.dev.sliceRuns k = true ∧ s.dev.SliceQuiet k ∧ s.dev.entry k e = some t ∧ t.acked = false ∧ t.req.kind.isRead = false ∧ t.through = false ∧ t.sent = false ∧ ((s.dev.head t.req.head).live.find t.req.rid).isSome = true ∧ t.req.kind ≠ .commitDoorbell) ∧
    (∃ (s : State) (k : Nat) (e : Nat) (t : TtEntry) (epoch : Nat),
      s.dev.aon = true ∧ s.dev.sliceRuns k = true ∧ s.dev.SliceQuiet k ∧ s.dev.entry k e = some t ∧ t.state = .lookup ∧ t.dramOut = true ∧ epoch ≠ t.epoch) ∧
    (∃ (s : State) (k : Nat) (e : Nat) (t : TtEntry),
      s.dev.aon = true ∧ s.dev.sliceRuns k = true ∧ s.dev.SliceQuiet k ∧ s.dev.entry k e = some t ∧ t.state = .lookup ∧ t.dramOut = true ∧ (t.media = false ∨ mapPoisoned ≤ s.dev.mapEntry (s.dev.entryPid t)) ∧ t.req.kind.isRead = true ∧ ((s.dev.head t.req.head).live.find t.req.rid).isSome = true) ∧
    (∃ (s : State) (k : Nat) (e : Nat) (t : TtEntry),
      s.dev.aon = true ∧ s.dev.sliceRuns k = true ∧ s.dev.SliceQuiet k ∧ s.dev.entry k e = some t ∧ t.state = .lookup ∧ t.dramOut = true ∧ (t.media = false ∨ mapPoisoned ≤ s.dev.mapEntry (s.dev.entryPid t)) ∧ t.req.kind.isRead = true ∧ ((s.dev.head t.req.head).live.find t.req.rid).isSome = true) ∧
    (∃ (s : State) (k : Nat) (e : Nat) (t : TtEntry),
      s.dev.aon = true ∧ s.dev.sliceRuns k = true ∧ s.dev.SliceQuiet k ∧ s.dev.entry k e = some t ∧ t.state = .lookup ∧ t.dramOut = true ∧ (t.media = false ∨ mapPoisoned ≤ s.dev.mapEntry (s.dev.entryPid t)) ∧ t.req.kind.isRead = false) ∧
    (∃ (s : State) (k : Nat) (e : Nat) (t : TtEntry),
      s.dev.aon = true ∧ s.dev.sliceRuns k = true ∧ s.dev.SliceQuiet k ∧ s.dev.entry k e = some t ∧ t.state = .lookup ∧ t.dramOut = true ∧ (t.media = false ∨ mapPoisoned ≤ s.dev.mapEntry (s.dev.entryPid t)) ∧ t.req.kind.isRead = false) ∧
    (∃ (s : State) (k : Nat) (e : Nat) (t : TtEntry) (die : Nat),
      s.dev.aon = true ∧ s.dev.sliceRuns k = true ∧ s.dev.SliceQuiet k ∧ s.dev.entry k e = some t ∧ t.state = .lookup ∧ t.dramOut = true ∧ t.media = true ∧ s.dev.mapEntry (s.dev.entryPid t) < mapPoisoned ∧ k < 16 ∧ s.dev.cfgAt t.req.stamp = s.dev.cfg ∧ (t.mapOut = true → s.dev.mapHeld (s.dev.entryPid t / mapPageEntries) = true) ∧ (∀ r ∈ s.dev.med.reads, r.2.slice ≠ k ∨ r.2.entry ≠ e ∨ r.2.epoch ≠ t.epoch) ∧ s.dev.grainDie (s.dev.mapEntry (s.dev.entryPid t)) (t.req.off % 4096 / 256) = some die) ∧
    (∃ (s : State) (k : Nat) (e : Nat) (n : Nat) (t : TtEntry) (r : MRead),
      s.dev.aon = true ∧ s.dev.sliceRuns k = true ∧ s.dev.SliceQuiet k ∧ s.dev.entry k e = some t ∧ t.state = .lookup ∧ t.req.kind.isEngine = false ∧ s.dev.med.reads.find? (fun x => x.2.slice = k && x.2.entry = e && x.2.epoch = t.epoch && x.2.ready) = some (n, r) ∧ r.step = 0 ∧ r.spec = false ∧ s.dev.chainCheck r .ok = .ok ∧ (∀ x ∈ s.dev.med.reads, x.2.slice ≠ fetchSlice k ∨ x.2.entry ≠ e ∨ x.2.epoch ≠ t.epoch) ∧ t.req.kind.isRead = true ∧ ((s.dev.head t.req.head).live.find t.req.rid).isSome = true) ∧
    (∃ (s : State) (k : Nat) (e : Nat) (n : Nat) (t : TtEntry) (r : MRead) (n : Nat),
      s.dev.aon = true ∧ s.dev.sliceRuns k = true ∧ s.dev.SliceQuiet k ∧ s.dev.entry k e = some t ∧ t.state = .lookup ∧ t.req.kind.isEngine = false ∧ s.dev.med.reads.find? (fun x => x.2.slice = k && x.2.entry = e && x.2.epoch = t.epoch && x.2.ready) = some (n, r) ∧ r.step = 0 ∧ r.spec = false ∧ s.dev.chainCheck r .ok = .ok ∧ (∀ x ∈ s.dev.med.reads, x.2.slice ≠ fetchSlice k ∨ x.2.entry ≠ e ∨ x.2.epoch ≠ t.epoch) ∧ t.req.kind.isRead = true ∧ ((s.dev.head t.req.head).live.find t.req.rid).isSome = true) ∧
    (∃ (s : State) (k : Nat) (e : Nat) (n : Nat) (t : TtEntry) (r : MRead),
      s.dev.aon = true ∧ s.dev.sliceRuns k = true ∧ s.dev.SliceQuiet k ∧ s.dev.entry k e = some t ∧ t.state = .lookup ∧ t.req.kind.isEngine = false ∧ s.dev.med.reads.find? (fun x => x.2.slice = k && x.2.entry = e && x.2.epoch = t.epoch && x.2.ready) = some (n, r) ∧ r.step = 0 ∧ r.spec = false ∧ s.dev.chainCheck r .ok = .ok ∧ (∀ x ∈ s.dev.med.reads, x.2.slice ≠ fetchSlice k ∨ x.2.entry ≠ e ∨ x.2.epoch ≠ t.epoch) ∧ t.req.kind.isRead = false ∧ r.lost = false) ∧
    (∃ (s : State) (k : Nat) (e : Nat) (n : Nat) (t : TtEntry) (r : MRead) (n : Nat),
      s.dev.aon = true ∧ s.dev.sliceRuns k = true ∧ s.dev.SliceQuiet k ∧ s.dev.entry k e = some t ∧ t.state = .lookup ∧ t.req.kind.isEngine = false ∧ s.dev.med.reads.find? (fun x => x.2.slice = k && x.2.entry = e && x.2.epoch = t.epoch && x.2.ready) = some (n, r) ∧ r.step = 0 ∧ r.spec = false ∧ s.dev.chainCheck r .ok = .ok ∧ (∀ x ∈ s.dev.med.reads, x.2.slice ≠ fetchSlice k ∨ x.2.entry ≠ e ∨ x.2.epoch ≠ t.epoch) ∧ t.req.kind.isRead = false ∧ r.lost = false) ∧
    (∃ (s : State) (k : Nat) (e : Nat) (t : TtEntry) (x : Nat),
      s.dev.aon = true ∧ s.dev.sliceRuns k = true ∧ s.dev.SliceQuiet k ∧ s.dev.entry k e = some t ∧ t.state = .write ∧ t.sent = true ∧ x ≠ e) ∧
    (∃ (s : State) (k : Nat) (e : Nat) (t : TtEntry),
      s.dev.aon = true ∧ s.dev.sliceRuns k = true ∧ s.dev.SliceQuiet k ∧ s.dev.entry k e = some t ∧ t.state = .write ∧ t.sent = true ∧ t.req.kind ≠ .commitDoorbell) ∧
    (∃ (s : State) (k : Nat) (e : Nat) (t : TtEntry),
      s.dev.aon = true ∧ s.dev.sliceRuns k = true ∧ s.dev.SliceQuiet k ∧ s.dev.entry k e = some t ∧ t.state = .write ∧ t.sent = false ∧ (t.acked = false ∨ t.through = true) ∧ t.req.kind.isRead = false) ∧
    (∃ (s : State) (k : Nat) (e : Nat) (t : TtEntry),
      s.dev.aon = true ∧ s.dev.sliceRuns k = true ∧ s.dev.SliceQuiet k ∧ s.dev.entry k e = some t ∧ t.state = .write ∧ t.sent = false ∧ t.acked = true ∧ t.through = false ∧ t.req.kind.isRead = false ∧ ((s.dev.head t.req.head).live.find t.req.rid).isSome = true) ∧
    (∃ (s : State) (k : Nat) (e : Nat) (t : TtEntry),
      s.dev.aon = true ∧ s.dev.sliceRuns k = true ∧ s.dev.SliceQuiet k ∧ s.dev.entry k e = some t ∧ t.state = .engine ∧ t.req.kind.isEngine = true ∧ (∀ x ∈ s.dev.med.reads, x.2.slice ≠ k ∨ x.2.entry ≠ e) ∧ (t.applied = true ∨ (t.req.kind ≠ .tally ∧ t.req.kind ≠ .counterRead ∧ t.req.kind ≠ .counterWrite)) ∧ t.req.kind.isRead = false ∧ t.sent = true) ∧
    (∃ (s : State) (k : Nat) (e : Nat) (t : TtEntry),
      s.dev.aon = true ∧ s.dev.sliceRuns k = true ∧ s.dev.SliceQuiet k ∧ s.dev.entry k e = some t ∧ t.state = .engine ∧ t.req.kind.isEngine = true ∧ (∀ x ∈ s.dev.med.reads, x.2.slice ≠ k ∨ x.2.entry ≠ e) ∧ (t.applied = true ∨ (t.req.kind ≠ .tally ∧ t.req.kind ≠ .counterRead ∧ t.req.kind ≠ .counterWrite)) ∧ t.req.kind.isRead = true ∧ ((s.dev.head t.req.head).live.find t.req.rid).isSome = true) ∧
    (∃ (s : State) (k : Nat) (e : Nat) (t : TtEntry),
      s.dev.aon = true ∧ s.dev.sliceRuns k = true ∧ s.dev.SliceQuiet k ∧ s.dev.entry k e = some t ∧ s.tb < t.req.deadline) ∧
    (∃ (s : State) (k : Nat) (e : Nat) (t : TtEntry),
      s.dev.aon = true ∧ s.dev.sliceRuns k = true ∧ s.dev.SliceQuiet k ∧ s.dev.entry k e = some t ∧ t.req.deadline ≤ s.tb ∧ t.overdue = false ∧ t.sent = false) ∧
    (∃ (s : State) (h : Nat) (rid : Nat) (r : Req),
      s.dev.aon = true ∧ (s.dev.head h).live.find rid = some r ∧ s.tb < r.answerAt) ∧
    (∃ (s : State) (h : Nat) (rid : Nat) (r : Req),
      s.dev.aon = true ∧ (s.dev.head h).live.find rid = some r ∧ r.answerAt ≤ s.tb) ∧
    (∃ (s : State) (n : Nat) (r : MRead) (b : Band) (c : Option Cfg),
      s.dev.aon = true ∧ s.dev.med.reads.find n = some r ∧ s.dev.band (entryBand r.loc) = some b ∧ r.rescue = false ∧ r.ready = false ∧ r.path ≠ .around ∧ r.spec = false ∧ r.rank ≤ 3 ∧ s.dev.dieReachable r.die = true ∧ s.dev.queuedOn (fun u => decide (u = .grain n false)) = [] ∧ 8 ≤ (s.stamped.aroundMembers b.set r.die r.rank r.deadline).1.length ∧ c = (match s.dev.entry r.slice r.entry with | some t => s.dev.cfgAt t.req.stamp | none => s.dev.cfg) ∧ s.tb < r.predicted - 100 + (c.map (·.latency.rescueSlip)).getD 100) ∧
    (∃ (s : State) (n : Nat) (r : MRead) (b : Band) (c : Option Cfg),
      s.dev.aon = true ∧ s.dev.med.reads.find n = some r ∧ s.dev.band (entryBand r.loc) = some b ∧ r.rescue = false ∧ r.ready = false ∧ r.path ≠ .around ∧ r.spec = false ∧ r.rank ≤ 3 ∧ s.dev.dieReachable r.die = true ∧ s.dev.queuedOn (fun u => decide (u = .grain n false)) = [] ∧ 8 ≤ (s.stamped.aroundMembers b.set r.die r.rank r.deadline).1.length ∧ c = (match s.dev.entry r.slice r.entry with | some t => s.dev.cfgAt t.req.stamp | none => s.dev.cfg) ∧ r.predicted - 100 + (c.map (·.latency.rescueSlip)).getD 100 ≤ s.tb) ∧
    (∃ (s : State) (n : Nat) (a : Nat) (o : DieOp),
      s.dev.aon = true ∧ (s.dev.die n).op = some o ∧ o.suspended = some a ∧ (s.tb < a + (s.dev.cfg.map (·.latency.susHold)).getD 10 * 1000 ∨ s.dev.reg .JRN_STATUS_QSTATE ≠ 0)) ∧
    (∃ (s : State) (n : Nat) (a : Nat) (o : DieOp),
      s.dev.aon = true ∧ (s.dev.die n).op = some o ∧ o.suspended = some a ∧ a + (s.dev.cfg.map (·.latency.susHold)).getD 10 * 1000 ≤ s.tb ∧ s.dev.reg .JRN_STATUS_QSTATE = 0 ∧ (s.dev.die n).thru = none ∧ (∀ p ∈ s.dev.med.progs, p.die ≠ n ∨ p.thru = false) ∧ ((∀ q ∈ (s.dev.die n).queue, 3 < q.rank) ∨ (s.dev.pkg (diePkg n)).caps ≤ o.suspends + o.prio)) ∧
    (∃ (s : State) (n : Nat) (a : Nat) (o : DieOp),
      s.dev.aon = true ∧ (s.dev.die n).op = some o ∧ o.suspended = some a ∧ a + (s.dev.cfg.map (·.latency.susHold)).getD 10 * 1000 ≤ s.tb ∧ s.dev.reg .JRN_STATUS_QSTATE = 0 ∧ (s.dev.die n).thru = none ∧ (∀ p ∈ s.dev.med.progs, p.die ≠ n ∨ p.thru = false) ∧ (∃ q ∈ (s.dev.die n).queue, q.rank ≤ 3) ∧ o.suspends < (s.dev.cfg.map (·.latency.susMax)).getD 16 ∧ o.suspends + o.prio < (s.dev.pkg (diePkg n)).caps) :=
  ⟨⟨s0_TrackingTableEntriesProgress, 15, 8191, { req := (rq .read rVol 64), state := .lookup, seq := 0 }, by unfold Dev.SliceQuiet; decide +kernel⟩,
   ⟨s1_TrackingTableEntriesProgress, 15, 8191, { req := (rq .write rVol 64), state := .write, seq := 0 }, by unfold Dev.SliceQuiet; decide +kernel⟩,
   ⟨s2_TrackingTableEntriesProgress, 15, 8191, { req := (rq .read rTable 64), state := .lookup, seq := 0, dramOut := true }, 1, by unfold Dev.SliceQuiet; decide +kernel⟩,
   ⟨s3_TrackingTableEntriesProgress, 15, 8191, { req := (rq .read rTable 64), state := .lookup, seq := 0, dramOut := true }, by unfold Dev.SliceQuiet; decide +kernel⟩,
   ⟨s4_TrackingTableEntriesProgress, 15, 8191, { req := (rq .read rTable 64), state := .lookup, seq := 0, dramOut := true, media := true }, by unfold Dev.SliceQuiet; decide +kernel⟩,
   ⟨s5_TrackingTableEntriesProgress, 15, 8191, { req := (rq .write rTable 64), state := .lookup, seq := 0, acked := true, dramOut := true }, by unfold Dev.SliceQuiet; decide +kernel⟩,
   ⟨s6_TrackingTableEntriesProgress, 15, 8191, { req := (rq .write rTable 64), state := .lookup, seq := 0, acked := true, dramOut := true, media := true }, by unfold Dev.SliceQuiet; decide +kernel⟩,
   ⟨s7_TrackingTableEntriesProgress, 15, 8191, { req := (rq .read rTable 64), state := .lookup, seq := 0, dramOut := true, media := true }, 64, by unfold Dev.SliceQuiet; decide +kernel⟩,
   ⟨s8_TrackingTableEntriesProgress, 15, 8191, 0, { req := (rq .read rTable 64), state := .lookup, seq := 0, media := true }, { slice := 15, entry := 8191, loc := entryOf 1 0 0, lpn := 0, grain := 0, die := 32, path := .direct, predicted := 5, deadline := 5, ready := true }, by unfold Dev.SliceQuiet; decide +kernel⟩,
   ⟨s8_TrackingTableEntriesProgress, 15, 8191, 0, { req := (rq .read rTable 64), state := .lookup, seq := 0, media := true }, { slice := 15, entry := 8191, loc := entryOf 1 0 0, lpn := 0, grain := 0, die := 32, path := .direct, predicted := 5, deadline := 5, ready := true }, 0, by unfold Dev.SliceQuiet; decide +kernel⟩,
   ⟨s9_TrackingTableEntriesProgress, 15, 8191, 0, { req := (rq .write rTable 64), state := .lookup, seq := 0, sent := true, media := true }, { slice := 15, entry := 8191, loc := entryOf 1 0 0, lpn := 0, grain := 0, die := 32, path := .direct, predicted := 5, deadline := 5, ready := true }, by unfold Dev.SliceQuiet; decide +kernel⟩,
   ⟨s9_TrackingTableEntriesProgress, 15, 8191, 0, { req := (rq .write rTable 64), state := .lookup, seq := 0, sent := true, media := true }, { slice := 15, entry := 8191, loc := entryOf 1 0 0, lpn := 0, grain := 0, die := 32, path := .direct, predicted := 5, deadline := 5, ready := true }, 0, by unfold Dev.SliceQuiet; decide +kernel⟩,
   ⟨s10_TrackingTableEntriesProgress, 15, 8191, { req := (rq .write rVol 64), state := .write, seq := 0, sent := true }, 0, by unfold Dev.SliceQuiet; decide +kernel⟩,
   ⟨s10_TrackingTableEntriesProgress, 15, 8191, { req := (rq .write rVol 64), state := .write, seq := 0, sent := true }, by unfold Dev.SliceQuiet; decide +kernel⟩,
   ⟨s11_TrackingTableEntriesProgress, 15, 8191, { req := (rq .write rVol 64), state := .write, seq := 0 }, by unfold Dev.SliceQuiet; decide +kernel⟩,
   ⟨s12_TrackingTableEntriesProgress, 15, 8191, { req := (rq .write rVol 64), state := .write, seq := 0, acked := true }, by unfold Dev.SliceQuiet; decide +kernel⟩,
   ⟨s13_TrackingTableEntriesProgress, 15, 8191, { req := (rqTally 5 1), state := .engine, seq := 0, sent := true, applied := true }, by unfold Dev.SliceQuiet; decide +kernel⟩,
   ⟨s14_TrackingTableEntriesProgress, 15, 8191, { req := (rq .qstatus rQueue (2 ^ 32)), state := .engine, seq := 0, applied := true }, by unfold Dev.SliceQuiet; decide +kernel⟩,
   ⟨s0_TrackingTableEntriesProgress, 15, 8191, { req := (rq .read rVol 64), state := .lookup, seq := 0 }, by unfold Dev.SliceQuiet; decide +kernel⟩,
   ⟨s15_TrackingTableEntriesProgress, 15, 8191, { req := { rq .read rVol 64 with deadline := 1000000000000 }, state := .lookup, seq := 0 }, by unfold Dev.SliceQuiet; decide +kernel⟩,
   ⟨s16_TrackingTableEntriesProgress, 0, 1, { rq .read rVol 64 with answerAt := 1000000000001 }, by decide +kernel⟩,
   ⟨s17_TrackingTableEntriesProgress, 0, 1, { rq .read rVol 64 with answerAt := 1000000000000 }, by decide +kernel⟩,
   ⟨s18_TrackingTableEntriesProgress, 0, { slice := 15, entry := 8191, loc := entryOf 1 0 0, lpn := 0, grain := 0, die := 32, path := .direct, predicted := 1000000000001, deadline := 5, ready := false }, { set := 2, blocks := List.replicate 10 1, stream := 0, state := .opened, openedAt := 0 }, some cfg0, by decide +kernel⟩,
   ⟨s19_TrackingTableEntriesProgress, 0, { slice := 15, entry := 8191, loc := entryOf 1 0 0, lpn := 0, grain := 0, die := 32, path := .direct, predicted := 1000000000000, deadline := 5, ready := false }, { set := 2, blocks := List.replicate 10 1, stream := 0, state := .opened, openedAt := 0 }, some cfg0, by decide +kernel⟩,
   ⟨s20_TrackingTableEntriesProgress, 15, 999999990001, { clear := false, endAt := 5, opid := 1, suspended := some 999999990001 }, by decide +kernel⟩,
   ⟨s21_TrackingTableEntriesProgress, 15, 999999990000, { clear := false, endAt := 5, opid := 1, suspended := some 999999990000 }, by decide +kernel⟩,
   ⟨s22_TrackingTableEntriesProgress, 15, 999999990000, { clear := false, endAt := 5, opid := 1, suspended := some 999999990000 }, by decide +kernel⟩⟩

/-- A transaction table whose entries are all alike stands in acceptance order. -/
theorem inOrder_replicate (n : Nat) (x : Nat × TtEntry) : (List.replicate n x).foldr insertBySeq [] = List.replicate n x := by
  induction n with
  | zero => rfl
  | succ n ih =>
    rw [List.replicate_succ, List.foldr_cons, ih]
    cases n with
    | zero => rfl
    | succ n => rw [List.replicate_succ]; simp [insertBySeq]
/-- An entry in LOOKUP for 1 µs. -/
def oldEntry : Nat × TtEntry := (0, { req := rq .read rVol 128, state := .lookup, seq := 0, lookupAt := 999999999000 })
/-- A slice with a read behind a transaction table. -/
def sRunAhead (t : AMap TtEntry) : State := st { dv with slices := [((sliceOfSector 134217728), { ingress := [(rq .read rVol 64)], tt := t })] }
theorem tt_sRunAhead (t : AMap TtEntry) : ((sRunAhead t).stamped.slice (sliceOfSector 134217728)).tt = t := by
  simp [sRunAhead, st, Dev.slice, AMap.findD, AMap.find]
theorem inForce_sRunAhead (t : AMap TtEntry) : (sRunAhead t).stamped.inForce .SLC_CTL_RUNAHEAD_EN (sliceOfSector 134217728) = true := by
  rw [show (sRunAhead t).stamped.inForce .SLC_CTL_RUNAHEAD_EN _ = dv.inForce .SLC_CTL_RUNAHEAD_EN _ from rfl]
  decide +kernel
theorem runAheadDue_of {d : Dev} {k n : Nat} {x : Nat × TtEntry} (a : d.inForce .SLC_CTL_RUNAHEAD_EN k = true)
    (t : (d.slice k).tt = List.replicate (n + 1) x) (m : 8192 ≤ n + 1) (h : x.1 < 8192) (l : x.2.state = .lookup)
    (o : x.2.lookupAt + 200 < d.now) : d.runAheadDue k = true := by
  have c : (List.replicate (n + 1) x).countP (fun e => decide (e.1 < 8192)) = n + 1 := by
    rw [List.countP_replicate]
    simp [h]
  unfold Dev.runAheadDue SliceS.inOrder SliceS.hostUse
  rw [t, inOrder_replicate, c, a]
  simp [List.replicate_succ, l, o, m]

def s0_LineCacheAndLoadCommandsTakeEffect : State := st { dv with slices := [(sliceOfSector 134217728, { pf := [⟨134217728, 4, 5, 0, 0, 0⟩], int := List.replicate 3073 (12287, ⟨⟨134217728, 4, 5, 0, 0, 0⟩, 0⟩) })] }
def s1_LineCacheAndLoadCommandsTakeEffect : State := st { dv with slices := [(sliceOfSector 134217728, { pf := [⟨0, 4, 5, 0, 0, 0⟩, ⟨134217728, 4, 5, 0, 0, 0⟩], int := List.replicate 3072 (12287, ⟨⟨134217728, 4, 5, 0, 0, 0⟩, 0⟩) })] }
def s2_LineCacheAndLoadCommandsTakeEffect : State := st { dv with slices := [(sliceOfSector 134217728, { int := [(12287, ⟨⟨134217728, 4, 5, 0, 0, 0⟩, 0⟩)] })], tier := [(volBase + 8 * 2 ^ 40, { lines := [(0, ⟨7, 5, 6⟩)], copies := [0] })] }
def s3_LineCacheAndLoadCommandsTakeEffect : State := st { dv with slices := [(sliceOfSector 134217728, { ingress := [(rq .read rVol 64)] })] }
def s4_LineCacheAndLoadCommandsTakeEffect : State := st { dv with slices := [(sliceOfSector 134217728, { hold := [(31, { sector := 134217728, region := 4, ki := 5, lines := [(1, 7)] })] })], tier := [(volBase + 8 * 2 ^ 40, { lines := [(0, ⟨7, 5, 6⟩)], copies := [0] })] }
def s5_LineCacheAndLoadCommandsTakeEffect : State := st { dv with slices := [(sliceOfSector 134217728, { hold := [(31, { sector := 134217728, region := 4, ki := 5, lines := [(0, 7)], sending := true })] })], tier := [(volBase + 8 * 2 ^ 40, { lines := [(0, ⟨7, 5, 6⟩)], copies := [0] })] }
def s6_LineCacheAndLoadCommandsTakeEffect : State := st { dv with slices := [(15, { ce := [(23, (1000, 6))] })] }
def s7_LineCacheAndLoadCommandsTakeEffect : State := st { dv with slices := [(15, { ce := [(23, (1000, 7))] })] }
def s8_LineCacheAndLoadCommandsTakeEffect : State := st (dv.setReg .SLC_WAY_TEST_TESTING 15 (2 ^ 23))
def s9_LineCacheAndLoadCommandsTakeEffect : State := st { dv with per := { dv.per with loadWindow := 250000000 } }
def s10_LineCacheAndLoadCommandsTakeEffect : State := st { dv with per := { dv.per with loadWindow := 249999999 } }
theorem meets_LineCacheAndLoadCommandsTakeEffect :
    (∃ (s : State) (k : Nat) (n : Nat) (p : PfReq),
      s.dev.aon = true ∧ s.dev.sliceRuns k = true ∧ (s.dev.slice k).pf[n]? = some p ∧ (3072 < s.dev.intUse k ∨ s.dev.region p.region = none ∨ (∃ x ∈ (s.dev.slice k).tt, sectorOf x.2.req.dpa = p.sector) ∨ (s.dev.slice k).holds p.region p.sector p.ki = true ∨ (∃ x ∈ (s.dev.slice k).ways, x.2.sector = p.sector ∧ x.2.region = p.region ∧ x.2.ki = p.ki ∧ x.2.lines ≠ []))) ∧
    (∃ (s : State) (k : Nat) (n : Nat) (p : PfReq) (g : RegionRec) (i : Nat),
      s.dev.aon = true ∧ s.dev.sliceRuns k = true ∧ (s.dev.slice k).pf[n]? = some p ∧ s.dev.intUse k ≤ 3072 ∧ s.dev.region p.region = some g ∧ s.dev.cached k g = true ∧ (∀ x ∈ (s.dev.slice k).ways, x.2.sector ≠ p.sector) ∧ (∀ x ∈ (s.dev.slice k).hold, x.2.sector ≠ p.sector) ∧ (∀ x ∈ (s.dev.slice k).tt, sectorOf x.2.req.dpa ≠ p.sector) ∧ (List.range 4096).find? (fun i => !(s.dev.slice k).tt.has (8192 + i) && !(s.dev.slice k).int.has (8192 + i)) = some i) ∧
    (∃ (s : State) (k : Nat) (e : Nat) (p : IntEntry) (g : RegionRec) (w : Nat) (pid : Nat),
      s.dev.aon = true ∧ s.dev.sliceRuns k = true ∧ s.dev.entry k e = none ∧ (s.dev.slice k).int.find e = some p ∧ s.dev.region p.pf.region = some g ∧ (∀ x ∈ s.dev.med.reads, x.2.slice ≠ k ∨ x.2.entry ≠ e) ∧ pid = s.dev.readPid g (p.pf.sector * 256 - g.base) ∧ (∀ i ∈ sectorSubs (p.pf.sector * 256 - g.base), s.dev.onMedia pid i = false) ∧ s.dev.flag .SLC_STATUS_BYPASS k = false ∧ (s.dev.slice k).hold.length < 32 ∧ (∀ x ∈ (s.dev.slice k).ways, x.2.sector ≠ p.pf.sector) ∧ s.dev.sectorLines pid (p.pf.sector * 256 % 4096 / 256 * 4) p.pf.ki ≠ [] ∧ (s.dev.fillWays k s.tb g.number).find? (fun w => ((s.dev.slice k).ways.find (setOfSector p.pf.sector * 24 + w)).all (fun x => x.lines.isEmpty)) = some w) ∧
    (∃ (s : State) (k : Nat) (r : Req) (rest : List Req) (g : RegionRec),
      s.dev.aon = true ∧ s.dev.sliceRuns k = true ∧ s.dev.waiting k = r :: rest ∧ s.dev.regionAt r.stamp r.region = some g ∧ s.stamped.runAheadDue k = false) ∧
    (∃ (s : State) (k : Nat) (r : Req) (rest : List Req) (g : RegionRec),
      s.dev.aon = true ∧ s.dev.sliceRuns k = true ∧ s.dev.waiting k = r :: rest ∧ s.dev.regionAt r.stamp r.region = some g ∧ s.stamped.runAheadDue k = true ∧ r.kind = .read ∧ (∃ i, i < 64 ∧ ∀ x ∈ (s.dev.slice k).ra, x.slot ≠ i) ∧ (∀ x ∈ (s.dev.slice k).ra, x.line ≠ r.dpa / 64)) ∧
    (∃ (s : State) (k : Nat) (h : Nat) (x : HoldEntry) (g : RegionRec) (accept : Bool),
      s.dev.aon = true ∧ (s.dev.slice k).hold.find h = some x ∧ s.dev.region x.region = some g ∧ x.sending = false ∧ (accept = false ∨ ∀ e ∈ x.lines, s.dev.inTier (s.dev.readPid g (x.sector * 256 - g.base)) (x.sector % 16 * 4 + e.1) = true)) ∧
    (∃ (s : State) (k : Nat) (h : Nat) (x : HoldEntry) (g : RegionRec),
      s.dev.aon = true ∧ (s.dev.slice k).hold.find h = some x ∧ s.dev.region x.region = some g ∧ x.sending = false ∧ (∃ e ∈ x.lines, s.dev.inTier (s.dev.readPid g (x.sector * 256 - g.base)) (x.sector % 16 * 4 + e.1) = false)) ∧
    (∃ (s : State) (k : Nat) (h : Nat) (x : HoldEntry) (g : RegionRec),
      s.dev.aon = true ∧ (s.dev.slice k).hold.find h = some x ∧ s.dev.region x.region = some g ∧ x.sending = true) ∧
    (∃ (s : State) (k : Nat) (h : Nat) (x : HoldEntry) (g : RegionRec),
      s.dev.aon = true ∧ (s.dev.slice k).hold.find h = some x ∧ s.dev.region x.region = some g ∧ x.sending = true ∧ s.dev.tier.countP (fun e => isLpn e.1 && !e.2.dirty) < s.dev.cleanRoom) ∧
    (∃ (s : State) (k : Nat) (way : Nat) (n : Nat),
      s.dev.aon = true ∧ k < 16 ∧ way < 24 ∧ s.dev.wayOn k way = true ∧ n = (match (s.dev.slice k).ce.find way with | some c => if c.1 = s.tb / 1000000000 then c.2 else 0 | none => 0) ∧ n < 7) ∧
    (∃ (s : State) (k : Nat) (way : Nat) (n : Nat) (corrected : Bool) (i : Nat),
      s.dev.aon = true ∧ k < 16 ∧ way < 24 ∧ s.dev.wayOn k way = true ∧ n = (match (s.dev.slice k).ce.find way with | some c => if c.1 = s.tb / 1000000000 then c.2 else 0 | none => 0) ∧ (corrected = false ∨ 7 ≤ n) ∧ i % 24 = way) ∧
    (∃ (s : State),
      s.dev.aon = true) ∧
    (∃ (s : State) (k : Nat) (w : Nat) (c : Nat × Nat),
      s.dev.aon = true ∧ (s.dev.slice k).ce.find w = some c ∧ s.tb / 1000000000 ≤ c.1) ∧
    (∃ (s : State) (k : Nat) (w : Nat),
      s.dev.aon = true ∧ k < 16 ∧ w < 24) ∧
    (∃ (s : State) (k : Nat) (way : Nat),
      s.dev.aon = true ∧ k < 16 ∧ (s.dev.reg .SLC_WAY_TEST_TESTING k).testBit way = true) ∧
    (∃ (s : State) (h : Nat),
      s.dev.aon = true ∧ h < s.dev.headCount ∧ (∀ c, s.dev.cfg = some c → c.latency.occTh.length ≤ 3 ∧ c.latency.dirtyTh.length ≤ 3) ∧ s.tb / 4000 ≤ s.dev.per.loadWindow) ∧
    (∃ (s : State) (h : Nat),
      s.dev.aon = true ∧ h < s.dev.headCount ∧ (∀ c, s.dev.cfg = some c → c.latency.occTh.length ≤ 3 ∧ c.latency.dirtyTh.length ≤ 3) ∧ s.dev.per.loadWindow < s.tb / 4000 ∧ s.dev.reg .GLB_HEAD_LOAD_DEVLOAD h ≤ 3) :=
  ⟨⟨s0_LineCacheAndLoadCommandsTakeEffect, (sliceOfSector 134217728), 0, ⟨134217728, 4, 5, 0, 0, 0⟩, by decide +kernel⟩,
   ⟨s1_LineCacheAndLoadCommandsTakeEffect, (sliceOfSector 134217728), 1, ⟨134217728, 4, 5, 0, 0, 0⟩, rVol, 0, by decide +kernel⟩,
   ⟨s2_LineCacheAndLoadCommandsTakeEffect, (sliceOfSector 134217728), 12287, ⟨⟨134217728, 4, 5, 0, 0, 0⟩, 0⟩, rVol, 8, volBase + 8 * 2 ^ 40, by decide +kernel⟩,
   ⟨s3_LineCacheAndLoadCommandsTakeEffect, (sliceOfSector 134217728), (rq .read rVol 64), [], rVol, by decide +kernel⟩,
   ⟨sRunAhead (List.replicate 8192 oldEntry), (sliceOfSector 134217728), (rq .read rVol 64), [], rVol, (by decide +kernel), (by decide +kernel), (by decide +kernel), (by decide +kernel), (runAheadDue_of (n := 8191) (x := oldEntry) (inForce_sRunAhead _) (tt_sRunAhead _) (by decide) (by decide) rfl (by decide +kernel)), (by decide +kernel), (by decide +kernel), (by decide +kernel)⟩,
   ⟨s4_LineCacheAndLoadCommandsTakeEffect, (sliceOfSector 134217728), 31, { sector := 134217728, region := 4, ki := 5, lines := [(1, 7)] }, rVol, false, by decide +kernel⟩,
   ⟨s4_LineCacheAndLoadCommandsTakeEffect, (sliceOfSector 134217728), 31, { sector := 134217728, region := 4, ki := 5, lines := [(1, 7)] }, rVol, by decide +kernel⟩,
   ⟨s5_LineCacheAndLoadCommandsTakeEffect, (sliceOfSector 134217728), 31, { sector := 134217728, region := 4, ki := 5, lines := [(0, 7)], sending := true }, rVol, by decide +kernel⟩,
   ⟨s5_LineCacheAndLoadCommandsTakeEffect, (sliceOfSector 134217728), 31, { sector := 134217728, region := 4, ki := 5, lines := [(0, 7)], sending := true }, rVol, by decide +kernel⟩,
   ⟨s6_LineCacheAndLoadCommandsTakeEffect, 15, 23, 6, by decide +kernel⟩,
   ⟨s7_LineCacheAndLoadCommandsTakeEffect, 15, 23, 7, true, 23, by decide +kernel⟩,
   ⟨st dv, by decide +kernel⟩,
   ⟨s6_LineCacheAndLoadCommandsTakeEffect, 15, 23, (1000, 6), by decide +kernel⟩,
   ⟨st dv, 15, 23, by decide +kernel⟩,
   ⟨s8_LineCacheAndLoadCommandsTakeEffect, 15, 23, by decide +kernel⟩,
   ⟨s9_LineCacheAndLoadCommandsTakeEffect, 0, (by decide +kernel), (by decide +kernel), (by intro c h; cases h; decide +kernel), (by decide +kernel)⟩,
   ⟨s10_LineCacheAndLoadCommandsTakeEffect, 0, (by decide +kernel), (by decide +kernel), (by intro c h; cases h; decide +kernel), (by decide +kernel), (by decide +kernel)⟩⟩

def s0_HostReadsTakeTheLineAsItStands : State := st { dv with slices := [(sliceOfSector (sectorOf (2 ^ 35 + 2 ^ 28 - 64)), { ways := [(setOfSector (sectorOf (2 ^ 35 + 2 ^ 28 - 64)) * 24 + 8, ⟨sectorOf (2 ^ 35 + 2 ^ 28 - 64), 4, 5, [(3, 7)]⟩)] })] }
def s1_HostReadsTakeTheLineAsItStands : State := st { put (dv.setFlag .GLB_HEAD_LINK_CXL 1 true) 1 .online with pin := { dv.pin with headMode := true }, heads := [(0, head0), (1, head0)] }
def s2_HostReadsTakeTheLineAsItStands : State := st { dv with slices := [((sliceOfSector (sectorOf (2 ^ 35 + (2 ^ 28 - 64)))), { ingress := [{ rq .write rVol (2 ^ 28 - 64) with be := BitVec.allOnes 64 }] })] }
def s3_HostReadsTakeTheLineAsItStands : State := st { dv with slices := [((sliceOfSector (sectorOf (2 ^ 35 + (2 ^ 28 - 64)))), { ingress := [rq .read rVol (2 ^ 28 - 64)] })] }
def s4_HostReadsTakeTheLineAsItStands : State := st (dv.setFlag .SLC_CTL_SPECRD_EN (sliceOfSector (sectorOf (2 ^ 35 + (2 ^ 28 - 64)))) true)
def s5_HostReadsTakeTheLineAsItStands : State := st (dv.setFlag .SLC_CTL_SPECRD_EN (sliceOfSector (sectorOf (2 ^ 35 + (2 ^ 28 - 64)))) false)
def s6_HostReadsTakeTheLineAsItStands : State := st (put dv 226 .off)
def s7_HostReadsTakeTheLineAsItStands : State := st (put dv 226 .draining)
theorem meets_HostReadsTakeTheLineAsItStands :
    (∃ (s : State) (i : Instr) (r : HostReq) (g : RegionRec) (off : Nat) (ki : Nat) (k : Nat) (e : Nat),
      s.dev.aon = true ∧ s.dev.TakesAt r.head r.hpa true g off ki k e ∧ (s.dev.slot ki).st = .active ∧ ((i = .memRd r ∧ (s.dev.window g off = .main ∨ s.dev.window g off = .shadow)) ∨ (i = .shadowRead r ∧ s.dev.window g off = .shadow)) ∧ s.dev.atHand k g off ki = true) ∧
    (∃ (s : State) (i : Instr) (r : HostReq) (g : RegionRec) (off : Nat) (ki : Nat) (k : Nat) (e : Nat),
      s.dev.aon = true ∧ s.dev.TakesAt r.head r.hpa true g off ki k e ∧ (s.dev.slot ki).st = .active ∧ ((i = .memRd r ∧ (s.dev.window g off = .main ∨ s.dev.window g off = .shadow)) ∨ (i = .shadowRead r ∧ s.dev.window g off = .shadow)) ∧ s.dev.atHand k g off ki = false ∧ 0 < (s.dev.cfg.map (·.latency.limit)).getD 1000) ∧
    (∃ (d : Dev) (g : RegionRec) (off : Nat) (ki : Nat),
      (d.slot ki).st = .active ∧ d.orphanOf (d.readPid g off) = none ∧ (d.shadowOf g.number).spill = [] ∧ d.poisoned (d.readPid g off) (off % 4096 / 64) = true) ∧
    (∃ (d : Dev) (g : RegionRec) (off : Nat) (ki : Nat),
      (d.slot ki).st = .active ∧ d.orphanOf (d.readPid g off) = none ∧ (d.shadowOf g.number).spill = [] ∧ d.poisoned (d.readPid g off) (off % 4096 / 64) = false ∧ d.cellAt (d.readPid g off) (off % 4096 / 64) = none) ∧
    (∃ (d : Dev) (g : RegionRec) (off : Nat) (ki : Nat) (c : Cell),
      (d.slot ki).st = .active ∧ d.orphanOf (d.readPid g off) = none ∧ (d.shadowOf g.number).spill = [] ∧ d.poisoned (d.readPid g off) (off % 4096 / 64) = false ∧ d.cellAt (d.readPid g off) (off % 4096 / 64) = some c ∧ d.staleLine (d.readPid g off) (off % 4096 / 64) = false) ∧
    (∃ (d : Dev) (g : RegionRec) (off : Nat) (n : Nat),
      g.rtype = .table ∧ g.size ≤ off ∧ off < 2 * g.size ∧ (d.shadowOf g.number).delta.find ((off - g.size) / 4096) = some n) ∧
    (∃ (d : Dev) (g : RegionRec) (off : Nat),
      g.rtype = .table ∧ g.size ≤ off ∧ off < 2 * g.size ∧ (d.shadowOf g.number).delta.find ((off - g.size) / 4096) = none) ∧
    (∃ (s : State) (r : HostReq) (g : RegionRec) (off : Nat) (ki : Nat) (k : Nat) (e : Nat),
      s.dev.aon = true ∧ s.dev.TakesAt r.head r.hpa true g off ki k e ∧ s.dev.window g off = .control 64) ∧
    (∃ (s : State) (i : Instr) (h : Nat) (tag : Nat) (hpa : Nat) (w : HostWr) (rd : Bool) (g : RegionRec) (off : Nat) (ki : Nat) (k : Nat) (e : Nat),
      s.dev.aon = true ∧ h ≠ 0 ∧ s.dev.Lands h hpa g off ki ∧ s.dev.offline g .main rd = false ∧ s.dev.window g off = .main ∧ s.dev.Takes (s.dev.ownerOf g .main off) k e g off ∧ ((i = .memRd ⟨h, tag, hpa⟩ ∧ rd = true) ∨ (Writes i w ∧ w.head = h ∧ w.tag = tag ∧ w.hpa = hpa ∧ w.be ≠ 0 ∧ rd = false))) ∧
    (∃ (s : State) (r : Req) (g : RegionRec) (share : Nat) (k : Nat) (e : Nat),
      s.dev.aon = true ∧ share < 16 ∧ s.dev.region r.region = some g ∧ g.number = r.region ∧ s.dev.window g r.off = .main ∧ r.dpa = g.base + r.off ∧ r.stamp ≤ s.tb ∧ r.poison = false ∧ (s.dev.slot r.ki).st = .active ∧ s.dev.Takes share k e g r.off [r] ∧ (∀ x ∈ s.dev.slices, x.1 ≠ share → x.2.ingress = []) ∧ s.dev.boot.tierWait = none ∧ s.dev.flag .PWR_STEP_NOTIER = false ∧ (∀ x ∈ s.dev.med.reads, x.2.ready = false) ∧ r.kind = .write ∧ r.be = BitVec.allOnes 64) ∧
    (∃ (s : State) (r : Req) (g : RegionRec) (share : Nat) (k : Nat) (e : Nat),
      s.dev.aon = true ∧ share < 16 ∧ s.dev.region r.region = some g ∧ g.number = r.region ∧ s.dev.window g r.off = .main ∧ r.dpa = g.base + r.off ∧ r.stamp ≤ s.tb ∧ r.poison = false ∧ (s.dev.slot r.ki).st = .active ∧ s.dev.Takes share k e g r.off [r] ∧ (∀ x ∈ s.dev.slices, x.1 ≠ share → x.2.ingress = []) ∧ s.dev.boot.tierWait = none ∧ s.dev.flag .PWR_STEP_NOTIER = false ∧ (∀ x ∈ s.dev.med.reads, x.2.ready = false) ∧ r.kind = .read) ∧
    (∃ (s : State) (r : HostReq) (g : RegionRec) (off : Nat) (ki : Nat) (k : Nat),
      s.dev.aon = true ∧ s.dev.Lands r.head r.hpa g off ki ∧ (s.dev.window g off = .main ∨ s.dev.window g off = .shadow) ∧ s.dev.offline g (s.dev.window g off) true = false ∧ s.dev.carrier (s.dev.ownerOf g (s.dev.window g off) off) = some k ∧ s.dev.inForce .SLC_CTL_SPECRD_EN k = true ∧ (∀ x ∈ (s.dev.slice k).ra, x.line ≠ (g.base + off) / 64)) ∧
    (∃ (s : State) (r : HostReq) (g : RegionRec) (off : Nat) (ki : Nat) (k : Nat),
      s.dev.aon = true ∧ s.dev.Lands r.head r.hpa g off ki ∧ (s.dev.window g off = .main ∨ s.dev.window g off = .shadow) ∧ s.dev.offline g (s.dev.window g off) true = false ∧ s.dev.carrier (s.dev.ownerOf g (s.dev.window g off) off) = some k ∧ (s.dev.inForce .SLC_CTL_SPECRD_EN k = false ∨ (∀ i, i < 64 → ∃ x ∈ (s.dev.slice k).ra, x.slot = i) ∨ (∃ x ∈ (s.dev.slice k).ra, x.line = (g.base + off) / 64))) ∧
    (∃ (s : State) (r : HostReq),
      s.dev.aon = true ∧ s.dev.canAccept r.head = true ∧ (∀ n, n < 8 → (s.dev.decoder r.head n).hits r.hpa = false)) ∧
    (∃ (s : State) (r : HostReq),
      s.dev.aon = true ∧ s.dev.canAccept r.head = true ∧ (∀ n, n < 8 → (s.dev.decoder r.head n).hits r.hpa = false)) ∧
    (∃ (s : State) (h : Nat),
      s.dev.aon = true ∧ s.dev.serves (headIx h) = true ∧ s.dev.flag .GLB_HEAD_LINK_CXL h = true) ∧
    (∃ (s : State) (r : HostReq) (g : RegionRec) (off : Nat) (ki : Nat),
      s.dev.aon = true ∧ s.dev.Lands r.head r.hpa g off ki ∧ s.dev.window g off = .tally) ∧
    (∃ (s : State) (r : HostReq) (g : RegionRec) (off : Nat) (ki : Nat),
      s.dev.aon = true ∧ s.dev.Lands r.head r.hpa g off ki ∧ s.dev.window g off = .main ∧ s.dev.offline g .main true = true) ∧
    (∃ (s : State) (r : HostReq) (g : RegionRec) (off : Nat) (ki : Nat),
      s.dev.aon = true ∧ s.dev.Lands r.head r.hpa g off ki ∧ s.dev.window g off = .main ∧ s.dev.offline g .main false = true) :=
  ⟨⟨s0_HostReadsTakeTheLineAsItStands, .memRd ⟨0, 9, 2 ^ 35 + 2 ^ 28 - 64⟩, ⟨0, 9, 2 ^ 35 + 2 ^ 28 - 64⟩, rVol, (2 ^ 28 - 64), 5, (sliceOfSector (sectorOf (2 ^ 35 + (2 ^ 28 - 64)))), 0, (by decide +kernel), (takesAt_of (lands_of 0 (by decide +kernel)) (by decide +kernel) (by decide +kernel)), (by decide +kernel), (.inl ⟨rfl, .inl (by decide +kernel)⟩), (by decide +kernel)⟩,
   ⟨st dv, .memRd ⟨0, 9, 2 ^ 35 + 2 ^ 28 - 64⟩, ⟨0, 9, 2 ^ 35 + 2 ^ 28 - 64⟩, rVol, (2 ^ 28 - 64), 5, (sliceOfSector (sectorOf (2 ^ 35 + (2 ^ 28 - 64)))), 0, (by decide +kernel), (takesAt_of (lands_of 0 (by decide +kernel)) (by decide +kernel) (by decide +kernel)), (by decide +kernel), (.inl ⟨rfl, .inl (by decide +kernel)⟩), (by decide +kernel), (by decide +kernel)⟩,
   ⟨{ dv with poison := { lines := [((volBase + 8 * 2 ^ 40 + 65535) * 64 + 63, 0)] } }, rVol, (2 ^ 28 - 64), 5, by decide +kernel⟩,
   ⟨dv, rVol, (2 ^ 28 - 64), 5, by decide +kernel⟩,
   ⟨{ dv with tier := [((volBase + 8 * 2 ^ 40 + 65535), { lines := [(63, ⟨7, 5, 6⟩)] })] }, rVol, (2 ^ 28 - 64), 5, ⟨7, 5, 6⟩, by decide +kernel⟩,
   ⟨{ dv with shadow := [(4, { state := 1, delta := [(65535, 3)] })] }, rVol, (2 ^ 29 - 64), 3, by decide +kernel⟩,
   ⟨dv, rVol, (2 ^ 29 - 64), by decide +kernel⟩,
   ⟨st dv, ⟨0, 9, 2 ^ 35 + 2 ^ 29 + 64⟩, rVol, (2 ^ 29 + 64), 5, (sliceOfSector (sectorOf (2 ^ 35 + (2 ^ 29 + 64)))), 0, (by decide +kernel), (takesAt_of (lands_of 0 (by decide +kernel)) (by decide +kernel) (by decide +kernel)), (by decide +kernel)⟩,
   ⟨s1_HostReadsTakeTheLineAsItStands, .memRd ⟨1, 9, 2 ^ 35 + 2 ^ 28 - 64⟩, 1, 9, 2 ^ 35 + 2 ^ 28 - 64, ⟨1, 9, 0, 7, 1, false⟩, true, rVol, (2 ^ 28 - 64), 5, (sliceOfSector (sectorOf (2 ^ 35 + (2 ^ 28 - 64)))), 0, (by decide +kernel), (by decide +kernel), (lands_of 0 (by decide +kernel)), (by decide +kernel), (by decide +kernel), (by unfold Dev.Takes; decide +kernel), (.inl ⟨rfl, rfl⟩)⟩,
   ⟨s2_HostReadsTakeTheLineAsItStands, { rq .write rVol (2 ^ 28 - 64) with be := BitVec.allOnes 64 }, rVol, (sliceOfSector (sectorOf (2 ^ 35 + (2 ^ 28 - 64)))), (sliceOfSector (sectorOf (2 ^ 35 + (2 ^ 28 - 64)))), 0, (by decide +kernel), (by decide +kernel), (by decide +kernel), (by decide +kernel), (by decide +kernel), (by decide +kernel), (by decide +kernel), (by decide +kernel), (by decide +kernel), (by unfold Dev.Takes; decide +kernel), (by decide +kernel), (by decide +kernel), (by decide +kernel), (by decide +kernel), (by decide +kernel), (by decide +kernel)⟩,
   ⟨s3_HostReadsTakeTheLineAsItStands, (rq .read rVol (2 ^ 28 - 64)), rVol, (sliceOfSector (sectorOf (2 ^ 35 + (2 ^ 28 - 64)))), (sliceOfSector (sectorOf (2 ^ 35 + (2 ^ 28 - 64)))), 0, (by decide +kernel), (by decide +kernel), (by decide +kernel), (by decide +kernel), (by decide +kernel), (by decide +kernel), (by decide +kernel), (by decide +kernel), (by decide +kernel), (by unfold Dev.Takes; decide +kernel), (by decide +kernel), (by decide +kernel), (by decide +kernel), (by decide +kernel), (by decide +kernel)⟩,
   ⟨s4_HostReadsTakeTheLineAsItStands, ⟨0, 9, 2 ^ 35 + 2 ^ 28 - 64⟩, rVol, (2 ^ 28 - 64), 5, (sliceOfSector (sectorOf (2 ^ 35 + (2 ^ 28 - 64)))), (by decide +kernel), (lands_of 0 (by decide +kernel)), (by decide +kernel), (by decide +kernel), (by decide +kernel), (by decide +kernel), (by decide +kernel)⟩,
   ⟨s5_HostReadsTakeTheLineAsItStands, ⟨0, 9, 2 ^ 35 + 2 ^ 28 - 64⟩, rVol, (2 ^ 28 - 64), 5, (sliceOfSector (sectorOf (2 ^ 35 + (2 ^ 28 - 64)))), (by decide +kernel), (lands_of 0 (by decide +kernel)), (by decide +kernel), (by decide +kernel), (by decide +kernel), (.inl (by decide +kernel))⟩,
   ⟨st dv, ⟨0, 9, 2 ^ 40⟩, by decide +kernel⟩,
   ⟨st dv, ⟨0, 9, 2 ^ 40⟩, by decide +kernel⟩,
   ⟨st dv, 0, by decide +kernel⟩,
   ⟨st dv, ⟨0, 9, 2 ^ 33 + 2 ^ 28⟩, rCounter, 2 ^ 28, 2, (by decide +kernel), (lands_of 0 (by decide +kernel)), (by decide +kernel)⟩,
   ⟨s6_HostReadsTakeTheLineAsItStands, ⟨0, 9, 2 ^ 35 + 2 ^ 28 - 64⟩, rVol, (2 ^ 28 - 64), 5, (by decide +kernel), (lands_of 0 (by decide +kernel)), (by decide +kernel), (by decide +kernel)⟩,
   ⟨s7_HostReadsTakeTheLineAsItStands, ⟨0, 9, 2 ^ 35 + 2 ^ 28 - 64⟩, rVol, (2 ^ 28 - 64), 5, (by decide +kernel), (lands_of 0 (by decide +kernel)), (by decide +kernel), (by decide +kernel)⟩⟩

def s0_HostWritesTakeEffectAtAcceptance : State := st { dv with poison := { lines := [((volBase + 8 * 2 ^ 40 + 65535) * 64 + 63, 0)] } }
def s1_HostWritesTakeEffectAtAcceptance : State := st { dv with tier := [((volBase + 8 * 2 ^ 40 + 65535), { lines := [(63, ⟨7, 5, 9⟩)], copies := [0] })] }
def s2_HostWritesTakeEffectAtAcceptance : State := st { dv with shadow := [(4, { state := 2, delta := [(0, 0)] })] }
def s3_HostWritesTakeEffectAtAcceptance : State := st { dv with shadow := [(4, { state := 1, epoch := 7, delta := [(3, 0)] })] }
def s4_HostWritesTakeEffectAtAcceptance : State := st { dv with shadow := [(4, { state := 2, epoch := 7, delta := [(3, 0)] })] }
theorem meets_HostWritesTakeEffectAtAcceptance :
    (∃ (s : State) (i : Instr) (w : HostWr) (g : RegionRec) (off : Nat) (ki : Nat) (k : Nat) (e : Nat),
      s.dev.aon = true ∧ s.dev.TakesAt w.head w.hpa false g off ki k e ∧ (s.dev.slot ki).st = .active ∧ w.be ≠ 0 ∧ ((Writes i w ∧ (s.dev.window g off = .main ∨ (s.dev.window g off = .shadow ∧ s.dev.inDelta g off = true))) ∨ (i = .shadowWrite w ∧ s.dev.window g off = .shadow ∧ s.dev.inDelta g off = true)) ∧ w.be = BitVec.allOnes 64) ∧
    (∃ (s : State) (i : Instr) (w : HostWr) (g : RegionRec) (off : Nat) (ki : Nat) (k : Nat) (e : Nat),
      s.dev.aon = true ∧ s.dev.TakesAt w.head w.hpa false g off ki k e ∧ (s.dev.slot ki).st = .active ∧ w.be ≠ 0 ∧ ((Writes i w ∧ (s.dev.window g off = .main ∨ (s.dev.window g off = .shadow ∧ s.dev.inDelta g off = true))) ∨ (i = .shadowWrite w ∧ s.dev.window g off = .shadow ∧ s.dev.inDelta g off = true)) ∧ w.poison = true) ∧
    (∃ (s : State) (i : Instr) (w : HostWr) (g : RegionRec) (off : Nat) (ki : Nat) (k : Nat) (e : Nat) (l : Line),
      s.dev.aon = true ∧ s.dev.TakesAt w.head w.hpa false g off ki k e ∧ (s.dev.slot ki).st = .active ∧ w.be ≠ 0 ∧ ((Writes i w ∧ (s.dev.window g off = .main ∨ (s.dev.window g off = .shadow ∧ s.dev.inDelta g off = true))) ∨ (i = .shadowWrite w ∧ s.dev.window g off = .shadow ∧ s.dev.inDelta g off = true)) ∧ w.poison = false ∧ ((w.be = BitVec.allOnes 64 ∧ l = w.data) ∨ (w.be ≠ BitVec.allOnes 64 ∧ ∃ old, (s.stamped.lineVal (s.dev.readPid g off) (off % 4096 / 64) ki).1 = .data old ∧ l = mergeBytes old w.data w.be))) ∧
    (∃ (s : State) (i : Instr) (w : HostWr) (g : RegionRec) (off : Nat) (ki : Nat) (k : Nat) (e : Nat),
      s.dev.aon = true ∧ s.dev.TakesAt w.head w.hpa false g off ki k e ∧ (s.dev.slot ki).st = .active ∧ w.be ≠ 0 ∧ ((Writes i w ∧ (s.dev.window g off = .main ∨ (s.dev.window g off = .shadow ∧ s.dev.inDelta g off = true))) ∨ (i = .shadowWrite w ∧ s.dev.window g off = .shadow ∧ s.dev.inDelta g off = true)) ∧ w.poison = false ∧ w.be ≠ BitVec.allOnes 64 ∧ (s.stamped.lineVal (s.dev.readPid g off) (off % 4096 / 64) ki).1 = .stored) ∧
    (∃ (s : State) (i : Instr) (w : HostWr) (g : RegionRec) (off : Nat) (ki : Nat) (k : Nat) (e : Nat),
      s.dev.aon = true ∧ s.dev.TakesAt w.head w.hpa false g off ki k e ∧ (s.dev.slot ki).st = .active ∧ w.be ≠ 0 ∧ ((Writes i w ∧ (s.dev.window g off = .main ∨ (s.dev.window g off = .shadow ∧ s.dev.inDelta g off = true))) ∨ (i = .shadowWrite w ∧ s.dev.window g off = .shadow ∧ s.dev.inDelta g off = true)) ∧ w.poison = false ∧ w.be ≠ BitVec.allOnes 64 ∧ (s.stamped.lineVal (s.dev.readPid g off) (off % 4096 / 64) ki).1 = .macFail) ∧
    (∃ (s : State) (w : HostWr),
      s.dev.aon = true ∧ s.dev.canAccept w.head = true ∧ w.be = 0) ∧
    (∃ (s : State) (i : Instr) (w : HostWr) (g : RegionRec) (off : Nat) (ki : Nat) (k : Nat) (e : Nat) (n : Nat),
      s.dev.aon = true ∧ s.dev.TakesAt w.head w.hpa false g off ki k e ∧ s.dev.window g off = .shadow ∧ s.dev.inDelta g off = false ∧ w.be ≠ 0 ∧ (Writes i w ∨ i = .shadowWrite w) ∧ (s.dev.shadowOf g.number).state ≠ 2 ∧ (s.dev.shadowOf g.number).delta.length < shadowLimit g ∧ freeDelta (s.dev.shadowOf g.number) (shadowLimit g) = some n ∧ w.be = BitVec.allOnes 64 ∧ w.poison = false ∧ (s.dev.slot ki).st = .active ∧ s.dev.readPid g off ≠ s.dev.pid g true n) ∧
    (∃ (s : State) (i : Instr) (w : HostWr) (g : RegionRec) (off : Nat) (ki : Nat) (k : Nat) (e : Nat),
      s.dev.aon = true ∧ s.dev.TakesAt w.head w.hpa false g off ki k e ∧ s.dev.window g off = .shadow ∧ s.dev.inDelta g off = false ∧ w.be ≠ 0 ∧ (Writes i w ∨ i = .shadowWrite w) ∧ ((s.dev.shadowOf g.number).state = 2 ∨ shadowLimit g ≤ (s.dev.shadowOf g.number).delta.length)) ∧
    (∃ (s : State) (i : Instr) (w : HostWr) (g : RegionRec) (off : Nat) (ki : Nat) (k : Nat) (e : Nat),
      s.dev.aon = true ∧ s.dev.TakesAt w.head w.hpa false g off ki k e ∧ s.dev.window g off = .shadow ∧ s.dev.inDelta g off = false ∧ w.be ≠ 0 ∧ (Writes i w ∨ i = .shadowWrite w) ∧ ((s.dev.shadowOf g.number).state = 2 ∨ shadowLimit g ≤ (s.dev.shadowOf g.number).delta.length)) ∧
    (∃ (s : State) (w : HostWr) (g : RegionRec) (off : Nat) (ki : Nat) (k : Nat) (e : Nat),
      s.dev.aon = true ∧ s.dev.TakesAt w.head w.hpa false g off ki k e ∧ s.dev.window g off = .control 0 ∧ w.be ≠ 0 ∧ lineAt w.data 0 4 = 1 ∧ (w.be ≠ BitVec.allOnes 64 ∨ w.poison = true ∨ lineAt w.data 4 4 ≠ 0 ∨ lineAt w.data 16 48 ≠ 0)) ∧
    (∃ (s : State) (w : HostWr) (g : RegionRec) (off : Nat) (ki : Nat) (k : Nat) (e : Nat),
      s.dev.aon = true ∧ s.dev.TakesAt w.head w.hpa false g off ki k e ∧ s.dev.window g off = .control 0 ∧ w.be ≠ 0 ∧ lineAt w.data 0 4 = 1 ∧ w.be = BitVec.allOnes 64 ∧ w.poison = false ∧ lineAt w.data 4 4 = 0 ∧ lineAt w.data 16 48 = 0 ∧ lineAt w.data 8 8 ≠ (s.dev.shadowOf g.number).epoch) ∧
    (∃ (s : State) (w : HostWr) (g : RegionRec) (off : Nat) (ki : Nat) (k : Nat) (e : Nat),
      s.dev.aon = true ∧ s.dev.TakesAt w.head w.hpa false g off ki k e ∧ s.dev.window g off = .control 0 ∧ w.be ≠ 0 ∧ lineAt w.data 0 4 = 1 ∧ w.be = BitVec.allOnes 64 ∧ w.poison = false ∧ lineAt w.data 4 4 = 0 ∧ lineAt w.data 16 48 = 0 ∧ lineAt w.data 8 8 = (s.dev.shadowOf g.number).epoch ∧ (s.dev.shadowOf g.number).state = 2) ∧
    (∃ (s : State) (w : HostWr) (g : RegionRec) (off : Nat) (ki : Nat) (k : Nat) (e : Nat),
      s.dev.aon = true ∧ s.dev.TakesAt w.head w.hpa false g off ki k e ∧ s.dev.window g off = .control 0 ∧ w.be ≠ 0 ∧ lineAt w.data 0 4 = 1 ∧ w.be = BitVec.allOnes 64 ∧ w.poison = false ∧ lineAt w.data 4 4 = 0 ∧ lineAt w.data 16 48 = 0 ∧ lineAt w.data 8 8 = (s.dev.shadowOf g.number).epoch ∧ (s.dev.shadowOf g.number).state ≠ 2 ∧ (∀ x ∈ (s.dev.shadowOf g.number).delta, (s.dev.page (s.dev.pid g true x.2)).unpers = false)) ∧
    (∃ (s : State) (w : HostWr) (g : RegionRec) (off : Nat) (ki : Nat) (k : Nat) (e : Nat),
      s.dev.aon = true ∧ s.dev.TakesAt w.head w.hpa false g off ki k e ∧ s.dev.window g off = .control 0 ∧ w.be ≠ 0 ∧ lineAt w.data 0 4 = 2 ∧ w.be = BitVec.allOnes 64 ∧ w.poison = false ∧ lineAt w.data 4 4 = 0 ∧ lineAt w.data 16 48 = 0 ∧ lineAt w.data 8 8 ≠ (s.dev.shadowOf g.number).epoch) ∧
    (∃ (s : State) (w : HostWr) (g : RegionRec) (off : Nat) (ki : Nat) (k : Nat) (e : Nat),
      s.dev.aon = true ∧ s.dev.TakesAt w.head w.hpa false g off ki k e ∧ s.dev.window g off = .control 0 ∧ w.be ≠ 0 ∧ lineAt w.data 0 4 = 2 ∧ w.be = BitVec.allOnes 64 ∧ w.poison = false ∧ lineAt w.data 4 4 = 0 ∧ lineAt w.data 16 48 = 0 ∧ lineAt w.data 8 8 = (s.dev.shadowOf g.number).epoch) :=
  ⟨⟨st dv, .memWrPtl ⟨0, 9, 2 ^ 35 + (2 ^ 28 - 64), 7, BitVec.allOnes 64, false⟩, ⟨0, 9, 2 ^ 35 + (2 ^ 28 - 64), 7, BitVec.allOnes 64, false⟩, rVol, (2 ^ 28 - 64), 5, (sliceOfSector (sectorOf (2 ^ 35 + (2 ^ 28 - 64)))), 0, (by decide +kernel), (takesAt_of (lands_of 0 (by decide +kernel)) (by decide +kernel) (by decide +kernel)), (by decide +kernel), (by decide +kernel), (.inl ⟨.inr rfl, .inl (by decide +kernel)⟩), (by decide +kernel)⟩,
   ⟨st dv, .memWrPtl ⟨0, 9, 2 ^ 35 + (2 ^ 28 - 64), 7, BitVec.allOnes 64, true⟩, ⟨0, 9, 2 ^ 35 + (2 ^ 28 - 64), 7, BitVec.allOnes 64, true⟩, rVol, (2 ^ 28 - 64), 5, (sliceOfSector (sectorOf (2 ^ 35 + (2 ^ 28 - 64)))), 0, (by decide +kernel), (takesAt_of (lands_of 0 (by decide +kernel)) (by decide +kernel) (by decide +kernel)), (by decide +kernel), (by decide +kernel), (.inl ⟨.inr rfl, .inl (by decide +kernel)⟩), (by decide +kernel)⟩,
   ⟨st dv, .memWrPtl ⟨0, 9, 2 ^ 35 + (2 ^ 28 - 64), 7, BitVec.allOnes 64, false⟩, ⟨0, 9, 2 ^ 35 + (2 ^ 28 - 64), 7, BitVec.allOnes 64, false⟩, rVol, (2 ^ 28 - 64), 5, (sliceOfSector (sectorOf (2 ^ 35 + (2 ^ 28 - 64)))), 0, 7, (by decide +kernel), (takesAt_of (lands_of 0 (by decide +kernel)) (by decide +kernel) (by decide +kernel)), (by decide +kernel), (by decide +kernel), (.inl ⟨.inr rfl, .inl (by decide +kernel)⟩), (by decide +kernel), (.inl ⟨rfl, rfl⟩)⟩,
   ⟨s0_HostWritesTakeEffectAtAcceptance, .memWrPtl ⟨0, 9, 2 ^ 35 + (2 ^ 28 - 64), 7, 1, false⟩, ⟨0, 9, 2 ^ 35 + (2 ^ 28 - 64), 7, 1, false⟩, rVol, (2 ^ 28 - 64), 5, (sliceOfSector (sectorOf (2 ^ 35 + (2 ^ 28 - 64)))), 0, (by decide +kernel), (takesAt_of (lands_of 0 (by decide +kernel)) (by decide +kernel) (by decide +kernel)), (by decide +kernel), (by decide +kernel), (.inl ⟨.inr rfl, .inl (by decide +kernel)⟩), (by decide +kernel), (by decide +kernel), (by decide +kernel)⟩,
   ⟨s1_HostWritesTakeEffectAtAcceptance, .memWrPtl ⟨0, 9, 2 ^ 35 + (2 ^ 28 - 64), 7, 1, false⟩, ⟨0, 9, 2 ^ 35 + (2 ^ 28 - 64), 7, 1, false⟩, rVol, (2 ^ 28 - 64), 5, (sliceOfSector (sectorOf (2 ^ 35 + (2 ^ 28 - 64)))), 0, (by decide +kernel), (takesAt_of (lands_of 0 (by decide +kernel)) (by decide +kernel) (by decide +kernel)), (by decide +kernel), (by decide +kernel), (.inl ⟨.inr rfl, .inl (by decide +kernel)⟩), (by decide +kernel), (by decide +kernel), (by decide +kernel)⟩,
   ⟨st dv, ⟨0, 9, 2 ^ 35 + (2 ^ 28 - 64), 7, 0, false⟩, by decide +kernel⟩,
   ⟨st dv, .memWrPtl ⟨0, 9, 2 ^ 35 + (2 ^ 29 - 64), 7, BitVec.allOnes 64, false⟩, ⟨0, 9, 2 ^ 35 + (2 ^ 29 - 64), 7, BitVec.allOnes 64, false⟩, rVol, (2 ^ 29 - 64), 5, (sliceOfSector (sectorOf (2 ^ 35 + (2 ^ 29 - 64)))), 0, 0, (by decide +kernel), (takesAt_of (lands_of 0 (by decide +kernel)) (by decide +kernel) (by decide +kernel)), (by decide +kernel), (by decide +kernel), (by decide +kernel), (.inl (.inr rfl)), (by decide +kernel), (by decide +kernel), (by decide +kernel), (by decide +kernel), (by decide +kernel), (by decide +kernel), (by decide +kernel)⟩,
   ⟨s2_HostWritesTakeEffectAtAcceptance, .memWrPtl ⟨0, 9, 2 ^ 35 + (2 ^ 29 - 64), 7, BitVec.allOnes 64, false⟩, ⟨0, 9, 2 ^ 35 + (2 ^ 29 - 64), 7, BitVec.allOnes 64, false⟩, rVol, (2 ^ 29 - 64), 5, (sliceOfSector (sectorOf (2 ^ 35 + (2 ^ 29 - 64)))), 0, (by decide +kernel), (takesAt_of (lands_of 0 (by decide +kernel)) (by decide +kernel) (by decide +kernel)), (by decide +kernel), (by decide +kernel), (by decide +kernel), (.inl (.inr rfl)), (by decide +kernel)⟩,
   ⟨s2_HostWritesTakeEffectAtAcceptance, .memWrPtl ⟨0, 9, 2 ^ 35 + (2 ^ 29 - 64), 7, BitVec.allOnes 64, false⟩, ⟨0, 9, 2 ^ 35 + (2 ^ 29 - 64), 7, BitVec.allOnes 64, false⟩, rVol, (2 ^ 29 - 64), 5, (sliceOfSector (sectorOf (2 ^ 35 + (2 ^ 29 - 64)))), 0, (by decide +kernel), (takesAt_of (lands_of 0 (by decide +kernel)) (by decide +kernel) (by decide +kernel)), (by decide +kernel), (by decide +kernel), (by decide +kernel), (.inl (.inr rfl)), (by decide +kernel)⟩,
   ⟨st dv, ⟨0, 9, 2 ^ 35 + 2 ^ 29, BitVec.ofNat 512 (1 + 0 * 2 ^ 64 + 0 * 2 ^ 32), 1, false⟩, rVol, (2 ^ 29), 5, (sliceOfSector (sectorOf (2 ^ 35 + (2 ^ 29)))), 0, (by decide +kernel), (takesAt_of (lands_of 0 (by decide +kernel)) (by decide +kernel) (by decide +kernel)), (by decide +kernel), (by decide +kernel), (by decide +kernel), (by decide +kernel)⟩,
   ⟨s3_HostWritesTakeEffectAtAcceptance, ⟨0, 9, 2 ^ 35 + 2 ^ 29, BitVec.ofNat 512 (1 + 6 * 2 ^ 64 + 0 * 2 ^ 32), BitVec.allOnes 64, false⟩, rVol, (2 ^ 29), 5, (sliceOfSector (sectorOf (2 ^ 35 + (2 ^ 29)))), 0, (by decide +kernel), (takesAt_of (lands_of 0 (by decide +kernel)) (by decide +kernel) (by decide +kernel)), (by decide +kernel), (by decide +kernel), (by decide +kernel), (by decide +kernel), (by decide +kernel), (by decide +kernel), (by decide +kernel), (by decide +kernel)⟩,
   ⟨s4_HostWritesTakeEffectAtAcceptance, ⟨0, 9, 2 ^ 35 + 2 ^ 29, BitVec.ofNat 512 (1 + 7 * 2 ^ 64 + 0 * 2 ^ 32), BitVec.allOnes 64, false⟩, rVol, (2 ^ 29), 5, (sliceOfSector (sectorOf (2 ^ 35 + (2 ^ 29)))), 0, (by decide +kernel), (takesAt_of (lands_of 0 (by decide +kernel)) (by decide +kernel) (by decide +kernel)), (by decide +kernel), (by decide +kernel), (by decide +kernel), (by decide +kernel), (by decide +kernel), (by decide +kernel), (by decide +kernel), (by decide +kernel), (by decide +kernel)⟩,
   ⟨s3_HostWritesTakeEffectAtAcceptance, ⟨0, 9, 2 ^ 35 + 2 ^ 29, BitVec.ofNat 512 (1 + 7 * 2 ^ 64 + 0 * 2 ^ 32), BitVec.allOnes 64, false⟩, rVol, (2 ^ 29), 5, (sliceOfSector (sectorOf (2 ^ 35 + (2 ^ 29)))), 0, (by decide +kernel), (takesAt_of (lands_of 0 (by decide +kernel)) (by decide +kernel) (by decide +kernel)), (by decide +kernel), (by decide +kernel), (by decide +kernel), (by decide +kernel), (by decide +kernel), (by decide +kernel), (by decide +kernel), (by decide +kernel), (by decide +kernel), (by decide +kernel)⟩,
   ⟨s3_HostWritesTakeEffectAtAcceptance, ⟨0, 9, 2 ^ 35 + 2 ^ 29, BitVec.ofNat 512 (2 + 6 * 2 ^ 64 + 0 * 2 ^ 32), BitVec.allOnes 64, false⟩, rVol, (2 ^ 29), 5, (sliceOfSector (sectorOf (2 ^ 35 + (2 ^ 29)))), 0, (by decide +kernel), (takesAt_of (lands_of 0 (by decide +kernel)) (by decide +kernel) (by decide +kernel)), (by decide +kernel), (by decide +kernel), (by decide +kernel), (by decide +kernel), (by decide +kernel), (by decide +kernel), (by decide +kernel), (by decide +kernel)⟩,
   ⟨s3_HostWritesTakeEffectAtAcceptance, ⟨0, 9, 2 ^ 35 + 2 ^ 29, BitVec.ofNat 512 (2 + 7 * 2 ^ 64 + 0 * 2 ^ 32), BitVec.allOnes 64, false⟩, rVol, (2 ^ 29), 5, (sliceOfSector (sectorOf (2 ^ 35 + (2 ^ 29)))), 0, (by decide +kernel), (takesAt_of (lands_of 0 (by decide +kernel)) (by decide +kernel) (by decide +kernel)), (by decide +kernel), (by decide +kernel), (by decide +kernel), (by decide +kernel), (by decide +kernel), (by decide +kernel), (by decide +kernel), (by decide +kernel)⟩⟩

/-- The value of a computation that may fail. -/
def valOf {α : Type} (x : Except Nat α) : Option α := match x with | .ok y => some y | .error _ => none
/-- Why a computation failed. -/
def errOf {α : Type} (x : Except Nat α) : Option Nat := match x with | .ok _ => none | .error e => some e
theorem valOf_eq {α : Type} {x : Except Nat α} {y : α} (h : valOf x = some y) : x = .ok y := by
  cases x with
  | ok z => injection h with h; rw [h]
  | error e => cases h
theorem errOf_eq {α : Type} {x : Except Nat α} {e : Nat} (h : errOf x = some e) : x = .error e := by
  cases x with
  | ok z => cases h
  | error f => injection h with h; rw [h]

def s0_QueueAndCounterRequestsTakeEffect : State := st { dv with cfg := some { cfg0 with tier := { cfg0.tier with poolMib := 0 } } }
def s1_QueueAndCounterRequestsTakeEffect : State := st { dv with qen := { queues := [(1023, { asm := .opened { len := 150, user := 3, line0 := 7, openedAt := 5, timeoutUs := 100, lines := [(0, ⟨7, 4, 5⟩)], stack := [0] }, tailSeq := 1 })] } }
def s2_QueueAndCounterRequestsTakeEffect : State := st { dv with qen := { queues := [(1023, { asm := .opened { len := 100, user := 3, line0 := 7, openedAt := 5, timeoutUs := 100, lines := [(0, ⟨7, 4, 5⟩)], stack := [0] }, tailSeq := 1 })] } }
def s3_QueueAndCounterRequestsTakeEffect : State := st { dv with qen := { queues := [(1023, { tailSeq := 0 })] } }
def s4_QueueAndCounterRequestsTakeEffect : State := st { dv with qen := { queues := [(1023, { frames := [{ len := 100, user := 3, flags := 0, seq := 0, stamp := 5, lines := [(0, ⟨7, 4, 5⟩)], bad := [], stack := [0] }], tailSeq := 1 })] } }
def s5_QueueAndCounterRequestsTakeEffect : State := st { dv with qen := { queues := [(1023, { frames := [{ len := 100, user := 3, flags := 0, seq := 0, stamp := 5, lines := [(0, ⟨7, 4, 5⟩)], bad := [1], stack := [0] }], tailSeq := 1 })] } }
def s6_QueueAndCounterRequestsTakeEffect : State := st { dv with cfg := dv.cfg }
theorem meets_QueueAndCounterRequestsTakeEffect :
    (∃ (s : State) (w : HostWr) (g : RegionRec) (off : Nat) (ki : Nat) (k : Nat) (e : Nat) (q : Nat) (o : Nat) (r : Nat),
      s.dev.aon = true ∧ s.dev.TakesAt w.head w.hpa false g off ki k e ∧ s.dev.window g off = .enqueue q o ∧ s.dev.InSet g q ∧ s.dev.qen.ptrBad.find q = none ∧ w.be ≠ 0 ∧ w.poison = false ∧ (s.dev.queue q).asm = .idle ∧ o = 0 ∧ 0 < lineAt (mergeBytes 0 w.data w.be) 0 2 ∧ lineAt (mergeBytes 0 w.data w.be) 0 2 ≤ 16128 ∧ (s.dev.reserveFrame q (lineAt (mergeBytes 0 w.data w.be) 0 2)).1 = .error r) ∧
    (∃ (s : State) (w : HostWr) (g : RegionRec) (off : Nat) (ki : Nat) (k : Nat) (e : Nat) (q : Nat) (o : Nat) (x : List Nat × Nat),
      s.dev.aon = true ∧ s.dev.TakesAt w.head w.hpa false g off ki k e ∧ s.dev.window g off = .enqueue q o ∧ s.dev.InSet g q ∧ s.dev.qen.ptrBad.find q = none ∧ w.be ≠ 0 ∧ w.poison = false ∧ (s.dev.queue q).asm = .idle ∧ o = 0 ∧ 0 < lineAt (mergeBytes 0 w.data w.be) 0 2 ∧ lineAt (mergeBytes 0 w.data w.be) 0 2 ≤ 16128 ∧ (s.dev.reserveFrame q (lineAt (mergeBytes 0 w.data w.be) 0 2)).1 = .ok x ∧ frameLines (lineAt (mergeBytes 0 w.data w.be) 0 2) = 1) ∧
    (∃ (s : State) (w : HostWr) (g : RegionRec) (off : Nat) (ki : Nat) (k : Nat) (e : Nat) (q : Nat) (o : Nat) (x : List Nat × Nat),
      s.dev.aon = true ∧ s.dev.TakesAt w.head w.hpa false g off ki k e ∧ s.dev.window g off = .enqueue q o ∧ s.dev.InSet g q ∧ s.dev.qen.ptrBad.find q = none ∧ w.be ≠ 0 ∧ w.poison = false ∧ (s.dev.queue q).asm = .idle ∧ o = 0 ∧ 0 < lineAt (mergeBytes 0 w.data w.be) 0 2 ∧ lineAt (mergeBytes 0 w.data w.be) 0 2 ≤ 16128 ∧ (s.dev.reserveFrame q (lineAt (mergeBytes 0 w.data w.be) 0 2)).1 = .ok x ∧ frameLines (lineAt (mergeBytes 0 w.data w.be) 0 2) ≠ 1) ∧
    (∃ (s : State) (w : HostWr) (g : RegionRec) (off : Nat) (ki : Nat) (k : Nat) (e : Nat) (q : Nat) (o : Nat) (f : OpenFrame),
      s.dev.aon = true ∧ s.dev.TakesAt w.head w.hpa false g off ki k e ∧ s.dev.window g off = .enqueue q o ∧ s.dev.InSet g q ∧ s.dev.qen.ptrBad.find q = none ∧ w.be ≠ 0 ∧ w.poison = false ∧ (s.dev.queue q).asm = .opened f ∧ 0 < o / 64 ∧ f.lines.has (o / 64) = false ∧ o < 64 * (frameLines f.len - 1)) ∧
    (∃ (s : State) (w : HostWr) (g : RegionRec) (off : Nat) (ki : Nat) (k : Nat) (e : Nat) (q : Nat) (o : Nat) (f : OpenFrame),
      s.dev.aon = true ∧ s.dev.TakesAt w.head w.hpa false g off ki k e ∧ s.dev.window g off = .enqueue q o ∧ s.dev.InSet g q ∧ s.dev.qen.ptrBad.find q = none ∧ w.be ≠ 0 ∧ w.poison = false ∧ (s.dev.queue q).asm = .opened f ∧ 0 < o / 64 ∧ f.lines.has (o / 64) = false ∧ o = 64 * (frameLines f.len - 1)) ∧
    (∃ (s : State) (r : HostReq) (g : RegionRec) (off : Nat) (ki : Nat) (k : Nat) (e : Nat) (q : Nat) (o : Nat),
      s.dev.aon = true ∧ s.dev.TakesAt r.head r.hpa true g off ki k e ∧ s.dev.InSet g q ∧ s.dev.qen.ptrBad.find q = none ∧ s.dev.window g off = .dequeue q o ∧ (s.dev.queue q).frames = []) ∧
    (∃ (s : State) (r : HostReq) (g : RegionRec) (off : Nat) (ki : Nat) (k : Nat) (e : Nat) (q : Nat) (o : Nat) (f : Frame) (fs : List Frame),
      s.dev.aon = true ∧ s.dev.TakesAt r.head r.hpa true g off ki k e ∧ s.dev.InSet g q ∧ s.dev.qen.ptrBad.find q = none ∧ s.dev.window g off = .dequeue q o ∧ (s.dev.queue q).frames = f :: fs ∧ frameLines f.len ≤ o / 64) ∧
    (∃ (s : State) (r : HostReq) (g : RegionRec) (off : Nat) (ki : Nat) (k : Nat) (e : Nat) (q : Nat) (o : Nat) (f : Frame) (fs : List Frame),
      s.dev.aon = true ∧ s.dev.TakesAt r.head r.hpa true g off ki k e ∧ s.dev.InSet g q ∧ s.dev.qen.ptrBad.find q = none ∧ s.dev.window g off = .dequeue q o ∧ (s.dev.queue q).frames = f :: fs ∧ o / 64 < frameLines f.len ∧ f.bad.contains (o / 64) = true) ∧
    (∃ (s : State) (r : HostReq) (g : RegionRec) (off : Nat) (ki : Nat) (k : Nat) (e : Nat) (q : Nat) (o : Nat) (f : Frame) (fs : List Frame) (c : Cell),
      s.dev.aon = true ∧ s.dev.TakesAt r.head r.hpa true g off ki k e ∧ s.dev.InSet g q ∧ s.dev.qen.ptrBad.find q = none ∧ s.dev.window g off = .dequeue q o ∧ (s.dev.queue q).frames = f :: fs ∧ o / 64 < frameLines f.len ∧ f.bad.contains (o / 64) = false ∧ s.dev.queuePersist q = false ∧ f.lines.find (o / 64) = some c ∧ s.dev.verifies c (s.dev.queueKey q) = true) ∧
    (∃ (s : State) (r : HostReq) (g : RegionRec) (off : Nat) (ki : Nat) (k : Nat) (e : Nat) (q : Nat),
      s.dev.aon = true ∧ s.dev.TakesAt r.head r.hpa true g off ki k e ∧ s.dev.InSet g q ∧ s.dev.qen.ptrBad.find q = none ∧ s.dev.window g off = .doorbell q) ∧
    (∃ (s : State) (w : HostWr) (g : RegionRec) (off : Nat) (ki : Nat) (k : Nat) (e : Nat) (q : Nat),
      s.dev.aon = true ∧ s.dev.TakesAt w.head w.hpa false g off ki k e ∧ s.dev.window g off = .doorbell q ∧ s.dev.InSet g q ∧ s.dev.qen.ptrBad.find q = none ∧ w.be ≠ 0 ∧ lineAt w.data 0 4 = 1 ∧ w.be = BitVec.allOnes 64 ∧ w.poison = false ∧ 0 < lineAt w.data 12 2 ∧ lineAt w.data 12 2 ≤ 256 ∧ lineAt w.data 8 4 = (s.dev.queue q).headSeq) ∧
    (∃ (s : State) (w : HostWr) (g : RegionRec) (off : Nat) (ki : Nat) (k : Nat) (e : Nat) (q : Nat),
      s.dev.aon = true ∧ s.dev.TakesAt w.head w.hpa false g off ki k e ∧ s.dev.window g off = .doorbell q ∧ s.dev.InSet g q ∧ s.dev.qen.ptrBad.find q = none ∧ w.be ≠ 0 ∧ lineAt w.data 0 4 = 1 ∧ w.be = BitVec.allOnes 64 ∧ w.poison = false ∧ 0 < lineAt w.data 12 2 ∧ lineAt w.data 12 2 ≤ 256 ∧ lineAt w.data 8 4 ≠ (s.dev.queue q).headSeq) ∧
    (∃ (s : State) (w : HostWr) (g : RegionRec) (off : Nat) (ki : Nat) (k : Nat) (e : Nat) (q : Nat),
      s.dev.aon = true ∧ s.dev.TakesAt w.head w.hpa false g off ki k e ∧ s.dev.window g off = .doorbell q ∧ s.dev.InSet g q ∧ s.dev.qen.ptrBad.find q = none ∧ w.be ≠ 0 ∧ lineAt w.data 0 4 = 1 ∧ (w.be ≠ BitVec.allOnes 64 ∨ w.poison = true ∨ lineAt w.data 12 2 = 0 ∨ 256 < lineAt w.data 12 2)) ∧
    (∃ (s : State) (w : HostWr) (g : RegionRec) (off : Nat) (ki : Nat) (k : Nat) (e : Nat) (q : Nat),
      s.dev.aon = true ∧ s.dev.TakesAt w.head w.hpa false g off ki k e ∧ s.dev.window g off = .doorbell q ∧ s.dev.InSet g q ∧ s.dev.qen.ptrBad.find q = none ∧ w.be ≠ 0 ∧ lineAt w.data 0 4 = 2 ∧ w.be = BitVec.allOnes 64 ∧ w.poison = false) ∧
    (∃ (s : State) (i : Instr) (w : HostWr) (g : RegionRec) (off : Nat) (ki : Nat) (k : Nat) (e : Nat) (m : Nat) (kind : ReqKind),
      s.dev.aon = true ∧ ((((i = .updateLine w ∧ s.dev.window g off = .tally ∧ kind = .tally) ∨ (i = .counterWindowWrite w ∧ s.dev.window g off = .counter m ∧ 8 * m < s.dev.regionCount g ∧ kind = .counterWrite)) ∧ w.be ≠ 0 ∧ s.dev.TakesAt w.head w.hpa false g off ki k e) ∨ (i = .counterWindowRead ⟨w.head, w.tag, w.hpa⟩ ∧ s.dev.window g off = .counter m ∧ 8 * m < s.dev.regionCount g ∧ kind = .counterRead ∧ s.dev.TakesAt w.head w.hpa true g off ki k e)) ∧ ki = g.keyBase ∧ kind ≠ .counterRead) ∧
    (∃ (s : State) (i : Instr) (w : HostWr) (g : RegionRec) (off : Nat) (ki : Nat) (k : Nat) (e : Nat) (m : Nat) (kind : ReqKind),
      s.dev.aon = true ∧ ((((i = .updateLine w ∧ s.dev.window g off = .tally ∧ kind = .tally) ∨ (i = .counterWindowWrite w ∧ s.dev.window g off = .counter m ∧ 8 * m < s.dev.regionCount g ∧ kind = .counterWrite)) ∧ w.be ≠ 0 ∧ s.dev.TakesAt w.head w.hpa false g off ki k e) ∨ (i = .counterWindowRead ⟨w.head, w.tag, w.hpa⟩ ∧ s.dev.window g off = .counter m ∧ 8 * m < s.dev.regionCount g ∧ kind = .counterRead ∧ s.dev.TakesAt w.head w.hpa true g off ki k e)) ∧ ki ≠ g.keyBase ∧ kind = .counterRead) ∧
    (∃ (s : State) (i : Instr) (w : HostWr) (g : RegionRec) (off : Nat) (ki : Nat) (k : Nat) (e : Nat) (m : Nat) (kind : ReqKind),
      s.dev.aon = true ∧ ((((i = .updateLine w ∧ s.dev.window g off = .tally ∧ kind = .tally) ∨ (i = .counterWindowWrite w ∧ s.dev.window g off = .counter m ∧ 8 * m < s.dev.regionCount g ∧ kind = .counterWrite)) ∧ w.be ≠ 0 ∧ s.dev.TakesAt w.head w.hpa false g off ki k e) ∨ (i = .counterWindowRead ⟨w.head, w.tag, w.hpa⟩ ∧ s.dev.window g off = .counter m ∧ 8 * m < s.dev.regionCount g ∧ kind = .counterRead ∧ s.dev.TakesAt w.head w.hpa true g off ki k e)) ∧ ki ≠ g.keyBase ∧ kind ≠ .counterRead) :=
  ⟨⟨s0_QueueAndCounterRequestsTakeEffect, ⟨0, 9, 2 ^ 34 + (1023 * 16384 + 0), 64, BitVec.allOnes 64, false⟩, rQueue, (1023 * 16384 + 0), 4, (xorFold 4 (1023 % 65536) 4 ^^^ (1023 / 65536 % 2)), 0, 1023, 0, 3, (by decide +kernel), (takesAt_of (lands_of 0 (by decide +kernel)) (by decide +kernel) (by decide +kernel)), (by decide +kernel), (inSet_of qSet (by decide +kernel)), (by decide +kernel), (by decide +kernel), (by decide +kernel), (by decide +kernel), (by decide +kernel), (by decide +kernel), (by decide +kernel), (errOf_eq (by decide +kernel))⟩,
   ⟨st dv, ⟨0, 9, 2 ^ 34 + (1023 * 16384 + 0), 48, BitVec.allOnes 64, false⟩, rQueue, (1023 * 16384 + 0), 4, (xorFold 4 (1023 % 65536) 4 ^^^ (1023 / 65536 % 2)), 0, 1023, 0, ([0], 0), (by decide +kernel), (takesAt_of (lands_of 0 (by decide +kernel)) (by decide +kernel) (by decide +kernel)), (by decide +kernel), (inSet_of qSet (by decide +kernel)), (by decide +kernel), (by decide +kernel), (by decide +kernel), (by decide +kernel), (by decide +kernel), (by decide +kernel), (by decide +kernel), (valOf_eq (by decide +kernel)), (by decide +kernel)⟩,
   ⟨st dv, ⟨0, 9, 2 ^ 34 + (1023 * 16384 + 0), 49, BitVec.allOnes 64, false⟩, rQueue, (1023 * 16384 + 0), 4, (xorFold 4 (1023 % 65536) 4 ^^^ (1023 / 65536 % 2)), 0, 1023, 0, ([0], 0), (by decide +kernel), (takesAt_of (lands_of 0 (by decide +kernel)) (by decide +kernel) (by decide +kernel)), (by decide +kernel), (inSet_of qSet (by decide +kernel)), (by decide +kernel), (by decide +kernel), (by decide +kernel), (by decide +kernel), (by decide +kernel), (by decide +kernel), (by decide +kernel), (valOf_eq (by decide +kernel)), (by decide +kernel)⟩,
   ⟨s1_QueueAndCounterRequestsTakeEffect, ⟨0, 9, 2 ^ 34 + (1023 * 16384 + 64), 9, BitVec.allOnes 64, false⟩, rQueue, (1023 * 16384 + 64), 4, (xorFold 4 (1023 % 65536) 4 ^^^ (1023 / 65536 % 2)), 0, 1023, 64, { len := 150, user := 3, line0 := 7, openedAt := 5, timeoutUs := 100, lines := [(0, ⟨7, 4, 5⟩)], stack := [0] }, (by decide +kernel), (takesAt_of (lands_of 0 (by decide +kernel)) (by decide +kernel) (by decide +kernel)), (by decide +kernel), (inSet_of qSet (by decide +kernel)), (by decide +kernel), (by decide +kernel), (by decide +kernel), (by decide +kernel), (by decide +kernel), (by decide +kernel), (by decide +kernel)⟩,
   ⟨s2_QueueAndCounterRequestsTakeEffect, ⟨0, 9, 2 ^ 34 + (1023 * 16384 + 64), 9, BitVec.allOnes 64, false⟩, rQueue, (1023 * 16384 + 64), 4, (xorFold 4 (1023 % 65536) 4 ^^^ (1023 / 65536 % 2)), 0, 1023, 64, { len := 100, user := 3, line0 := 7, openedAt := 5, timeoutUs := 100, lines := [(0, ⟨7, 4, 5⟩)], stack := [0] }, (by decide +kernel), (takesAt_of (lands_of 0 (by decide +kernel)) (by decide +kernel) (by decide +kernel)), (by decide +kernel), (inSet_of qSet (by decide +kernel)), (by decide +kernel), (by decide +kernel), (by decide +kernel), (by decide +kernel), (by decide +kernel), (by decide +kernel), (by decide +kernel)⟩,
   ⟨s3_QueueAndCounterRequestsTakeEffect, ⟨0, 9, 2 ^ 34 + (2 ^ 31 + 1023 * 16384 + 0)⟩, rQueue, (2 ^ 31 + 1023 * 16384 + 0), 4, (xorFold 4 (1023 % 65536) 4 ^^^ (1023 / 65536 % 2)), 0, 1023, 0, (by decide +kernel), (takesAt_of (lands_of 0 (by decide +kernel)) (by decide +kernel) (by decide +kernel)), (inSet_of qSet (by decide +kernel)), (by decide +kernel), (by decide +kernel), (by decide +kernel)⟩,
   ⟨s4_QueueAndCounterRequestsTakeEffect, ⟨0, 9, 2 ^ 34 + (2 ^ 31 + 1023 * 16384 + 128)⟩, rQueue, (2 ^ 31 + 1023 * 16384 + 128), 4, (xorFold 4 (1023 % 65536) 4 ^^^ (1023 / 65536 % 2)), 0, 1023, 128, { len := 100, user := 3, flags := 0, seq := 0, stamp := 5, lines := [(0, ⟨7, 4, 5⟩)], bad := [], stack := [0] }, [], (by decide +kernel), (takesAt_of (lands_of 0 (by decide +kernel)) (by decide +kernel) (by decide +kernel)), (inSet_of qSet (by decide +kernel)), (by decide +kernel), (by decide +kernel), (by decide +kernel), (by decide +kernel)⟩,
   ⟨s5_QueueAndCounterRequestsTakeEffect, ⟨0, 9, 2 ^ 34 + (2 ^ 31 + 1023 * 16384 + 64)⟩, rQueue, (2 ^ 31 + 1023 * 16384 + 64), 4, (xorFold 4 (1023 % 65536) 4 ^^^ (1023 / 65536 % 2)), 0, 1023, 64, { len := 100, user := 3, flags := 0, seq := 0, stamp := 5, lines := [(0, ⟨7, 4, 5⟩)], bad := [1], stack := [0] }, [], (by decide +kernel), (takesAt_of (lands_of 0 (by decide +kernel)) (by decide +kernel) (by decide +kernel)), (inSet_of qSet (by decide +kernel)), (by decide +kernel), (by decide +kernel), (by decide +kernel), (by decide +kernel), (by decide +kernel)⟩,
   ⟨s4_QueueAndCounterRequestsTakeEffect, ⟨0, 9, 2 ^ 34 + (2 ^ 31 + 1023 * 16384 + 0)⟩, rQueue, (2 ^ 31 + 1023 * 16384 + 0), 4, (xorFold 4 (1023 % 65536) 4 ^^^ (1023 / 65536 % 2)), 0, 1023, 0, { len := 100, user := 3, flags := 0, seq := 0, stamp := 5, lines := [(0, ⟨7, 4, 5⟩)], bad := [], stack := [0] }, [], ⟨7, 4, 5⟩, (by decide +kernel), (takesAt_of (lands_of 0 (by decide +kernel)) (by decide +kernel) (by decide +kernel)), (inSet_of qSet (by decide +kernel)), (by decide +kernel), (by decide +kernel), (by decide +kernel), (by decide +kernel), (by decide +kernel), (by decide +kernel), (by decide +kernel), (by decide +kernel)⟩,
   ⟨st dv, ⟨0, 9, 2 ^ 34 + (2 ^ 32 + 1023 * 64)⟩, rQueue, (2 ^ 32 + 1023 * 64), 4, (xorFold 4 (1023 % 65536) 4 ^^^ (1023 / 65536 % 2)), 0, 1023, (by decide +kernel), (takesAt_of (lands_of 0 (by decide +kernel)) (by decide +kernel) (by decide +kernel)), (inSet_of qSet (by decide +kernel)), (by decide +kernel), (by decide +kernel)⟩,
   ⟨s4_QueueAndCounterRequestsTakeEffect, ⟨0, 9, 2 ^ 34 + (2 ^ 32 + 1023 * 64), BitVec.ofNat 512 (1 + 0 * 2 ^ 64 + 256 * 2 ^ 96), BitVec.allOnes 64, false⟩, rQueue, (2 ^ 32 + 1023 * 64), 4, (xorFold 4 (1023 % 65536) 4 ^^^ (1023 / 65536 % 2)), 0, 1023, (by decide +kernel), (takesAt_of (lands_of 0 (by decide +kernel)) (by decide +kernel) (by decide +kernel)), (by decide +kernel), (inSet_of qSet (by decide +kernel)), (by decide +kernel), (by decide +kernel), (by decide +kernel), (by decide +kernel), (by decide +kernel), (by decide +kernel), (by decide +kernel), (by decide +kernel)⟩,
   ⟨s4_QueueAndCounterRequestsTakeEffect, ⟨0, 9, 2 ^ 34 + (2 ^ 32 + 1023 * 64), BitVec.ofNat 512 (1 + 5 * 2 ^ 64 + 1 * 2 ^ 96), BitVec.allOnes 64, false⟩, rQueue, (2 ^ 32 + 1023 * 64), 4, (xorFold 4 (1023 % 65536) 4 ^^^ (1023 / 65536 % 2)), 0, 1023, (by decide +kernel), (takesAt_of (lands_of 0 (by decide +kernel)) (by decide +kernel) (by decide +kernel)), (by decide +kernel), (inSet_of qSet (by decide +kernel)), (by decide +kernel), (by decide +kernel), (by decide +kernel), (by decide +kernel), (by decide +kernel), (by decide +kernel), (by decide +kernel), (by decide +kernel)⟩,
   ⟨s4_QueueAndCounterRequestsTakeEffect, ⟨0, 9, 2 ^ 34 + (2 ^ 32 + 1023 * 64), BitVec.ofNat 512 (1 + 0 * 2 ^ 64 + 257 * 2 ^ 96), BitVec.allOnes 64, false⟩, rQueue, (2 ^ 32 + 1023 * 64), 4, (xorFold 4 (1023 % 65536) 4 ^^^ (1023 / 65536 % 2)), 0, 1023, (by decide +kernel), (takesAt_of (lands_of 0 (by decide +kernel)) (by decide +kernel) (by decide +kernel)), (by decide +kernel), (inSet_of qSet (by decide +kernel)), (by decide +kernel), (by decide +kernel), (by decide +kernel), (by decide +kernel)⟩,
   ⟨s4_QueueAndCounterRequestsTakeEffect, ⟨0, 9, 2 ^ 34 + (2 ^ 32 + 1023 * 64), BitVec.ofNat 512 (2 + 0 * 2 ^ 64 + 0 * 2 ^ 96), BitVec.allOnes 64, false⟩, rQueue, (2 ^ 32 + 1023 * 64), 4, (xorFold 4 (1023 % 65536) 4 ^^^ (1023 / 65536 % 2)), 0, 1023, (by decide +kernel), (takesAt_of (lands_of 0 (by decide +kernel)) (by decide +kernel) (by decide +kernel)), (by decide +kernel), (inSet_of qSet (by decide +kernel)), (by decide +kernel), (by decide +kernel), (by decide +kernel), (by decide +kernel), (by decide +kernel)⟩,
   ⟨s6_QueueAndCounterRequestsTakeEffect, .counterWindowWrite ⟨0, 9, 2 ^ 33 + (63 * 64), 7, BitVec.allOnes 64, false⟩, ⟨0, 9, 2 ^ 33 + (63 * 64), 7, BitVec.allOnes 64, false⟩, rCounter, (63 * 64), 2, (xorFold 4 63 10), 0, 63, .counterWrite, (by decide +kernel), (.inl ⟨.inr ⟨rfl, by decide +kernel, by decide +kernel, rfl⟩, by decide +kernel, takesAt_of (lands_of 0 (by decide +kernel)) (by decide +kernel) (by decide +kernel)⟩), (by decide +kernel), (by decide +kernel)⟩,
   ⟨s6_QueueAndCounterRequestsTakeEffect, .counterWindowRead ⟨0, 9, 2 ^ 33 + (2 ^ 30 + 63 * 64)⟩, ⟨0, 9, 2 ^ 33 + (2 ^ 30 + 63 * 64), 7, BitVec.allOnes 64, false⟩, rCounter, (63 * 64), 3, (xorFold 4 63 10), 0, 63, .counterRead, (by decide +kernel), (.inr ⟨rfl, by decide +kernel, by decide +kernel, rfl, takesAt_of (lands_of 0 (by decide +kernel)) (by decide +kernel) (by decide +kernel)⟩), (by decide +kernel), (by decide +kernel)⟩,
   ⟨s6_QueueAndCounterRequestsTakeEffect, .counterWindowWrite ⟨0, 9, 2 ^ 33 + (2 ^ 30 + 63 * 64), 7, BitVec.allOnes 64, false⟩, ⟨0, 9, 2 ^ 33 + (2 ^ 30 + 63 * 64), 7, BitVec.allOnes 64, false⟩, rCounter, (63 * 64), 3, (xorFold 4 63 10), 0, 63, .counterWrite, (by decide +kernel), (.inl ⟨.inr ⟨rfl, by decide +kernel, by decide +kernel, rfl⟩, by decide +kernel, takesAt_of (lands_of 0 (by decide +kernel)) (by decide +kernel) (by decide +kernel)⟩), (by decide +kernel), (by decide +kernel)⟩⟩

theorem meets_ApertureAccessesOfTheWrongKindChangeNoQueue :
    (∃ (s : State) (r : HostReq) (g : RegionRec) (off : Nat) (ki : Nat) (q : Nat) (o : Nat),
      s.dev.aon = true ∧ s.dev.Lands r.head r.hpa g off ki ∧ s.dev.window g off = .enqueue q o ∧ s.dev.InSet g q) ∧
    (∃ (s : State) (w : HostWr) (g : RegionRec) (off : Nat) (ki : Nat) (q : Nat) (o : Nat),
      s.dev.aon = true ∧ s.dev.Lands w.head w.hpa g off ki ∧ s.dev.window g off = .dequeue q o ∧ w.be ≠ 0 ∧ s.dev.InSet g q) ∧
    (∃ (s : State) (w : HostWr) (g : RegionRec) (off : Nat) (ki : Nat) (q : Nat) (o : Nat),
      s.dev.aon = true ∧ s.dev.Lands w.head w.hpa g off ki ∧ s.dev.window g off = .dequeue q o ∧ w.be ≠ 0 ∧ ¬ s.dev.InSet g q) ∧
    (∃ (s : State) (h : Nat) (hpa : Nat) (g : RegionRec) (off : Nat) (ki : Nat) (q : Nat) (o : Nat),
      s.dev.aon = true ∧ s.dev.Lands h hpa g off ki ∧ ¬ s.dev.InSet g q ∧ (s.dev.window g off = .dequeue q o ∨ s.dev.window g off = .doorbell q)) ∧
    (∃ (s : State) (i : Instr) (h : Nat) (hpa : Nat) (w : HostWr) (g : RegionRec) (off : Nat) (ki : Nat) (q : Nat) (o : Nat),
      s.dev.aon = true ∧ s.dev.Lands h hpa g off ki ∧ ¬ s.dev.InSet g q ∧ (s.dev.window g off = .enqueue q o ∨ s.dev.window g off = .doorbell q) ∧ Writes i w ∧ w.head = h ∧ w.hpa = hpa ∧ w.be ≠ 0) :=
  ⟨⟨st dv, ⟨0, 9, 2 ^ 34 + (1023 * 16384 + 0)⟩, rQueue, (1023 * 16384 + 0), 4, 1023, 0, (by decide +kernel), (lands_of 0 (by decide +kernel)), (by decide +kernel), (inSet_of qSet (by decide +kernel))⟩,
   ⟨st dv, ⟨0, 9, 2 ^ 34 + (2 ^ 31 + 1023 * 16384 + 0), 7, BitVec.allOnes 64, false⟩, rQueue, (2 ^ 31 + 1023 * 16384 + 0), 4, 1023, 0, (by decide +kernel), (lands_of 0 (by decide +kernel)), (by decide +kernel), (by decide +kernel), (inSet_of qSet (by decide +kernel))⟩,
   ⟨st dv, ⟨0, 9, 2 ^ 34 + (2 ^ 31 + 1024 * 16384), 7, BitVec.allOnes 64, false⟩, rQueue, (2 ^ 31 + 1024 * 16384), 4, 1024, 0, (by decide +kernel), (lands_of 0 (by decide +kernel)), (by decide +kernel), (by decide +kernel), (notInSet_of qSet (by decide +kernel) (by decide +kernel))⟩,
   ⟨st dv, 0, 2 ^ 34 + (2 ^ 31 + 1024 * 16384), rQueue, (2 ^ 31 + 1024 * 16384), 4, 1024, 0, (by decide +kernel), (lands_of 0 (by decide +kernel)), (notInSet_of qSet (by decide +kernel) (by decide +kernel)), (.inl (by decide +kernel))⟩,
   ⟨st dv, .memWrPtl ⟨0, 9, 2 ^ 34 + (1024 * 16384), 7, BitVec.allOnes 64, false⟩, 0, 2 ^ 34 + (1024 * 16384), ⟨0, 9, 2 ^ 34 + (1024 * 16384), 7, BitVec.allOnes 64, false⟩, rQueue, (1024 * 16384), 4, 1024, 0, (by decide +kernel), (lands_of 0 (by decide +kernel)), (notInSet_of qSet (by decide +kernel) (by decide +kernel)), (.inl (by decide +kernel)), (.inr rfl), (rfl), (rfl), (by decide +kernel)⟩⟩

end Sys2Proof.Tests
end

section
/-!
The count of an event source after an occurrence (R412): the occurrence adds one to it, saturating, and none of the routes
that follow touches it.
-/
namespace Sys2Proof.Machine

@[simp] theorem Dev.msix_regs (d : Dev) (h v : Nat) : (d.msix h v).regs = d.regs := by
  unfold Dev.msix
  dsimp only
  split
  · rfl
  · split
    · rfl
    · split <;> rfl

@[simp] theorem Dev.msixHeads_regs (d : Dev) (mask v : Nat) : (d.msixHeads mask v).regs = d.regs :=
  Dev.each_keeps (·.regs) _ _ (fun d h => d.msix_regs h v) d

theorem Dev.msixHeads_evOnly (d : Dev) (mask v : Nat) : d.EvOnly (d.msixHeads mask v) :=
  .each _ _ (fun d h => d.msix_evOnly h v) d

@[simp] theorem Dev.logRecord_regs (d : Dev) (src heads : Nat) (r : EvRec) : (d.logRecord src heads r).regs = d.regs :=
  Dev.each_keeps (·.regs) _ _ (fun d h => d.msix_regs h _) _

/-- Reset values come from the configuration, which no event changes: an unchanged register store reads as before. -/
theorem Dev.EvOnly.reg_of_regs {d e : Dev} (h : d.EvOnly e) (hr : e.regs = d.regs) (f : Fld) (i : Nat) :
    e.reg f i = d.reg f i := by
  obtain ⟨r, v, o, rfl, -⟩ := h
  exact Dev.reg_congr hr rfl f i

theorem Dev.notifyMctp_reg (d : Dev) (r : EvRec) {f : Fld} (hf : .EVT_DROP_MCTP ≠ f) (i : Nat) :
    (d.notifyMctp r).reg f i = d.reg f i := by
  unfold Dev.notifyMctp
  split
  · exact d.reg_setReg_ne _ (.inl hf)
  · split
    · exact d.reg_setReg_ne _ (.inl hf)
    · exact Dev.reg_congr rfl rfl f i

/-- Placing a record writes no register field but the two counts of dropped records. -/
theorem Dev.placeRecord_reg (d : Dev) (src heads : Nat) (r : EvRec) {f : Fld} (hr : .EVT_DROP_RATE ≠ f)
    (hm : .EVT_DROP_MCTP ≠ f) (i : Nat) : (d.placeRecord src heads r).reg f i = d.reg f i := by
  have logged : ∀ (e : Dev) (b : Prop) [Decidable b], e.reg f i = d.reg f i →
      (if b then e.logRecord src heads r else e).reg f i = d.reg f i := by
    intro e b _ he
    split
    · exact ((e.logRecord_evOnly src heads r).reg_of_regs (e.logRecord_regs src heads r) f i).trans he
    · exact he
  unfold Dev.placeRecord
  dsimp only
  split
  · rfl
  · split
    · exact d.reg_setReg_ne _ (.inl hr)
    · split
      · exact (Dev.notifyMctp_reg _ r hm i).trans (logged _ _ (Dev.reg_congr rfl rfl f i))
      · exact logged _ _ (Dev.reg_congr rfl rfl f i)

theorem satAdd_mod (w a b : Nat) : satAdd w a b % 2 ^ w = satAdd w a b :=
  Nat.mod_eq_of_lt (by have := Nat.two_pow_pos w; unfold satAdd; omega)

/-- A saturating count adds what it is given. -/
theorem Dev.count_counted (d : Dev) (f : Fld) (i n : Nat) : d.Counted (d.count f i n) f i n := by
  unfold Dev.Counted Dev.count
  rw [Dev.reg_setReg, satAdd_mod]

/-- An occurrence is counted once for its source, enabled or not (R412). -/
theorem Dev.raise_counted (d : Dev) (src : Nat) (i : EvInfo) : d.Counted (d.raise src i) .EVT_CFGn_COUNT src 1 := by
  have hc := d.count_counted .EVT_CFGn_COUNT src 1
  unfold Dev.Counted at hc ⊢
  unfold Dev.raise
  dsimp only
  split
  · exact hc
  · rw [Dev.placeRecord_reg _ _ _ _ (by decide) (by decide)]
    have status : ∀ v, (({ d.count .EVT_CFGn_COUNT src with evt := v } : Dev).setFieldBit .EVT_STATUSw_STATUS
        (src / 32) (src % 32) true).reg .EVT_CFGn_COUNT src = (d.count .EVT_CFGn_COUNT src).reg .EVT_CFGn_COUNT src :=
      fun v => (Dev.reg_setReg_ne _ _ (.inl (by decide))).trans (Dev.reg_congr rfl rfl _ _)
    split
    · rw [(Dev.msixHeads_evOnly _ _ _).reg_of_regs (Dev.msixHeads_regs _ _ _)]
      exact (status _).trans hc
    · exact (status _).trans hc

/-- What differs in event state, output and event fields differs in no other part. -/
theorem Dev.EvOnly.changesOnly {d e : Dev} (h : d.EvOnly e) : d.ChangesOnly e [.evt, .out, .regs] := by
  obtain ⟨r, v, o, rfl, -⟩ := h
  intro p hp
  cases p with
  | evt | out | regs => simp at hp
  | _ => rfl

end Sys2Proof.Machine
end

section
/-!
Requests that a head answers itself (R13, R56, R214): the answer, where a request lands, and what `hostRequest` comes to when
its window refuses it.
-/
namespace Sys2Proof.Machine

/-! ## The answer of the head -/

theorem Dev.headAnswer_eq (d : Dev) (h tag : Nat) (rd : Bool) :
    d.headAnswer h tag rd = { d with out := .mem h tag none rd (d.reg .GLB_HEAD_LOAD_DEVLOAD h) :: d.out } := rfl

theorem Dev.headAnswer_puts (d : Dev) (h tag : Nat) (rd : Bool) :
    d.Puts (d.headAnswer h tag rd) (.mem h tag none rd (d.reg .GLB_HEAD_LOAD_DEVLOAD h)) :=
  ⟨[_], rfl, List.mem_singleton.mpr rfl⟩

theorem Dev.headAnswer_evOnly (d : Dev) (h tag : Nat) (rd : Bool) : d.EvOnly (d.headAnswer h tag rd) := d.emit_evOnly _

/-- The answer after what only events changed: the head still names the DevLoad from before. -/
theorem Dev.EvOnly.headAnswer_puts {d e : Dev} (k : d.EvOnly e) (h tag : Nat) (rd : Bool) :
    d.Puts (e.headAnswer h tag rd) (.mem h tag none rd (d.reg .GLB_HEAD_LOAD_DEVLOAD h)) := by
  obtain ⟨l, hl⟩ := k.out
  rw [e.headAnswer_eq, k.reg .GLB_HEAD_LOAD_DEVLOAD rfl h]
  exact ⟨_ :: l, congrArg (_ :: ·) hl, List.mem_cons_self⟩

/-- The device after a head has refused a request of a region with an event of source `src`, unless it is silent on it: a
read outside its set raises none (R56). -/
def Dev.refusedAt (d : Dev) (src h tag line region : Nat) (rd : Bool) : Dev :=
  (if rd && src = 70 then d else d.hostEvent src h tag line region (d.regionHeads region)).headAnswer h tag rd

theorem Dev.refusedAt_evOnly (d : Dev) (src h tag line region : Nat) (rd : Bool) :
    d.EvOnly (d.refusedAt src h tag line region rd) :=
  (Dev.EvOnly.ite _ (.refl d) (d.raise_evOnly _ _)).trans (Dev.headAnswer_evOnly _ _ _ _)

theorem Dev.refusedAt_puts (d : Dev) (src h tag line region : Nat) (rd : Bool) :
    d.Puts (d.refusedAt src h tag line region rd) (.mem h tag none rd (d.reg .GLB_HEAD_LOAD_DEVLOAD h)) :=
  (Dev.EvOnly.ite _ (.refl d) (d.raise_evOnly _ _)).headAnswer_puts h tag rd

theorem Dev.refusedAt_qen (d : Dev) (src h tag line region : Nat) (rd : Bool) :
    (d.refusedAt src h tag line region rd).qen = d.qen :=
  (d.refusedAt_evOnly src h tag line region rd).changesOnly .qen (by decide)

/-- A refusal that is not silent is counted under its source. -/
theorem Dev.refusedAt_counted (d : Dev) {src : Nat} (h tag line region : Nat) {rd : Bool} (hs : rd = false ∨ src ≠ 70) :
    d.Counted (d.refusedAt src h tag line region rd) .EVT_CFGn_COUNT src 1 := by
  have loud : ¬((rd && src = 70) = true) := by
    rcases hs with rfl | hs
    · simp
    · simp [hs]
  unfold Dev.refusedAt
  rw [if_neg loud]
  exact (Dev.reg_congr rfl rfl _ _).trans (d.raise_counted src _)

/-- A read outside its set is answered with poison, and that is all (R56). -/
theorem Dev.refusedAt_silent (d : Dev) (h tag line region : Nat) :
    d.refusedAt 70 h tag line region true = d.headAnswer h tag true := rfl

/-! ## Where a request lands -/

theorem Dev.decoderBase_stamped (s : State) (h n : Nat) : s.stamped.decoderBase h n = s.dev.decoderBase h n := by
  induction n with
  | zero => rfl
  | succ n ih => simp only [Dev.decoderBase, ih]; rfl

/-- The stamp of what is in hand does not bear on where a request lands. -/
theorem Dev.Lands.stamped {s : State} {h hpa : Nat} {g : RegionRec} {off ki : Nat} (l : s.dev.Lands h hpa g off ki) :
    s.stamped.Lands h hpa g off ki := by
  obtain ⟨ha, hg, n, hn, hl⟩ := l
  exact ⟨ha, hg, n, hn, by rw [Dev.decoderBase_stamped]; exact hl⟩

variable {d : Dev} {h hpa : Nat} {g : RegionRec} {off ki : Nat}

/-- One decoder answers: the DPA is the one that the region is found by, and no free value is drawn. -/
theorem Dev.Lands.decode (l : d.Lands h hpa g off ki) :
    ∃ a, d.decodeHpa h hpa = (some a, d) ∧ d.locate (a / 64 * 64) (2 ^ h) = some (g, off, ki) := by
  obtain ⟨-, -, n, hn, hl⟩ := l
  exact ⟨_, by unfold Dev.decodeHpa; rw [hn], hl⟩

theorem Dev.Lands.winOf (l : d.Lands h hpa g off ki) : d.winOf h hpa = some (d.window g off) := by
  obtain ⟨a, ha, hl⟩ := l.decode
  simp [Dev.winOf, ha, hl]

/-- A request that its window refuses is answered by the head (R56, R214). -/
theorem Dev.Lands.hostRequest_refused (l : d.Lands h hpa g off ki) {rd : Bool} {be : BitVec 64} {src : Nat}
    (hbe : rd = true ∨ be ≠ 0) (hc : d.classify g (d.window g off) rd (be = BitVec.allOnes 64) = .error src) (tag : Nat)
    (data : Line) (poison : Bool) :
    d.hostRequest h tag hpa rd data be poison = d.refusedAt src h tag (g.base + off) g.number rd := by
  have hacc : d.canAccept h = true := l.1
  have hbytes : ¬((!rd && be = 0) = true) := by
    rcases hbe with rfl | hbe
    · simp
    · rw [decide_eq_false hbe, Bool.and_false]
      decide
  obtain ⟨a, ha, hl⟩ := l.decode
  unfold Dev.hostRequest
  rw [if_neg (by simp [hacc]), if_neg hbytes]
  simp only [ha, hl, hc]
  rfl

/-! ## What the queue windows refuse (R56, R214) -/

section
variable {q : Nat} (full : Bool)

theorem Dev.InSet.classify_enqueue_read (x : d.InSet g q) (o : Nat) : d.classify g (.enqueue q o) true full = .error 69 := by
  obtain ⟨c, hc, lo, hi⟩ := x
  simp [Dev.classify, hc, lo, hi]

theorem Dev.InSet.classify_dequeue_write (x : d.InSet g q) (o : Nat) :
    d.classify g (.dequeue q o) false full = .error 69 := by
  obtain ⟨c, hc, lo, hi⟩ := x
  simp [Dev.classify, hc, lo, hi]

/-- Whatever the access, a queue number outside the set is refused as such (R56). -/
theorem Dev.classify_outOfSet {w : Win} (hw : w.queue? = some q) (x : ¬ d.InSet g q) (rd : Bool) :
    d.classify g w rd full = .error 70 := by
  cases w with
  | enqueue q' o | dequeue q' o | doorbell q' =>
    cases hw
    cases hc : d.queueSet g.setId with
    | none => simp [Dev.classify, hc]
    | some c =>
      have out : (decide (c.groupFirst * 512 ≤ q) && decide (q < (c.groupFirst + c.groupCount) * 512)) = false := by
        simpa using fun lo => Nat.le_of_not_lt fun hi => x ⟨c, hc, lo, hi⟩
      simp [Dev.classify, hc, out]
  | _ => cases hw

end

end Sys2Proof.Machine
end

section
/-!
O60: accesses of the wrong kind to a queue's apertures, and accesses outside the queue set.
-/
namespace Sys2Proof.Machine

/-! ## The commands as the head's requests -/

section
variable {s : State} (ha : s.dev.aon = true)
include ha

theorem exec_memRd (r : HostReq) : exec (.memRd r) s = .next { s with dev := s.stamped.hostRead r } :=
  have arm : exec (.memRd r) s = execMemRd r s := rfl
  arm.trans (State.on_aon ha _)

theorem exec_of_writes {i : Instr} {w : HostWr} (hw : Writes i w) :
    exec i s = .next { s with dev := s.stamped.hostWrite w } := by
  rcases hw with ⟨rfl, hbe⟩ | rfl
  · have arm : exec (.memWr w.head w.tag w.hpa w.data w.poison) s = execMemWr w.head w.tag w.hpa w.data w.poison s := rfl
    rw [arm, execMemWr, State.on_aon ha, Dev.hostWrite, hbe]
  · have arm : exec (.memWrPtl w) s = execMemWrPtl w s := rfl
    exact arm.trans (State.on_aon ha _)

theorem exec_enqueueApertureRead {r : HostReq} {q o : Nat} (hw : s.stamped.winOf r.head r.hpa = some (.enqueue q o)) :
    exec (.enqueueApertureRead r) s = .next { s with dev := s.stamped.hostRead r } := by
  have arm : exec (.enqueueApertureRead r) s = execEnqueueApertureRead r s := rfl
  rw [arm, execEnqueueApertureRead, State.on_aon ha, hw]
  rfl

theorem exec_dequeueApertureWrite {w : HostWr} {q o : Nat} (hw : s.stamped.winOf w.head w.hpa = some (.dequeue q o)) :
    exec (.dequeueApertureWrite w) s = .next { s with dev := s.stamped.hostWrite w } := by
  have arm : exec (.dequeueApertureWrite w) s = execDequeueApertureWrite w s := rfl
  rw [arm, execDequeueApertureWrite, State.on_aon ha, hw]
  rfl

end

/-! ## The cases of R214 and R56 -/

section
variable {s : State} {g : RegionRec} {off ki q o : Nat}

/-- A read of an enqueue aperture is refused, with the source that the queue's place in the set decides. -/
theorem hostRead_enqueue {r : HostReq} (l : s.dev.Lands r.head r.hpa g off ki) (hw : s.dev.window g off = .enqueue q o) :
    ∃ src, s.stamped.hostRead r = s.stamped.refusedAt src r.head r.tag (g.base + off) g.number true ∧
      (s.dev.InSet g q → src = 69) := by
  have hw' : s.stamped.window g off = .enqueue q o := hw
  by_cases x : s.stamped.InSet g q
  · exact ⟨69, l.stamped.hostRequest_refused (.inl rfl) (hw' ▸ x.classify_enqueue_read _ o) _ _ _, fun _ => rfl⟩
  · exact ⟨70, l.stamped.hostRequest_refused (.inl rfl) (hw' ▸ Dev.classify_outOfSet _ rfl x _) _ _ _, fun y => (x y).elim⟩

/-- A write with some byte enabled to a queue number outside the set is refused with source 70. -/
theorem hostWrite_outOfSet {w : HostWr} (l : s.dev.Lands w.head w.hpa g off ki)
    (hw : (s.dev.window g off).queue? = some q) (x : ¬ s.dev.InSet g q) (hbe : w.be ≠ 0) :
    s.stamped.hostWrite w = s.stamped.refusedAt 70 w.head w.tag (g.base + off) g.number false :=
  l.stamped.hostRequest_refused (.inr hbe) (Dev.classify_outOfSet (d := s.stamped) _ hw x _) _ _ _

/-- A write to a dequeue aperture is refused, with the source that the queue's place in the set decides. -/
theorem hostWrite_dequeue {w : HostWr} (l : s.dev.Lands w.head w.hpa g off ki) (hw : s.dev.window g off = .dequeue q o)
    (hbe : w.be ≠ 0) :
    ∃ src, s.stamped.hostWrite w = s.stamped.refusedAt src w.head w.tag (g.base + off) g.number false ∧
      (s.dev.InSet g q → src = 69) ∧ (¬ s.dev.InSet g q → src = 70) := by
  have hw' : s.stamped.window g off = .dequeue q o := hw
  by_cases x : s.stamped.InSet g q
  · exact ⟨69, l.stamped.hostRequest_refused (.inr hbe) (hw' ▸ x.classify_dequeue_write _ o) _ _ _, fun _ => rfl,
      fun y => (y x).elim⟩
  · exact ⟨70, hostWrite_outOfSet l (hw ▸ rfl) x hbe, fun y => (x y).elim, fun _ => rfl⟩

/-- A read of a queue number outside the set is answered with poison, and nothing else changes. -/
theorem hostRead_outOfSet {h tag hpa : Nat} (l : s.dev.Lands h hpa g off ki)
    (hw : (s.dev.window g off).queue? = some q) (x : ¬ s.dev.InSet g q) :
    s.stamped.hostRead ⟨h, tag, hpa⟩ = s.stamped.headAnswer h tag true :=
  (l.stamped.hostRequest_refused (.inl rfl) (Dev.classify_outOfSet (d := s.stamped) _ hw x _) _ _ _).trans
    (Dev.refusedAt_silent _ _ _ _ _)

end

/-- Settles O60, from what a head does with a request that its window refuses. The silence of an out-of-set read is log
entry 73. -/
theorem apertureAccessesOfTheWrongKindChangeNoQueue : Obligations.ApertureAccessesOfTheWrongKindChangeNoQueue := by
  refine ⟨?_, ?_, ?_⟩
  · intro s r g off ki q o ha l hw
    obtain ⟨src, hd, hin⟩ := hostRead_enqueue l hw
    have hwin : s.stamped.winOf r.head r.hpa = some (.enqueue q o) := l.stamped.winOf.trans (congrArg some hw)
    refine ⟨_, exec_enqueueApertureRead ha hwin, exec_memRd ha r, ?_⟩
    rw [hd]
    refine ⟨Dev.refusedAt_puts .., Dev.refusedAt_qen .., (Dev.refusedAt_evOnly ..).changesOnly, fun x => ?_⟩
    rw [hin x]
    exact Dev.refusedAt_counted _ _ _ _ _ (.inr (by decide))
  · intro s w g off ki q o ha l hw hbe
    obtain ⟨src, hd, hin, hout⟩ := hostWrite_dequeue l hw hbe
    have hwin : s.stamped.winOf w.head w.hpa = some (.dequeue q o) := l.stamped.winOf.trans (congrArg some hw)
    have counted := s.stamped.refusedAt_counted (src := src) w.head w.tag (g.base + off) g.number (rd := false) (.inl rfl)
    refine ⟨_, exec_dequeueApertureWrite ha hwin, exec_of_writes ha (.inr rfl), ?_⟩
    rw [hd]
    exact ⟨Dev.refusedAt_puts .., Dev.refusedAt_qen .., (Dev.refusedAt_evOnly ..).changesOnly,
      fun x => hin x ▸ counted, fun x => hout x ▸ counted⟩
  · intro s i h tag hpa w g off ki q o ha l x
    constructor
    · intro hw
      have hq : (s.dev.window g off).queue? = some q := by rcases hw with hw | hw <;> rw [hw] <;> rfl
      rw [exec_memRd ha, hostRead_outOfSet l hq x]
      rfl
    · rintro hw hi rfl rfl hbe
      have hq : (s.dev.window g off).queue? = some q := by rcases hw with hw | hw <;> rw [hw] <;> rfl
      refine ⟨_, exec_of_writes ha hi, ?_⟩
      rw [hostWrite_outOfSet l hq x hbe]
      exact ⟨Dev.refusedAt_qen .., Dev.refusedAt_counted _ _ _ _ _ (.inl rfl), Dev.refusedAt_puts ..⟩

end Sys2Proof.Machine
end

section
/-!
The health that the device reports (R198, R199) as a device whose register store and output alone have changed has it, and
what a management command that only answers comes to (R429).
-/
namespace Sys2Proof.Machine

/-! ## What the health is read off -/

/-- The register fields that the health is read off: the wear debt (R198) and the temperatures (R199). -/
def healthFields : List Fld := [.GLB_WEAR_STAT_DEBT, .THM_SENSn_VALID, .THM_SENSn_TEMP]

section
variable {d : Dev} {r : AMap Nat} {o : List Output}
  (h : ∀ f ∈ healthFields, ∀ i, ({ d with regs := r, out := o } : Dev).reg f i = d.reg f i)
include h

theorem Dev.hottestDie_of_fields : ({ d with regs := r, out := o } : Dev).hottestDie = d.hottestDie := by
  simp only [Dev.hottestDie, Dev.flag, h .THM_SENSn_VALID (by decide), h .THM_SENSn_TEMP (by decide)]
  rfl

theorem Dev.deviceTemp_of_fields : ({ d with regs := r, out := o } : Dev).deviceTemp = d.deviceTemp := by
  unfold Dev.deviceTemp
  rw [Dev.hottestDie_of_fields h]

theorem Dev.tempState_of_fields : ({ d with regs := r, out := o } : Dev).tempState = d.tempState := by
  unfold Dev.tempState
  rw [Dev.hottestDie_of_fields h, Dev.deviceTemp_of_fields h]

theorem Dev.maintenance_of_fields : ({ d with regs := r, out := o } : Dev).maintenance = d.maintenance := by
  simp only [Dev.maintenance, Dev.flag, h .GLB_WEAR_STAT_DEBT (by decide)]
  rfl

theorem Dev.healthStatus_of_fields : ({ d with regs := r, out := o } : Dev).healthStatus = d.healthStatus := by
  simp only [Dev.healthStatus, Dev.maintenance_of_fields h]
  rfl

/-- An operation on registers and output that leaves the fields the health is read off raises no health event. -/
theorem Dev.watchHealth_of_fields {f : Dev → Dev} (hf : f d = { d with regs := r, out := o }) : d.watchHealth f = f d := by
  have same : ((f d).healthStatus, (f d).lifeUsed, (f d).spareLevel, (f d).tempState) =
      (d.healthStatus, d.lifeUsed, d.spareLevel, d.tempState) := by
    rw [hf, Dev.healthStatus_of_fields h, Dev.tempState_of_fields h]
    rfl
  exact if_pos same

end

/-! ## A response that reports success -/

section
variable (d : Dev) (c : CmdHdr) (opcode : Nat) (p : List Byte)

theorem Dev.reply_ok_eq : d.reply c opcode rcOk p =
    { d with regs := (d.count .MGT_CMD_EXECUTED).regs, out := .reply c.iface opcode rcOk p :: d.out } := rfl

theorem Dev.reply_ok_reg (f : Fld) (i : Nat) :
    (d.reply c opcode rcOk p).reg f i = (d.count .MGT_CMD_EXECUTED).reg f i := Dev.reg_congr rfl rfl f i

theorem Dev.reply_ok_counted : d.Counted (d.reply c opcode rcOk p) .MGT_CMD_EXECUTED 0 1 :=
  (d.reply_ok_reg c opcode p _ _).trans (d.count_counted _ _ _)

theorem Dev.reply_ok_fieldsOnly : d.FieldsOnly (d.reply c opcode rcOk p) [.MGT_CMD_EXECUTED] := fun f i hf =>
  (d.reply_ok_reg c opcode p f i).trans (d.reg_setReg_ne _ (.inl fun e => hf (List.mem_singleton.mpr e.symm)))

theorem Dev.reply_ok_changesOnly : d.ChangesOnly (d.reply c opcode rcOk p) [.out, .regs] := by
  intro part hp
  cases part with
  | out | regs => simp at hp
  | _ => rfl

/-- Reporting success is no change of health. -/
theorem Dev.watchHealth_reply_ok {f : Dev → Dev} (hf : f d = d.reply c opcode rcOk p) :
    d.watchHealth f = d.reply c opcode rcOk p := by
  have fields : ∀ g ∈ healthFields, ∀ i, (d.reply c opcode rcOk p).reg g i = d.reg g i := fun g hg i =>
    d.reply_ok_fieldsOnly c opcode p g i fun e => by
      rw [List.mem_singleton.mp e] at hg
      exact absurd hg (by decide)
  exact (Dev.watchHealth_of_fields fields hf).trans hf

end

/-! ## A command that only answers -/

/-- Past the checks common to every command, a command runs its own effect and puts out the response. -/
theorem Dev.command_of_gate {d : Dev} {c : CmdHdr} {need : Nat} {k : CmdKind} (up : d.ifaceUp c = true)
    (pass : d.gate c need k = none) (opcode : Nat) (f : Dev → CmdOut) :
    d.command c opcode need k f = (f d).2.2.reply c opcode (f d).1 (f d).2.1 := by
  simp [Dev.command, up, pass]

/-- An admitted command that succeeds and leaves the device as it is only puts its response out (R429). -/
theorem State.Admits.command_reads {s : State} {c : CmdHdr} {need : Nat} {k : CmdKind} (a : s.Admits c need k) (opcode : Nat)
    {f : Dev → CmdOut} {p : List Byte} (hf : f s.stamped = (rcOk, p, s.stamped)) :
    s.command c opcode need k f = .next { s with dev := s.stamped.reply c opcode rcOk p } := by
  obtain ⟨aon, up, pass⟩ := a
  have answer : s.stamped.command c opcode need k f = s.stamped.reply c opcode rcOk p := by
    rw [Dev.command_of_gate up pass, hf]
  rw [State.command_aon aon, s.stamped.watchHealth_reply_ok c opcode p answer]

end Sys2Proof.Machine
end

section
/-!
O50: what UNIT GET STATE reports, and that it changes nothing else.
-/
namespace Sys2Proof.Machine

/-- The payload of UNIT GET STATE (R322): UST_SEQ, the stamp, the count, and a record for each unit. -/
def Dev.unitStates (d : Dev) (first count : Nat) : List Byte :=
  leBytes 8 d.ust.seq ++ leBytes 8 d.now ++ leBytes 2 count ++ zeros 6 ++
    (List.range count).flatMap (fun i => d.unitRecord (first + i))

/-- An admitted UNIT GET STATE of a range of units that exist puts the records out, and that is all. -/
theorem exec_unitGetState {s : State} {c : CmdHdr} {first count : Nat} (a : s.Admits c 4 .read) (atLeastOne : 0 < count)
    (atMost : count ≤ 256) (fit : first + count ≤ 542) :
    exec (.unitGetState c first count) s =
      .next { s with dev := s.stamped.reply c 0xC011 rcOk (s.stamped.unitStates first count) } := by
  have arm : exec (.unitGetState c first count) s = execUnitGetState c first count s := rfl
  have inRange : ¬ ((count = 0 || decide (256 < count) || decide (542 < first + count)) = true) := by
    simp only [Bool.or_eq_true, decide_eq_true_eq]
    omega
  exact arm.trans (a.command_reads 0xC011 (if_neg inRange))

/-- A unit's record begins with its identifier, state code, cause and generation (R338); its flags follow. -/
theorem Dev.unitRecord_take_six (d : Dev) (ix : Nat) : (d.unitRecord ix).take 6 =
    leBytes 2 (unitIdOf ix) ++ leBytes 1 (d.ustate ix).code ++ leBytes 1 (d.unit ix).cause ++ leBytes 2 (d.unit ix).gen :=
  List.take_left' rfl

/-- Settles O50: the command is answered off the stamped device, and only the response is left behind. -/
theorem unitGetStateReportsAndChangesNothing : Obligations.UnitGetStateReportsAndChangesNothing := by
  refine ⟨fun s c first count admitted atLeastOne atMost fit => ?_, Dev.unitRecord_take_six⟩
  have unstamped : ∀ f i, s.stamped.reg f i = s.dev.reg f i := Dev.reg_congr rfl rfl
  refine ⟨_, exec_unitGetState admitted atLeastOne atMost fit, rfl, fun f i hf => ?_, ?_,
    s.stamped.reply_ok_changesOnly _ _ _⟩
  · rw [Dev.reply_ok_fieldsOnly _ _ _ _ f i hf, unstamped]
  · unfold Dev.Counted
    rw [Dev.reply_ok_counted, unstamped]

end Sys2Proof.Machine
end

section
/-!
What every command does outside the device (R356, R397): with V_AON down none but POWER_ON changes anything, and with it up the
timebase and the stamp ceiling move only where a power-on reset loads them or a startup checkpoint raises the ceiling.
-/
-- Checked one after another: side by side, each waiting for the kernel, the proofs need more threads than the memory admits.
set_option Elab.async false
namespace Sys2Proof.Machine

/-- An outcome that keeps the queue of waiting commands, and the timebase and the ceiling but for a raised ceiling or a
power-on reset's load. -/
def State.Framed (s : State) (o : Out) : Prop :=
  ∃ d tb n, o = .next { s with tb := tb, ceiling := n, dev := d } ∧
    (tb = s.tb ∧ s.ceiling ≤ n ∨ tb = loadedTb s.ceiling ∧ n = loadedTb s.ceiling + 30000000000)

/-- A command's outcome: framed, and the state unchanged where V_AON is down. -/
def State.Standby (s : State) (o : Out) : Prop := s.Framed o ∧ (s.dev.aon = false → o = .next s)

theorem State.on_standby (s : State) (f : Dev → Dev) : s.Standby (s.on f) := by
  obtain ⟨d, hd⟩ := s.on_next f
  exact ⟨⟨d, s.tb, s.ceiling, hd, .inl ⟨rfl, le_rfl⟩⟩, fun h => State.on_off h f⟩

theorem State.onHealth_standby (s : State) (f : Dev → Dev) : s.Standby (s.onHealth f) := s.on_standby _

theorem State.command_standby (s : State) (c : CmdHdr) (opcode need : Nat) (k : CmdKind) (f : Dev → CmdOut) :
    s.Standby (s.command c opcode need k f) := s.onHealth_standby _

theorem State.onCheckpoint_standby (s : State) (c : Dev → Bool) (f : Dev → Dev) : s.Standby (s.onCheckpoint c f) := by
  obtain ⟨d, n, hd, hn⟩ := s.onCheckpoint_next c f
  exact ⟨⟨d, s.tb, n, hd, .inl ⟨rfl, hn⟩⟩, fun h => State.onCheckpoint_off h c f⟩

theorem State.onPower_standby (s : State) (f : Dev → Dev) : s.Standby (s.onPower f) := by
  refine ⟨?_, fun h => State.onPower_off h f⟩
  obtain ⟨d, hd | hd⟩ := s.onPower_next f
  · exact ⟨d, s.tb, s.ceiling, hd, .inl ⟨rfl, le_rfl⟩⟩
  · exact ⟨d, _, _, hd, .inr ⟨rfl, rfl⟩⟩

/-- POWER_ON either finds V_AON up and changes nothing, or loads the timebase. -/
theorem execPowerOn_framed (b : Nat) (h r : Bool) (s : State) : s.Framed (execPowerOn b h r s) := by
  unfold execPowerOn
  split
  · exact ⟨s.dev, s.tb, s.ceiling, rfl, .inl ⟨rfl, le_rfl⟩⟩
  · exact ⟨_, _, _, rfl, .inr ⟨rfl, rfl⟩⟩

theorem execCeilingRecord_standby (s : State) : s.Standby (execCeilingRecord s) := by
  unfold execCeilingRecord
  refine ⟨?_, fun h => by simp [h]⟩
  split
  · exact ⟨s.dev, s.tb, _, rfl, .inl ⟨rfl, Nat.le_add_right _ _⟩⟩
  · exact ⟨s.dev, s.tb, s.ceiling, rfl, .inl ⟨rfl, le_rfl⟩⟩

/-- Every command but POWER_ON waits for V_AON. -/
theorem exec_standby (c : Instr) (s : State) (hc : ∀ b h r, c ≠ .powerOn b h r) : s.Standby (exec c s) := by
  unfold exec
  cases c with
  | powerOn b h r => exact (hc b h r rfl).elim
  | vinGood mv => exact s.onPower_standby _
  | sequencerStepAdvance => exact s.onPower_standby _
  | resetTakesEffect => exact s.onPower_standby _
  | checkpoint => exact s.onCheckpoint_standby _ _
  | restoreComplete => exact s.onCheckpoint_standby _ _
  | memoryActive => exact s.onCheckpoint_standby _ _
  | ceilingRecord => exact execCeilingRecord_standby s
  | bandRowVerified | clearScheduled | remirrorComplete | housekeepingRound | journalFlush | sliceFault
  | mediaComplexFault | pipelineFault | dramStackFailure | packageFailure | headInternalError | recoveryComplete
  | recoveryBudgetExceeded | unitIdle | idleHandshakeTimeout | initialisationPassed | startBoundExpiry | builtInTestDone
  | detectTimeout | trainBlockReceived | checkPass | blockLockLost | recoveryTimeout | frameCrcFailure | doneResponse
  | sentinelDataResponse | sidebandPoll | perstAssert | perstRelease | linkUp | linkLoss | ideIntegrityFailure
  | coreResetHoldEnd | temperatureSample | tierplanSliceRoll | sanitizeComplete | dbgMaRead | dbgMaWrite | registerWrite
  | pwrGood => exact s.onHealth_standby _
  | identify | backgroundOperationStatus | getEventRecords | clearEventRecords | getEventInterruptPolicy
  | setEventInterruptPolicy | getFwInfo | transferFwFull | transferFwInitiate | transferFwContinue | transferFwEnd
  | transferFwAbort | activateFwOnline | activateFwNextReset | getTimestamp | setTimestamp | getSupportedLogs | getLog
  | identifyMemoryDevice | getPartitionInfo | setPartitionInfo | getLsa | setLsa | getHealthInfo | getAlertConfiguration
  | setAlertConfiguration | getShutdownState | setShutdownState | getPoisonList | injectPoison | clearPoison | scanMedia
  | sanitize | secureErase | unsupportedCommand | getMultiHeadedInfo | stateDigestCapture | stateDigestPageRead
  | deviceStatus | unitSetStateOnline | unitSetStateDraining | unitSetStateQuiesced | unitSetStateOff | unitSetStateReset
  | unitSetStateRepair | unitSetStateRetire | unitGetState | imageStageChunk | imageStageLast | imageActivate
  | imageQuery | keyLoadDataKey | keyLoadOwnerSecret | keyRetire | reheatStart | reheatPause | reheatResume
  | reheatStatus | regionCommitCommit | regionCommitDiscard | queueParam | queueResetQueue | queueResetGroup
  | tallySnapshotNow | tallySnapshotAt | resetUnit | resetCore | resetSystem | quench | mediaHealth | packageReplace
  | orchardRegraft | debugUnlockChallenge | debugUnlockResponse => exact s.command_standby _ _ _ _ _
  | extest | idcode | samplePreload | clamp | highz | dbgChal | dbgResp | dbgAccess | bypass => exact s.onHealth_standby _
  | _ => exact s.on_standby _

theorem exec_framed (c : Instr) (s : State) : s.Framed (exec c s) := by
  by_cases hc : ∃ b h r, c = .powerOn b h r
  · obtain ⟨b, h, r, rfl⟩ := hc
    exact execPowerOn_framed b h r s
  · exact (exec_standby c s fun b h r e => hc ⟨b, h, r, e⟩).1

/-- A framed outcome keeps the timebase below the ceiling and turns neither back: the loaded timebase lies above the ceiling
(R397). -/
theorem State.Framed.belowCeiling {s t : State} (h : s.Framed (.next t)) (hs : s.BelowCeiling) :
    t.BelowCeiling ∧ s.tb ≤ t.tb ∧ s.ceiling ≤ t.ceiling := by
  obtain ⟨d, tb, n, ht, move⟩ := h
  cases ht
  have load := lt_loadedTb s.ceiling
  simp only [State.BelowCeiling] at hs ⊢
  omega

/-- A nanosecond that passes: the ceiling is raised before the timebase reaches it (R258). -/
theorem State.tick_aon {s : State} (h : s.dev.aon = true) : s.tick.tb = s.tb + 1 ∧ s.tick.tb < s.tick.ceiling ∧
    s.ceiling ≤ s.tick.ceiling ∧ s.tick.pending = s.pending := by
  unfold State.tick
  rw [if_pos h]
  dsimp only
  split <;> exact ⟨rfl, by omega, by omega, rfl⟩

theorem State.tick_off {s : State} (h : s.dev.aon = false) : s.tick = s := by simp [State.tick, h]

theorem State.tick_belowCeiling {s : State} (hs : s.BelowCeiling) :
    s.tick.BelowCeiling ∧ s.tb ≤ s.tick.tb ∧ s.ceiling ≤ s.tick.ceiling := by
  cases h : s.dev.aon with
  | false =>
    rw [State.tick_off h]
    exact ⟨hs, le_rfl, le_rfl⟩
  | true =>
    obtain ⟨htb, hlt, hc, -⟩ := State.tick_aon h
    exact ⟨hlt, by omega, hc⟩

/-- Settles O1: the front command runs on the rest of the queue, and an empty queue lets a nanosecond pass. -/
theorem stepRunsFrontCommand : Obligations.StepRunsFrontCommand := by
  refine ⟨fun c rest s => rfl, fun s hp ha => ?_, fun s hp ha => ?_⟩
  · obtain ⟨htb, hlt, -, hq⟩ := State.tick_aon ha
    exact ⟨s.tick, by simp [step, hp], htb, hlt, hq.trans hp⟩
  · simp [step, hp, State.tick_off ha]

/-- Settles O2: the outcome of every command is framed. That none faults or is refused is log entry 6. -/
theorem everyCommandAnswersNextState : Obligations.EveryCommandAnswersNextState := by
  intro c s
  obtain ⟨d, tb, n, h, -⟩ := exec_framed c s
  exact ⟨_, h, rfl⟩

/-- Settles O3, by the two kinds of step: a command, whose outcome is framed, and a nanosecond. -/
theorem belowCeilingKeptByEveryStep : Obligations.BelowCeilingKeptByEveryStep := by
  intro s t hs h
  cases hp : s.pending with
  | nil =>
    simp only [step, hp] at h
    cases h
    exact State.tick_belowCeiling hs
  | cons c rest =>
    simp only [step, hp] at h
    exact State.Framed.belowCeiling (s := { s with pending := rest }) (h ▸ exec_framed c _) hs

/-- Settles O4. -/
theorem resetIsBelowCeiling : Obligations.ResetIsBelowCeiling := by
  unfold Obligations.ResetIsBelowCeiling State.BelowCeiling State.reset
  decide

/-- Settles O5: without V_AON every outcome but POWER_ON's is the state itself. -/
theorem nothingHappensWithoutStandbySupply : Obligations.NothingHappensWithoutStandbySupply :=
  fun c s ha hc => (exec_standby c s hc).2 ha

end Sys2Proof.Machine
end

section
/-!
What an operation leaves unchanged, as one relation that is closed under doing one operation after another: the parts of the
device, the register fields, the stamps of what is in hand, and what was put out.
-/
-- Checked one after another: side by side, each waiting for the kernel, the proofs need more threads than the memory admits.
set_option Elab.async false
namespace Sys2Proof.Machine

/-- From `d` to `e` only the parts `ps` and the stored values of the register fields `fs` changed, and the output has only
grown. -/
structure Dev.Frame (d e : Dev) (ps : List Part) (fs : List Fld) : Prop where
  parts : d.ChangesOnly e ps
  fields : ∀ f i, f ∉ fs → e.regs.find (f.key i) = d.regs.find (f.key i)
  now : e.now = d.now
  cause : e.cause = d.cause
  out : ∃ l, e.out = l ++ d.out

namespace Dev.Frame
variable {d e g : Dev} {ps qs : List Part} {fs hs : List Fld}

theorem refl (d : Dev) : d.Frame d ps fs :=
  ⟨fun p _ => by cases p <;> rfl, fun _ _ _ => rfl, rfl, rfl, [], rfl⟩

theorem same_trans {p : Part} (h : d.same e p) (k : e.same g p) : d.same g p := by
  cases p <;> exact Eq.trans k h

/-- One more operation, within the same parts and fields. -/
theorem step (h : d.Frame e ps fs) (k : e.Frame g qs hs) (hp : qs ⊆ ps := by decide) (hf : hs ⊆ fs := by decide) :
    d.Frame g ps fs where
  parts := fun p hn => same_trans (h.parts p hn) (k.parts p fun hm => hn (hp hm))
  fields := fun f i hn => (k.fields f i fun hm => hn (hf hm)).trans (h.fields f i hn)
  now := k.now.trans h.now
  cause := k.cause.trans h.cause
  out := by
    obtain ⟨l, hl⟩ := h.out
    obtain ⟨m, hm⟩ := k.out
    exact ⟨m ++ l, by rw [hm, hl, List.append_assoc]⟩

theorem mono (k : d.Frame e qs hs) (hp : qs ⊆ ps := by decide) (hf : hs ⊆ fs := by decide) : d.Frame e ps fs :=
  (refl d).step k hp hf

theorem each {α : Type} (l : List α) {f : Dev → α → Dev} (h : ∀ d a, Dev.Frame d (f d a) ps fs) (d : Dev) :
    d.Frame (d.each l f) ps fs := by
  induction l generalizing d with
  | nil => exact .refl d
  | cons a l ih => exact (h d a).step (ih (f d a)) (List.Subset.refl _) (List.Subset.refl _)

/-- A fold over a list whose members are known. -/
theorem each_mem {α : Type} (l : List α) {f : Dev → α → Dev} (h : ∀ d, ∀ a ∈ l, Dev.Frame d (f d a) ps fs) (d : Dev) :
    d.Frame (d.each l f) ps fs := by
  induction l generalizing d with
  | nil => exact .refl d
  | cons a l ih =>
    exact (h d a List.mem_cons_self).step (ih (fun d b hb => h d b (List.mem_cons_of_mem _ hb)) (f d a))
      (List.Subset.refl _) (List.Subset.refl _)

theorem foldl {α : Type} (l : List α) {f : Dev → α → Dev} (h : ∀ d a, Dev.Frame d (f d a) ps fs) (d : Dev) :
    d.Frame (l.foldl f d) ps fs := each l h d

/-- A fold that carries a value along with the device. -/
theorem foldlSnd {α β : Type} (l : List α) {f : β × Dev → α → β × Dev} (k : ∀ b a, d.Frame b.2 ps fs → d.Frame (f b a).2 ps fs)
    {b : β × Dev} (h : d.Frame b.2 ps fs) : d.Frame (l.foldl f b).2 ps fs := by
  induction l generalizing b with
  | nil => exact h
  | cons a l ih => exact ih (k b a h)

theorem when {c : Bool} {f : Dev → Dev} (h : ∀ d, Dev.Frame d (f d) ps fs) (d : Dev) : d.Frame (d.when c f) ps fs := by
  unfold Dev.when
  split
  · exact h d
  · exact .refl d

/-- What a host request causes leaves the stamps as they were. -/
theorem causedBy {t : Option Nat} {f : Dev → Dev} (h : ∀ d, Dev.Frame d (f d) ps fs) (d : Dev) :
    d.Frame (d.causedBy t f) ps fs := by
  obtain ⟨hparts, hfields, hnow, -, hout⟩ := h { d with cause := t }
  exact ⟨fun p hn => by cases p <;> exact hparts _ hn, hfields, hnow, rfl, hout⟩

/-- What runs under the configuration of an earlier stamp leaves the configuration in force as it was (R40). -/
theorem asOf {t : Nat} {f : Dev → Dev} (h : ∀ d, Dev.Frame d (f d) ps fs) (d : Dev) : d.Frame (d.asOf t f) ps fs := by
  obtain ⟨hparts, hfields, hnow, -, hout⟩ := h { d with cfg := d.cfgAt t, cause := some t }
  refine ⟨fun p hn => ?_, hfields, hnow, rfl, hout⟩
  cases p with
  | cfg => rfl
  | _ => exact hparts _ hn

section
variable (h : d.Frame e ps fs)
include h

theorem thenEach {α : Type} {l : List α} {f : Dev → α → Dev} (k : ∀ d a, Dev.Frame d (f d a) ps fs) :
    d.Frame (e.each l f) ps fs := h.step (.each l k e) (List.Subset.refl _) (List.Subset.refl _)

theorem thenFoldl {α : Type} {l : List α} {f : Dev → α → Dev} (k : ∀ d a, Dev.Frame d (f d a) ps fs) :
    d.Frame (l.foldl f e) ps fs := h.step (.each l k e) (List.Subset.refl _) (List.Subset.refl _)

theorem thenWhen {c : Bool} {f : Dev → Dev} (k : ∀ d, Dev.Frame d (f d) ps fs) : d.Frame (e.when c f) ps fs :=
  h.step (.when k e) (List.Subset.refl _) (List.Subset.refl _)

theorem thenCausedBy {t : Option Nat} {f : Dev → Dev} (k : ∀ d, Dev.Frame d (f d) ps fs) :
    d.Frame (e.causedBy t f) ps fs := h.step (.causedBy k e) (List.Subset.refl _) (List.Subset.refl _)

theorem thenAsOf {t : Nat} {f : Dev → Dev} (k : ∀ d, Dev.Frame d (f d) ps fs) : d.Frame (e.asOf t f) ps fs :=
  h.step (.asOf k e) (List.Subset.refl _) (List.Subset.refl _)

end

/-- A device that is named on the way. -/
theorem use (x : Dev) (h : d.Frame x ps fs) (k : d.Frame x ps fs → d.Frame g ps fs) : d.Frame g ps fs := k h

/-- An operation that also answers a value. -/
theorem of_pair {α : Type} {p : α × Dev} {a : α} {x g : Dev} (hx : p = (a, x)) (h : d.Frame p.2 ps fs)
    (k : d.Frame x ps fs → d.Frame g ps fs) : d.Frame g ps fs := k (by rw [hx] at h; exact h)

/-- An operation that also answers two values. -/
theorem of_triple {α β : Type} {p : α × β × Dev} {a : α} {b : β} {x g : Dev} (hx : p = (a, b, x)) (h : d.Frame p.2.2 ps fs)
    (k : d.Frame x ps fs → d.Frame g ps fs) : d.Frame g ps fs := k (by rw [hx] at h; exact h)

theorem ite {c : Prop} [Decidable c] (h : c → d.Frame e ps fs) (k : ¬c → d.Frame g ps fs) :
    d.Frame (if c then e else g) ps fs := by
  split
  · exact h ‹_›
  · exact k ‹_›

/-! ### What a frame says of a field -/

theorem cfg (h : d.Frame e ps fs) (hc : .cfg ∉ ps := by decide) : e.cfg = d.cfg := h.parts .cfg hc

/-- Under the same configuration a field that is not written reads as before. -/
theorem reg (h : d.Frame e ps fs) (f : Fld) (i : Nat) (hf : f ∉ fs := by decide) (hc : .cfg ∉ ps := by decide) :
    e.reg f i = d.reg f i := by
  unfold Dev.reg
  rw [h.fields f i hf, Dev.dflt_cfg d e (h.cfg hc)]

theorem flag (h : d.Frame e ps fs) (f : Fld) (i : Nat) (hf : f ∉ fs := by decide) (hc : .cfg ∉ ps := by decide) :
    e.flag f i = d.flag f i := congrArg (· != 0) (h.reg f i hf hc)

theorem fieldsOnly (h : d.Frame e ps fs) (hc : .cfg ∉ ps := by decide) : d.FieldsOnly e fs :=
  fun f i hf => h.reg f i hf hc

theorem changesOnly (h : d.Frame e ps fs) (hp : ps ⊆ qs := by decide) : d.ChangesOnly e qs :=
  fun p hn => h.parts p fun hm => hn (hp hm)

end Dev.Frame

/-! ## The shared operations -/

section
variable (d : Dev)

theorem Dev.setReg_frame (f : Fld) (i v : Nat) : d.Frame (d.setReg f i v) [.regs] [f] where
  parts := fun p hn => by
    cases p with
    | regs => simp at hn
    | _ => rfl
  fields := fun _ _ hn => AMap.find_put_ne _ _ fun e => hn (List.mem_singleton.mpr (Fld.key_inj e).1.symm)
  now := rfl
  cause := rfl
  out := ⟨[], rfl⟩

theorem Dev.setFlag_frame (f : Fld) (i : Nat) (v : Bool) : d.Frame (d.setFlag f i v) [.regs] [f] := d.setReg_frame f i _
theorem Dev.count_frame (f : Fld) (i n : Nat) : d.Frame (d.count f i n) [.regs] [f] := d.setReg_frame f i _
theorem Dev.countWrap_frame (f : Fld) (i n : Nat) : d.Frame (d.countWrap f i n) [.regs] [f] := d.setReg_frame f i _
theorem Dev.setFieldBit_frame (f : Fld) (i b : Nat) (v : Bool) : d.Frame (d.setFieldBit f i b v) [.regs] [f] :=
  d.setReg_frame f i _

end

/-- A record update of parts other than the registers and the output. -/
theorem Dev.Frame.update {d e : Dev} {ps : List Part} {fs : List Fld} (k : d.Frame e ps fs) {aon : Bool}
    {cfg : Option Cfg} {oldCfgs : List (Nat × Cfg)} {boot : BootS} {mgt : MgtS} {ust : UstS} {evt : EvtS} {pmc : PmcS} {pwr : PwrS} {rst : RstS}
    {clk : ClkS} {thm : ThmS} {pin : PinS} {jrn : JrnS} {heads : AMap HeadS} {slices : AMap SliceS} {tier : AMap TPage}
    {poison : PoisonS} {med : MediaS} {shadow : AMap ShadowS} {qen : QenS} {tal : TalS} {per : PerS} {qch : QuenchS}
    {cry : CryS} {rid ds fc : Nat}
    (h : ∀ p, p ∉ ps → e.same (Dev.mk e.now e.cause aon e.regs cfg oldCfgs boot mgt ust evt pmc pwr rst clk thm pin jrn heads
      slices tier poison med shadow qen tal per qch cry rid ds e.out fc) p := by
        intro p hp; cases p <;> first | exact absurd (by decide) hp | rfl) :
    d.Frame (Dev.mk e.now e.cause aon e.regs cfg oldCfgs boot mgt ust evt pmc pwr rst clk thm pin jrn heads slices tier poison
      med shadow qen tal per qch cry rid ds e.out fc) ps fs where
  parts := fun p hn => same_trans (k.parts p hn) (h p hn)
  fields := k.fields
  now := k.now
  cause := k.cause
  out := k.out

section
variable (d : Dev)

theorem Dev.emit_frame (o : Output) : d.Frame (d.emit o) [.out] [] where
  parts := fun p hn => by
    cases p with
    | out => simp at hn
    | _ => rfl
  fields := fun _ _ _ => rfl
  now := rfl
  cause := rfl
  out := ⟨[o], rfl⟩

theorem Dev.EvOnly.frame {d e : Dev} (h : d.EvOnly e) : d.Frame e [.regs, .evt, .out] evtFields where
  parts := fun p hn => h.changesOnly p fun hm => hn ((by decide : [Part.evt, .out, .regs] ⊆ [.regs, .evt, .out]) hm)
  fields := by
    obtain ⟨r, v, o, rfl, hr⟩ := h
    exact fun f i hn => hr f i (by simpa [Fld.isEvt] using hn)
  now := by obtain ⟨r, v, o, rfl, -⟩ := h; rfl
  cause := by obtain ⟨r, v, o, rfl, -⟩ := h; rfl
  out := h.out

theorem Dev.raise_frame (src : Nat) (i : EvInfo) : d.Frame (d.raise src i) [.regs, .evt, .out] evtFields :=
  (d.raise_evOnly src i).frame

theorem Dev.drawFree_frame (site : Nat) : d.Frame (d.drawFree site).2 [.freeCtr] [] := (Dev.Frame.refl d).update

theorem Dev.drawFreeLine_frame (site : Nat) : d.Frame (d.drawFreeLine site).2 [.freeCtr] [] := (Dev.Frame.refl d).update

theorem Dev.journal_frame (code a b c : Nat) : d.Frame (d.journal code a b c) [.jrn] [] := (Dev.Frame.refl d).update

theorem Dev.setUnitRec_frame (ix : Nat) (r : UnitRec) : d.Frame (d.setUnitRec ix r) [.ust] [] := (Dev.Frame.refl d).update

theorem Dev.setUnit_frame (ix : Nat) (st : UState) (cause : Nat) (hw : Bool) :
    d.Frame (d.setUnit ix st cause hw) [.ust, .jrn, .regs, .evt, .out] evtFields := by
  unfold Dev.setUnit
  dsimp only
  split
  · exact .step (.refl _) (Dev.setUnitRec_frame ..)
  · refine .step ?_ (Dev.raise_frame ..)
    refine .step ?_ (Dev.journal_frame ..)
    exact .update (.refl _)

end

/-! ## Counts, and fields whose reset value no configuration names -/

/-- A field that is counted once on the way from `d` to `g`. -/
theorem Dev.Frame.counted {d e g : Dev} {ps qs : List Part} {fs hs : List Fld} {f : Fld} {i n : Nat} (h : d.Frame e ps fs)
    (k : (e.count f i n).Frame g qs hs) (hf : f ∉ fs := by decide) (hg : f ∉ hs := by decide) (hp : .cfg ∉ ps := by decide)
    (hq : .cfg ∉ qs := by decide) : d.Counted g f i n := by
  unfold Dev.Counted
  rw [k.reg f i hg hq, e.count_counted f i n, h.reg f i hf hp]

/-- The fields whose reset value the configuration gives. -/
def cfgFields : List Fld :=
  [.EVT_CTL_RATE, .EVT_CTL_MCTP_EID, .EVT_CFGn_EN, .EVT_CFGn_SEV, .EVT_CFGn_ROUTE, .EVT_CFGn_VECTOR, .EVT_CFGn_DEF_SEV,
   .PMC_CFGn_EVENT, .PMC_CFGn_UNIT, .PMC_CFGn_CLASS, .PMC_CFGn_ENABLE, .PMC_CFGn_CHAIN, .PMC_CFGn_OVF_EVT, .PMC_CFGn_SAMPLE,
   .PMC_GRPg_CTL_CLEAR_ON_SNAP, .PMC_GRPg_CTL_INTERVAL_US]

theorem Dev.dflt_of_notCfg (d : Dev) (f : Fld) (i : Nat) (hf : f ∉ cfgFields) : d.dflt f i = f.info.reset := by
  unfold Dev.dflt
  split
  all_goals first | rfl | exact absurd (by decide) hf

/-- A field that is not written reads as before whatever the configuration, where its reset value is fixed. -/
theorem Dev.Frame.regFixed {d e : Dev} {ps : List Part} {fs : List Fld} (h : d.Frame e ps fs) (f : Fld) (i : Nat)
    (hf : f ∉ fs := by decide) (hd : f ∉ cfgFields := by decide) : e.reg f i = d.reg f i := by
  unfold Dev.reg
  rw [h.fields f i hf, e.dflt_of_notCfg f i hd, d.dflt_of_notCfg f i hd]

end Sys2Proof.Machine
end

section
/-!
Frames of the operations that cut the register store, and of the recursive ones.
-/
-- Checked one after another: side by side, each waiting for the kernel, the proofs need more threads than the memory admits.
set_option Elab.async false
namespace Sys2Proof.Machine

section
variable (d : Dev)

/-- The fields that a unit's reset clears among those that pass a test (R381, code U). -/
def unitFields (p : Fld → Bool) : List Fld := (regTable.flatMap (·.fields)).filter (fun f => f.info.clrU && p f)

theorem AMap.find_keep {α : Type} (m : AMap α) (p : Nat → α → Bool) (k : Nat) (hk : ∀ v, p k v = true) :
    (m.keep p).find k = m.find k := by
  induction m with
  | nil => rfl
  | cons e r ih =>
    obtain ⟨a, w⟩ := e
    rw [AMap.find_cons]
    unfold AMap.keep at ih ⊢
    rw [List.filter_cons]
    split
    · rw [AMap.find_cons, ih]
    · rw [ih, if_neg fun e => by simp_all]

/-- Stored values are dropped of fields in the list alone. -/
theorem Dev.keepRegs_frame {fs : List Fld} {p : Nat → Nat → Bool} (hp : ∀ f i, f ∉ fs → ∀ v, p (f.key i) v = true) :
    d.Frame { d with regs := d.regs.keep p } [.regs] fs where
  parts := fun q hn => by
    cases q with
    | regs => simp at hn
    | _ => rfl
  fields := fun f i hn => AMap.find_keep _ _ _ (hp f i hn)
  now := rfl
  cause := rfl
  out := ⟨[], rfl⟩

theorem Dev.clearUnitRegs_frame (p : Fld → Bool) (i : Nat) : d.Frame (d.clearUnitRegs p i) [.regs] (unitFields p) :=
  d.keepRegs_frame fun f j hn v => by
    simp only [Bool.not_eq_true', List.contains_eq_mem, decide_eq_false_iff_not, List.mem_map, not_exists, not_and]
    exact fun g hg e => hn ((Fld.key_inj e).1 ▸ hg)

theorem Fld.key_mod (f : Fld) (i : Nat) : f.key i % 1024 = f.num := by
  have := f.num_lt
  unfold Fld.key
  omega

/-- Values of the fields of a list are forgotten. -/
theorem Dev.unstore_frame (fs : List Fld) : d.Frame (d.unstore fs) [.regs] fs :=
  d.keepRegs_frame fun f j hn v => by
    rw [Fld.key_mod]
    simp only [Bool.not_eq_true', List.contains_eq_mem, decide_eq_false_iff_not, List.mem_map, not_exists, not_and]
    exact fun g hg e => hn (Fld.num_inj e ▸ hg)

/-- The fields that a reset level clears (R381). -/
def levelFields (l : Level) : List Fld := (regTable.flatMap (·.fields)).filter l.clears

theorem Dev.clearRegs_frame (l : Level) : d.Frame (d.clearRegs l) [.regs] (levelFields l) :=
  d.keepRegs_frame fun f j hn v => by
    rw [Fld.key_mod]
    simp only [Bool.not_eq_true', List.contains_eq_mem, decide_eq_false_iff_not, List.mem_map, not_exists, not_and]
    exact fun g hg e => hn (Fld.num_inj e ▸ hg)

theorem Dev.pmcAdd_frame (n amount fuel : Nat) :
    d.Frame (d.pmcAdd n amount fuel) [.regs, .pmc, .evt, .out, .freeCtr] (evtFields.append [.PMC_CTRn_COUNT]) := by
  induction fuel generalizing d n amount with
  | zero => exact .refl d
  | succ k ih =>
    unfold Dev.pmcAdd
    extract_lets +onlyGivenNames old v carry
    extract_lets +onlyGivenNames a b
    extract_lets +onlyGivenNames _ d
    refine .use d (.update (.refl _)) fun h => ?_
    refine .ite (fun _ => .step h (Dev.setReg_frame ..)) fun _ => ?_
    extract_lets +onlyGivenNames sample d
    refine .use d (.step h (Dev.setReg_frame ..)) fun h => ?_
    extract_lets +onlyGivenNames d
    refine .use d (.ite (fun _ => .update (.step h (Dev.drawFree_frame _ 425))) fun _ => h) fun h => ?_
    extract_lets +onlyGivenNames d
    refine .use d (.ite (fun _ => .step h (Dev.raise_frame ..)) fun _ => h) fun h => ?_
    exact .ite (fun _ => .step h (ih ..)) fun _ => h

theorem Dev.noteReset_frame (level b : Nat) : d.Frame (d.noteReset level b) [.regs]
    [.RST_CAUSE_POR, .RST_CAUSE_SEQ, .RST_CAUSE_RESET_N, .RST_CAUSE_FATAL, .RST_CAUSE_CMD_SYS, .RST_CAUSE_WDT,
      .RST_CAUSE_CMD_CORE, .RST_CAUSE_LAST_LEVEL, .RST_CAUSE_LAST_SRC] := by
  unfold Dev.noteReset
  refine .step (.step (.step (.refl _) (Dev.setFlag_frame ..) (by decide) ?_) (Dev.setReg_frame ..)) (Dev.setReg_frame ..)
  unfold causeField
  split <;> decide

theorem Dev.enableRail_frame (r : Nat) :
    d.Frame (d.enableRail r) [.regs, .pwr] [.PWR_RAILr_STAT_STATE, .PWR_RAILr_CYC_CYCLES] := by
  unfold Dev.enableRail
  exact .update (.step (.step (.refl _) (Dev.setReg_frame ..)) (Dev.countWrap_frame ..))

theorem Dev.enableNext_frame (rails : List Nat) :
    d.Frame (d.enableNext rails) [.regs, .pwr] [.PWR_RAILr_STAT_STATE, .PWR_RAILr_CYC_CYCLES] := by
  induction rails with
  | nil => exact .refl d
  | cons r rest ih =>
    unfold Dev.enableNext
    exact .ite (fun _ => ih) fun _ => .ite (fun _ => .refl d) fun _ => .ite (fun _ => d.enableRail_frame r) fun _ => ih

end
end Sys2Proof.Machine
end

section
/-!
What the health is read off (R168, R191, R198, R199), and what an admitted management command comes to whose own effect leaves
that as it was (R429, R430).
-/
-- Checked one after another: side by side, each waiting for the kernel, the proofs need more threads than the memory admits.
set_option Elab.async false
namespace Sys2Proof.Machine

/-! ## What the health is read off -/

section
variable {d e : Dev} (hn : e.now = d.now) (hc : e.cfg = d.cfg) (hm : e.med = d.med) (hu : e.ust.units = d.ust.units) (hb : e.boot.oldBands = d.boot.oldBands)
  (hp : e.boot.part = d.boot.part)
    (hr : ∀ f ∈ healthFields, ∀ i, e.reg f i = d.reg f i)
include hc hm

theorem Dev.liveBlocks_congr : e.liveBlocks = d.liveBlocks := by
  simp only [Dev.liveBlocks, Dev.allBlocks, Dev.ring, hc, hm]

include hb

theorem Dev.spareLevel_congr : e.spareLevel = d.spareLevel := by
  have usable : ∀ c, e.usableNow c = d.usableNow c := fun c => by simp only [Dev.usableNow, hb]
  have needed : e.neededBlocks = d.neededBlocks := by
    simp only [Dev.neededBlocks, hc, funext usable]
  rw [Dev.spareLevel, Dev.spareLevel, Dev.liveBlocks_congr hc hm, needed]

theorem Dev.sparePct_congr : e.sparePct = d.sparePct := by
  rw [Dev.sparePct, Dev.sparePct, Dev.spareLevel_congr hc hm hb, hm]

theorem Dev.lifeUsed_congr : e.lifeUsed = d.lifeUsed := by
  rw [Dev.lifeUsed, Dev.lifeUsed, Dev.sparePct_congr hc hm hb, Dev.liveBlocks_congr hc hm, hm]

omit hc hm hb in
include hr in
theorem Dev.hottestDie_congr : e.hottestDie = d.hottestDie := by
  simp only [Dev.hottestDie, Dev.flag, hr .THM_SENSn_VALID (by decide), hr .THM_SENSn_TEMP (by decide)]
  rfl

omit hc hm hb in
include hp hr in
theorem Dev.tempState_congr : e.tempState = d.tempState := by
  have temp : e.deviceTemp = d.deviceTemp := by rw [Dev.deviceTemp, Dev.deviceTemp, Dev.hottestDie_congr hr]
  rw [Dev.tempState, Dev.tempState, Dev.hottestDie_congr hr, temp, hp]

include hn hu hr

theorem Dev.healthStatus_congr : e.healthStatus = d.healthStatus := by
  have unit : ∀ ix, e.ustate ix = d.ustate ix := fun ix => by simp only [Dev.ustate, Dev.unit, hu]
  have pkg : ∀ p, e.pkg p = d.pkg p := fun p => by simp only [Dev.pkg, hm]
  have ring : e.ring = d.ring := by simp only [Dev.ring, hc]
  have holds : ∀ die, e.dieHolds die = d.dieHolds die := fun die => by simp only [Dev.dieHolds, unit]
  have dose : ∀ p, e.pkgDose p = d.pkgDose p := fun p => by simp only [Dev.pkgDose, Dev.doseNow, pkg, hm, hn]
  have dies : ∀ j, e.setDies j = d.setDies j := fun j => by simp only [Dev.setDies, Dev.ringOf, ring, hb]
  have overdue : ∀ b, e.bandOverdue b = d.bandOverdue b := fun b => by
    simp only [Dev.bandOverdue, Dev.bandDose, dose, dies]
    rfl
  simp only [Dev.healthStatus, Dev.maintenance, Dev.perfDegraded, Dev.replacement, Dev.sparePct_congr hc hm hb,
    Dev.anyOverdue, Dev.flag, hr .GLB_WEAR_STAT_DEBT (by decide), unit, pkg, ring, holds, overdue, hu, hm]

include hp

/-- An operation that leaves what the health is read off raises no health event. -/
theorem Dev.watchHealth_congr {f : Dev → Dev} (hf : f d = e) : d.watchHealth f = e := by
  have same : (e.healthStatus, e.lifeUsed, e.spareLevel, e.tempState) =
      (d.healthStatus, d.lifeUsed, d.spareLevel, d.tempState) := by
    rw [Dev.healthStatus_congr hn hc hm hu hb hr, Dev.lifeUsed_congr hc hm hb, Dev.spareLevel_congr hc hm hb,
      Dev.tempState_congr hp hr]
  subst hf
  exact if_pos same

end

/-- The parts that the health is read off, but for the units' records and two fields of boot state. -/
def healthParts : List Part := [.cfg, .med]

/-- An operation whose frame leaves what the health is read off raises no health event. -/
theorem Dev.Frame.watchHealth_units {d e : Dev} {ps : List Part} {fs : List Fld} (k : d.Frame e ps fs) {f : Dev → Dev} (hf : f d = e)
    (units : e.ust.units = d.ust.units) (bands : e.boot.oldBands = d.boot.oldBands) (part : e.boot.part = d.boot.part)
    (hp : ∀ p ∈ healthParts, p ∉ ps := by decide) (hr : ∀ f ∈ healthFields, f ∉ fs := by decide) : d.watchHealth f = e :=
  have same : ∀ p ∈ healthParts, d.same e p := fun p h => k.parts p (hp p h)
  Dev.watchHealth_congr k.now (same .cfg (by decide)) (same .med (by decide)) units bands part
    (fun f h i => k.reg f i (hr f h) (hp .cfg (by decide))) hf

theorem Dev.Frame.watchHealth {d e : Dev} {ps : List Part} {fs : List Fld} (k : d.Frame e ps fs) {f : Dev → Dev} (hf : f d = e)
    (hp : ∀ p ∈ .boot :: .ust :: healthParts, p ∉ ps := by decide) (hr : ∀ f ∈ healthFields, f ∉ fs := by decide) : d.watchHealth f = e :=
  have boot : e.boot = d.boot := k.parts .boot (hp .boot (by decide))
  have ust : e.ust = d.ust := k.parts .ust (hp .ust (by decide))
  k.watchHealth_units hf (by rw [ust]) (by rw [boot]) (by rw [boot])
    (fun p h => hp p (List.mem_cons_of_mem _ (List.mem_cons_of_mem _ h))) hr

/-! ## Admitted commands -/

section
variable (d : Dev) (c : CmdHdr) (opcode rc : Nat) (p : List Byte)

theorem Dev.reply_frame : d.Frame (d.reply c opcode rc p) [.regs, .out] [.MGT_CMD_EXECUTED, .MGT_CMD_REFUSED] := by
  unfold Dev.reply
  exact .step (.ite (fun _ => .step (.refl _) (Dev.count_frame ..)) fun _ => .step (.refl _) (Dev.count_frame ..))
    (Dev.emit_frame ..)

theorem Dev.reply_out : (d.reply c opcode rc p).out = .reply c.iface opcode rc p :: d.out := by
  unfold Dev.reply
  dsimp only [Dev.emit]
  split <;> rfl

end

/-- An admitted command puts out the answer of its own effect, and raises no health event where the effect leaves what the
health is read off. -/
theorem State.Admits.command_units {s : State} {c : CmdHdr} {need : Nat} {k : CmdKind} (a : s.Admits c need k) (opcode : Nat)
    {f : Dev → CmdOut} {rc : Nat} {p : List Byte} {d : Dev} {ps : List Part} {fs : List Fld} (hf : f s.stamped = (rc, p, d))
    (fr : s.stamped.Frame d ps fs) (units : d.ust.units = s.dev.ust.units) (bands : d.boot.oldBands = s.dev.boot.oldBands) (part : d.boot.part = s.dev.boot.part)
    (hp : ∀ p ∈ healthParts, p ∉ ps := by decide) (hr : ∀ f ∈ healthFields, f ∉ fs := by decide) :
    s.command c opcode need k f = .next { s with dev := d.reply c opcode rc p } := by
  obtain ⟨aon, up, pass⟩ := a
  have answer : s.stamped.command c opcode need k f = d.reply c opcode rc p := by
    rw [Dev.command_of_gate up pass, hf]
  have replied := d.reply_frame c opcode rc p
  have frame : s.stamped.Frame (d.reply c opcode rc p) (ps ++ [.regs, .out])
      (fs ++ [.MGT_CMD_EXECUTED, .MGT_CMD_REFUSED]) :=
    .step (fr.mono (List.subset_append_left _ _) (List.subset_append_left _ _)) replied
      (List.subset_append_right _ _) (List.subset_append_right _ _)
  have boot : (d.reply c opcode rc p).boot = d.boot := replied.parts .boot (by decide)
  have ust : (d.reply c opcode rc p).ust = d.ust := replied.parts .ust (by decide)
  have parts : ∀ p ∈ healthParts, p ∉ ps ++ [.regs, .out] := fun p h m => by
    rcases List.mem_append.mp m with m | m
    · exact hp p h m
    · exact absurd m ((by decide : ∀ p ∈ healthParts, p ∉ [Part.regs, .out]) p h)
  have fields : ∀ f ∈ healthFields, f ∉ fs ++ [.MGT_CMD_EXECUTED, .MGT_CMD_REFUSED] := fun f h m => by
    rcases List.mem_append.mp m with m | m
    · exact hr f h m
    · exact absurd m ((by decide : ∀ f ∈ healthFields, f ∉ [Fld.MGT_CMD_EXECUTED, .MGT_CMD_REFUSED]) f h)
  rw [State.command_aon aon, frame.watchHealth_units answer (by rw [ust]; exact units) (by rw [boot]; exact bands) (by rw [boot]; exact part) parts fields]

theorem State.Admits.command_boot {s : State} {c : CmdHdr} {need : Nat} {k : CmdKind} (a : s.Admits c need k) (opcode : Nat)
    {f : Dev → CmdOut} {rc : Nat} {p : List Byte} {d : Dev} {ps : List Part} {fs : List Fld} (hf : f s.stamped = (rc, p, d))
    (fr : s.stamped.Frame d ps fs) (bands : d.boot.oldBands = s.dev.boot.oldBands) (part : d.boot.part = s.dev.boot.part)
    (hp : ∀ p ∈ .ust :: healthParts, p ∉ ps := by decide) (hr : ∀ f ∈ healthFields, f ∉ fs := by decide) :
    s.command c opcode need k f = .next { s with dev := d.reply c opcode rc p } :=
  have ust : d.ust = s.dev.ust := fr.parts .ust (hp .ust (by decide))
  a.command_units opcode hf fr (by rw [ust]) bands part (fun p h => hp p (List.mem_cons_of_mem _ h)) hr

theorem State.Admits.command {s : State} {c : CmdHdr} {need : Nat} {k : CmdKind} (a : s.Admits c need k) (opcode : Nat)
    {f : Dev → CmdOut} {rc : Nat} {p : List Byte} {d : Dev} {ps : List Part} {fs : List Fld} (hf : f s.stamped = (rc, p, d))
    (fr : s.stamped.Frame d ps fs) (hp : ∀ p ∈ .boot :: .ust :: healthParts, p ∉ ps := by decide)
    (hr : ∀ f ∈ healthFields, f ∉ fs := by decide) :
    s.command c opcode need k f = .next { s with dev := d.reply c opcode rc p } :=
  have boot : d.boot = s.dev.boot := fr.parts .boot (hp .boot (by decide))
  a.command_boot opcode hf fr (by rw [boot]) (by rw [boot]) (fun p h => hp p (List.mem_cons_of_mem _ h)) hr

/-- An admitted command that leaves the device as it is only puts its answer out. -/
theorem State.Admits.answers {s : State} {c : CmdHdr} {need : Nat} {k : CmdKind} (a : s.Admits c need k) (opcode : Nat)
    {f : Dev → CmdOut} {rc : Nat} {p : List Byte} (hf : f s.stamped = (rc, p, s.stamped)) :
    s.command c opcode need k f = .next { s with dev := s.stamped.reply c opcode rc p } :=
  a.command opcode hf (ps := []) (fs := []) (.refl _)

end Sys2Proof.Machine
end

section
/-!
O28: the commands that store a setting. Bytes written in little-endian order are read back, and each alert's enable stands in
its own bit.
-/
-- Checked one after another: side by side, each waiting for the kernel, the proofs need more threads than the memory admits.
set_option Elab.async false
namespace Sys2Proof

theorem leNat_cons (b : Byte) (l : List Byte) : leNat (b :: l) = b.toNat + 256 * leNat l := rfl

@[simp] theorem leBytes_length (n x : Nat) : (leBytes n x).length = n := by
  induction n generalizing x with
  | zero => rfl
  | succ n ih => simp [leBytes, ih]

/-- A number reads back from its bytes, cut to their count. -/
@[simp] theorem leNat_leBytes (n x : Nat) : leNat (leBytes n x) = x % 256 ^ n := by
  induction n generalizing x with
  | zero => simp [leBytes, leNat, Nat.mod_one]
  | succ n ih =>
    rw [leBytes, leNat_cons, ih, pow_succ, mul_comm (256 ^ n) 256, Nat.mod_mul]
    simp

theorem leNat_lt (l : List Byte) : leNat l < 256 ^ l.length := by
  induction l with
  | nil => simp [leNat]
  | cons b l ih =>
    rw [leNat_cons, List.length_cons, pow_succ]
    have := b.isLt
    omega

theorem leAt_lt (l : List Byte) (off n : Nat) : leAt l off n < 256 ^ n :=
  lt_of_lt_of_le (leNat_lt _) (Nat.pow_le_pow_right (by decide) (by simp [Sys2Proof.slice]))

namespace Machine

/-! ## Alerts (R199) -/

/-- The byte whose bits 0 to 4 are the given flags. -/
def alertMask (g : Nat → Bool) : Nat := (List.range 5).foldl (fun a i => a + b2n (g i) * 2 ^ i) 0

theorem alertMask_spec (g : Nat → Bool) : alertMask g < 256 ∧ ∀ i < 5, (alertMask g).testBit i = g i := by
  have flags : ∀ b0 b1 b2 b3 b4 : Bool, ∀ g : Nat → Bool, g 0 = b0 → g 1 = b1 → g 2 = b2 → g 3 = b3 → g 4 = b4 →
      alertMask g = b2n b0 + b2n b1 * 2 + b2n b2 * 4 + b2n b3 * 8 + b2n b4 * 16 := by
    rintro _ _ _ _ _ g rfl rfl rfl rfl rfl
    simp [alertMask, List.range, List.range.loop]
  have bits : ∀ b0 b1 b2 b3 b4 : Bool, b2n b0 + b2n b1 * 2 + b2n b2 * 4 + b2n b3 * 8 + b2n b4 * 16 < 256 ∧
      ∀ i < 5, (b2n b0 + b2n b1 * 2 + b2n b2 * 4 + b2n b3 * 8 + b2n b4 * 16).testBit i = [b0, b1, b2, b3, b4].getD i false := by
    decide
  rw [flags _ _ _ _ _ g rfl rfl rfl rfl rfl]
  refine ⟨(bits ..).1, fun i hi => ((bits ..).2 i hi).trans ?_⟩
  match i, hi with
  | 0, _ | 1, _ | 2, _ | 3, _ | 4, _ => rfl

/-- The alert configuration that holds the flags `g` and the thresholds `v`. -/
def alertCfgOf (g : Nat → Bool) (v : Nat → Nat) : List Byte :=
  leBytes 1 (alertMask g) ++ leBytes 1 (v 0) ++ leBytes 2 (v 1) ++ leBytes 2 (v 2) ++ leBytes 2 (v 3) ++ leBytes 2 (v 4)

section
variable {d : Dev} {g : Nat → Bool} {v : Nat → Nat} (h : d.mgt.alertCfg = alertCfgOf g v)
include h

theorem Dev.alertOn_of_cfg : ∀ i < 5, d.alertOn i = g i := fun i hi => by
  have flags : u8 d.mgt.alertCfg 0 = alertMask g := by
    rw [h]
    exact (leNat_leBytes 1 _).trans (Nat.mod_eq_of_lt (alertMask_spec g).1)
  rw [Dev.alertOn, flags, (alertMask_spec g).2 i hi]

/-- Each alert's threshold reads back, cut to its size. -/
theorem Dev.alertAt_of_cfg : ∀ i < 5, d.alertAt i = v i % (if i = 0 then 256 else 65536) := fun i hi => by
  unfold Dev.alertAt
  rw [h]
  match i, hi with
  | 0, _ => exact leNat_leBytes 1 _
  | 1, _ | 2, _ | 3, _ | 4, _ => exact leNat_leBytes 2 _

end

theorem Dev.alertAt_lt (d : Dev) (i : Nat) : d.alertAt i < if i = 0 then 256 else 65536 := by
  unfold Dev.alertAt
  split
  · exact leAt_lt _ _ 1
  · exact leAt_lt _ _ 2

/-! ## The commands -/

/-- The label storage area with the bytes of a range replaced. -/
theorem lsa_replaced (l data : List Byte) (off : Nat) (h : off + data.length ≤ l.length) :
    (l.take off ++ data ++ l.drop (off + data.length)).length = l.length ∧
    Sys2Proof.slice (l.take off ++ data ++ l.drop (off + data.length)) off data.length = data ∧
    ∀ i, (i < off ∨ off + data.length ≤ i) → (l.take off ++ data ++ l.drop (off + data.length))[i]? = l[i]? := by
  have front : (l.take off).length = off := List.length_take_of_le (by omega)
  refine ⟨by simp; omega, ?_, fun i hi => ?_⟩
  · rw [Sys2Proof.slice, List.append_assoc, List.drop_append_of_le_length (by omega), List.drop_of_length_le (by omega),
      List.nil_append, List.take_left]
  · rcases hi with hi | hi
    · rw [List.append_assoc, List.getElem?_append_left (by omega), List.getElem?_take_of_lt hi]
    · rw [List.getElem?_append_right (by simp; omega), List.getElem?_drop]
      congr 1
      simp
      omega

theorem fitBytes_of_length {p : List Byte} {n : Nat} (h : p.length = n) : fitBytes p n = p := by
  subst h
  simp [fitBytes, zeros]

/-- Settles O28. The layout of the alert mask and enables is the model's (log entries 40 and 43). -/
theorem settingCommandsStore : Obligations.SettingCommandsStore := by
  refine ⟨fun s c t a => ?_, fun s c off data a hl => ?_, fun s c v a => ?_, fun s c p a hp => ?_, fun s c p a hp hf => ?_,
    fun s c valid enable life high low vol pers a => ?_⟩
  · exact a.command 0x0301 rfl (ps := [.evt]) (fs := []) (.update (.refl _))
  · obtain ⟨hlen, hin, hout⟩ := lsa_replaced s.dev.mgt.lsa data off hl
    exact ⟨_, hlen, hin, hout, a.command 0x4103 (if_neg (Nat.not_lt.mpr hl)) (ps := [.mgt]) (fs := []) (.update (.refl _))⟩
  · exact a.command 0x4204 rfl (ps := [.mgt]) (fs := []) (.update (.refl _))
  · have frame : s.stamped.Frame { s.stamped with evt := { s.dev.evt with policy := s.dev.evt.policy.put c.iface (fitBytes p 4) } }
        [.evt, .regs, .out] [.MGT_CMD_EXECUTED, .MGT_CMD_REFUSED] := .update (.refl _)
    refine ⟨_, a.command 0x0103 rfl frame, ?_, fun i hi => ?_, Dev.reply_out .., (frame.step (Dev.reply_frame ..)).changesOnly⟩
    · rw [(Dev.reply_frame ..).parts .evt (by decide), fitBytes_of_length hp]
      exact AMap.find_put ..
    · rw [(Dev.reply_frame ..).parts .evt (by decide)]
      exact AMap.find_put_ne _ _ (Ne.symm hi)
  · refine a.answers 0x0102 ?_
    have held : s.dev.evt.policy.findD c.iface [] = p := by rw [AMap.findD, hf]; rfl
    rw [held, fitBytes_of_length hp]
    rfl
  · let pick := fun i w => if valid.testBit i then w else s.dev.alertAt i
    let cfg := alertCfgOf (fun i => if valid.testBit i then enable.testBit i else s.dev.alertOn i)
      (fun i => pick i ([life, high, low, vol, pers].getD i 0))
    have frame : s.stamped.Frame { s.stamped with mgt := { s.dev.mgt with alertCfg := cfg } } [.mgt, .regs, .out]
        [.MGT_CMD_EXECUTED, .MGT_CMD_REFUSED] := .update (.refl _)
    have held : (Dev.reply { s.stamped with mgt := { s.dev.mgt with alertCfg := cfg } } c 0x4202 rcOk []).mgt.alertCfg = cfg := by
      rw [(Dev.reply_frame ..).parts .mgt (by decide)]
    have value := Dev.alertAt_of_cfg held
    have given : ∀ i < 5, valid.testBit i = true → Dev.alertAt _ i = _ := fun i hi hv =>
      (value i hi).trans (congrArg (· % _) (if_pos hv))
    refine ⟨_, a.command 0x4202 rfl frame, given 0 (by decide), given 1 (by decide), given 2 (by decide), given 3 (by decide),
      given 4 (by decide), fun i hi hv => ⟨?_, ?_⟩, fun i hi hv => ?_, Dev.reply_out ..,
      (frame.step (Dev.reply_frame ..)).changesOnly⟩
    · exact (value i hi).trans ((congrArg (· % _) (if_neg (by simp [hv]))).trans (Nat.mod_eq_of_lt (s.dev.alertAt_lt i)))
    · exact (Dev.alertOn_of_cfg held i hi).trans (if_neg (by simp [hv]))
    · exact (Dev.alertOn_of_cfg held i hi).trans (if_pos hv)

end Machine
end Sys2Proof
end

section
/-!
O27 and O29: the commands that report what the device holds, and the event logs.
-/
-- Checked one after another: side by side, each waiting for the kernel, the proofs need more threads than the memory admits.
set_option Elab.async false
namespace Sys2Proof.Machine

/-- Settles O27: each command answers, and leaves the device as it was. -/
theorem informationCommandsReport : Obligations.InformationCommandsReport := by
  refine ⟨fun s c a => ⟨a.answers 0x0001 rfl, fun hb => a.answers 0x0002 ?_, fun b hb => ?_, a.answers 0x0400 rfl,
    a.answers 0x0300 rfl, a.answers 0x4000 rfl, a.answers 0x4100 rfl, a.answers 0x4101 rfl, a.answers 0x4200 rfl,
    a.answers 0x4201 rfl, a.answers 0x4203 rfl, a.answers 0x0200 rfl, fun which => a.answers _ rfl,
    fun op => a.answers op rfl⟩, fun s c off n a h => a.answers 0x0401 ?_, fun s c off n a h hn => a.answers 0x4102 ?_,
    fun s c start limit a hi hh => a.answers 0x5500 ?_⟩
  · rw [hb]
    rfl
  · have drawn : s.stamped.Frame (s.stamped.drawFree 432).2 [.regs, .out, .freeCtr] [.MGT_CMD_EXECUTED, .MGT_CMD_REFUSED] :=
      .mono (Dev.drawFree_frame ..)
    refine ⟨_, if b.running then (s.stamped.drawFree 432).1 % 100 else b.pct, a.command 0x0002 ?_ drawn, Dev.reply_out ..,
      fun h => ?_, fun h => ?_, (drawn.step (Dev.reply_frame ..)).changesOnly⟩
    · simp only [hb]
      rfl
    · simp [h]
    · rw [if_pos h]
      exact Nat.mod_lt _ (by decide)
  · exact (if_neg (by simp)).trans (if_neg (Nat.not_lt.mpr h))
  · exact if_neg (by simp; omega)
  · exact if_neg (by simp [hi, hh])

/-! ## Event logs -/

/-- The device in which the log of interface `i` for severity `n` holds the records `rs`, and has not overflowed. -/
def Dev.keepLog (d : Dev) (i n : Nat) (rs : List LogRec) : Dev :=
  { d with evt := { d.evt with logs := d.evt.logs.put (4 * i + n)
                                 { d.log i n with recs := rs, ovfCount := 0, ovfFirst := 0, ovfLast := 0 } } }

theorem Dev.keepLog_frame (d : Dev) (i n : Nat) (rs : List LogRec) : d.Frame (d.keepLog i n rs) [.evt] [] := .update (.refl d)

theorem Dev.log_keepLog (d : Dev) (i n : Nat) (rs : List LogRec) :
    (d.keepLog i n rs).log i n = { d.log i n with recs := rs, ovfCount := 0, ovfFirst := 0, ovfLast := 0 } := AMap.findD_put ..

theorem Dev.log_keepLog_ne (d : Dev) {i n j m : Nat} (rs : List LogRec) (h : 4 * j + m ≠ 4 * i + n) :
    (d.keepLog i n rs).log j m = d.log j m := AMap.findD_put_ne _ _ _ (Ne.symm h)

theorem Dev.log_reply (d : Dev) (c : CmdHdr) (opcode rc : Nat) (p : List Byte) (i n : Nat) :
    (d.reply c opcode rc p).log i n = d.log i n := by
  rw [Dev.log, (d.reply_frame c opcode rc p).parts .evt (by decide), Dev.log]

/-- Settles O29. The layouts and the code of a wrong handle are log entry 40, and Clear All only after an overflow is log
entry 44. -/
theorem eventLogCommandsReadAndClear : Obligations.EventLogCommandsReadAndClear := by
  have clears : ∀ (s : State) (c : CmdHdr) (n : Nat) (rs : List LogRec),
      s.stamped.Frame ((s.stamped.keepLog c.iface n rs).reply c 0x0101 rcOk [])
      [.evt, .regs, .out] [.MGT_CMD_EXECUTED, .MGT_CMD_REFUSED] :=
    fun s c n rs => .step (.mono (Dev.keepLog_frame ..)) (Dev.reply_frame ..)
  refine ⟨fun s c n a hn => a.answers 0x0100 (if_neg (Nat.not_le.mpr hn)), fun s c n hs a hn hne => ?_, fun s c n a hn ho => ?_⟩
  · by_cases known : ((s.dev.log c.iface n).recs.take hs.length).map (·.handle % 65536) = hs
    · refine ⟨_, a.command 0x0101 (d := s.stamped.keepLog c.iface n ((s.dev.log c.iface n).recs.drop hs.length)) ?_
        (Dev.keepLog_frame ..), fun _ => ⟨?_, ?_, Dev.reply_out ..⟩,
        fun h => absurd known h, fun i m h => ?_, (clears ..).changesOnly⟩
      · exact (if_neg (Nat.not_le.mpr hn)).trans ((if_neg (by decide)).trans ((if_neg (by simpa using hne)).trans
          (if_neg (not_not.mpr known))))
      · rw [Dev.log_reply, Dev.log_keepLog]
      · rw [Dev.log_reply, Dev.log_keepLog]
      · rw [Dev.log_reply, Dev.log_keepLog_ne _ _ h]
        rfl
    · refine ⟨_, a.answers 0x0101 (rc := rcHandle) (p := []) ?_, fun h => absurd h known, fun _ => ⟨?_, Dev.reply_out ..⟩, fun i m _ => Dev.log_reply ..,
        (Dev.reply_frame ..).changesOnly⟩
      · exact (if_neg (Nat.not_le.mpr hn)).trans ((if_neg (by decide)).trans ((if_neg (by simpa using hne)).trans (if_pos known)))
      · exact (Dev.reply_frame ..).parts .evt (by decide)
  · refine ⟨_, a.command 0x0101 (d := s.stamped.keepLog c.iface n []) ?_ (Dev.keepLog_frame ..), ?_, ?_, Dev.reply_out ..,
      (clears ..).changesOnly⟩
    · exact (if_neg (Nat.not_le.mpr hn)).trans ((if_pos rfl).trans (if_neg ho))
    · rw [Dev.log_reply, Dev.log_keepLog]
    · rw [Dev.log_reply, Dev.log_keepLog]

end Sys2Proof.Machine
end

section
/-!
O30 and O31: the transfer of a firmware object, its activation, and what follows a load.
-/
-- Checked one after another: side by side, each waiting for the kernel, the proofs need more threads than the memory admits.
set_option Elab.async false
namespace Sys2Proof

theorem AMap.find_alter {α : Type} (m : AMap α) (k : Nat) (f : α → α) : (m.alter k f).find k = (m.find k).map f := by
  unfold AMap.alter
  split
  next v hv => rw [AMap.find_put, hv]; rfl
  next hv => rw [hv]; rfl

theorem AMap.find_alter_ne {α : Type} (m : AMap α) {k j : Nat} (f : α → α) (h : k ≠ j) : (m.alter k f).find j = m.find j := by
  unfold AMap.alter
  split
  · exact AMap.find_put_ne _ _ h
  · rfl

namespace Machine

theorem State.on_to {s : State} (ha : s.dev.aon = true) {f : Dev → Dev} {d : Dev} (h : f s.stamped = d) :
    s.on f = .next { s with dev := d } := by rw [State.on_aon ha, h]

/-- A command whose guard holds has its effect. -/
theorem State.on_when {s : State} (ha : s.dev.aon = true) {c : Dev → Bool} {f : Dev → Dev} (hc : c s.stamped = true) :
    s.on (fun d => d.when (c d) f) = .next { s with dev := f s.stamped } :=
  State.on_to ha (if_pos hc)

/-! ## Transfer (R440) -/

section
variable (d : Dev)

/-- An abort ends the session; of the firmware slots it changes at most the session's. -/
theorem Dev.fwAbort_spec (x : FwXfer) : (d.fwAbort x).mgt.xfer = none ∧ (d.fwAbort x).mgt.fwActive = d.mgt.fwActive ∧
    (∀ n ≠ x.slot, (d.fwAbort x).mgt.fw.find n = d.mgt.fw.find n) ∧ d.Frame (d.fwAbort x) [.mgt, .freeCtr] [] :=
  ⟨rfl, rfl, fun _ hn => AMap.find_alter_ne _ _ (Ne.symm hn), .update (.mono (d.drawFree_frame 440))⟩

variable (c : CmdHdr) (f : Option FwXfer → CmdOut)

theorem Dev.fwPart_none (h : d.mgt.xfer = none) : d.fwPart c f = f none := by rw [Dev.fwPart, h]

theorem Dev.fwPart_own {x : FwXfer} (h : d.mgt.xfer = some x) (hi : x.iface = c.iface) : d.fwPart c f = f (some x) := by
  rw [Dev.fwPart, h]
  exact if_neg (not_not.mpr hi)

theorem Dev.fwPart_other {x : FwXfer} (h : d.mgt.xfer = some x) (hi : x.iface ≠ c.iface) : d.fwPart c f = d.refuse rcBusy := by
  rw [Dev.fwPart, h]
  exact if_pos hi

end

/-- Settles O30. The return codes are log entry 40; that parts are buffered until End, with the outcome of Abort, is log entry
62. -/
theorem firmwareTransferCommandsTakeEffect : Obligations.FirmwareTransferCommandsTakeEffect := by
  refine ⟨fun s c slot data a hx ht => ?_, fun s c slot data a hx ht => ?_, fun s c x off data a hx hi => ⟨fun ho => ⟨?_, ?_⟩,
    fun ho => ⟨?_, ?_⟩⟩, fun s c x a hx hi => ?_, fun s x ha hx ht => ?_, fun s c x slot off data a hx hi i hm => ?_⟩
  · refine a.command 0x0201 (d := { s.stamped with mgt := _ }) ?_ (ps := [.mgt]) (fs := []) (.update (.refl _))
    exact (s.stamped.fwPart_none _ _ hx).trans ((if_neg (by decide)).trans (if_neg (by simp [show s.stamped.fwTarget slot = true from ht])))
  · refine a.command 0x0201 (d := { s.stamped with mgt := _ }) ?_ (ps := [.mgt]) (fs := []) (.update (.refl _))
    exact (s.stamped.fwPart_none _ _ hx).trans ((if_neg (by decide)).trans ((if_neg (by simp [show s.stamped.fwTarget slot = true from ht])).trans
      (if_neg (by decide))))
  · refine a.command 0x0201 (d := { s.stamped with mgt := _ }) ?_ (ps := [.mgt]) (fs := []) (.update (.refl _))
    exact (s.stamped.fwPart_own _ _ hx hi).trans (if_neg (not_not.mpr ho))
  · refine a.command 0x0201 (d := { s.stamped with mgt := _ }) ?_ (ps := [.mgt]) (fs := []) (.update (.refl _))
    exact (s.stamped.fwPart_own _ _ hx hi).trans (if_neg (not_not.mpr ho))
  · refine a.answers 0x0201 ?_
    exact (s.stamped.fwPart_own _ _ hx hi).trans (if_pos ho)
  · refine a.answers 0x0201 ?_
    exact (s.stamped.fwPart_own _ _ hx hi).trans (if_pos ho)
  · obtain ⟨hxfer, hactive, hfw, hframe⟩ := s.stamped.fwAbort_spec x
    have mgt := (Dev.reply_frame (s.stamped.fwAbort x) c 0x0201 rcOk []).parts .mgt (by decide)
    refine ⟨_, a.command 0x0201 (s.stamped.fwPart_own _ _ hx hi) hframe, ?_, fun n hn => ?_, ?_, Dev.reply_out ..,
      ((hframe.mono (by decide) (by decide)).step (Dev.reply_frame ..) : Dev.Frame _ _ [.mgt, .regs, .out, .freeCtr]
        [.MGT_CMD_EXECUTED, .MGT_CMD_REFUSED]).changesOnly⟩
    · rw [mgt, hxfer]
    · rw [mgt, hfw n hn]
    · rw [mgt, hactive]
  · obtain ⟨hxfer, -, hfw, hframe⟩ := s.stamped.fwAbort_spec x
    have effect : exec .fwTransferTimeout s = .next { s with dev := s.stamped.fwAbort x } := by
      change execFwTransferTimeout s = _
      refine State.on_to ha ?_
      simp only [hx]
      exact if_pos (decide_eq_true ht)
    exact ⟨_, effect, hxfer, hfw, hframe.changesOnly⟩
  · have busy : ∀ f, s.stamped.fwPart c f = (rcBusy, [], s.stamped) := fun f => s.stamped.fwPart_other _ f hx hi
    simp only [List.mem_cons, List.not_mem_nil, or_false] at hm
    rcases hm with rfl | rfl | rfl | rfl
    all_goals exact a.answers 0x0201 (busy _)

/-! ## Activation (R441, R442) -/

theorem Dev.startBg_runs (d : Dev) (i opcode : Nat) : (d.startBg i opcode).bgRuns i = true := by
  unfold Dev.startBg Dev.bgRuns
  rw [AMap.find_put]
  rfl

/-- A fallback makes the other slot active and marks the failed one invalid. -/
theorem Dev.fwFallback_spec (d : Dev) : d.fwFallback.mgt =
      { d.mgt with fw := d.mgt.fw.alter d.mgt.fwActive (fun x => { x with valid := false }), fwActive := 1 - d.mgt.fwActive,
                   fwUnproved := false, fwWdtResets := [], fwStartedAt := d.now } ∧
    d.fwFallback.reg .MGT_STATUS_FALLBACK = 1 ∧
    d.Frame d.fwFallback [.mgt, .evt, .regs, .out] (evtFields.append [.MGT_STATUS_FALLBACK]) := by
  unfold Dev.fwFallback
  refine ⟨?_, ?_, .step (.step (.update (.refl _)) (Dev.setFlag_frame ..)) (Dev.raise_frame ..)⟩
  · rw [Dev.raise_mgt]
    rfl
  · rw [Dev.raise_reg _ _ _ _ _ rfl]
    exact Dev.reg_setReg ..

/-- The firmware that was loaded has started (R441): unproved after an online activation, whose interface is below 3. -/
def Dev.loadEnded (d : Dev) (i : Nat) : Dev :=
  Dev.endBg { d with mgt := { d.mgt with
    fwLoading := none, fwStartedAt := d.now, fwUnproved := decide (i < 3), fwWdtResets := [] } } i 0x0202 rcOk

/-- Settles O31. The floor's hour from the firmware's last start and the fallback's load are log entry 62; that a load ends the
nonce is log entry 54. -/
theorem firmwareActivationTakesEffect : Obligations.FirmwareActivationTakesEffect := by
  refine ⟨fun s c slot a hr hb => ?_, fun s c slot a hr => ?_, fun s n i ha hl => ?_, fun s ha hl hd hc => ?_,
    fun s ha hr hu ht => ?_, fun s ha hr ht => ?_⟩
  · have frame : s.stamped.Frame _ [.mgt, .regs, .out] [.MGT_STATUS_FALLBACK, .MGT_CMD_EXECUTED, .MGT_CMD_REFUSED] :=
      .update (mgt := { (s.stamped.startBg c.iface 0x0202).mgt with
          fwActive := slot - 1, fwNext := none, fwLoading := some (slot - 1, c.iface), nonce := none })
        (.step (.update (.refl s.stamped) : Dev.Frame s.stamped (s.stamped.startBg c.iface 0x0202) _ _)
          (Dev.setFlag_frame _ .MGT_STATUS_FALLBACK 0 false))
    have mgt := fun d : Dev => (Dev.reply_frame d c 0x0202 rcBackground []).parts .mgt (by decide)
    refine ⟨_, a.command 0x0202 ?_ frame, congrArg MgtS.fwActive (mgt _), congrArg MgtS.fwNext (mgt _),
      congrArg MgtS.fwLoading (mgt _), congrArg MgtS.nonce (mgt _), ?_, ?_, Dev.reply_out ..,
      (frame.step (Dev.reply_frame ..)).changesOnly⟩
    · rw [show s.stamped.fwRefusal slot = none from hr]
      exact if_neg (by simp [show s.stamped.bgRuns c.iface = false from hb])
    · rw [Dev.bgRuns, mgt]
      exact s.stamped.startBg_runs ..
    · rw [(Dev.reply_frame ..).reg .MGT_STATUS_FALLBACK 0]
      exact Dev.reg_setReg ..
  · refine a.command 0x0202 ?_ (ps := [.mgt]) (fs := []) (.update (.refl _))
    rw [show s.stamped.fwRefusal slot = none from hr]
    rfl
  · refine ⟨s.stamped.loadEnded i, show execFwLoadComplete s = _ from State.on_to ha ?_, rfl, rfl, rfl, rfl, rfl,
      (.update (.refl _) : Dev.Frame _ _ [.mgt] []).changesOnly⟩
    simp only [hl]
    rfl
  · refine show execFwLoadComplete s = _ from State.on_to ha ?_
    have due : (s.dev.mgt.fwDown && decide (s.dev.rst.core = .none)) = true := by simp [hd, hc]
    simp only [hl, Dev.when, due, if_true]
  · obtain ⟨mgt, fallback, frame⟩ := s.stamped.fwFallback_spec
    have ready : s.stamped.fwReady = true := hr
    refine ⟨_, show execFwStartTimeout s = _ from State.on_when ha ?_, congrArg MgtS.fwActive mgt,
      congrArg (fun m : MgtS => some (m.fwActive, 3)) mgt, fallback,
      fun o ho => (congrArg (fun m : MgtS => m.fw.find s.dev.mgt.fwActive) mgt).trans ?_,
      (.update frame : Dev.Frame _ _ [.mgt, .evt, .regs, .out] _).changesOnly⟩
    · simp [ready, hu, ht]
    · exact (AMap.find_alter ..).trans (congrArg _ ho)
  · have ready : s.stamped.fwReady = true := hr
    refine show execFwFloorRaise s = _ from State.on_when ha ?_
    simp [ready, ht]

end Machine
end Sys2Proof
end

section
/-!
O45 and O46: the DOE, SPDM and IDE services of a head, and its HDM decoders.
-/
-- Checked one after another: side by side, each waiting for the kernel, the proofs need more threads than the memory admits.
set_option Elab.async false
namespace Sys2Proof.Machine

/-! ## HDM decoders (R77) -/

/-- Decoder `n` of head `h` replaced. -/
def Dev.putDecoder (d : Dev) (h n : Nat) (x : Decoder) : Dev :=
  d.setHead h { d.head h with decoders := (d.head h).decoders.put n x }

section
variable (d : Dev) (h n : Nat) (x y : Decoder)

theorem Dev.head_setHead (k : HeadS) : (d.setHead h k).head h = k := AMap.findD_put ..

theorem Dev.head_setHead_ne {i : Nat} (k : HeadS) (hi : h ≠ i) : (d.setHead h k).head i = d.head i := AMap.findD_put_ne _ _ _ hi

theorem Dev.decoder_putDecoder : (d.putDecoder h n x).decoder h n = x := by
  rw [Dev.decoder, Dev.putDecoder, Dev.head_setHead]
  exact AMap.findD_put ..

theorem Dev.decoder_putDecoder_ne {i m : Nat} (hm : (i, m) ≠ (h, n)) : (d.putDecoder h n x).decoder i m = d.decoder i m := by
  unfold Dev.decoder Dev.putDecoder
  by_cases hi : h = i
  · subst hi
    rw [Dev.head_setHead]
    exact AMap.findD_put_ne _ _ _ fun e => hm (by rw [e])
  · rw [Dev.head_setHead_ne _ _ _ hi]

/-- Where a decoder's range begins is read off the sizes, ways and skips of those up to it. -/
theorem Dev.decoderBase_congr {d e : Dev} {h : Nat} (n : Nat) (same : ∀ m ≤ n, (e.decoder h m).skip = (d.decoder h m).skip ∧
    (e.decoder h m).hpaSize = (d.decoder h m).hpaSize ∧ (e.decoder h m).ways = (d.decoder h m).ways) :
    e.decoderBase h n = d.decoderBase h n := by
  induction n with
  | zero => exact (same 0 (Nat.le_refl 0)).1
  | succ n ih =>
    obtain ⟨-, size, ways⟩ := same n (Nat.le_succ n)
    rw [Dev.decoderBase, Dev.decoderBase, ih fun m hm => same m (Nat.le_succ_of_le hm), size, ways,
      (same (n + 1) (Nat.le_refl _)).1]

/-- Whether a decoder is committed or locked does not move its range. -/
theorem Dev.decoderBase_putDecoder (hs : y.skip = x.skip) (hz : y.hpaSize = x.hpaSize) (hw : y.ways = x.ways) :
    (d.putDecoder h n y).decoderBase h n = (d.putDecoder h n x).decoderBase h n := by
  refine Dev.decoderBase_congr n fun m _ => ?_
  by_cases hm : m = n
  · subst hm
    rw [Dev.decoder_putDecoder, Dev.decoder_putDecoder]
    exact ⟨hs, hz, hw⟩
  · have ne : (h, m) ≠ (h, n) := fun e => hm (Prod.mk.inj e).2
    rw [Dev.decoder_putDecoder_ne _ _ _ _ ne, Dev.decoder_putDecoder_ne _ _ _ _ ne]
    exact ⟨rfl, rfl, rfl⟩

theorem Decoder.ways_pos {x : Decoder} (hx : x.legal = true) : 1 ≤ x.ways := by
  simp only [Decoder.legal, Bool.and_eq_true, decide_eq_true_eq] at hx
  obtain ⟨⟨⟨⟨ways, -⟩, -⟩, -⟩, -⟩ := hx
  simp only [List.mem_cons, List.not_mem_nil, or_false] at ways
  omega

theorem Dev.putDecoder_frame : d.Frame (d.putDecoder h n x) [.heads] [] := .update (.refl d)

end

/-- What R77 asks of a commit: legal values, the decoder below committed, the range at or below 2^48. -/
def Dev.commits (d : Dev) (h n : Nat) (x : Decoder) : Prop :=
  x.legal = true ∧ (n = 0 ∨ (d.decoder h (n - 1)).committed = true) ∧
    (d.putDecoder h n x).decoderBase h n + x.hpaSize / x.ways ≤ 2 ^ 48

/-- The model's check of a commit. -/
def Dev.commitFails (d : Dev) (h n : Nat) (x : Decoder) : Bool :=
  !x.legal || (n ≠ 0 && !(d.decoder h (n - 1)).committed) ||
    decide (2 ^ 48 < (d.putDecoder h n x).decoderBase h n + x.hpaSize / max x.ways 1)

theorem Dev.commits_iff (d : Dev) (h n : Nat) (x : Decoder) : d.commits h n x ↔ d.commitFails h n x = false := by
  unfold Dev.commits Dev.commitFails
  by_cases legal : x.legal = true
  · rw [Nat.max_eq_left (Decoder.ways_pos legal)]
    by_cases n0 : n = 0 <;> simp [legal, n0]
  · simp [legal]

/-- A commit of an unlocked decoder stores its fields, committed or with its error. -/
theorem exec_hdmDecoderCommit {s : State} {h n base size ways gran skip target : Nat} (lock : Bool) (ha : s.dev.aon = true)
    (hh : h < s.dev.headCount) (hn : n < 8) (hm : (s.dev.head h).memInfoValid = true) (hl : (s.dev.decoder h n).locked = false)
    {x : Decoder} (hx : x = { hpaBase := base, hpaSize := size, ways := ways, gran := gran, skip := skip, target := target }) :
    (s.stamped.commits h n x → exec (.hdmDecoderCommit h n base size ways gran skip target lock) s =
      .next { s with dev := s.stamped.putDecoder h n { x with committed := true, locked := lock } }) ∧
    (¬ s.stamped.commits h n x → exec (.hdmDecoderCommit h n base size ways gran skip target lock) s =
      .next { s with dev := s.stamped.putDecoder h n { x with errNotCommitted := true } }) := by
  have guard : (decide (h < s.dev.headCount) && decide (n < 8) && (s.dev.head h).memInfoValid && !(s.dev.decoder h n).locked)
      = true := by simp [hh, hn, hm, hl]
  have run : exec (.hdmDecoderCommit h n base size ways gran skip target lock) s = .next { s with
      dev := if s.stamped.commitFails h n x then s.stamped.putDecoder h n { x with errNotCommitted := true }
        else s.stamped.putDecoder h n { x with committed := true, locked := lock } } := by
    subst hx
    exact show execHdmDecoderCommit h n base size ways gran skip target lock s = _ from State.on_when ha guard
  exact ⟨fun hc => by rw [run, if_neg (by simp [(Dev.commits_iff ..).mp hc])],
    fun hc => by rw [run, if_pos (by simpa [Dev.commits_iff] using hc)]⟩

/-- Settles O46. That illegal values and a decoder out of order are errors of the commit too is log entry 72. -/
theorem hdmDecodersCommitInOrder : Obligations.HdmDecodersCommitInOrder := by
  refine ⟨fun s h n base size ways gran skip target lock ha hh hn hm hl => ?_, fun s h n base size ways gran skip target lock ha hg => ?_⟩
  · obtain ⟨x, hx⟩ : ∃ x : Decoder, x = { hpaBase := base, hpaSize := size, ways := ways, gran := gran, skip := skip, target := target } :=
      ⟨_, rfl⟩
    obtain ⟨takes, fails⟩ := exec_hdmDecoderCommit lock ha hh hn hm hl hx
    -- the fields written agree with `x` up to the flags, so the condition reads the same
    have same : ∀ y : Decoder, y.legal = x.legal → y.skip = x.skip → y.hpaSize = x.hpaSize → y.ways = x.ways →
        (((s.stamped.putDecoder h n y).decoder h n).legal = true ∧ (n = 0 ∨ (s.dev.decoder h (n - 1)).committed = true) ∧
          (s.stamped.putDecoder h n y).decoderBase h n + size / ways ≤ 2 ^ 48 ↔ s.stamped.commits h n x) := by
      intro y hy hs hz hw
      rw [Dev.decoder_putDecoder, s.stamped.decoderBase_putDecoder h n x y hs hz hw, hy]
      subst hx
      exact Iff.rfl
    have others : ∀ y i m, (i, m) ≠ (h, n) → (s.stamped.putDecoder h n y).decoder i m = s.dev.decoder i m :=
      fun y i m ne => Dev.decoder_putDecoder_ne _ _ _ _ ne
    by_cases hc : s.stamped.commits h n x
    · have iff := same { x with committed := true, locked := lock } rfl rfl rfl rfl
      refine ⟨_, takes hc, ?_⟩
      rw [Dev.decoder_putDecoder] at iff ⊢
      subst hx
      exact ⟨rfl, rfl, rfl, rfl, rfl, rfl, fun _ => ⟨rfl, rfl, rfl⟩, fun no => absurd (iff.mpr hc) no, others _,
        (Dev.putDecoder_frame ..).changesOnly⟩
    · have iff := same { x with errNotCommitted := true } rfl rfl rfl rfl
      refine ⟨_, fails hc, ?_⟩
      rw [Dev.decoder_putDecoder] at iff ⊢
      subst hx
      exact ⟨rfl, rfl, rfl, rfl, rfl, rfl, fun yes => absurd (iff.mp yes) hc, fun _ => ⟨rfl, rfl, rfl⟩, others _,
        (Dev.putDecoder_frame ..).changesOnly⟩
  · have guard : (decide (h < s.dev.headCount) && decide (n < 8) && (s.dev.head h).memInfoValid && !(s.dev.decoder h n).locked)
        = false := by
      simp only [Bool.and_eq_false_iff, decide_eq_false_iff_not, Bool.not_eq_false', Nat.not_lt]
      tauto
    refine show execHdmDecoderCommit h n base size ways gran skip target lock s = _ from State.on_to ha ?_
    exact if_neg (Bool.eq_false_iff.mp guard)

/-! ## DOE, SPDM and IDE_KM (R80, R81, R90 to R92) -/

theorem Dev.session_setHead (d : Dev) {h i : Nat} (x : HeadS) (hi : i ≠ h) : (d.setHead h x).session i = d.session i := by
  unfold Dev.session
  rw [Dev.head_setHead_ne _ _ _ (Ne.symm hi)]
  rfl

/-- A secured session opens under its own secret. -/
def Dev.openSession (d : Dev) (i secret : Nat) : Dev :=
  if i = 2 then { d with mgt := { d.mgt with spdm := true, spdmSecret := secret } }
  else d.setHead i { d.head i with spdm := true, spdmSecret := secret }

section
variable (d : Dev) (i secret : Nat)

theorem Dev.session_openSession : (d.openSession i secret).session i = true := by
  unfold Dev.openSession Dev.session
  by_cases hi : i = 2
  · rw [if_pos hi, if_pos hi]
  · rw [if_neg hi, if_neg hi, Dev.head_setHead]

theorem Dev.session_openSession_ne {j : Nat} (hj : j ≠ i) : (d.openSession i secret).session j = d.session j := by
  unfold Dev.openSession
  split
  next hi =>
    subst hi
    exact (if_neg hj).trans (if_neg hj).symm
  next => exact d.session_setHead _ hj

theorem Dev.openSession_frame : d.Frame (d.openSession i secret) [.mgt, .heads] [] := by
  unfold Dev.openSession
  exact .ite (fun _ => .update (.refl _)) fun _ => .update (.refl _)

end

theorem HeadS.ide_setIde (x : HeadS) (io : Bool) (i : IdeS) :
    (x.setIde io i).ide io = i ∧ (x.setIde io i).ide (!io) = x.ide (!io) := by cases io <;> exact ⟨rfl, rfl⟩

/-- An IDE_KM message that the stream takes. -/
def Dev.setStream (d : Dev) (h : Nat) (io : Bool) (i : IdeS) : Dev :=
  (d.setHead h ((d.head h).setIde io i)).emit (.obj h 3 [0])

theorem Dev.setStream_spec (d : Dev) (h : Nat) (io : Bool) (i : IdeS) :
    ((d.setStream h io i).head h).ide io = i ∧ ((d.setStream h io i).head h).ide (!io) = (d.head h).ide (!io) ∧
    (d.setStream h io i).out = .obj h 3 [0] :: d.out ∧ d.ChangesOnly (d.setStream h io i) [.heads, .out] := by
  have head : (d.setStream h io i).head h = (d.head h).setIde io i := d.head_setHead ..
  obtain ⟨own, other⟩ := (d.head h).ide_setIde io i
  rw [head]
  exact ⟨own, other, rfl, (.step (.update (.refl d)) (Dev.emit_frame ..) : Dev.Frame _ _ [.heads, .out] []).changesOnly⟩

/-- Inside a session an IDE_KM message stores the stream that it makes, or answers that it makes none. -/
theorem State.on_ideKm {s : State} {h : Nat} (io : Bool) {set : Nat} {f : IdeS → Option IdeS} (ha : s.dev.aon = true) (hh : h < 2)
    (hu : s.stamped.doeUp h = true) (hs : s.dev.session h = true) :
    s.on (fun d => d.ideKm h io set f) = .next { s with
      dev := match (if set < 2 then f ((s.dev.head h).ide io) else none) with
        | some i => s.stamped.setStream h io i
        | none => s.stamped.emit (.obj h 3 [1]) } := by
  refine State.on_to ha ?_
  have guard : (decide (h < 2) && s.stamped.doeUp h && s.stamped.session h) = true := by
    simp [hh, hu, show s.stamped.session h = true from hs]
  exact if_pos guard

theorem AMap.find_keep_none {α : Type} (m : AMap α) (p : Nat → α → Bool) (k : Nat) (hk : ∀ v, p k v = false) :
    (m.keep p).find k = none := by
  induction m with
  | nil => rfl
  | cons e r ih =>
    obtain ⟨a, w⟩ := e
    unfold AMap.keep at ih ⊢
    rw [List.filter_cons]
    split
    next hp =>
      rw [AMap.find_cons, ih]
      refine if_neg fun e => ?_
      rw [e, hk w] at hp
      exact Bool.false_ne_true hp
    next => exact ih

/-- Settles O45. The layouts of the objects and messages, and that K_SET_GO needs both keys, are log entry 41. -/
theorem doeSpdmAndIdeServicesTakeEffect : Obligations.DoeSpdmAndIdeServicesTakeEffect := by
  refine ⟨fun s h i ha hh hu => ⟨?_, ?_⟩, fun s h i ha hu h1 h5 => ⟨Config.deviceSign (leBytes 1 i ++ leBytes 2 (s.stamped.measurement i).length ++
      s.stamped.measurement i), ?_⟩, fun s h i ha hu hi => ?_,
    fun s h slot chain ha hu => ⟨fun ok => ?_, fun bad => ?_⟩, fun s h ha hu => ?_,
    fun s h set dir io key ha hh hu hs => ⟨fun h2 hd hk => ?_, fun h2 k0 k1 => ?_, fun h2 hk => ?_, fun h2 => ?_⟩,
    fun s h ha hh hc => ⟨?_, ?_⟩, fun s ha => ⟨⟨Config.stdReply 4 [] 0, ?_⟩, ?_⟩⟩
  · have guard : (decide (h < 2) && s.stamped.doeUp h) = true := by simp [hh, hu]
    refine (show execDoeDiscovery h i s = _ from State.on_when ha guard).trans ?_
    match i with
    | 0 | 1 | 2 | 3 => rfl
    | i + 4 =>
      have last : ¬ (i + 4 + 1 < 4) := by omega
      simp only [List.length_cons, List.length_nil, Nat.zero_add, Nat.reduceAdd, if_neg last,
        List.getD_eq_default ([(1, 0), (1, 1), (1, 2), (7832, 2)] : List (Nat × Nat)) (65535, 0) (Nat.le_add_left 4 i)]
      rfl
  · have guard : (decide (h < 2) && s.stamped.doeUp h) = true := by simp [hh, hu]
    refine (show execCdatTableAccess h i s = _ from State.on_when ha guard).trans ?_
    by_cases hi : i < (s.stamped.cdatHeader h :: s.stamped.cdatEntries h).length
    · have next : i + 1 < (s.stamped.cdatHeader h :: s.stamped.cdatEntries h).length ↔ i < (s.stamped.cdatEntries h).length := by
        simp
      simp only [List.getElem?_eq_getElem hi, if_neg (Nat.not_le.mpr hi), next, List.getD_eq_getElem _ _ hi]
    · simp only [List.getElem?_eq_none (Nat.not_lt.mp hi), if_pos (Nat.not_lt.mp hi)]
  · refine (show execGetMeasurements h i s = _ from State.on_when ha hu).trans ?_
    have one : (if i = 0xFF then [1, 2, 3, 4, 5] else [i].filter (fun i => decide (1 ≤ i) && decide (i ≤ 5))) = [i] := by
      rw [if_neg (by omega)]
      simp [h1, h5]
    simp only [one, List.flatMap_singleton]
    rfl
  · refine (show execGetMeasurements h i s = _ from State.on_when ha hu).trans ?_
    have none : (if i = 0xFF then [1, 2, 3, 4, 5] else [i].filter (fun i => decide (1 ≤ i) && decide (i ≤ 5))) = [] := by
      rw [if_neg (by omega)]
      simp
      omega
    simp only [none]
    rfl
  · refine (show execSetCertificate h slot chain s = _ from State.on_when ha hu).trans ?_
    obtain ⟨rfl, session, fits⟩ := ok
    simp only [show s.stamped.session h = true from session, fits]
    rfl
  · refine (show execSetCertificate h slot chain s = _ from State.on_when ha hu).trans ?_
    have no : ¬ (slot = 1 && s.stamped.session h && doeFits h chain.length) = true := by
      rw [Bool.and_eq_true, Bool.and_eq_true, decide_eq_true_eq, and_assoc]
      exact bad
    simp only [if_neg no]
  · have effect : exec (.keyExchange h) s = .next { s with
        dev := ((s.stamped.drawFree 91).2.openSession h (s.stamped.drawFree 91).1).emit (.obj h 1 (Config.stdReply 0xE4 [] 0)) } :=
      show execKeyExchange h s = _ from State.on_when ha hu
    refine ⟨_, Config.stdReply 0xE4 [] 0, effect, Dev.session_openSession .., ?_, fun i hi _ => Dev.session_openSession_ne _ _ _ hi, ?_⟩
    · rw [show ∀ (d : Dev) o, (d.emit o).out = o :: d.out from fun _ _ => rfl, (Dev.openSession_frame ..).parts .out (by decide)]
      rfl
    · exact (.step (.step (.mono (Dev.drawFree_frame s.stamped 91)) (Dev.openSession_frame ..)) (Dev.emit_frame ..) :
        Dev.Frame _ _ [.mgt, .heads, .out, .freeCtr] []).changesOnly
  · obtain ⟨own, other, out, only⟩ := s.stamped.setStream_spec h io
      { (s.dev.head h).ide io with keys := ((s.dev.head h).ide io).keys.put (2 * set + dir) key }
    refine ⟨_, show execKeyProg h io set dir key s = _ from (State.on_ideKm io ha hh hu hs).trans ?_, ?_, ?_, ?_, other, out, only⟩
    · simp only [if_pos h2, hd, hk]
      rfl
    · rw [own]
      exact AMap.find_put ..
    · rw [own]
    · rw [own]
  · obtain ⟨own, other, out, only⟩ := s.stamped.setStream_spec h io
      { (s.dev.head h).ide io with active := some set, secure := true }
    refine ⟨_, show execKSetGo h io set s = _ from (State.on_ideKm io ha hh hu hs).trans ?_, own, other, out, only⟩
    simp only [if_pos h2, k0, k1]
    rfl
  · refine show execKSetGo h io set s = _ from (State.on_ideKm io ha hh hu hs).trans ?_
    have missing : ¬ (((s.dev.head h).ide io).keys.has (2 * set) && ((s.dev.head h).ide io).keys.has (2 * set + 1)) = true := by
      rcases hk with k | k <;> simp [k]
    simp only [if_pos h2, if_neg missing]
  · let i := (s.dev.head h).ide io
    obtain ⟨own, -, out, only⟩ := s.stamped.setStream_spec h io
      (if i.active = some set then { keys := i.keys.keep (fun k _ => k / 2 ≠ set), active := none, secure := false }
        else { i with keys := i.keys.keep (fun k _ => k / 2 ≠ set) })
    refine ⟨_, show execKSetStop h io set s = _ from (State.on_ideKm io ha hh hu hs).trans ?_, fun k hk => ?_, fun act => ?_,
      fun act => ?_, out, only⟩
    · simp only [if_pos h2]
      rfl
    · rw [own]
      have gone : (i.keys.keep (fun k _ => k / 2 ≠ set)).find k = none := AMap.find_keep_none _ _ _ fun _ => by simp [hk]
      split <;> exact gone
    · rw [own, if_pos act]
      exact ⟨rfl, rfl⟩
    · rw [own, if_neg act]
      exact ⟨rfl, rfl⟩
  · have guard : (decide (h < s.stamped.headCount) && s.stamped.flag .GLB_HEAD_LINK_CXL h) = true :=
      Bool.and_eq_true_iff.mpr ⟨decide_eq_true hh, hc⟩
    exact show execGpfPhase1 h s = _ from State.on_to ha (if_pos guard)
  · have guard : (decide (h < s.stamped.headCount) && s.stamped.flag .GLB_HEAD_LINK_CXL h) = true :=
      Bool.and_eq_true_iff.mpr ⟨decide_eq_true hh, hc⟩
    exact show execGpfPhase2 h s = _ from State.on_to ha (if_pos guard)
  · exact show execGetMctpVersionSupport s = _ from State.on_to ha rfl
  · refine ⟨_, leBytes 1 0 ++ leBytes 1 (s.stamped.drawFree 383).1 ++ zeros 2, show execGetEndpointId s = _ from State.on_to ha rfl, rfl, rfl, ?_⟩
    exact (.step (.mono (Dev.drawFree_frame s.stamped 383)) (Dev.emit_frame ..) : Dev.Frame _ _ [.out, .freeCtr] []).changesOnly

end Sys2Proof.Machine
end

section
/-!
O20: event notifications, the snapshots of the performance counters, and what arrives on the filtered inputs.
-/
-- Checked one after another: side by side, each waiting for the kernel, the proofs need more threads than the memory admits.
set_option Elab.async false
namespace Sys2Proof.Machine

/-! ## Writing several instances of a field -/

section
variable {α : Type} (f : Fld) (ix val : α → Nat)

/-- An index that no element of the list names reads as before. -/
theorem Dev.reg_each_setReg_ne {n : Nat} (l : List α) (d : Dev) (h : ∀ a ∈ l, ix a ≠ n) :
    (d.each l (fun d a => d.setReg f (ix a) (val a))).reg f n = d.reg f n := by
  induction l generalizing d with
  | nil => rfl
  | cons a l ih =>
    exact (ih (d.setReg f (ix a) (val a)) fun b hb => h b (List.mem_cons_of_mem _ hb)).trans
      (d.reg_setReg_ne _ (.inr (h a List.mem_cons_self)))

/-- An index that is written with one value alone reads that value. -/
theorem Dev.reg_each_setReg {n w : Nat} (l : List α) (d : Dev) (h : ∃ a ∈ l, ix a = n) (hw : ∀ a ∈ l, ix a = n → val a = w) :
    (d.each l (fun d a => d.setReg f (ix a) (val a))).reg f n = w % 2 ^ f.info.width := by
  induction l generalizing d with
  | nil => simp at h
  | cons a l ih =>
    by_cases later : ∃ b ∈ l, ix b = n
    · exact ih (d.setReg f (ix a) (val a)) later fun b hb => hw b (List.mem_cons_of_mem _ hb)
    · have here : ix a = n := by
        obtain ⟨b, hb, e⟩ := h
        rcases List.mem_cons.mp hb with rfl | hb
        · exact e
        · exact absurd ⟨b, hb, e⟩ later
      refine (Dev.reg_each_setReg_ne f ix val l (d.setReg f (ix a) (val a)) fun b hb e => later ⟨b, hb, e⟩).trans ?_
      rw [here, Dev.reg_setReg, hw a List.mem_cons_self here]

end

/-! ## Snapshots of the counters (R420, R423) -/

/-- The device when the counters of group `g` have been captured. -/
def Dev.captured (d : Dev) (g : Nat) : Dev :=
  { d with pmc := { d.pmc with
      lastBoundary := d.pmc.lastBoundary.put g d.now
      pend := d.pmc.pend ++ [⟨g, d.now, (groupCounters g).map d.counterAt⟩] } }

/-- What the items of the present stamp have added to a counter. -/
def Dev.sinceBoundary (d : Dev) (n : Nat) : Nat := (d.reg .PMC_CTRn_COUNT n + 2 ^ 48 - d.counterAt n) % 2 ^ 48

/-- The device when the counters of group `g` have been captured and restart from the items of the new interval. -/
def Dev.restarted (d : Dev) (g : Nat) : Dev :=
  Dev.each { d.captured g with pmc := { (d.captured g).pmc with fresh := d.pmc.fresh.keep (fun n _ => n / 16 ≠ g) } }
    ((groupCounters g).map fun n => (n, d.sinceBoundary n)) fun d e => d.setReg .PMC_CTRn_COUNT e.1 e.2

theorem Dev.captured_frame (d : Dev) (g : Nat) : d.Frame (d.captured g) [.pmc, .regs] [.PMC_CTRn_COUNT] := .update (.refl d)

theorem Dev.restarted_frame (d : Dev) (g : Nat) : d.Frame (d.restarted g) [.pmc, .regs] [.PMC_CTRn_COUNT] :=
  .thenEach (.update (d.captured_frame g)) fun _ _ => .mono (Dev.setReg_frame ..)

theorem Dev.restarted_pend (d : Dev) (g : Nat) : (d.restarted g).pmc.pend = (d.captured g).pmc.pend := by
  have written := fun d : Dev => Dev.Frame.each ((groupCounters g).map fun n => (n, d.sinceBoundary n))
    (fun d (e : Nat × Nat) => d.setReg_frame .PMC_CTRn_COUNT e.1 e.2)
  rw [Dev.restarted, (written d _).parts .pmc (by decide)]

theorem Dev.restarted_counter (d : Dev) (g : Nat) {n : Nat} (hn : n ∈ groupCounters g) :
    (d.restarted g).reg .PMC_CTRn_COUNT n = d.sinceBoundary n := by
  have width : (Fld.info .PMC_CTRn_COUNT).width = 48 := rfl
  have fits : d.sinceBoundary n % 2 ^ 48 = d.sinceBoundary n := Nat.mod_mod ..
  have read := Dev.reg_each_setReg .PMC_CTRn_COUNT (fun e : Nat × Nat => e.1) (fun e => e.2) (n := n) (w := d.sinceBoundary n)
    ((groupCounters g).map fun n => (n, d.sinceBoundary n))
    { d.captured g with pmc := { (d.captured g).pmc with fresh := d.pmc.fresh.keep (fun n _ => n / 16 ≠ g) } }
    ⟨_, List.mem_map_of_mem hn, rfl⟩ fun a ha e => by
      obtain ⟨m, -, rfl⟩ := List.mem_map.mp ha
      exact congrArg d.sinceBoundary e
  rw [width, fits] at read
  exact read

/-- A snapshot that is published: the values land in the group's registers, which are the newest that the group shows. -/
def Dev.publish (d : Dev) (g : Nat) (p : PmcPend) : Dev :=
  (Dev.each { d with pmc := { d.pmc with pend := d.pmc.pend.filter (fun q => q ≠ p), shown := d.pmc.shown.put g p.boundary } }
    (List.range 16) fun d c => d.setReg .PMC_SNAPn_COUNT (16 * g + c) (p.values.getD c 0)).countWrap .PMC_GRPg_CTL_SNAP_SEQ g

theorem Dev.publish_spec (d : Dev) (g : Nat) (p : PmcPend) : p ∉ (d.publish g p).pmc.pend ∧
    (∀ c < 16, (d.publish g p).reg .PMC_SNAPn_COUNT (16 * g + c) = p.values.getD c 0 % 2 ^ (Fld.info .PMC_SNAPn_COUNT).width) ∧
    (d.publish g p).reg .PMC_GRPg_CTL_SNAP_SEQ g =
      (d.reg .PMC_GRPg_CTL_SNAP_SEQ g + 1) % 2 ^ (Fld.info .PMC_GRPg_CTL_SNAP_SEQ).width ∧
    d.Frame (d.publish g p) [.pmc, .regs] [.PMC_SNAPn_COUNT, .PMC_GRPg_CTL_SNAP_SEQ] := by
  obtain ⟨x, hx⟩ : ∃ x : Dev, x = { d with pmc := { d.pmc with
    pend := d.pmc.pend.filter (fun q => q ≠ p), shown := d.pmc.shown.put g p.boundary } } := ⟨_, rfl⟩
  obtain ⟨y, hy⟩ : ∃ y : Dev, y = x.each (List.range 16) fun d c => d.setReg .PMC_SNAPn_COUNT (16 * g + c) (p.values.getD c 0) :=
    ⟨_, rfl⟩
  have run : d.publish g p = y.countWrap .PMC_GRPg_CTL_SNAP_SEQ g := by subst hy hx; rfl
  have taken : d.Frame x [.pmc] [] := hx ▸ .update (.refl d)
  have shown : x.Frame y [.regs] [.PMC_SNAPn_COUNT] := hy ▸ .each _ (fun _ _ => Dev.setReg_frame ..) x
  have counted := y.countWrap_frame .PMC_GRPg_CTL_SNAP_SEQ g 1
  rw [run]
  refine ⟨?_, fun c hc => ?_, ?_, .step (.step (.mono taken) shown) counted⟩
  · rw [counted.parts .pmc (by decide), shown.parts .pmc (by decide), hx]
    simp
  · rw [counted.reg .PMC_SNAPn_COUNT _, hy]
    refine Dev.reg_each_setReg .PMC_SNAPn_COUNT (16 * g + ·) (p.values.getD · 0) _ x ⟨c, List.mem_range.mpr hc, rfl⟩ fun a _ e => ?_
    exact congrArg (p.values.getD · 0) (Nat.add_left_cancel e)
  · refine (Dev.reg_setReg ..).trans ?_
    rw [shown.reg .PMC_GRPg_CTL_SNAP_SEQ g, taken.reg .PMC_GRPg_CTL_SNAP_SEQ g]

/-- Settles O20. The device holds no message in progress on I3C, so that a stuck clock leaves it as it is: the model's
simplification of R461. -/
theorem eventAndCounterCommandsTakeEffect : Obligations.EventAndCounterCommandsTakeEffect := by
  refine ⟨fun s r rest ha hq => ?_, fun s g ha hg hi ht hb => ?_, fun s g p ha hp ht => ?_, fun s p ha hp => ?_,
    fun s ha hm => ?_, fun s ha => ?_⟩
  · refine ⟨Dev.emit { s.stamped with evt := { s.dev.evt with mctpQ := rest } } (.mctp r),
      show execMctpNotificationSent s = _ from State.on_to ha ?_, rfl, rfl,
      (.step (.update (.refl _)) (Dev.emit_frame ..) : Dev.Frame _ _ [.evt, .out] []).changesOnly⟩
    simp only [hq]
  · have guard : (decide (g < 32) && decide (0 < s.stamped.reg .PMC_GRPg_CTL_INTERVAL_US g * 1000) &&
        s.stamped.now % (s.stamped.reg .PMC_GRPg_CTL_INTERVAL_US g * 1000) = 0 &&
        s.stamped.pmc.lastBoundary.find g ≠ some s.stamped.now) = true := by
      have pos : 0 < s.stamped.reg .PMC_GRPg_CTL_INTERVAL_US g * 1000 := by
        have : s.stamped.reg .PMC_GRPg_CTL_INTERVAL_US g ≠ 0 := hi
        omega
      have now : s.stamped.now % (s.stamped.reg .PMC_GRPg_CTL_INTERVAL_US g * 1000) = 0 := ht
      have new : s.stamped.pmc.lastBoundary.find g ≠ some s.stamped.now := hb
      rw [decide_eq_true hg, decide_eq_true pos, decide_eq_true now, decide_eq_true new]
      rfl
    have run : exec (.pmcIntervalBoundary g) s = .next { s with
        dev := if s.dev.flag .PMC_GRPg_CTL_CLEAR_ON_SNAP g then s.stamped.restarted g else s.stamped.captured g } :=
      show execPmcIntervalBoundary g s = _ from State.on_when ha guard
    by_cases clear : s.dev.flag .PMC_GRPg_CTL_CLEAR_ON_SNAP g = true
    · rw [if_pos clear] at run
      refine ⟨_, run, Dev.restarted_pend .., fun n hn => ?_, (Dev.restarted_frame ..).changesOnly,
        (Dev.restarted_frame s.stamped g).fieldsOnly⟩
      rw [if_pos clear]
      exact Dev.restarted_counter _ _ hn
    · rw [if_neg clear] at run
      refine ⟨_, run, rfl, fun n hn => ?_, (Dev.captured_frame ..).changesOnly, (Dev.captured_frame s.stamped g).fieldsOnly⟩
      rw [if_neg clear]
      exact Dev.reg_congr rfl rfl _ _
  · obtain ⟨gone, values, seq, frame⟩ := s.stamped.publish_spec g p
    refine ⟨s.stamped.publish g p, show execPmcSnapshotPublish g s = _ from State.on_to ha ?_, gone, values, seq,
      frame.changesOnly, frame.fieldsOnly⟩
    simp only [hp]
    exact if_pos (decide_eq_true ht)
  · have raises : ∀ src i, (s.stamped.raise src i).reg .EVT_CFGn_COUNT src = satAdd _ (s.dev.reg .EVT_CFGn_COUNT src) 1 :=
      fun src i => s.stamped.raise_counted src i
    have event : ∀ src i, s.stamped.Frame (s.stamped.raise src i) [.evt, .out, .regs] (.THM_EXT_GLITCH :: .PWR_MPGg_CNT_GLITCH :: evtFields) :=
      fun src i => .mono (Dev.raise_frame ..)
    have count : ∀ f i, f ∈ [Fld.THM_EXT_GLITCH, .PWR_MPGg_CNT_GLITCH] →
        s.stamped.Frame (s.stamped.count f i) [.evt, .out, .regs] (.THM_EXT_GLITCH :: .PWR_MPGg_CNT_GLITCH :: evtFields) :=
      fun f i hf => .mono (Dev.count_frame ..) (by decide) fun g hg => by
        rw [List.mem_singleton.mp hg]
        exact (by decide : [Fld.THM_EXT_GLITCH, .PWR_MPGg_CNT_GLITCH] ⊆ .THM_EXT_GLITCH :: .PWR_MPGg_CNT_GLITCH :: evtFields) hf
    have run : exec (.inputGlitch p) s = execInputGlitch p s := rfl
    rw [run]
    cases p with
    | perst1N =>
      exact ⟨_, State.on_to ha (if_pos (hp rfl)), raises .., (event ..).changesOnly, (event 97 _).fieldsOnly⟩
    | throtN =>
      exact ⟨_, State.on_aon ha _, s.stamped.count_counted .., (count _ _ (by decide)).changesOnly, (count .THM_EXT_GLITCH 0 (by decide)).fieldsOnly⟩
    | mpgood g =>
      exact ⟨_, State.on_aon ha _, s.stamped.count_counted .., (count _ _ (by decide)).changesOnly, (count .PWR_MPGg_CNT_GLITCH g (by decide)).fieldsOnly⟩
    | pwrfailN => exact ⟨_, State.on_aon ha _, raises .., (event ..).changesOnly, (event 16 _).fieldsOnly⟩
    | resetN => exact ⟨_, State.on_aon ha _, raises .., (event ..).changesOnly, (event 17 _).fieldsOnly⟩
    | vhold => exact ⟨_, State.on_aon ha _, raises .., (event ..).changesOnly, (event 18 _).fieldsOnly⟩
    | perst0N => exact ⟨_, State.on_aon ha _, raises .., (event ..).changesOnly, (event 96 _).fieldsOnly⟩
  · exact show execInputGlitch .perst1N s = _ from State.on_to ha (if_neg (by simp [hm]))
  · exact show execI3cSclStuck s = _ from State.on_aon ha _

end Sys2Proof.Machine
end

section
/-!
The frames of the operations: the parts of the device and the register fields that each of them may change, in the order in
which they build on each other.
-/
-- Checked one after another: side by side, each waiting for the kernel, the proofs need more threads than the memory admits.
set_option Elab.async false
namespace Sys2Proof.Machine

theorem Dev.setRead_frame (d : Dev) (n : Nat) (r : MRead) :
    d.Frame (d.setRead n r) [.med] [] := by
  unfold Dev.setRead
  exact .update (.refl _)

theorem Dev.setBlock_frame (d : Dev) (k : Nat) (b : Block) :
    d.Frame (d.setBlock k b) [.med] [] := by
  unfold Dev.setBlock
  exact .update (.refl _)

theorem Dev.countDie_frame (d : Dev) (band : Nat) (die : Nat) (n : Nat) :
    d.Frame (d.countDie band die n) [.med] [] := by
  unfold Dev.countDie
  split
  · exact .refl _
  · extract_lets +onlyGivenNames k x
    exact .step (.refl _) (Dev.setBlock_frame ..)

theorem Dev.readAgain_frame (d : Dev) (c : MCmd) :
    d.Frame (d.readAgain c) [.med] [] := by
  unfold Dev.readAgain
  split
  · split
    · exact .step (.step (.refl _) (Dev.setRead_frame ..)) (Dev.countDie_frame ..)
    · exact .refl _
  · exact .step (.refl _) (Dev.countDie_frame ..)
  · exact .refl _

theorem Dev.updateTherm_frame (d : Dev) :
    d.Frame d.updateTherm [.regs, .thm] [.THM_STATUS_THERM] := by
  unfold Dev.updateTherm
  extract_lets +onlyGivenNames valid hot cool low
  exact .step (.update (.refl _)) (Dev.setFlag_frame ..)

theorem Dev.mapTouch_frame (d : Dev) (page : Nat) (change : Bool) :
    d.Frame (d.mapTouch page change) [.med] [] := by
  unfold Dev.mapTouch
  extract_lets +onlyGivenNames x x
  exact .update (.refl _)

theorem Dev.pdDown_frame (d : Dev) (nn : Nat) :
    d.Frame (d.pdDown nn) [.regs, .ust, .evt, .jrn, .out] (evtFields.append [.PWR_PD_ON]) := by
  unfold Dev.pdDown
  extract_lets +onlyGivenNames d
  refine .use d ?_ fun h => ?_
  · unfold d
    exact .step (.refl _) (Dev.setFieldBit_frame ..)
  · refine .ite (fun _ => ?_) fun _ => h
    exact .thenEach (h) fun d a => .ite (fun _ => .refl _) fun _ => .step (.refl _) (Dev.setUnit_frame ..)

theorem Dev.setDie_frame (d : Dev) (n : Nat) (x : Die) :
    d.Frame (d.setDie n x) [.med] [] := by
  unfold Dev.setDie
  exact .update (.refl _)

theorem Dev.sendCmd_frame (d : Dev) (op : Nat) (die : Nat) (use : CmdUse) (refs : Nat) :
    d.Frame (d.sendCmd op die use refs) [.med] [] := by
  unfold Dev.sendCmd
  split
  · exact .refl _
  · extract_lets +onlyGivenNames x opid d
    refine .use d ?_ fun h => ?_
    · unfold d
      exact .step (.refl _) (Dev.setDie_frame ..)
    · exact .update (h)

theorem Dev.sendRead_frame (d : Dev) (die : Nat) (q : QRead) :
    d.Frame (d.sendRead die q) [.med] [] := by
  unfold Dev.sendRead
  extract_lets +onlyGivenNames x d
  refine .use d ?_ fun h => ?_
  · unfold d
    exact .step (.refl _) (Dev.setDie_frame ..)
  · split
    · split
      · exact .step h (Dev.sendCmd_frame ..)
      · extract_lets +onlyGivenNames band before refs _ d
        refine .use d ?_ fun h => ?_
        · unfold d
          exact .ite (fun _ => h) fun _ => .update (h)
        · exact .step (.step (h) (Dev.countDie_frame ..)) (Dev.sendCmd_frame ..)
    · exact .step (.step (h) (Dev.countDie_frame ..)) (Dev.sendCmd_frame ..)
    · exact .step h (Dev.sendCmd_frame ..)

theorem Dev.resumeDie_frame (d : Dev) (die : Nat) :
    d.Frame (d.resumeDie die) [.med] [] := by
  unfold Dev.resumeDie
  extract_lets +onlyGivenNames x
  split
  · exact .refl _
  · split
    · exact .refl _
    · exact .step (.step (.refl _) (Dev.setDie_frame ..)) (Dev.sendCmd_frame ..)

theorem Dev.kick_frame (d : Dev) (die : Nat) :
    d.Frame (d.kick die) [.med] [] := by
  unfold Dev.kick
  extract_lets +onlyGivenNames x
  refine .ite (fun _ => .refl _) fun _ => ?_
  extract_lets +onlyGivenNames ok
  split
  · exact .step (.refl _) (Dev.sendRead_frame ..)
  · exact .ite (fun _ => .step (.refl _) (Dev.resumeDie_frame ..)) fun _ => .refl _

theorem Dev.wearDebit_frame (d : Dev) (bytes : Nat) :
    d.Frame (d.wearDebit bytes) [.regs, .evt, .med, .out] (evtFields.append [.GLB_WEAR_STAT_DEBT]) := by
  unfold Dev.wearDebit
  extract_lets +onlyGivenNames c _ d
  refine .use d ?_ fun h => ?_
  · unfold d
    exact .update (.refl _)
  · exact .ite (fun _ => .step (.step (h) (Dev.setFlag_frame ..)) (Dev.raise_frame ..)) fun _ => h

theorem Dev.startProg_frame (d : Dev) (p : ProgReq) :
    d.Frame (d.startProg p) [.regs, .evt, .med, .out] (evtFields.append [.GLB_WEAR_STAT_DEBT]) := by
  unfold Dev.startProg
  extract_lets +onlyGivenNames d
  refine .use d ?_ fun h => ?_
  · unfold d
    exact .ite (fun _ => .step (.refl _) (Dev.wearDebit_frame ..)) fun _ => .refl _
  · extract_lets +onlyGivenNames x w add g _ _ _ d
    refine .use d ?_ fun h => ?_
    · unfold d
      exact .update (h)
    · extract_lets +onlyGivenNames d
      refine .use d ?_ fun h => ?_
      · unfold d
        exact .step h (Dev.sendCmd_frame ..)
      · extract_lets +onlyGivenNames y
        exact .ite (fun _ => .step (h) (Dev.setDie_frame ..)) fun _ => .step (h) (Dev.setDie_frame ..)

theorem Dev.startProgs_frame (d : Dev) :
    d.Frame d.startProgs [.regs, .evt, .med, .out] (evtFields.append [.GLB_WEAR_STAT_DEBT]) := by
  unfold Dev.startProgs
  extract_lets +onlyGivenNames cap hot ps host before after ps
  refine .thenEach (.refl _) fun d a => ?_
  exact .ite (fun _ => .step (.refl _) (Dev.startProg_frame ..)) fun _ => .refl _

theorem Dev.goOn_frame (d : Dev) (die : Nat) :
    d.Frame (d.goOn die) [.regs, .evt, .med, .out] (evtFields.append [.GLB_WEAR_STAT_DEBT]) := by
  unfold Dev.goOn
  exact .step (.step (.step (.refl _) (Dev.kick_frame ..)) (Dev.startProgs_frame ..)) (Dev.kick_frame ..)

theorem Dev.pmcCount_frame (d : Dev) (n : Nat) (amount : Nat) :
    d.Frame (d.pmcCount n amount) [.regs, .evt, .pmc, .out, .freeCtr] (evtFields.append [.PMC_SNAPn_COUNT,
        .PMC_CTRn_COUNT]) := by
  unfold Dev.pmcCount
  extract_lets +onlyGivenNames g old _ d
  refine .use d ?_ fun h => ?_
  · unfold d
    exact .update (.refl _)
  · extract_lets +onlyGivenNames _ d
    refine .use d ?_ fun h => ?_
    · unfold d
      exact .ite (fun _ => .thenEach (h) fun d a => .step (.refl _) (Dev.setReg_frame ..)) fun _ => h
    · exact .ite (fun _ => h) fun _ => .step (h) (Dev.pmcAdd_frame ..)

theorem Dev.perf_frame (d : Dev) (code : Nat) (unit : Nat) (cls : Nat) (amount : Nat) :
    d.Frame (d.perf code unit cls amount) [.regs, .evt, .pmc, .out, .freeCtr] (evtFields.append [.PMC_SNAPn_COUNT,
        .PMC_CTRn_COUNT]) := by
  unfold Dev.perf
  refine .thenEach (.refl _) fun d a => ?_
  refine .thenEach (.refl _) fun d a => ?_
  exact .ite (fun _ => .step (.refl _) (Dev.pmcCount_frame ..)) fun _ => .refl _

theorem Dev.account_frame (d : Dev) (k : Nat) (r : Req) (cause : Nat) :
    d.Frame (d.account k r cause) [.regs, .evt, .pmc, .out, .freeCtr] (evtFields.append [.PMC_SNAPn_COUNT,
        .PMC_CTRn_COUNT, .GLB_LAT_MISSc_COUNT, .GLB_LAT_WORST_LATE_NS, .GLB_LAT_WORST_CAUSE]) := by
  unfold Dev.account
  extract_lets +onlyGivenNames d
  refine .use d ?_ fun h => ?_
  · unfold d
    exact .step (.refl _) (Dev.perf_frame ..)
  · refine .ite (fun _ => h) fun _ => ?_
    extract_lets +onlyGivenNames c late d
    refine .use d ?_ fun h => ?_
    · unfold d
      exact .step h (Dev.count_frame ..)
    · extract_lets +onlyGivenNames d
      refine .use d ?_ fun h => ?_
      · unfold d
        exact .ite (fun _ => .step (.step (h) (Dev.setReg_frame ..)) (Dev.setReg_frame ..)) fun _ => h
      · extract_lets +onlyGivenNames w
        exact .ite (fun _ => .step (.update (h)) (Dev.raise_frame ..)) fun _ => h

theorem Dev.pickStacks_frame (d : Dev) (n : Nat) :
    d.Frame (d.pickStacks n).2 [.freeCtr] [] := by
  unfold Dev.pickStacks
  dsimp only
  split
  · dsimp only
    exact .refl _
  · split
    · dsimp only
      exact .step (.refl _) (Dev.drawFree_frame ..)
    · dsimp only
      exact .step (.step (.refl _) (Dev.drawFree_frame ..)) (Dev.drawFree_frame ..)

theorem Dev.setPage_frame (d : Dev) (pid : Nat) (p : TPage) :
    d.Frame (d.setPage pid p) [.tier] [] := by
  unfold Dev.setPage
  exact .update (.refl _)

theorem Dev.abandonStep_frame (d : Dev) (n : Nat) :
    d.Frame (d.abandonStep n) [.regs, .evt, .cry, .out] (evtFields.append [.CRY_RHs_CNT_ABANDONS]) := by
  unfold Dev.abandonStep
  split
  · exact .refl _
  · split
    · exact .refl _
    · refine .ite (fun _ => .refl _) fun _ => ?_
      extract_lets +onlyGivenNames retry w _ d
      refine .use d ?_ fun h => ?_
      · unfold d
        exact .step (.update (.refl _)) (Dev.count_frame ..)
      · exact .ite (fun _ => .step (h) (Dev.raise_frame ..)) fun _ => h

theorem Dev.abandonSteps_frame (d : Dev) (p : Sweep → Bool) :
    d.Frame (d.abandonSteps p) [.regs, .evt, .cry, .out] (evtFields.append [.CRY_RHs_CNT_ABANDONS]) := by
  unfold Dev.abandonSteps
  exact .thenEach (.refl _) fun d a => .step (.refl _) (Dev.abandonStep_frame ..)

theorem Dev.setOrc_frame (d : Dev) (o : OrcS) :
    d.Frame (d.setOrc o) [.cry] [] := by
  unfold Dev.setOrc
  exact .update (.refl _)

theorem Dev.orcUse_frame (d : Dev) (k : Nat) :
    d.Frame (d.orcUse k) [.cry] [] := by
  unfold Dev.orcUse
  split
  · exact .step (.refl _) (Dev.setOrc_frame ..)
  · exact .refl _

theorem Dev.queueRead_frame (d : Dev) (die : Nat) (use : CmdUse) (rank : Nat) (deadline : Nat) :
    d.Frame (d.queueRead die use rank deadline) [.med] [] := by
  unfold Dev.queueRead
  extract_lets +onlyGivenNames x d
  refine .use d ?_ fun h => ?_
  · unfold d
    exact .step (.refl _) (Dev.setDie_frame ..)
  · exact .update (h)

theorem Dev.suspendDie_frame (d : Dev) (die : Nat) (thru : Bool) :
    d.Frame (d.suspendDie die thru) [.regs, .evt, .pmc, .med, .out,
        .freeCtr] (evtFields.append [.MCX_SCHED_CNT0_SUSPENDS, .PMC_SNAPn_COUNT, .PMC_CTRn_COUNT]) := by
  unfold Dev.suspendDie
  extract_lets +onlyGivenNames x
  split
  · exact .refl _
  · refine .ite (fun _ => .refl _) fun _ => ?_
    extract_lets +onlyGivenNames d
    refine .use d ?_ fun h => ?_
    · unfold d
      exact .step (.refl _) (Dev.setDie_frame ..)
    · extract_lets +onlyGivenNames d
      refine .use d ?_ fun h => ?_
      · unfold d
        exact .step h (Dev.sendCmd_frame ..)
      · split
        · exact .step (.step (h) (Dev.count_frame ..)) (Dev.perf_frame ..)
        · exact h

theorem Dev.startAround_frame (d : Dev) (n : Nat) (r : MRead) :
    d.Frame (d.startAround n r) [.regs, .evt, .pmc, .med, .out,
        .freeCtr] (evtFields.append [.MCX_SCHED_CNT0_SUSPENDS, .PMC_SNAPn_COUNT, .PMC_CTRn_COUNT,
        .MCX_SCHED_CNT0_READAROUND]) := by
  unfold Dev.startAround
  split
  · exact .step (.refl _) (Dev.setRead_frame ..)
  · extract_lets +onlyGivenNames only ms
    refine .ite (fun _ => .step (.refl _) (Dev.setRead_frame ..)) fun _ => ?_
    extract_lets +onlyGivenNames d
    refine .use d ?_ fun h => ?_
    · unfold d
      exact .step (.refl _) (Dev.setRead_frame ..)
    · extract_lets +onlyGivenNames d
      refine .use d ?_ fun h => ?_
      · unfold d
        refine .thenEach (h) fun d a => ?_
        extract_lets +onlyGivenNames d
        refine .use d ?_ fun h => ?_
        · unfold d
          exact .step (.refl _) (Dev.queueRead_frame ..)
        · extract_lets +onlyGivenNames d
          refine .use d ?_ fun h => ?_
          · unfold d
            exact .ite (fun _ => .step (h) (Dev.suspendDie_frame ..)) fun _ => h
          · exact .step h (Dev.kick_frame ..)
      · exact .step (.step (h) (Dev.count_frame ..)) (Dev.perf_frame ..)

theorem Dev.putRead_frame (d : Dev) (die : Nat) (use : CmdUse) (rank : Nat) (deadline : Nat) :
    d.Frame (d.putRead die use rank deadline) [.med] [] := by
  unfold Dev.putRead
  exact .step (.step (.refl _) (Dev.queueRead_frame ..)) (Dev.kick_frame ..)

theorem Dev.startRead_frame (d : Dev) (n : Nat) (r : MRead) :
    d.Frame (d.startRead n r) [.regs, .evt, .pmc, .med, .out, .freeCtr] (evtFields.append [.MCX_SCHED_CNT0_SUSPENDS,
        .PMC_SNAPn_COUNT, .PMC_CTRn_COUNT, .MCX_SCHED_CNT0_READAROUND]) := by
  unfold Dev.startRead
  extract_lets +onlyGivenNames d
  refine .use d ?_ fun h => ?_
  · unfold d
    exact .step (.refl _) (Dev.setRead_frame ..)
  · split
    · exact .step h (Dev.startAround_frame ..)
    · exact .step (.step (.step (h) (Dev.queueRead_frame ..)) (Dev.suspendDie_frame ..)) (Dev.kick_frame ..)
    · exact .step h (Dev.putRead_frame ..)

theorem Dev.decideRead_frame (d : Dev) (n : Nat) (r : MRead) :
    d.Frame (d.decideRead n r) [.regs, .evt, .pmc, .med, .out,
        .freeCtr] (evtFields.append [.MCX_SCHED_CNT1_SUS_EXHAUST, .MCX_SCHED_CNT0_SUSPENDS, .PMC_SNAPn_COUNT,
        .PMC_CTRn_COUNT, .MCX_SCHED_CNT0_READAROUND]) := by
  unfold Dev.decideRead
  split
  · exact .step (.refl _) (Dev.setRead_frame ..)
  · split
    · extract_lets +onlyGivenNames susMax exhausted d
      refine .use d ?_ fun h => ?_
      · unfold d
        exact .ite (fun _ => .step (.refl _) (Dev.count_frame ..)) fun _ => .refl _
      · exact .step h (Dev.startRead_frame ..)

theorem Dev.putMedia_frame (d : Dev) (r : MRead) :
    d.Frame (d.putMedia r) [.regs, .evt, .pmc, .med, .out, .freeCtr] (evtFields.append [.PMC_SNAPn_COUNT,
        .PMC_CTRn_COUNT, .MCX_SCHED_CNT1_SUS_EXHAUST, .MCX_SCHED_CNT0_SUSPENDS, .MCX_SCHED_CNT0_READAROUND]) := by
  unfold Dev.putMedia
  extract_lets +onlyGivenNames n _ d
  refine .use d ?_ fun h => ?_
  · unfold d
    exact .update (.refl _)
  · refine .thenCausedBy (h) fun d => ?_
    extract_lets +onlyGivenNames d
    refine .use d ?_ fun h => ?_
    · unfold d
      exact .step (.refl _) (Dev.perf_frame ..)
    · exact .ite (fun _ => .step (h) (Dev.decideRead_frame ..)) fun _ => .step (h) (Dev.startRead_frame ..)

theorem Dev.fetch_frame (d : Dev) (r : MRead) (key : Nat) (loc : Nat) (grain : Nat) (goal : Option Nat) (again :
    Bool) :
    d.Frame (d.fetch r key loc grain goal again) [.regs, .evt, .pmc, .med, .out,
        .freeCtr] (evtFields.append [.PMC_SNAPn_COUNT, .PMC_CTRn_COUNT, .MCX_SCHED_CNT1_SUS_EXHAUST,
        .MCX_SCHED_CNT0_SUSPENDS, .MCX_SCHED_CNT0_READAROUND]) := by
  unfold Dev.fetch
  split
  · exact .refl _
  · exact .step (.refl _) (Dev.putMedia_frame ..)

theorem Dev.fetchChain_frame (d : Dev) (r : MRead) (lpn : Nat) :
    d.Frame (d.fetchChain r lpn).2 [.regs, .evt, .pmc, .med, .cry, .out,
        .freeCtr] (evtFields.append [.ORC_CACHE_HITS, .PMC_SNAPn_COUNT, .PMC_CTRn_COUNT,
        .MCX_SCHED_CNT1_SUS_EXHAUST, .MCX_SCHED_CNT0_SUSPENDS, .MCX_SCHED_CNT0_READAROUND]) := by
  unfold Dev.fetchChain
  dsimp only
  refine .thenEach (.step (.step (.refl _) (Dev.count_frame ..)) (Dev.orcUse_frame ..)) fun d a => ?_
  split
  · exact .step (.refl _) (Dev.fetch_frame ..)
  · exact .refl _

theorem Dev.issueRead_frame (d : Dev) (slice : Nat) (entry : Nat) (e : Nat) (lpn : Nat) (g : Nat) (deadline : Nat)
    (epoch : Nat) (spec : Bool) :
    d.Frame (d.issueRead slice entry e lpn g deadline epoch spec) [.regs, .evt, .pmc, .med, .cry, .out,
        .freeCtr] (evtFields.append [.ORC_CACHE_HITS, .PMC_SNAPn_COUNT, .PMC_CTRn_COUNT,
        .MCX_SCHED_CNT1_SUS_EXHAUST, .MCX_SCHED_CNT0_SUSPENDS, .MCX_SCHED_CNT0_READAROUND]) := by
  unfold Dev.issueRead
  split
  · exact .refl _
  · refine .ite (fun _ => .refl _) fun _ => ?_
    extract_lets +onlyGivenNames idle late r
    split
    · rename_i x0 x1 x2 hx
      refine .of_pair hx ?_ fun h => ?_
      · split
        · exact .step (.refl _) (Dev.fetchChain_frame ..)
        · dsimp only
          exact .refl _
      · exact .step h (Dev.putMedia_frame ..)

theorem Dev.internalReads_frame (d : Dev) (pid : Nat) (subs : List Nat) :
    d.Frame (d.internalReads pid subs) [.regs, .evt, .pmc, .med, .cry, .out,
        .freeCtr] (evtFields.append [.ORC_CACHE_HITS, .PMC_SNAPn_COUNT, .PMC_CTRn_COUNT,
        .MCX_SCHED_CNT1_SUS_EXHAUST, .MCX_SCHED_CNT0_SUSPENDS, .MCX_SCHED_CNT0_READAROUND]) := by
  unfold Dev.internalReads
  extract_lets +onlyGivenNames gs
  refine .ite (fun _ => ?_) fun _ => .refl _
  exact .thenEach (.refl _) fun d a => .step (.refl _) (Dev.issueRead_frame ..)

theorem Dev.storedForm_frame (d : Dev) (g : RegionRec) (off : Nat) :
    d.Frame (d.storedForm g off).2 [.freeCtr] [] := by
  unfold Dev.storedForm
  dsimp only
  split
  · dsimp only
    exact .refl _
  · exact .step (.refl _) (Dev.drawFreeLine_frame ..)

theorem Dev.lineVal_frame (d : Dev) (pid : Nat) (sub : Nat) (ki : Nat) :
    d.Frame (d.lineVal pid sub ki).2 [.regs, .evt, .out, .freeCtr] (evtFields.append [.CRY_ERR0_SECOND_KEY,
        .ORC_UNVER_LINES]) := by
  unfold Dev.lineVal
  split
  · dsimp only
    exact .refl _
  · split
    · split
      · split
        · dsimp only
          exact .refl _
        · dsimp only
          exact .refl _
      · dsimp only
        exact .refl _
    · dsimp only
      split
      · dsimp only
        exact .step (.refl _) (Dev.drawFreeLine_frame ..)
      · split
        · dsimp only
          exact .refl _
        · split
          · dsimp only
            exact .refl _
          · split
            · dsimp only
              exact .ite (fun _ => .step (.refl _) (Dev.count_frame ..)) fun _ => .refl _
            · split
              · split
                · dsimp only
                  exact .step (.refl _) (Dev.count_frame ..)
                · dsimp only
                  exact .step (.step (.step (.refl _) (Dev.count_frame ..)) (Dev.count_frame ..)) (Dev.raise_frame ..)
              · split
                · dsimp only
                  exact .refl _
                · dsimp only
                  exact .step (.step (.refl _) (Dev.count_frame ..)) (Dev.raise_frame ..)

theorem Dev.readLine_frame (d : Dev) (g : RegionRec) (off : Nat) (ki : Nat) :
    d.Frame (d.readLine g off ki).2 [.regs, .evt, .out, .freeCtr] (evtFields.append [.CRY_ERR0_SECOND_KEY,
        .ORC_UNVER_LINES]) := by
  unfold Dev.readLine
  split
  · dsimp only
    exact .refl _
  · exact .step (.refl _) (Dev.lineVal_frame ..)

theorem Dev.setMap_frame (d : Dev) (lpn : Nat) (e : Nat) (ver : Nat) :
    d.Frame (d.setMap lpn e ver) [.jrn, .med] [] := by
  unfold Dev.setMap
  extract_lets +onlyGivenNames old m _ d
  refine .use d ?_ fun h => ?_
  · unfold d
    exact .update (.refl _)
  · exact .step (.step (h) (Dev.mapTouch_frame ..)) (Dev.journal_frame ..)

theorem Dev.forgetPage_frame (d : Dev) (pid : Nat) :
    d.Frame (d.forgetPage pid) [.jrn, .tier, .poison, .med, .per] [] := by
  unfold Dev.forgetPage
  extract_lets +onlyGivenNames d
  refine .use d ?_ fun h => ?_
  · unfold d
    exact .ite (fun _ => .step (.refl _) (Dev.setMap_frame ..)) fun _ => .refl _
  · exact .update (h)

theorem Dev.splitPoison_frame (d : Dev) (pid : Nat) :
    d.Frame (d.splitPoison pid) [.poison] [] := by
  unfold Dev.splitPoison
  exact .ite (fun _ => .update (.refl _)) fun _ => .refl _

theorem Dev.orcEnter_frame (d : Dev) (k : Nat) :
    d.Frame (d.orcEnter k) [.cry] [] := by
  unfold Dev.orcEnter
  split
  · exact .refl _
  · exact .step (.refl _) (Dev.setOrc_frame ..)

theorem Dev.orcMark_frame (d : Dev) (k : Nat) (slots : List Nat) :
    d.Frame (d.orcMark k slots) [.cry] [] := by
  unfold Dev.orcMark
  extract_lets +onlyGivenNames x adv
  exact .step (.thenEach (.refl _) fun d a => .step (.refl _) (Dev.orcEnter_frame ..)) (Dev.setOrc_frame ..)

theorem Dev.movePage_frame (d : Dev) (src : Nat) (dst : Nat) :
    d.Frame (d.movePage src dst) [.jrn, .tier, .poison, .med, .per, .cry] [] := by
  unfold Dev.movePage
  extract_lets +onlyGivenNames d
  refine .use d ?_ fun h => ?_
  · unfold d
    exact .step (.step (.refl _) (Dev.forgetPage_frame ..)) (Dev.splitPoison_frame ..)
  · extract_lets +onlyGivenNames e d
    refine .use d ?_ fun h => ?_
    · unfold d
      exact .step (.step (h) (Dev.mapTouch_frame ..)) (Dev.mapTouch_frame ..)
    · extract_lets +onlyGivenNames d
      refine .use d ?_ fun h => ?_
      · unfold d
        exact .ite (fun _ => .step (.step (h) (Dev.orcMark_frame ..)) (Dev.orcMark_frame ..)) fun _ => h
      · extract_lets +onlyGivenNames m m _ _ _ d
        refine .use d ?_ fun h => ?_
        · unfold d
          exact .update (h)
        · exact .step h (Dev.journal_frame ..)

theorem Dev.setShadow_frame (d : Dev) (n : Nat) (s : ShadowS) :
    d.Frame (d.setShadow n s) [.shadow] [] := by
  unfold Dev.setShadow
  exact .update (.refl _)

theorem Dev.fold_frame (d : Dev) (r : RegionRec) :
    d.Frame (d.fold r) [.jrn, .tier, .poison, .med, .shadow, .per, .cry] [] := by
  unfold Dev.fold
  extract_lets +onlyGivenNames s d
  refine .use d ?_ fun h => ?_
  · unfold d
    exact .thenEach (.refl _) fun d a => .step (.refl _) (Dev.movePage_frame ..)
  · exact .step h (Dev.setShadow_frame ..)

theorem Dev.releaseDropped_frame (d : Dev) (n : Nat) :
    d.Frame (d.releaseDropped n) [.jrn, .tier, .poison, .med, .shadow, .per] [] := by
  unfold Dev.releaseDropped
  extract_lets +onlyGivenNames s
  split
  · refine .ite (fun _ => .refl _) fun _ => ?_
    extract_lets +onlyGivenNames d
    refine .use d ?_ fun h => ?_
    · unfold d
      exact .thenEach (.refl _) fun d a => .step (.refl _) (Dev.forgetPage_frame ..)
    · exact .step h (Dev.setShadow_frame ..)
  · exact .refl _

theorem Dev.unpoison_frame (d : Dev) (pid : Nat) (sub : Nat) :
    d.Frame (d.unpoison pid sub) [.jrn, .poison] [] := by
  unfold Dev.unpoison
  extract_lets +onlyGivenNames d
  refine .use d ?_ fun h => ?_
  · unfold d
    exact .step (.refl _) (Dev.splitPoison_frame ..)
  · exact .ite (fun _ => .step (.update (h)) (Dev.journal_frame ..)) fun _ => h

theorem Dev.setPdeg_frame (d : Dev) (cause : Nat) (on : Bool) :
    d.Frame (d.setPdeg cause on) [.regs, .evt, .out] (evtFields.append [.DRT_PDEG_CAUSE, .DRT_PDEG_ACTIVE,
        .GLB_STATUS_PDEG]) := by
  unfold Dev.setPdeg
  extract_lets +onlyGivenNames old new
  refine .ite (fun _ => .refl _) fun _ => ?_
  extract_lets +onlyGivenNames d
  refine .use d ?_ fun h => ?_
  · unfold d
    exact .step (.step (.refl _) (Dev.setReg_frame ..)) (Dev.setFlag_frame ..)
  · extract_lets +onlyGivenNames d
    refine .use d ?_ fun h => ?_
    · unfold d
      exact .step h (Dev.setFlag_frame ..)
    · exact .step h (Dev.raise_frame ..)

theorem Dev.notePoison_frame (d : Dev) :
    d.Frame d.notePoison [.poison] [] := by
  unfold Dev.notePoison
  exact .ite (fun _ => .update (.refl _)) fun _ => .refl _

theorem Dev.dropLine_frame (d : Dev) (dpa : Nat) :
    d.Frame (d.dropLine dpa) [.slices] [] := by
  unfold Dev.dropLine
  extract_lets +onlyGivenNames a sub
  exact .update (.refl _)

theorem Dev.poisonLine_frame (d : Dev) (pid : Nat) (sub : Nat) (src : Nat) :
    d.Frame (d.poisonLine pid sub src) [.jrn, .slices, .tier, .poison] [] := by
  unfold Dev.poisonLine
  extract_lets +onlyGivenNames d
  refine .use d ?_ fun h => ?_
  · unfold d
    exact .step (.refl _) (Dev.splitPoison_frame ..)
  · extract_lets +onlyGivenNames _ d
    refine .use d ?_ fun h => ?_
    · unfold d
      exact .step (.update (h)) (Dev.notePoison_frame ..)
    · extract_lets +onlyGivenNames d
      refine .use d ?_ fun h => ?_
      · unfold d
        exact .update (h)
      · extract_lets +onlyGivenNames d
        refine .use d ?_ fun h => ?_
        · unfold d
          split
          · exact .step h (Dev.dropLine_frame ..)
          · exact h
        · exact .step h (Dev.journal_frame ..)

theorem Dev.through_frame (d : Dev) (lpn : Nat) (sub : Nat) (version : Nat) (c : Cell) :
    d.Frame (d.through lpn sub version c) [.regs, .per] [.JRN_THRU_LINES] := by
  unfold Dev.through
  extract_lets +onlyGivenNames cur s
  split
  · extract_lets +onlyGivenNames rec' _ d
    refine .use d ?_ fun h => ?_
    · unfold d
      exact .update (.refl _)
    · extract_lets +onlyGivenNames s _ d
      refine .use d ?_ fun h => ?_
      · unfold d
        exact .update (h)
      · exact .step h (Dev.count_frame ..)

/-- The copies that a page already has, or new ones. -/
theorem Dev.copiesOr_frame (d : Dev) (c : Prop) [Decidable c] (l : List Nat) (n : Nat) :
    d.Frame (if c then (l, d) else d.pickStacks n).2 [.freeCtr] [] := by
  split
  · exact .refl d
  · exact d.pickStacks_frame n

theorem Dev.storeCell_frame (d : Dev) (pid sub : Nat) (c : Cell) : d.Frame (d.storeCell pid sub c).2
    [.regs, .evt, .jrn, .slices, .tier, .poison, .per, .out, .freeCtr]
    (evtFields.append [.DRT_PDEG_CAUSE, .DRT_PDEG_ACTIVE, .GLB_STATUS_PDEG, .DRT_PDEG_LOST, .JRN_THRU_LINES]) := by
  unfold Dev.storeCell
  extract_lets +onlyGivenNames x p
  refine .use x (.mono (Dev.unpoison_frame ..)) fun h => ?_
  split
  · generalize hq : (if p.copies.isEmpty then x.pickStacks 1 else (p.copies, x)) = q
    obtain ⟨st, y⟩ := q
    refine .of_pair hq ?_ fun h => .step h (Dev.setPage_frame ..)
    split
    · exact .step h (Dev.pickStacks_frame ..)
    · exact h
  · extract_lets +onlyGivenNames want pair space thru y unpers limit adds
    refine .use y (.ite (fun _ => .step h (Dev.setPdeg_frame ..)) fun _ => .ite (fun _ => .step h (Dev.setPdeg_frame
        ..)) fun _ => h) fun h => ?_
    split
    · extract_lets +onlyGivenNames z
      exact .step (.step (.step h (Dev.count_frame ..)) (Dev.poisonLine_frame ..)) (Dev.raise_frame ..)
    · extract_lets +onlyGivenNames covered
      generalize hq : (if p.dirty && !p.copies.isEmpty then (p.copies, y) else y.pickStacks 2) = q
      obtain ⟨st, z⟩ := q
      refine .of_pair hq (.step h (Dev.copiesOr_frame ..)) fun h => ?_
      dsimp -zeta only
      extract_lets +onlyGivenNames mark w ver v per u
      refine .use w (.ite (fun _ => .step h (Dev.journal_frame ..)) fun _ => h) fun h => ?_
      refine .use u (.update (.step h (Dev.setPage_frame ..))) fun h => ?_
      split
      · exact .step h (Dev.through_frame ..)
      · exact h

theorem Dev.storePoison_frame (d : Dev) (pid : Nat) (sub : Nat) (src : Nat) :
    d.Frame (d.storePoison pid sub src).2 [.regs, .evt, .jrn, .slices, .tier, .poison, .per, .out,
        .freeCtr] (evtFields.append [.DRT_PDEG_CAUSE, .DRT_PDEG_ACTIVE, .GLB_STATUS_PDEG, .DRT_PDEG_LOST,
        .JRN_THRU_LINES]) := by
  unfold Dev.storePoison
  split
  · rename_i x0 x1 x2 hx
    refine .of_pair hx (.step (.refl _) (Dev.storeCell_frame ..)) fun h => ?_
    dsimp only
    exact .step h (Dev.poisonLine_frame ..)

theorem Dev.seal_frame (d : Dev) (data : Line) (ki : Nat) (region : Nat) (off : Nat) :
    d.Frame (d.seal data ki region off).2 [.freeCtr] [] := by
  unfold Dev.seal
  split
  · dsimp only
    exact .refl _
  · split
    · rename_i x0 x1 x2 hx
      refine .of_pair hx (.step (.refl _) (Dev.drawFree_frame ..)) fun h => ?_
      dsimp only
      exact h

theorem Dev.setSlice_frame (d : Dev) (k : Nat) (s : SliceS) :
    d.Frame (d.setSlice k s) [.slices] [] := by
  unfold Dev.setSlice
  exact .update (.refl _)

theorem Dev.writeCached_frame (d : Dev) (k : Nat) (region : Nat) (dpa : Nat) (ki : Nat) (full : Bool) (new : Option
    Line) :
    d.Frame (d.writeCached k region dpa ki full new) [.regs, .evt, .pmc, .slices, .out,
        .freeCtr] (evtFields.append [.PMC_SNAPn_COUNT, .PMC_CTRn_COUNT]) := by
  unfold Dev.writeCached
  extract_lets +onlyGivenNames s a sub d
  refine .use d ?_ fun h => ?_
  · unfold d
    exact .ite (fun _ => .step (.refl _) (Dev.perf_frame ..)) fun _ => .refl _
  · exact .step h (Dev.setSlice_frame ..)

theorem Dev.dropCached_frame (d : Dev) (p : Nat → Nat → Bool) :
    d.Frame (d.dropCached p) [.slices] [] := by
  unfold Dev.dropCached
  exact .update (.refl _)

theorem Dev.dropDelta_frame (d : Dev) (r : RegionRec) :
    d.Frame (d.dropDelta r) [.jrn, .slices, .tier, .poison, .med, .shadow, .per] [] := by
  unfold Dev.dropDelta
  extract_lets +onlyGivenNames d
  refine .use d ?_ fun h => ?_
  · unfold d
    exact .step (.refl _) (Dev.releaseDropped_frame ..)
  · extract_lets +onlyGivenNames s d
    refine .use d ?_ fun h => ?_
    · unfold d
      exact .thenEach (h) fun d a => .step (.refl _) (Dev.journal_frame ..)
    · extract_lets +onlyGivenNames d
      refine .use d ?_ fun h => ?_
      · unfold d
        exact .step h (Dev.dropCached_frame ..)
      · exact .step h (Dev.setShadow_frame ..)

theorem Dev.commitDelta_frame (d : Dev) (r : RegionRec) (stamp : Nat) :
    d.Frame (d.commitDelta r stamp) [.jrn, .slices, .tier, .poison, .med, .shadow, .per, .cry] [] := by
  unfold Dev.commitDelta
  extract_lets +onlyGivenNames d
  refine .use d ?_ fun h => ?_
  · unfold d
    exact .ite (fun _ => .refl _) fun _ => .step (.refl _) (Dev.fold_frame ..)
  · extract_lets +onlyGivenNames s d
    refine .use d ?_ fun h => ?_
    · unfold d
      exact .step h (Dev.setShadow_frame ..)
    · extract_lets +onlyGivenNames d
      refine .use d ?_ fun h => ?_
      · unfold d
        exact .step h (Dev.dropCached_frame ..)
      · exact .step h (Dev.journal_frame ..)

theorem Dev.shadowCommand_frame (d : Dev) (r : RegionRec) (op : Nat) (expected : Nat) (stamp : Nat) :
    d.Frame (d.shadowCommand r op expected stamp) [.regs, .jrn, .slices, .tier, .poison, .med, .shadow, .per,
        .cry] [.RGN_SHADOW_LAST_RESULT] := by
  unfold Dev.shadowCommand
  extract_lets +onlyGivenNames s n
  refine .ite (fun _ => .step (.refl _) (Dev.setReg_frame ..)) fun _ => ?_
  refine .ite (fun _ => ?_) fun _ => ?_
  · exact .step (.step (.refl _) (Dev.dropDelta_frame ..)) (Dev.setReg_frame ..)
  · refine .ite (fun _ => .step (.refl _) (Dev.setReg_frame ..)) fun _ => ?_
    refine .ite (fun _ => .step (.refl _) (Dev.setReg_frame ..)) fun _ => ?_
    exact .step (.step (.refl _) (Dev.commitDelta_frame ..)) (Dev.setReg_frame ..)

theorem Dev.commitDoorbell_frame (d : Dev) (r : RegionRec) (data : Line) (full : Bool) (poison : Bool) (stamp : Nat) :
    d.Frame (d.commitDoorbell r data full poison stamp) [.regs, .jrn, .slices, .tier, .poison, .med, .shadow, .per,
        .cry] [.RGN_SHADOW_LAST_RESULT] := by
  unfold Dev.commitDoorbell
  extract_lets +onlyGivenNames op reserved
  exact .ite (fun _ => .step (.refl _) (Dev.setReg_frame ..)) fun _ => .step (.refl _) (Dev.shadowCommand_frame ..)

theorem Dev.setQueue_frame (d : Dev) (q : Nat) (x : QDesc) :
    d.Frame (d.setQueue q x) [.qen] [] := by
  unfold Dev.setQueue
  exact .update (.refl _)

theorem Dev.qChanged_frame (d : Dev) (q : Nat) :
    d.Frame (d.qChanged q) [.qen] [] := by
  unfold Dev.qChanged
  exact .ite (fun _ => .update (.refl _)) fun _ => .refl _

theorem Dev.dropOpen_frame (d : Dev) (q : Nat) :
    d.Frame (d.dropOpen q) [.qen] [] := by
  unfold Dev.dropOpen
  extract_lets +onlyGivenNames x x
  exact .step (.step (.refl _) (Dev.setQueue_frame ..)) (Dev.qChanged_frame ..)

theorem Dev.strand_frame (d : Dev) (q : Nat) :
    d.Frame (d.strand q) [.regs] [.QEN_STRANDw_STRANDED] := by
  unfold Dev.strand
  exact .step (.refl _) (Dev.setFieldBit_frame ..)

theorem Dev.resetQueue_frame (d : Dev) (q : Nat) :
    d.Frame (d.resetQueue q) [.regs, .qen] [.QEN_STRANDw_STRANDED] := by
  unfold Dev.resetQueue
  extract_lets +onlyGivenNames d
  refine .use d ?_ fun h => ?_
  · unfold d
    exact .step (.refl _) (Dev.dropOpen_frame ..)
  · extract_lets +onlyGivenNames x
    exact .step (.step (.step (h) (Dev.setQueue_frame ..)) (Dev.strand_frame ..)) (Dev.qChanged_frame ..)

theorem Dev.checkPtr_frame (d : Dev) (q : Nat) (region : Nat) :
    d.Frame (d.checkPtr q region) [.regs, .evt, .qen, .out] (evtFields.append [.QEN_PTR_REPAIRED,
        .QEN_STRANDw_STRANDED, .QEN_PTR_PTR_RESETS]) := by
  unfold Dev.checkPtr
  split
  · exact .refl _
  · extract_lets +onlyGivenNames _ d
    refine .use d ?_ fun h => ?_
    · unfold d
      exact .update (.refl _)
    · refine .ite (fun _ => .step (h) (Dev.count_frame ..)) fun _ => ?_
      exact .step (.step (.step (h) (Dev.resetQueue_frame ..)) (Dev.count_frame ..)) (Dev.raise_frame ..)

theorem Dev.strayLine_frame (d : Dev) (q : Nat) (bad : Bool) :
    d.Frame (d.strayLine q bad) [.regs, .evt, .out] (evtFields.append [.QEN_MISC_BAD_LENGTH, .QEN_MISC_STRAY]) := by
  unfold Dev.strayLine
  extract_lets +onlyGivenNames d
  refine .use d ?_ fun h => ?_
  · unfold d
    exact .ite (fun _ => .step (.refl _) (Dev.count_frame ..)) fun _ => .step (.refl _) (Dev.count_frame ..)
  · exact .ite (fun _ => .step (h) (Dev.raise_frame ..)) fun _ => h

theorem Dev.reserveFrame_frame (d : Dev) (q : Nat) (len : Nat) :
    d.Frame (d.reserveFrame q len).2 [.regs, .qen] [.QEN_DROPr_COUNT] := by
  unfold Dev.reserveFrame
  dsimp only
  split
  · dsimp only
    exact .refl _
  · split
    · dsimp only
      exact .refl _
    · split
      · dsimp only
        exact .refl _
      · split
        · dsimp only
          exact .refl _
        · split
          · split
            · split
              · dsimp only
                refine .step ?_ (Dev.qChanged_frame ..)
                refine .ite (fun _ => .step (.refl _) (Dev.setQueue_frame ..)) fun _ => ?_
                exact .step (.step (.refl _) (Dev.setQueue_frame ..)) (Dev.countWrap_frame ..)
              · dsimp only
                exact .refl _
            · split
              · dsimp only
                refine .step ?_ (Dev.qChanged_frame ..)
                refine .ite (fun _ => .step (.refl _) (Dev.setQueue_frame ..)) fun _ => ?_
                exact .step (.step (.refl _) (Dev.setQueue_frame ..)) (Dev.countWrap_frame ..)
              · dsimp only
                exact .refl _
          · split
            · dsimp only
              exact .refl _
            · dsimp only
              exact .refl _

theorem Dev.dropFrame_frame (d : Dev) (q : Nat) (reason : Nat) (stamp : Nat) :
    d.Frame (d.dropFrame q reason stamp) [.regs, .evt, .pmc, .qen, .out,
        .freeCtr] (evtFields.append [.QEN_DROPr_COUNT, .PMC_SNAPn_COUNT, .PMC_CTRn_COUNT]) := by
  unfold Dev.dropFrame
  extract_lets +onlyGivenNames x d
  refine .use d ?_ fun h => ?_
  · unfold d
    exact .step (.refl _) (Dev.setQueue_frame ..)
  · extract_lets +onlyGivenNames d
    refine .use d ?_ fun h => ?_
    · unfold d
      exact .step (.step (h) (Dev.countWrap_frame ..)) (Dev.perf_frame ..)
    · extract_lets +onlyGivenNames w
      exact .ite (fun _ => .step (.update (h)) (Dev.raise_frame ..)) fun _ => h

theorem Dev.moveUnit_frame (d : Dev) (ix : Nat) (st : UState) (cause : Nat) (hw : Bool) :
    d.Frame (d.moveUnit ix st cause hw) [.regs, .ust, .evt, .jrn, .out] evtFields := by
  unfold Dev.moveUnit
  exact .ite (fun _ => .refl _) fun _ => .step (.refl _) (Dev.setUnit_frame ..)

theorem Dev.groupHealth_frame (d : Dev) (g : Nat) (foreign : Bool) :
    d.Frame (d.groupHealth g foreign) [.regs, .ust, .evt, .jrn, .out] evtFields := by
  unfold Dev.groupHealth
  refine .ite (fun _ => .refl _) fun _ => ?_
  exact .ite (fun _ => .step (.refl _) (Dev.moveUnit_frame ..)) fun _ => .step (.refl _) (Dev.moveUnit_frame ..)

theorem Dev.hostError_frame (d : Dev) (r : Req) :
    d.Frame (d.hostError r) [.regs, .evt, .out] (evtFields.append [.RGN_HOSTERR_COUNT]) := by
  unfold Dev.hostError
  extract_lets +onlyGivenNames d
  refine .use d ?_ fun h => ?_
  · unfold d
    exact .step (.refl _) (Dev.count_frame ..)
  · exact .ite (fun _ => .step (h) (Dev.raise_frame ..)) fun _ => h

theorem Dev.storeFrameLine_frame (d : Dev) (q : Nat) (f : OpenFrame) (k : Nat) (data : Line) (poison : Bool) :
    d.Frame (d.storeFrameLine q f k data poison).2.2 [.regs, .evt, .jrn, .slices, .tier, .poison, .per, .out,
        .freeCtr] (evtFields.append [.DRT_PDEG_CAUSE, .DRT_PDEG_ACTIVE, .GLB_STATUS_PDEG, .DRT_PDEG_LOST,
        .JRN_THRU_LINES]) := by
  unfold Dev.storeFrameLine
  split
  · rename_i x0 x1 x2 hx
    refine .of_pair hx (.step (.refl _) (Dev.seal_frame ..)) fun h => ?_
    split
    · split
      · split
        · split
          · rename_i x0 x1 x2 hx
            refine .of_pair hx (.step (h) (Dev.storePoison_frame ..)) fun h => ?_
            dsimp only
            exact h
        · split
          · rename_i x0 x1 x2 hx
            refine .of_pair hx (.step (h) (Dev.storeCell_frame ..)) fun h => ?_
            dsimp only
            exact h
      · dsimp only
        exact h
    · dsimp only
      exact h

theorem Dev.closeFrame_frame (d : Dev) (q : Nat) (f : OpenFrame) (stamp : Nat) (r : Option Req) :
    d.Frame (d.closeFrame q f stamp r).2 [.regs, .evt, .pmc, .jrn, .slices, .tier, .poison, .qen, .per, .out,
        .freeCtr] (evtFields.append [.RGN_HOSTERR_COUNT, .DRT_PDEG_CAUSE, .DRT_PDEG_ACTIVE, .GLB_STATUS_PDEG,
        .DRT_PDEG_LOST, .JRN_THRU_LINES, .PMC_SNAPn_COUNT, .PMC_CTRn_COUNT]) := by
  unfold Dev.closeFrame
  dsimp only
  refine .step ?_ (Dev.qChanged_frame ..)
  refine .step ?_ (Dev.perf_frame ..)
  refine .step ?_ (Dev.setQueue_frame ..)
  refine .step ?_ (Dev.storeFrameLine_frame ..)
  refine .ite (fun _ => ?_) fun _ => ?_
  · refine .thenEach ?_ fun d a => ?_
    · refine .ite (fun _ => .refl _) fun _ => ?_
      split
      · exact .refl _
      · exact .step (.refl _) (Dev.hostError_frame ..)
    · split
      · exact .step (.refl _) (Dev.storePoison_frame ..)
      · exact .refl _
  · refine .ite (fun _ => .refl _) fun _ => ?_
    split
    · exact .refl _
    · exact .step (.refl _) (Dev.hostError_frame ..)

theorem Dev.enqueueLine_frame (d : Dev) (q : Nat) (off : Nat) (data : Line) (poison : Bool) (r : Req) :
    d.Frame (d.enqueueLine q off data poison r).2 [.regs, .ust, .evt, .pmc, .jrn, .slices, .tier, .poison, .qen,
        .per, .out, .freeCtr] (evtFields.append [.QEN_MISC_BAD_LENGTH, .QEN_MISC_STRAY, .QEN_DROPr_COUNT,
        .PMC_SNAPn_COUNT, .PMC_CTRn_COUNT, .QEN_OPEN_HIGH, .RGN_HOSTERR_COUNT, .DRT_PDEG_CAUSE, .DRT_PDEG_ACTIVE,
        .GLB_STATUS_PDEG, .DRT_PDEG_LOST, .JRN_THRU_LINES]) := by
  unfold Dev.enqueueLine
  dsimp only
  split
  · split
    · dsimp only
      exact .step (.refl _) (Dev.strayLine_frame ..)
    · split
      · dsimp only
        exact .step (.refl _) (Dev.strayLine_frame ..)
      · split
        · rename_i x0 x1 x2 hx
          refine .of_pair hx (.step (.refl _) (Dev.reserveFrame_frame ..)) fun h => ?_
          dsimp only
          exact .step (.step (h) (Dev.dropFrame_frame ..)) (Dev.setQueue_frame ..)
        · rename_i x0 x1 x2 x3 hx
          refine .of_pair hx (.step (.refl _) (Dev.reserveFrame_frame ..)) fun h => ?_
          split
          · refine .step ?_ (Dev.closeFrame_frame ..)
            refine .ite (fun _ => .step (.step (h) (Dev.setQueue_frame ..)) (Dev.setReg_frame ..)) fun _ => ?_
            exact .step (.step (.step (h) (Dev.setQueue_frame ..)) (Dev.setReg_frame ..)) (Dev.groupHealth_frame ..)
          · split
            · split
              · split
                · dsimp only
                  exact .step (.step (.step (h) (Dev.setQueue_frame ..)) (Dev.setReg_frame ..))
                      (Dev.storeFrameLine_frame ..)
                · dsimp only
                  exact .step (.step (h) (Dev.setQueue_frame ..)) (Dev.setReg_frame ..)
              · split
                · dsimp only
                  exact .step (.step (.step (h) (Dev.setQueue_frame ..)) (Dev.setReg_frame ..))
                      (Dev.storeFrameLine_frame ..)
                · dsimp only
                  exact .step (.step (h) (Dev.setQueue_frame ..)) (Dev.setReg_frame ..)
            · split
              · split
                · dsimp only
                  refine .step ?_ (Dev.storeFrameLine_frame ..)
                  exact .step (.step (.step (h) (Dev.setQueue_frame ..)) (Dev.setReg_frame ..))
                      (Dev.groupHealth_frame ..)
                · dsimp only
                  exact .step (.step (.step (h) (Dev.setQueue_frame ..)) (Dev.setReg_frame ..))
                      (Dev.groupHealth_frame ..)
              · split
                · dsimp only
                  refine .step ?_ (Dev.storeFrameLine_frame ..)
                  exact .step (.step (.step (h) (Dev.setQueue_frame ..)) (Dev.setReg_frame ..))
                      (Dev.groupHealth_frame ..)
                · dsimp only
                  exact .step (.step (.step (h) (Dev.setQueue_frame ..)) (Dev.setReg_frame ..))
                      (Dev.groupHealth_frame ..)
  · split
    · dsimp only
      exact .step (.refl _) (Dev.strayLine_frame ..)
    · split
      · split
        · dsimp only
          refine .step ?_ (Dev.setQueue_frame ..)
          exact .step (.step (.refl _) (Dev.hostError_frame ..)) (Dev.drawFreeLine_frame ..)
        · split
          · dsimp only
            refine .step ?_ (Dev.closeFrame_frame ..)
            refine .step ?_ (Dev.storeFrameLine_frame ..)
            exact .step (.step (.refl _) (Dev.hostError_frame ..)) (Dev.drawFreeLine_frame ..)
          · dsimp only
            refine .step ?_ (Dev.setQueue_frame ..)
            refine .step ?_ (Dev.storeFrameLine_frame ..)
            exact .step (.step (.refl _) (Dev.hostError_frame ..)) (Dev.drawFreeLine_frame ..)
      · split
        · dsimp only
          exact .step (.step (.refl _) (Dev.storeFrameLine_frame ..)) (Dev.closeFrame_frame ..)
        · dsimp only
          exact .step (.step (.refl _) (Dev.storeFrameLine_frame ..)) (Dev.setQueue_frame ..)
  · split
    · dsimp only
      exact .step (.refl _) (Dev.setQueue_frame ..)
    · dsimp only
      exact .refl _

theorem Dev.dequeueLine_frame (d : Dev) (q : Nat) (off : Nat) :
    d.Frame (d.dequeueLine q off).2 [.regs, .evt, .pmc, .out, .freeCtr] (evtFields.append [.PMC_SNAPn_COUNT,
        .PMC_CTRn_COUNT, .CRY_ERR0_SECOND_KEY, .ORC_UNVER_LINES]) := by
  unfold Dev.dequeueLine
  dsimp only
  split
  · dsimp only
    exact .step (.refl _) (Dev.perf_frame ..)
  · split
    · dsimp only
      exact .step (.refl _) (Dev.perf_frame ..)
    · split
      · dsimp only
        exact .step (.refl _) (Dev.perf_frame ..)
      · split
        · split
          · exact .step (.step (.refl _) (Dev.perf_frame ..)) (Dev.lineVal_frame ..)
          · dsimp only
            exact .step (.refl _) (Dev.perf_frame ..)
        · split
          · dsimp only
            exact .step (.step (.refl _) (Dev.perf_frame ..)) (Dev.drawFreeLine_frame ..)
          · split
            · dsimp only
              exact .step (.refl _) (Dev.perf_frame ..)
            · split
              · dsimp only
                exact .step (.step (.refl _) (Dev.perf_frame ..)) (Dev.drawFreeLine_frame ..)
              · dsimp only
                exact .step (.refl _) (Dev.perf_frame ..)

theorem Dev.queueDoorbell_frame (d : Dev) (q : Nat) (data : Line) (full : Bool) (poison : Bool) (r : Req) :
    d.Frame (d.queueDoorbell q data full poison r) [.regs, .evt, .qen, .out] (evtFields.append [.RGN_HOSTERR_COUNT,
        .QEN_MISC_BAD_DOORBELL, .QEN_MISC_STALE_REL]) := by
  unfold Dev.queueDoorbell
  extract_lets +onlyGivenNames op count reserved d
  refine .use d ?_ fun h => ?_
  · unfold d
    exact .ite (fun _ => .step (.refl _) (Dev.hostError_frame ..)) fun _ => .refl _
  · refine .ite (fun _ => .step (h) (Dev.count_frame ..)) fun _ => ?_
    extract_lets +onlyGivenNames x
    refine .ite (fun _ => ?_) fun _ => ?_
    · refine .ite (fun _ => ?_) fun _ => .step (h) (Dev.count_frame ..)
      extract_lets +onlyGivenNames n fs pages
      exact .step (.step (h) (Dev.setQueue_frame ..)) (Dev.qChanged_frame ..)
    · split
      · exact h
      · exact .step h (Dev.dropOpen_frame ..)
      · exact .step h (Dev.setQueue_frame ..)

theorem Dev.macFailed_frame (d : Dev) (dpa : Nat) (ki : Nat) (region : Nat) :
    d.Frame (d.macFailed dpa ki region) [.regs, .evt, .out] (evtFields.append [.CRY_ERR0_MAC_FAIL]) := by
  unfold Dev.macFailed
  extract_lets +onlyGivenNames d
  refine .use d ?_ fun h => ?_
  · unfold d
    exact .step (.refl _) (Dev.count_frame ..)
  · exact .ite (fun _ => .step (h) (Dev.raise_frame ..)) fun _ => h

theorem Dev.hostEvent_frame (d : Dev) (src : Nat) (h : Nat) (tag : Nat) (dpa : Nat) (b : Nat) (heads : Nat) :
    d.Frame (d.hostEvent src h tag dpa b heads) [.regs, .evt, .out] evtFields := by
  unfold Dev.hostEvent
  exact .step (.refl _) (Dev.raise_frame ..)

theorem Dev.copyReads_frame (d : Dev) (before : AMap Nat) (n : Nat) :
    d.Frame (d.copyReads before n) [.regs, .evt, .pmc, .med, .cry, .out,
        .freeCtr] (evtFields.append [.ORC_CACHE_HITS, .PMC_SNAPn_COUNT, .PMC_CTRn_COUNT,
        .MCX_SCHED_CNT1_SUS_EXHAUST, .MCX_SCHED_CNT0_SUSPENDS, .MCX_SCHED_CNT0_READAROUND]) := by
  unfold Dev.copyReads
  split
  · extract_lets +onlyGivenNames new
    exact .thenEach (.refl _) fun d a => .step (.refl _) (Dev.internalReads_frame ..)
  · exact .refl _

theorem Dev.remirrorState_frame (d : Dev) (on : Bool) :
    d.Frame (d.remirrorState on) [.regs, .med] [.DRT_REMIRROR_ACTIVE] := by
  unfold Dev.remirrorState
  extract_lets +onlyGivenNames owed
  exact .step (.update (.refl _)) (Dev.setFlag_frame ..)

theorem Dev.setBand_frame (d : Dev) (b : Nat) (x : Band) :
    d.Frame (d.setBand b x) [.med] [] := by
  unfold Dev.setBand
  exact .update (.refl _)

theorem Dev.closeBand_frame (d : Dev) (b : Nat) (st : BandState) :
    d.Frame (d.closeBand b st) [.jrn, .med] [] := by
  unfold Dev.closeBand
  split
  · exact .refl _
  · extract_lets +onlyGivenNames d
    refine .use d ?_ fun h => ?_
    · unfold d
      exact .step (.refl _) (Dev.setBand_frame ..)
    · extract_lets +onlyGivenNames _ d
      refine .use d ?_ fun h => ?_
      · unfold d
        exact .update (h)
      · extract_lets +onlyGivenNames d
        refine .use d ?_ fun h => ?_
        · unfold d
          refine .thenEach (h) fun d a => ?_
          extract_lets +onlyGivenNames y
          exact .ite (fun _ => .step (.refl _) (Dev.setBlock_frame ..)) fun _ => .refl _
        · exact .step h (Dev.journal_frame ..)

theorem Dev.abandonRow_frame (d : Dev) (r : RowFill) (pos : Option Nat) :
    d.Frame (d.abandonRow r pos) [.regs, .evt, .jrn, .med, .out] (evtFields.append [.DRT_CULLET_CNT_ABANDONED,
        .DRT_CULLET_CNT_TGT_RETIRED, .GLB_WEAR_STAT_DEBT]) := by
  unfold Dev.abandonRow
  split
  · exact .refl _
  · extract_lets +onlyGivenNames d
    refine .use d ?_ fun h => ?_
    · unfold d
      exact .step (.refl _) (Dev.count_frame ..)
    · extract_lets +onlyGivenNames d
      refine .use d ?_ fun h => ?_
      · unfold d
        exact .ite (fun _ => .step (h) (Dev.count_frame ..)) fun _ => h
      · extract_lets +onlyGivenNames d
        refine .use d ?_ fun h => ?_
        · unfold d
          split
          · extract_lets +onlyGivenNames k
            exact .step h (Dev.setBlock_frame ..)
          · assumption
        · exact .step (.step (h) (Dev.closeBand_frame ..)) (Dev.startProgs_frame ..)

theorem Dev.readSource_frame (d : Dev) (p : RowPage) (band : Nat) (row : Nat) :
    d.Frame (d.readSource p band row) [.regs, .evt, .pmc, .med, .cry, .out,
        .freeCtr] (evtFields.append [.ORC_CACHE_HITS, .PMC_SNAPn_COUNT, .PMC_CTRn_COUNT,
        .MCX_SCHED_CNT1_SUS_EXHAUST, .MCX_SCHED_CNT0_SUSPENDS, .MCX_SCHED_CNT0_READAROUND]) := by
  unfold Dev.readSource
  exact .thenEach (.refl _) fun d a => .step (.refl _) (Dev.issueRead_frame ..)

theorem Dev.readLeaf_frame (d : Dev) (p : RowPage) (band : Nat) (row : Nat) :
    d.Frame (d.readLeaf p band row) [.regs, .evt, .pmc, .med, .cry, .out,
        .freeCtr] (evtFields.append [.ORC_CACHE_HITS, .PMC_SNAPn_COUNT, .PMC_CTRn_COUNT,
        .MCX_SCHED_CNT1_SUS_EXHAUST, .MCX_SCHED_CNT0_SUSPENDS, .MCX_SCHED_CNT0_READAROUND]) := by
  unfold Dev.readLeaf
  extract_lets +onlyGivenNames keeps d
  refine .use d ?_ fun h => ?_
  · unfold d
    exact .thenEach (.refl _) fun d a => .step (.refl _) (Dev.issueRead_frame ..)
  · exact .step h (Dev.fetchChain_frame ..)

theorem Dev.programRow_frame (d : Dev) (r : RowFill) :
    d.Frame (d.programRow r) [.regs, .evt, .med, .out] (evtFields.append [.GLB_WEAR_STAT_DEBT]) := by
  unfold Dev.programRow
  split
  · exact .refl _
  · extract_lets +onlyGivenNames d
    refine .use d ?_ fun h => ?_
    · unfold d
      exact .ite (fun _ => .step (.refl _) (Dev.setBand_frame ..)) fun _ => .refl _
    · extract_lets +onlyGivenNames dur rebuild ps
      exact .step (.update (h)) (Dev.startProgs_frame ..)

theorem Dev.retireBlock_frame (d : Dev) (k : Nat) :
    d.Frame (d.retireBlock k) [.regs, .evt, .med, .out] evtFields := by
  unfold Dev.retireBlock
  extract_lets +onlyGivenNames x die
  exact .step (.step (.refl _) (Dev.setBlock_frame ..)) (Dev.raise_frame ..)

theorem Dev.clearOne_frame (d : Dev) (die : Nat) :
    d.Frame (d.clearOne die) [.regs, .evt, .med, .out, .freeCtr] (evtFields.append [.GLB_WEAR_STAT_DEBT]) := by
  unfold Dev.clearOne
  split
  · exact .refl _
  · split
    · rename_i x0 x1 x2 hx
      refine .of_pair hx (.step (.refl _) (Dev.drawFree_frame ..)) fun h => ?_
      extract_lets +onlyGivenNames k
      refine .ite (fun _ => .step (h) (Dev.retireBlock_frame ..)) fun _ => ?_
      extract_lets +onlyGivenNames _ d
      refine .use d ?_ fun h => ?_
      · unfold d
        exact .step h (Dev.setBlock_frame ..)
      · extract_lets +onlyGivenNames p
        exact .step (.update (h)) (Dev.startProgs_frame ..)

theorem Dev.makeReady_frame (d : Dev) (die : Nat) :
    d.Frame (d.makeReady die) [.regs, .evt, .med, .out, .freeCtr] (evtFields.append [.GLB_WEAR_STAT_DEBT]) := by
  unfold Dev.makeReady
  exact .ite (fun _ => .refl _) fun _ => .step (.refl _) (Dev.clearOne_frame ..)

theorem Dev.openBand_frame (d : Dev) (stream : Nat) :
    d.Frame (d.openBand stream).2 [.regs, .evt, .jrn, .med, .out,
        .freeCtr] (evtFields.append [.GLB_WEAR_STAT_DEBT]) := by
  unfold Dev.openBand
  split
  · dsimp only
    exact .refl _
  · split
    · dsimp only
      exact .thenEach (.refl _) fun d a => .step (.refl _) (Dev.makeReady_frame ..)
    · dsimp only
      split
      · dsimp only
        exact .refl _
      · dsimp only
        refine .step ?_ (Dev.journal_frame ..)
        exact .thenEach (.update (.refl _)) fun d a => .step (.refl _) (Dev.setBlock_frame ..)

theorem Dev.addToRow_frame (d : Dev) (stream : Nat) (p : RowPage) (avoid : Option Nat) :
    d.Frame (d.addToRow stream p avoid).2 [.regs, .evt, .pmc, .jrn, .med, .cry, .out,
        .freeCtr] (evtFields.append [.ORC_CACHE_HITS, .PMC_SNAPn_COUNT, .PMC_CTRn_COUNT,
        .MCX_SCHED_CNT1_SUS_EXHAUST, .MCX_SCHED_CNT0_SUSPENDS, .MCX_SCHED_CNT0_READAROUND, .GLB_WEAR_STAT_DEBT]) := by
  unfold Dev.addToRow
  dsimp only
  split
  · dsimp only
    refine .ite (fun _ => ?_) fun _ => ?_
    · refine .step ?_ (Dev.programRow_frame ..)
      refine .ite (fun _ => .step (.update (.refl _)) (Dev.readSource_frame ..)) fun _ => ?_
      exact .ite (fun _ => .step (.update (.refl _)) (Dev.readLeaf_frame ..)) fun _ => .update (.refl _)
    · refine .ite (fun _ => .step (.update (.refl _)) (Dev.readSource_frame ..)) fun _ => ?_
      exact .ite (fun _ => .step (.update (.refl _)) (Dev.readLeaf_frame ..)) fun _ => .update (.refl _)
  · split
    · dsimp only
      refine .ite (fun _ => ?_) fun _ => ?_
      · refine .step ?_ (Dev.programRow_frame ..)
        refine .ite (fun _ => .step (.update (.refl _)) (Dev.readSource_frame ..)) fun _ => ?_
        exact .ite (fun _ => .step (.update (.refl _)) (Dev.readLeaf_frame ..)) fun _ => .update (.refl _)
      · refine .ite (fun _ => .step (.update (.refl _)) (Dev.readSource_frame ..)) fun _ => ?_
        exact .ite (fun _ => .step (.update (.refl _)) (Dev.readLeaf_frame ..)) fun _ => .update (.refl _)
    · split
      · dsimp only
        exact .refl _
      · split
        · rename_i x0 x1 hx
          refine .of_pair hx (.step (.refl _) (Dev.openBand_frame ..)) fun h => ?_
          dsimp only
          exact h
        · rename_i x0 x1 x2 hx
          refine .of_pair hx (.step (.refl _) (Dev.openBand_frame ..)) fun h => ?_
          dsimp only
          refine .ite (fun _ => ?_) fun _ => ?_
          · refine .step ?_ (Dev.programRow_frame ..)
            refine .ite (fun _ => .step (.update (h)) (Dev.readSource_frame ..)) fun _ => ?_
            exact .ite (fun _ => .step (.update (h)) (Dev.readLeaf_frame ..)) fun _ => .update (h)
          · refine .ite (fun _ => .step (.update (h)) (Dev.readSource_frame ..)) fun _ => ?_
            exact .ite (fun _ => .step (.update (h)) (Dev.readLeaf_frame ..)) fun _ => .update (h)

theorem Dev.addMeta_frame (d : Dev) (key : Nat) (version : Nat) (entries : List (Nat × OrcStored)) (avoid : Option
    Nat) :
    d.Frame (d.addMeta key version entries avoid).2 [.regs, .evt, .pmc, .jrn, .med, .cry, .out,
        .freeCtr] (evtFields.append [.ORC_CACHE_HITS, .PMC_SNAPn_COUNT, .PMC_CTRn_COUNT,
        .MCX_SCHED_CNT1_SUS_EXHAUST, .MCX_SCHED_CNT0_SUSPENDS, .MCX_SCHED_CNT0_READAROUND, .GLB_WEAR_STAT_DEBT]) := by
  unfold Dev.addMeta
  exact .step (.refl _) (Dev.addToRow_frame ..)

theorem Dev.orcAgain_frame (d : Dev) (k : Nat) :
    d.Frame (d.orcAgain k) [.cry] [] := by
  unfold Dev.orcAgain
  exact .step (.thenEach (.refl _) fun d a => .step (.refl _) (Dev.orcEnter_frame ..)) (Dev.setOrc_frame ..)

theorem Dev.metaAgain_frame (d : Dev) (p : RowPage) :
    d.Frame (d.metaAgain p) [.med, .cry] [] := by
  unfold Dev.metaAgain
  extract_lets +onlyGivenNames d
  refine .use d ?_ fun h => ?_
  · unfold d
    exact .thenEach (.refl _) fun d a => .step (.refl _) (Dev.orcAgain_frame ..)
  · exact .ite (fun _ => .update (h)) fun _ => h

theorem Dev.writeBack_frame (d : Dev) (pid : Nat) :
    d.Frame (d.writeBack pid) [.regs, .evt, .pmc, .jrn, .tier, .med, .cry, .out,
        .freeCtr] (evtFields.append [.ORC_CACHE_HITS, .PMC_SNAPn_COUNT, .PMC_CTRn_COUNT,
        .MCX_SCHED_CNT1_SUS_EXHAUST, .MCX_SCHED_CNT0_SUSPENDS, .MCX_SCHED_CNT0_READAROUND, .GLB_WEAR_STAT_DEBT,
        .DRT_TWIN_STAGING, .DRT_PDEG_CAUSE, .DRT_PDEG_ACTIVE, .GLB_STATUS_PDEG]) := by
  unfold Dev.writeBack
  extract_lets +onlyGivenNames p
  refine .ite (fun _ => .refl _) fun _ => ?_
  extract_lets +onlyGivenNames rp
  split
  · rename_i x0 x1 hx
    refine .of_pair hx (.step (.refl _) (Dev.addToRow_frame ..)) fun h => ?_
    exact h
  · rename_i x0 x1 hx
    refine .of_pair hx (.step (.refl _) (Dev.addToRow_frame ..)) fun h => ?_
    refine .ite (fun _ => ?_) fun _ => ?_
    · split
      · rename_i x0 x1 hx
        refine .of_pair hx (.step (h) (Dev.addToRow_frame ..)) fun h => ?_
        exact .step h (Dev.setFlag_frame ..)
      · rename_i x0 x1 hx
        refine .of_pair hx (.step (h) (Dev.addToRow_frame ..)) fun h => ?_
        exact .ite (fun _ => .step (.step (h) (Dev.setPdeg_frame ..)) (Dev.setPage_frame ..)) fun _ => h
    · exact .ite (fun _ => .step (.step (h) (Dev.setPdeg_frame ..)) (Dev.setPage_frame ..)) fun _ => h

theorem Dev.copyPage_frame (d : Dev) (lpn : Nat) (src : Nat) (stream : Nat) :
    d.Frame (d.copyPage lpn src stream) [.regs, .evt, .pmc, .jrn, .med, .cry, .out,
        .freeCtr] (evtFields.append [.ORC_CACHE_HITS, .PMC_SNAPn_COUNT, .PMC_CTRn_COUNT,
        .MCX_SCHED_CNT1_SUS_EXHAUST, .MCX_SCHED_CNT0_SUSPENDS, .MCX_SCHED_CNT0_READAROUND, .GLB_WEAR_STAT_DEBT,
        .DRT_PDEG_CAUSE, .DRT_PDEG_ACTIVE, .GLB_STATUS_PDEG]) := by
  unfold Dev.copyPage
  refine .ite (fun _ => .refl _) fun _ => ?_
  extract_lets +onlyGivenNames lines
  split
  · rename_i x0 x1 hx
    refine .of_pair hx (.step (.refl _) (Dev.addToRow_frame ..)) fun h => ?_
    exact h
  · rename_i x0 x1 hx
    refine .of_pair hx (.step (.refl _) (Dev.addToRow_frame ..)) fun h => ?_
    exact .ite (fun _ => .step (h) (Dev.addToRow_frame ..)) fun _ => .ite (fun _ => .step (h) (Dev.setPdeg_frame
        ..)) fun _ => h

theorem Dev.rejoin_frame (d : Dev) (rows : List RowFill) :
    d.Frame (d.rejoin rows) [.regs, .evt, .pmc, .jrn, .tier, .med, .cry, .out,
        .freeCtr] (evtFields.append [.ORC_CACHE_HITS, .PMC_SNAPn_COUNT, .PMC_CTRn_COUNT,
        .MCX_SCHED_CNT1_SUS_EXHAUST, .MCX_SCHED_CNT0_SUSPENDS, .MCX_SCHED_CNT0_READAROUND, .GLB_WEAR_STAT_DEBT,
        .DRT_TWIN_STAGING, .DRT_PDEG_CAUSE, .DRT_PDEG_ACTIVE, .GLB_STATUS_PDEG]) := by
  unfold Dev.rejoin
  refine .thenEach (.refl _) fun d a => ?_
  extract_lets +onlyGivenNames stream
  refine .thenEach (.refl _) fun d a => ?_
  refine .ite (fun _ => ?_) fun _ => ?_
  · split
    · rename_i x0 x1 hx
      refine .of_pair hx (.step (.refl _) (Dev.addMeta_frame ..)) fun h => ?_
      exact h
    · rename_i x0 x1 hx
      refine .of_pair hx (.step (.refl _) (Dev.addMeta_frame ..)) fun h => ?_
      exact .step h (Dev.metaAgain_frame ..)
  · exact .ite (fun _ => .step (.refl _) (Dev.writeBack_frame ..)) fun _ => .step (.refl _) (Dev.copyPage_frame ..)

theorem Dev.replayOps_frame (d : Dev) (n : Nat) :
    d.Frame (d.replayOps n) [.regs, .evt, .pmc, .jrn, .tier, .med, .cry, .out,
        .freeCtr] (evtFields.append [.DRT_CULLET_CNT_ABANDONED, .DRT_CULLET_CNT_TGT_RETIRED, .GLB_WEAR_STAT_DEBT,
        .ORC_CACHE_HITS, .PMC_SNAPn_COUNT, .PMC_CTRn_COUNT, .MCX_SCHED_CNT1_SUS_EXHAUST, .MCX_SCHED_CNT0_SUSPENDS,
        .MCX_SCHED_CNT0_READAROUND, .DRT_TWIN_STAGING, .DRT_PDEG_CAUSE, .DRT_PDEG_ACTIVE, .GLB_STATUS_PDEG]) := by
  unfold Dev.replayOps
  extract_lets +onlyGivenNames mine open_ rows d
  refine .use d ?_ fun h => ?_
  · unfold d
    exact .thenEach (.refl _) fun d a => .step (.refl _) (Dev.abandonRow_frame ..)
  · extract_lets +onlyGivenNames d
    refine .use d ?_ fun h => ?_
    · unfold d
      exact .step h (Dev.rejoin_frame ..)
    · extract_lets +onlyGivenNames d
      refine .use d ?_ fun h => ?_
      · unfold d
        refine .thenEach (h) fun d a => ?_
        split
        · exact .step (.refl _) (Dev.sendCmd_frame ..)
        · exact .refl _
      · exact .update (h)

theorem Dev.headService_frame (d : Dev) (h : Nat) (cause : Nat) (hw : Bool) :
    d.Frame (d.headService h cause hw) [.regs, .ust, .evt, .jrn, .out] evtFields := by
  unfold Dev.headService
  extract_lets +onlyGivenNames w
  refine .ite (fun _ => .step (.refl _) (Dev.moveUnit_frame ..)) fun _ => ?_
  extract_lets +onlyGivenNames e wantW wantR
  exact .ite (fun _ => .step (.refl _) (Dev.moveUnit_frame ..)) fun _ => .step (.refl _) (Dev.moveUnit_frame ..)

theorem Dev.logRec_frame (d : Dev) (k : Nat) (e : Nat) (t : TtEntry) :
    d.Frame (d.logRec k e t) [.jrn, .slices] [] := by
  unfold Dev.logRec
  refine .ite (fun _ => ?_) fun _ => ?_
  · extract_lets +onlyGivenNames s
    exact .step (.step (.refl _) (Dev.setSlice_frame ..)) (Dev.journal_frame ..)
  · extract_lets +onlyGivenNames b
    exact .step (.refl _) (Dev.setSlice_frame ..)

theorem Dev.sliceHealth_frame (d : Dev) (k : Nat) :
    d.Frame (d.sliceHealth k) [.regs, .ust, .evt, .jrn, .out] evtFields := by
  unfold Dev.sliceHealth
  refine .ite (fun _ => .refl _) fun _ => ?_
  exact .ite (fun _ => .step (.refl _) (Dev.moveUnit_frame ..)) fun _ => .step (.refl _) (Dev.moveUnit_frame ..)

theorem Dev.updateSolo_frame (d : Dev) (k : Nat) :
    d.Frame (d.updateSolo k) [.regs, .ust, .evt, .jrn, .slices, .out] (evtFields.append [.SLC_BUDDY_SOLO_COUNT,
        .SLC_STATUS_SOLO]) := by
  unfold Dev.updateSolo
  extract_lets +onlyGivenNames solo turns d
  refine .use d ?_ fun h => ?_
  · unfold d
    exact .ite (fun _ => .step (.refl _) (Dev.count_frame ..)) fun _ => .refl _
  · extract_lets +onlyGivenNames d
    refine .use d ?_ fun h => ?_
    · unfold d
      exact .step h (Dev.setFlag_frame ..)
    · extract_lets +onlyGivenNames d
      refine .use d ?_ fun h => ?_
      · unfold d
        exact .ite (fun _ => .thenEach (h) fun d a => .step (.refl _) (Dev.logRec_frame ..)) fun _ => h
      · exact .step h (Dev.sliceHealth_frame ..)

theorem Dev.setEntry_frame (d : Dev) (k : Nat) (e : Nat) (t : TtEntry) :
    d.Frame (d.setEntry k e t) [.slices] [] := by
  unfold Dev.setEntry
  extract_lets +onlyGivenNames s
  exact .step (.refl _) (Dev.setSlice_frame ..)

theorem Dev.unlog_frame (d : Dev) (k : Nat) (e : Nat) :
    d.Frame (d.unlog k e) [.slices] [] := by
  unfold Dev.unlog
  extract_lets +onlyGivenNames s d
  refine .use d ?_ fun h => ?_
  · unfold d
    exact .ite (fun _ => .step (.refl _) (Dev.setSlice_frame ..)) fun _ => .refl _
  · extract_lets +onlyGivenNames b
    exact .ite (fun _ => .step (h) (Dev.setSlice_frame ..)) fun _ => h

theorem Dev.setHead_frame (d : Dev) (h : Nat) (x : HeadS) :
    d.Frame (d.setHead h x) [.heads] [] := by
  unfold Dev.setHead
  exact .update (.refl _)

theorem Dev.sampleResponse_frame (d : Dev) (r : Req) :
    d.Frame (d.sampleResponse r) [.regs, .evt, .pmc, .out] (evtFields.append [.PMC_SAMP_STAT_LOST,
        .PMC_SAMP_STAT_WPTR]) := by
  unfold Dev.sampleResponse
  split
  · exact .refl _
  · extract_lets +onlyGivenNames _ d
    refine .use d ?_ fun h => ?_
    · unfold d
      exact .update (.refl _)
    · refine .ite (fun _ => .step (.step (h) (Dev.count_frame ..)) (Dev.raise_frame ..)) fun _ => ?_
      extract_lets +onlyGivenNames w rec' _ d
      refine .use d ?_ fun h => ?_
      · unfold d
        exact .update (h)
      · extract_lets +onlyGivenNames d
        refine .use d ?_ fun h => ?_
        · unfold d
          exact .step h (Dev.setReg_frame ..)
        · exact .ite (fun _ => .step (h) (Dev.raise_frame ..)) fun _ => h

theorem Dev.sendMem_frame (d : Dev) (h : Nat) (tag : Nat) (data : Option Line) (poison : Bool) :
    d.Frame (d.sendMem h tag data poison) [.out] [] := by
  unfold Dev.sendMem
  exact .step (.refl _) (Dev.emit_frame ..)

theorem Dev.answer_frame (d : Dev) (k : Nat) (r : Req) (cause : Nat) (data : Option Line) (poison : Bool) :
    d.Frame (d.answer k r cause data poison) [.regs, .evt, .pmc, .heads, .out,
        .freeCtr] (evtFields.append [.PMC_SNAPn_COUNT, .PMC_CTRn_COUNT, .GLB_LAT_MISSc_COUNT,
        .GLB_LAT_WORST_LATE_NS, .GLB_LAT_WORST_CAUSE, .PMC_SAMP_STAT_LOST, .PMC_SAMP_STAT_WPTR]) := by
  unfold Dev.answer
  extract_lets +onlyGivenNames h
  split
  · exact .refl _
  · extract_lets +onlyGivenNames d
    refine .use d ?_ fun h => ?_
    · unfold d
      exact .step (.refl _) (Dev.setHead_frame ..)
    · exact .step (.step (.step (h) (Dev.account_frame ..)) (Dev.sampleResponse_frame ..)) (Dev.sendMem_frame ..)

theorem Dev.fill_frame (d : Dev) (k : Nat) (stamp : Nat) (r : RegionRec) (dpa : Nat) (ki : Nat) (pid : Nat) (bad :
    List Nat) :
    d.Frame (d.fill k stamp r dpa ki pid bad) [.slices] [] := by
  unfold Dev.fill
  extract_lets +onlyGivenNames s a lines set cand
  refine .ite (fun _ => .refl _) fun _ => ?_
  split
  · extract_lets +onlyGivenNames ls
    exact .step (.refl _) (Dev.setSlice_frame ..)
  · extract_lets +onlyGivenNames new valid
    split
    · exact .step (.refl _) (Dev.setSlice_frame ..)
    · extract_lets +onlyGivenNames w
      split
      · exact .step (.refl _) (Dev.setSlice_frame ..)
      · exact .refl _

theorem Dev.dropAhead_frame (d : Dev) (k : Nat) (p : RaEntry → Bool) :
    d.Frame (d.dropAhead k p) [.regs, .evt, .pmc, .slices, .out, .freeCtr] (evtFields.append [.PMC_SNAPn_COUNT,
        .PMC_CTRn_COUNT]) := by
  unfold Dev.dropAhead
  extract_lets +onlyGivenNames s n
  refine .ite (fun _ => .refl _) fun _ => ?_
  exact .step (.step (.refl _) (Dev.setSlice_frame ..)) (Dev.perf_frame ..)

theorem Dev.mecFill_frame (d : Dev) (k : Nat) (lpn : Nat) :
    d.Frame (d.mecFill k lpn) [.slices, .freeCtr] [] := by
  unfold Dev.mecFill
  extract_lets +onlyGivenNames s
  refine .ite (fun _ => .refl _) fun _ => ?_
  refine .ite (fun _ => .step (.refl _) (Dev.setSlice_frame ..)) fun _ => ?_
  split
  · rename_i x0 x1 x2 hx
    refine .of_pair hx (.step (.refl _) (Dev.drawFree_frame ..)) fun h => ?_
    exact .step h (Dev.setSlice_frame ..)

theorem Dev.cancelLookups_frame (d : Dev) (k : Nat) (cls : Nat) (lpn : Nat) (dram : Bool) (map_ : Bool) :
    d.Frame (d.cancelLookups k cls lpn dram map_) [.regs, .evt, .pmc, .slices, .out,
        .freeCtr] (evtFields.append [.PMC_SNAPn_COUNT, .PMC_CTRn_COUNT]) := by
  unfold Dev.cancelLookups
  extract_lets +onlyGivenNames d
  refine .use d ?_ fun h => ?_
  · unfold d
    exact .ite (fun _ => .step (.refl _) (Dev.perf_frame ..)) fun _ => .refl _
  · refine .ite (fun _ => ?_) fun _ => h
    split
    · rename_i x0 x1 x2 hx
      refine .of_pair hx (.step (.step (h) (Dev.perf_frame ..)) (Dev.drawFree_frame ..)) fun h => ?_
      exact .ite (fun _ => .step (h) (Dev.mecFill_frame ..)) fun _ => h

theorem Dev.moveWaits_frame (d : Dev) (k : Nat) (x : Nat) (b : Nat) (e : Nat) :
    d.Frame (d.moveWaits k x b e) [.tal, .per] [] := by
  unfold Dev.moveWaits
  exact .update (.refl _)

theorem Dev.engineRead_frame (d : Dev) (k : Nat) (e : Nat) (t : TtEntry) :
    d.Frame (d.engineRead k e t) [.regs, .evt, .pmc, .med, .cry, .out, .freeCtr] (evtFields.append [.ORC_CACHE_HITS,
        .PMC_SNAPn_COUNT, .PMC_CTRn_COUNT, .MCX_SCHED_CNT1_SUS_EXHAUST, .MCX_SCHED_CNT0_SUSPENDS,
        .MCX_SCHED_CNT0_READAROUND]) := by
  unfold Dev.engineRead
  split
  · exact .refl _
  · split
    · split
      · exact .refl _
      · extract_lets +onlyGivenNames l
        refine .ite (fun _ => .refl _) fun _ => ?_
        refine .ite (fun _ => ?_) fun _ => ?_
        · split
          · exact .ite (fun _ => .step (.refl _) (Dev.issueRead_frame ..)) fun _ => .refl _
          · exact .refl _
        · refine .ite (fun _ => ?_) fun _ => .refl _
          split
          · rename_i x0 x1 x2 hx
            refine .of_pair hx (.step (.refl _) (Dev.drawFree_frame ..)) fun h => ?_
            split
            · exact .step h (Dev.issueRead_frame ..)
            · exact h
    · exact .refl _

theorem Dev.issueSheet_frame (d : Dev) (n : Nat) :
    d.Frame (d.issueSheet n) [.regs, .evt, .pmc, .med, .per, .out,
        .freeCtr] (evtFields.append [.MCX_SCHED_CNT0_SUSPENDS, .PMC_SNAPn_COUNT, .PMC_CTRn_COUNT,
        .GLB_WEAR_STAT_DEBT]) := by
  unfold Dev.issueSheet
  split
  · exact .refl _
  · extract_lets +onlyGivenNames ms
    refine .ite (fun _ => .refl _) fun _ => ?_
    split
    · rename_i x0 x1 x2 hx
      refine .of_pair hx (.step (.refl _) (Dev.drawFree_frame ..)) fun h => ?_
      extract_lets +onlyGivenNames a rest dies ps _ _ d
      refine .use d ?_ fun h => ?_
      · unfold d
        exact .update (h)
      · exact .thenEach (h) fun d a => .step (.step (.refl _) (Dev.suspendDie_frame ..)) (Dev.goOn_frame ..)

theorem Dev.waitSheets_frame (d : Dev) (k : Nat) (e : Nat) (ns : List Nat) :
    d.Frame (d.waitSheets k e ns) [.regs, .evt, .pmc, .med, .per, .out,
        .freeCtr] (evtFields.append [.MCX_SCHED_CNT0_SUSPENDS, .PMC_SNAPn_COUNT, .PMC_CTRn_COUNT,
        .GLB_WEAR_STAT_DEBT]) := by
  unfold Dev.waitSheets
  extract_lets +onlyGivenNames _ d
  refine .use d ?_ fun h => ?_
  · unfold d
    exact .update (.refl _)
  · exact .thenEach (h) fun d a => .step (.refl _) (Dev.issueSheet_frame ..)

theorem Dev.clearRecords_frame (d : Dev) (k : Nat) :
    d.Frame (d.clearRecords k) [.slices] [] := by
  unfold Dev.clearRecords
  extract_lets +onlyGivenNames _ d
  refine .use d ?_ fun h => ?_
  · unfold d
    exact .step (.refl _) (Dev.setSlice_frame ..)
  · exact .step h (Dev.setSlice_frame ..)

theorem Dev.complexHealth_frame (d : Dev) (n : Nat) :
    d.Frame (d.complexHealth n) [.regs, .ust, .evt, .jrn, .out] evtFields := by
  unfold Dev.complexHealth
  refine .ite (fun _ => .refl _) fun _ => ?_
  exact .ite (fun _ => .step (.refl _) (Dev.moveUnit_frame ..)) fun _ => .step (.refl _) (Dev.moveUnit_frame ..)

theorem Dev.packageHealth_frame (d : Dev) (p : Nat) :
    d.Frame (d.packageHealth p) [.regs, .ust, .evt, .jrn, .out] evtFields := by
  unfold Dev.packageHealth
  refine .ite (fun _ => .refl _) fun _ => ?_
  exact .ite (fun _ => .step (.refl _) (Dev.moveUnit_frame ..)) fun _ => .step (.refl _) (Dev.moveUnit_frame ..)

theorem Dev.setTalSet_frame (d : Dev) (s : Nat) (x : TalSet) :
    d.Frame (d.setTalSet s x) [.tal] [] := by
  unfold Dev.setTalSet
  exact .update (.refl _)

theorem Dev.snapWrite_frame (d : Dev) (region : Nat) (off : Nat) (l : Line) (poison : Bool) :
    d.Frame (d.snapWrite region off l poison) [.regs, .evt, .jrn, .slices, .tier, .poison, .per, .out,
        .freeCtr] (evtFields.append [.DRT_PDEG_CAUSE, .DRT_PDEG_ACTIVE, .GLB_STATUS_PDEG, .DRT_PDEG_LOST,
        .JRN_THRU_LINES]) := by
  unfold Dev.snapWrite
  split
  · exact .refl _
  · refine .ite (fun _ => .refl _) fun _ => ?_
    extract_lets +onlyGivenNames pid sub d
    refine .use d ?_ fun h => ?_
    · unfold d
      exact .step (.refl _) (Dev.dropLine_frame ..)
    · refine .ite (fun _ => .step (h) (Dev.storePoison_frame ..)) fun _ => ?_
      split
      · rename_i x0 x1 x2 hx
        refine .of_pair hx (.step (h) (Dev.seal_frame ..)) fun h => ?_
        exact .step h (Dev.storeCell_frame ..)

theorem Dev.startSnapshot_frame (d : Dev) (cs : CounterSet) (b : Nat) (epoch : Nat) :
    d.Frame (d.startSnapshot cs b epoch) [.regs, .evt, .jrn, .slices, .tier, .poison, .tal, .per, .out,
        .freeCtr] (evtFields.append [.TAL_SETs_STAT_COPYING, .DRT_PDEG_CAUSE, .DRT_PDEG_ACTIVE, .GLB_STATUS_PDEG,
        .DRT_PDEG_LOST, .JRN_THRU_LINES]) := by
  unfold Dev.startSnapshot
  extract_lets +onlyGivenNames x id bank c d
  refine .use d ?_ fun h => ?_
  · unfold d
    exact .step (.refl _) (Dev.setTalSet_frame ..)
  · extract_lets +onlyGivenNames d
    refine .use d ?_ fun h => ?_
    · unfold d
      exact .step (.step (h) (Dev.setFlag_frame ..)) (Dev.journal_frame ..)
    · extract_lets +onlyGivenNames d
      refine .use d ?_ fun h => ?_
      · unfold d
        refine .thenEach (h) fun d a => ?_
        exact .ite (fun _ => .refl _) fun _ => .step (.refl _) (Dev.snapWrite_frame ..)
      · exact .step h (Dev.snapWrite_frame ..)

theorem Dev.setLink_frame (d : Dev) (m : Nat) (x : LinkS) :
    d.Frame (d.setLink m x) [.med] [] := by
  unfold Dev.setLink
  exact .update (.refl _)

theorem Dev.headDrop_frame (d : Dev) (h : Nat) :
    d.Frame (d.headDrop h) [.heads, .slices, .med, .tal] [] := by
  unfold Dev.headDrop
  extract_lets +onlyGivenNames x d
  refine .use d ?_ fun h => ?_
  · unfold d
    exact .step (.refl _) (Dev.setHead_frame ..)
  · exact .update (h)

theorem Dev.sqHold_frame (d : Dev) (hold : Bool) :
    d.Frame (d.sqHold hold) [.regs, .pin] [.PWR_SQ_STAT_HOLDING] := by
  unfold Dev.sqHold
  extract_lets +onlyGivenNames d
  refine .use d ?_ fun h => ?_
  · unfold d
    exact .step (.refl _) (Dev.setFlag_frame ..)
  · exact .ite (fun _ => .update (h)) fun _ => h

theorem Dev.markStep_frame (d : Dev) (n : Nat) (hold : Bool) :
    d.Frame (d.markStep n hold) [.regs, .evt, .pwr, .pin] [.PWR_STEP_STEP, .PWR_STEP_SQ_WAIT,
        .PWR_SQ_STAT_HOLDING] := by
  unfold Dev.markStep
  extract_lets +onlyGivenNames d
  refine .use d ?_ fun h => ?_
  · unfold d
    exact .step (.step (.refl _) (Dev.setReg_frame ..)) (Dev.setFlag_frame ..)
  · extract_lets +onlyGivenNames _ _ d
    refine .use d ?_ fun h => ?_
    · unfold d
      exact .update (h)
    · exact .step h (Dev.sqHold_frame ..)

theorem Dev.rampDown_frame (d : Dev) (r : Nat) :
    d.Frame (d.rampDown r) [.regs, .pwr] [.PWR_RAILr_STAT_STATE] := by
  unfold Dev.rampDown
  refine .ite (fun _ => ?_) fun _ => .refl _
  extract_lets +onlyGivenNames d
  refine .use d ?_ fun h => ?_
  · unfold d
    exact .step (.refl _) (Dev.setReg_frame ..)
  · exact .update (h)

theorem Dev.downActions_frame (d : Dev) (n : Nat) :
    d.Frame (d.downActions n) [.regs, .ust, .evt, .pwr, .jrn, .out] (evtFields.append [.PWR_MPG_MPEN, .PWR_PD_ON,
        .PWR_RAILr_STAT_STATE]) := by
  unfold Dev.downActions
  split
  · refine .thenEach (.refl _) fun d a => ?_
    exact .ite (fun _ => .refl _) fun _ => .step (.refl _) (Dev.setUnit_frame ..)
  · extract_lets +onlyGivenNames d
    refine .use d ?_ fun h => ?_
    · unfold d
      exact .step (.refl _) (Dev.setReg_frame ..)
    · exact .thenEach (h) fun d a => .ite (fun _ => .refl _) fun _ => .step (.refl _) (Dev.setUnit_frame ..)
  · extract_lets +onlyGivenNames d
    refine .use d ?_ fun h => ?_
    · unfold d
      exact .step (.refl _) (Dev.pdDown_frame ..)
    · extract_lets +onlyGivenNames d
      refine .use d ?_ fun h => ?_
      · unfold d
        exact .thenEach (h) fun d a => .step (.refl _) (Dev.pdDown_frame ..)
      · extract_lets +onlyGivenNames d
        refine .use d ?_ fun h => ?_
        · unfold d
          exact .thenEach (h) fun d a => .step (.refl _) (Dev.pdDown_frame ..)
        · extract_lets +onlyGivenNames d
          refine .use d ?_ fun h => ?_
          · unfold d
            exact .thenEach (h) fun d a => .ite (fun _ => .refl _) fun _ => .step (.refl _) (Dev.setUnit_frame ..)
          · exact .thenEach (h) fun d a => .step (.refl _) (Dev.pdDown_frame ..)
  · exact .step (.step (.step (.refl _) (Dev.rampDown_frame ..)) (Dev.rampDown_frame ..)) (Dev.rampDown_frame ..)
  · extract_lets +onlyGivenNames d
    refine .use d ?_ fun h => ?_
    · unfold d
      exact .step (.step (.step (.refl _) (Dev.pdDown_frame ..)) (Dev.pdDown_frame ..)) (Dev.pdDown_frame ..)
    · exact .thenEach (h) fun d a => .step (.refl _) (Dev.rampDown_frame ..)
  · exact .refl _

theorem Dev.enterDown_frame (d : Dev) (n : Nat) :
    d.Frame (d.enterDown n) [.regs, .ust, .evt, .pwr, .pin, .jrn, .out] (evtFields.append [.PWR_STEP_STEP,
        .PWR_STEP_SQ_WAIT, .PWR_SQ_STAT_HOLDING, .PWR_MPG_MPEN, .PWR_PD_ON, .PWR_RAILr_STAT_STATE]) := by
  unfold Dev.enterDown
  exact .step (.step (.refl _) (Dev.markStep_frame ..)) (Dev.downActions_frame ..)

theorem Dev.goDown_frame (d : Dev) :
    d.Frame d.goDown [.regs, .ust, .evt, .pwr, .pin, .jrn, .out] (evtFields.append [.JRN_STATUS_QSTATE,
        .PWR_STEP_STEP, .PWR_STEP_SQ_WAIT, .PWR_SQ_STAT_HOLDING, .PWR_MPG_MPEN, .PWR_PD_ON,
        .PWR_RAILr_STAT_STATE]) := by
  unfold Dev.goDown
  extract_lets +onlyGivenNames d
  refine .use d ?_ fun h => ?_
  · unfold d
    exact .step (.refl _) (Dev.setReg_frame ..)
  · extract_lets +onlyGivenNames _ d
    refine .use d ?_ fun h => ?_
    · unfold d
      exact .update (h)
    · exact .step h (Dev.enterDown_frame ..)

theorem Dev.resetDie_frame (d : Dev) (die : Nat) :
    d.Frame (d.resetDie die) [.med] [] := by
  unfold Dev.resetDie
  exact .step (.step (.refl _) (Dev.setDie_frame ..)) (Dev.sendCmd_frame ..)

theorem Dev.abandonWork_frame (d : Dev) :
    d.Frame d.abandonWork [.regs, .evt, .jrn, .med, .cry, .out] (evtFields.append [.DRT_CULLET_CNT_ABANDONED,
        .DRT_CULLET_CNT_TGT_RETIRED, .GLB_WEAR_STAT_DEBT]) := by
  unfold Dev.abandonWork
  extract_lets +onlyGivenNames d
  refine .use d ?_ fun h => ?_
  · unfold d
    exact .thenEach (.refl _) fun d a => .step (.refl _) (Dev.abandonRow_frame ..)
  · extract_lets +onlyGivenNames d
    refine .use d ?_ fun h => ?_
    · unfold d
      refine .thenEach (h) fun d a => ?_
      extract_lets +onlyGivenNames k
      exact .step (.refl _) (Dev.setBlock_frame ..)
    · extract_lets +onlyGivenNames thru d
      refine .use d ?_ fun h => ?_
      · unfold d
        exact .thenEach (h) fun d a => .step (.refl _) (Dev.resetDie_frame ..)
      · extract_lets +onlyGivenNames d
        refine .use d ?_ fun h => ?_
        · unfold d
          exact .thenEach (h) fun d a => .step (.refl _) (Dev.metaAgain_frame ..)
        · exact .update (h)

theorem Dev.beginQuench_frame (d : Dev) (code : Nat) (ending : Nat) :
    d.Frame (d.beginQuench code ending) [.regs, .evt, .rst, .jrn, .med, .qch, .cry,
        .out] (evtFields.append [.JRN_STATUS_QSTATE, .JRN_STATUS_TRIGGER, .JRN_QLAST_T_Q, .JRN_DSC_QUENCHES,
        .CRY_RHs_CNT_ABANDONS, .DRT_CULLET_CNT_ABANDONED, .DRT_CULLET_CNT_TGT_RETIRED, .GLB_WEAR_STAT_DEBT]) := by
  unfold Dev.beginQuench
  extract_lets +onlyGivenNames id _ _ d
  refine .use d ?_ fun h => ?_
  · unfold d
    exact .update (.refl _)
  · extract_lets +onlyGivenNames d
    refine .use d ?_ fun h => ?_
    · unfold d
      exact .step (.step (h) (Dev.setReg_frame ..)) (Dev.setReg_frame ..)
    · extract_lets +onlyGivenNames d
      refine .use d ?_ fun h => ?_
      · unfold d
        exact .step (.step (h) (Dev.setReg_frame ..)) (Dev.setReg_frame ..)
      · extract_lets +onlyGivenNames d
        refine .use d ?_ fun h => ?_
        · unfold d
          exact .step (.step (h) (Dev.journal_frame ..)) (Dev.raise_frame ..)
        · exact .step (.step (h) (Dev.abandonSteps_frame ..)) (Dev.abandonWork_frame ..)

theorem Dev.trimClean_frame (d : Dev) :
    d.Frame d.trimClean [.tier] [] := by
  unfold Dev.trimClean
  extract_lets +onlyGivenNames clean n
  exact .ite (fun _ => .refl _) fun _ => .thenEach (.refl _) fun d a => .update (.refl _)

theorem Dev.doubleFault_frame (d : Dev) (ix : Nat) (other : Nat) :
    d.Frame (d.doubleFault ix other) [.regs, .ust, .evt, .out] evtFields := by
  unfold Dev.doubleFault
  extract_lets +onlyGivenNames _ d
  refine .use d ?_ fun h => ?_
  · unfold d
    exact .update (.refl _)
  · exact .step h (Dev.raise_frame ..)

theorem Dev.keepKeys_frame (d : Dev) :
    d.Frame d.keepKeys [.cry] [] := by
  unfold Dev.keepKeys
  extract_lets +onlyGivenNames waits
  exact .update (.refl _)

theorem Dev.regionHealth_frame (d : Dev) (n : Nat) :
    d.Frame (d.regionHealth n) [.regs, .ust, .evt, .jrn, .out] evtFields := by
  unfold Dev.regionHealth
  exact .ite (fun _ => .refl _) fun _ => .step (.refl _) (Dev.moveUnit_frame ..)

theorem Dev.breakStaging_frame (d : Dev) :
    d.Frame d.breakStaging [.regs, .boot] [.IMG_STATUS_STAGE_STATE] := by
  unfold Dev.breakStaging
  extract_lets +onlyGivenNames hit b
  exact .ite (fun _ => .step (.update (.refl _)) (Dev.setReg_frame ..)) fun _ => .refl _

theorem Dev.dropCmds_frame (d : Dev) (p : MCmd → Bool) :
    d.Frame (d.dropCmds p) [.med] [] := by
  unfold Dev.dropCmds
  exact .update (.refl _)

theorem Dev.clearCore_frame (d : Dev) :
    d.Frame d.clearCore [.regs, .boot, .mgt, .pmc, .slices, .med, .tal, .cry] [.IMG_STATUS_STAGE_STATE] := by
  unfold Dev.clearCore
  extract_lets +onlyGivenNames d
  refine .use d ?_ fun h => ?_
  · unfold d
    exact .step (.refl _) (Dev.breakStaging_frame ..)
  · extract_lets +onlyGivenNames d
    refine .use d ?_ fun h => ?_
    · unfold d
      exact .step h (Dev.dropCmds_frame ..)
    · exact .update (h)

theorem Dev.setImage_frame (d : Dev) (f : QImage → QImage) :
    d.Frame (d.setImage f) [.qch] [] := by
  unfold Dev.setImage
  exact .update (.refl _)

theorem Dev.cutPages_frame (d : Dev) :
    d.Frame d.cutPages [.qch, .freeCtr] [] := by
  unfold Dev.cutPages
  refine .ite (fun _ => .refl _) fun _ => ?_
  split
  · rename_i x0 x1 x2 hx
    refine .of_pair hx (.step (.refl _) (Dev.drawFree_frame ..)) fun h => ?_
    exact .step h (Dev.setImage_frame ..)

theorem Dev.clearSystem_frame (d : Dev) :
    d.Frame d.clearSystem [.regs, .boot, .mgt, .ust, .evt, .pmc, .rst, .jrn, .heads, .slices, .tier, .poison, .med,
        .qen, .tal, .per, .qch, .cry, .out, .freeCtr] (evtFields.append [.IMG_STATUS_STAGE_STATE,
        .MGT_STATUS_FALLBACK, .DRT_CULLET_CNT_ABANDONED, .DRT_CULLET_CNT_TGT_RETIRED, .GLB_WEAR_STAT_DEBT]) := by
  unfold Dev.clearSystem
  extract_lets +onlyGivenNames d
  refine .use d ?_ fun h => ?_
  · unfold d
    exact .step (.step (.refl _) (Dev.clearCore_frame ..)) (Dev.cutPages_frame ..)
  · extract_lets +onlyGivenNames d
    refine .use d ?_ fun h => ?_
    · unfold d
      exact .ite (fun _ => .step (h) (Dev.setFlag_frame ..)) fun _ => h
    · extract_lets +onlyGivenNames marks d
      refine .use d ?_ fun h => ?_
      · unfold d
        exact .thenEach (h) fun d a => .step (.refl _) (Dev.abandonRow_frame ..)
      · extract_lets +onlyGivenNames d
        refine .use d ?_ fun h => ?_
        · unfold d
          exact .thenEach (h) fun d a => .step (.refl _) (Dev.metaAgain_frame ..)
        · extract_lets +onlyGivenNames dead persist
          exact .update (h)

theorem Dev.unitsToOff_frame (d : Dev) :
    d.Frame d.unitsToOff [.regs, .ust, .evt, .jrn, .out] evtFields := by
  unfold Dev.unitsToOff
  extract_lets +onlyGivenNames d
  refine .use d ?_ fun h => ?_
  · unfold d
    refine .thenEach (.refl _) fun d a => ?_
    refine .ite (fun _ => .step (.refl _) (Dev.setUnit_frame ..)) fun _ => ?_
    exact .ite (fun _ => .step (.refl _) (Dev.setUnit_frame ..)) fun _ => .refl _
  · exact .ite (fun _ => .ite (fun _ => .step (h) (Dev.setUnit_frame ..)) fun _ => h) fun _ => .ite (fun _ => h) fun
      _ => .step (h) (Dev.setUnit_frame ..)

theorem Dev.setPllRef_frame (d : Dev) (p : Nat) (c : Nat) :
    d.Frame (d.setPllRef p c) [.regs] [.CLK_SRC_SEL_PLL_REF, .CLK_STATUS_TB_COARSE] := by
  unfold Dev.setPllRef
  extract_lets +onlyGivenNames v d
  refine .use d ?_ fun h => ?_
  · unfold d
    exact .step (.refl _) (Dev.setReg_frame ..)
  · exact .step h (Dev.setFlag_frame ..)

theorem Dev.bootClocks_frame (d : Dev) :
    d.Frame d.bootClocks [.regs, .clk] [.CLK_SRC_SEL_PLL_REF, .CLK_STATUS_TB_COARSE, .CLK_SRC_READY_LOCK,
        .CLK_STATUS_SWITCHING, .CLK_SRC_SEL_WCLK_SOSC] := by
  unfold Dev.bootClocks
  extract_lets +onlyGivenNames f a d
  refine .use d ?_ fun h => ?_
  · unfold d
    exact .update (.refl _)
  · extract_lets +onlyGivenNames d
    refine .use d ?_ fun h => ?_
    · unfold d
      exact .step (.step (.step (h) (Dev.setPllRef_frame ..)) (Dev.setPllRef_frame ..)) (Dev.setPllRef_frame ..)
    · extract_lets +onlyGivenNames d
      refine .use d ?_ fun h => ?_
      · unfold d
        exact .step (.step (h) (Dev.setReg_frame ..)) (Dev.setFlag_frame ..)
      · exact .step h (Dev.setFlag_frame ..)

theorem Dev.unqueue_frame (d : Dev) (p : CmdUse → Bool) :
    d.Frame (d.unqueue p) [.med] [] := by
  unfold Dev.unqueue
  exact .update (.refl _)

theorem Dev.dropReads_frame (d : Dev) (k : Nat) :
    d.Frame (d.dropReads k) [.regs, .evt, .med, .out] (evtFields.append [.GLB_WEAR_STAT_DEBT]) := by
  unfold Dev.dropReads
  extract_lets +onlyGivenNames mine ns used on _ d
  refine .use d ?_ fun h => ?_
  · unfold d
    exact .update (.refl _)
  · exact .thenEach (.step (h) (Dev.unqueue_frame ..)) fun d a => .step (.refl _) (Dev.goOn_frame ..)

theorem Dev.takeBackDoorbell_frame (d : Dev) (t : TtEntry) :
    d.Frame (d.takeBackDoorbell t) [.regs, .shadow, .qen] [.RGN_SHADOW_LAST_RESULT] := by
  unfold Dev.takeBackDoorbell
  refine .ite (fun _ => .refl _) fun _ => ?_
  split
  · exact .refl _
  · extract_lets +onlyGivenNames x all
    split
    · exact .step (.step (.refl _) (Dev.setQueue_frame ..)) (Dev.qChanged_frame ..)
  · extract_lets +onlyGivenNames s
    split
    · exact .step (.refl _) (Dev.setReg_frame ..)
    · refine .ite (fun _ => ?_) fun _ => .refl _
      extract_lets +onlyGivenNames delta
      exact .step (.step (.refl _) (Dev.setShadow_frame ..)) (Dev.setReg_frame ..)
  · extract_lets +onlyGivenNames s delta
    exact .step (.step (.refl _) (Dev.setShadow_frame ..)) (Dev.setReg_frame ..)

theorem Dev.queueLost_frame (d : Dev) (q : Nat) (seq : Nat) (dpa : Nat) (heads : Nat) :
    d.Frame (d.queueLost q seq dpa heads) [.regs, .evt, .out] evtFields := by
  unfold Dev.queueLost
  exact .step (.refl _) (Dev.raise_frame ..)

theorem Dev.loseEnqueue_frame (d : Dev) (q : Nat) (off : Nat) (dpa : Nat) (heads : Nat) :
    d.Frame (d.loseEnqueue q off dpa heads) [.regs, .evt, .qen, .out] (evtFields.append [.QEN_STRANDw_STRANDED]) := by
  unfold Dev.loseEnqueue
  extract_lets +onlyGivenNames k x d
  refine .use d ?_ fun h => ?_
  · unfold d
    split
    · exact .ite (fun _ => .step (.refl _) (Dev.dropOpen_frame ..)) fun _ => .step (.refl _) (Dev.setQueue_frame ..)
    · split
      · exact .step (.refl _) (Dev.setQueue_frame ..)
      · exact .refl _
  · extract_lets +onlyGivenNames seq
    exact .step (.step (h) (Dev.strand_frame ..)) (Dev.queueLost_frame ..)

theorem Dev.loseRecord_frame (d : Dev) (t : TtEntry) :
    d.Frame (d.loseRecord t) [.regs, .evt, .jrn, .slices, .tier, .poison, .qen,
        .out] (evtFields.append [.TAL_SETs_STAT_LOST, .TAL_SETs_STAT_INEXACT, .QEN_STRANDw_STRANDED]) := by
  unfold Dev.loseRecord
  split
  · exact .refl _
  · extract_lets +onlyGivenNames heads
    split
    · refine .ite (fun _ => .refl _) fun _ => ?_
      exact .step (.step (.refl _) (Dev.poisonLine_frame ..)) (Dev.raise_frame ..)
    · refine .ite (fun _ => .refl _) fun _ => ?_
      exact .step (.step (.refl _) (Dev.poisonLine_frame ..)) (Dev.raise_frame ..)
    · refine .ite (fun _ => .refl _) fun _ => ?_
      exact .step (.step (.step (.refl _) (Dev.count_frame ..)) (Dev.setFlag_frame ..)) (Dev.raise_frame ..)
    · refine .ite (fun _ => .refl _) fun _ => ?_
      split
      · exact .step (.step (.refl _) (Dev.poisonLine_frame ..)) (Dev.raise_frame ..)
    · refine .ite (fun _ => .refl _) fun _ => ?_
      split
      · exact .step (.refl _) (Dev.loseEnqueue_frame ..)
      · exact .step (.step (.refl _) (Dev.strand_frame ..)) (Dev.queueLost_frame ..)
      · exact .refl _
    · refine .ite (fun _ => .refl _) fun _ => ?_
      split
      · exact .step (.refl _) (Dev.loseEnqueue_frame ..)
      · exact .step (.step (.refl _) (Dev.strand_frame ..)) (Dev.queueLost_frame ..)
      · exact .refl _
    · exact .ite (fun _ => .refl _) fun _ => .step (.refl _) (Dev.raise_frame ..)
    · exact .refl _

theorem Dev.overBudget_frame (d : Dev) (ix : Nat) (old : UState) :
    d.Frame (d.overBudget ix old) [.regs, .ust, .evt, .out] evtFields := by
  unfold Dev.overBudget
  extract_lets +onlyGivenNames u _ d
  refine .use d ?_ fun h => ?_
  · unfold d
    exact .update (.refl _)
  · exact .step h (Dev.raise_frame ..)

theorem Dev.refuseIngress_frame (d : Dev) (k : Nat) :
    d.Frame (d.refuseIngress k) [.regs, .evt, .pmc, .heads, .slices, .out,
        .freeCtr] (evtFields.append [.PMC_SNAPn_COUNT, .PMC_CTRn_COUNT, .GLB_LAT_MISSc_COUNT,
        .GLB_LAT_WORST_LATE_NS, .GLB_LAT_WORST_CAUSE, .PMC_SAMP_STAT_LOST, .PMC_SAMP_STAT_WPTR]) := by
  unfold Dev.refuseIngress
  extract_lets +onlyGivenNames rs _ d
  refine .use d ?_ fun h => ?_
  · unfold d
    exact .step (.refl _) (Dev.setSlice_frame ..)
  · exact .thenEach (h) fun d a => .step (.step (.refl _) (Dev.hostEvent_frame ..)) (Dev.answer_frame ..)

theorem Dev.rehomeDies_frame (d : Dev) (m : Nat) :
    d.Frame (d.rehomeDies m) [.med] [] := by
  unfold Dev.rehomeDies
  split
  · exact .refl _
  · refine .thenEach (.refl _) fun d a => ?_
    split
    · exact .step (.refl _) (Dev.setDie_frame ..)
    · exact .refl _

theorem Dev.reissueLink_frame (d : Dev) (m : Nat) :
    d.Frame (d.reissueLink m) [.regs, .med] [.MCX_LINKi_ERR_REISSUE] := by
  unfold Dev.reissueLink
  extract_lets +onlyGivenNames cs _ d
  refine .use d ?_ fun h => ?_
  · unfold d
    exact .update (.refl _)
  · refine .thenEach (h) fun d a => ?_
    split
    · extract_lets +onlyGivenNames d
      refine .use d ?_ fun h => ?_
      · unfold d
        exact .step (.refl _) (Dev.count_frame ..)
      · extract_lets +onlyGivenNames d
        refine .use d ?_ fun h => ?_
        · unfold d
          exact .step h (Dev.readAgain_frame ..)
        · extract_lets +onlyGivenNames op
          exact .update (h)
    · exact .refl _

theorem Dev.rewriteSheet_frame (d : Dev) (n : Nat) (die : Nat) :
    d.Frame (d.rewriteSheet n die) [.regs, .evt, .pmc, .slices, .med, .per, .out,
        .freeCtr] (evtFields.append [.JRN_THRU_SHEET_FAIL, .MCX_SCHED_CNT0_SUSPENDS, .PMC_SNAPn_COUNT,
        .PMC_CTRn_COUNT, .GLB_WEAR_STAT_DEBT]) := by
  unfold Dev.rewriteSheet
  split
  · exact .refl _
  · refine .ite (fun _ => .refl _) fun _ => ?_
    extract_lets +onlyGivenNames d
    refine .use d ?_ fun h => ?_
    · unfold d
      exact .step (.refl _) (Dev.count_frame ..)
    · extract_lets +onlyGivenNames _ _ d
      refine .use d ?_ fun h => ?_
      · unfold d
        exact .update (h)
      · extract_lets +onlyGivenNames d
        refine .use d ?_ fun h => ?_
        · unfold d
          refine .thenEach (h) fun d a => ?_
          split
          · exact .step (.refl _) (Dev.setEntry_frame ..)
          · exact .refl _
        · exact .step h (Dev.issueSheet_frame ..)

theorem Dev.readAroundDie_frame (d : Dev) (p : Nat → Bool) :
    d.Frame (d.readAroundDie p) [.regs, .evt, .pmc, .med, .out,
        .freeCtr] (evtFields.append [.MCX_SCHED_CNT0_SUSPENDS, .PMC_SNAPn_COUNT, .PMC_CTRn_COUNT,
        .MCX_SCHED_CNT0_READAROUND, .MCX_SCHED_CNT1_SUS_EXHAUST]) := by
  unfold Dev.readAroundDie
  extract_lets +onlyGivenNames d
  refine .use d ?_ fun h => ?_
  · unfold d
    refine .thenEach (.refl _) fun d a => ?_
    extract_lets +onlyGivenNames own
    exact .step (.step (.step (.refl _) (Dev.dropCmds_frame ..)) (Dev.unqueue_frame ..)) (Dev.startAround_frame ..)
  · extract_lets +onlyGivenNames lost
    refine .thenEach (h) fun d a => ?_
    split
    · extract_lets +onlyGivenNames _ d
      refine .use d ?_ fun h => ?_
      · unfold d
        exact .update (.refl _)
      · extract_lets +onlyGivenNames y d
        refine .use d ?_ fun h => ?_
        · unfold d
          exact .step h (Dev.setDie_frame ..)
        · split
          · split
            · split
              · exact .step (.step (h) (Dev.setRead_frame ..)) (Dev.putRead_frame ..)
              · extract_lets +onlyGivenNames r
                exact .ite (fun _ => .step (h) (Dev.setRead_frame ..)) fun _ => .step (h) (Dev.decideRead_frame ..)
            · exact h
          · exact h
    · exact .refl _

theorem Dev.setPkg_frame (d : Dev) (p : Nat) (x : PkgS) :
    d.Frame (d.setPkg p x) [.med] [] := by
  unfold Dev.setPkg
  exact .update (.refl _)

theorem Dev.loseMedia_frame (d : Dev) (lpn : Nat) :
    d.Frame (d.loseMedia lpn) [.regs, .evt, .jrn, .med, .out] evtFields := by
  unfold Dev.loseMedia
  extract_lets +onlyGivenNames heads
  exact .step (.step (.refl _) (Dev.setMap_frame ..)) (Dev.raise_frame ..)

theorem Dev.addOrcPage_frame (d : Dev) (k : Nat) (entries : List (Nat × OrcStored)) :
    d.Frame (d.addOrcPage k entries).2 [.regs, .evt, .pmc, .jrn, .med, .cry, .out,
        .freeCtr] (evtFields.append [.ORC_CACHE_HITS, .PMC_SNAPn_COUNT, .PMC_CTRn_COUNT,
        .MCX_SCHED_CNT1_SUS_EXHAUST, .MCX_SCHED_CNT0_SUSPENDS, .MCX_SCHED_CNT0_READAROUND, .GLB_WEAR_STAT_DEBT]) := by
  unfold Dev.addOrcPage
  dsimp only
  split
  · dsimp only
    exact .step (.step (.step (.refl _) (Dev.addMeta_frame ..)) (Dev.addMeta_frame ..)) (Dev.setOrc_frame ..)
  · dsimp only
    exact .refl _

theorem Dev.lockdown_frame (d : Dev) (cause : Nat) :
    d.Frame (d.lockdown cause) [.regs, .evt, .out] (evtFields.append [.CRY_STATUS_LOCKED,
        .CRY_STATUS_LOCK_CAUSE]) := by
  unfold Dev.lockdown
  refine .ite (fun _ => .refl _) fun _ => ?_
  exact .step (.step (.step (.refl _) (Dev.setFlag_frame ..)) (Dev.setReg_frame ..)) (Dev.raise_frame ..)

theorem Dev.orphan_frame (d : Dev) (level : Nat) (index : Nat) (ki : Nat) (heads : Nat) :
    d.Frame (d.orphan level index ki heads) [.regs, .ust, .evt, .jrn, .cry,
        .out] (evtFields.append [.ORC_COPY_BOTH_LOST, .CRY_STATUS_LOCKED, .CRY_STATUS_LOCK_CAUSE]) := by
  unfold Dev.orphan
  refine .ite (fun _ => .refl _) fun _ => ?_
  extract_lets +onlyGivenNames _ d
  refine .use d ?_ fun h => ?_
  · unfold d
    exact .update (.refl _)
  · extract_lets +onlyGivenNames d
    refine .use d ?_ fun h => ?_
    · unfold d
      exact .step (.step (h) (Dev.count_frame ..)) (Dev.raise_frame ..)
    · extract_lets +onlyGivenNames d
      refine .use d ?_ fun h => ?_
      · unfold d
        exact .thenEach (h) fun d a => .step (.refl _) (Dev.regionHealth_frame ..)
      · exact .ite (fun _ => .step (h) (Dev.lockdown_frame ..)) fun _ => h

theorem Dev.loseOrcPage_frame (d : Dev) (key : Nat) :
    d.Frame (d.loseOrcPage key) [.regs, .ust, .evt, .pmc, .jrn, .med, .cry, .out,
        .freeCtr] (evtFields.append [.ORC_COPY_REPAIRED, .ORC_CACHE_HITS, .PMC_SNAPn_COUNT, .PMC_CTRn_COUNT,
        .MCX_SCHED_CNT1_SUS_EXHAUST, .MCX_SCHED_CNT0_SUSPENDS, .MCX_SCHED_CNT0_READAROUND, .GLB_WEAR_STAT_DEBT,
        .ORC_COPY_BOTH_LOST, .CRY_STATUS_LOCKED, .CRY_STATUS_LOCK_CAUSE]) := by
  unfold Dev.loseOrcPage
  extract_lets +onlyGivenNames first ks
  refine .ite (fun _ => ?_) fun _ => ?_
  · exact .step (.step (.refl _) (Dev.count_frame ..)) (Dev.addOrcPage_frame ..)
  · extract_lets +onlyGivenNames d
    refine .use d ?_ fun h => ?_
    · unfold d
      exact .thenEach (.refl _) fun d a => .step (.refl _) (Dev.orphan_frame ..)
    · refine .ite (fun _ => ?_) fun _ => h
      exact .step (.step (h) (Dev.count_frame ..)) (Dev.addOrcPage_frame ..)

theorem Dev.loseRow_frame (d : Dev) (band : Nat) (row : Nat) :
    d.Frame (d.loseRow band row) [.regs, .ust, .evt, .pmc, .jrn, .med, .cry, .out,
        .freeCtr] (evtFields.append [.ORC_COPY_REPAIRED, .ORC_CACHE_HITS, .PMC_SNAPn_COUNT, .PMC_CTRn_COUNT,
        .MCX_SCHED_CNT1_SUS_EXHAUST, .MCX_SCHED_CNT0_SUSPENDS, .MCX_SCHED_CNT0_READAROUND, .GLB_WEAR_STAT_DEBT,
        .ORC_COPY_BOTH_LOST, .CRY_STATUS_LOCKED, .CRY_STATUS_LOCK_CAUSE]) := by
  unfold Dev.loseRow
  extract_lets +onlyGivenNames d
  refine .use d ?_ fun h => ?_
  · unfold d
    exact .thenEach (.refl _) fun d a => .step (.refl _) (Dev.loseMedia_frame ..)
  · extract_lets +onlyGivenNames gone _ d
    refine .use d ?_ fun h => ?_
    · unfold d
      exact .update (h)
    · exact .thenEach (h) fun d a => .step (.refl _) (Dev.loseOrcPage_frame ..)

theorem Dev.moveMeta_frame (d : Dev) (key : Nat) :
    d.Frame (d.moveMeta key) [.regs, .evt, .pmc, .jrn, .med, .cry, .out,
        .freeCtr] (evtFields.append [.ORC_CACHE_HITS, .PMC_SNAPn_COUNT, .PMC_CTRn_COUNT,
        .MCX_SCHED_CNT1_SUS_EXHAUST, .MCX_SCHED_CNT0_SUSPENDS, .MCX_SCHED_CNT0_READAROUND, .GLB_WEAR_STAT_DEBT]) := by
  unfold Dev.moveMeta
  refine .ite (fun _ => .refl _) fun _ => ?_
  extract_lets +onlyGivenNames avoid v
  exact .step (.refl _) (Dev.addMeta_frame ..)

theorem Dev.copyPages_frame (d : Dev) (b : Nat) (stream : Nat) :
    d.Frame (d.copyPages b stream) [.regs, .evt, .pmc, .jrn, .med, .cry, .out,
        .freeCtr] (evtFields.append [.ORC_CACHE_HITS, .PMC_SNAPn_COUNT, .PMC_CTRn_COUNT,
        .MCX_SCHED_CNT1_SUS_EXHAUST, .MCX_SCHED_CNT0_SUSPENDS, .MCX_SCHED_CNT0_READAROUND, .GLB_WEAR_STAT_DEBT,
        .DRT_PDEG_CAUSE, .DRT_PDEG_ACTIVE, .GLB_STATUS_PDEG]) := by
  unfold Dev.copyPages
  refine .thenEach (.thenEach (.refl _) fun d a => .step (.refl _) (Dev.copyPage_frame ..)) fun d a => ?_
  exact .step (.refl _) (Dev.moveMeta_frame ..)

theorem Dev.rebuildBand_frame (d : Dev) (n : Nat) :
    d.Frame (d.rebuildBand n) [.regs, .ust, .evt, .pmc, .jrn, .med, .cry, .out,
        .freeCtr] (evtFields.append [.ORC_COPY_REPAIRED, .ORC_CACHE_HITS, .PMC_SNAPn_COUNT, .PMC_CTRn_COUNT,
        .MCX_SCHED_CNT1_SUS_EXHAUST, .MCX_SCHED_CNT0_SUSPENDS, .MCX_SCHED_CNT0_READAROUND, .GLB_WEAR_STAT_DEBT,
        .ORC_COPY_BOTH_LOST, .CRY_STATUS_LOCKED, .CRY_STATUS_LOCK_CAUSE, .DRT_PDEG_CAUSE, .DRT_PDEG_ACTIVE,
        .GLB_STATUS_PDEG]) := by
  unfold Dev.rebuildBand
  split
  · exact .refl _
  · refine .ite (fun _ => ?_) fun _ => .step (.refl _) (Dev.copyPages_frame ..)
    exact .thenEach (.refl _) fun d a => .step (.refl _) (Dev.loseRow_frame ..)

theorem Dev.rebuild_frame (d : Dev) :
    d.Frame d.rebuild [.regs, .ust, .evt, .pmc, .jrn, .med, .cry, .out,
        .freeCtr] (evtFields.append [.ORC_COPY_REPAIRED, .ORC_CACHE_HITS, .PMC_SNAPn_COUNT, .PMC_CTRn_COUNT,
        .MCX_SCHED_CNT1_SUS_EXHAUST, .MCX_SCHED_CNT0_SUSPENDS, .MCX_SCHED_CNT0_READAROUND, .GLB_WEAR_STAT_DEBT,
        .ORC_COPY_BOTH_LOST, .CRY_STATUS_LOCKED, .CRY_STATUS_LOCK_CAUSE, .DRT_PDEG_CAUSE, .DRT_PDEG_ACTIVE,
        .GLB_STATUS_PDEG]) := by
  unfold Dev.rebuild
  extract_lets +onlyGivenNames bs first rest d
  refine .use d ?_ fun h => ?_
  · unfold d
    exact .thenEach (.refl _) fun d a => .step (.refl _) (Dev.rebuildBand_frame ..)
  · exact .thenEach (h) fun d a => .ite (fun _ => .refl _) fun _ => .step (.refl _) (Dev.setPkg_frame ..)

theorem Dev.markRebuild_frame (d : Dev) (p : Nat) :
    d.Frame (d.markRebuild p) [.regs, .ust, .evt, .pmc, .jrn, .tier, .med, .cry, .out,
        .freeCtr] (evtFields.append [.ORC_CACHE_HITS, .PMC_SNAPn_COUNT, .PMC_CTRn_COUNT,
        .MCX_SCHED_CNT1_SUS_EXHAUST, .MCX_SCHED_CNT0_SUSPENDS, .MCX_SCHED_CNT0_READAROUND, .GLB_WEAR_STAT_DEBT,
        .DRT_TWIN_STAGING, .DRT_PDEG_CAUSE, .DRT_PDEG_ACTIVE, .GLB_STATUS_PDEG, .ORC_COPY_REPAIRED,
        .ORC_COPY_BOTH_LOST, .CRY_STATUS_LOCKED, .CRY_STATUS_LOCK_CAUSE]) := by
  unfold Dev.markRebuild
  extract_lets +onlyGivenNames hit rows d
  refine .use d ?_ fun h => ?_
  · unfold d
    refine .thenEach (.refl _) fun d a => ?_
    extract_lets +onlyGivenNames _ d
    refine .use d ?_ fun h => ?_
    · unfold d
      exact .step (.refl _) (Dev.setBand_frame ..)
    · exact .step h (Dev.closeBand_frame ..)
  · extract_lets +onlyGivenNames _ d
    refine .use d ?_ fun h => ?_
    · unfold d
      exact .step h (Dev.setPkg_frame ..)
    · exact .step (.step (h) (Dev.rejoin_frame ..)) (Dev.rebuild_frame ..)

theorem Dev.judgePdeg_frame (d : Dev) :
    d.Frame d.judgePdeg [.regs, .evt, .out] (evtFields.append [.DRT_PDEG_CAUSE, .DRT_PDEG_ACTIVE,
        .GLB_STATUS_PDEG]) := by
  unfold Dev.judgePdeg
  extract_lets +onlyGivenNames u mirror hold gather
  refine .ite (fun _ => .refl _) fun _ => ?_
  exact .step (.step (.refl _) (Dev.setPdeg_frame ..)) (Dev.setPdeg_frame ..)

theorem Dev.packageGone_frame (d : Dev) (p : Nat) :
    d.Frame (d.packageGone p) [.regs, .ust, .evt, .pmc, .jrn, .slices, .tier, .med, .per, .cry, .out,
        .freeCtr] (evtFields.append [.JRN_THRU_SHEET_FAIL, .MCX_SCHED_CNT0_SUSPENDS, .PMC_SNAPn_COUNT,
        .PMC_CTRn_COUNT, .GLB_WEAR_STAT_DEBT, .MCX_SCHED_CNT0_READAROUND, .MCX_SCHED_CNT1_SUS_EXHAUST,
        .ORC_CACHE_HITS, .DRT_TWIN_STAGING, .DRT_PDEG_CAUSE, .DRT_PDEG_ACTIVE, .GLB_STATUS_PDEG, .ORC_COPY_REPAIRED,
        .ORC_COPY_BOTH_LOST, .CRY_STATUS_LOCKED, .CRY_STATUS_LOCK_CAUSE]) := by
  unfold Dev.packageGone
  extract_lets +onlyGivenNames d
  refine .use d ?_ fun h => ?_
  · unfold d
    exact .step (.refl _) (Dev.dropCmds_frame ..)
  · extract_lets +onlyGivenNames dies _ d
    refine .use d ?_ fun h => ?_
    · unfold d
      exact .update (h)
    · extract_lets +onlyGivenNames d
      refine .use d ?_ fun h => ?_
      · unfold d
        refine .thenEach (h) fun d a => ?_
        split
        · exact .step (.refl _) (Dev.rewriteSheet_frame ..)
        · exact .refl _
      · exact .step (.step (.step (h) (Dev.readAroundDie_frame ..)) (Dev.markRebuild_frame ..)) (Dev.judgePdeg_frame
          ..)

theorem Dev.packageFail_frame (d : Dev) (p : Nat) (cause : Nat) :
    d.Frame (d.packageFail p cause) [.regs, .ust, .evt, .pmc, .jrn, .slices, .tier, .med, .per, .cry, .out,
        .freeCtr] (evtFields.append [.JRN_THRU_SHEET_FAIL, .MCX_SCHED_CNT0_SUSPENDS, .PMC_SNAPn_COUNT,
        .PMC_CTRn_COUNT, .GLB_WEAR_STAT_DEBT, .MCX_SCHED_CNT0_READAROUND, .MCX_SCHED_CNT1_SUS_EXHAUST,
        .ORC_CACHE_HITS, .DRT_TWIN_STAGING, .DRT_PDEG_CAUSE, .DRT_PDEG_ACTIVE, .GLB_STATUS_PDEG, .ORC_COPY_REPAIRED,
        .ORC_COPY_BOTH_LOST, .CRY_STATUS_LOCKED, .CRY_STATUS_LOCK_CAUSE]) := by
  unfold Dev.packageFail
  exact .step (.step (.refl _) (Dev.setUnit_frame ..)) (Dev.packageGone_frame ..)

theorem Dev.linkGone_frame (d : Dev) (m : Nat) :
    d.Frame (d.linkGone m) [.regs, .ust, .evt, .pmc, .jrn, .slices, .tier, .med, .per, .cry, .out,
        .freeCtr] (evtFields.append [.MCX_LINKi_ERR_REISSUE, .JRN_THRU_SHEET_FAIL, .MCX_SCHED_CNT0_SUSPENDS,
        .PMC_SNAPn_COUNT, .PMC_CTRn_COUNT, .GLB_WEAR_STAT_DEBT, .MCX_SCHED_CNT0_READAROUND,
        .MCX_SCHED_CNT1_SUS_EXHAUST, .ORC_CACHE_HITS, .DRT_TWIN_STAGING, .DRT_PDEG_CAUSE, .DRT_PDEG_ACTIVE,
        .GLB_STATUS_PDEG, .ORC_COPY_REPAIRED, .ORC_COPY_BOTH_LOST, .CRY_STATUS_LOCKED, .CRY_STATUS_LOCK_CAUSE]) := by
  unfold Dev.linkGone
  split
  · exact .refl _
  · extract_lets +onlyGivenNames d
    refine .use d ?_ fun h => ?_
    · unfold d
      exact .step (.step (.refl _) (Dev.rehomeDies_frame ..)) (Dev.reissueLink_frame ..)
    · extract_lets +onlyGivenNames d
      refine .use d ?_ fun h => ?_
      · unfold d
        exact .step h (Dev.complexHealth_frame ..)
      · exact .ite (fun _ => .ite (fun _ => .step (h) (Dev.packageFail_frame ..)) fun _ => h) fun _ => .step (h)
          (Dev.packageHealth_frame ..)

theorem Dev.linkFail_frame (d : Dev) (m : Nat) (cause : Nat) :
    d.Frame (d.linkFail m cause) [.regs, .ust, .evt, .pmc, .jrn, .slices, .tier, .med, .per, .cry, .out,
        .freeCtr] (evtFields.append [.MCX_LINKi_ERR_REISSUE, .JRN_THRU_SHEET_FAIL, .MCX_SCHED_CNT0_SUSPENDS,
        .PMC_SNAPn_COUNT, .PMC_CTRn_COUNT, .GLB_WEAR_STAT_DEBT, .MCX_SCHED_CNT0_READAROUND,
        .MCX_SCHED_CNT1_SUS_EXHAUST, .ORC_CACHE_HITS, .DRT_TWIN_STAGING, .DRT_PDEG_CAUSE, .DRT_PDEG_ACTIVE,
        .GLB_STATUS_PDEG, .ORC_COPY_REPAIRED, .ORC_COPY_BOTH_LOST, .CRY_STATUS_LOCKED, .CRY_STATUS_LOCK_CAUSE]) := by
  unfold Dev.linkFail
  exact .step (.step (.step (.refl _) (Dev.setLink_frame ..)) (Dev.setUnit_frame ..)) (Dev.linkGone_frame ..)

theorem Dev.complexFail_frame (d : Dev) (n : Nat) (cause : Nat) :
    d.Frame (d.complexFail n cause) [.regs, .ust, .evt, .pmc, .jrn, .slices, .tier, .med, .per, .cry, .out,
        .freeCtr] (evtFields.append [.DRT_CULLET_CNT_ABANDONED, .DRT_CULLET_CNT_TGT_RETIRED, .GLB_WEAR_STAT_DEBT,
        .ORC_CACHE_HITS, .PMC_SNAPn_COUNT, .PMC_CTRn_COUNT, .MCX_SCHED_CNT1_SUS_EXHAUST, .MCX_SCHED_CNT0_SUSPENDS,
        .MCX_SCHED_CNT0_READAROUND, .DRT_TWIN_STAGING, .DRT_PDEG_CAUSE, .DRT_PDEG_ACTIVE, .GLB_STATUS_PDEG,
        .MCX_LINKi_ERR_REISSUE, .JRN_THRU_SHEET_FAIL, .ORC_COPY_REPAIRED, .ORC_COPY_BOTH_LOST, .CRY_STATUS_LOCKED,
        .CRY_STATUS_LOCK_CAUSE]) := by
  unfold Dev.complexFail
  extract_lets +onlyGivenNames d
  refine .use d ?_ fun h => ?_
  · unfold d
    exact .step (.refl _) (Dev.setUnit_frame ..)
  · extract_lets +onlyGivenNames d
    refine .use d ?_ fun h => ?_
    · unfold d
      exact .step h (Dev.replayOps_frame ..)
    · refine .thenEach (h) fun d a => ?_
      exact .ite (fun _ => .refl _) fun _ => .step (.refl _) (Dev.linkFail_frame ..)

theorem Dev.losePage_frame (d : Dev) (lpn : Nat) (source : Nat) :
    d.Frame (d.losePage lpn source) [.regs, .evt, .jrn, .slices, .tier, .poison, .med, .out] evtFields := by
  unfold Dev.losePage
  extract_lets +onlyGivenNames dpa heads d
  refine .use d ?_ fun h => ?_
  · unfold d
    exact .update (.refl _)
  · extract_lets +onlyGivenNames d
    refine .use d ?_ fun h => ?_
    · unfold d
      exact .step (.step (h) (Dev.setMap_frame ..)) (Dev.notePoison_frame ..)
    · extract_lets +onlyGivenNames d
      refine .use d ?_ fun h => ?_
      · unfold d
        exact .step h (Dev.dropCached_frame ..)
      · exact .step h (Dev.raise_frame ..)

theorem Dev.loseVolatile_frame (d : Dev) (k : Nat) (r : RegionRec) :
    d.Frame (d.loseVolatile k r) [.regs, .evt, .jrn, .slices, .tier, .poison, .out, .freeCtr] evtFields := by
  unfold Dev.loseVolatile
  extract_lets +onlyGivenNames ps lo d
  refine .use d ?_ fun h => ?_
  · unfold d
    exact .update (.refl _)
  · refine .ite (fun _ => h) fun _ => ?_
    extract_lets +onlyGivenNames lost _ d
    refine .use d ?_ fun h => ?_
    · unfold d
      exact .step (.update (h)) (Dev.notePoison_frame ..)
    · extract_lets +onlyGivenNames d
      refine .use d ?_ fun h => ?_
      · unfold d
        exact .step (.step (h) (Dev.dropCached_frame ..)) (Dev.journal_frame ..)
      · exact .step h (Dev.raise_frame ..)

theorem Dev.stackLostQueues_frame (d : Dev) (k : Nat) :
    d.Frame (d.stackLostQueues k) [.regs, .ust, .evt, .jrn, .qen, .out] (evtFields.append [.QEN_STRANDw_STRANDED,
        .QEN_GRPg_REHOMED]) := by
  unfold Dev.stackLostQueues
  extract_lets +onlyGivenNames hit d
  refine .use d ?_ fun h => ?_
  · unfold d
    exact .thenEach (.refl _) fun d a => .step (.refl _) (Dev.resetQueue_frame ..)
  · refine .thenEach (h) fun d a => ?_
    split
    · exact .refl _
    · extract_lets +onlyGivenNames _ d
      refine .use d ?_ fun h => ?_
      · unfold d
        exact .update (.refl _)
      · exact .step (.step (h) (Dev.setFlag_frame ..)) (Dev.groupHealth_frame ..)

theorem Dev.stackGone_frame (d : Dev) (k : Nat) :
    d.Frame (d.stackGone k) [.regs, .ust, .evt, .jrn, .slices, .tier, .poison, .med, .qen, .out,
        .freeCtr] (evtFields.append [.DRT_REMIRROR_ACTIVE, .QEN_STRANDw_STRANDED, .QEN_GRPg_REHOMED,
        .DRT_PDEG_CAUSE, .DRT_PDEG_ACTIVE, .GLB_STATUS_PDEG]) := by
  unfold Dev.stackGone
  extract_lets +onlyGivenNames again d
  refine .use d ?_ fun h => ?_
  · unfold d
    refine .thenEach (.refl _) fun d a => ?_
    extract_lets +onlyGivenNames rest
    refine .ite (fun _ => .refl _) fun _ => ?_
    refine .ite (fun _ => .update (.refl _)) fun _ => ?_
    refine .ite (fun _ => .step (.update (.refl _)) (Dev.setPage_frame ..)) fun _ => ?_
    refine .ite (fun _ => ?_) fun _ => .step (.refl _) (Dev.losePage_frame ..)
    split
    · rename_i x0 x1 x2 hx
      refine .of_pair hx (.step (.refl _) (Dev.pickStacks_frame ..)) fun h => ?_
      extract_lets +onlyGivenNames lines
      exact .step h (Dev.setPage_frame ..)
  · extract_lets +onlyGivenNames d
    refine .use d ?_ fun h => ?_
    · unfold d
      exact .ite (fun _ => .step (h) (Dev.doubleFault_frame ..)) fun _ => h
    · extract_lets +onlyGivenNames d
      refine .use d ?_ fun h => ?_
      · unfold d
        refine .ite (fun _ => ?_) fun _ => h
        exact .thenEach (h) fun d a => .step (.refl _) (Dev.loseVolatile_frame ..)
      · refine .step ?_ (Dev.judgePdeg_frame ..)
        exact .step (.step (h) (Dev.remirrorState_frame ..)) (Dev.stackLostQueues_frame ..)

theorem Dev.checkNoTier_frame (d : Dev) :
    d.Frame d.checkNoTier [.regs, .slices, .med] [.PWR_STEP_NOTIER, .JRN_STATUS_THROUGH_ALL] := by
  unfold Dev.checkNoTier
  refine .ite (fun _ => ?_) fun _ => ?_
  · refine .ite (fun _ => .refl _) fun _ => ?_
    extract_lets +onlyGivenNames d
    refine .use d ?_ fun h => ?_
    · unfold d
      exact .step (.step (.refl _) (Dev.setFlag_frame ..)) (Dev.setFlag_frame ..)
    · exact .update (h)
  · refine .ite (fun _ => ?_) fun _ => .refl _
    exact .step (.step (.refl _) (Dev.setFlag_frame ..)) (Dev.setFlag_frame ..)

theorem Dev.bringUp_frame (d : Dev) (ix : Nat) :
    d.Frame (d.bringUp ix) [.regs, .ust, .evt, .jrn, .out] evtFields := by
  unfold Dev.bringUp
  refine .ite (fun _ => ?_) fun _ => .refl _
  exact .step (.step (.refl _) (Dev.setUnit_frame ..)) (Dev.setUnit_frame ..)

theorem Dev.freeGroup_frame (d : Dev) (g : Nat) :
    d.Frame (d.freeGroup g) [.qen] [] := by
  unfold Dev.freeGroup
  split
  · exact .ite (fun _ => .refl _) fun _ => .update (.refl _)
  · exact .refl _

theorem Dev.startRegions_frame (d : Dev) :
    d.Frame d.startRegions [.regs, .ust, .evt, .jrn, .qen, .out] evtFields := by
  unfold Dev.startRegions
  extract_lets +onlyGivenNames noTier noMedia
  dsimp only
  refine .thenEach ?_ fun d a => ?_
  · refine .thenEach (.refl _) fun d a => ?_
    refine .ite (fun _ => ?_) fun _ => ?_
    · exact .ite (fun _ => .step (.refl _) (Dev.setUnit_frame ..)) fun _ => .refl _
    · exact .ite (fun _ => .step (.refl _) (Dev.bringUp_frame ..)) fun _ => .refl _
  · refine .ite (fun _ => ?_) fun _ => ?_
    · refine .ite (fun _ => ?_) fun _ => .refl _
      exact .step (.step (.refl _) (Dev.setUnit_frame ..)) (Dev.freeGroup_frame ..)
    · exact .ite (fun _ => .step (.refl _) (Dev.bringUp_frame ..)) fun _ => .refl _

theorem Dev.stackFail_frame (d : Dev) (k : Nat) (cause : Nat) :
    d.Frame (d.stackFail k cause) [.regs, .ust, .evt, .jrn, .slices, .tier, .poison, .med, .qen, .out,
        .freeCtr] (evtFields.append [.DRT_REMIRROR_ACTIVE, .QEN_STRANDw_STRANDED, .QEN_GRPg_REHOMED,
        .DRT_PDEG_CAUSE, .DRT_PDEG_ACTIVE, .GLB_STATUS_PDEG, .PWR_STEP_NOTIER, .JRN_STATUS_THROUGH_ALL]) := by
  unfold Dev.stackFail
  extract_lets +onlyGivenNames again d
  refine .use d ?_ fun h => ?_
  · unfold d
    exact .step (.refl _) (Dev.setUnit_frame ..)
  · extract_lets +onlyGivenNames d
    refine .use d ?_ fun h => ?_
    · unfold d
      exact .step h (Dev.raise_frame ..)
    · extract_lets +onlyGivenNames d
      refine .use d ?_ fun h => ?_
      · unfold d
        exact .ite (fun _ => .step (h) (Dev.doubleFault_frame ..)) fun _ => h
      · extract_lets +onlyGivenNames d
        refine .use d ?_ fun h => ?_
        · unfold d
          exact .step h (Dev.stackGone_frame ..)
        · refine .ite (fun _ => ?_) fun _ => h
          exact .step (.step (h) (Dev.checkNoTier_frame ..)) (Dev.startRegions_frame ..)

theorem Dev.sqLeave_frame (d : Dev) :
    d.Frame d.sqLeave [.regs, .pwr, .pin] [.PWR_STEP_SQ_WAIT, .PWR_SQ_STAT_HOLDING] := by
  unfold Dev.sqLeave
  exact .step (.step (.update (.refl _)) (Dev.setFlag_frame ..)) (Dev.sqHold_frame ..)

theorem Dev.recoveryMode_frame (d : Dev) :
    d.Frame d.recoveryMode [.regs, .cfg, .evt, .pwr, .pin, .out] (evtFields.append [.IMG_STATUS_ACTIVE_SLOT,
        .IMG_STATUS_RECOVERY, .PWR_STEP_RECOVERY, .PWR_STEP_SQ_WAIT, .PWR_SQ_STAT_HOLDING]) := by
  unfold Dev.recoveryMode
  extract_lets +onlyGivenNames d
  refine .use d ?_ fun h => ?_
  · unfold d
    exact .update (.refl _)
  · extract_lets +onlyGivenNames d
    refine .use d ?_ fun h => ?_
    · unfold d
      exact .step (.step (h) (Dev.setReg_frame ..)) (Dev.setFlag_frame ..)
    · exact .step (.step (.step (h) (Dev.setFlag_frame ..)) (Dev.raise_frame ..)) (Dev.sqLeave_frame ..)

theorem Dev.checkMigrated_frame (d : Dev) :
    d.Frame d.checkMigrated [.regs, .boot, .evt, .out] (evtFields.append [.IMG_STATUS_ROLLING]) := by
  unfold Dev.checkMigrated
  refine .ite (fun _ => ?_) fun _ => .refl _
  extract_lets +onlyGivenNames _ d
  refine .use d ?_ fun h => ?_
  · unfold d
    exact .update (.refl _)
  · exact .step (.step (h) (Dev.raise_frame ..)) (Dev.setFlag_frame ..)

theorem Dev.setGeometry_frame (d : Dev) (old : BandCfg) (new : BandCfg) :
    d.Frame (d.setGeometry old new) [.regs, .boot, .evt, .jrn, .med,
        .out] (evtFields.append [.IMG_STATUS_ROLLING]) := by
  unfold Dev.setGeometry
  refine .ite (fun _ => .refl _) fun _ => ?_
  extract_lets +onlyGivenNames olds k place bands _ _ d
  refine .use d ?_ fun h => ?_
  · unfold d
    exact .update (.refl _)
  · extract_lets +onlyGivenNames d
    refine .use d ?_ fun h => ?_
    · unfold d
      refine .ite (fun _ => h) fun _ => ?_
      exact .thenEach (h) fun d a => .step (.refl _) (Dev.closeBand_frame ..)
    · exact .step h (Dev.checkMigrated_frame ..)

theorem Dev.dropUnit_frame (d : Dev) (ix : Nat) :
    d.Frame (d.dropUnit ix) [.regs, .ust, .evt, .jrn, .out] evtFields := by
  unfold Dev.dropUnit
  exact .ite (fun _ => .refl _) fun _ => .step (.refl _) (Dev.setUnit_frame ..)

theorem Dev.bornUnit_frame (d : Dev) (ix : Nat) :
    d.Frame (d.bornUnit ix) [.regs, .ust, .evt, .jrn, .out] evtFields := by
  unfold Dev.bornUnit
  exact .ite (fun _ => .step (.refl _) (Dev.setUnit_frame ..)) fun _ => .refl _

theorem Dev.bornLinks_frame (d : Dev) (c : Cfg) :
    d.Frame (d.bornLinks c) [.regs, .ust, .evt, .jrn, .out] evtFields := by
  unfold Dev.bornLinks
  exact .thenEach (.refl _) fun d a => .step (.refl _) (Dev.bornUnit_frame ..)

theorem Dev.allocSegs_frame (d : Dev) (c : Cfg) :
    d.Frame (d.allocSegs c) [.med] [] := by
  unfold Dev.allocSegs
  extract_lets +onlyGivenNames keys named segs
  exact .update (.refl _)

theorem Dev.fitLsa_frame (d : Dev) (c : Cfg) :
    d.Frame (d.fitLsa c) [.mgt] [] := by
  unfold Dev.fitLsa
  exact .update (.refl _)

theorem Dev.switchPll_frame (d : Dev) (p : Nat) (c : Nat) :
    d.Frame (d.switchPll p c) [.regs, .clk] [.CLK_SRC_SEL_PLL_REF, .CLK_STATUS_TB_COARSE, .CLK_SRC_READY_LOCK,
        .CLK_STATUS_SWITCHING] := by
  unfold Dev.switchPll
  extract_lets +onlyGivenNames d
  refine .use d ?_ fun h => ?_
  · unfold d
    exact .step (.refl _) (Dev.setPllRef_frame ..)
  · refine .ite (fun _ => h) fun _ => ?_
    extract_lets +onlyGivenNames _ d
    refine .use d ?_ fun h => ?_
    · unfold d
      exact .update (h)
    · exact .step (.step (h) (Dev.setFieldBit_frame ..)) (Dev.setFlag_frame ..)

theorem Dev.applyClockPlan_frame (d : Dev) :
    d.Frame d.applyClockPlan [.regs, .clk] [.CLK_SRC_SEL_PLL_REF, .CLK_STATUS_TB_COARSE, .CLK_SRC_READY_LOCK,
        .CLK_STATUS_SWITCHING, .CLK_SRC_SEL_WCLK_SOSC] := by
  unfold Dev.applyClockPlan
  split
  · exact .refl _
  · extract_lets +onlyGivenNames d
    refine .use d ?_ fun h => ?_
    · unfold d
      refine .thenEach (.refl _) fun d a => ?_
      extract_lets +onlyGivenNames r
      exact .ite (fun _ => .refl _) fun _ => .step (.refl _) (Dev.switchPll_frame ..)
    · exact .step h (Dev.setFlag_frame ..)

theorem Dev.startPlls_frame (d : Dev) :
    d.Frame d.startPlls [.regs, .clk] [.CLK_SRC_READY_LOCK] := by
  unfold Dev.startPlls
  extract_lets +onlyGivenNames late _ d
  refine .use d ?_ fun h => ?_
  · unfold d
    exact .update (.refl _)
  · exact .thenEach (h) fun d a => .step (.refl _) (Dev.setFieldBit_frame ..)

theorem Dev.raiseMpg_frame (d : Dev) (g : Nat) :
    d.Frame (d.raiseMpg g) [.regs, .pwr] [.PWR_MPG_MPEN, .PWR_MPGg_CNT_CYCLES] := by
  unfold Dev.raiseMpg
  refine .ite (fun _ => .refl _) fun _ => ?_
  extract_lets +onlyGivenNames d
  refine .use d ?_ fun h => ?_
  · unfold d
    exact .step (.step (.refl _) (Dev.setFieldBit_frame ..)) (Dev.count_frame ..)
  · exact .update (h)

theorem Dev.selfRefresh_frame (d : Dev) (on : Bool) :
    d.Frame (d.selfRefresh on) [.regs] [.DRT_STACKd_STAT_SELF_REFRESH] := by
  unfold Dev.selfRefresh
  exact .thenEach (.refl _) fun d a => .step (.refl _) (Dev.setFlag_frame ..)

theorem Dev.releaseIface_frame (d : Dev) (i : Nat) :
    d.Frame (d.releaseIface i) [.mgt] [] := by
  unfold Dev.releaseIface
  extract_lets +onlyGivenNames x
  exact .update (.refl _)

theorem Dev.gatherBack_frame (d : Dev) (b : Nat) :
    d.Frame (d.gatherBack b) [.med] [] := by
  unfold Dev.gatherBack
  exact .update (.refl _)

theorem Dev.checkOverdue_frame (d : Dev) :
    d.Frame d.checkOverdue [.regs, .evt, .med, .out] evtFields := by
  unfold Dev.checkOverdue
  refine .thenEach (.refl _) fun d a => ?_
  exact .step (.step (.refl _) (Dev.setBand_frame ..)) (Dev.raise_frame ..)

theorem Dev.writeMapPage_frame (d : Dev) (x : MapLine) :
    d.Frame (d.writeMapPage x) [.regs, .evt, .pmc, .jrn, .med, .cry, .out,
        .freeCtr] (evtFields.append [.ORC_CACHE_HITS, .PMC_SNAPn_COUNT, .PMC_CTRn_COUNT,
        .MCX_SCHED_CNT1_SUS_EXHAUST, .MCX_SCHED_CNT0_SUSPENDS, .MCX_SCHED_CNT0_READAROUND, .GLB_WEAR_STAT_DEBT]) := by
  unfold Dev.writeMapPage
  exact .ite (fun _ => .refl _) fun _ => .step (.refl _) (Dev.addMeta_frame ..)

theorem Dev.setSweep_frame (d : Dev) (n : Nat) (w : Sweep) :
    d.Frame (d.setSweep n w) [.cry] [] := by
  unfold Dev.setSweep
  exact .update (.refl _)

theorem Dev.linkEvent_frame (d : Dev) (m : Nat) (train : Nat) :
    d.Frame (d.linkEvent m train) [.regs, .evt, .out] evtFields := by
  unfold Dev.linkEvent
  exact .step (.refl _) (Dev.raise_frame ..)

theorem Dev.takePendings_frame (d : Dev) :
    d.Frame d.takePendings [.jrn, .slices, .med, .tal, .per, .qch] [] := by
  unfold Dev.takePendings
  extract_lets +onlyGivenNames held d
  refine .use d ?_ fun h => ?_
  · unfold d
    exact .thenEach (.refl _) fun d a => .step (.refl _) (Dev.journal_frame ..)
  · exact .update (h)

theorem Dev.cleanPage_frame (d : Dev) (lpn : Nat) (p : TPage) :
    d.Frame (d.cleanPage lpn p) [.tier, .per, .qch] [] := by
  unfold Dev.cleanPage
  extract_lets +onlyGivenNames d
  refine .use d ?_ fun h => ?_
  · unfold d
    exact .step (.refl _) (Dev.setPage_frame ..)
  · exact .update (h)

theorem Dev.freeBand_frame (d : Dev) (b : Nat) :
    d.Frame (d.freeBand b) [.regs, .evt, .jrn, .med, .out] (evtFields.append [.DRT_LEHR_CNT_RD_BANDS,
        .DRT_LEHR_CNT_URG_BANDS]) := by
  unfold Dev.freeBand
  split
  · exact .refl _
  · extract_lets +onlyGivenNames worn d
    refine .use d ?_ fun h => ?_
    · unfold d
      refine .thenEach (.refl _) fun d a => ?_
      extract_lets +onlyGivenNames y y
      refine .ite (fun _ => .refl _) fun _ => ?_
      exact .ite (fun _ => .step (.refl _) (Dev.retireBlock_frame ..)) fun _ => .step (.refl _) (Dev.setBlock_frame
          ..)
    · extract_lets +onlyGivenNames d
      refine .use d ?_ fun h => ?_
      · unfold d
        exact .ite (fun _ => .step (h) (Dev.count_frame ..)) fun _ => h
      · extract_lets +onlyGivenNames d
        refine .use d ?_ fun h => ?_
        · unfold d
          exact .ite (fun _ => .step (h) (Dev.count_frame ..)) fun _ => h
        · extract_lets +onlyGivenNames _ d
          refine .use d ?_ fun h => ?_
          · unfold d
            exact .update (h)
          · exact .step h (Dev.journal_frame ..)

theorem Dev.sweepVictims_frame (d : Dev) :
    d.Frame d.sweepVictims [.regs, .evt, .jrn, .med, .out] (evtFields.append [.DRT_LEHR_CNT_RD_BANDS,
        .DRT_LEHR_CNT_URG_BANDS]) := by
  unfold Dev.sweepVictims
  extract_lets +onlyGivenNames vs
  exact .thenEach (.refl _) fun d a => .step (.refl _) (Dev.freeBand_frame ..)

theorem Dev.pruneImages_frame (d : Dev) :
    d.Frame d.pruneImages [.regs, .qch] [.JRN_STATUS_RETAINED] := by
  unfold Dev.pruneImages
  extract_lets +onlyGivenNames used _ d
  refine .use d ?_ fun h => ?_
  · unfold d
    exact .update (.refl _)
  · exact .step h (Dev.setFlag_frame ..)

theorem Dev.flushJournal_frame (d : Dev) :
    d.Frame d.flushJournal [.regs, .evt, .jrn, .tier, .med, .per, .qch,
        .out] (evtFields.append [.DRT_LEHR_CNT_RD_BANDS, .DRT_LEHR_CNT_URG_BANDS, .JRN_STATUS_RETAINED]) := by
  unfold Dev.flushJournal
  extract_lets +onlyGivenNames landed d
  refine .use d ?_ fun h => ?_
  · unfold d
    exact .step (.thenEach (.refl _) fun d a => .step (.refl _) (Dev.cleanPage_frame ..)) (Dev.trimClean_frame ..)
  · extract_lets +onlyGivenNames d
    refine .use d ?_ fun h => ?_
    · unfold d
      exact .step h (Dev.sweepVictims_frame ..)
    · exact .step (.update (h)) (Dev.pruneImages_frame ..)

theorem Dev.measureC_frame (d : Dev) :
    d.Frame d.measureC [.regs, .per] [.JRN_HOLDUP_C_MEASURED, .JRN_HOLDUP_C_EFF_PCT] := by
  unfold Dev.measureC
  split
  · exact .refl _
  · extract_lets +onlyGivenNames den
    refine .ite (fun _ => .refl _) fun _ => ?_
    extract_lets +onlyGivenNames ceff _ d
    refine .use d ?_ fun h => ?_
    · unfold d
      exact .update (.refl _)
    · extract_lets +onlyGivenNames d
      refine .use d ?_ fun h => ?_
      · unfold d
        exact .step h (Dev.setFlag_frame ..)
      · exact .ite (fun _ => h) fun _ => .step (h) (Dev.setReg_frame ..)

theorem Dev.setHoldup_frame (d : Dev) (ok : Bool) :
    d.Frame (d.setHoldup ok) [.regs, .evt, .out] (evtFields.append [.JRN_STATUS_HOLDUP_OK,
        .JRN_STATUS_THROUGH_ALL]) := by
  unfold Dev.setHoldup
  refine .ite (fun _ => .refl _) fun _ => ?_
  extract_lets +onlyGivenNames d
  refine .use d ?_ fun h => ?_
  · unfold d
    exact .step (.step (.refl _) (Dev.setFlag_frame ..)) (Dev.setFlag_frame ..)
  · exact .ite (fun _ => .step (h) (Dev.raise_frame ..)) fun _ => h

theorem Dev.drainUnit_frame (d : Dev) (ix : Nat) (target : Option UState) :
    d.Frame (d.drainUnit ix target) [.regs, .ust, .evt, .jrn, .qen, .out] evtFields := by
  unfold Dev.drainUnit
  extract_lets +onlyGivenNames d
  refine .use d ?_ fun h => ?_
  · unfold d
    exact .step (.refl _) (Dev.setUnit_frame ..)
  · refine .ite (fun _ => ?_) fun _ => .step (h) (Dev.setUnitRec_frame ..)
    split
    · extract_lets +onlyGivenNames d
      refine .use d ?_ fun h => ?_
      · unfold d
        exact .step h (Dev.setUnit_frame ..)
      · exact .ite (fun _ => .step (h) (Dev.freeGroup_frame ..)) fun _ => h
    · exact h

theorem Dev.startBg_frame (d : Dev) (i : Nat) (opcode : Nat) :
    d.Frame (d.startBg i opcode) [.mgt] [] := by
  unfold Dev.startBg
  exact .update (.refl _)

theorem Dev.measureSentinels_frame (d : Dev) (p : Nat) :
    d.Frame (d.measureSentinels p) [.med] [] := by
  unfold Dev.measureSentinels
  exact .thenEach (.refl _) fun d a => .step (.refl _) (Dev.sendCmd_frame ..)

theorem Dev.clearedBlock_frame (d : Dev) (k : Nat) (wear : Nat) :
    d.Frame (d.clearedBlock k wear) [.med, .freeCtr] [] := by
  unfold Dev.clearedBlock
  extract_lets +onlyGivenNames x
  refine .ite (fun _ => ?_) fun _ => .refl _
  split
  · rename_i x0 x1 x2 hx
    refine .of_pair hx (.step (.refl _) (Dev.drawFree_frame ..)) fun h => ?_
    exact .step h (Dev.setBlock_frame ..)

theorem Dev.endBg_frame (d : Dev) (i : Nat) (opcode : Nat) (rc : Nat) :
    d.Frame (d.endBg i opcode rc) [.mgt] [] := by
  unfold Dev.endBg
  exact .update (.refl _)

theorem Dev.loseEngineRecords_frame (d : Dev) (k : Nat) :
    d.Frame (d.loseEngineRecords k) [.regs, .evt, .jrn, .slices, .tier, .poison, .qen, .tal,
        .out] (evtFields.append [.TAL_SETs_STAT_LOST, .TAL_SETs_STAT_INEXACT, .QEN_STRANDw_STRANDED]) := by
  unfold Dev.loseEngineRecords
  extract_lets +onlyGivenNames hit d
  refine .use d ?_ fun h => ?_
  · unfold d
    refine .thenEach (.refl _) fun d a => ?_
    exact .step (.step (.refl _) (Dev.loseRecord_frame ..)) (Dev.unlog_frame ..)
  · extract_lets +onlyGivenNames _ d
    refine .use d ?_ fun h => ?_
    · unfold d
      exact .update (h)
    · extract_lets +onlyGivenNames s
      exact .step h (Dev.setSlice_frame ..)

theorem Dev.graftCounter_frame (d : Dev) (k : Nat) :
    d.Frame (d.graftCounter k) [.cry] [] := by
  unfold Dev.graftCounter
  extract_lets +onlyGivenNames o
  exact .step (.update (.refl _)) (Dev.orcMark_frame ..)

theorem Dev.graftAbove_frame (d : Dev) (level : Nat) (index : Nat) (top : Nat) :
    d.Frame (d.graftAbove level index top) [.cry] [] := by
  unfold Dev.graftAbove
  exact .thenEach (.refl _) fun d a => .step (.refl _) (Dev.graftCounter_frame ..)

theorem Dev.countExcursion_frame (d : Dev) (r : Nat) (k : RailKind) :
    d.Frame (d.countExcursion r k) [.regs] [.PWR_RAILr_CNT_UV, .PWR_RAILr_CNT_OV, .PWR_RAILr_CNT_OC] := by
  unfold Dev.countExcursion
  split
  · exact .step (.refl _) (Dev.count_frame ..)
  · exact .step (.refl _) (Dev.count_frame ..)
  · exact .step (.refl _) (Dev.count_frame ..)

theorem Dev.judgeCapacity_frame (d : Dev) :
    d.Frame d.judgeCapacity [.regs, .evt, .out] (evtFields.append [.DRT_PDEG_CAUSE, .DRT_PDEG_ACTIVE,
        .GLB_STATUS_PDEG]) := by
  unfold Dev.judgeCapacity
  extract_lets +onlyGivenNames d
  refine .use d ?_ fun h => ?_
  · unfold d
    exact .ite (fun _ => .step (.refl _) (Dev.setPdeg_frame ..)) fun _ => .refl _
  · exact .ite (fun _ => .step (h) (Dev.setPdeg_frame ..)) fun _ => h

theorem Dev.packageStarted_frame (d : Dev) (p : Nat) :
    d.Frame (d.packageStarted p) [.regs, .evt, .med, .out] (evtFields.append [.DRT_PDEG_CAUSE, .DRT_PDEG_ACTIVE,
        .GLB_STATUS_PDEG]) := by
  unfold Dev.packageStarted
  extract_lets +onlyGivenNames x
  refine .ite (fun _ => ?_) fun _ => .step (.refl _) (Dev.measureSentinels_frame ..)
  extract_lets +onlyGivenNames _ d
  refine .use d ?_ fun h => ?_
  · unfold d
    exact .update (.refl _)
  · extract_lets +onlyGivenNames d
    refine .use d ?_ fun h => ?_
    · unfold d
      exact .step h (Dev.setPkg_frame ..)
    · exact .step (.update (h)) (Dev.judgeCapacity_frame ..)

theorem Dev.settleTier_frame (d : Dev) :
    d.Frame d.settleTier [.cfg, .boot, .tier] [] := by
  unfold Dev.settleTier
  split
  · extract_lets +onlyGivenNames o clean freed grow tier _ d
    refine .use d ?_ fun h => ?_
    · unfold d
      exact .update (.refl _)
    · exact .ite (fun _ => h) fun _ => .step (h) (Dev.trimClean_frame ..)
  · exact .refl _

theorem Dev.mergeBoundary_frame (d : Dev) (cs : CounterSet) (b : Nat) (commanded : Bool) (automatic : Bool) :
    d.Frame (d.mergeBoundary cs b commanded automatic) [.regs, .evt, .jrn, .slices, .tier, .poison, .tal, .per,
        .out, .freeCtr] (evtFields.append [.TAL_SETs_STAT_SKIPPED, .TAL_SETs_STAT_COPYING, .DRT_PDEG_CAUSE,
        .DRT_PDEG_ACTIVE, .GLB_STATUS_PDEG, .DRT_PDEG_LOST, .JRN_THRU_LINES]) := by
  unfold Dev.mergeBoundary
  extract_lets +onlyGivenNames x epoch d
  refine .use d ?_ fun h => ?_
  · unfold d
    exact .step (.refl _) (Dev.setTalSet_frame ..)
  · refine .ite (fun _ => h) fun _ => ?_
    refine .ite (fun _ => ?_) fun _ => .step (h) (Dev.startSnapshot_frame ..)
    extract_lets +onlyGivenNames d
    refine .use d ?_ fun h => ?_
    · unfold d
      exact .step h (Dev.count_frame ..)
    · exact .ite (fun _ => .step (h) (Dev.raise_frame ..)) fun _ => h

theorem Dev.takeBoundary_frame (d : Dev) (set : Nat) (auto : Bool) :
    d.Frame (d.takeBoundary set auto) [.regs, .evt, .jrn, .slices, .tier, .poison, .tal, .per, .out,
        .freeCtr] (evtFields.append [.TAL_SETs_STAT_SKIPPED, .TAL_SETs_STAT_COPYING, .DRT_PDEG_CAUSE,
        .DRT_PDEG_ACTIVE, .GLB_STATUS_PDEG, .DRT_PDEG_LOST, .JRN_THRU_LINES]) := by
  unfold Dev.takeBoundary
  split
  · exact .refl _
  · split
    · exact .refl _
    · refine .thenWhen (.refl _) fun d => ?_
      exact .thenAsOf (.refl _) fun d => .step (.refl _) (Dev.mergeBoundary_frame ..)

theorem Dev.timeoutEvent_frame (d : Dev) (q : Nat) (seq : Nat) :
    d.Frame (d.timeoutEvent q seq) [.regs, .evt, .out] evtFields := by
  unfold Dev.timeoutEvent
  extract_lets +onlyGivenNames g
  exact .step (.refl _) (Dev.raise_frame ..)

theorem Dev.setSlot_frame (d : Dev) (n : Nat) (st : SlotSt) (key : Key) (sweep : Nat) :
    d.Frame (d.setSlot n st key sweep) [.regs, .evt, .jrn, .cry, .out] evtFields := by
  unfold Dev.setSlot
  extract_lets +onlyGivenNames d
  refine .use d ?_ fun h => ?_
  · unfold d
    exact .step (.refl _) (Dev.keepKeys_frame ..)
  · extract_lets +onlyGivenNames g _ d
    refine .use d ?_ fun h => ?_
    · unfold d
      exact .update (h)
    · extract_lets +onlyGivenNames heads
      exact .step (.step (h) (Dev.journal_frame ..)) (Dev.raise_frame ..)

theorem Dev.keyError_frame (d : Dev) (r : Req) :
    d.Frame (d.keyError r) [.regs, .evt, .out] (evtFields.append [.RGN_HOSTERR_COUNT]) := by
  unfold Dev.keyError
  extract_lets +onlyGivenNames ki
  exact .ite (fun _ => .step (.refl _) (Dev.hostError_frame ..)) fun _ => .refl _

theorem Dev.domainOn_frame (d : Dev) (ix : Nat) :
    d.Frame (d.domainOn ix) [.regs] [.PWR_PD_ON] := by
  unfold Dev.domainOn
  dsimp only
  split
  · exact .ite (fun _ => .step (.refl _) (Dev.setFieldBit_frame ..)) fun _ => .refl _
  · exact .ite (fun _ => .step (.refl _) (Dev.setFieldBit_frame ..)) fun _ => .refl _
  · exact .ite (fun _ => .step (.refl _) (Dev.setFieldBit_frame ..)) fun _ => .refl _
  · exact .refl _

theorem Dev.repairUnit_frame (d : Dev) (ix : Nat) :
    d.Frame (d.repairUnit ix) [.regs, .ust, .evt, .jrn, .out] (evtFields.append [.PWR_PD_ON]) := by
  unfold Dev.repairUnit
  dsimp only
  refine .ite (fun _ => ?_) fun _ => ?_
  · refine .thenEach (.step (.step (.step (.refl _) (Dev.domainOn_frame ..)) (Dev.setUnit_frame ..))
      (Dev.setUnitRec_frame ..)) fun d a => ?_
    refine .ite (fun _ => ?_) fun _ => .refl _
    exact .step (.step (.step (.refl _) (Dev.domainOn_frame ..)) (Dev.setUnit_frame ..)) (Dev.setUnitRec_frame ..)
  · exact .step (.step (.step (.refl _) (Dev.domainOn_frame ..)) (Dev.setUnit_frame ..)) (Dev.setUnitRec_frame ..)

theorem Dev.resetGroup_frame (d : Dev) (g : Nat) :
    d.Frame (d.resetGroup g) [.regs, .qen] [.QEN_STRANDw_STRANDED] := by
  unfold Dev.resetGroup
  exact .thenEach (.refl _) fun d a => .step (.refl _) (Dev.resetQueue_frame ..)

theorem Dev.accrueDose_frame (d : Dev) (p : Nat) (t : Option Nat) :
    d.Frame (d.accrueDose p t) [.med] [] := by
  unfold Dev.accrueDose
  extract_lets +onlyGivenNames _ d
  refine .use d ?_ fun h => ?_
  · unfold d
    exact .update (.refl _)
  · exact .step h (Dev.setPkg_frame ..)

theorem Dev.mapTrim_frame (d : Dev) :
    d.Frame d.mapTrim [.regs, .evt, .pmc, .jrn, .med, .cry, .out, .freeCtr] (evtFields.append [.ORC_CACHE_HITS,
        .PMC_SNAPn_COUNT, .PMC_CTRn_COUNT, .MCX_SCHED_CNT1_SUS_EXHAUST, .MCX_SCHED_CNT0_SUSPENDS,
        .MCX_SCHED_CNT0_READAROUND, .GLB_WEAR_STAT_DEBT]) := by
  unfold Dev.mapTrim
  split
  · exact .refl _
  · exact .ite (fun _ => .step (.refl _) (Dev.writeMapPage_frame ..)) fun _ => .update (.refl _)

theorem Dev.complexGone_frame (d : Dev) (n : Nat) :
    d.Frame (d.complexGone n) [.regs, .med] [.MCX_LINKi_ERR_REISSUE] := by
  unfold Dev.complexGone
  extract_lets +onlyGivenNames ms
  refine .thenEach (.refl _) fun d a => ?_
  exact .step (.step (.refl _) (Dev.rehomeDies_frame ..)) (Dev.reissueLink_frame ..)

theorem Dev.writeTables_frame (d : Dev) :
    d.Frame d.writeTables [.regs, .evt, .pmc, .jrn, .med, .cry, .out, .freeCtr] (evtFields.append [.ORC_CACHE_HITS,
        .PMC_SNAPn_COUNT, .PMC_CTRn_COUNT, .MCX_SCHED_CNT1_SUS_EXHAUST, .MCX_SCHED_CNT0_SUSPENDS,
        .MCX_SCHED_CNT0_READAROUND, .GLB_WEAR_STAT_DEBT]) := by
  unfold Dev.writeTables
  extract_lets +onlyGivenNames d
  refine .use d ?_ fun h => ?_
  · unfold d
    exact .thenEach (.refl _) fun d a => .step (.refl _) (Dev.writeMapPage_frame ..)
  · refine .thenEach (h) fun d a => ?_
    split
    · rename_i x0 x1 hx
      refine .of_pair hx (.step (.refl _) (Dev.addMeta_frame ..)) fun h => ?_
      extract_lets +onlyGivenNames _ d
      refine .use d ?_ fun h => ?_
      · unfold d
        exact .step h (Dev.setOrc_frame ..)
      · exact .update (h)
    · rename_i x0 x1 hx
      refine .of_pair hx (.step (.refl _) (Dev.addMeta_frame ..)) fun h => ?_
      exact .refl _

theorem Dev.keepMeta_frame (d : Dev) :
    d.Frame d.keepMeta [.regs, .evt, .jrn, .med, .out, .freeCtr] (evtFields.append [.GLB_WEAR_STAT_DEBT]) := by
  unfold Dev.keepMeta
  exact .thenEach (.refl _) fun d a => .step (.refl _) (Dev.openBand_frame ..)

theorem Dev.domainOff_frame (d : Dev) (ix : Nat) :
    d.Frame (d.domainOff ix) [.regs] [.PWR_PD_ON] := by
  unfold Dev.domainOff
  split
  · exact .step (.refl _) (Dev.setFieldBit_frame ..)
  · exact .step (.refl _) (Dev.setFieldBit_frame ..)
  · exact .step (.refl _) (Dev.setFieldBit_frame ..)
  · exact .refl _

theorem Dev.unlock_frame (d : Dev) (src : Nat) (slot : Nat) (pub : List Byte) (sig : List Byte) :
    d.Frame (d.unlock src slot pub sig).2 [.regs, .mgt, .evt, .out] (evtFields.append [.CRY_STATUS_DEBUG_AUTH,
        .CRY_STATUS_LOCKED, .CRY_STATUS_LOCK_CAUSE]) := by
  unfold Dev.unlock
  dsimp only
  refine .ite (fun _ => .step (.update (.refl _)) (Dev.setFlag_frame ..)) fun _ => ?_
  refine .ite (fun _ => ?_) fun _ => .step (.update (.refl _)) (Dev.raise_frame ..)
  exact .step (.step (.update (.refl _)) (Dev.raise_frame ..)) (Dev.lockdown_frame ..)

theorem Dev.faultEvent_frame (d : Dev) (ix : Nat) (st : UState) :
    d.Frame (d.faultEvent ix st) [.regs, .evt, .out] evtFields := by
  unfold Dev.faultEvent
  extract_lets +onlyGivenNames u n
  exact .step (.refl _) (Dev.raise_frame ..)

theorem Dev.startReset_frame (d : Dev) (ix : Nat) (cause : Nat) (hw : Bool) (recovery : Bool) :
    d.Frame (d.startReset ix cause hw recovery) [.regs, .mgt, .ust, .evt, .jrn, .out] evtFields := by
  unfold Dev.startReset
  extract_lets +onlyGivenNames d
  refine .use d ?_ fun h => ?_
  · unfold d
    exact .step (.refl _) (Dev.setUnit_frame ..)
  · extract_lets +onlyGivenNames _ d
    refine .use d ?_ fun h => ?_
    · unfold d
      exact .update (h)
    · exact .step h (Dev.setUnitRec_frame ..)

theorem Dev.savePages_frame (d : Dev) :
    d.Frame d.savePages [.qch] [] := by
  unfold Dev.savePages
  exact .step (.refl _) (Dev.setImage_frame ..)

theorem Dev.spillOverwritten_frame (d : Dev) :
    d.Frame d.spillOverwritten [.regs, .qen, .freeCtr] [.QEN_STRANDw_STRANDED] := by
  unfold Dev.spillOverwritten
  refine .thenEach (.refl _) fun d a => ?_
  split
  · rename_i x0 x1 x2 hx
    refine .of_pair hx (.step (.refl _) (Dev.drawFree_frame ..)) fun h => ?_
    exact .ite (fun _ => .step (h) (Dev.resetQueue_frame ..)) fun _ => h

theorem Dev.quenchPrograms_frame (d : Dev) :
    d.Frame d.quenchPrograms [.med, .freeCtr] [] := by
  unfold Dev.quenchPrograms
  split
  · rename_i x0 x1 x2 hx
    refine .of_pair hx (.step (.refl _) (Dev.drawFree_frame ..)) fun h => ?_
    refine .thenEach (h) fun d a => ?_
    extract_lets +onlyGivenNames n
    split
    · exact .ite (fun _ => .step (.refl _) (Dev.setBand_frame ..)) fun _ => .refl _
    · exact .refl _

theorem Dev.unwrap_frame (d : Dev) (n : Nat) (blob : List Byte) :
    d.Frame (d.unwrap n blob).2 [.regs, .evt, .cry, .out] (evtFields.append [.CRY_ERR1_UNWRAP, .CRY_STATUS_LOCKED,
        .CRY_STATUS_LOCK_CAUSE]) := by
  unfold Dev.unwrap
  split
  · dsimp only
    exact .refl _
  · dsimp only
    refine .ite (fun _ => ?_) fun _ => ?_
    · refine .step ?_ (Dev.lockdown_frame ..)
      exact .step (.update (.step (.refl _) (Dev.count_frame ..))) (Dev.raise_frame ..)
    · exact .step (.update (.step (.refl _) (Dev.count_frame ..))) (Dev.raise_frame ..)

theorem Dev.coreReset_frame (d : Dev) (b : Nat) :
    d.Frame (d.coreReset b) [.regs, .rst] [.RST_CAUSE_POR, .RST_CAUSE_SEQ, .RST_CAUSE_RESET_N, .RST_CAUSE_FATAL,
        .RST_CAUSE_CMD_SYS, .RST_CAUSE_WDT, .RST_CAUSE_CMD_CORE, .RST_CAUSE_LAST_LEVEL, .RST_CAUSE_LAST_SRC] := by
  unfold Dev.coreReset
  extract_lets +onlyGivenNames d
  refine .use d ?_ fun h => ?_
  · unfold d
    exact .step (.refl _) (Dev.noteReset_frame ..)
  · exact .ite (fun _ => h) fun _ => .update (h)

theorem Dev.afterService_frame (d : Dev) (ix : Nat) :
    d.Frame (d.afterService ix) [.regs, .ust, .evt, .jrn, .slices, .med, .qen,
        .out] (evtFields.append [.DRT_PDEG_CAUSE, .DRT_PDEG_ACTIVE, .GLB_STATUS_PDEG, .PWR_STEP_NOTIER,
        .JRN_STATUS_THROUGH_ALL, .DRT_REMIRROR_ACTIVE]) := by
  unfold Dev.afterService
  split
  · exact .ite (fun _ => .step (.refl _) (Dev.startRegions_frame ..)) fun _ => .refl _
  · exact .step (.refl _) (Dev.packageStarted_frame ..)
  · refine .ite (fun _ => ?_) fun _ => .refl _
    refine .step ?_ (Dev.judgePdeg_frame ..)
    refine .step ?_ (Dev.remirrorState_frame ..)
    exact .step (.step (.refl _) (Dev.checkNoTier_frame ..)) (Dev.startRegions_frame ..)
  · exact .refl _

theorem Dev.fallBack_frame (d : Dev) (p : Nat) :
    d.Frame (d.fallBack p) [.regs, .evt, .clk, .out] (evtFields.append [.CLK_SRC_SEL_PLL_REF, .CLK_STATUS_TB_COARSE,
        .CLK_SRC_READY_LOCK, .CLK_STATUS_SWITCHING, .CLK_STATUS_FALLBACK]) := by
  unfold Dev.fallBack
  extract_lets +onlyGivenNames alt
  refine .step ?_ (Dev.raise_frame ..)
  exact .step (.step (.refl _) (Dev.switchPll_frame ..)) (Dev.setFieldBit_frame ..)

theorem Dev.stale_frame (d : Dev) (ix : Nat) :
    d.Frame (d.stale ix) [.regs, .evt, .out] (evtFields.append [.UST_STALE_STALE]) := by
  unfold Dev.stale
  extract_lets +onlyGivenNames u d
  refine .use d ?_ fun h => ?_
  · unfold d
    exact .step (.refl _) (Dev.count_frame ..)
  · exact .ite (fun _ => .step (h) (Dev.raise_frame ..)) fun _ => h

theorem Dev.readBar2_frame (d : Dev) (addr : Nat) (size : Nat) :
    d.Frame (d.readBar2 addr size).2 [.regs, .freeCtr] [.CLK_TB_HI_TB_HI] := by
  unfold Dev.readBar2
  split
  · dsimp only
    exact .refl _
  · dsimp only
    exact .ite (fun _ => .step (.update (.refl _)) (Dev.setReg_frame ..)) fun _ => .update (.refl _)

theorem Dev.scanBoundary_frame (d : Dev) (data : List Byte) :
    d.Frame (d.scanBoundary data) [.mgt, .out, .freeCtr] [] := by
  unfold Dev.scanBoundary
  split
  · rename_i x0 x1 x2 hx
    refine .of_pair hx (.step (.refl _) (Dev.drawFree_frame ..)) fun h => ?_
    exact .step (.update (h)) (Dev.emit_frame ..)

theorem Dev.withKeysAt_frame (d : Dev) (t : Nat) :
    d.Frame (d.withKeysAt t) [.cry] [] := by
  unfold Dev.withKeysAt
  split
  · exact .update (.refl _)
  · exact .refl _

theorem Dev.rekeyPage_frame (d : Dev) (k : Nat) (old : Key) (new : Key) (pid : Nat) :
    d.Frame (d.rekeyPage k old new pid) [.regs, .evt, .pmc, .jrn, .slices, .tier, .poison, .med, .per, .cry, .out,
        .freeCtr] (evtFields.append [.ORC_CACHE_HITS, .PMC_SNAPn_COUNT, .PMC_CTRn_COUNT,
        .MCX_SCHED_CNT1_SUS_EXHAUST, .MCX_SCHED_CNT0_SUSPENDS, .MCX_SCHED_CNT0_READAROUND, .DRT_PDEG_CAUSE,
        .DRT_PDEG_ACTIVE, .GLB_STATUS_PDEG, .DRT_PDEG_LOST, .JRN_THRU_LINES]) := by
  unfold Dev.rekeyPage
  extract_lets +onlyGivenNames d
  refine .use d ?_ fun h => ?_
  · unfold d
    exact .step (.refl _) (Dev.internalReads_frame ..)
  · refine .thenEach (h) fun d a => ?_
    extract_lets +onlyGivenNames lost
    split
    · exact .ite (fun _ => .refl _) fun _ => .step (.refl _) (Dev.storeCell_frame ..)
    · exact .refl _

theorem Dev.challenge_frame (d : Dev) :
    d.Frame (d.challenge).2 [.mgt, .freeCtr] [] := by
  unfold Dev.challenge
  split
  · rename_i x0 x1 x2 hx
    refine .of_pair hx (.step (.refl _) (Dev.drawFree_frame ..)) fun h => ?_
    dsimp only
    exact .update (h)

theorem Dev.powerOff_frame (d : Dev) :
    d.Frame d.powerOff [.aon, .med] [] := by
  unfold Dev.powerOff
  extract_lets +onlyGivenNames d
  refine .use d ?_ fun h => ?_
  · unfold d
    exact .thenEach (.refl _) fun d a => .step (.refl _) (Dev.accrueDose_frame ..)
  · exact .update (h)

theorem Dev.erase_frame (d : Dev) :
    d.Frame d.erase [.regs, .evt, .jrn, .tier, .poison, .med, .per, .qch, .cry, .out] evtFields := by
  unfold Dev.erase
  extract_lets +onlyGivenNames d
  refine .use d ?_ fun h => ?_
  · unfold d
    exact .thenEach (.refl _) fun d a => .step (.refl _) (Dev.setSlot_frame ..)
  · extract_lets +onlyGivenNames _ d
    refine .use d ?_ fun h => ?_
    · unfold d
      exact .update (h)
    · extract_lets +onlyGivenNames d
      refine .use d ?_ fun h => ?_
      · unfold d
        exact .thenEach (h) fun d a => .step (.refl _) (Dev.setMap_frame ..)
      · exact .update (h)

theorem Dev.fwFallback_frame (d : Dev) :
    d.Frame d.fwFallback [.regs, .mgt, .evt, .out] (evtFields.append [.MGT_STATUS_FALLBACK]) := by
  unfold Dev.fwFallback
  extract_lets +onlyGivenNames bad _ d
  refine .use d ?_ fun h => ?_
  · unfold d
    exact .update (.refl _)
  · exact .step (.step (h) (Dev.setFlag_frame ..)) (Dev.raise_frame ..)

theorem Dev.supersede_frame (d : Dev) :
    d.Frame d.supersede [.qch] [] := by
  unfold Dev.supersede
  split
  · exact .refl _
  · exact .update (.refl _)

theorem Dev.regraftLines_frame (d : Dev) (lpn : Nat) :
    d.Frame (d.regraftLines lpn) [.jrn, .slices, .tier, .poison, .med, .cry] [] := by
  unfold Dev.regraftLines
  extract_lets +onlyGivenNames d
  refine .use d ?_ fun h => ?_
  · unfold d
    exact .thenEach (.refl _) fun d a => .step (.refl _) (Dev.poisonLine_frame ..)
  · extract_lets +onlyGivenNames g
    exact .step (.update (h)) (Dev.orcMark_frame ..)

theorem Dev.graftEntry_frame (d : Dev) (k : Nat) :
    d.Frame (d.graftEntry k) [.cry] [] := by
  unfold Dev.graftEntry
  refine .thenEach (.refl _) fun d a => ?_
  exact .ite (fun _ => .step (.refl _) (Dev.graftCounter_frame ..)) fun _ => .refl _

theorem Dev.resetDies_frame (d : Dev) (n : Nat) :
    d.Frame (d.resetDies n) [.med] [] := by
  unfold Dev.resetDies
  refine .thenEach (.refl _) fun d a => ?_
  split
  · exact .refl _
  · refine .ite (fun _ => .refl _) fun _ => ?_
    extract_lets +onlyGivenNames x d
    refine .use d ?_ fun h => ?_
    · unfold d
      exact .step (.refl _) (Dev.setDie_frame ..)
    · exact .update (h)

theorem Dev.underKeysAt_frame {α : Type} (d : Dev) (t : Nat) {f : Dev → α × Dev} {ps : List Part} {fs : List Fld}
    (h : ∀ d, Dev.Frame d (f d).2 ps fs) : d.Frame (d.underKeysAt t f).2 ps fs := by
  obtain ⟨hparts, hfields, hnow, -, l, hl⟩ := h { d.withKeysAt t with cfg := d.cfgAt t, cause := some t }
  have keys := d.withKeysAt_frame t
  refine ⟨fun p hn => ?_, fun f i hn => (hfields f i hn).trans (keys.fields f i (by simp)), hnow.trans keys.now, rfl, l,
    hl.trans (congrArg (l ++ ·) (keys.parts .out (by decide)))⟩
  cases p with
  | cfg => rfl
  | cry =>
    have same : (f { d.withKeysAt t with cfg := d.cfgAt t, cause := some t }).2.cry = (d.withKeysAt t).cry := hparts .cry hn
    have kept : { (d.withKeysAt t).cry with slots := d.cry.slots, sweeps := d.cry.sweeps } = d.cry := by
      unfold Dev.withKeysAt
      split <;> rfl
    exact (congrArg (fun c : CryS => { c with slots := d.cry.slots, sweeps := d.cry.sweeps }) same).trans kept
  | _ => exact Dev.Frame.same_trans (keys.parts _ (by decide)) (hparts _ hn)

theorem Dev.passTag_frame (d : Dev) (k rid : Nat) : d.Frame (d.passTag k rid) [.pmc] [] := by
  unfold Dev.passTag
  extract_lets +onlyGivenNames mine due pmc x
  refine .use x (.update (.refl _)) fun h => ?_
  clear_value due
  cases due with
  | nil => exact h
  | cons t l => exact .update h

theorem Dev.settle_frame (d : Dev) (k e : Nat) : d.Frame (d.settle k e)
    [.regs, .evt, .pmc, .jrn, .heads, .slices, .tier, .poison, .med, .shadow, .per, .out, .freeCtr]
    (evtFields.append [.PMC_SNAPn_COUNT, .PMC_CTRn_COUNT, .GLB_LAT_MISSc_COUNT, .GLB_LAT_WORST_LATE_NS, .GLB_LAT_WORST_CAUSE,
      .PMC_SAMP_STAT_LOST, .PMC_SAMP_STAT_WPTR]) := by
  unfold Dev.settle
  split
  · exact .refl _
  · rename_i t ht
    generalize hq : (if t.acked && !t.through && !t.sent && !t.req.kind.isRead then _ else _) = q
    obtain ⟨x, t⟩ := q
    have answered : d.Frame x [.regs, .evt, .pmc, .jrn, .heads, .slices, .tier, .poison, .med, .shadow, .per, .out, .freeCtr]
        (evtFields.append [.PMC_SNAPn_COUNT, .PMC_CTRn_COUNT, .GLB_LAT_MISSc_COUNT, .GLB_LAT_WORST_LATE_NS,
          .GLB_LAT_WORST_CAUSE, .PMC_SAMP_STAT_LOST, .PMC_SAMP_STAT_WPTR]) := by
      rw [← show _ = x from congrArg Prod.fst hq]
      split
      · exact .step (.mono (Dev.answer_frame ..)) (Dev.setEntry_frame ..)
      · exact .refl _
    refine .use x answered fun h => .ite (fun _ => ?_) fun _ => h
    exact .ite (fun _ => .step (.step (.step h (Dev.setSlice_frame ..)) (Dev.unlog_frame ..)) (Dev.releaseDropped_frame ..))
      fun _ => .step (.step h (Dev.setSlice_frame ..)) (Dev.unlog_frame ..)

theorem Dev.respond_frame (d : Dev) (k e : Nat) (fill : Option (List Nat)) : d.Frame (d.respond k e fill)
    [.regs, .evt, .pmc, .jrn, .heads, .slices, .tier, .poison, .med, .shadow, .per, .out, .freeCtr]
    (evtFields.append [.PMC_SNAPn_COUNT, .PMC_CTRn_COUNT, .GLB_LAT_MISSc_COUNT, .GLB_LAT_WORST_LATE_NS, .GLB_LAT_WORST_CAUSE,
      .PMC_SAMP_STAT_LOST, .PMC_SAMP_STAT_WPTR, .CRY_ERR0_MAC_FAIL]) := by
  unfold Dev.respond
  split
  · exact .refl _
  · rename_i t ht
    extract_lets +onlyGivenNames r cause x y
    refine .use x (.thenCausedBy (.refl _) fun d => ?_) fun h => ?_
    · match t.val with
      | some (.data l) => exact .mono (Dev.answer_frame ..)
      | some .macFail => exact .step (.mono (Dev.macFailed_frame ..)) (Dev.answer_frame ..)
      | some .stored | some .offline | none => exact .mono (Dev.answer_frame ..)
    · refine .use y ?_ fun h => .step (.step h (Dev.setEntry_frame ..)) (Dev.settle_frame ..)
      unfold y
      generalize (if r.kind = .read then x.regionAt r.stamp r.region else none : Option RegionRec) = g
      split
      · exact .step h (Dev.fill_frame ..)
      · exact h

/-- A line that is copied into a delta page. -/
theorem Dev.openDelta_frame (d : Dev) (r : RegionRec) (page : Nat) : d.Frame (d.openDelta r page).2
    [.regs, .evt, .jrn, .slices, .tier, .poison, .med, .shadow, .per, .cry, .out, .freeCtr]
    (evtFields.append [.DRT_PDEG_CAUSE, .DRT_PDEG_ACTIVE, .GLB_STATUS_PDEG, .DRT_PDEG_LOST, .JRN_THRU_LINES]) := by
  unfold Dev.openDelta
  extract_lets +onlyGivenNames x s k src dst y z
  refine .use x (.ite (fun _ => .step (.step (.refl _) (Dev.fold_frame ..)) (Dev.releaseDropped_frame ..)) fun _ => .refl _) fun h => ?_
  refine .use z (.step (.step h (Dev.setShadow_frame ..)) (Dev.journal_frame ..)) fun h => ?_
  refine .foldlSnd _ (fun a sub h => ?_) h
  extract_lets +onlyGivenNames w
  generalize hq : (if w.poisoned src sub then _ else _) = q
  obtain ⟨st, u⟩ := q
  refine .of_pair hq ?_ fun h => h
  split
  · exact .step h (Dev.storePoison_frame ..)
  · split
    · exact .step h (Dev.storePoison_frame ..)
    · split
      · exact .step h (Dev.storeCell_frame ..)
      · exact h

theorem Dev.orcWrite_frame (fuel : Nat) (d : Dev) (k : Nat) : d.Frame (d.orcWrite fuel k)
    [.regs, .evt, .pmc, .jrn, .med, .cry, .out, .freeCtr]
    (evtFields.append [.ORC_CACHE_HITS, .PMC_SNAPn_COUNT, .PMC_CTRn_COUNT, .MCX_SCHED_CNT1_SUS_EXHAUST, .MCX_SCHED_CNT0_SUSPENDS,
      .MCX_SCHED_CNT0_READAROUND, .GLB_WEAR_STAT_DEBT]) := by
  induction fuel generalizing d k with
  | zero => exact .refl _
  | succ n ih =>
    unfold Dev.orcWrite
    split
    · exact .refl _
    · refine .ite (fun _ => .refl _) fun _ => ?_
      extract_lets +onlyGivenNames c
      split
      · rename_i x hx
        exact .of_pair hx (Dev.addOrcPage_frame ..) fun h => h
      · rename_i x hx
        refine .of_pair hx (Dev.addOrcPage_frame ..) fun h => ?_
        extract_lets +onlyGivenNames o y z
        refine .use z (.step (.step h (Dev.setOrc_frame ..)) (Dev.orcMark_frame ..)) fun h => ?_
        exact .ite (fun _ => .step h (ih ..)) fun _ => h

theorem Dev.tryCandidates_frame (d : Dev) (cs : List Nat) : d.Frame (d.tryCandidates cs).2 [.regs, .boot, .evt, .out]
    (evtFields.append [.IMG_STATUS_LAST_RESULT, .IMG_STATUS_LAST_SECTION]) := by
  induction cs generalizing d with
  | nil => exact .refl _
  | cons n rest ih =>
    unfold Dev.tryCandidates
    split
    · exact .refl _
    · extract_lets +onlyGivenNames x y boot
      refine .use x (.step (.mono (Dev.setReg_frame ..)) (Dev.setReg_frame ..)) fun h => ?_
      exact .step (.update (.step h (Dev.raise_frame ..))) (ih _)

theorem Dev.orcQuench_frame (d : Dev) : d.Frame d.orcQuench.2.2 [.cry] [] := by
  unfold Dev.orcQuench
  split
  rename_i es x hx
  refine .of_pair hx ?_ fun h => h
  refine .foldlSnd _ (fun a level h => .foldlSnd _ (fun a k h => ?_) h) (.refl d)
  exact .step (.step h (Dev.setOrc_frame ..)) (Dev.orcMark_frame ..)

theorem Dev.Frame.thenUnderKeysAt {α : Type} {d e : Dev} {ps : List Part} {fs : List Fld} (h : d.Frame e ps fs) {t : Nat}
    {f : Dev → α × Dev} (k : ∀ d, Dev.Frame d (f d).2 ps fs) : d.Frame (e.underKeysAt t f).2 ps fs :=
  h.step (e.underKeysAt_frame t k) (List.Subset.refl _) (List.Subset.refl _)

theorem Dev.clearUnitRegs_list_frame (d : Dev) (l : List Fld) (i : Nat) :
    d.Frame (d.clearUnitRegs (fun f => f ∈ l) i) [.regs] l :=
  .mono (d.clearUnitRegs_frame _ i) (List.Subset.refl _) fun f hf => by
    simp only [unitFields, List.mem_filter, Bool.and_eq_true, decide_eq_true_eq] at hf
    exact hf.2.2

theorem Dev.clearSlice_frame (d : Dev) (k : Nat) : d.Frame (d.clearSlice k)
    [.regs, .evt, .pmc, .slices, .med, .out, .freeCtr]
    (evtFields.append [.GLB_WEAR_STAT_DEBT, .PMC_SNAPn_COUNT, .PMC_CTRn_COUNT, .SLC_STATUS_BYPASS, .SLC_STATUS_SOLO,
      .SLC_STATUS_RUNAHEAD, .SLC_WAY_TEST_TESTING]) := by
  unfold Dev.clearSlice
  extract_lets +onlyGivenNames x s y
  refine .use x (.step (.step (.refl _) (Dev.dropReads_frame ..)) (Dev.dropAhead_frame ..)) fun h => ?_
  exact .step (.step h (Dev.setSlice_frame ..)) (Dev.clearUnitRegs_list_frame ..)

theorem Dev.headReset_frame (d : Dev) (h : Nat) : d.Frame (d.headReset h)
    [.regs, .mgt, .evt, .heads, .slices, .med, .tal] [.GLB_HEAD_LINK_RATE, .GLB_HEAD_LINK_WIDTH, .GLB_HEAD_LINK_FLIT, .GLB_HEAD_LINK_CXL, .GLB_HEAD_LINK_IDE_MEM,
       .GLB_HEAD_LINK_IDE_IO, .GLB_HEAD_LINK_REVERSED, .GLB_HEAD_LOAD_DEVLOAD, .GLB_HEAD_LOAD_OCC_LVL,
       .GLB_HEAD_LOAD_WB_LVL, .GLB_HEAD_LOAD_WEAR_LVL, .GLB_HEAD_LOAD_THERM_LVL] := by
  unfold Dev.headReset
  extract_lets +onlyGivenNames x y z
  refine .use z (.step (.step (.step (.step (.refl _) (Dev.headDrop_frame ..)) (Dev.setHead_frame ..)) (Dev.clearUnitRegs_list_frame ..)) (Dev.releaseIface_frame ..)) fun h => ?_
  exact .update h

theorem Dev.reconcile_frame (d : Dev) (c : Cfg) : d.Frame (d.reconcile c) [.regs, .boot, .ust, .evt, .jrn, .out] evtFields := by
  unfold Dev.reconcile
  extract_lets +onlyGivenNames uid hidden differs boot x y known boot' z w u v
  refine .use x (.update (.refl _)) fun h => ?_
  refine .use y (.thenEach h fun d n => ?_) fun h => ?_
  · extract_lets +onlyGivenNames x
    refine .use x (.ite (fun _ => .mono (Dev.raise_frame ..)) fun _ => .refl _) fun h => ?_
    exact .ite (fun _ => h) fun _ => .step h (Dev.setUnit_frame ..)
  refine .use z (.update h) fun h => ?_
  refine .use w (.thenEach h fun d n => .ite (fun _ => ?_) fun _ => .refl _) fun h => ?_
  · exact .update (.mono (Dev.dropUnit_frame ..))
  refine .use u (.thenEach h fun d r => .mono (Dev.bornUnit_frame ..)) fun h => ?_
  refine .use v (.thenEach h fun d r => .mono (Dev.bornUnit_frame ..)) fun h => ?_
  exact .thenEach h fun d g => .ite (fun _ => .refl _) fun _ => .mono (Dev.dropUnit_frame ..)

theorem Dev.releaseRegion_frame (d : Dev) (n : Nat) : d.Frame (d.releaseRegion n)
    [.regs, .boot, .evt, .jrn, .slices, .tier, .poison, .med, .shadow, .qen, .tal, .per, .out]
    (evtFields.append [.QEN_STRANDw_STRANDED, .DRT_PDEG_CAUSE, .DRT_PDEG_ACTIVE, .GLB_STATUS_PDEG]) := by
  unfold Dev.releaseRegion
  extract_lets +onlyGivenNames mine pids ring set x y poison boot med tal z
  refine .use x ?_ fun h => ?_
  · unfold x
    clear_value ring
    cases ring with
    | none => exact .refl _
    | some q => exact .ite (fun _ => .thenEach (.refl _) fun d i => .mono (Dev.resetGroup_frame ..)) fun _ => .refl _
  refine .use y (.thenEach h fun d pid => .mono (Dev.forgetPage_frame ..)) fun h => ?_
  refine .use z (.update h) fun h => ?_
  exact .step (.step (.step h (Dev.dropCached_frame ..)) (Dev.journal_frame ..)) (Dev.judgeCapacity_frame ..)

theorem Dev.shadowPrepare_frame (d : Dev) (r : RegionRec) (page : Nat) (line : Nat) :
    d.Frame (d.shadowPrepare r page line).2.2 [.regs, .evt, .jrn, .slices, .tier, .poison, .med, .shadow, .per,
        .cry, .out, .freeCtr] (evtFields.append [.DRT_PDEG_CAUSE, .DRT_PDEG_ACTIVE, .GLB_STATUS_PDEG,
        .DRT_PDEG_LOST, .JRN_THRU_LINES]) := by
  unfold Dev.shadowPrepare
  dsimp only
  split
  · dsimp only
    exact .refl _
  · split
    · dsimp only
      exact .step (.refl _) (Dev.openDelta_frame ..)
    · dsimp only
      refine .ite (fun _ => .step (.refl _) (Dev.setShadow_frame ..)) fun _ => ?_
      exact .step (.step (.refl _) (Dev.setShadow_frame ..)) (Dev.raise_frame ..)

theorem Dev.writePid_frame (d : Dev) (g : RegionRec) (off : Nat) :
    d.Frame (d.writePid g off).2.2 [.regs, .evt, .jrn, .slices, .tier, .poison, .med, .shadow, .per, .cry, .out,
        .freeCtr] (evtFields.append [.DRT_PDEG_CAUSE, .DRT_PDEG_ACTIVE, .GLB_STATUS_PDEG, .DRT_PDEG_LOST,
        .JRN_THRU_LINES]) := by
  unfold Dev.writePid
  split
  · exact .step (.refl _) (Dev.shadowPrepare_frame ..)
  · dsimp only
    exact .refl _

theorem Dev.writeLine_frame (d : Dev) (g : RegionRec) (off : Nat) (ki : Nat) (data : Line) (be : BitVec 64) (full :
    Bool) (poison : Bool) :
    d.Frame (d.writeLine g off ki data be full poison).2.2 [.regs, .evt, .jrn, .slices, .tier, .poison, .med,
        .shadow, .per, .cry, .out, .freeCtr] (evtFields.append [.DRT_PDEG_CAUSE, .DRT_PDEG_ACTIVE, .GLB_STATUS_PDEG,
        .DRT_PDEG_LOST, .JRN_THRU_LINES, .CRY_ERR0_SECOND_KEY, .ORC_UNVER_LINES, .CRY_ERR1_PTL_POISON]) := by
  unfold Dev.writeLine
  dsimp only
  split
  · rename_i x0 x1 x2 hx
    refine .of_triple hx (.step (.refl _) (Dev.writePid_frame ..)) fun h => ?_
    dsimp only
    exact h
  · rename_i x0 x1 x2 x3 hx
    refine .of_triple hx (.step (.refl _) (Dev.writePid_frame ..)) fun h => ?_
    split
    · dsimp only
      exact .step h (Dev.storePoison_frame ..)
    · split
      · dsimp only
        exact .step (.step (h) (Dev.seal_frame ..)) (Dev.storeCell_frame ..)
      · split
        · rename_i x0 x1 hx
          refine .of_pair hx (.step (h) (Dev.lineVal_frame ..)) fun h => ?_
          dsimp only
          exact h
        · rename_i x0 x1 x2 hx
          refine .of_pair hx (.step (h) (Dev.lineVal_frame ..)) fun h => ?_
          dsimp only
          exact .step (.step (h) (Dev.seal_frame ..)) (Dev.storeCell_frame ..)
        · rename_i x0 x1 x2 hx hx hx
          refine .of_pair hx (.step (h) (Dev.lineVal_frame ..)) fun h => ?_
          dsimp only
          exact .step (.step (.step (h) (Dev.poisonLine_frame ..)) (Dev.count_frame ..)) (Dev.raise_frame ..)

theorem Dev.effect_frame (d : Dev) (k : Nat) (e : Nat) (r : Req) :
    d.Frame (d.effect k e r).2.2 [.regs, .ust, .evt, .pmc, .jrn, .slices, .tier, .poison, .med, .shadow, .qen, .tal,
        .per, .cry, .out, .freeCtr] (evtFields.append [.CRY_ERR0_SECOND_KEY, .ORC_UNVER_LINES, .DRT_PDEG_CAUSE,
        .DRT_PDEG_ACTIVE, .GLB_STATUS_PDEG, .DRT_PDEG_LOST, .JRN_THRU_LINES, .CRY_ERR1_PTL_POISON, .PMC_SNAPn_COUNT,
        .PMC_CTRn_COUNT, .RGN_SHADOW_LAST_RESULT, .QEN_PTR_REPAIRED, .QEN_STRANDw_STRANDED, .QEN_PTR_PTR_RESETS,
        .QEN_MISC_BAD_LENGTH, .QEN_MISC_STRAY, .QEN_DROPr_COUNT, .QEN_OPEN_HIGH, .RGN_HOSTERR_COUNT,
        .QEN_MISC_BAD_DOORBELL, .QEN_MISC_STALE_REL]) := by
  unfold Dev.effect
  split
  · dsimp only
    exact .refl _
  · dsimp only
    split
    · dsimp only
      exact .step (.refl _) (Dev.readLine_frame ..)
    · dsimp only
      exact .step (.step (.refl _) (Dev.writeLine_frame ..)) (Dev.writeCached_frame ..)
    · dsimp only
      exact .step (.step (.refl _) (Dev.writeLine_frame ..)) (Dev.writeCached_frame ..)
    · dsimp only
      exact .step (.refl _) (Dev.commitDoorbell_frame ..)
    · dsimp only
      exact .refl _
    · split
      · dsimp only
        exact .step (.step (.refl _) (Dev.checkPtr_frame ..)) (Dev.enqueueLine_frame ..)
      · dsimp only
        exact .refl _
    · split
      · dsimp only
        exact .step (.step (.refl _) (Dev.checkPtr_frame ..)) (Dev.dequeueLine_frame ..)
      · dsimp only
        exact .refl _
    · split
      · dsimp only
        exact .step (.step (.refl _) (Dev.checkPtr_frame ..)) (Dev.queueDoorbell_frame ..)
      · dsimp only
        exact .refl _
    · split
      · dsimp only
        exact .step (.refl _) (Dev.checkPtr_frame ..)
      · dsimp only
        exact .refl _
    · dsimp only
      exact .update (.refl _)
    · dsimp only
      exact .update (.refl _)
    · dsimp only
      exact .update (.refl _)

theorem Dev.toWrite_frame (d : Dev) (k : Nat) (e : Nat) :
    d.Frame (d.toWrite k e) [.regs, .evt, .pmc, .jrn, .heads, .slices, .tier, .poison, .med, .shadow, .per, .out,
        .freeCtr] (evtFields.append [.PMC_SNAPn_COUNT, .PMC_CTRn_COUNT, .GLB_LAT_MISSc_COUNT,
        .GLB_LAT_WORST_LATE_NS, .GLB_LAT_WORST_CAUSE, .PMC_SAMP_STAT_LOST, .PMC_SAMP_STAT_WPTR]) := by
  unfold Dev.toWrite
  split
  · exact .refl _
  · exact .step (.step (.refl _) (Dev.setEntry_frame ..)) (Dev.settle_frame ..)

theorem Dev.launch_frame (d : Dev) (k : Nat) (e : Nat) :
    d.Frame (d.launch k e) [.regs, .evt, .pmc, .jrn, .heads, .slices, .tier, .poison, .med, .shadow, .per, .cry,
        .out, .freeCtr] (evtFields.append [.PMC_SNAPn_COUNT, .PMC_CTRn_COUNT, .GLB_LAT_MISSc_COUNT,
        .GLB_LAT_WORST_LATE_NS, .GLB_LAT_WORST_CAUSE, .PMC_SAMP_STAT_LOST, .PMC_SAMP_STAT_WPTR, .CRY_ERR0_MAC_FAIL,
        .ORC_CACHE_HITS, .MCX_SCHED_CNT1_SUS_EXHAUST, .MCX_SCHED_CNT0_SUSPENDS, .MCX_SCHED_CNT0_READAROUND]) := by
  unfold Dev.launch
  split
  · exact .refl _
  · extract_lets +onlyGivenNames r
    split
    · exact .step (.refl _) (Dev.setEntry_frame ..)
    · refine .thenCausedBy (.refl _) fun d => ?_
      extract_lets +onlyGivenNames bypass use s pid hit held d
      refine .use d ?_ fun h => ?_
      · unfold d
        exact .ite (fun _ => .step (.refl _) (Dev.perf_frame ..)) fun _ => .refl _
      · extract_lets +onlyGivenNames d
        refine .use d ?_ fun h => ?_
        · unfold d
          exact .step h (Dev.dropAhead_frame ..)
        · extract_lets +onlyGivenNames ahead d
          refine .use d ?_ fun h => ?_
          · unfold d
            exact .ite (fun _ => .step (h) (Dev.setSlice_frame ..)) fun _ => h
          · extract_lets +onlyGivenNames d
            refine .use d ?_ fun h => ?_
            · unfold d
              exact .step h (Dev.perf_frame ..)
            · extract_lets +onlyGivenNames _ d
              refine .use d ?_ fun h => ?_
              · unfold d
                refine .ite (fun _ => .step (h) (Dev.setSlice_frame ..)) fun _ => ?_
                assumption
              · extract_lets +onlyGivenNames _ _ _ d
                refine .use d ?_ fun h => ?_
                · unfold d
                  exact .ite (fun _ => .step (.step (h) (Dev.perf_frame ..)) (Dev.setSlice_frame ..)) fun _ => h
                · extract_lets +onlyGivenNames mapLook
                  refine .ite (fun _ => ?_) fun _ => ?_
                  · extract_lets +onlyGivenNames d
                    refine .use d ?_ fun h => ?_
                    · unfold d
                      exact .step h (Dev.cancelLookups_frame ..)
                    · exact .ite (fun _ => .step (h) (Dev.respond_frame ..)) fun _ => .step (h) (Dev.toWrite_frame ..)
                  · extract_lets +onlyGivenNames d
                    refine .use d ?_ fun h => ?_
                    · unfold d
                      exact .step h (Dev.setEntry_frame ..)
                    · exact .ite (fun _ => .thenAsOf (h) fun d => .step (.refl _) (Dev.issueRead_frame ..)) fun _ => h

theorem Dev.releaseOrdered_frame (d : Dev) (k : Nat) :
    d.Frame (d.releaseOrdered k) [.regs, .evt, .pmc, .jrn, .heads, .slices, .tier, .poison, .med, .shadow, .per,
        .cry, .out, .freeCtr] (evtFields.append [.PMC_SNAPn_COUNT, .PMC_CTRn_COUNT, .GLB_LAT_MISSc_COUNT,
        .GLB_LAT_WORST_LATE_NS, .GLB_LAT_WORST_CAUSE, .PMC_SAMP_STAT_LOST, .PMC_SAMP_STAT_WPTR, .CRY_ERR0_MAC_FAIL,
        .ORC_CACHE_HITS, .MCX_SCHED_CNT1_SUS_EXHAUST, .MCX_SCHED_CNT0_SUSPENDS, .MCX_SCHED_CNT0_READAROUND]) := by
  unfold Dev.releaseOrdered
  refine .thenEach (.refl _) fun d a => ?_
  split
  · exact .refl _
  · split
    · refine .ite (fun _ => ?_) fun _ => .refl _
      extract_lets +onlyGivenNames d
      refine .use d ?_ fun h => ?_
      · unfold d
        exact .step (.refl _) (Dev.setEntry_frame ..)
      · refine .ite (fun _ => .step (h) (Dev.toWrite_frame ..)) fun _ => ?_
        refine .ite (fun _ => ?_) fun _ => .step (h) (Dev.launch_frame ..)
        exact .ite (fun _ => .step (h) (Dev.respond_frame ..)) fun _ => .step (h) (Dev.toWrite_frame ..)
    · exact .refl _

theorem Dev.start_frame (d : Dev) (k : Nat) (e : Nat) (t : TtEntry) (older : Option (Nat × TtEntry)) :
    d.Frame (d.start k e t older) [.regs, .evt, .pmc, .jrn, .heads, .slices, .tier, .poison, .med, .shadow, .per,
        .cry, .out, .freeCtr] (evtFields.append [.ORC_CACHE_HITS, .PMC_SNAPn_COUNT, .PMC_CTRn_COUNT,
        .MCX_SCHED_CNT1_SUS_EXHAUST, .MCX_SCHED_CNT0_SUSPENDS, .MCX_SCHED_CNT0_READAROUND, .GLB_LAT_MISSc_COUNT,
        .GLB_LAT_WORST_LATE_NS, .GLB_LAT_WORST_CAUSE, .PMC_SAMP_STAT_LOST, .PMC_SAMP_STAT_WPTR,
        .CRY_ERR0_MAC_FAIL]) := by
  unfold Dev.start
  refine .ite (fun _ => ?_) fun _ => ?_
  · exact .thenAsOf (.refl _) fun d => .step (.refl _) (Dev.engineRead_frame ..)
  · split
    · exact .step (.refl _) (Dev.setEntry_frame ..)
    · split
      · exact .step (.refl _) (Dev.toWrite_frame ..)
      · exact .step (.refl _) (Dev.toWrite_frame ..)
      · exact .step (.refl _) (Dev.respond_frame ..)
      · exact .step (.refl _) (Dev.launch_frame ..)

theorem Dev.enterRec_frame (d : Dev) (k : Nat) (e : Nat) (j : Nat) (x : Nat) (t : TtEntry) :
    d.Frame (d.enterRec k e j x t) [.regs, .evt, .pmc, .jrn, .heads, .slices, .tier, .poison, .med, .shadow, .tal,
        .per, .cry, .out, .freeCtr] (evtFields.append [.PMC_SNAPn_COUNT, .PMC_CTRn_COUNT, .GLB_LAT_MISSc_COUNT,
        .GLB_LAT_WORST_LATE_NS, .GLB_LAT_WORST_CAUSE, .PMC_SAMP_STAT_LOST, .PMC_SAMP_STAT_WPTR, .ORC_CACHE_HITS,
        .MCX_SCHED_CNT1_SUS_EXHAUST, .MCX_SCHED_CNT0_SUSPENDS, .MCX_SCHED_CNT0_READAROUND, .CRY_ERR0_MAC_FAIL]) := by
  unfold Dev.enterRec
  extract_lets +onlyGivenNames d
  refine .use d ?_ fun h => ?_
  · unfold d
    exact .ite (fun _ => .refl _) fun _ => .step (.refl _) (Dev.moveWaits_frame ..)
  · extract_lets +onlyGivenNames s older waits t s
    refine .step ?_ (Dev.start_frame ..)
    exact .step (.step (.step (h) (Dev.setSlice_frame ..)) (Dev.logRec_frame ..)) (Dev.settle_frame ..)

theorem Dev.drainReplay_frame (d : Dev) (k : Nat) :
    d.Frame (d.drainReplay k) [.regs, .evt, .pmc, .jrn, .heads, .slices, .tier, .poison, .med, .shadow, .tal, .per,
        .cry, .out, .freeCtr] (evtFields.append [.PMC_SNAPn_COUNT, .PMC_CTRn_COUNT, .GLB_LAT_MISSc_COUNT,
        .GLB_LAT_WORST_LATE_NS, .GLB_LAT_WORST_CAUSE, .PMC_SAMP_STAT_LOST, .PMC_SAMP_STAT_WPTR, .ORC_CACHE_HITS,
        .MCX_SCHED_CNT1_SUS_EXHAUST, .MCX_SCHED_CNT0_SUSPENDS, .MCX_SCHED_CNT0_READAROUND, .CRY_ERR0_MAC_FAIL]) := by
  unfold Dev.drainReplay
  refine .thenEach (.refl _) fun d a => ?_
  refine .ite (fun _ => .refl _) fun _ => ?_
  split
  · exact .refl _
  · exact .step (.step (.refl _) (Dev.setSlice_frame ..)) (Dev.enterRec_frame ..)

theorem Dev.loseSlice_frame (d : Dev) (k : Nat) :
    d.Frame (d.loseSlice k) [.regs, .evt, .pmc, .jrn, .slices, .tier, .poison, .med, .shadow, .qen, .tal, .out,
        .freeCtr] (evtFields.append [.RGN_SHADOW_LAST_RESULT, .TAL_SETs_STAT_LOST, .TAL_SETs_STAT_INEXACT,
        .QEN_STRANDw_STRANDED, .GLB_WEAR_STAT_DEBT, .PMC_SNAPn_COUNT, .PMC_CTRn_COUNT, .SLC_STATUS_BYPASS,
        .SLC_STATUS_SOLO, .SLC_STATUS_RUNAHEAD, .SLC_WAY_TEST_TESTING]) := by
  unfold Dev.loseSlice
  extract_lets +onlyGivenNames es d
  refine .use d ?_ fun h => ?_
  · unfold d
    exact .thenEach (.refl _) fun d a => .step (.refl _) (Dev.takeBackDoorbell_frame ..)
  · extract_lets +onlyGivenNames d
    refine .use d ?_ fun h => ?_
    · unfold d
      exact .thenEach (h) fun d a => .step (.refl _) (Dev.loseRecord_frame ..)
    · extract_lets +onlyGivenNames _ d
      refine .use d ?_ fun h => ?_
      · unfold d
        exact .update (h)
      · extract_lets +onlyGivenNames d
        refine .use d ?_ fun h => ?_
        · unfold d
          exact .step (.step (h) (Dev.clearSlice_frame ..)) (Dev.clearRecords_frame ..)
        · exact .step h (Dev.setSlice_frame ..)

theorem Dev.pairLost_frame (d : Dev) (k : Nat) :
    d.Frame (d.pairLost k) [.regs, .ust, .evt, .pmc, .jrn, .heads, .slices, .tier, .poison, .med, .shadow, .qen,
        .tal, .out, .freeCtr] (evtFields.append [.RGN_SHADOW_LAST_RESULT, .TAL_SETs_STAT_LOST,
        .TAL_SETs_STAT_INEXACT, .QEN_STRANDw_STRANDED, .GLB_WEAR_STAT_DEBT, .PMC_SNAPn_COUNT, .PMC_CTRn_COUNT,
        .SLC_STATUS_BYPASS, .SLC_STATUS_SOLO, .SLC_STATUS_RUNAHEAD, .SLC_WAY_TEST_TESTING, .SLC_STATUS_ADOPTED,
        .GLB_LAT_MISSc_COUNT, .GLB_LAT_WORST_LATE_NS, .GLB_LAT_WORST_CAUSE, .PMC_SAMP_STAT_LOST,
        .PMC_SAMP_STAT_WPTR]) := by
  unfold Dev.pairLost
  extract_lets +onlyGivenNames b d
  refine .use d ?_ fun h => ?_
  · unfold d
    exact .step (.refl _) (Dev.doubleFault_frame ..)
  · extract_lets +onlyGivenNames d
    refine .use d ?_ fun h => ?_
    · unfold d
      exact .step (.step (h) (Dev.loseSlice_frame ..)) (Dev.loseSlice_frame ..)
    · extract_lets +onlyGivenNames d
      refine .use d ?_ fun h => ?_
      · unfold d
        refine .thenEach (h) fun d a => ?_
        extract_lets +onlyGivenNames old d
        refine .use d ?_ fun h => ?_
        · unfold d
          refine .ite (fun _ => .refl _) fun _ => ?_
          exact .step (.step (.refl _) (Dev.setUnit_frame ..)) (Dev.overBudget_frame ..)
        · extract_lets +onlyGivenNames _ d
          refine .use d ?_ fun h => ?_
          · unfold d
            exact .step h (Dev.setSlice_frame ..)
          · exact .step h (Dev.setFlag_frame ..)
      · exact .step (.step (h) (Dev.refuseIngress_frame ..)) (Dev.refuseIngress_frame ..)

theorem Dev.putInForce_frame (d : Dev) (n : Nat) (c : Cfg) :
    d.Frame (d.putInForce n c) [.regs, .cfg, .oldCfgs, .boot, .mgt, .ust, .evt, .jrn, .med,
        .out] (evtFields.append [.IMG_STATUS_PENDING, .IMG_STATUS_ACTIVE_SLOT, .IMG_STATUS_RECOVERY,
        .PWR_SQ_CTL_TARGET, .IMG_STATUS_ROLLING]) := by
  unfold Dev.putInForce
  extract_lets +onlyGivenNames npo applied boot boot boot boot boot d
  refine .use d ?_ fun h => ?_
  · unfold d
    exact .update (.refl _)
  · extract_lets +onlyGivenNames d
    refine .use d ?_ fun h => ?_
    · unfold d
      exact .ite (fun _ => .step (h) (Dev.setFlag_frame ..)) fun _ => h
    · extract_lets +onlyGivenNames d
      refine .use d ?_ fun h => ?_
      · unfold d
        exact .step (.step (h) (Dev.setReg_frame ..)) (Dev.setFlag_frame ..)
      · extract_lets +onlyGivenNames d
        refine .use d ?_ fun h => ?_
        · unfold d
          exact .step h (Dev.setReg_frame ..)
        · extract_lets +onlyGivenNames d
          refine .use d ?_ fun h => ?_
          · unfold d
            exact .step h (Dev.setGeometry_frame ..)
          · extract_lets +onlyGivenNames _ d
            refine .use d ?_ fun h => ?_
            · unfold d
              exact .update (h)
            · extract_lets +onlyGivenNames d
              refine .use d ?_ fun h => ?_
              · unfold d
                exact .step h (Dev.setFlag_frame ..)
              · extract_lets +onlyGivenNames d
                refine .use d ?_ fun h => ?_
                · unfold d
                  exact .step (.step (.step (h) (Dev.reconcile_frame ..)) (Dev.bornLinks_frame ..))
                      (Dev.allocSegs_frame ..)
                · exact .step h (Dev.fitLsa_frame ..)

theorem Dev.bootSelect_frame (d : Dev) :
    d.Frame d.bootSelect [.regs, .cfg, .oldCfgs, .boot, .mgt, .ust, .evt, .pwr, .pin, .jrn, .med,
        .out] (evtFields.append [.IMG_SEQ_ACT_SEQ, .IMG_STATUS_LAST_RESULT, .IMG_STATUS_LAST_SECTION,
        .IMG_STATUS_ACTIVE_SLOT, .IMG_STATUS_RECOVERY, .PWR_STEP_RECOVERY, .PWR_STEP_SQ_WAIT, .PWR_SQ_STAT_HOLDING,
        .IMG_STATUS_PENDING, .PWR_SQ_CTL_TARGET, .IMG_STATUS_ROLLING, .IMG_STATUS_FALLBACK]) := by
  unfold Dev.bootSelect
  extract_lets +onlyGivenNames d
  refine .use d ?_ fun h => ?_
  · unfold d
    exact .update (.refl _)
  · extract_lets +onlyGivenNames d
    refine .use d ?_ fun h => ?_
    · unfold d
      exact .step h (Dev.setReg_frame ..)
    · extract_lets +onlyGivenNames cs
      split
      · rename_i x0 x1 hx
        refine .of_pair hx (.step (h) (Dev.tryCandidates_frame ..)) fun h => ?_
        exact .step h (Dev.recoveryMode_frame ..)
      · rename_i x0 x1 x2 x3 hx
        refine .of_pair hx (.step (h) (Dev.tryCandidates_frame ..)) fun h => ?_
        exact .step (.step (h) (Dev.putInForce_frame ..)) (Dev.setFlag_frame ..)

theorem Dev.reenter_frame (d : Dev) (ts : List TtEntry) :
    d.Frame (d.reenter ts) [.regs, .ust, .evt, .pmc, .jrn, .slices, .tier, .poison, .med, .shadow, .qen, .tal, .per,
        .cry, .out, .freeCtr] (evtFields.append [.CRY_ERR0_SECOND_KEY, .ORC_UNVER_LINES, .DRT_PDEG_CAUSE,
        .DRT_PDEG_ACTIVE, .GLB_STATUS_PDEG, .DRT_PDEG_LOST, .JRN_THRU_LINES, .CRY_ERR1_PTL_POISON, .PMC_SNAPn_COUNT,
        .PMC_CTRn_COUNT, .RGN_SHADOW_LAST_RESULT, .QEN_PTR_REPAIRED, .QEN_STRANDw_STRANDED, .QEN_PTR_PTR_RESETS,
        .QEN_MISC_BAD_LENGTH, .QEN_MISC_STRAY, .QEN_DROPr_COUNT, .QEN_OPEN_HIGH, .RGN_HOSTERR_COUNT,
        .QEN_MISC_BAD_DOORBELL, .QEN_MISC_STALE_REL]) := by
  unfold Dev.reenter
  refine .thenEach (.refl _) fun d a => ?_
  exact .ite (fun _ => .refl _) fun _ => .step (.refl _) (Dev.effect_frame ..)

theorem Dev.orcTrim_frame (d : Dev) :
    d.Frame d.orcTrim [.regs, .evt, .pmc, .jrn, .med, .cry, .out, .freeCtr] (evtFields.append [.ORC_CACHE_HITS,
        .PMC_SNAPn_COUNT, .PMC_CTRn_COUNT, .MCX_SCHED_CNT1_SUS_EXHAUST, .MCX_SCHED_CNT0_SUSPENDS,
        .MCX_SCHED_CNT0_READAROUND, .GLB_WEAR_STAT_DEBT]) := by
  unfold Dev.orcTrim
  extract_lets +onlyGivenNames n
  refine .thenEach (.refl _) fun d a => ?_
  split
  · exact .refl _
  · extract_lets +onlyGivenNames d
    refine .use d ?_ fun h => ?_
    · unfold d
      exact .ite (fun _ => .step (.refl _) (Dev.orcWrite_frame ..)) fun _ => .refl _
    · exact .ite (fun _ => .step (h) (Dev.orcUse_frame ..)) fun _ => .step (h) (Dev.setOrc_frame ..)

theorem Dev.resetUnit_frame (d : Dev) (ix : Nat) (cause : Nat) (hw : Bool) (recovery : Bool) :
    d.Frame (d.resetUnit ix cause hw recovery) [.regs, .mgt, .ust, .evt, .pmc, .jrn, .heads, .slices, .tier, .med,
        .tal, .per, .cry, .out, .freeCtr] (evtFields.append [.CRY_RHs_CNT_ABANDONS, .GLB_WEAR_STAT_DEBT,
        .PMC_SNAPn_COUNT, .PMC_CTRn_COUNT, .SLC_STATUS_BYPASS, .SLC_STATUS_SOLO, .SLC_STATUS_RUNAHEAD,
        .SLC_WAY_TEST_TESTING, .SLC_BUDDY_SOLO_COUNT, .MCX_LINKi_ERR_REISSUE, .MCX_SCHED_CNT0_SUSPENDS,
        .MCX_SCHED_CNT0_READAROUND, .MCX_SCHED_CNT1_SUS_EXHAUST, .JRN_THRU_SHEET_FAIL, .ORC_CACHE_HITS,
        .DRT_TWIN_STAGING, .DRT_PDEG_CAUSE, .DRT_PDEG_ACTIVE, .GLB_STATUS_PDEG, .ORC_COPY_REPAIRED,
        .ORC_COPY_BOTH_LOST, .CRY_STATUS_LOCKED, .CRY_STATUS_LOCK_CAUSE]) := by
  unfold Dev.resetUnit
  extract_lets +onlyGivenNames d
  refine .use d ?_ fun h => ?_
  · unfold d
    exact .step (.refl _) (Dev.startReset_frame ..)
  · split
    · exact .ite (fun _ => .step (h) (Dev.headDrop_frame ..)) fun _ => h
    · extract_lets +onlyGivenNames k
      exact .step (.step (.step (h) (Dev.abandonSteps_frame ..)) (Dev.clearSlice_frame ..)) (Dev.updateSolo_frame ..)
    · exact .step (.step (h) (Dev.complexGone_frame ..)) (Dev.readAroundDie_frame ..)
    · exact .step h (Dev.linkGone_frame ..)
    · exact h

theorem Dev.saveMeta_frame (d : Dev) :
    d.Frame d.saveMeta [.qch, .cry] [] := by
  unfold Dev.saveMeta
  split
  · rename_i x0 x1 x2 x3 hx
    refine .of_triple hx (.step (.refl _) (Dev.orcQuench_frame ..)) fun h => ?_
    extract_lets +onlyGivenNames qmeta
    exact .step h (Dev.setImage_frame ..)

theorem Dev.startupCheckpoint_frame (d : Dev) :
    d.Frame d.startupCheckpoint [.regs, .evt, .pmc, .pwr, .jrn, .tier, .med, .per, .qch, .cry, .out,
        .freeCtr] (evtFields.append [.DRT_LEHR_CNT_RD_BANDS, .DRT_LEHR_CNT_URG_BANDS, .JRN_STATUS_RETAINED,
        .ORC_CACHE_HITS, .PMC_SNAPn_COUNT, .PMC_CTRn_COUNT, .MCX_SCHED_CNT1_SUS_EXHAUST, .MCX_SCHED_CNT0_SUSPENDS,
        .MCX_SCHED_CNT0_READAROUND, .GLB_WEAR_STAT_DEBT]) := by
  unfold Dev.startupCheckpoint
  extract_lets +onlyGivenNames d
  refine .use d ?_ fun h => ?_
  · unfold d
    exact .ite (fun _ => .step (.refl _) (Dev.flushJournal_frame ..)) fun _ => .refl _
  · extract_lets +onlyGivenNames d
    refine .use d ?_ fun h => ?_
    · unfold d
      exact .step h (Dev.journal_frame ..)
    · extract_lets +onlyGivenNames d
      refine .use d ?_ fun h => ?_
      · unfold d
        refine .ite (fun _ => ?_) fun _ => h
        refine .step ?_ (Dev.mapTrim_frame ..)
        exact .step (.step (.step (h) (Dev.writeTables_frame ..)) (Dev.keepMeta_frame ..)) (Dev.orcTrim_frame ..)
      · extract_lets +onlyGivenNames _ _ _ _ d
        refine .use d ?_ fun h => ?_
        · unfold d
          exact .update (h)
        · exact h

/-- What may change while requests are served and units fail: the parts, and the register fields. -/
def serviceParts : List Part :=
  [.regs, .ust, .evt, .pmc, .jrn, .heads, .slices, .tier, .poison, .med, .shadow, .qen, .tal, .per, .cry, .out, .freeCtr]

def serviceFields : List Fld := evtFields.append
  [.CRY_RHs_CNT_ABANDONS, .GLB_WEAR_STAT_DEBT, .PMC_SNAPn_COUNT, .PMC_CTRn_COUNT, .SLC_STATUS_BYPASS, .SLC_STATUS_SOLO,
   .SLC_STATUS_RUNAHEAD, .SLC_WAY_TEST_TESTING, .SLC_STATUS_ADOPTED, .SLC_BUDDY_SOLO_COUNT, .GLB_LAT_MISSc_COUNT,
   .GLB_LAT_WORST_LATE_NS, .GLB_LAT_WORST_CAUSE, .PMC_SAMP_STAT_LOST, .PMC_SAMP_STAT_WPTR, .CRY_ERR0_MAC_FAIL, .ORC_CACHE_HITS,
   .MCX_SCHED_CNT1_SUS_EXHAUST, .MCX_SCHED_CNT0_SUSPENDS, .MCX_SCHED_CNT0_READAROUND, .RGN_HOSTERR_COUNT,
   .CRY_ERR0_SECOND_KEY, .ORC_UNVER_LINES, .DRT_PDEG_CAUSE, .DRT_PDEG_ACTIVE, .GLB_STATUS_PDEG, .DRT_PDEG_LOST,
   .JRN_THRU_LINES, .CRY_ERR1_PTL_POISON, .RGN_SHADOW_LAST_RESULT, .QEN_PTR_REPAIRED, .QEN_STRANDw_STRANDED,
   .QEN_PTR_PTR_RESETS, .QEN_MISC_BAD_LENGTH, .QEN_MISC_STRAY, .QEN_DROPr_COUNT, .QEN_OPEN_HIGH, .QEN_MISC_BAD_DOORBELL,
   .QEN_MISC_STALE_REL, .SLC_TT_OCC_HOST_HIGH, .TAL_SETs_STAT_LOST, .TAL_SETs_STAT_INEXACT, .DRT_CULLET_CNT_ABANDONED,
   .DRT_CULLET_CNT_TGT_RETIRED, .DRT_TWIN_STAGING, .MCX_LINKi_ERR_REISSUE, .JRN_THRU_SHEET_FAIL, .ORC_COPY_REPAIRED,
   .ORC_COPY_BOTH_LOST, .CRY_STATUS_LOCKED, .CRY_STATUS_LOCK_CAUSE, .DRT_REMIRROR_ACTIVE, .QEN_GRPg_REHOMED,
   .PWR_STEP_NOTIER, .JRN_STATUS_THROUGH_ALL]

theorem Dev.Frame.also {d e g : Dev} {ps : List Part} {fs : List Fld} (h : d.Frame e ps fs) (k : e.Frame g ps fs) : d.Frame g ps fs :=
  h.step k (List.Subset.refl _) (List.Subset.refl _)

theorem Dev.Frame.served {d e g : Dev} {ps : List Part} {fs : List Fld} (h : d.Frame e ps (serviceFields.append fs))
    (k : e.Frame g serviceParts serviceFields) (hp : serviceParts ⊆ ps := by decide) : d.Frame g ps (serviceFields.append fs) :=
  h.step k hp (List.subset_append_left _ _)

/-- A further operation of a function whose fields contain those of the other. -/
theorem Dev.Frame.servedMore {d e g : Dev} {ps qs : List Part} {fs hs : List Fld} (h : d.Frame e ps (serviceFields.append fs))
    (k : e.Frame g qs (serviceFields.append hs)) (hp : qs ⊆ ps := by decide) (hf : hs ⊆ fs := by decide) :
    d.Frame g ps (serviceFields.append fs) :=
  h.step k hp fun _ m => List.mem_append.mpr ((List.mem_append.mp m).imp_right (@hf _))

theorem Dev.accept_frame (d : Dev) (k : Nat) (r : Req) : d.Frame (d.accept k r) serviceParts serviceFields := by
  unfold Dev.accept
  split
  · exact .refl _
  · rename_i e he
    refine .causedBy (fun d => ?_) d
    extract_lets +onlyGivenNames s older
    split
    rename_i u x hx
    refine .of_pair hx (.thenUnderKeysAt (.refl _) fun d => .mono (Dev.keyError_frame ..)) fun h => ?_
    extract_lets +onlyGivenNames g media y undo merge delta
    refine .use y ?_ fun h => ?_
    · unfold y
      generalize g = c
      cases c with
      | none => exact h
      | some g => exact .step h (Dev.abandonSteps_frame ..)
    split
    rename_i v st z hz
    refine .of_pair hz (.thenUnderKeysAt h fun d => ?_) fun h => ?_
    · split
      rename_i v st x hx
      exact .of_triple hx (.mono (Dev.effect_frame ..)) fun h => h
    extract_lets +onlyGivenNames w s t x1 x2 x3 x4
    refine .use w (.step h (Dev.copyReads_frame ..)) fun h => ?_
    refine .use x1 (.step (.step h (Dev.setSlice_frame ..)) (Dev.logRec_frame ..)) fun h => ?_
    refine .use x2 (.step h (Dev.setReg_frame ..)) fun h => ?_
    refine .use x3 (.step (.step h (Dev.perf_frame ..)) (Dev.perf_frame ..)) fun h => ?_
    refine .use x4 (.step h (Dev.passTag_frame ..)) fun h => ?_
    exact .step (.step h (Dev.waitSheets_frame ..)) (Dev.start_frame ..)

theorem Dev.takeOne_frame (d : Dev) (k : Nat) :
    d.Frame (d.takeOne k) serviceParts serviceFields := by
  unfold Dev.takeOne
  split
  · exact .refl _
  · refine .ite (fun _ => ?_) fun _ => .refl _
    extract_lets +onlyGivenNames s
    exact .also (.step (.refl _) (Dev.setSlice_frame ..)) (Dev.accept_frame ..)

theorem Dev.pumpSlice_frame (d : Dev) (k : Nat) :
    d.Frame (d.pumpSlice k) serviceParts serviceFields := by
  unfold Dev.pumpSlice
  exact .thenEach (.refl _) fun d a => .also (.refl _) (Dev.takeOne_frame ..)

theorem Dev.pump_frame (d : Dev) (k : Nat) :
    d.Frame (d.pump k) serviceParts serviceFields := by
  unfold Dev.pump
  refine .also ?_ (Dev.pumpSlice_frame ..)
  exact .step (.step (.refl _) (Dev.releaseOrdered_frame ..)) (Dev.drainReplay_frame ..)

theorem Dev.replayFor_frame (d : Dev) (by_ : Nat) (k : Nat) (es : List (Nat × TtEntry)) (fault : Bool) :
    d.Frame (d.replayFor by_ k es fault) serviceParts serviceFields := by
  unfold Dev.replayFor
  extract_lets +onlyGivenNames rs s
  exact .also (.step (.refl _) (Dev.setSlice_frame ..)) (Dev.pump_frame ..)

theorem Dev.replay_frame (d : Dev) (k : Nat) :
    d.Frame (d.replay k) serviceParts serviceFields := by
  unfold Dev.replay
  exact .also (.refl _) (Dev.replayFor_frame ..)

theorem Dev.pumpShare_frame (d : Dev) (share : Nat) :
    d.Frame (d.pumpShare share) serviceParts serviceFields := by
  unfold Dev.pumpShare
  split
  · exact .refl _
  · exact .also (.refl _) (Dev.pumpSlice_frame ..)

theorem Dev.sliceBack_frame (d : Dev) (k : Nat) :
    d.Frame (d.sliceBack k) serviceParts serviceFields := by
  unfold Dev.sliceBack
  extract_lets +onlyGivenNames b _ d
  refine .use d ?_ fun h => ?_
  · unfold d
    exact .step (.refl _) (Dev.setSlice_frame ..)
  · extract_lets +onlyGivenNames d
    refine .use d ?_ fun h => ?_
    · unfold d
      exact .step h (Dev.setFlag_frame ..)
    · extract_lets +onlyGivenNames d
      refine .use d ?_ fun h => ?_
      · unfold d
        exact .ite (fun _ => .step (h) (Dev.dropCached_frame ..)) fun _ => .refl _
      · extract_lets +onlyGivenNames _ d
        refine .use d ?_ fun h => ?_
        · unfold d
          refine .ite (fun _ => ?_) fun _ => h
          exact .step (.step (h) (Dev.setSlice_frame ..)) (Dev.setFlag_frame ..)
        · extract_lets +onlyGivenNames d
          refine .use d ?_ fun h => ?_
          · unfold d
            exact .step (.step (h) (Dev.updateSolo_frame ..)) (Dev.updateSolo_frame ..)
          · extract_lets +onlyGivenNames d
            refine .use d ?_ fun h => ?_
            · unfold d
              exact .also (h) (Dev.replay_frame ..)
            · extract_lets +onlyGivenNames es d
              refine .use d ?_ fun h => ?_
              · unfold d
                refine .ite (fun _ => h) fun _ => ?_
                exact .also (.step (h) (Dev.clearRecords_frame ..)) (Dev.replayFor_frame ..)
              · exact .also (.also (h) (Dev.pumpShare_frame ..)) (Dev.pumpShare_frame ..)

theorem Dev.enterService_frame (d : Dev) (ix : Nat) (cause : Nat) (hw : Bool) :
    d.Frame (d.enterService ix cause hw) serviceParts serviceFields := by
  unfold Dev.enterService
  refine .ite (fun _ => .step (.refl _) (Dev.headService_frame ..)) fun _ => ?_
  extract_lets +onlyGivenNames d
  refine .use d ?_ fun h => ?_
  · unfold d
    exact .step (.refl _) (Dev.setUnit_frame ..)
  · split
    · extract_lets +onlyGivenNames k low
      exact .also (.step (h) (Dev.setFlag_frame ..)) (Dev.sliceBack_frame ..)
    · extract_lets +onlyGivenNames m d
      refine .use d ?_ fun h => ?_
      · unfold d
        exact .step h (Dev.complexHealth_frame ..)
      · split
        · exact .step h (Dev.packageHealth_frame ..)
        · exact h
    · exact h

theorem Dev.endRecoveries_frame (d : Dev) :
    d.Frame d.endRecoveries serviceParts serviceFields := by
  unfold Dev.endRecoveries
  refine .thenEach (.refl _) fun d a => ?_
  exact .ite (fun _ => .also (.refl _) (Dev.enterService_frame ..)) fun _ => .refl _

theorem Dev.adopt_frame (d : Dev) (k : Nat) :
    d.Frame (d.adopt k) serviceParts serviceFields := by
  unfold Dev.adopt
  extract_lets +onlyGivenNames b es d
  refine .use d ?_ fun h => ?_
  · unfold d
    exact .step (.step (.refl _) (Dev.clearSlice_frame ..)) (Dev.clearRecords_frame ..)
  · extract_lets +onlyGivenNames _ d
    refine .use d ?_ fun h => ?_
    · unfold d
      exact .step h (Dev.setSlice_frame ..)
    · extract_lets +onlyGivenNames d
      refine .use d ?_ fun h => ?_
      · unfold d
        exact .step h (Dev.setFlag_frame ..)
      · exact .also (.step (h) (Dev.updateSolo_frame ..)) (Dev.replayFor_frame ..)

theorem Dev.sliceFail_frame (d : Dev) (k : Nat) (cause : Nat) :
    d.Frame (d.sliceFail k cause) serviceParts serviceFields := by
  unfold Dev.sliceFail
  extract_lets +onlyGivenNames b d
  refine .use d ?_ fun h => ?_
  · unfold d
    exact .step (.refl _) (Dev.setUnit_frame ..)
  · refine .ite (fun _ => .also (h) (Dev.adopt_frame ..)) fun _ => ?_
    refine .ite (fun _ => .step (h) (Dev.pairLost_frame ..)) fun _ => ?_
    extract_lets +onlyGivenNames d
    refine .use d ?_ fun h => ?_
    · unfold d
      exact .step h (Dev.clearSlice_frame ..)
    · extract_lets +onlyGivenNames _ d
      refine .use d ?_ fun h => ?_
      · unfold d
        exact .step h (Dev.setSlice_frame ..)
      · extract_lets +onlyGivenNames d
        refine .use d ?_ fun h => ?_
        · unfold d
          exact .step h (Dev.setFlag_frame ..)
        · exact .step (.step (h) (Dev.refuseIngress_frame ..)) (Dev.refuseIngress_frame ..)

theorem Dev.failUnit_frame (d : Dev) (ix : Nat) (cause : Nat) :
    d.Frame (d.failUnit ix cause) serviceParts serviceFields := by
  unfold Dev.failUnit
  extract_lets +onlyGivenNames old d
  refine .use d ?_ fun h => ?_
  · unfold d
    refine .ite (fun _ => .refl _) fun _ => ?_
    split
    · exact .step (.step (.refl _) (Dev.setUnit_frame ..)) (Dev.headDrop_frame ..)
    · exact .also (.step (.refl _) (Dev.abandonSteps_frame ..)) (Dev.sliceFail_frame ..)
    · exact .step (.refl _) (Dev.complexFail_frame ..)
    · exact .step (.refl _) (Dev.linkFail_frame ..)
    · exact .step (.refl _) (Dev.packageFail_frame ..)
    · exact .step (.refl _) (Dev.stackFail_frame ..)
    · exact .step (.step (.refl _) (Dev.setUnit_frame ..)) (Dev.freeGroup_frame ..)
    · exact .step (.refl _) (Dev.setUnit_frame ..)
  · exact .ite (fun _ => .step (h) (Dev.overBudget_frame ..)) fun _ => h

theorem Dev.enablePd_frame (d : Dev) (nn : Nat) :
    d.Frame (d.enablePd nn) serviceParts (serviceFields.append [.PWR_PD_ON, .PWR_PD_FAULT_OFF]) := by
  unfold Dev.enablePd
  refine .ite (fun _ => ?_) fun _ => ?_
  · extract_lets +onlyGivenNames d
    refine .use d ?_ fun h => ?_
    · unfold d
      exact .step (.step (.refl _) (Dev.setFieldBit_frame ..)) (Dev.setFieldBit_frame ..)
    · refine .ite (fun _ => ?_) fun _ => h
      exact .thenEach (h) fun d a => .ite (fun _ => .step (.refl _) (Dev.setUnit_frame ..)) fun _ => .refl _
  · extract_lets +onlyGivenNames d
    refine .use d ?_ fun h => ?_
    · unfold d
      exact .step (.refl _) (Dev.setFieldBit_frame ..)
    · refine .ite (fun _ => ?_) fun _ => h
      refine .thenEach (h) fun d a => ?_
      exact .ite (fun _ => .served (.refl _) (Dev.failUnit_frame ..)) fun _ => .refl _

theorem Dev.pdFaultOff_frame (d : Dev) (nn : Nat) :
    d.Frame (d.pdFaultOff nn) serviceParts (serviceFields.append [.PWR_PD_ON, .PWR_PD_FAULT_OFF]) := by
  unfold Dev.pdFaultOff
  extract_lets +onlyGivenNames d
  refine .use d ?_ fun h => ?_
  · unfold d
    exact .step (.step (.refl _) (Dev.setFieldBit_frame ..)) (Dev.setFieldBit_frame ..)
  · refine .thenEach (h) fun d a => ?_
    exact .ite (fun _ => .refl _) fun _ => .served (.refl _) (Dev.failUnit_frame ..)

theorem Dev.failGroupPackages_frame (d : Dev) (g : Nat) :
    d.Frame (d.failGroupPackages g) serviceParts serviceFields := by
  unfold Dev.failGroupPackages
  refine .thenEach (.refl _) fun d a => ?_
  exact .ite (fun _ => .refl _) fun _ => .also (.refl _) (Dev.failUnit_frame ..)

theorem Dev.mpgOff_frame (d : Dev) (g : Nat) :
    d.Frame (d.mpgOff g) serviceParts (serviceFields.append [.PWR_MPG_MPEN]) := by
  unfold Dev.mpgOff
  exact .served (.step (.refl _) (Dev.setFieldBit_frame ..)) (Dev.failGroupPackages_frame ..)

theorem Dev.dropOnce_frame (d : Dev) :
    d.Frame d.dropOnce serviceParts (serviceFields.append [.PWR_PD_ON, .PWR_PD_FAULT_OFF, .PWR_MPG_MPEN]) := by
  unfold Dev.dropOnce
  extract_lets +onlyGivenNames d
  refine .use d ?_ fun h => ?_
  · unfold d
    refine .thenEach (.refl _) fun d a => ?_
    exact .ite (fun _ => .servedMore (.refl _) (Dev.pdFaultOff_frame ..)) fun _ => .refl _
  · refine .thenEach (h) fun d a => ?_
    exact .ite (fun _ => .servedMore (.refl _) (Dev.mpgOff_frame ..)) fun _ => .refl _

theorem Dev.dropDependants_frame (d : Dev) :
    d.Frame d.dropDependants serviceParts (serviceFields.append [.PWR_PD_ON, .PWR_PD_FAULT_OFF, .PWR_MPG_MPEN]) := by
  unfold Dev.dropDependants
  exact .thenFoldl (.refl _) fun d a => .also (.refl _) (Dev.dropOnce_frame ..)

theorem Dev.cutRail_frame (d : Dev) (r : Nat) (st : Nat) :
    d.Frame (d.cutRail r st) [.regs, .ust, .evt, .pmc, .pwr, .jrn, .heads, .slices, .tier, .poison, .med, .shadow,
        .qen, .tal, .per, .cry, .out, .freeCtr] (serviceFields.append [.PWR_RAILr_STAT_STATE, .PWR_PD_ON,
        .PWR_PD_FAULT_OFF, .PWR_MPG_MPEN]) := by
  unfold Dev.cutRail
  extract_lets +onlyGivenNames d
  refine .use d ?_ fun h => ?_
  · unfold d
    exact .step (.refl _) (Dev.setReg_frame ..)
  · exact .servedMore (.update (h)) (Dev.dropDependants_frame ..)

theorem Dev.bootTreeOnly_frame (d : Dev) :
    d.Frame d.bootTreeOnly [.regs, .ust, .evt, .pmc, .pwr, .jrn, .heads, .slices, .tier, .poison, .med, .shadow,
        .qen, .tal, .per, .cry, .out, .freeCtr] (serviceFields.append [.PWR_MPG_MPEN, .PWR_PD_ON,
        .PWR_RAILr_STAT_STATE, .PWR_PD_FAULT_OFF]) := by
  unfold Dev.bootTreeOnly
  extract_lets +onlyGivenNames d
  refine .use d ?_ fun h => ?_
  · unfold d
    exact .step (.step (.refl _) (Dev.downActions_frame ..)) (Dev.downActions_frame ..)
  · refine .thenEach (h) fun d a => ?_
    exact .ite (fun _ => .refl _) fun _ => .servedMore (.refl _) (Dev.cutRail_frame ..)

theorem Dev.imageStep_frame (d : Dev) :
    d.Frame d.imageStep [.regs, .cfg, .oldCfgs, .boot, .mgt, .ust, .evt, .pmc, .pwr, .rst, .clk, .pin, .jrn, .heads,
        .slices, .tier, .poison, .med, .shadow, .qen, .tal, .per, .cry, .out,
        .freeCtr] (serviceFields.append [.IMG_SEQ_ACT_SEQ, .IMG_STATUS_LAST_RESULT, .IMG_STATUS_LAST_SECTION,
        .IMG_STATUS_ACTIVE_SLOT, .IMG_STATUS_RECOVERY, .PWR_STEP_RECOVERY, .PWR_STEP_SQ_WAIT, .PWR_SQ_STAT_HOLDING,
        .IMG_STATUS_PENDING, .PWR_SQ_CTL_TARGET, .IMG_STATUS_ROLLING, .IMG_STATUS_FALLBACK, .PWR_MPG_MPEN,
        .PWR_PD_ON, .PWR_RAILr_STAT_STATE, .PWR_PD_FAULT_OFF, .CLK_SRC_SEL_PLL_REF, .CLK_STATUS_TB_COARSE,
        .CLK_SRC_READY_LOCK, .CLK_STATUS_SWITCHING, .CLK_SRC_SEL_WCLK_SOSC]) := by
  unfold Dev.imageStep
  extract_lets +onlyGivenNames d
  refine .use d ?_ fun h => ?_
  · unfold d
    exact .step (.refl _) (Dev.bootSelect_frame ..)
  · extract_lets +onlyGivenNames d
    refine .use d ?_ fun h => ?_
    · unfold d
      refine .ite (fun _ => h) fun _ => ?_
      exact .step (.servedMore (h) (Dev.bootTreeOnly_frame ..)) (Dev.bootClocks_frame ..)
    · extract_lets +onlyGivenNames _ _ d
      refine .use d ?_ fun h => ?_
      · unfold d
        exact .update (h)
      · exact .ite (fun _ => .step (h) (Dev.applyClockPlan_frame ..)) fun _ => h

theorem Dev.upActions_frame (d : Dev) (n : Nat) :
    d.Frame (d.upActions n) [.regs, .cfg, .oldCfgs, .boot, .mgt, .ust, .evt, .pmc, .pwr, .rst, .clk, .thm, .pin,
        .jrn, .heads, .slices, .tier, .poison, .med, .shadow, .qen, .tal, .per, .cry, .out,
        .freeCtr] (serviceFields.append [.PWR_RAILr_STAT_STATE, .PWR_RAILr_CYC_CYCLES, .CLK_SRC_SEL_PLL_REF,
        .CLK_STATUS_TB_COARSE, .CLK_SRC_READY_LOCK, .CLK_STATUS_SWITCHING, .CLK_SRC_SEL_WCLK_SOSC, .PWR_PD_ON,
        .PWR_PD_FAULT_OFF, .IMG_SEQ_ACT_SEQ, .IMG_STATUS_LAST_RESULT, .IMG_STATUS_LAST_SECTION,
        .IMG_STATUS_ACTIVE_SLOT, .IMG_STATUS_RECOVERY, .PWR_STEP_RECOVERY, .PWR_STEP_SQ_WAIT, .PWR_SQ_STAT_HOLDING,
        .IMG_STATUS_PENDING, .PWR_SQ_CTL_TARGET, .IMG_STATUS_ROLLING, .IMG_STATUS_FALLBACK, .PWR_MPG_MPEN,
        .PWR_MPGg_CNT_CYCLES, .THM_STATUS_THERM]) := by
  unfold Dev.upActions
  split
  · exact .step (.refl _) (Dev.enableNext_frame ..)
  · refine .servedMore ?_ (Dev.enablePd_frame ..)
    refine .servedMore ?_ (Dev.enablePd_frame ..)
    refine .servedMore ?_ (Dev.enablePd_frame ..)
    exact .ite (fun _ => .step (.refl _) (Dev.bootClocks_frame ..)) fun _ => .refl _
  · exact .servedMore (.refl _) (Dev.imageStep_frame ..)
  · exact .step (.refl _) (Dev.enableNext_frame ..)
  · extract_lets +onlyGivenNames d
    refine .use d ?_ fun h => ?_
    · unfold d
      exact .step (.refl _) (Dev.startPlls_frame ..)
    · extract_lets +onlyGivenNames d
      refine .use d ?_ fun h => ?_
      · unfold d
        exact .thenEach (h) fun d a => .servedMore (.refl _) (Dev.enablePd_frame ..)
      · extract_lets +onlyGivenNames d
        refine .use d ?_ fun h => ?_
        · unfold d
          exact .thenEach (h) fun d a => .servedMore (.refl _) (Dev.enablePd_frame ..)
        · extract_lets +onlyGivenNames d
          refine .use d ?_ fun h => ?_
          · unfold d
            exact .thenEach (h) fun d a => .servedMore (.refl _) (Dev.enablePd_frame ..)
          · exact .step (.servedMore (h) (Dev.enablePd_frame ..)) (Dev.checkNoTier_frame ..)
  · refine .thenEach (.refl _) fun d a => ?_
    exact .ite (fun _ => .refl _) fun _ => .step (.refl _) (Dev.raiseMpg_frame ..)
  · exact .step (.update (.refl _)) (Dev.updateTherm_frame ..)
  · exact .refl _

theorem Dev.enterUp_frame (d : Dev) (n : Nat) :
    d.Frame (d.enterUp n) [.regs, .cfg, .oldCfgs, .boot, .mgt, .ust, .evt, .pmc, .pwr, .rst, .clk, .thm, .pin, .jrn,
        .heads, .slices, .tier, .poison, .med, .shadow, .qen, .tal, .per, .cry, .out,
        .freeCtr] (serviceFields.append [.PWR_STEP_STEP, .PWR_STEP_SQ_WAIT, .PWR_SQ_STAT_HOLDING,
        .PWR_RAILr_STAT_STATE, .PWR_RAILr_CYC_CYCLES, .CLK_SRC_SEL_PLL_REF, .CLK_STATUS_TB_COARSE,
        .CLK_SRC_READY_LOCK, .CLK_STATUS_SWITCHING, .CLK_SRC_SEL_WCLK_SOSC, .PWR_PD_ON, .PWR_PD_FAULT_OFF,
        .IMG_SEQ_ACT_SEQ, .IMG_STATUS_LAST_RESULT, .IMG_STATUS_LAST_SECTION, .IMG_STATUS_ACTIVE_SLOT,
        .IMG_STATUS_RECOVERY, .PWR_STEP_RECOVERY, .IMG_STATUS_PENDING, .PWR_SQ_CTL_TARGET, .IMG_STATUS_ROLLING,
        .IMG_STATUS_FALLBACK, .PWR_MPG_MPEN, .PWR_MPGg_CNT_CYCLES, .THM_STATUS_THERM]) := by
  unfold Dev.enterUp
  exact .servedMore (.step (.refl _) (Dev.markStep_frame ..)) (Dev.upActions_frame ..)

theorem Dev.releaseCore_frame (d : Dev) :
    d.Frame d.releaseCore [.regs, .mgt, .ust, .evt, .pmc, .jrn, .heads, .slices, .tier, .poison, .med, .shadow,
        .qen, .tal, .per, .cry, .out, .freeCtr] (serviceFields.append [.DRT_STACKd_STAT_SELF_REFRESH,
        .GLB_HEAD_LINK_RATE, .GLB_HEAD_LINK_WIDTH, .GLB_HEAD_LINK_FLIT, .GLB_HEAD_LINK_CXL, .GLB_HEAD_LINK_IDE_MEM,
        .GLB_HEAD_LINK_IDE_IO, .GLB_HEAD_LINK_REVERSED, .GLB_HEAD_LOAD_DEVLOAD, .GLB_HEAD_LOAD_OCC_LVL,
        .GLB_HEAD_LOAD_WB_LVL, .GLB_HEAD_LOAD_WEAR_LVL, .GLB_HEAD_LOAD_THERM_LVL]) := by
  unfold Dev.releaseCore
  extract_lets +onlyGivenNames d
  refine .use d ?_ fun h => ?_
  · unfold d
    exact .served (.step (.refl _) (Dev.selfRefresh_frame ..)) (Dev.endRecoveries_frame ..)
  · extract_lets +onlyGivenNames d
    refine .use d ?_ fun h => ?_
    · unfold d
      refine .thenEach (h) fun d a => ?_
      refine .ite (fun _ => ?_) fun _ => .refl _
      exact .step (.step (.refl _) (Dev.headReset_frame ..)) (Dev.setUnit_frame ..)
    · exact .thenEach (h) fun d a => .step (.refl _) (Dev.replayOps_frame ..)

theorem Dev.portsLost_frame (d : Dev) (m : Nat) :
    d.Frame (d.portsLost m) serviceParts serviceFields := by
  unfold Dev.portsLost
  split
  · exact .refl _
  · refine .ite (fun _ => ?_) fun _ => .refl _
    refine .ite (fun _ => ?_) fun _ => .also (.refl _) (Dev.failUnit_frame ..)
    extract_lets +onlyGivenNames g
    exact .step (.step (.refl _) (Dev.setUnit_frame ..)) (Dev.raise_frame ..)

theorem Dev.trainFail_frame (d : Dev) (m : Nat) (cause : Nat) (train : Nat) :
    d.Frame (d.trainFail m cause train) serviceParts serviceFields := by
  unfold Dev.trainFail
  extract_lets +onlyGivenNames _ d
  refine .use d ?_ fun h => ?_
  · unfold d
    exact .step (.refl _) (Dev.setLink_frame ..)
  · exact .also (.also (.step (h) (Dev.linkEvent_frame ..)) (Dev.failUnit_frame ..)) (Dev.portsLost_frame ..)

theorem Dev.fullTraining_frame (d : Dev) (m : Nat) (cause : Nat) :
    d.Frame (d.fullTraining m cause) serviceParts serviceFields := by
  unfold Dev.fullTraining
  extract_lets +onlyGivenNames x fulls
  refine .ite (fun _ => ?_) fun _ => ?_
  · exact .also (.step (.refl _) (Dev.setLink_frame ..)) (Dev.trainFail_frame ..)
  · extract_lets +onlyGivenNames d
    refine .use d ?_ fun h => ?_
    · unfold d
      exact .step (.refl _) (Dev.setLink_frame ..)
    · exact .ite (fun _ => h) fun _ => .step (h) (Dev.setUnit_frame ..)

theorem Dev.pipelineFail_frame (d : Dev) :
    d.Frame d.pipelineFail serviceParts serviceFields := by
  unfold Dev.pipelineFail
  extract_lets +onlyGivenNames d
  refine .use d ?_ fun h => ?_
  · unfold d
    exact .thenEach (.refl _) fun d a => .also (.refl _) (Dev.failUnit_frame ..)
  · exact .update (h)

theorem Dev.pipelineDouble_frame (d : Dev) (k : Nat) :
    d.Frame (d.pipelineDouble k) serviceParts serviceFields := by
  unfold Dev.pipelineDouble
  extract_lets +onlyGivenNames g
  refine .also ?_ (Dev.pipelineFail_frame ..)
  exact .step (.step (.refl _) (Dev.doubleFault_frame ..)) (Dev.loseEngineRecords_frame ..)

theorem Dev.mpgRiseFail_frame (d : Dev) (g : Nat) :
    d.Frame (d.mpgRiseFail g) [.regs, .ust, .evt, .pmc, .pwr, .jrn, .heads, .slices, .tier, .poison, .med, .shadow,
        .qen, .tal, .per, .cry, .out, .freeCtr] (serviceFields.append [.PWR_MPGg_CNT_RISE_FAIL, .PWR_MPG_MPEN]) := by
  unfold Dev.mpgRiseFail
  extract_lets +onlyGivenNames d
  refine .use d ?_ fun h => ?_
  · unfold d
    exact .step (.refl _) (Dev.count_frame ..)
  · extract_lets +onlyGivenNames _ d
    refine .use d ?_ fun h => ?_
    · unfold d
      exact .update (h)
    · exact .servedMore (.step (h) (Dev.raise_frame ..)) (Dev.mpgOff_frame ..)

theorem Dev.linkTested_frame (d : Dev) (m : Nat) :
    d.Frame (d.linkTested m) serviceParts serviceFields := by
  unfold Dev.linkTested
  exact .also (.step (.refl _) (Dev.setLink_frame ..)) (Dev.enterService_frame ..)

theorem Dev.mpgLatch_frame (d : Dev) (g : Nat) :
    d.Frame (d.mpgLatch g) [.regs, .ust, .evt, .pmc, .pwr, .jrn, .heads, .slices, .tier, .poison, .med, .shadow,
        .qen, .tal, .per, .cry, .out, .freeCtr] (serviceFields.append [.PWR_MPG_LATCH, .PWR_MPGg_CNT_LATCHES,
        .PWR_MPG_MPEN]) := by
  unfold Dev.mpgLatch
  extract_lets +onlyGivenNames d
  refine .use d ?_ fun h => ?_
  · unfold d
    exact .step (.step (.refl _) (Dev.setFieldBit_frame ..)) (Dev.count_frame ..)
  · extract_lets +onlyGivenNames _ d
    refine .use d ?_ fun h => ?_
    · unfold d
      exact .update (h)
    · exact .servedMore (.step (h) (Dev.raise_frame ..)) (Dev.mpgOff_frame ..)

theorem Dev.recoverableFault_frame (d : Dev) (ix : Nat) :
    d.Frame (d.recoverableFault ix) [.regs, .mgt, .ust, .evt, .pmc, .jrn, .heads, .slices, .tier, .poison, .med,
        .shadow, .qen, .tal, .per, .cry, .out, .freeCtr] serviceFields := by
  unfold Dev.recoverableFault
  split
  · exact .step (.step (.refl _) (Dev.faultEvent_frame ..)) (Dev.resetUnit_frame ..)
  · exact .step (.step (.refl _) (Dev.faultEvent_frame ..)) (Dev.resetUnit_frame ..)
  · exact .step (.step (.refl _) (Dev.faultEvent_frame ..)) (Dev.resetUnit_frame ..)
  · exact .step (.step (.refl _) (Dev.faultEvent_frame ..)) (Dev.resetUnit_frame ..)
  · exact .served (.step (.refl _) (Dev.faultEvent_frame ..)) (Dev.failUnit_frame ..)
  · exact .served (.step (.refl _) (Dev.faultEvent_frame ..)) (Dev.failUnit_frame ..)
  · exact .refl _
  · exact .refl _
  · exact .refl _
  · exact .refl _

theorem Dev.endDrainOf_frame (d : Dev) (ix : Nat) (target : UState) :
    d.Frame (d.endDrainOf ix target) serviceParts (serviceFields.append [.PWR_PD_ON]) := by
  unfold Dev.endDrainOf
  extract_lets +onlyGivenNames x _ y z
  have set : d.Frame x serviceParts serviceFields := .mono (Dev.setUnit_frame ..)
  have gone : x.Frame z serviceParts serviceFields := by
    unfold z
    split
    · exact Dev.adopt_frame ..
    · exact .mono (Dev.complexGone_frame ..)
    · exact .also (.mono (Dev.setLink_frame ..)) (Dev.linkGone_frame ..).mono
    · have stack : x.Frame y serviceParts serviceFields := .mono (Dev.stackGone_frame ..)
      exact .ite (fun _ => .step (.step stack (Dev.checkNoTier_frame ..)) (Dev.startRegions_frame ..)) fun _ => stack
    · exact .refl x
  have all : d.Frame z serviceParts (serviceFields.append [.PWR_PD_ON]) := .mono (set.also gone)
  exact .ite (fun _ => .step all (Dev.domainOff_frame ..)) fun _ => all

theorem Dev.sliceFault_frame (d : Dev) (k : Nat) :
    d.Frame (d.sliceFault k) [.regs, .mgt, .ust, .evt, .pmc, .jrn, .heads, .slices, .tier, .poison, .med, .shadow,
        .qen, .tal, .per, .cry, .out, .freeCtr] serviceFields := by
  unfold Dev.sliceFault
  extract_lets +onlyGivenNames b u v replaying buddyInReset soloByFault live d
  refine .use d ?_ fun h => ?_
  · unfold d
    refine .ite (fun _ => ?_) fun _ => .also (.refl _) (Dev.recoverableFault_frame ..)
    exact .step (.step (.refl _) (Dev.faultEvent_frame ..)) (Dev.pairLost_frame ..)
  · exact .ite (fun _ => .served (h) (Dev.pipelineDouble_frame ..)) fun _ => h

theorem Dev.unitLoss_frame (d : Dev) (ix : Nat) :
    d.Frame (d.unitLoss ix) serviceParts serviceFields := by
  unfold Dev.unitLoss
  split
  · exact .also (.step (.refl _) (Dev.faultEvent_frame ..)) (Dev.failUnit_frame ..)
  · exact .also (.step (.refl _) (Dev.faultEvent_frame ..)) (Dev.failUnit_frame ..)
  · exact .also (.step (.refl _) (Dev.faultEvent_frame ..)) (Dev.failUnit_frame ..)
  · exact .also (.step (.refl _) (Dev.faultEvent_frame ..)) (Dev.failUnit_frame ..)
  · exact .also (.step (.refl _) (Dev.faultEvent_frame ..)) (Dev.failUnit_frame ..)
  · exact .also (.step (.refl _) (Dev.faultEvent_frame ..)) (Dev.failUnit_frame ..)
  · exact .refl _
  · exact .refl _
  · exact .refl _
  · exact .refl _

theorem Dev.startUnit_frame (d : Dev) (ix : Nat) :
    d.Frame (d.startUnit ix) serviceParts (serviceFields.append [.PWR_PD_ON]) := by
  unfold Dev.startUnit
  extract_lets +onlyGivenNames d
  refine .use d ?_ fun h => ?_
  · unfold d
    exact .step (.step (.refl _) (Dev.domainOn_frame ..)) (Dev.setUnit_frame ..)
  · dsimp only
    split
    · exact .step h (Dev.setUnitRec_frame ..)
    · exact .step h (Dev.setUnitRec_frame ..)
    · exact .served (.step (.step (h) (Dev.setUnitRec_frame ..)) (Dev.setLink_frame ..)) (Dev.fullTraining_frame ..)
    · exact .step h (Dev.setUnit_frame ..)

theorem Dev.unitDo_frame (d : Dev) (ix : Nat) (op : UnitOp) :
    d.Frame (d.unitDo ix op) [.regs, .boot, .mgt, .ust, .evt, .pmc, .jrn, .heads, .slices, .tier, .poison, .med,
        .shadow, .qen, .tal, .per, .cry, .out, .freeCtr] (serviceFields.append [.PWR_PD_ON, .GLB_HEAD_LINK_RATE,
        .GLB_HEAD_LINK_WIDTH, .GLB_HEAD_LINK_FLIT, .GLB_HEAD_LINK_CXL, .GLB_HEAD_LINK_IDE_MEM,
        .GLB_HEAD_LINK_IDE_IO, .GLB_HEAD_LINK_REVERSED, .GLB_HEAD_LOAD_DEVLOAD, .GLB_HEAD_LOAD_OCC_LVL,
        .GLB_HEAD_LOAD_WB_LVL, .GLB_HEAD_LOAD_WEAR_LVL, .GLB_HEAD_LOAD_THERM_LVL]) := by
  unfold Dev.unitDo
  split
  · refine .ite (fun _ => .servedMore (.refl _) (Dev.startUnit_frame ..)) fun _ => ?_
    exact .step (.served (.refl _) (Dev.enterService_frame ..)) (Dev.afterService_frame ..)
  · exact .step (.refl _) (Dev.drainUnit_frame ..)
  · exact .step (.refl _) (Dev.drainUnit_frame ..)
  · exact .step (.refl _) (Dev.drainUnit_frame ..)
  · refine .ite (fun _ => ?_) fun _ => .step (.refl _) (Dev.resetUnit_frame ..)
    extract_lets +onlyGivenNames d
    refine .use d ?_ fun h => ?_
    · unfold d
      exact .step (.step (.refl _) (Dev.headReset_frame ..)) (Dev.setUnit_frame ..)
    · exact .step h (Dev.setUnit_frame ..)
  · exact .step (.refl _) (Dev.repairUnit_frame ..)
  · refine .ite (fun _ => .step (.refl _) (Dev.drainUnit_frame ..)) fun _ => ?_
    extract_lets +onlyGivenNames d
    refine .use d ?_ fun h => ?_
    · unfold d
      exact .step (.step (.refl _) (Dev.setUnit_frame ..)) (Dev.domainOff_frame ..)
    · exact .ite (fun _ => .step (h) (Dev.releaseRegion_frame ..)) fun _ => h

theorem Dev.mpgTransition_frame (d : Dev) (g : Nat) :
    d.Frame (d.mpgTransition g) [.regs, .ust, .evt, .pmc, .pwr, .jrn, .heads, .slices, .tier, .poison, .med,
        .shadow, .qen, .tal, .per, .cry, .out, .freeCtr] (serviceFields.append [.PWR_MPG_LATCH,
        .PWR_MPGg_CNT_LATCHES, .PWR_MPG_MPEN]) := by
  unfold Dev.mpgTransition
  extract_lets +onlyGivenNames win n _ d
  refine .use d ?_ fun h => ?_
  · unfold d
    exact .update (.refl _)
  · exact .ite (fun _ => .also (h) (Dev.mpgLatch_frame ..)) fun _ => h

end Sys2Proof.Machine
end

section
/-!
O7: clock sources, PLLs and the timebase read (R389 to R398).
-/
-- Checked one after another: side by side, each waiting for the kernel, the proofs need more threads than the memory admits.
set_option Elab.async false
namespace Sys2Proof

theorem mem_setInsert {l : List Nat} {n m : Nat} : m ∈ setInsert l n ↔ m = n ∨ m ∈ l := by
  induction l with
  | nil => simp [setInsert]
  | cons a r ih =>
    unfold setInsert
    split
    · simp
    · split
      next h => simp [h]
      next => simp [ih, or_left_comm]

theorem not_mem_setErase (l : List Nat) (n : Nat) : n ∉ setErase l n := by simp [setErase]

/-- A bit that is set or cleared reads so. -/
theorem testBit_setBit (x i : Nat) (v : Bool) : (setBit x i v).testBit i = v := by
  cases hx : x.testBit i with
  | false =>
    cases v with
    | false => simp [setBit, hx]
    | true => simp [setBit, hx, Nat.add_comm x, Nat.testBit_two_pow_add_eq]
  | true =>
    cases v with
    | true => simp [setBit, hx]
    | false =>
      have split : x = 2 ^ i + (x - 2 ^ i) := by have := Nat.ge_two_pow_of_testBit hx; omega
      have rest : (x - 2 ^ i).testBit i = false := by
        rw [split, Nat.testBit_two_pow_add_eq] at hx
        simpa using hx
      simp [setBit, hx, rest]

namespace Machine

/-- A bit of a field, set or cleared, reads so where the field has it. -/
theorem Dev.testBit_setFieldBit (d : Dev) (f : Fld) (i b : Nat) (v : Bool) (hb : b < f.info.width) :
    ((d.setFieldBit f i b v).reg f i).testBit b = v := by
  rw [Dev.setFieldBit, Dev.reg_setReg, Nat.testBit_mod_two_pow, testBit_setBit]
  simp [hb]

theorem Dev.reg_setFlag (d : Dev) (f : Fld) (i : Nat) (v : Bool) (hf : 1 ≤ f.info.width) : (d.setFlag f i v).reg f i = b2n v := by
  refine (Dev.reg_setReg ..).trans (Nat.mod_eq_of_lt ?_)
  have two : 2 ^ 1 ≤ 2 ^ f.info.width := Nat.pow_le_pow_right (by decide) hf
  cases v <;> exact Nat.lt_of_lt_of_le (by decide) two

/-! ## Holdover (R393, R394) -/

section
variable (d : Dev) (p c : Nat)

/-- A running PLL that starts to switch is in holdover; which PLLs are off does not change. -/
theorem Dev.switchPll_clk : (d.switchPll p c).clk.off = d.clk.off ∧
    (∀ q, q ∈ d.clk.holdover → q ∈ (d.switchPll p c).clk.holdover) ∧
    (d.pllOn p = true → p ∈ (d.switchPll p c).clk.holdover) := by
  unfold Dev.switchPll
  dsimp only
  have on : (d.setPllRef p c).pllOn p = d.pllOn p := rfl
  rw [on]
  split
  next off => exact ⟨rfl, fun _ h => h, fun h => by simp [h] at off⟩
  next => exact ⟨rfl, fun _ h => mem_setInsert.mpr (.inr h), fun _ => mem_setInsert.mpr (.inl rfl)⟩

theorem Dev.fallBack_clk : (d.fallBack p).clk.off = d.clk.off ∧
    (∀ q, q ∈ d.clk.holdover → q ∈ (d.fallBack p).clk.holdover) ∧
    (d.pllOn p = true → p ∈ (d.fallBack p).clk.holdover) := by
  unfold Dev.fallBack
  rw [Dev.raise_clk]
  exact d.switchPll_clk p _

end

/-- PLLs that fall back one after the other are all in holdover. -/
theorem Dev.each_fallBack_holdover (l : List Nat) (d : Dev) (hl : ∀ p ∈ l, d.pllOn p = true) :
    ∀ p, p ∈ l ∨ p ∈ d.clk.holdover → p ∈ (d.each l Dev.fallBack).clk.holdover := by
  induction l generalizing d with
  | nil => exact fun p h => h.resolve_left (List.not_mem_nil)
  | cons q l ih =>
    obtain ⟨off, keeps, takes⟩ := d.fallBack_clk q
    have on : ∀ p ∈ l, (d.fallBack q).pllOn p = true := fun p hp => by
      rw [Dev.pllOn, off]
      exact hl p (List.mem_cons_of_mem _ hp)
    intro p hp
    refine ih (d.fallBack q) on p ?_
    rcases hp with hp | hp
    · rcases List.mem_cons.mp hp with rfl | hp
      · exact .inr (takes (hl p List.mem_cons_self))
      · exact .inl hp
    · exact .inr (keeps p hp)

/-! ## The commands -/

/-- The device when a source has stopped being ready, before the PLLs on it fall back. -/
def Dev.sourceGone (d : Dev) (c : Nat) : Dev :=
  if c = 0 then (d.setFieldBit .CLK_SRC_READY_SRC 0 c false).setFlag .CLK_SRC_SEL_WCLK_SOSC 0 true
  else d.setFieldBit .CLK_SRC_READY_SRC 0 c false

/-- The running PLLs on a source: PLL_F, and from step 4 on the others too (R390). -/
def Dev.onSource (d : Dev) (c : Nat) : List Nat :=
  pllNumbers.filter (fun p => d.pllOn p && d.pllRef p = c && (p = 5 || decide (4 ≤ d.reg .PWR_STEP_STEP)))

theorem Dev.mem_onSource {d : Dev} {c p : Nat} :
    p ∈ d.onSource c ↔ p < 6 ∧ d.pllOn p = true ∧ d.pllRef p = c ∧ (p = 5 ∨ 4 ≤ d.step) := by
  have six : p ∈ pllNumbers ↔ p < 6 := by simp [pllNumbers]; omega
  rw [Dev.onSource, List.mem_filter, six]
  simp [and_assoc, Dev.step]

theorem Dev.sourceGone_spec (d : Dev) {c : Nat} (hc : c ≤ 4) : (d.sourceGone c).srcReady c = false ∧
    (c = 0 → (d.sourceGone c).reg .CLK_SRC_SEL_WCLK_SOSC = 1) ∧ (d.sourceGone c).clk = d.clk ∧
    (∀ p, (d.sourceGone c).pllRef p = d.pllRef p) ∧ (d.sourceGone c).step = d.step ∧
    d.Frame (d.sourceGone c) [.regs, .clk, .evt, .out] (evtFields.append [.CLK_SRC_READY_SRC, .CLK_SRC_SEL_WCLK_SOSC,
      .CLK_SRC_SEL_PLL_REF, .CLK_STATUS_TB_COARSE, .CLK_SRC_READY_LOCK, .CLK_STATUS_SWITCHING, .CLK_STATUS_FALLBACK]) := by
  have lost := d.testBit_setFieldBit .CLK_SRC_READY_SRC 0 c false (Nat.lt_succ_of_le hc)
  have frame : d.Frame (d.sourceGone c) [.regs] [.CLK_SRC_READY_SRC, .CLK_SRC_SEL_WCLK_SOSC] := by
    unfold Dev.sourceGone
    exact .ite (fun _ => .step (.mono (Dev.setFieldBit_frame ..)) (Dev.setFlag_frame ..)) fun _ => .mono (Dev.setFieldBit_frame ..)
  refine ⟨?_, fun c0 => ?_, frame.parts .clk (by decide), fun p => congrArg (bits · (2 * p) 2) (frame.reg .CLK_SRC_SEL_PLL_REF 0),
    frame.reg .PWR_STEP_STEP 0, frame.mono⟩
  · unfold Dev.sourceGone Dev.srcReady
    split
    · rw [show (Dev.setFlag _ .CLK_SRC_SEL_WCLK_SOSC 0 true).reg .CLK_SRC_READY_SRC = _ from Dev.reg_setReg_ne _ _ (.inl (by decide))]
      exact lost
    · exact lost
  · rw [Dev.sourceGone, if_pos c0]
    exact Dev.reg_setFlag _ _ _ _ (by decide)

section
variable (d : Dev) (v : Nat)

/-- CLK_SRC_SEL names only sources that are ready, and REFCLK for PLL_A alone (R389, R393). -/
def Dev.selectable (d : Dev) (v : Nat) : Prop :=
  (∀ p < 6, d.srcReady (bits v (2 * p) 2) = true ∧ (bits v (2 * p) 2 = 3 → p = 0)) ∧
    d.srcReady (if v.testBit 12 then 4 else 0) = true

theorem Dev.selectable_iff : (pllNumbers.all (fun p => d.srcReady (bits v (2 * p) 2) && (bits v (2 * p) 2 ≠ 3 || p = 0)) &&
    d.srcReady (if v.testBit 12 then 4 else 0)) = true ↔ d.selectable v := by
  have six : ∀ P : Nat → Prop, (∀ p ∈ pllNumbers, P p) ↔ ∀ p < 6, P p := fun P =>
    ⟨fun h p hp => h p (by simp [pllNumbers]; omega), fun h p hp => h p (by simp [pllNumbers] at hp; omega)⟩
  rw [Bool.and_eq_true, List.all_eq_true, six, Dev.selectable]
  refine and_congr_left' (forall₂_congr fun p _ => ?_)
  simp [or_iff_not_imp_left]

theorem Dev.selectClocks_busy (h : d.flag .CLK_STATUS_SWITCHING = true) : d.selectClocks v = d.setReg .CLK_STATUS_LAST 0 2 := if_pos h

theorem Dev.selectClocks_refused (h : d.flag .CLK_STATUS_SWITCHING = false) (hv : ¬ d.selectable v) :
    d.selectClocks v = d.setReg .CLK_STATUS_LAST 0 1 :=
  (if_neg (Bool.eq_false_iff.mp h)).trans (if_neg (mt (d.selectable_iff v).mp hv))

/-- An accepted selection reads OK and names SOSC as bit 12 does; each PLL whose source differs begins a switch. -/
theorem Dev.selectClocks_accepted (h : d.flag .CLK_STATUS_SWITCHING = false) (hv : d.selectable v) :
    (d.selectClocks v).reg .CLK_STATUS_LAST = 0 ∧ (d.selectClocks v).reg .CLK_SRC_SEL_WCLK_SOSC = b2n (v.testBit 12) ∧
    d.Frame (d.selectClocks v) [.regs, .clk] [.CLK_STATUS_LAST, .CLK_SRC_SEL_WCLK_SOSC, .CLK_SRC_SEL_PLL_REF,
      .CLK_STATUS_TB_COARSE, .CLK_SRC_READY_LOCK, .CLK_STATUS_SWITCHING] := by
  obtain ⟨x, hx⟩ : ∃ x, x = (d.setReg .CLK_STATUS_LAST 0 0).setFlag .CLK_SRC_SEL_WCLK_SOSC 0 (v.testBit 12) := ⟨_, rfl⟩
  have run : d.selectClocks v =
      x.each (pllNumbers.filter (fun p => bits v (2 * p) 2 ≠ x.pllRef p)) (fun d p => d.switchPll p (bits v (2 * p) 2)) := by
    rw [hx]
    exact (if_neg (Bool.eq_false_iff.mp h)).trans (if_pos ((d.selectable_iff v).mpr hv))
  have switched := Dev.Frame.each (pllNumbers.filter (fun p => bits v (2 * p) 2 ≠ x.pllRef p))
    (fun d p => d.switchPll_frame p (bits v (2 * p) 2)) x
  rw [run]
  refine ⟨?_, ?_, ?_⟩
  · rw [switched.reg .CLK_STATUS_LAST 0, hx]
    exact (Dev.reg_setReg_ne _ _ (.inl (by decide))).trans (Dev.reg_setReg ..)
  · rw [switched.reg .CLK_SRC_SEL_WCLK_SOSC 0, hx]
    exact Dev.reg_setFlag _ _ _ _ (by decide)
  · subst hx
    exact .step (.step (.mono (Dev.setReg_frame ..)) (Dev.setFlag_frame ..)) switched

end

/-- Settles O7. That REFCLK is refused for a PLL other than PLL_A is log entry 49. -/
theorem clockCommandsTakeEffect : Obligations.ClockCommandsTakeEffect := by
  refine ⟨fun s c ha hc => ?_, fun s c ha hc => ?_, fun s p ha hp hon hl hr => ?_, fun s p ha hr => ?_, fun s p ha hsw => ?_,
    fun s v ha hsw => ⟨fun ok => ?_, fun bad => ?_⟩, fun s v ha hsw => ?_, fun s ha => ?_⟩
  · have ready := s.stamped.testBit_setFieldBit .CLK_SRC_READY_SRC 0 c true (Nat.lt_succ_of_le hc)
    have first := s.stamped.setFieldBit_frame .CLK_SRC_READY_SRC 0 c true
    have rest : ∀ d : Dev, d.Frame (if c = 1 && decide (d.reg .PWR_STEP_STEP < 4) then
        (d.setPllRef 5 1).setFieldBit .CLK_SRC_READY_LOCK 0 5 true else d) [.regs]
        [.CLK_SRC_SEL_PLL_REF, .CLK_STATUS_TB_COARSE, .CLK_SRC_READY_LOCK] := fun d =>
      .ite (fun _ => .step (.mono (Dev.setPllRef_frame ..)) (Dev.setFieldBit_frame ..)) fun _ => .refl d
    refine ⟨_, show execClockSourceReady c s = _ from State.on_when ha (decide_eq_true hc), ?_,
      (.step (.mono first (List.Subset.refl _) (by decide)) (rest _) : Dev.Frame _ _ [.regs]
        [.CLK_SRC_READY_SRC, .CLK_SRC_SEL_PLL_REF, .CLK_STATUS_TB_COARSE, .CLK_SRC_READY_LOCK]).changesOnly⟩
    rw [Dev.srcReady, (rest _).reg .CLK_SRC_READY_SRC 0]
    exact ready
  · obtain ⟨x, hx⟩ : ∃ x, x = s.stamped.sourceGone c := ⟨_, rfl⟩
    obtain ⟨lost, sosc, clk, ref, step, first⟩ := hx ▸ s.stamped.sourceGone_spec hc
    have rest := fun l => Dev.Frame.each l (fun d p => d.fallBack_frame p) x
    have run : exec (.clockSourceLost c) s = .next { s with dev := x.each (x.onSource c) Dev.fallBack } :=
      hx ▸ show execClockSourceLost c s = _ from State.on_when ha (decide_eq_true hc)
    refine ⟨_, run, ?_, fun c0 => ?_, fun p hp hon href hst => Dev.each_fallBack_holdover _ x (fun p hp => ?_) p (.inl ?_),
      (first.step (rest _)).changesOnly⟩
    · rw [Dev.srcReady, (rest _).reg .CLK_SRC_READY_SRC 0]
      exact lost
    · rw [(rest _).reg .CLK_SRC_SEL_WCLK_SOSC 0]
      exact sosc c0
    · exact (Dev.mem_onSource.mp hp).2.1
    · refine Dev.mem_onSource.mpr ⟨hp, ?_, (ref p).trans href, hst.imp_right (step.trans_ge ·)⟩
      rw [Dev.pllOn, clk]
      exact hon
  · have guard : (decide (p < 6) && s.stamped.pllOn p && (s.stamped.reg .CLK_SRC_READY_LOCK).testBit p &&
        s.stamped.srcReady (s.stamped.pllRef p)) = true := by
      rw [decide_eq_true hp, show s.stamped.pllOn p = true from hon, show (s.stamped.reg .CLK_SRC_READY_LOCK).testBit p = true from hl,
        show s.stamped.srcReady (s.stamped.pllRef p) = true from hr]
      rfl
    refine ⟨_, show execPllLockLoss p s = _ from State.on_when ha guard, ?_, ?_⟩
    · split <;> exact AMap.find_put ..
    · exact (.ite (fun _ => .step (.update (.refl _)) (Dev.setFieldBit_frame _ .CLK_SRC_READY_LOCK ..)) fun _ =>
        .update (.step (.update (.refl _)) (Dev.setFieldBit_frame _ .CLK_SRC_READY_LOCK ..)) :
        Dev.Frame _ _ [.regs, .clk, .slices] [.CLK_SRC_READY_LOCK]).changesOnly
  · have locked : s.stamped.Frame (Dev.setFieldBit { s.stamped with clk := { s.dev.clk with relocking := s.dev.clk.relocking.del p } }
        .CLK_SRC_READY_LOCK 0 p true) [.regs, .clk] [.CLK_SRC_READY_LOCK] := .step (.update (.refl _)) (Dev.setFieldBit_frame ..)
    have counted : s.stamped.Counted _ .CLK_STATUS_RELOCKS 0 1 := locked.counted (Dev.raise_frame _ 25 { a := p })
    refine ⟨_, show execPllRelocked p s = _ from State.on_when ha hr, ?_, counted, (.step (.step (.mono locked) (Dev.count_frame ..))
      (Dev.raise_frame ..) : Dev.Frame _ _ [.regs, .clk, .evt, .out]
        (evtFields.append [.CLK_SRC_READY_LOCK, .CLK_STATUS_RELOCKS])).changesOnly⟩
    rw [Dev.raise_clk]
    exact AMap.find_del ..
  · refine ⟨_, show execPllSwitchDone p s = _ from State.on_when ha hsw, fun h => not_mem_setErase _ _ h,
      fun h => not_mem_setErase _ _ h, ?_⟩
    exact (.step (.step (.update (.refl _)) (Dev.setFieldBit_frame _ .CLK_SRC_READY_LOCK ..)) (Dev.setFlag_frame _ .CLK_STATUS_SWITCHING ..) :
      Dev.Frame _ _ [.regs, .clk] [.CLK_SRC_READY_LOCK, .CLK_STATUS_SWITCHING]).changesOnly
  · obtain ⟨last, sosc, frame⟩ := s.stamped.selectClocks_accepted v hsw ok
    exact ⟨_, show execClkSrcSelWrite v s = _ from State.on_aon ha _, last, sosc, frame.changesOnly⟩
  · have no : ¬ s.stamped.selectable v := by
      rintro ⟨all, w⟩
      rcases bad with ⟨p, hp, h | ⟨h, h0⟩⟩ | h
      · exact Bool.false_ne_true (h.symm.trans (all p hp).1)
      · exact h0 ((all p hp).2 h)
      · exact Bool.false_ne_true (h.symm.trans w)
    exact ⟨_, show execClkSrcSelWrite v s = _ from State.on_to ha (s.stamped.selectClocks_refused v hsw no), Dev.reg_setReg ..,
      (Dev.setReg_frame ..).changesOnly, (Dev.setReg_frame s.stamped ..).fieldsOnly⟩
  · exact ⟨_, show execClkSrcSelWrite v s = _ from State.on_to ha (s.stamped.selectClocks_busy v hsw), Dev.reg_setReg ..,
      (Dev.setReg_frame ..).changesOnly, (Dev.setReg_frame s.stamped ..).fieldsOnly⟩
  · have frame : s.stamped.Frame ((s.stamped.emit (.regRead (s.tb % 2 ^ 32))).setReg .CLK_TB_HI_TB_HI 0 (s.tb / 2 ^ 32)) [.regs, .out]
        [.CLK_TB_HI_TB_HI] := .step (.mono (Dev.emit_frame ..)) (Dev.setReg_frame ..)
    exact ⟨_, show execClkTbLoRead s = _ from State.on_aon ha _, rfl, Dev.reg_setReg .., frame.changesOnly, frame.fieldsOnly⟩

end Machine
end Sys2Proof
end

section
/-!
O6 and O8: the power-on reset, and the supplies (R356, R364, R397).
-/
-- Checked one after another: side by side, each waiting for the kernel, the proofs need more threads than the memory admits.
set_option Elab.async false
namespace Sys2Proof

/-- A key that no pair of the list names reads as before. -/
theorem AMap.find_foldl_put {α : Type} (l : AMap α) (m : AMap α) {k : Nat} (h : ∀ e ∈ l, e.1 ≠ k) :
    (l.foldl (fun (m : AMap α) (e : Nat × α) => m.put e.1 e.2) m).find k = m.find k := by
  induction l generalizing m with
  | nil => rfl
  | cons e l ih =>
    exact (ih _ fun x hx => h x (List.mem_cons_of_mem _ hx)).trans (AMap.find_put_ne _ _ (h e List.mem_cons_self))

theorem Machine.loadedTb_eq (c : Nat) : loadedTb c = (c + 999999999) / 1000000000 * 1000000000 + 1000000000 := by
  rw [loadedTb, roundUp, ceilDiv, Nat.add_sub_assoc (by decide)]

namespace Machine

/-- A command of the power family that ends in no power-on reset. -/
theorem State.onPower_to {s : State} (ha : s.dev.aon = true) {f : Dev → Dev} {d : Dev} (h : f s.stamped = d)
    (hr : d.rst.reload = false) : s.onPower f = .next { s with dev := d } := by
  unfold State.onPower
  rw [if_pos ha]
  dsimp only
  rw [h, if_neg (by simp [hr])]

/-! ## The power-on reset -/

section
variable (d : Dev)

theorem BootS.setSlotState_svnFloor (b : BootS) (n : Nat) (st : SlotState) : (b.setSlotState n st).svnFloor = b.svnFloor := by
  unfold BootS.setSlotState BootS.putSlot
  split <;> rfl

/-- The end of a staging session leaves the fused floor. -/
theorem Dev.breakStaging_svnFloor : d.breakStaging.boot.svnFloor = d.boot.svnFloor := by
  have hit : ∀ (b : BootS) (n : Option Nat), BootS.svnFloor (match n with
      | some n => { b.setSlotState n .invalid with stage := none, validating := none }
      | none => b) = b.svnFloor := fun b n => by
    cases n with
    | none => rfl
    | some n => exact b.setSlotState_svnFloor n .invalid
  unfold Dev.breakStaging
  dsimp only
  split
  · exact (hit _ _).trans (hit _ _)
  · rfl

/-- A power-on and a system reset keep the fused floor and whether the timebase is to be loaded again. -/
theorem Dev.clearSystem_kept : d.clearSystem.boot.svnFloor = d.boot.svnFloor ∧ d.clearSystem.rst.reload = d.rst.reload := by
  unfold Dev.clearSystem
  extract_lets x y marks z w dead persist
  have cut := Dev.cutPages_frame d.clearCore
  have core : x.boot.svnFloor = d.boot.svnFloor :=
    (congrArg BootS.svnFloor (cut.parts .boot (by decide))).trans d.breakStaging_svnFloor
  have reset : x.rst = d.rst := (cut.parts .rst (by decide)).trans (d.clearCore_frame.parts .rst (by decide))
  have rest : x.Frame w [.regs, .mgt, .evt, .jrn, .med, .cry, .out, .slices, .per, .tier]
      (evtFields.append [.MGT_STATUS_FALLBACK, .DRT_CULLET_CNT_ABANDONED, .DRT_CULLET_CNT_TGT_RETIRED, .GLB_WEAR_STAT_DEBT]) := by
    refine .use y ?_ fun h => ?_
    · exact .ite (fun _ => .mono (Dev.setFlag_frame ..)) fun _ => .refl x
    refine .use z (.thenEach h fun d r => .mono (Dev.abandonRow_frame ..)) fun h => ?_
    exact .thenEach h fun d p => .mono (Dev.metaAgain_frame ..)
  exact ⟨(congrArg BootS.svnFloor (rest.parts .boot (by decide))).trans core,
    (congrArg RstS.reload (rest.parts .rst (by decide))).trans (congrArg RstS.reload reset)⟩

end

/-- A field without a stored value reads its reset value. -/
theorem Dev.reg_of_find_none (d : Dev) {f : Fld} {i : Nat} (h : d.regs.find (f.key i) = none) (hf : f ∉ cfgFields) :
    d.reg f i = f.info.reset := by
  rw [Dev.reg, h]
  exact d.dflt_of_notCfg f i hf

/-- A field that a reset level clears has no stored value afterwards. -/
theorem Dev.clearRegs_find (d : Dev) {l : Level} {f : Fld} (hf : f ∈ levelFields l) (i : Nat) :
    (d.clearRegs l).regs.find (f.key i) = none := by
  unfold Dev.clearRegs
  dsimp only
  refine AMap.find_keep_none _ _ _ fun _ => ?_
  rw [Fld.key_mod]
  simpa using ⟨f, by simpa [levelFields] using hf, rfl⟩

/-- The pins as a power-on reset samples them (R460). -/
def Dev.sampledPins (d : Dev) (bootSel : Nat) (headMode sqRole : Bool) : PinS :=
  { pwrfailHighAt := d.now, resetN := d.pin.resetN, bootSel := bootSel % 4, headMode, sqRole }

/-- The device after a power-on reset, before the units that were in service go OFF: a field that the reset clears, and that is
no mirrored counter, reads its reset value. -/
theorem Dev.powerOnReset_spec (d : Dev) (b : Nat) (h r : Bool) : ∃ x : Dev, d.powerOnReset b h r = x.unitsToOff ∧
    x.aon = true ∧ x.cfg = none ∧ x.pin = d.sampledPins b h r ∧ x.boot.svnFloor = d.boot.svnFloor ∧
    ∀ f ∈ levelFields .powerOn, f ∉ mirroredFields → f ∉ cfgFields → ∀ i, x.reg f i = f.info.reset := by
  have now : (d.clearSystem.clearRegs .powerOn).now = d.now :=
    (d.clearSystem.clearRegs_frame .powerOn).now.trans d.clearSystem_frame.now
  have pin : (d.clearSystem.clearRegs .powerOn).pin = d.pin :=
    ((d.clearSystem.clearRegs_frame .powerOn).parts .pin (by decide)).trans (d.clearSystem_frame.parts .pin (by decide))
  have floor : (d.clearSystem.clearRegs .powerOn).boot.svnFloor = d.boot.svnFloor :=
    (congrArg BootS.svnFloor ((d.clearSystem.clearRegs_frame .powerOn).parts .boot (by decide))).trans d.clearSystem_kept.1
  have gone := fun f (hf : f ∈ levelFields .powerOn) i => d.clearSystem.clearRegs_find hf i
  unfold Dev.powerOnReset
  dsimp only
  generalize d.clearSystem.clearRegs .powerOn = y at now pin floor gone
  refine ⟨_, rfl, rfl, rfl, ?_, floor, fun f hf hm hc i => Dev.reg_of_find_none _ ?_ hc⟩
  · rw [Dev.sampledPins, ← now, ← pin]
  · have hgone := gone f hf i
    have mirrored : isMirroredKey (f.key i) = false := by
      simp only [isMirroredKey, Fld.key_mod, List.contains_eq_mem, decide_eq_false_iff_not, List.mem_map, not_exists, not_and]
      exact fun g hg e => hm (Fld.num_inj e ▸ hg)
    refine (AMap.find_foldl_put _ _ fun e he k => ?_).trans ((AMap.find_keep _ _ _ fun _ => by simp [mirrored]).trans hgone)
    have own : isMirroredKey e.1 = true := (List.mem_filter.mp he).2
    rw [k, mirrored] at own
    exact Bool.false_ne_true own

/-- The state when V_AON has become good: the timebase is loaded above every stamp given, and no dose is added. -/
def State.poweredOn (s : State) (d : Dev) : State :=
  { s with
    tb := loadedTb s.ceiling
    ceiling := loadedTb s.ceiling + 30000000000
    dev := { d with med := { d.med with
      accruedAt := loadedTb s.ceiling
      pkgs := d.med.pkgs.map (fun (e : Nat × PkgS) => (e.1, { e.2 with doseAt := loadedTb s.ceiling, temp := none })) } } }

/-- The device that a power-on reset starts from. -/
def State.loaded (s : State) : Dev := { s.dev with now := loadedTb s.ceiling, cause := none }

theorem powerOn_off {b : Nat} {h r : Bool} {s : State} (ha : s.dev.aon = false) :
    exec (.powerOn b h r) s = .next (s.poweredOn (s.loaded.powerOnReset b h r)) := by
  change execPowerOn b h r s = _
  unfold execPowerOn State.poweredOn State.loaded
  dsimp only
  rw [if_neg (by simp [ha])]

theorem State.poweredOn_frame (s : State) (d : Dev) : d.Frame (s.poweredOn d).dev [.med] [] := .update (.refl d)

/-- Settles O6. -/
theorem powerOnLoadsTimebaseFromCeiling : Obligations.PowerOnLoadsTimebaseFromCeiling := by
  intro b h r s ha
  obtain ⟨x, hx, aon, cfg, pin, svn, fields⟩ := s.loaded.powerOnReset_spec b h r
  have frame : x.Frame (s.poweredOn x.unitsToOff).dev [.regs, .ust, .evt, .jrn, .out, .med] evtFields :=
    .step (.mono x.unitsToOff_frame) (s.poweredOn_frame _)
  have read : ∀ f ∈ levelFields .powerOn, f ∉ mirroredFields → f ∉ cfgFields → f ∉ evtFields →
      (s.poweredOn x.unitsToOff).dev.reg f 0 = f.info.reset := fun f hf hm hc he =>
    (frame.regFixed f 0 he hc).trans (fields f hf hm hc 0)
  have pins := (frame.parts .pin (by decide)).trans pin
  have run := powerOn_off (b := b) (h := h) (r := r) ha
  rw [hx] at run
  refine ⟨_, run, ?_⟩
  have tb : (s.poweredOn x.unitsToOff).tb = loadedTb s.ceiling := rfl
  have ceiling : (s.poweredOn x.unitsToOff).ceiling = (s.poweredOn x.unitsToOff).tb + 30000000000 := rfl
  have floor : (s.poweredOn x.unitsToOff).dev.boot.svnFloor = s.loaded.boot.svnFloor :=
    (congrArg BootS.svnFloor (frame.parts .boot (by decide))).trans svn
  have step := read .PWR_STEP_STEP (by decide) (by decide) (by decide) (by decide)
  have por := read .RST_CAUSE_POR (by decide) (by decide) (by decide) (by decide)
  have aon := (frame.parts .aon (by decide)).trans aon
  have cfg := frame.cfg.trans cfg
  generalize s.poweredOn x.unitsToOff = t at *
  exact ⟨tb.trans (loadedTb_eq _), ceiling, aon, step, por, congrArg PinS.bootSel pins, congrArg PinS.headMode pins,
    congrArg PinS.sqRole pins, cfg, floor⟩

/-! ## Supplies -/

/-- A step that is entered reads so, and the configuration's word on the start stays (R377). -/
theorem Dev.markStep_spec (d : Dev) (n : Nat) (hold : Bool) : (d.markStep n hold).step = n % 16 ∧
    (d.markStep n hold).pwr = { d.pwr with stepAt := d.now, ready := false, upTimeoutRaised := false } := by
  unfold Dev.markStep
  extract_lets x y
  refine ⟨?_, ?_⟩
  · refine ((Dev.sqHold_frame ..).reg .PWR_STEP_STEP 0).trans ?_
    exact ((Dev.setFlag_frame ..).reg .PWR_STEP_STEP 0).trans (Dev.reg_setReg ..)
  · exact (Dev.sqHold_frame ..).parts .pwr (by decide)

/-- The device that a start from step 15 begins with: nothing is in force, and the units that were in service are OFF. -/
def Dev.restarting (d : Dev) : Dev :=
  let x := (d.clearSystem.clearRegs .system).unitsToOff
  { x with cfg := none, pwr := { x.pwr with downByT4 := false, fullUp := true }
           rst := { x.rst with held := !x.pin.resetN } }

theorem Dev.restartUp_of_clean (d : Dev) (h : d.pwr.downByT4 = false) : d.restartUp = d.restarting.markStep 2 true := by
  unfold Dev.restartUp
  rw [if_neg (by simp [h])]
  rfl

/-- A start from step 15 that is not by trigger 4 stands at step 2 with no image in force. -/
theorem Dev.restartUp_spec (d : Dev) (h : d.pwr.downByT4 = false) : d.restartUp.step = 2 ∧ d.restartUp.pwr.fullUp = true ∧
    d.restartUp.cfg = none ∧ d.restartUp.rst.reload = d.rst.reload := by
  obtain ⟨step, pwr⟩ := d.restarting.markStep_spec 2 true
  have frame := d.restarting.markStep_frame 2 true
  have rst : (d.clearSystem.clearRegs .system).unitsToOff.rst = d.clearSystem.rst :=
    ((Dev.unitsToOff_frame _).parts .rst (by decide)).trans ((Dev.clearRegs_frame _ .system).parts .rst (by decide))
  have reset : d.restarting.rst.reload = d.rst.reload := by
    unfold Dev.restarting
    dsimp only
    rw [rst, d.clearSystem_kept.2]
  rw [d.restartUp_of_clean h]
  exact ⟨step, congrArg PwrS.fullUp pwr, frame.cfg, (congrArg RstS.reload (frame.parts .rst (by decide))).trans reset⟩

/-- The device that shows VIN12 good. -/
def Dev.vinShown (d : Dev) (mv : Nat) : Dev :=
  let x := (d.setReg .PWR_SUPPLY_VIN12_MV 0 mv).setFlag .PWR_SUPPLY_VIN_GOOD 0 true
  { x with pin := { x.pin with vinGoodAt := x.now } }

theorem Dev.vinShown_spec (d : Dev) (mv : Nat) :
    d.Frame (d.vinShown mv) [.regs, .pin] [.PWR_SUPPLY_VIN12_MV, .PWR_SUPPLY_VIN_GOOD] ∧
    (d.vinShown mv).reg .PWR_SUPPLY_VIN12_MV = mv % 2 ^ 16 ∧ (d.vinShown mv).reg .PWR_SUPPLY_VIN_GOOD = 1 ∧
    (d.vinShown mv).pin.vinGoodAt = d.now ∧ (d.vinShown mv).step = d.step := by
  have frame : d.Frame (d.vinShown mv) [.regs, .pin] [.PWR_SUPPLY_VIN12_MV, .PWR_SUPPLY_VIN_GOOD] :=
    .update (.step (.mono (Dev.setReg_frame ..)) (Dev.setFlag_frame ..))
  refine ⟨frame, ?_, Dev.reg_setReg .., rfl, frame.reg .PWR_STEP_STEP 0⟩
  exact ((Dev.setFlag_frame ..).reg .PWR_SUPPLY_VIN12_MV 0).trans (Dev.reg_setReg ..)

/-- Settles O8. -/
theorem supplyCommandsTakeEffect : Obligations.SupplyCommandsTakeEffect := by
  refine ⟨fun s mv ha => ?_, fun s mv ha hs hr => ?_, fun s mv ha hs hr hh ht => ?_, fun s ha => ?_, fun s mv ha hv => ?_⟩
  · have frame : s.stamped.Frame (((s.stamped.setReg .PWR_SUPPLY_VAUX3_MV 0 mv).setFlag .PWR_SUPPLY_VAUX_GOOD 0 true).setFlag
        .PWR_SUPPLY_AON_FROM_VIN 0 false) [.regs] [.PWR_SUPPLY_VAUX3_MV, .PWR_SUPPLY_VAUX_GOOD, .PWR_SUPPLY_AON_FROM_VIN] :=
      .step (.step (.mono (Dev.setReg_frame ..)) (Dev.setFlag_frame ..)) (Dev.setFlag_frame ..)
    refine ⟨_, show execVaux3Good mv s = _ from State.on_aon ha _, ?_, ?_, Dev.reg_setReg .., frame.changesOnly, frame.fieldsOnly⟩
    · exact ((Dev.setFlag_frame ..).reg .PWR_SUPPLY_VAUX3_MV 0).trans
        (((Dev.setFlag_frame ..).reg .PWR_SUPPLY_VAUX3_MV 0).trans (Dev.reg_setReg ..))
    · exact ((Dev.setFlag_frame ..).reg .PWR_SUPPLY_VAUX_GOOD 0).trans (Dev.reg_setReg ..)
  · obtain ⟨frame, volts, good, at_, step⟩ := s.stamped.vinShown_spec mv
    have away : (s.stamped.vinShown mv).step ≠ 15 := step.trans_ne hs
    refine ⟨_, show execVinGood mv s = _ from State.onPower_to ha (if_neg away) ((congrArg RstS.reload (frame.parts .rst (by decide))).trans hr),
      volts, good, at_, frame.changesOnly, frame.fieldsOnly⟩
  · obtain ⟨frame, -, -, -, step⟩ := s.stamped.vinShown_spec mv
    have clean : (s.stamped.vinShown mv).pwr.downByT4 = false := (congrArg PwrS.downByT4 (frame.parts .pwr (by decide))).trans ht
    have going : (s.stamped.vinShown mv).flag .PWR_STEP_HALTED = false := (frame.flag .PWR_STEP_HALTED 0).trans hh
    obtain ⟨two, full, none, reload⟩ := (s.stamped.vinShown mv).restartUp_spec clean
    have leaves : (s.stamped.vinShown mv).leaveStandby = (s.stamped.vinShown mv).restartUp :=
      (if_neg (by simp [going])).trans (if_pos (by simp [clean]))
    have again : (s.stamped.vinShown mv).restartUp.rst.reload = false :=
      reload.trans ((congrArg RstS.reload (frame.parts .rst (by decide))).trans hr)
    exact ⟨_, show execVinGood mv s = _ from State.onPower_to ha ((if_pos (step.trans hs)).trans leaves) again, two, full, none⟩
  · exact ⟨_, show execPowerLoss s = _ from State.on_aon ha _, rfl, s.stamped.powerOff_frame.changesOnly⟩
  · have shown : s.stamped.Frame ((s.stamped.setReg .PWR_SUPPLY_VAUX3_MV 0 mv).setFlag .PWR_SUPPLY_VAUX_GOOD 0 false) [.regs]
        [.PWR_SUPPLY_VAUX3_MV, .PWR_SUPPLY_VAUX_GOOD] := .step (.mono (Dev.setReg_frame ..)) (Dev.setFlag_frame ..)
    have off := Dev.powerOff_frame ((s.stamped.setReg .PWR_SUPPLY_VAUX3_MV 0 mv).setFlag .PWR_SUPPLY_VAUX_GOOD 0 false)
    have low : ((s.stamped.setReg .PWR_SUPPLY_VAUX3_MV 0 mv).setFlag .PWR_SUPPLY_VAUX_GOOD 0 false).flag .PWR_SUPPLY_VIN_GOOD ≠ true := by
      rw [shown.flag .PWR_SUPPLY_VIN_GOOD 0]
      exact ne_true_of_eq_false hv
    refine ⟨_, show execVaux3Low mv s = _ from State.on_to ha (if_neg low), rfl, ?_, ((shown.mono (ps := [.aon, .regs, .med]) (fs := [.PWR_SUPPLY_VAUX3_MV, .PWR_SUPPLY_VAUX_GOOD])).step off).changesOnly⟩
    rw [off.reg .PWR_SUPPLY_VAUX3_MV 0, (Dev.setFlag_frame ..).reg .PWR_SUPPLY_VAUX3_MV 0]
    exact Dev.reg_setReg ..

end Machine
end Sys2Proof
end

section
/-!
O12: the sequencer bus (R375, R376).
-/
-- Checked one after another: side by side, each waiting for the kernel, the proofs need more threads than the memory admits.
set_option Elab.async false
namespace Sys2Proof.Machine

section
variable (d : Dev)

/-- Out of the cooperation the line is released, and the device takes no part. -/
theorem Dev.sqLeave_spec : d.sqLeave.pwr.left = true ∧ d.sqLeave.sqTakesPart = false ∧ d.sqLeave.reg .PWR_SQ_STAT_HOLDING = 0 ∧
    d.Frame d.sqLeave [.regs, .pwr] [.PWR_STEP_SQ_WAIT, .PWR_SQ_STAT_HOLDING] := by
  have left : d.sqLeave.pwr.left = true := rfl
  refine ⟨left, by simp [Dev.sqTakesPart, left], Dev.reg_setReg .., ?_⟩
  unfold Dev.sqLeave Dev.sqHold
  exact .step (.step (.update (.refl d)) (Dev.setFlag_frame ..)) (Dev.setFlag_frame ..)

/-- The device that has broadcast its target. -/
def Dev.broadcast : Dev :=
  let t := d.sqTarget % 16
  let x := (d.emit (.sqFrame t d.pwr.frameSeq (crc8 [0xB4, t, d.pwr.frameSeq]))).setReg .PWR_SQ_STAT_RX_TARGET 0 t
  { x with pwr := { x.pwr with frameSeq := (x.pwr.frameSeq + 1) % 256 } }

/-- A follower that keeps a target: it releases the line once the target admits the next step (R376). -/
def Dev.targeted (target : Nat) : Dev :=
  let x := { d with pwr := { d.pwr with frameAt := d.now, gotFrame := true } }.setReg .PWR_SQ_STAT_RX_TARGET 0 target
  if x.pwr.ready && x.step + 1 ≤ target then x.sqHold false else x

theorem Dev.targeted_spec {target : Nat} (h : target < 16) : (d.targeted target).reg .PWR_SQ_STAT_RX_TARGET = target ∧
    (d.targeted target).pwr = { d.pwr with frameAt := d.now, gotFrame := true } ∧
    d.Frame (d.targeted target) [.regs, .pin, .pwr] [.PWR_SQ_STAT_RX_TARGET, .PWR_SQ_STAT_HOLDING] := by
  unfold Dev.targeted
  extract_lets +onlyGivenNames pwr x
  have read : x.reg .PWR_SQ_STAT_RX_TARGET = target := (Dev.reg_setReg ..).trans (Nat.mod_eq_of_lt h)
  have frame : d.Frame x [.regs, .pin, .pwr] [.PWR_SQ_STAT_RX_TARGET, .PWR_SQ_STAT_HOLDING] :=
    .step (.update (.refl d)) (Dev.setReg_frame ..)
  have hold := x.sqHold_frame false
  have pwr : x.pwr = { d.pwr with frameAt := d.now, gotFrame := true } := rfl
  clear_value x
  split
  · exact ⟨(hold.reg .PWR_SQ_STAT_RX_TARGET 0).trans read, (hold.parts .pwr (by decide)).trans pwr, frame.step hold⟩
  · exact ⟨read, pwr, frame⟩

end

/-- Settles O12. -/
theorem sequencerBusCommandsTakeEffect : Obligations.SequencerBusCommandsTakeEffect := by
  refine ⟨fun s ha hm hp => ?_, fun s target seq ha hm hp hs ht => ?_, fun s id target seq crc ha hm hp hc => ?_, fun s ha => ?_⟩
  · have frame : s.stamped.Frame s.stamped.broadcast [.regs, .out, .pwr] [.PWR_SQ_STAT_RX_TARGET] :=
      .update (.step (.mono (Dev.emit_frame ..)) (Dev.setReg_frame ..))
    have guard : (s.stamped.pin.sqRole && s.stamped.sqTakesPart) = true := Bool.and_eq_true_iff.mpr ⟨hm, hp⟩
    exact ⟨s.stamped.broadcast, show execSqFrameBroadcast s = _ from State.on_when ha guard, rfl, rfl, frame.changesOnly⟩
  · have guard : (!s.stamped.pin.sqRole && s.stamped.sqTakesPart) = true :=
      Bool.and_eq_true_iff.mpr ⟨congrArg not hm, hp⟩
    obtain ⟨read, pwr, frame⟩ := s.stamped.targeted_spec ht
    have kept : (0xB4 = 0xB4 && crc8 [0xB4, target, seq] = crc8 [0xB4, target, seq] && target < 16 : Bool) = true := by simp [ht]
    refine ⟨s.stamped.targeted target, show execSqFrameReceived _ target seq _ s = _ from
        State.on_to ha ((if_pos guard).trans ((if_pos kept).trans (if_neg (Nat.not_lt.mpr hs)))), read, congrArg PwrS.gotFrame pwr, congrArg PwrS.frameAt pwr, frame.changesOnly⟩
  · have guard : (!s.stamped.pin.sqRole && s.stamped.sqTakesPart) = true :=
      Bool.and_eq_true_iff.mpr ⟨congrArg not hm, hp⟩
    have frame := s.stamped.count_frame .PWR_SQ_STAT_CRC_ERR 0 1
    refine ⟨s.stamped.count .PWR_SQ_STAT_CRC_ERR, show execSqFrameReceived id target seq crc s = _ from
        State.on_to ha ((if_pos guard).trans (if_neg (by simp [hc]))),
      s.stamped.count_counted .., frame.changesOnly, frame.fieldsOnly⟩
  · obtain ⟨left, part, hold, frame⟩ := (s.stamped.setFlag .PWR_SQ_CTL_LEAVE 0 true).sqLeave_spec
    have whole : s.stamped.Frame _ [.regs, .pwr] [.PWR_SQ_CTL_LEAVE, .PWR_STEP_SQ_WAIT, .PWR_SQ_STAT_HOLDING] :=
      (Dev.Frame.mono (s.stamped.setFlag_frame .PWR_SQ_CTL_LEAVE 0 true)).step frame
    refine ⟨_, show execSqLeaveWrite s = _ from State.on_aon ha _, left, part, hold, ?_, whole.changesOnly⟩
    exact (frame.reg .PWR_SQ_CTL_LEAVE 0).trans (Dev.reg_setReg ..)

end Sys2Proof.Machine
end

section
/-!
O11: the steps of the sequencer (R364, R366, R377, R378).
-/
-- Checked one after another: side by side, each waiting for the kernel, the proofs need more threads than the memory admits.
set_option Elab.async false
namespace Sys2Proof.Machine

section
variable (d : Dev)

/-- The boot's step starts the watchdog's period; it asks for no new timebase. -/
theorem Dev.imageStep_reload : d.imageStep.rst.reload = d.rst.reload := by
  unfold Dev.imageStep
  extract_lets +onlyGivenNames x y mgt rst z
  have hx : x.rst = d.rst := d.bootSelect_frame.parts .rst (by decide)
  have hy : y.rst = x.rst := by
    unfold y
    split
    · rfl
    · exact ((Dev.bootClocks_frame _).parts .rst (by decide)).trans (x.bootTreeOnly_frame.parts .rst (by decide))
  have hz : z.rst.reload = d.rst.reload :=
    show y.rst.reload = _ from congrArg RstS.reload (hy.trans hx)
  split
  · exact (congrArg RstS.reload (z.applyClockPlan_frame.parts .rst (by decide))).trans hz
  · exact hz

theorem Dev.enablePd_rst (nn : Nat) : (d.enablePd nn).rst = d.rst := (d.enablePd_frame nn).parts .rst (by decide)

theorem Dev.each_enablePd_rst (l : List Nat) : (d.each l (fun d nn => d.enablePd nn)).rst = d.rst :=
  Dev.each_keeps Dev.rst l _ (fun d nn => d.enablePd_rst nn) d

/-- A step's actions ask for no new timebase. -/
theorem Dev.upActions_reload (n : Nat) : (d.upActions n).rst.reload = d.rst.reload := by
  unfold Dev.upActions
  split
  · exact congrArg RstS.reload ((d.enableNext_frame _).parts .rst (by decide))
  · rw [Dev.enablePd_rst, Dev.enablePd_rst, Dev.enablePd_rst]
    split
    · exact congrArg RstS.reload (d.bootClocks_frame.parts .rst (by decide))
    · rfl
  · exact d.imageStep_reload
  · exact congrArg RstS.reload ((d.enableNext_frame _).parts .rst (by decide))
  · rw [(Dev.checkNoTier_frame _).parts .rst (by decide), Dev.enablePd_rst, Dev.each_enablePd_rst, Dev.each_enablePd_rst,
      Dev.each_enablePd_rst]
    exact congrArg RstS.reload (d.startPlls_frame.parts .rst (by decide))
  · refine congrArg RstS.reload (Dev.each_keeps Dev.rst _ _ (fun d g => ?_) d)
    split
    · rfl
    · exact (d.raiseMpg_frame g).parts .rst (by decide)
  · exact congrArg RstS.reload ((Dev.updateTherm_frame _).parts .rst (by decide))
  · rfl

/-- A power-up step that is entered is the present step. -/
theorem Dev.enterUp_spec {n : Nat} (hn : n < 16) : (d.enterUp n).step = n ∧ (d.enterUp n).rst.reload = d.rst.reload := by
  refine ⟨?_, ?_⟩
  · refine ((Dev.upActions_frame _ n).regFixed .PWR_STEP_STEP 0).trans ?_
    exact (d.markStep_spec n _).1.trans (Nat.mod_eq_of_lt hn)
  · refine (Dev.upActions_reload _ n).trans ?_
    exact congrArg RstS.reload ((d.markStep_frame n _).parts .rst (by decide))

theorem Dev.enterDown_step {n : Nat} (hn : n < 16) : (d.enterDown n).step = n :=
  ((Dev.downActions_frame _ n).reg .PWR_STEP_STEP 0).trans ((d.markStep_spec n _).1.trans (Nat.mod_eq_of_lt hn))

/-- A participant whose step is complete waits for the line. -/
def Dev.await (hold : Bool) : Dev :=
  Dev.sqHold (Dev.setFlag { d with pwr := { d.pwr with ready := true, readyAt := d.now } } .PWR_STEP_SQ_WAIT 0 true) hold

theorem Dev.await_spec (hold : Bool) : (d.await hold).step = d.step ∧ (d.await hold).pwr.ready = true ∧
    (d.await hold).reg .PWR_STEP_SQ_WAIT = 1 ∧ (d.await hold).rst = d.rst := by
  have wait : d.Frame (Dev.setFlag { d with pwr := { d.pwr with ready := true, readyAt := d.now } } .PWR_STEP_SQ_WAIT 0 true)
      [.regs, .pwr] [.PWR_STEP_SQ_WAIT] := .step (.update (.refl d)) (Dev.setFlag_frame ..)
  have held := Dev.sqHold_frame (Dev.setFlag { d with pwr := { d.pwr with ready := true, readyAt := d.now } } .PWR_STEP_SQ_WAIT 0 true) hold
  refine ⟨(held.reg .PWR_STEP_STEP 0).trans (wait.reg .PWR_STEP_STEP 0), congrArg PwrS.ready (held.parts .pwr (by decide)), ?_,
    (held.parts .rst (by decide)).trans (wait.parts .rst (by decide))⟩
  exact (held.reg .PWR_STEP_SQ_WAIT 0).trans (Dev.reg_setReg ..)

theorem Dev.step_lt : d.stepDone = true → 1 ≤ d.step ∧ d.step < 9 := by
  unfold Dev.stepDone
  split <;> simp_all

/-- Whether the device takes part is read off its registers, its configuration, and whether it has left. -/
theorem Dev.sqTakesPart_congr {d e : Dev} (hc : e.cfg = d.cfg) (hp : e.pwr = d.pwr) (hs : e.step = d.step)
    (hl : e.flag .PWR_SQ_CTL_LEAVE = d.flag .PWR_SQ_CTL_LEAVE) : e.sqTakesPart = d.sqTakesPart := by
  rw [Dev.sqTakesPart, Dev.sqTakesPart, hp, hs, hl, Dev.seqCfg, hc, Dev.seqCfg]

/-- The rails of a power-down step read as having fallen. -/
def Dev.railsDown : Dev :=
  d.each (downRails d.step) fun d r =>
    if d.railState r ∈ [4, 6] then (d.setReg .PWR_RAILr_STAT_STATE r 0).setReg .PWR_RAILr_STAT_MV r 0 else d

theorem Dev.railsDown_frame : d.Frame d.railsDown [.regs] [.PWR_RAILr_STAT_STATE, .PWR_RAILr_STAT_MV] :=
  .each _ (fun _ _ => .ite (fun _ => .step (.mono (Dev.setReg_frame ..)) (Dev.setReg_frame ..)) fun _ => .refl _) d

end

/-- Settles O11. -/
theorem sequencerStepsFollowTheLine : Obligations.SequencerStepsFollowTheLine := by
  refine ⟨fun s ha hr hs hd hh hl => ?_, fun s ha hlo hhi hg => ?_, fun s ha hp hr hh hw => ?_, fun s ha hp hlo hhi hr => ?_,
    fun s ha hp hs hu hw => ?_⟩
  · have away : ¬ s.stamped.step = 15 := fun e => by have := (s.stamped.step_lt hd).2; omega
    have guard : (s.stamped.stepDone && !s.stamped.flag .PWR_STEP_HALTED && !(s.stamped.rst.held && decide (3 ≤ s.stamped.step))) =
        true := by
      rw [hd, show s.stamped.flag .PWR_STEP_HALTED = false from hh, show s.stamped.rst.held = false from hl]
      rfl
    cases hp : s.dev.sqTakesPart with
    | false =>
      obtain ⟨step, reload⟩ := s.stamped.enterUp_spec (n := s.stamped.step + 1) (by have := (s.stamped.step_lt hd).2; omega)
      refine ⟨_, show execSequencerStepAdvance s = _ from State.onPower_to ha ((if_neg away).trans ((if_pos guard).trans
        (if_neg (ne_true_of_eq_false hp)))) (reload.trans hr), fun _ => step, fun h => absurd h (by simp)⟩
    | true =>
      obtain ⟨step, ready, wait, rst⟩ := s.stamped.await_spec (decide (s.stamped.sqTarget < s.stamped.step + 1))
      refine ⟨_, show execSequencerStepAdvance s = _ from State.onPower_to ha ((if_neg away).trans ((if_pos guard).trans
        (if_pos hp))) ((congrArg RstS.reload rst).trans hr), fun h => absurd h (by simp), fun _ => ⟨step, ready, wait⟩⟩
  · have down := s.stamped.railsDown_frame
    have step : s.stamped.railsDown.step = s.dev.step := down.reg .PWR_STEP_STEP 0
    have part : s.stamped.railsDown.sqTakesPart = s.dev.sqTakesPart :=
      (Dev.sqTakesPart_congr down.cfg (down.parts .pwr (by decide)) step (down.flag .PWR_SQ_CTL_LEAVE 0)).trans rfl
    have guard : (decide (10 ≤ s.stamped.step) && decide (s.stamped.step < 15) &&
        (decide (s.stamped.step ≠ 11) || decide (s.stamped.pin.mpgood = 0))) = true := by
      have : s.stamped.step ≠ 11 ∨ s.stamped.pin.mpgood = 0 := Decidable.not_or_of_imp hg
      rw [decide_eq_true (show 10 ≤ s.stamped.step from hlo), decide_eq_true (show s.stamped.step < 15 from hhi)]
      simpa using this
    cases hp : s.dev.sqTakesPart with
    | false =>
      have next := s.stamped.railsDown.enterDown_step (n := s.stamped.railsDown.step + 1) (by omega)
      exact ⟨_, show execSequencerDownStep s = _ from State.on_to ha ((if_pos guard).trans
        (if_neg (ne_true_of_eq_false (part.trans hp)))), fun _ => next.trans (congrArg (· + 1) step), fun h => absurd h (by simp)⟩
    | true =>
      obtain ⟨same, ready, wait, -⟩ := s.stamped.railsDown.await_spec false
      exact ⟨_, show execSequencerDownStep s = _ from State.on_to ha ((if_pos guard).trans (if_pos (part.trans hp))),
        fun h => absurd h (by simp), fun _ => ⟨same.trans step, ready, wait⟩⟩
  · obtain ⟨x, hx⟩ : ∃ x, x = ({ s.stamped with pin := { s.stamped.pin with sqStepHigh := true } } : Dev) := ⟨_, rfl⟩
    have step : x.step = s.dev.step := hx ▸ rfl
    have target : x.sqTarget = s.dev.sqTarget := hx ▸ rfl
    have guard : (x.sqTakesPart && x.pwr.ready && !x.flag .PWR_SQ_STAT_HOLDING) = true := by
      rw [show x.sqTakesPart = true from hx ▸ hp, show x.pwr.ready = true from hx ▸ hr,
        show x.flag .PWR_SQ_STAT_HOLDING = false from hx ▸ hh]
      rfl
    have run : ∀ {d}, (if (decide (10 ≤ x.step) && decide (x.step < 15)) = true then x.enterDown (x.step + 1)
        else if (decide (x.step < 9) && decide (x.step + 1 ≤ x.sqTarget)) = true then x.enterUp (x.step + 1) else x) = d →
        exec .sqStepHigh s = .next { s with dev := d } := fun {d} h => by
      subst hx
      exact show execSqStepHigh s = _ from State.on_to ha ((if_pos guard).trans h)
    rcases hw with ⟨lo, hi⟩ | ⟨up, within⟩
    · exact ⟨_, run (if_pos (by simp [step, lo, hi])), (x.enterDown_step (by omega)).trans (congrArg (· + 1) step)⟩
    · exact ⟨_, run ((if_neg (by simp; omega)).trans (if_pos (by simp [step, target, up, within]))),
        (x.enterUp_spec (by omega)).1.trans (congrArg (· + 1) step)⟩
  · obtain ⟨x, hx⟩ : ∃ x, x = (s.stamped.count .PWR_SQ_STAT_DOWN_TIMEOUTS).raise 14 := ⟨_, rfl⟩
    have raised : (s.stamped.count .PWR_SQ_STAT_DOWN_TIMEOUTS).Frame x [.regs, .evt, .out] evtFields := hx ▸ Dev.raise_frame ..
    have guard : (s.stamped.sqTakesPart && decide (10 ≤ s.stamped.step) && decide (s.stamped.step < 15) && s.stamped.pwr.ready) =
        true := by
      rw [show s.stamped.sqTakesPart = true from hp, decide_eq_true (show 10 ≤ s.stamped.step from hlo),
        decide_eq_true (show s.stamped.step < 15 from hhi), show s.stamped.pwr.ready = true from hr]
      rfl
    have counted : s.stamped.Counted _ .PWR_SQ_STAT_DOWN_TIMEOUTS 0 1 :=
      (Dev.Frame.refl (ps := []) (fs := []) s.stamped).counted (.step (.mono raised) (x.enterDown_frame (s.stamped.step + 1)) :
        Dev.Frame _ _ [.regs, .ust, .evt, .pwr, .pin, .jrn, .out] (evtFields.append [.PWR_STEP_STEP, .PWR_STEP_SQ_WAIT,
          .PWR_SQ_STAT_HOLDING, .PWR_MPG_MPEN, .PWR_PD_ON, .PWR_RAILr_STAT_STATE]))
    have next : s.stamped.step + 1 < 16 := Nat.succ_lt_succ hhi
    refine ⟨_, ?_, x.enterDown_step next, counted⟩
    subst hx
    exact show execSqDownTimeout s = _ from State.on_when ha guard
  · have guard : (s.stamped.sqTakesPart && decide (s.stamped.step < 9) && !s.stamped.pwr.upTimeoutRaised &&
        (s.stamped.pwr.ready || !s.stamped.pin.sqRole)) = true := by
      rw [show s.stamped.sqTakesPart = true from hp, decide_eq_true (show s.stamped.step < 9 from hs),
        show s.stamped.pwr.upTimeoutRaised = false from hu]
      simpa using hw
    obtain ⟨x, hx⟩ : ∃ x, x = (s.stamped.count .PWR_SQ_STAT_UP_TIMEOUTS).raise 14 := ⟨_, rfl⟩
    have raised : (s.stamped.count .PWR_SQ_STAT_UP_TIMEOUTS).Frame x [.regs, .evt, .out] evtFields := hx ▸ Dev.raise_frame ..
    have frame : s.stamped.Frame x [.regs, .evt, .out, .pwr] (evtFields.append [.PWR_SQ_STAT_UP_TIMEOUTS]) :=
      .step (.mono (Dev.count_frame ..)) raised
    have counted : s.stamped.Counted x .PWR_SQ_STAT_UP_TIMEOUTS 0 1 := (Dev.Frame.refl (ps := []) (fs := []) s.stamped).counted raised
    refine ⟨{ x with pwr := { x.pwr with upTimeoutRaised := true }, evt := { x.evt with alertSq := x.flag .PWR_SQ_CTL_ALERT_EN } }, ?_,
      frame.reg .PWR_STEP_STEP 0, rfl, counted, (.update frame : Dev.Frame _ _ [.regs, .evt, .out, .pwr] _).changesOnly⟩
    subst hx
    exact show execSqUpTimeout s = _ from State.on_when ha guard

end Sys2Proof.Machine
end

section
/-!
O10: the rails (R357, R358, R369, R371, R268).
-/
-- Checked one after another: side by side, each waiting for the kernel, the proofs need more threads than the memory admits.
set_option Elab.async false
namespace Sys2Proof.Machine

section
variable (d : Dev)

/-- The field that counts an excursion of a kind (R358). -/
def excursionField (k : RailKind) : Fld :=
  match k with
  | .uv => .PWR_RAILr_CNT_UV
  | .ov => .PWR_RAILr_CNT_OV
  | .oc => .PWR_RAILr_CNT_OC

theorem Dev.countExcursion_eq (r : Nat) (k : RailKind) : d.countExcursion r k = d.count (excursionField k) r := by
  cases k <;> rfl

/-- A rail that is good or has failed is not enabled again. -/
theorem Dev.enableNext_settled {r : Nat} (l : List Nat) (h : d.railState r = 2 ∨ d.railState r = 5) :
    (d.enableNext l).railState r = d.railState r := by
  have other : ∀ q, ¬ ((decide (d.railState q = 2) || decide (d.railState q = 5)) = true) →
      (d.enableRail q).railState r = d.railState r := fun q hq => by
    have ne : q ≠ r := fun e => hq (by subst e; simpa using h)
    have counted := (d.setReg .PWR_RAILr_STAT_STATE q 1).countWrap_frame .PWR_RAILr_CYC_CYCLES q 1
    exact (counted.reg .PWR_RAILr_STAT_STATE r).trans (d.reg_setReg_ne _ (.inr ne))
  induction l with
  | nil => rfl
  | cons q l ih =>
    unfold Dev.enableNext
    split
    · exact ih
    · next hq =>
      split
      · rfl
      · split
        · exact other q hq
        · exact ih

theorem Dev.cutRail_railState (r st : Nat) : (d.cutRail r st).railState r = st % 8 :=
  ((Dev.dropDependants_frame _).reg .PWR_RAILr_STAT_STATE r).trans (Dev.reg_setReg ..)

/-- The units of a core rail that failed to rise, and the rails that follow it (R369). -/
def Dev.coreRailFailed (r : Nat) : Dev :=
  let x := if r = 2 then
      d.each ((List.range 8).map complexIx) (fun d ix =>
        if d.ustate ix ∈ [.absent, .failed, .retired] then d else d.failUnit ix 6)
    else d.each ((List.range 4).map stackIx) (fun d ix =>
        if d.ustate ix ∈ [.absent, .failed, .retired] then d else d.failUnit ix 6)
  x.checkNoTier.enableNext x.stepRails

theorem Dev.failUnits_frame (l : List Nat) : d.Frame (d.each l fun d ix =>
    if d.ustate ix ∈ [.absent, .failed, .retired] then d else d.failUnit ix 6) serviceParts serviceFields :=
  .each _ (fun d ix => .ite (fun _ => .refl d) fun _ => d.failUnit_frame ix 6) d

theorem Dev.coreRailFailed_spec (r : Nat) (h : d.railState r = 5) : (d.coreRailFailed r).railState r = 5 ∧
    d.Frame (d.coreRailFailed r) (.pwr :: serviceParts) (serviceFields.append [.PWR_RAILr_STAT_STATE, .PWR_RAILr_CYC_CYCLES]) := by
  unfold Dev.coreRailFailed
  extract_lets x
  have failed : d.Frame x serviceParts serviceFields := .ite (fun _ => d.failUnits_frame _) fun _ => d.failUnits_frame _
  have tier := x.checkNoTier_frame
  have state : x.checkNoTier.railState r = 5 := (tier.reg .PWR_RAILr_STAT_STATE r).trans ((failed.reg .PWR_RAILr_STAT_STATE r).trans h)
  refine ⟨(x.checkNoTier.enableNext_settled _ (.inr state)).trans state, ?_⟩
  exact .step (.step (failed.mono (List.subset_cons_self _ _) (List.subset_append_left _ _)) tier) (Dev.enableNext_frame ..)

/-- A rail that is shown to have failed to rise. -/
def Dev.riseFailed (r : Nat) : Dev :=
  ((d.setReg .PWR_RAILr_STAT_STATE r 5).count .PWR_RAILr_CNT_RISE_FAIL r).raise 11 { a := r }

theorem Dev.riseFailed_spec (r : Nat) : (d.riseFailed r).railState r = 5 ∧ d.Counted (d.riseFailed r) .PWR_RAILr_CNT_RISE_FAIL r 1 := by
  have raised := ((d.setReg .PWR_RAILr_STAT_STATE r 5).count .PWR_RAILr_CNT_RISE_FAIL r).raise_frame 11 { a := r }
  refine ⟨(raised.reg .PWR_RAILr_STAT_STATE r).trans ?_, (d.setReg_frame .PWR_RAILr_STAT_STATE r 5).counted raised⟩
  exact ((Dev.count_frame ..).reg .PWR_RAILr_STAT_STATE r).trans (Dev.reg_setReg ..)

/-- The sequencer halts with ALERT_N and leaves the cooperation (R369). -/
def Dev.bootRailFailed (r : Nat) : Dev :=
  let x := (d.setFlag .PWR_STEP_HALTED 0 true).raise 13 { a := r }
  let y := { x with evt := { x.evt with alertHalt := true } }
  y.sqLeave

theorem Dev.bootRailFailed_spec (r : Nat) : (d.bootRailFailed r).reg .PWR_STEP_HALTED = 1 ∧
    (d.bootRailFailed r).evt.alertHalt = true ∧ (d.bootRailFailed r).pwr.left = true ∧
    d.Frame (d.bootRailFailed r) [.regs, .evt, .out, .pwr]
      (evtFields.append [.PWR_STEP_HALTED, .PWR_STEP_SQ_WAIT, .PWR_SQ_STAT_HOLDING]) := by
  unfold Dev.bootRailFailed
  extract_lets +onlyGivenNames x evt y
  have raised : (d.setFlag .PWR_STEP_HALTED 0 true).Frame x [.regs, .evt, .out] evtFields := Dev.raise_frame ..
  obtain ⟨left, -, -, gone⟩ := y.sqLeave_spec
  have alert : y.evt.alertHalt = true := rfl
  have halted : y.reg .PWR_STEP_HALTED = 1 := (raised.reg .PWR_STEP_HALTED 0).trans (Dev.reg_setReg ..)
  have frame : d.Frame y [.regs, .evt, .out, .pwr] (evtFields.append [.PWR_STEP_HALTED, .PWR_STEP_SQ_WAIT, .PWR_SQ_STAT_HOLDING]) :=
    .update (.step (.mono (Dev.setFlag_frame ..)) raised)
  exact ⟨(gone.reg .PWR_STEP_HALTED 0).trans halted, (congrArg EvtS.alertHalt (gone.parts .evt (by decide))).trans alert, left,
    frame.step gone⟩

end

/-- Settles O10. -/
theorem railCommandsTakeEffect : Obligations.RailCommandsTakeEffect := by
  have guard : ∀ {r n : Nat} {d : Dev}, r < 9 → d.railState r = n → (decide (r < 9) && decide (d.railState r = n)) = true :=
    fun hr h => by rw [decide_eq_true hr, decide_eq_true h]; rfl
  refine ⟨fun s r k mv ha hr h2 => ?_, fun s r ha hr h2 => ?_, fun s r mv ha hr h1 => ?_, fun s r ha hr h1 => ?_,
    fun s r ha hr hon => ?_, fun s r ha hr h4 => ?_⟩
  · obtain ⟨x, hx⟩ : ∃ x, x = (s.stamped.countExcursion r k).setReg .PWR_RAILr_STAT_MV r mv := ⟨_, rfl⟩
    have raised := x.raise_frame 8 { a := r, b := mv, c := railThreshold r k 4 }
    have shown : (s.stamped.countExcursion r k).Frame x [.regs] [.PWR_RAILr_STAT_MV] := hx ▸ Dev.setReg_frame ..
    have whole : s.stamped.Frame _ [.regs, .evt, .out] (evtFields.append [.PWR_RAILr_CNT_UV, .PWR_RAILr_CNT_OV, .PWR_RAILr_CNT_OC,
      .PWR_RAILr_STAT_MV]) := .step (.step (.mono (Dev.countExcursion_frame ..)) shown) raised
    have last : (s.stamped.count (excursionField k) r).Frame _ [.regs, .evt, .out] (evtFields.append [.PWR_RAILr_STAT_MV]) :=
      s.stamped.countExcursion_eq r k ▸ ((.step (.mono shown) raised) : Dev.Frame _ _ _ (evtFields.append [.PWR_RAILr_STAT_MV]))
    refine ⟨_, hx ▸ show execRailWarn r k mv s = _ from State.on_when ha (guard hr h2), (whole.reg .PWR_RAILr_STAT_STATE r).trans h2, ?_,
      ?_, whole.changesOnly⟩
    · exact (raised.reg .PWR_RAILr_STAT_MV r).trans (hx ▸ Dev.reg_setReg ..)
    · cases k with
      | uv => exact (Dev.Frame.refl (ps := []) (fs := []) s.stamped).counted last
      | ov => exact (Dev.Frame.refl (ps := []) (fs := []) s.stamped).counted last
      | oc => exact (Dev.Frame.refl (ps := []) (fs := []) s.stamped).counted last
  · have lost := s.stamped.count_frame .PWR_RAILr_STAT_PHASES_LOST r 1
    have cycles := (s.stamped.count .PWR_RAILr_STAT_PHASES_LOST r).count_frame .PWR_RAILr_CYC_PHASE_LOSS r 1
    have raised := ((s.stamped.count .PWR_RAILr_STAT_PHASES_LOST r).count .PWR_RAILr_CYC_PHASE_LOSS r).raise_frame 10 { a := r }
    have whole : s.stamped.Frame _ [.regs, .evt, .out] (evtFields.append [.PWR_RAILr_STAT_PHASES_LOST, .PWR_RAILr_CYC_PHASE_LOSS]) :=
      .step (.step (.mono lost) cycles) raised
    exact ⟨_, show execPhaseLost r s = _ from State.on_when ha (guard hr h2), (whole.reg .PWR_RAILr_STAT_STATE r).trans h2,
      (Dev.Frame.refl (ps := []) (fs := []) s.stamped).counted (.step (.mono cycles) raised :
        Dev.Frame _ _ [.regs, .evt, .out] (evtFields.append [.PWR_RAILr_CYC_PHASE_LOSS])), lost.counted raised, whole.changesOnly⟩
  · obtain ⟨x, hx⟩ : ∃ x : Dev, x = (((s.stamped.setReg .PWR_RAILr_STAT_STATE r 2).setReg .PWR_RAILr_STAT_MV r mv).setReg
        .PWR_RAILr_CNT_RAMP_US r (min ((s.stamped.now - s.stamped.pwr.railOnAt.findD r s.stamped.now) / 1000) 65535)) := ⟨_, rfl⟩
    have shown : s.stamped.Frame x [.regs, .pwr] [.PWR_RAILr_STAT_STATE, .PWR_RAILr_STAT_MV, .PWR_RAILr_CNT_RAMP_US,
        .PWR_RAILr_CYC_CYCLES] := hx ▸ .step (.step (.mono (Dev.setReg_frame ..)) (Dev.setReg_frame ..)) (Dev.setReg_frame ..)
    have good : x.railState r = 2 := by
      rw [hx, Dev.railState, (Dev.setReg_frame ..).reg .PWR_RAILr_STAT_STATE r, (Dev.setReg_frame ..).reg .PWR_RAILr_STAT_STATE r]
      exact Dev.reg_setReg ..
    have volts : x.reg .PWR_RAILr_STAT_MV r = mv % 2 ^ 16 := by
      rw [hx, (Dev.setReg_frame ..).reg .PWR_RAILr_STAT_MV r]
      exact Dev.reg_setReg ..
    have next := x.enableNext_frame x.stepRails
    exact ⟨_, hx ▸ show execRailGood r mv s = _ from State.on_when ha (guard hr h1), (x.enableNext_settled _ (.inl good)).trans good,
      (next.reg .PWR_RAILr_STAT_MV r).trans volts, (shown.step next).changesOnly⟩
  · obtain ⟨five, counted⟩ := s.stamped.riseFailed_spec r
    by_cases boot : r ∈ bootRails
    · obtain ⟨halted, alert, left, frame⟩ := (s.stamped.riseFailed r).bootRailFailed_spec r
      refine ⟨(s.stamped.riseFailed r).bootRailFailed r, show execRailRiseTimeout r s = _ from
        State.on_to ha ((if_pos (guard hr h1)).trans (if_pos boot)), (frame.reg .PWR_RAILr_STAT_STATE r).trans five, ?_,
        fun _ => ⟨halted, alert, left⟩⟩
      exact (frame.reg .PWR_RAILr_CNT_RISE_FAIL r).trans counted
    · obtain ⟨state, frame⟩ := (s.stamped.riseFailed r).coreRailFailed_spec r five
      refine ⟨(s.stamped.riseFailed r).coreRailFailed r, show execRailRiseTimeout r s = _ from
        State.on_to ha ((if_pos (guard hr h1)).trans (if_neg boot)), state, ?_, fun h => absurd h boot⟩
      exact (frame.reg .PWR_RAILr_CNT_RISE_FAIL r).trans counted
  · have on : (decide (r < 9) && decide (s.stamped.railState r ∈ [2, 3, 4])) = true := by
      rw [decide_eq_true hr, decide_eq_true (show s.stamped.railState r ∈ [2, 3, 4] from hon)]
      rfl
    have volts := (s.stamped.count .PWR_RAILr_CNT_COLLAPSE r).setReg_frame .PWR_RAILr_STAT_MV r 0
    have cut := ((s.stamped.count .PWR_RAILr_CNT_COLLAPSE r).setReg .PWR_RAILr_STAT_MV r 0).cutRail_frame r 0
    refine ⟨_, show execRailCollapse r s = _ from State.on_when ha on, Dev.cutRail_railState .., ?_⟩
    exact (cut.reg .PWR_RAILr_CNT_COLLAPSE r).trans ((Dev.Frame.refl (ps := []) (fs := []) s.stamped).counted volts)
  · have fallen := s.stamped.setReg_frame .PWR_RAILr_STAT_STATE r 6
    have counts := (s.stamped.setReg .PWR_RAILr_STAT_STATE r 6).count_frame .PWR_RAILr_CNT_DISCH r 1
    have raised := ((s.stamped.setReg .PWR_RAILr_STAT_STATE r 6).count .PWR_RAILr_CNT_DISCH r).raise_frame 12 { a := r }
    refine ⟨_, show execDischargeTimeout r s = _ from State.on_when ha (guard hr h4), ?_, fallen.counted raised,
      (.step (.step (.mono fallen) counts) raised : Dev.Frame _ _ [.regs, .evt, .out]
        (evtFields.append [.PWR_RAILr_STAT_STATE, .PWR_RAILr_CNT_DISCH])).changesOnly⟩
    exact (raised.reg .PWR_RAILr_STAT_STATE r).trans ((counts.reg .PWR_RAILr_STAT_STATE r).trans (Dev.reg_setReg ..))

end Sys2Proof.Machine
end

section
/-!
O13: the media rail groups (R373).
-/
-- Checked one after another: side by side, each waiting for the kernel, the proofs need more threads than the memory admits.
set_option Elab.async false
namespace Sys2Proof

/-- A clear bit that is added leaves the bits above and below. -/
theorem testBit_add_two_pow_ne {x i j : Nat} (hx : x.testBit i = false) (h : i ≠ j) : (x + 2 ^ i).testBit j = x.testBit j := by
  rcases Nat.lt_or_gt_of_ne h with lt | gt
  · have low : x % 2 ^ (i + 1) < 2 ^ i := by
      rw [Nat.testBit_eq_decide_div_mod_eq, decide_eq_false_iff_not] at hx
      have clear : x / 2 ^ i % 2 = 0 := by omega
      rw [Nat.pow_succ, Nat.mod_mul, clear]
      simpa using Nat.mod_lt x (Nat.two_pow_pos i)
    have two : 2 ^ (i + 1) = 2 * 2 ^ i := Nat.pow_succ'
    have high : (x + 2 ^ i) / 2 ^ (i + 1) = x / 2 ^ (i + 1) := by
      have whole := Nat.div_add_mod x (2 ^ (i + 1))
      rw [← whole, Nat.add_assoc, Nat.mul_add_div (Nat.two_pow_pos _), Nat.mul_add_div (Nat.two_pow_pos _),
        Nat.div_eq_of_lt (a := _ + _) (by omega), Nat.div_eq_of_lt (a := _ % _) (Nat.mod_lt _ (Nat.two_pow_pos _))]
    obtain ⟨k, rfl⟩ : ∃ k, j = i + 1 + k := ⟨j - (i + 1), by omega⟩
    rw [Nat.add_comm (i + 1) k, ← Nat.testBit_div_two_pow, high, Nat.testBit_div_two_pow]
  · rw [Nat.add_comm]
    exact Nat.testBit_two_pow_add_gt gt x

/-- A bit that is set or cleared leaves the others. -/
theorem testBit_setBit_ne {x i j : Nat} (v : Bool) (h : i ≠ j) : (setBit x i v).testBit j = x.testBit j := by
  cases hx : x.testBit i with
  | false =>
    cases v with
    | false => simp [setBit, hx]
    | true => simpa [setBit, hx] using testBit_add_two_pow_ne hx h
  | true =>
    cases v with
    | true => simp [setBit, hx]
    | false =>
      have split : x - 2 ^ i + 2 ^ i = x := Nat.sub_add_cancel (Nat.ge_two_pow_of_testBit hx)
      have rest : (x - 2 ^ i).testBit i = false := by
        rw [← split, Nat.add_comm, Nat.testBit_two_pow_add_eq] at hx
        simpa using hx
      have same := testBit_add_two_pow_ne rest h
      rw [split] at same
      simpa [setBit, hx] using same.symm

namespace Machine

theorem Dev.testBit_setFieldBit_ne (d : Dev) (f : Fld) (i : Nat) {b c : Nat} (v : Bool) (h : b ≠ c) (hc : c < f.info.width) :
    ((d.setFieldBit f i b v).reg f i).testBit c = (d.reg f i).testBit c := by
  rw [Dev.setFieldBit, Dev.reg_setReg, Nat.testBit_mod_two_pow, testBit_setBit_ne v h]
  simp [hc]

/-- What one element of a list establishes, and every element keeps, holds afterwards. -/
theorem Dev.each_establishes {α : Type} {P : Dev → Prop} {f : Dev → α → Dev} {a : α} {l : List α} (ha : a ∈ l)
    (h : ∀ d, P (f d a)) (k : ∀ d b, P d → P (f d b)) (d : Dev) : P (d.each l f) := by
  have keeps : ∀ (l : List α) d, P d → P (d.each l f) := fun l => by
    induction l with
    | nil => exact fun d hd => hd
    | cons b l ih => exact fun d hd => ih _ (k d b hd)
  induction l generalizing d with
  | nil => simp at ha
  | cons b l ih =>
    rcases List.mem_cons.mp ha with rfl | ha
    · exact keeps l _ (h d)
    · exact ih ha (f d b)

theorem Dev.each_maintains {α : Type} {P : Dev → Prop} {f : Dev → α → Dev} (l : List α) (k : ∀ d b, P d → P (f d b)) (d : Dev)
    (hd : P d) : P (d.each l f) := by
  induction l generalizing d with
  | nil => exact hd
  | cons b l ih => exact ih _ (k d b hd)

/-! ## A group that goes off -/

section
variable (d : Dev) {g : Nat} (hg : g < 8)
include hg

theorem Dev.mpgOff_mpen : (d.mpgOff g).mpen g = false := by
  unfold Dev.mpgOff Dev.mpen
  rw [(Dev.failGroupPackages_frame _ g).reg .PWR_MPG_MPEN 0]
  exact d.testBit_setFieldBit _ _ _ _ hg

/-- A group that is latched off reads latched, with MPENg low. -/
theorem Dev.mpgLatch_spec : ((d.mpgLatch g).reg .PWR_MPG_LATCH).testBit g = true ∧ (d.mpgLatch g).mpen g = false := by
  unfold Dev.mpgLatch
  extract_lets +onlyGivenNames x pwr y
  have latched : (x.reg .PWR_MPG_LATCH).testBit g = true := by
    rw [(Dev.count_frame _ .PWR_MPGg_CNT_LATCHES g 1).reg .PWR_MPG_LATCH 0]
    exact d.testBit_setFieldBit _ _ _ _ hg
  have raised := y.raise_frame 15 { a := g }
  have off := (y.raise 15 { a := g }).mpgOff_frame g
  refine ⟨?_, Dev.mpgOff_mpen _ hg⟩
  rw [off.reg .PWR_MPG_LATCH 0, raised.reg .PWR_MPG_LATCH 0]
  exact latched

omit hg in
/-- A transition is counted in its window; it latches only a group that is not latched. -/
theorem Dev.mpgTransition_latched (h : (d.reg .PWR_MPG_LATCH).testBit g = true) :
    d.Frame (d.mpgTransition g) [.pwr] [] := by
  unfold Dev.mpgTransition
  extract_lets +onlyGivenNames win n pwr x
  have same : x.reg .PWR_MPG_LATCH = d.reg .PWR_MPG_LATCH := rfl
  rw [if_neg (by simp [same, h])]
  exact .update (.refl d)

theorem Dev.mpgRiseFail_spec : (d.mpgRiseFail g).mpen g = false ∧ g ∈ (d.mpgRiseFail g).pwr.mpgFailed ∧
    d.Counted (d.mpgRiseFail g) .PWR_MPGg_CNT_RISE_FAIL g 1 := by
  unfold Dev.mpgRiseFail
  extract_lets +onlyGivenNames x pwr y
  have raised := y.raise_frame 11 { a := g }
  have off := (y.raise 11 { a := g }).mpgOff_frame g
  refine ⟨Dev.mpgOff_mpen _ hg, ?_, ?_⟩
  · rw [off.parts .pwr (by decide), raised.parts .pwr (by decide)]
    exact mem_setInsert.mpr (.inl rfl)
  · refine (off.reg .PWR_MPGg_CNT_RISE_FAIL g).trans ((raised.reg .PWR_MPGg_CNT_RISE_FAIL g).trans ?_)
    exact d.count_counted ..

end

/-! ## Re-arming -/

/-- One group's part of a write to PWR_MPG.LATCH. -/
def Dev.rearm (mask : Nat) (d : Dev) (g : Nat) : Dev :=
  if mask.testBit g && (d.reg .PWR_MPG_LATCH).testBit g then
    let d := d.setFieldBit .PWR_MPG_LATCH 0 g false
    if d.step = 8 || d.step = 9 then d.raiseMpg g else d
  else d

section
variable (mask : Nat) (d : Dev)

theorem Dev.rearmGroups_eq : d.rearmGroups mask = d.each (List.range 8) (Dev.rearm mask) := rfl

theorem Dev.rearm_frame (g : Nat) : d.Frame (d.rearm mask g) [.regs, .pwr] [.PWR_MPG_LATCH, .PWR_MPG_MPEN, .PWR_MPGg_CNT_CYCLES] := by
  unfold Dev.rearm
  refine .ite (fun _ => ?_) fun _ => .refl d
  extract_lets x
  refine .use x (.mono (Dev.setFieldBit_frame ..)) fun h => ?_
  exact .ite (fun _ => .step h (Dev.raiseMpg_frame ..)) fun _ => h

variable {g : Nat} (hg : g < 8)
include hg

/-- A group that is not latched is raised. -/
theorem Dev.raiseMpg_mpen (h : (d.reg .PWR_MPG_LATCH).testBit g = false) : (d.raiseMpg g).mpen g = true := by
  unfold Dev.raiseMpg Dev.mpen
  rw [if_neg (by simp [h])]
  refine (congrArg (Nat.testBit · g) ((Dev.count_frame _ .PWR_MPGg_CNT_CYCLES g 1).reg .PWR_MPG_MPEN 0)).trans ?_
  exact d.testBit_setFieldBit _ _ _ _ hg

omit hg in
theorem Dev.raiseMpg_latch (h : Nat) : (d.raiseMpg h).reg .PWR_MPG_LATCH = d.reg .PWR_MPG_LATCH :=
  (d.raiseMpg_frame h).reg .PWR_MPG_LATCH 0

theorem Dev.raiseMpg_mpen_ne {h : Nat} (ne : h ≠ g) : (d.raiseMpg h).mpen g = d.mpen g := by
  unfold Dev.raiseMpg Dev.mpen
  split
  · rfl
  · refine (congrArg (Nat.testBit · g) ((Dev.count_frame _ .PWR_MPGg_CNT_CYCLES h 1).reg .PWR_MPG_MPEN 0)).trans ?_
    exact d.testBit_setFieldBit_ne _ _ _ ne hg

/-- A group's own part ends its latch where the mask names it. -/
theorem Dev.rearm_latch (hm : mask.testBit g = true) : ((d.rearm mask g).reg .PWR_MPG_LATCH).testBit g = false := by
  unfold Dev.rearm
  extract_lets +onlyGivenNames x
  have clear : (x.reg .PWR_MPG_LATCH).testBit g = false := d.testBit_setFieldBit _ _ _ _ hg
  split
  · split
    · rw [Dev.raiseMpg_latch]
      exact clear
    · exact clear
  · next off => simpa [hm] using off

/-- In the steps 8 and 9 it raises a group that was latched. -/
theorem Dev.rearm_mpen (hm : mask.testBit g = true) (hl : (d.reg .PWR_MPG_LATCH).testBit g = true) (hs : d.step = 8 ∨ d.step = 9) :
    (d.rearm mask g).mpen g = true := by
  unfold Dev.rearm
  extract_lets +onlyGivenNames x
  have step : x.step = d.step := (Dev.setFieldBit_frame ..).reg .PWR_STEP_STEP 0
  rw [if_pos (by simp [hm, hl]), if_pos (by simpa [step] using hs)]
  exact x.raiseMpg_mpen hg (d.testBit_setFieldBit _ _ _ _ hg)

/-- The other groups' parts leave a group's latch and MPENg. -/
theorem Dev.rearm_ne {h : Nat} (ne : h ≠ g) :
    ((d.rearm mask h).reg .PWR_MPG_LATCH).testBit g = (d.reg .PWR_MPG_LATCH).testBit g ∧ (d.rearm mask h).mpen g = d.mpen g := by
  unfold Dev.rearm
  extract_lets +onlyGivenNames x
  have latch : (x.reg .PWR_MPG_LATCH).testBit g = (d.reg .PWR_MPG_LATCH).testBit g := d.testBit_setFieldBit_ne _ _ _ ne hg
  have mpen : x.mpen g = d.mpen g := congrArg (Nat.testBit · g) ((Dev.setFieldBit_frame ..).reg .PWR_MPG_MPEN 0)
  split
  · split
    · exact ⟨(congrArg (Nat.testBit · g) (x.raiseMpg_latch h)).trans latch, (x.raiseMpg_mpen_ne hg ne).trans mpen⟩
    · exact ⟨latch, mpen⟩
  · exact ⟨rfl, rfl⟩

theorem Dev.rearmGroups_latch (hm : mask.testBit g = true) : ((d.rearmGroups mask).reg .PWR_MPG_LATCH).testBit g = false := by
  refine Dev.each_establishes (P := fun d => (d.reg .PWR_MPG_LATCH).testBit g = false) (List.mem_range.mpr hg)
    (fun d => d.rearm_latch mask hg hm) (fun d h off => ?_) d
  by_cases ne : h = g
  · subst ne
    exact d.rearm_latch mask hg hm
  · exact (d.rearm_ne mask hg ne).1.trans off

/-- A latched group that the mask names is raised in the steps 8 and 9: until its part runs it stays latched, and from then on
MPENg stays high. -/
theorem Dev.rearmGroups_mpen (hm : mask.testBit g = true) (hl : (d.reg .PWR_MPG_LATCH).testBit g = true)
    (hs : d.step = 8 ∨ d.step = 9) : (d.rearmGroups mask).mpen g = true := by
  have kept := Dev.each_maintains (P := fun d => (d.step = 8 ∨ d.step = 9) ∧ ((d.reg .PWR_MPG_LATCH).testBit g = false → d.mpen g = true))
    (f := Dev.rearm mask) (List.range 8) (fun d h ⟨hs, up⟩ => ?_) d ⟨hs, fun off => absurd off (by simp [hl])⟩
  · exact kept.2 (d.rearmGroups_latch mask hg hm)
  · have step : (d.rearm mask h).step = d.step := (d.rearm_frame mask h).reg .PWR_STEP_STEP 0
    refine ⟨by rwa [step], fun off => ?_⟩
    by_cases ne : h = g
    · subst ne
      cases latched : (d.reg .PWR_MPG_LATCH).testBit h with
      | true => exact d.rearm_mpen mask hg hm latched hs
      | false =>
        have idle : d.rearm mask h = d := if_neg (by simp [latched])
        rw [idle]
        exact up latched
    · obtain ⟨latch, mpen⟩ := d.rearm_ne mask hg ne
      exact mpen.trans (up (latch.symm.trans off))

end

/-- What a fall of MPGOODg comes to for a group whose MPENg was high (`en`), and that was up (`up`): outside a quench (`q` is 0) a
group that was up is latched off, and one in its 1 ms period has failed to rise. -/
def Dev.mpgFell (d : Dev) (g q : Nat) (en up : Bool) : Dev :=
  let d := if en then d.count .PWR_MPGg_CNT_FALLS g else d
  let d :=
    if en && up then (if q ≠ 0 then (d.mpgOff g) else d.mpgLatch g)
    else if en then d.mpgRiseFail g
    else d
  let d := { d with pwr := { d.pwr with mpgStableAt := d.pwr.mpgStableAt.del g } }
  d.mpgTransition g

section
variable (d : Dev) (g q : Nat) (en up : Bool)

theorem Dev.mpgFell_frame : d.Frame (d.mpgFell g q en up) (.pwr :: serviceParts) (serviceFields.append [.PWR_MPGg_CNT_FALLS,
    .PWR_MPGg_CNT_RISE_FAIL, .PWR_MPG_LATCH, .PWR_MPGg_CNT_LATCHES, .PWR_MPG_MPEN]) := by
  unfold Dev.mpgFell
  extract_lets +onlyGivenNames x y pwr z
  refine .use x (.ite (fun _ => .mono (Dev.count_frame ..)) fun _ => .refl d) fun h => ?_
  refine .use y ?_ fun h => .servedMore (.update h) (Dev.mpgTransition_frame ..)
  refine .ite (fun _ => .ite (fun _ => ?_) fun _ => ?_) fun _ => .ite (fun _ => ?_) fun _ => h
  · exact .servedMore h (Dev.mpgOff_frame ..)
  · exact .servedMore h (Dev.mpgLatch_frame ..)
  · exact .servedMore h (Dev.mpgRiseFail_frame ..)

variable {g}

theorem Dev.mpgFell_up (hg : g < 8) : ((d.mpgFell g 0 true true).reg .PWR_MPG_LATCH).testBit g = true ∧
    (d.mpgFell g 0 true true).mpen g = false := by
  obtain ⟨latched, off⟩ := (d.count .PWR_MPGg_CNT_FALLS g).mpgLatch_spec hg
  have run : d.mpgFell g 0 true true = Dev.mpgTransition { (d.count .PWR_MPGg_CNT_FALLS g).mpgLatch g with
      pwr := { ((d.count .PWR_MPGg_CNT_FALLS g).mpgLatch g).pwr with
        mpgStableAt := ((d.count .PWR_MPGg_CNT_FALLS g).mpgLatch g).pwr.mpgStableAt.del g } } g := rfl
  rw [run]
  generalize (d.count .PWR_MPGg_CNT_FALLS g).mpgLatch g = x at *
  have same := Dev.mpgTransition_latched { x with pwr := { x.pwr with mpgStableAt := x.pwr.mpgStableAt.del g } } latched
  exact ⟨(congrArg (Nat.testBit · g) (same.reg .PWR_MPG_LATCH 0)).trans latched,
    (congrArg (Nat.testBit · g) (same.reg .PWR_MPG_MPEN 0)).trans off⟩

end

/-- Settles O13. -/
theorem mediaRailGroupCommandsTakeEffect : Obligations.MediaRailGroupCommandsTakeEffect := by
  refine ⟨fun s g ha hg => ?_, fun s g ha hg => ?_, fun s g ha hg hm hu => ?_, fun s mask ha => ?_⟩
  · obtain ⟨x, hx⟩ : ∃ x : Dev, x = Dev.setReg { s.stamped with
        pin := { s.stamped.pin with mpgood := setBit s.stamped.pin.mpgood g true }
        pwr := { s.stamped.pwr with mpgStableAt := s.stamped.pwr.mpgStableAt.put g s.stamped.now } }
      .PWR_MPG_MPGOOD 0 (setBit s.stamped.pin.mpgood g true) := ⟨_, rfl⟩
    have high : x.pin.mpgood.testBit g = true := by
      rw [hx]
      exact testBit_setBit s.stamped.pin.mpgood g true
    have shown : (x.reg .PWR_MPG_MPGOOD).testBit g = true := by
      rw [hx, Dev.reg_setReg, Nat.testBit_mod_two_pow, testBit_setBit]
      exact Bool.and_eq_true_iff.mpr ⟨decide_eq_true hg, rfl⟩
    have moved := x.mpgTransition_frame g
    refine ⟨x.mpgTransition g, hx ▸ show execMpgoodRise g s = _ from State.on_when ha (decide_eq_true hg), ?_, ?_⟩
    · rw [moved.parts .pin (by decide)]
      exact high
    · rw [moved.reg .PWR_MPG_MPGOOD 0]
      exact shown
  · obtain ⟨x, hx⟩ : ∃ x : Dev, x = Dev.setReg { s.stamped with
        pin := { s.stamped.pin with mpgood := setBit s.stamped.pin.mpgood g false } }
      .PWR_MPG_MPGOOD 0 (setBit s.stamped.pin.mpgood g false) := ⟨_, rfl⟩
    have low : x.pin.mpgood.testBit g = false := by
      rw [hx]
      exact testBit_setBit s.stamped.pin.mpgood g false
    have shown : (x.reg .PWR_MPG_MPGOOD).testBit g = false := by
      rw [hx, Dev.reg_setReg, Nat.testBit_mod_two_pow, testBit_setBit]
      simp
    have fell := x.mpgFell_frame g (s.stamped.reg .JRN_STATUS_QSTATE) (s.stamped.mpen g) (s.stamped.mpgUp g)
    refine ⟨_, hx ▸ show execMpgoodFall g s = _ from State.on_when ha (decide_eq_true hg),
      (congrArg (Nat.testBit · g) (congrArg PinS.mpgood (fell.parts .pin (by decide)))).trans low,
      (congrArg (Nat.testBit · g) (fell.reg .PWR_MPG_MPGOOD 0)).trans shown, fun hq up => ?_⟩
    have en : s.stamped.mpen g = true := by
      unfold Dev.mpgUp at up
      simp_all
    rw [show s.stamped.reg .JRN_STATUS_QSTATE = 0 from hq, en, up]
    exact x.mpgFell_up hg
  · have guard : (decide (g < 8) && s.stamped.mpen g && !s.stamped.mpgUp g) = true := by
      rw [decide_eq_true hg, show s.stamped.mpen g = true from hm, hu]
      rfl
    obtain ⟨off, failed, counted⟩ := s.stamped.mpgRiseFail_spec hg
    exact ⟨_, show execMpgRiseTimeout g s = _ from State.on_when ha guard, off, failed, counted⟩
  · exact ⟨_, show execMpgLatchWrite mask s = _ from State.on_aon ha _, fun g hg hm => s.stamped.rearmGroups_latch mask hg hm,
      fun hs g hg hm hl => s.stamped.rearmGroups_mpen mask hg hm hl hs,
      (Dev.Frame.each _ (Dev.rearm_frame mask) s.stamped).changesOnly⟩

end Machine
end Sys2Proof
end

section
/-!
What a frame says of a head and of a unit, and what a command under watched health comes to.
-/
-- Checked one after another: side by side, each waiting for the kernel, the proofs need more threads than the memory admits.
set_option Elab.async false
namespace Sys2Proof.Machine

namespace Dev.Frame
variable {d e : Dev} {ps : List Part} {fs : List Fld} (h : d.Frame e ps fs)
include h

theorem head (n : Nat) (hp : .heads ∉ ps := by decide) : e.head n = d.head n := by
  rw [Dev.head, h.parts .heads hp, Dev.head]

theorem unit (ix : Nat) (hp : .ust ∉ ps := by decide) : e.unit ix = d.unit ix := by
  rw [Dev.unit, h.parts .ust hp, Dev.unit]

theorem ustate (ix : Nat) (hp : .ust ∉ ps := by decide) : e.ustate ix = d.ustate ix := congrArg UnitRec.state (h.unit ix hp)

end Dev.Frame

/-- A command under watched health has its effect; the watch adds at most one occurrence of an event. -/
theorem State.onHealth_to {s : State} (ha : s.dev.aon = true) {f : Dev → Dev} {d : Dev} (h : f s.stamped = d) :
    ∃ e, s.onHealth f = .next { s with dev := e } ∧ d.Frame e [.regs, .evt, .out] evtFields :=
  ⟨_, State.onHealth_aon ha f, h ▸ (s.stamped.watchHealth_evOnly f).frame⟩

end Sys2Proof.Machine
end

section
/-!
O15: a head's resets (R94 to R97).
-/
-- Checked one after another: side by side, each waiting for the kernel, the proofs need more threads than the memory admits.
set_option Elab.async false
namespace Sys2Proof.Machine

section
variable (d : Dev) (h : Nat)

/-- What a head's reset leaves of it, and of the requests it had accepted. -/
theorem Dev.headDrop_head : (d.headDrop h).head h = { d.head h with live := [], occPeak := 0 } := Dev.head_setHead ..

theorem Dev.headReset_head : (d.headReset h).head h = (d.head h).afterReset := by
  unfold Dev.headReset
  extract_lets x y z evt mgt
  have last : y.Frame z [.mgt] [] := Dev.releaseIface_frame y h
  have cleared : (x.setHead h (x.head h).afterReset).Frame y [.regs] _ := Dev.clearUnitRegs_frame ..
  have dropped : (x.head h).afterReset = (d.head h).afterReset := by
    rw [show x.head h = _ from d.headDrop_head h]
    rfl
  exact (last.head h).trans ((cleared.head h).trans ((x.head_setHead h _).trans dropped))

/-- The fields of a head that its reset clears, and those of events. -/
def headResetFields : List Fld := evtFields.append
  [.GLB_HEAD_LINK_RATE, .GLB_HEAD_LINK_WIDTH, .GLB_HEAD_LINK_FLIT, .GLB_HEAD_LINK_CXL, .GLB_HEAD_LINK_IDE_MEM,
   .GLB_HEAD_LINK_IDE_IO, .GLB_HEAD_LINK_REVERSED, .GLB_HEAD_LOAD_DEVLOAD, .GLB_HEAD_LOAD_OCC_LVL, .GLB_HEAD_LOAD_WB_LVL,
   .GLB_HEAD_LOAD_WEAR_LVL, .GLB_HEAD_LOAD_THERM_LVL]

/-- The parts that a head's reset may change. -/
def headResetParts : List Part := [.evt, .heads, .jrn, .med, .mgt, .out, .regs, .slices, .tal, .ust]

/-- A head that is taken to RESETTING (R94). -/
def Dev.headDown : Dev := (d.headReset h).setUnit (headIx h) .resetting 5

theorem Dev.headDown_spec : (d.headDown h).head h = (d.head h).afterReset ∧ (d.headDown h).ustate (headIx h) = .resetting ∧
    d.Frame (d.headDown h) headResetParts headResetFields := by
  have moved := (d.headReset h).setUnit_frame (headIx h) .resetting 5 true
  exact ⟨(moved.head h).trans (d.headReset_head h), Dev.setUnit_ustate .., .step (.mono (d.headReset_frame h)) moved⟩

/-- A link-down reset of a link that was up is counted (R95). -/
def Dev.linkDownCounted (how : HeadReset) : Dev :=
  if how = .linkDown && d.reg .GLB_HEAD_LINK_WIDTH h ≠ 0 then d.count .GLB_HEAD_LINK_DOWN_COUNT h else d

theorem Dev.linkDownCounted_frame (how : HeadReset) : d.Frame (d.linkDownCounted h how) [.regs] [.GLB_HEAD_LINK_DOWN_COUNT] :=
  .ite (fun _ => Dev.count_frame ..) fun _ => .refl d

theorem Dev.lt_of_headLive (hl : d.headLive h = true) : h < d.headCount := by
  simp only [Dev.headLive, Bool.and_eq_true, decide_eq_true_eq] at hl
  exact hl.1.1

/-- PERSTn_N of a head reads low. -/
def Dev.perstLow : Dev := d.setHead h { d.head h with perst := true }

/-- PERSTn_N low takes a live head to RESETTING, unless a core reset holds it. -/
theorem perst_run {s : State} {h : Nat} (hl : s.stamped.headLive h = true) (hc : s.dev.rst.core ≠ .hold)
    (hu : s.dev.ustate (headIx h) ∉ [.absent, .retired]) (ha : s.dev.aon = true) :
    ∃ e, exec (.perstAssert h .perst) s = .next { s with dev := e } ∧
      ((s.stamped.perstLow h).headDown h).Frame e [.regs, .evt, .out] evtFields := by
  have live : (decide (h < s.stamped.headCount)) = true := decide_eq_true (s.stamped.lt_of_headLive h hl)
  have moves : ((s.stamped.perstLow h).headLive h && decide ((s.stamped.perstLow h).ustate (headIx h) ∉ [.absent, .retired])) = true := by
    rw [show (s.stamped.perstLow h).headLive h = true from hl]
    exact decide_eq_true hu
  exact show ∃ e, execPerstAssert h .perst s = .next _ ∧ _ from State.onHealth_to ha ((if_pos live).trans ((if_pos moves).trans (if_neg hc)))

/-- A hot or link-down reset takes a live head through RESETTING to STARTING. -/
theorem headReset_run {s : State} {h : Nat} {how : HeadReset} (hl : s.stamped.headLive h = true) (hc : s.dev.rst.core ≠ .hold)
    (hn : how ≠ .perst) (hu : s.dev.ustate (headIx h) ∉ [.absent, .retired]) (ha : s.dev.aon = true) :
    ∃ e, exec (.perstAssert h how) s = .next { s with dev := e } ∧
      (((s.stamped.linkDownCounted h how).headDown h).setUnit (headIx h) .starting 5).Frame e [.regs, .evt, .out] evtFields := by
  have live : (decide (h < s.stamped.headCount)) = true := decide_eq_true (s.stamped.lt_of_headLive h hl)
  have moves : (s.stamped.headLive h && decide (s.stamped.ustate (headIx h) ∉ [.absent, .retired])) = true := by
    rw [hl]
    exact decide_eq_true hu
  refine show ∃ e, execPerstAssert h how s = .next _ ∧ _ from State.onHealth_to ha ((if_pos live).trans ?_)
  dsimp only
  rw [if_neg hn, Dev.when, if_pos moves, if_neg (show ¬ s.stamped.rst.core = .hold from hc)]
  exact if_neg hn

end

theorem setErase_eq (l : List Nat) (n : Nat) : setErase l n = l.filter (fun v => v ≠ n) :=
  List.filter_congr fun _ _ => by simp [bne, beq_eq_decide]

/-- Settles O15. -/
theorem headResetCommandsTakeEffect : Obligations.HeadResetCommandsTakeEffect := by
  refine ⟨fun s h ha hl hc hu => ?_, fun s h how ha hl hc hn hu => ?_, fun s h ha hh hp => ?_, fun s h ha hh => ?_,
    fun s h ha hl hp hm => ?_⟩
  · obtain ⟨e, run, watch⟩ := perst_run hl hc hu ha
    obtain ⟨head, resetting, down⟩ := (s.stamped.perstLow h).headDown_spec h
    have head := (watch.head h).trans (head.trans (congrArg HeadS.afterReset (Dev.head_setHead ..)))
    have low : s.stamped.Frame (s.stamped.perstLow h) [.heads] [] := Dev.setHead_frame ..
    exact ⟨e, run, congrArg HeadS.perst head, (watch.ustate _).trans resetting, congrArg HeadS.live head,
      congrArg HeadS.memInfoValid head, (((low.mono : Dev.Frame _ _ headResetParts headResetFields).step down).step watch).changesOnly⟩
  · obtain ⟨e, run, watch⟩ := headReset_run hl hc hn hu ha
    obtain ⟨x, hx⟩ : ∃ x, x = s.stamped.linkDownCounted h how := ⟨_, rfl⟩
    rw [← hx] at watch
    obtain ⟨head, -, down⟩ := x.headDown_spec h
    have started := (x.headDown h).setUnit_frame (headIx h) .starting 5 true
    have counted : s.stamped.Frame x [.regs] [.GLB_HEAD_LINK_DOWN_COUNT] := hx ▸ s.stamped.linkDownCounted_frame h how
    have whole := (((counted.mono : Dev.Frame _ _ headResetParts (headResetFields.append [.GLB_HEAD_LINK_DOWN_COUNT])).step down).step
      started).step watch
    refine ⟨e, run, (watch.ustate _).trans (Dev.setUnit_ustate ..), ?_, fun hd hw => ?_, whole.changesOnly⟩
    · exact congrArg HeadS.live ((watch.head h).trans ((started.head h).trans head))
    · have up : (decide (how = .linkDown) && decide (s.stamped.reg .GLB_HEAD_LINK_WIDTH h ≠ 0)) = true :=
        Bool.and_eq_true_iff.mpr ⟨decide_eq_true hd, decide_eq_true hw⟩
      have count : x = s.stamped.count .GLB_HEAD_LINK_DOWN_COUNT h := hx.trans (if_pos up)
      have rest := (down.step started).step watch
      rw [count] at rest
      exact (Dev.Frame.refl (ps := []) (fs := []) s.stamped).counted rest
  · obtain ⟨x, hx⟩ : ∃ x, x = s.stamped.setHead h { s.stamped.head h with perst := false, perstRiseAt := s.stamped.now } := ⟨_, rfl⟩
    have high : x.head h = { s.dev.head h with perst := false, perstRiseAt := s.tb } := hx ▸ Dev.head_setHead ..
    have first : s.stamped.Frame x [.heads] [] := hx ▸ Dev.setHead_frame ..
    obtain ⟨y, hy⟩ : ∃ y, y = if (x.headLive h && decide (x.ustate (headIx h) = .resetting)) = true then
      x.setUnit (headIx h) .starting 5 else x := ⟨_, rfl⟩
    have last : x.Frame y [.evt, .heads, .jrn, .out, .regs, .ust] evtFields :=
      hy ▸ .ite (fun _ => .mono (Dev.setUnit_frame ..)) fun _ => .refl x
    have keeps : y.head h = x.head h := by
      rw [hy]
      split
      · exact (Dev.setUnit_frame ..).head h
      · rfl
    have guard : (decide (h < s.stamped.headCount) && (s.stamped.head h).perst) = true :=
      Bool.and_eq_true_iff.mpr ⟨decide_eq_true hh, hp⟩
    obtain ⟨e, run, watch⟩ := State.onHealth_to ha (f := fun d => d.when (decide (h < d.headCount) && (d.head h).perst) fun d =>
      let d := d.setHead h { d.head h with perst := false, perstRiseAt := d.now }
      if d.headLive h && d.ustate (headIx h) = .resetting then d.setUnit (headIx h) .starting 5 else d) (d := y)
      ((if_pos guard).trans (hy ▸ hx ▸ rfl))
    have head := (watch.head h).trans (keeps.trans high)
    refine ⟨e, run, congrArg HeadS.perst head, congrArg HeadS.perstRiseAt head, fun hl hr => ?_,
      (((first.mono : Dev.Frame _ _ [.evt, .heads, .jrn, .out, .regs, .ust] evtFields).step last).step watch).changesOnly⟩
    have moves : (x.headLive h && decide (x.ustate (headIx h) = .resetting)) = true :=
      Bool.and_eq_true_iff.mpr ⟨hx ▸ hl, decide_eq_true (hx ▸ hr)⟩
    rw [watch.ustate, hy, if_pos moves]
    exact Dev.setUnit_ustate ..
  · exact ⟨_, show execFunctionLevelReset h s = _ from State.on_when ha (decide_eq_true hh), by rw [setErase_eq], rfl,
      (.update (.refl _) : Dev.Frame s.stamped _ [.evt, .mgt] []).changesOnly⟩
  · have guard : (s.stamped.headLive h && !(s.stamped.head h).perst && !(s.stamped.head h).memInfoValid) = true := by
      rw [hl, show (s.stamped.head h).perst = false from hp, show (s.stamped.head h).memInfoValid = false from hm]
      rfl
    have ready := s.stamped.head_setHead h { s.stamped.head h with
      config := some { revision := s.stamped.boot.stepping, serial := s.stamped.boot.serial }, memInfoValid := true
      memActive := s.stamped.memActive && !s.stamped.pcieOnly h, range1 := s.stamped.dpaLimit }
    exact ⟨_, show execConfigSpaceReady h s = _ from State.on_to ha (if_pos guard), congrArg HeadS.memInfoValid ready,
      congrArg HeadS.memActive ready, congrArg HeadS.range1 ready, congrArg HeadS.config ready, (Dev.setHead_frame ..).changesOnly⟩

end Sys2Proof.Machine
end

section
/-!
O16: a head's link (R92, R93, R95).
-/
-- Checked one after another: side by side, each waiting for the kernel, the proofs need more threads than the memory admits.
set_option Elab.async false
namespace Sys2Proof.Machine

/-- The parts that a head's link may change, and the fields. -/
def linkParts : List Part := [.evt, .heads, .jrn, .med, .out, .regs, .slices, .tal, .ust]

def linkFields : List Fld := evtFields.append
  [.GLB_HEAD_LINK_DOWN_COUNT, .GLB_HEAD_LINK_RATE, .GLB_HEAD_LINK_WIDTH, .GLB_HEAD_LINK_FLIT, .GLB_HEAD_LINK_CXL,
   .GLB_HEAD_LINK_REVERSED]

theorem UState.serves_iff {u : UState} : u.serves = true ↔ u = .online ∨ u = .degraded := by
  simp [UState.serves]

section
variable (d : Dev) (h : Nat)

/-- The registers of a link that is lost. -/
def Dev.linkCleared : Dev :=
  (((((d.count .GLB_HEAD_LINK_DOWN_COUNT h).headDrop h).setReg .GLB_HEAD_LINK_RATE h 0).setReg .GLB_HEAD_LINK_WIDTH h 0).setReg
    .GLB_HEAD_LINK_FLIT h 0).setFlag .GLB_HEAD_LINK_CXL h false

theorem Dev.linkCleared_spec : (d.linkCleared h).reg .GLB_HEAD_LINK_WIDTH h = 0 ∧ (d.linkCleared h).reg .GLB_HEAD_LINK_CXL h = 0 ∧
    d.Counted (d.linkCleared h) .GLB_HEAD_LINK_DOWN_COUNT h 1 ∧
    (d.linkCleared h).head h = { d.head h with live := [], occPeak := 0 } ∧ d.Frame (d.linkCleared h) linkParts linkFields := by
  unfold Dev.linkCleared
  have count := d.count_frame .GLB_HEAD_LINK_DOWN_COUNT h 1
  have drop := (d.count .GLB_HEAD_LINK_DOWN_COUNT h).headDrop_frame h
  have live := (d.count .GLB_HEAD_LINK_DOWN_COUNT h).headDrop_head h
  generalize (d.count .GLB_HEAD_LINK_DOWN_COUNT h).headDrop h = x at drop live
  have shown : x.Frame ((((x.setReg .GLB_HEAD_LINK_RATE h 0).setReg .GLB_HEAD_LINK_WIDTH h 0).setReg .GLB_HEAD_LINK_FLIT h 0).setFlag
      .GLB_HEAD_LINK_CXL h false) [.regs] [.GLB_HEAD_LINK_RATE, .GLB_HEAD_LINK_WIDTH, .GLB_HEAD_LINK_FLIT, .GLB_HEAD_LINK_CXL] :=
    .step (.step (.step (.mono (Dev.setReg_frame ..)) (Dev.setReg_frame ..)) (Dev.setReg_frame ..)) (Dev.setFlag_frame ..)
  have rest : (d.count .GLB_HEAD_LINK_DOWN_COUNT h).Frame _ [.heads, .slices, .med, .tal, .regs] _ :=
    (drop.mono : Dev.Frame _ _ _ [.GLB_HEAD_LINK_RATE, .GLB_HEAD_LINK_WIDTH, .GLB_HEAD_LINK_FLIT, .GLB_HEAD_LINK_CXL]).step shown
  refine ⟨?_, Dev.reg_setReg .., (Dev.Frame.refl (ps := []) (fs := []) d).counted rest, ?_, .step (.mono count) rest⟩
  · rw [(Dev.setFlag_frame ..).reg .GLB_HEAD_LINK_WIDTH h, (Dev.setReg_frame ..).reg .GLB_HEAD_LINK_WIDTH h]
    exact Dev.reg_setReg ..
  · exact (shown.head h).trans (live.trans (by rw [count.head h]))

theorem Dev.linkLost_eq : d.linkLost h = if (d.linkCleared h).ustate (headIx h) ∈ [.absent, .retired, .off, .resetting] then
    d.linkCleared h else (d.linkCleared h).setUnit (headIx h) .off 5 := rfl

/-- A link that is lost shows none, is counted, drops the requests its head had accepted, and takes a head in service OFF. -/
theorem Dev.linkLost_spec : (d.linkLost h).reg .GLB_HEAD_LINK_WIDTH h = 0 ∧ (d.linkLost h).reg .GLB_HEAD_LINK_CXL h = 0 ∧
    d.Counted (d.linkLost h) .GLB_HEAD_LINK_DOWN_COUNT h 1 ∧ (d.linkLost h).head h = { d.head h with live := [], occPeak := 0 } ∧
    (d.serves (headIx h) = true → (d.linkLost h).ustate (headIx h) = .off) ∧ d.Frame (d.linkLost h) linkParts linkFields := by
  obtain ⟨width, cxl, counted, head, frame⟩ := d.linkCleared_spec h
  have same : (d.linkCleared h).ustate (headIx h) = d.ustate (headIx h) := rfl
  have last : (d.linkCleared h).Frame (d.linkLost h) [.ust, .jrn, .regs, .evt, .out] evtFields := by
    rw [d.linkLost_eq h]
    exact .ite (fun _ => .refl _) fun _ => Dev.setUnit_frame ..
  refine ⟨(last.reg _ h).trans width, (last.reg _ h).trans cxl, (last.reg .GLB_HEAD_LINK_DOWN_COUNT h).trans counted, (last.head h).trans head,
    fun serves => ?_, frame.step last⟩
  have here : (d.linkCleared h).ustate (headIx h) ∉ [.absent, .retired, .off, .resetting] := by
    rw [same]
    rcases UState.serves_iff.mp serves with on | on <;> rw [on] <;> decide
  rw [d.linkLost_eq h, if_neg here]
  exact Dev.setUnit_ustate ..

/-! ## A link that comes up -/

/-- A link that trained at a higher rate, or that leaves PCIe-only mode, has been lost before. -/
def Dev.retrained (rate : Nat) (c : Bool) : Dev :=
  if (decide (2 ≤ d.reg .GLB_HEAD_LINK_FLIT h) && decide (rate < d.reg .GLB_HEAD_LINK_RATE h)) || (d.pcieOnly h && c) then
    (d.linkLost h).setUnit (headIx h) .starting 5
  else d

theorem Dev.retrained_spec (rate : Nat) (c : Bool) :
    ((d.retrained h rate c).ustate (headIx h) = .starting ∨ (d.retrained h rate c).ustate (headIx h) = d.ustate (headIx h)) ∧
    (d.pcieOnly h = true → c = true →
      d.Counted (d.retrained h rate c) .GLB_HEAD_LINK_DOWN_COUNT h 1 ∧ ((d.retrained h rate c).head h).live = []) ∧
    d.Frame (d.retrained h rate c) linkParts linkFields := by
  obtain ⟨-, -, counted, head, -, frame⟩ := d.linkLost_spec h
  have moved := (d.linkLost h).setUnit_frame (headIx h) .starting 5 true
  unfold Dev.retrained
  split
  · exact ⟨.inl (Dev.setUnit_ustate ..), fun _ _ => ⟨(moved.reg .GLB_HEAD_LINK_DOWN_COUNT h).trans counted,
      congrArg HeadS.live ((moved.head h).trans head)⟩, frame.step moved⟩
  · next no => exact ⟨.inr rfl, fun p hc => absurd (by simp [p, hc]) no, .refl d⟩

/-- The registers of a link that has come up with `c` saying whether it carries CXL. -/
def Dev.linkRegs (rate width flit : Nat) (c reversed : Bool) : Dev :=
  ((((d.setReg .GLB_HEAD_LINK_RATE h rate).setReg .GLB_HEAD_LINK_WIDTH h width).setReg .GLB_HEAD_LINK_FLIT h flit).setFlag
    .GLB_HEAD_LINK_CXL h c).setFlag .GLB_HEAD_LINK_REVERSED h reversed

theorem Dev.linkRegs_spec (rate width flit : Nat) (c reversed : Bool) :
    (d.linkRegs h rate width flit c reversed).reg .GLB_HEAD_LINK_WIDTH h = width % 2 ^ 5 ∧
    (d.linkRegs h rate width flit c reversed).reg .GLB_HEAD_LINK_RATE h = rate % 2 ^ 3 ∧
    (d.linkRegs h rate width flit c reversed).reg .GLB_HEAD_LINK_CXL h = b2n c ∧
    d.Frame (d.linkRegs h rate width flit c reversed) [.regs] [.GLB_HEAD_LINK_RATE, .GLB_HEAD_LINK_WIDTH, .GLB_HEAD_LINK_FLIT,
      .GLB_HEAD_LINK_CXL, .GLB_HEAD_LINK_REVERSED] := by
  unfold Dev.linkRegs
  refine ⟨?_, ?_, ?_, .step (.step (.step (.step (.mono (Dev.setReg_frame ..)) (Dev.setReg_frame ..)) (Dev.setReg_frame ..))
    (Dev.setFlag_frame ..)) (Dev.setFlag_frame ..)⟩
  · rw [(Dev.setFlag_frame ..).reg .GLB_HEAD_LINK_WIDTH h, (Dev.setFlag_frame ..).reg .GLB_HEAD_LINK_WIDTH h,
      (Dev.setReg_frame ..).reg .GLB_HEAD_LINK_WIDTH h]
    exact Dev.reg_setReg ..
  · rw [(Dev.setFlag_frame ..).reg .GLB_HEAD_LINK_RATE h, (Dev.setFlag_frame ..).reg .GLB_HEAD_LINK_RATE h,
      (Dev.setReg_frame ..).reg .GLB_HEAD_LINK_RATE h, (Dev.setReg_frame ..).reg .GLB_HEAD_LINK_RATE h]
    exact Dev.reg_setReg ..
  · rw [(Dev.setFlag_frame ..).reg .GLB_HEAD_LINK_CXL h]
    exact Dev.reg_setFlag _ _ _ _ (by decide)

/-- A head with a link comes into service: ONLINE or DEGRADED, and DEGRADED without CXL. -/
theorem Dev.headService_spec (cause : Nat) (hw : d.reg .GLB_HEAD_LINK_WIDTH h ≠ 0) : (d.headService h cause).serves (headIx h) = true ∧
    (d.flag .GLB_HEAD_LINK_CXL h = false → (d.headService h cause).ustate (headIx h) = .degraded) := by
  have moves : ∀ st, (d.moveUnit h st cause true).ustate (headIx h) = st := fun st => by
    unfold Dev.moveUnit
    split
    · next e => exact e
    · exact Dev.setUnit_ustate ..
  unfold Dev.headService
  extract_lets +onlyGivenNames w e wantW wantR
  rw [if_neg hw]
  split
  · next on =>
    refine ⟨UState.serves_iff.mpr (.inl (moves _)), fun off => ?_⟩
    rw [off] at on
    simp at on
  · exact ⟨UState.serves_iff.mpr (.inr (moves _)), fun _ => moves _⟩

/-- A link that has come up: what it trained, its registers, and Memory_Active of its head. -/
def Dev.linkShown (rate width flit : Nat) (c reversed : Bool) : Dev :=
  let x := d.head h
  let d := if x.trained = (width, rate) then d else d.setHead h { x with trained := (width, rate), cdatSeq := x.cdatSeq + 1 }
  let d := d.linkRegs h rate width flit c reversed
  let d := d.setHead h { d.head h with memActive := d.memActive && c && (d.head h).memInfoValid }
  if c then d else d.raise 71 { a := h }

theorem Dev.linkShown_spec (rate width flit : Nat) (c reversed : Bool) :
    (d.linkShown h rate width flit c reversed).reg .GLB_HEAD_LINK_WIDTH h = width % 2 ^ 5 ∧
    (d.linkShown h rate width flit c reversed).reg .GLB_HEAD_LINK_RATE h = rate % 2 ^ 3 ∧
    (d.linkShown h rate width flit c reversed).reg .GLB_HEAD_LINK_CXL h = b2n c ∧
    ((d.linkShown h rate width flit c reversed).head h).trained = (width, rate) ∧
    ((d.linkShown h rate width flit c reversed).head h).live = (d.head h).live ∧
    d.Frame (d.linkShown h rate width flit c reversed) [.evt, .heads, .out, .regs] (evtFields.append [.GLB_HEAD_LINK_RATE,
      .GLB_HEAD_LINK_WIDTH, .GLB_HEAD_LINK_FLIT, .GLB_HEAD_LINK_CXL, .GLB_HEAD_LINK_REVERSED]) := by
  unfold Dev.linkShown
  extract_lets +onlyGivenNames k x y old z
  have trained : (x.head h).trained = (width, rate) ∧ (x.head h).live = (d.head h).live := by
    unfold x
    split
    · next e => exact ⟨e, rfl⟩
    · rw [Dev.head_setHead]
      exact ⟨rfl, rfl⟩
  have first : d.Frame x [.heads] [] := .ite (fun _ => .refl d) fun _ => Dev.setHead_frame ..
  obtain ⟨w, r, l, regs⟩ := x.linkRegs_spec h rate width flit c reversed
  have same : y.head h = x.head h := regs.head h
  have third : y.Frame z [.heads] [] := Dev.setHead_frame ..
  have active : (z.head h).trained = (x.head h).trained ∧ (z.head h).live = (x.head h).live := by
    rw [show z.head h = _ from Dev.head_setHead .., ← same]
    exact ⟨rfl, rfl⟩
  have last : z.Frame (if c then z else z.raise 71 { a := h }) [.regs, .evt, .out] evtFields :=
    .ite (fun _ => .refl z) fun _ => Dev.raise_frame ..
  refine ⟨(last.reg .GLB_HEAD_LINK_WIDTH h).trans ((third.reg .GLB_HEAD_LINK_WIDTH h).trans w),
    (last.reg .GLB_HEAD_LINK_RATE h).trans ((third.reg .GLB_HEAD_LINK_RATE h).trans r),
    (last.reg .GLB_HEAD_LINK_CXL h).trans ((third.reg .GLB_HEAD_LINK_CXL h).trans l), ?_, ?_,
    .step (.step (.step (.mono first) regs) third) last⟩
  · rw [last.head h]
    exact active.1.trans trained.1
  · rw [last.head h]
    exact active.2.trans trained.2

end

/-- An integrity failure ends the security of its stream (R93). -/
def Dev.ideFailed (d : Dev) (h : Nat) (io : Bool) : Dev :=
  let x := d.head h
  let d := d.setHead h (if io then { x with ioIde := { x.ioIde with secure := false } }
                           else { x with memIde := { x.memIde with secure := false } })
  (d.setFlag (if io then .GLB_HEAD_LINK_IDE_IO else .GLB_HEAD_LINK_IDE_MEM) h false).raise 72 { a := h }

theorem Dev.ideFailed_spec (d : Dev) (h : Nat) (io : Bool) :
    (d.ideFailed h io).reg (if io then .GLB_HEAD_LINK_IDE_IO else .GLB_HEAD_LINK_IDE_MEM) h = 0 ∧
    (d.ideFailed h io).head h = (if io then { d.head h with ioIde := { (d.head h).ioIde with secure := false } }
      else { d.head h with memIde := { (d.head h).memIde with secure := false } }) ∧
    d.Frame (d.ideFailed h io) linkParts (linkFields.append [.GLB_HEAD_LINK_IDE_IO, .GLB_HEAD_LINK_IDE_MEM]) := by
  unfold Dev.ideFailed
  extract_lets +onlyGivenNames x ioIde memIde y
  have head : y.head h = _ := d.head_setHead h _
  have first : d.Frame y [.heads] [] := Dev.setHead_frame ..
  clear_value y
  cases io with
  | true =>
    have off := y.setFlag_frame .GLB_HEAD_LINK_IDE_IO h false
    have raised := (y.setFlag .GLB_HEAD_LINK_IDE_IO h false).raise_frame 72 { a := h }
    exact ⟨(raised.reg .GLB_HEAD_LINK_IDE_IO h).trans (Dev.reg_setReg ..), (raised.head h).trans ((off.head h).trans head),
      .step (.step (.mono first) off) raised⟩
  | false =>
    have off := y.setFlag_frame .GLB_HEAD_LINK_IDE_MEM h false
    have raised := (y.setFlag .GLB_HEAD_LINK_IDE_MEM h false).raise_frame 72 { a := h }
    exact ⟨(raised.reg .GLB_HEAD_LINK_IDE_MEM h).trans (Dev.reg_setReg ..), (raised.head h).trans ((off.head h).trans head),
      .step (.step (.mono first) off) raised⟩

/-- Settles O16. -/
theorem headLinkCommandsTakeEffect : Obligations.HeadLinkCommandsTakeEffect := by
  refine ⟨fun s h rate width cxl ll rev ha hl hp hw hmax hr1 hr6 hu => ?_, fun s h ha hh hw => ?_, fun s h ha hh hi => ?_,
    fun s h ha hh hi => ?_⟩
  · obtain ⟨c, hc⟩ : ∃ c, c = (cxl && decide (3 ≤ rate)) := ⟨_, rfl⟩
    obtain ⟨x, hx⟩ : ∃ x, x = s.stamped.retrained h rate c := ⟨_, rfl⟩
    obtain ⟨flit, hf⟩ : ∃ n, n = if !c then 0 else if rate < 6 then 1 else if ll then 3 else 2 := ⟨_, rfl⟩
    obtain ⟨y, hy⟩ : ∃ y, y = x.linkShown h rate width flit c rev := ⟨_, rfl⟩
    obtain ⟨state, again, first⟩ := hx ▸ s.stamped.retrained_spec h rate c
    obtain ⟨shownW, shownR, shownC, trained, live, second⟩ := hy ▸ x.linkShown_spec h rate width flit c rev
    have last := y.headService_frame h 5 true
    have fits : width % 2 ^ 5 = width ∧ width ≠ 0 := by
      simp only [List.mem_cons, List.not_mem_nil, or_false] at hw
      omega
    have up : y.reg .GLB_HEAD_LINK_WIDTH h ≠ 0 := by rw [shownW, fits.1]; exact fits.2
    obtain ⟨serves, degraded⟩ := y.headService_spec h 5 up
    have going : y.ustate (headIx h) ∉ [.draining, .quiesced] := by
      rw [second.ustate]
      rcases state with e | e
      · rw [e]
        decide
      · rw [e]
        intro m
        simp only [List.mem_cons, List.not_mem_nil, or_false] at hu m
        rcases m with m | m <;> rw [show s.stamped.ustate (headIx h) = s.dev.ustate (headIx h) from rfl] at m <;> rw [m] at hu <;>
          simp at hu
    have guard : (s.stamped.headLive h && !(s.stamped.head h).perst && decide (width ∈ [1, 2, 4, 8, 16]) &&
        decide (width ≤ if s.stamped.pin.headMode then 8 else 16) && decide (1 ≤ rate) && decide (rate ≤ 6) &&
        decide (s.stamped.ustate (headIx h) ∈ [.off, .starting, .online, .degraded, .draining, .quiesced, .failed])) = true := by
      have listed : s.stamped.ustate (headIx h) ∈ [.off, .starting, .online, .degraded, .draining, .quiesced, .failed] :=
        (by decide : [.off, .starting, .online, .degraded, .failed] ⊆
          [UState.off, .starting, .online, .degraded, .draining, .quiesced, .failed]) hu
      rw [hl, show (s.stamped.head h).perst = false from hp, decide_eq_true hw,
        decide_eq_true (show width ≤ if s.stamped.pin.headMode then 8 else 16 from hmax), decide_eq_true hr1, decide_eq_true hr6,
        decide_eq_true listed]
      rfl
    obtain ⟨e, run, watch⟩ : ∃ e, exec (.linkUp h rate width cxl ll rev) s = .next { s with dev := e } ∧
        (y.headService h 5).Frame e [.regs, .evt, .out] evtFields := by
      refine show ∃ e, execLinkUp h rate width cxl ll rev s = .next _ ∧ _ from State.onHealth_to ha ((if_pos guard).trans ?_)
      subst hy hx hf hc
      exact if_neg going
    have cfg : y.flag .GLB_HEAD_LINK_CXL h = c := by
      rw [Dev.flag, shownC]
      cases c <;> rfl
    refine ⟨e, run, ?_, ?_, ?_, ?_, fun off => ?_, ?_, fun only on => ?_, ((first.step (second.mono : Dev.Frame _ _ linkParts linkFields)).step last |>.step
      watch).changesOnly⟩
    · rw [watch.reg .GLB_HEAD_LINK_WIDTH h, last.reg .GLB_HEAD_LINK_WIDTH h, shownW, fits.1]
    · rw [watch.reg .GLB_HEAD_LINK_RATE h, last.reg .GLB_HEAD_LINK_RATE h, shownR]
      exact Nat.mod_eq_of_lt (by omega)
    · rw [watch.reg .GLB_HEAD_LINK_CXL h, last.reg .GLB_HEAD_LINK_CXL h, shownC, hc]
    · rw [Dev.serves, watch.ustate]
      exact serves
    · exact (watch.ustate _).trans (degraded (cfg.trans (hc.trans off)))
    · rw [watch.head, last.head]
      exact trained
    · obtain ⟨counted, none⟩ := again only (hc.trans on)
      refine ⟨(watch.reg .GLB_HEAD_LINK_DOWN_COUNT h).trans ((last.reg .GLB_HEAD_LINK_DOWN_COUNT h).trans
        ((second.reg .GLB_HEAD_LINK_DOWN_COUNT h).trans counted)), ?_⟩
      rw [watch.head, last.head, live]
      exact none
  · have guard : (decide (h < s.stamped.headCount) && decide (s.stamped.reg .GLB_HEAD_LINK_WIDTH h ≠ 0)) = true :=
      Bool.and_eq_true_iff.mpr ⟨decide_eq_true hh, decide_eq_true hw⟩
    obtain ⟨width, cxl, counted, head, off, frame⟩ := s.stamped.linkLost_spec h
    obtain ⟨e, run, watch⟩ : ∃ e, execLinkLoss h s = .next { s with dev := e } ∧ _ := State.onHealth_to ha (if_pos guard)
    exact ⟨e, run, (watch.reg .GLB_HEAD_LINK_WIDTH h).trans width, (watch.reg .GLB_HEAD_LINK_CXL h).trans cxl,
      (watch.reg .GLB_HEAD_LINK_DOWN_COUNT h).trans counted, congrArg HeadS.live ((watch.head h).trans head),
      fun on => (watch.ustate _).trans (off on), (frame.step watch).changesOnly⟩
  · have guard : (decide (h < s.stamped.headCount) && (s.stamped.head h).memIde.secure) = true :=
      Bool.and_eq_true_iff.mpr ⟨decide_eq_true hh, hi⟩
    obtain ⟨reg, failed, first⟩ := s.stamped.ideFailed_spec h false
    obtain ⟨width, -, -, head, -, lost⟩ := (s.stamped.ideFailed h false).linkLost_spec h
    obtain ⟨e, run, watch⟩ : ∃ e, execIdeIntegrityFailure h false s = .next { s with dev := e } ∧ _ :=
      State.onHealth_to ha (if_pos guard)
    have same := (watch.head h).trans head
    refine ⟨e, run, ?_, ?_, (watch.reg .GLB_HEAD_LINK_WIDTH h).trans width, congrArg HeadS.live same, ?_,
      ((first.step lost).step watch).changesOnly⟩
    · rw [same, failed]
      rfl
    · exact (watch.reg .GLB_HEAD_LINK_IDE_MEM h).trans ((lost.reg .GLB_HEAD_LINK_IDE_MEM h).trans reg)
    · rw [same, failed]
      rfl
  · have guard : (decide (h < s.stamped.headCount) && (s.stamped.head h).ioIde.secure) = true :=
      Bool.and_eq_true_iff.mpr ⟨decide_eq_true hh, hi⟩
    obtain ⟨reg, failed, first⟩ := s.stamped.ideFailed_spec h true
    obtain ⟨width, -, -, head, -, lost⟩ := (s.stamped.ideFailed h true).linkLost_spec h
    obtain ⟨e, run, watch⟩ : ∃ e, execIdeIntegrityFailure h true s = .next { s with dev := e } ∧ _ :=
      State.onHealth_to ha (if_pos guard)
    have same := (watch.head h).trans head
    refine ⟨e, run, ?_, ?_, (watch.reg .GLB_HEAD_LINK_WIDTH h).trans width, congrArg HeadS.live same, ?_,
      ((first.step lost).step watch).changesOnly⟩
    · rw [same, failed]
      rfl
    · exact (watch.reg .GLB_HEAD_LINK_IDE_IO h).trans ((lost.reg .GLB_HEAD_LINK_IDE_IO h).trans reg)
    · rw [same, failed]
      rfl

end Sys2Proof.Machine
end

section
/-!
O9: the triggers of the quench (R258, R263, R397, R435).
-/
-- Checked one after another: side by side, each waiting for the kernel, the proofs need more threads than the memory admits.
set_option Elab.async false
namespace Sys2Proof.Machine

section
variable (d : Dev)

/-- A quench that begins shows FREEZE, its trigger and its instant, and keeps its ending (R263, R264). -/
theorem Dev.beginQuench_spec {code : Nat} (ending : Nat) (small : code < 8) :
    (d.beginQuench code ending).QuenchBegun code ending d.now ∧ (d.beginQuench code ending).rst = { d.rst with core := .none } := by
  unfold Dev.beginQuench
  extract_lets +onlyGivenNames id _ _ q shown timed noted
  have raised : timed.Frame noted [.regs, .evt, .jrn, .out] evtFields :=
    .step (.step (.refl _) (Dev.journal_frame ..)) (Dev.raise_frame ..)
  have rest := Dev.Frame.step (ps := [.regs, .evt, .jrn, .med, .cry, .out]) (fs := evtFields.append [.CRY_RHs_CNT_ABANDONS,
      .DRT_CULLET_CNT_ABANDONED, .DRT_CULLET_CNT_TGT_RETIRED, .GLB_WEAR_STAT_DEBT])
    (.step (raised.mono) (Dev.abandonSteps_frame _ fun _ => true)) (Dev.abandonWork_frame _)
  have qch : timed.qch = q.qch := rfl
  have hq := (rest.parts .qch (by decide)).trans qch
  have counted : (shown.setReg .JRN_QLAST_T_Q 0 shown.now).Frame timed [.regs] [.JRN_DSC_QUENCHES] := Dev.setReg_frame ..
  have late : shown.Frame timed [.regs] [.JRN_QLAST_T_Q, .JRN_DSC_QUENCHES] := .step ((shown.setReg_frame ..).mono) counted
  refine ⟨⟨?_, ?_, ?_, congrArg QuenchS.trigger hq, congrArg QuenchS.ending hq, congrArg QuenchS.tq hq⟩,
    (rest.parts .rst (by decide)).trans rfl⟩
  · refine (rest.reg .JRN_STATUS_QSTATE 0).trans ((late.reg .JRN_STATUS_QSTATE 0).trans ?_)
    exact ((Dev.setReg_frame ..).reg .JRN_STATUS_QSTATE 0).trans (Dev.reg_setReg ..)
  · refine (rest.reg .JRN_STATUS_TRIGGER 0).trans ((late.reg .JRN_STATUS_TRIGGER 0).trans ((Dev.reg_setReg ..).trans ?_))
    exact Nat.mod_eq_of_lt (lt_of_lt_of_le small (by decide))
  · exact (rest.reg .JRN_QLAST_T_Q 0).trans ((counted.reg .JRN_QLAST_T_Q 0).trans (Dev.reg_setReg ..))

/-- A device that runs: Memory Active, and no quench. -/
def Dev.Serving : Prop := d.memActive = true ∧ d.reg .JRN_STATUS_QSTATE = 0

variable {d} {e : Dev} {ps : List Part} {fs : List Fld}

theorem Dev.Frame.serving (h : d.Frame e ps fs) (hd : d.Serving) (hf : Fld.GLB_STATUS_MEM_ACTIVE ∉ fs := by decide)
    (hq : Fld.JRN_STATUS_QSTATE ∉ fs := by decide) (hc : .cfg ∉ ps := by decide) : e.Serving :=
  ⟨(h.flag .GLB_STATUS_MEM_ACTIVE 0 hf hc).trans hd.1, (h.reg .JRN_STATUS_QSTATE 0 hq hc).trans hd.2⟩

/-- The parts that a quench's begin may change. -/
def quenchParts : List Part := [.regs, .evt, .rst, .jrn, .med, .qch, .cry, .out]

/-- The fields of the causes of a reset. -/
def noteFields : List Fld := [.RST_CAUSE_POR, .RST_CAUSE_SEQ, .RST_CAUSE_RESET_N, .RST_CAUSE_FATAL, .RST_CAUSE_CMD_SYS, .RST_CAUSE_WDT,
  .RST_CAUSE_CMD_CORE, .RST_CAUSE_LAST_LEVEL, .RST_CAUSE_LAST_SRC]

/-- The fields that a quench's begin may change. -/
def quenchFields : List Fld := evtFields.append (noteFields.append [.JRN_STATUS_QSTATE, .JRN_STATUS_TRIGGER, .JRN_QLAST_T_Q,
  .JRN_DSC_QUENCHES, .CRY_RHs_CNT_ABANDONS, .DRT_CULLET_CNT_ABANDONED, .DRT_CULLET_CNT_TGT_RETIRED, .GLB_WEAR_STAT_DEBT])

/-- A noted reset shows its cause (R398). -/
theorem Dev.noteReset_cause (level b : Nat) : (d.noteReset level b).reg (causeField b) = 1 := by
  have other : causeField b ≠ .RST_CAUSE_LAST_LEVEL ∧ causeField b ≠ .RST_CAUSE_LAST_SRC := by
    unfold causeField
    split <;> decide
  have wide : 1 % 2 ^ (causeField b).info.width = 1 := by
    unfold causeField
    split <;> decide
  refine (Dev.reg_setReg_ne _ _ (.inl other.2.symm)).trans ((Dev.reg_setReg_ne _ _ (.inl other.1.symm)).trans ?_)
  exact (Dev.reg_setReg ..).trans wide

/-- A source of a system reset quenches a device that serves (R397). -/
theorem Dev.systemSource_of_serving (h : d.Serving) (none : d.rst.core = .none) (b iface : Nat) :
    (d.systemSource b iface).QuenchBegun 7 3 d.now ∧ (d.systemSource b iface).reg (causeField b) = 1 ∧
      (d.systemSource b iface).rst.reload = d.rst.reload ∧ (d.systemSource b iface).rst.pend = d.rst.pend ∧
      d.Frame (d.systemSource b iface) quenchParts quenchFields := by
  unfold Dev.systemSource
  extract_lets +onlyGivenNames _ _ x q
  have noted : d.Frame x [.regs, .rst] noteFields := .update ((d.noteReset_frame 1 b).mono)
  have serving := noted.serving h
  have begun := x.beginQuench_spec 3 (code := 7) (by decide)
  have frame := x.beginQuench_frame 7 3
  have hold : ¬ x.rst.core = .hold := by
    rw [show x.rst.core = .none from none]
    decide
  rw [if_neg (not_not.2 serving.2), if_pos serving.1, if_neg hold]
  dsimp only
  refine ⟨noted.now ▸ begun.1, ?_, (congrArg RstS.reload begun.2).trans rfl, (congrArg RstS.pend begun.2).trans rfl,
    .step (noted.mono) frame⟩
  have cause : x.reg (causeField b) = 1 := d.noteReset_cause 1 b
  refine (frame.reg (causeField b) 0 ?_).trans cause
  unfold causeField
  split <;> decide

/-- A trigger in a device that serves begins a quench with the ending of its row (R263). -/
theorem Dev.trigger_of_serving (h : d.Serving) {code : Nat} (small : code < 8) :
    (d.trigger code).QuenchBegun code (endingOf code) d.now ∧ d.Frame (d.trigger code) quenchParts quenchFields := by
  have begins : d.trigger code = d.beginQuench code (endingOf code) := (if_neg (not_not.2 h.2)).trans (if_pos h.1)
  rw [begins]
  exact ⟨(d.beginQuench_spec _ small).1, (d.beginQuench_frame ..).mono⟩

/-- The same from a state that runs, of which no field has changed that says so. -/
theorem State.trigger_after {s : State} (h : s.Running) (k : s.stamped.Frame e ps fs) {code : Nat} (small : code < 8)
    (hf : Fld.GLB_STATUS_MEM_ACTIVE ∉ fs := by decide) (hq : Fld.JRN_STATUS_QSTATE ∉ fs := by decide) (hc : .cfg ∉ ps := by decide) :
    (e.trigger code).QuenchBegun code (endingOf code) s.tb ∧ e.Frame (e.trigger code) quenchParts quenchFields :=
  have begun := Dev.trigger_of_serving (k.serving ⟨h.2.1, h.2.2.1⟩ hf hq hc) small
  ⟨(show e.now = s.tb from k.now) ▸ begun.1, begun.2⟩

theorem State.systemSource_after {s : State} (h : s.Running) (k : s.stamped.Frame e ps fs) (none : e.rst.core = .none) (b iface : Nat)
    (hf : Fld.GLB_STATUS_MEM_ACTIVE ∉ fs := by decide) (hq : Fld.JRN_STATUS_QSTATE ∉ fs := by decide) (hc : .cfg ∉ ps := by decide) :
    (e.systemSource b iface).QuenchBegun 7 3 s.tb ∧ (e.systemSource b iface).reg (causeField b) = 1 ∧
      (e.systemSource b iface).rst.reload = e.rst.reload ∧ (e.systemSource b iface).rst.pend = e.rst.pend ∧
      e.Frame (e.systemSource b iface) quenchParts quenchFields :=
  have begun := Dev.systemSource_of_serving (k.serving ⟨h.2.1, h.2.2.1⟩ hf hq hc) none b iface
  ⟨(show e.now = s.tb from k.now) ▸ begun.1, begun.2⟩
end

/-- A rail that fails by low voltage is held, by another fault cut (R358). -/
def Dev.railFails (d : Dev) (r : Nat) (k : RailKind) : Dev :=
  if k = .uv then
    { (d.setReg .PWR_RAILr_STAT_STATE r 3) with pwr := { d.pwr with railHeld := setInsert d.pwr.railHeld r } }
  else d.cutRail r 3

theorem Dev.railFails_spec (d : Dev) (r : Nat) (k : RailKind) : (d.railFails r k).railState r = 3 ∧
    (k = .uv → r ∈ (d.railFails r k).pwr.railHeld) ∧ d.Frame (d.railFails r k)
      [.regs, .ust, .evt, .pmc, .pwr, .jrn, .heads, .slices, .tier, .poison, .med, .shadow, .qen, .tal, .per, .cry, .out, .freeCtr]
      (serviceFields.append [.PWR_RAILr_STAT_STATE, .PWR_PD_ON, .PWR_PD_FAULT_OFF, .PWR_MPG_MPEN]) := by
  unfold Dev.railFails
  split
  · exact ⟨Dev.reg_setReg .., fun _ => mem_setInsert.2 (.inl rfl), .update ((Dev.setReg_frame ..).mono)⟩
  · next other => exact ⟨d.cutRail_railState r 3, fun e => absurd e other, (d.cutRail_frame r 3).mono⟩

/-- Settles O9: from a device that serves each trigger reaches `Dev.beginQuench` under its own code and ending (R263). -/
theorem triggersBeginTheQuench : Obligations.TriggersBeginTheQuench := by
  unfold Obligations.TriggersBeginTheQuench
  refine ⟨fun s h => ?_, fun s mv h => ?_, fun s mv h good => ?_, fun s r k mv i h hr state => ?_, fun s h => ?_,
    fun s p t h relocking late => ?_, fun s h => ?_, fun s p h keep pend system => ?_⟩
  · have low : s.stamped.Frame { s.stamped with pin := { s.stamped.pin with pwrfailN := false } } [.pin] [] := .update (.refl _)
    obtain ⟨begun, frame⟩ := State.trigger_after h low (code := 1) (by decide)
    exact ⟨_, show execPwrfailNLow s = _ from State.on_to h.1 rfl, begun, congrArg PinS.pwrfailN (frame.parts .pin (by decide))⟩
  · have low : s.stamped.Frame _ [.regs] [.PWR_SUPPLY_VIN12_MV, .PWR_SUPPLY_VIN_GOOD] :=
      .step ((Dev.setReg_frame _ .PWR_SUPPLY_VIN12_MV 0 mv).mono) (Dev.setFlag_frame _ .PWR_SUPPLY_VIN_GOOD 0 false)
    obtain ⟨begun, frame⟩ := State.trigger_after h low (code := 2) (by decide)
    exact ⟨_, show execVin12Low mv s = _ from State.on_to h.1 rfl, begun, (frame.reg .PWR_SUPPLY_VIN_GOOD 0).trans (Dev.reg_setReg ..)⟩
  · have low : s.stamped.Frame _ [.regs] [.PWR_SUPPLY_VAUX3_MV, .PWR_SUPPLY_VAUX_GOOD] :=
      .step ((Dev.setReg_frame _ .PWR_SUPPLY_VAUX3_MV 0 mv).mono) (Dev.setFlag_frame _ .PWR_SUPPLY_VAUX_GOOD 0 false)
    have carried : s.stamped.Frame _ [.regs] [.PWR_SUPPLY_VAUX3_MV, .PWR_SUPPLY_VAUX_GOOD, .PWR_SUPPLY_AON_FROM_VIN] :=
      .step (low.mono) (Dev.setFlag_frame _ .PWR_SUPPLY_AON_FROM_VIN 0 true)
    obtain ⟨begun, frame⟩ := State.trigger_after h carried (code := 3) (by decide)
    refine ⟨_, show execVaux3Low mv s = _ from State.on_to h.1 (if_pos ((low.flag .PWR_SUPPLY_VIN_GOOD 0).trans good)), begun,
      (frame.parts .aon (by decide)).trans ((carried.parts .aon (by decide)).trans h.1), ?_⟩
    exact (frame.reg .PWR_SUPPLY_AON_FROM_VIN 0).trans (Dev.reg_setReg ..)
  · have guard : (decide (r < 9) && decide (s.stamped.railState r = 2)) = true := by
      rw [decide_eq_true hr, decide_eq_true (show s.stamped.railState r = 2 from state)]
      rfl
    obtain ⟨x, hx⟩ : ∃ x, x = (((s.stamped.countExcursion r k).setReg .PWR_RAILr_STAT_MV r mv).setReg .PWR_RAILr_STAT_CURRENT r i).raise 9
        { a := r, b := mv, c := railThreshold r k 8 } := ⟨_, rfl⟩
    have shown : s.stamped.Frame x [.regs, .evt, .out] (evtFields.append [.PWR_RAILr_CNT_UV, .PWR_RAILr_CNT_OV, .PWR_RAILr_CNT_OC,
        .PWR_RAILr_STAT_MV, .PWR_RAILr_STAT_CURRENT]) :=
      hx ▸ .step (.step (.step ((Dev.countExcursion_frame ..).mono) (Dev.setReg_frame ..)) (Dev.setReg_frame ..)) (Dev.raise_frame ..)
    obtain ⟨failed, held, fails⟩ := x.railFails_spec r k
    obtain ⟨begun, frame⟩ := Dev.trigger_of_serving (fails.serving (shown.serving ⟨h.2.1, h.2.2.1⟩)) (code := 4) (by decide)
    have now : (x.railFails r k).now = s.tb := fails.now.trans shown.now
    exact ⟨_, show execRailFault r k mv i s = _ from (State.on_when h.1 guard).trans (hx ▸ rfl), now ▸ begun,
      (frame.reg .PWR_RAILr_STAT_STATE r).trans failed, fun e => (congrArg PwrS.railHeld (frame.parts .pwr (by decide))) ▸ held e⟩
  · have raised : s.stamped.Frame _ [.regs, .ust, .evt, .out] evtFields :=
      .step (e := { s.stamped with ust := { s.stamped.ust with fatals := satAdd 8 s.stamped.ust.fatals 1 } })
        (.update (.refl _)) (Dev.raise_frame _ 963 {})
    obtain ⟨begun, cause, -, -, frame⟩ := State.systemSource_after h raised
      ((congrArg RstS.core (raised.parts .rst (by decide))).trans h.2.2.2) 3 0
    refine ⟨_, show execFatalError s = _ from State.on_to h.1 rfl, begun, cause, ?_⟩
    exact (congrArg UstS.fatals (frame.parts .ust (by decide))).trans
      (congrArg UstS.fatals ((Dev.raise_frame _ 963 {}).parts .ust (by decide)))
  · have ended : s.stamped.Frame { s.stamped with clk := { s.stamped.clk with relocking := s.stamped.clk.relocking.del p } } [.clk] [] :=
      .update (.refl _)
    obtain ⟨x, hx⟩ : ∃ x : Dev, x = { s.stamped with clk := { s.stamped.clk with relocking := s.stamped.clk.relocking.del p } } :=
      ⟨_, rfl⟩
    rw [← hx] at ended
    have raised : s.stamped.Frame _ [.regs, .ust, .evt, .clk, .out] evtFields :=
      .step (e := { x with ust := { x.ust with fatals := satAdd 8 x.ust.fatals 1 } })
        (.update (ended.mono)) (Dev.raise_frame _ 963 {})
    obtain ⟨begun, cause, -, -, frame⟩ := State.systemSource_after h raised
      ((congrArg RstS.core (raised.parts .rst (by decide))).trans h.2.2.2) 3 0
    refine ⟨_, show execPllRelockTimeout p s = _ from State.on_to h.1 (d := x.fatal) ?_, begun, ?_, cause⟩
    · show (match s.dev.clk.relocking.find p with | some t => _ | none => _) = _
      rw [relocking, hx]
      exact if_pos (decide_eq_true (show t + 100000 ≤ s.tb from late))
    · have clk : (x.fatal).clk = x.clk := (frame.parts .clk (by decide)).trans ((Dev.raise_frame _ 963 {}).parts .clk (by decide))
      rw [clk, hx]
      exact AMap.find_del ..
  · have low : s.stamped.Frame { s.stamped with pin := { s.stamped.pin with resetN := false } } [.pin] [] := .update (.refl _)
    have counted : s.stamped.Frame _ [.regs, .pin] [.RST_COUNT_RESET_N] := .step (low.mono) (Dev.count_frame _ .RST_COUNT_RESET_N 0 1)
    obtain ⟨begun, cause, -, -, frame⟩ := State.systemSource_after h counted h.2.2.2 2 0
    exact ⟨_, show execResetNAssert s = _ from State.on_to h.1 rfl, begun, congrArg PinS.resetN (frame.parts .pin (by decide)), cause,
      low.counted frame⟩
  · have taken : s.stamped.Frame { s.stamped with rst := { s.stamped.rst with pend := none } } [.rst] [] := .update (.refl _)
    obtain ⟨begun, cause, reload, gone, frame⟩ := State.systemSource_after h taken h.2.2.2 4 p.iface
    refine ⟨_, show execResetTakesEffect s = _ from State.onPower_to h.1 ?_ (reload.trans keep), begun, gone, cause⟩
    show (match s.dev.rst.pend with | some p => _ | none => _) = _
    rw [pend]
    exact if_pos system

end Sys2Proof.Machine
end

section
/-!
O17: the core reset and the release of RESET_N (R261, R384, R388, R397, R399).
-/
-- Checked one after another: side by side, each waiting for the kernel, the proofs need more threads than the memory admits.
set_option Elab.async false
namespace Sys2Proof.Machine

theorem not_mem_levelFields {l : Level} {f : Fld} (h : l.clears f = false) : f ∉ levelFields l := fun m => by
  rw [levelFields, List.mem_filter, h] at m
  exact absurd m.2 (by decide)

/-- What an asserted core reset shows and counts. -/
def assertFields : List Fld := evtFields.append
  [.JRN_STATUS_HOLDUP_OK, .JRN_STATUS_THROUGH_ALL, .DRT_STACKd_STAT_SELF_REFRESH, .RST_COUNT_CORE, .IMG_STATUS_STAGE_STATE]

/-- The fields that an asserted core reset changes. -/
def coreFields : List Fld := assertFields ++ levelFields .core

theorem not_mem_coreFields {f : Fld} (h : Level.core.clears f = false) (k : f ∉ assertFields := by decide) : f ∉ coreFields :=
  fun m => (List.mem_append.mp m).elim k (not_mem_levelFields h)

section
variable (d : Dev)

/-- A cleared core has empty tracking tables and ingress queues (R384). -/
theorem Dev.clearCore_empty : ∀ e ∈ d.clearCore.slices, e.2.tt = [] ∧ e.2.ingress = [] := by
  unfold Dev.clearCore
  dsimp only
  intro e he
  obtain ⟨a, -, rfl⟩ := List.mem_map.mp he
  exact ⟨rfl, rfl⟩

/-- The stacks enter self-refresh and HOLDUP_OK falls before the core is cleared. -/
def Dev.coreQuiesced : Dev := (d.setHoldup false).selfRefresh true

theorem Dev.coreQuiesced_frame : d.Frame d.coreQuiesced [.regs, .evt, .out]
    (evtFields.append [.JRN_STATUS_HOLDUP_OK, .JRN_STATUS_THROUGH_ALL, .DRT_STACKd_STAT_SELF_REFRESH]) :=
  .step (.mono (d.setHoldup_frame false)) (Dev.selfRefresh_frame ..)

/-- An asserted core reset: the slices are empty, firmware reloads, and the reset is counted (R384 steps 2 and 3). -/
theorem Dev.assertCore_spec : d.assertCore.mgt.fwDown = true ∧ (∀ e ∈ d.assertCore.slices, e.2.tt = [] ∧ e.2.ingress = []) ∧
    d.Counted d.assertCore .RST_COUNT_CORE 0 1 ∧
    d.Frame d.assertCore [.regs, .evt, .boot, .mgt, .pmc, .slices, .med, .tal, .cry, .out] coreFields := by
  have shown : d.assertCore = { (d.coreQuiesced.count .RST_COUNT_CORE).clearCore.clearRegs .core with
      mgt := { ((d.coreQuiesced.count .RST_COUNT_CORE).clearCore.clearRegs .core).mgt with fwDown := true } } := rfl
  have core := (d.coreQuiesced.count .RST_COUNT_CORE).clearCore_frame
  have cleared := (d.coreQuiesced.count .RST_COUNT_CORE).clearCore.clearRegs_frame .core
  have empty := (d.coreQuiesced.count .RST_COUNT_CORE).clearCore_empty
  rw [← cleared.parts .slices (by decide)] at empty
  have counted := (core.mono (by decide) (by simp)).step cleared (ps := [.regs, .boot, .mgt, .pmc, .slices, .med, .tal, .cry])
    (fs := .IMG_STATUS_STAGE_STATE :: levelFields .core) (by decide) (List.subset_cons_self _ _)
  have quiet := d.coreQuiesced_frame
  rw [shown]
  generalize (d.coreQuiesced.count .RST_COUNT_CORE).clearCore.clearRegs .core = y at *
  have asserted : (d.coreQuiesced.count .RST_COUNT_CORE).Frame { y with mgt := { y.mgt with fwDown := true } }
      [.regs, .boot, .mgt, .pmc, .slices, .med, .tal, .cry] (.IMG_STATUS_STAGE_STATE :: levelFields .core) := .update counted
  have kept : Fld.RST_COUNT_CORE ∉ Fld.IMG_STATUS_STAGE_STATE :: levelFields .core :=
    fun m => (List.mem_cons.mp m).elim (by decide) (not_mem_levelFields rfl)
  refine ⟨rfl, empty, quiet.counted asserted (hg := kept), ?_⟩
  have before : d.Frame (d.coreQuiesced.count .RST_COUNT_CORE) [.regs, .evt, .out] assertFields :=
    .step (quiet.mono) (Dev.count_frame ..)
  refine (before.mono (qs := [.regs, .evt, .out]) (by decide) (List.subset_append_left _ _)).step asserted (by decide) fun f m => ?_
  exact List.mem_append.mpr ((List.mem_cons.mp m).imp (fun e => by rw [e]; decide) id)
end

/-- A core reset that begins drains from its instant, with its cause noted (R261, R398). -/
theorem Dev.coreReset_spec (d : Dev) (b : Nat) (none : d.rst.core = .none) (quiet : d.reg .JRN_STATUS_QSTATE = 0) :
    (d.coreReset b).rst = { d.rst with core := .draining, coreSince := d.now } ∧ (d.coreReset b).reg (causeField b) = 1 ∧
      (d.coreReset b).reg .RST_CAUSE_LAST_LEVEL = 2 := by
  have noted := d.noteReset_frame 2 b
  have rst : (d.noteReset 2 b).rst = d.rst := noted.parts .rst (by decide)
  have begins : d.coreReset b = { d.noteReset 2 b with rst := { (d.noteReset 2 b).rst with core := .draining, coreSince := (d.noteReset 2 b).now } } := by
    refine if_neg ?_
    rw [rst, none, noted.reg .JRN_STATUS_QSTATE 0, quiet]
    decide
  rw [begins]
  refine ⟨?_, d.noteReset_cause 2 b, ?_⟩
  · rw [← rst, ← noted.now]
  · exact (Dev.reg_setReg_ne _ _ (.inl (by decide))).trans (Dev.reg_setReg ..)

/-- The drain of a core reset ends: what is not finished is taken down for its replay, the journal is flushed, and the hold begins. -/
def Dev.endCoreDrain (d : Dev) : Dev :=
  let d := { d with qch := { d.qch with pendings := [] } }
  let d := d.takePendings
  let d := if d.memActive && d.canGather then d.flushJournal else d
  { d.assertCore with rst := { d.rst with core := .hold, coreSince := d.now } }

theorem Dev.endCoreDrain_spec (d : Dev) : d.endCoreDrain.rst.core = .hold ∧ d.endCoreDrain.rst.coreSince = d.now ∧
    d.endCoreDrain.mgt.fwDown = true ∧ (∀ e ∈ d.endCoreDrain.slices, e.2.tt = [] ∧ e.2.ingress = []) ∧
    d.Counted d.endCoreDrain .RST_COUNT_CORE 0 1 ∧ d.endCoreDrain.cfg = d.cfg ∧ d.endCoreDrain.qen = d.qen ∧
    d.endCoreDrain.poison = d.poison := by
  unfold Dev.endCoreDrain
  extract_lets +onlyGivenNames _ x y z
  have taken : d.Frame x [.qch] [] := .update (.refl d)
  have down : d.Frame y [.jrn, .slices, .med, .tal, .per, .qch] [] := .step (taken.mono) x.takePendings_frame
  have drained : d.Frame z [.regs, .evt, .jrn, .slices, .tier, .med, .tal, .per, .qch, .out]
      (evtFields.append [.DRT_LEHR_CNT_RD_BANDS, .DRT_LEHR_CNT_URG_BANDS, .JRN_STATUS_RETAINED]) :=
    .ite (fun _ => .step (down.mono) y.flushJournal_frame) fun _ => down.mono
  obtain ⟨fwDown, empty, counted, frame⟩ := z.assertCore_spec
  generalize z.assertCore = e at *
  refine ⟨rfl, drained.now, fwDown, empty, ?_, (frame.cfg).trans (drained.cfg), ?_, ?_⟩
  · exact Eq.trans counted (by rw [drained.reg .RST_COUNT_CORE 0])
  · exact (show e.qen = z.qen from frame.parts .qen (by decide)).trans (drained.parts .qen (by decide))
  · exact (show e.poison = z.poison from frame.parts .poison (by decide)).trans (drained.parts .poison (by decide))

/-- A watchdog that expires is restarted, the third reset within ten minutes falls back to the other firmware, and a core reset
begins (R388, R443). -/
def Dev.watchdogBites (d : Dev) : Dev :=
  let hits := d.now :: d.mgt.fwWdtResets.filter (fun t => tenMinutes t = tenMinutes d.now)
  let d := { d with rst := { d.rst with kickAt := d.now }, mgt := { d.mgt with fwWdtResets := hits } }
  let d := if 3 ≤ hits.length then d.fwFallback else d
  d.coreReset 5

theorem Dev.watchdogBites_spec (d : Dev) (none : d.rst.core = .none) (quiet : d.reg .JRN_STATUS_QSTATE = 0) :
    d.watchdogBites.rst.core = .draining ∧ d.watchdogBites.rst.coreSince = d.now ∧ d.watchdogBites.reg .RST_CAUSE_WDT = 1 ∧
      d.watchdogBites.reg .RST_CAUSE_LAST_LEVEL = 2 ∧ d.ChangesOnly d.watchdogBites [.evt, .mgt, .out, .regs, .rst] := by
  unfold Dev.watchdogBites
  extract_lets +onlyGivenNames hits _ _ x y
  have kicked : d.Frame x [.rst, .mgt] [] := .update (.refl d)
  have back : x.Frame y [.regs, .mgt, .evt, .out] (evtFields.append [.MGT_STATUS_FALLBACK]) :=
    .ite (fun _ => x.fwFallback_frame.mono) fun _ => .refl x
  have frame : d.Frame y [.regs, .rst, .mgt, .evt, .out] (evtFields.append [.MGT_STATUS_FALLBACK]) := .step (kicked.mono) back
  have same : y.rst.core = .none := (congrArg RstS.core (back.parts .rst (by decide))).trans none
  obtain ⟨rst, cause, level⟩ := y.coreReset_spec 5 same ((frame.reg .JRN_STATUS_QSTATE 0).trans quiet)
  refine ⟨congrArg RstS.core rst, (congrArg RstS.coreSince rst).trans frame.now, cause, level, ?_⟩
  exact (Dev.Frame.step (ps := [.evt, .mgt, .out, .regs, .rst]) (frame.mono (by decide) (List.subset_append_left _ noteFields))
    (y.coreReset_frame 5) (by decide) (List.subset_append_right ..)).changesOnly

/-- The hold of a core reset ends: what was taken down is entered again (R384). -/
def Dev.endCoreHold (d : Dev) : Dev :=
  let ps := d.qch.pendings
  let d := { d with rst := { d.rst with core := .none }, qch := { d.qch with pendings := [] } }
  d.releaseCore.reenter ps

theorem Dev.endCoreHold_spec (d : Dev) : d.endCoreHold.rst.core = .none ∧ d.endCoreHold.qch.pendings = [] := by
  unfold Dev.endCoreHold
  extract_lets +onlyGivenNames ps _ _ x
  have released := x.releaseCore_frame
  have entered := x.releaseCore.reenter_frame ps
  generalize x.releaseCore.reenter ps = e at *
  generalize x.releaseCore = y at *
  exact ⟨congrArg RstS.core ((show e.rst = y.rst from entered.parts .rst (by decide)).trans (released.parts .rst (by decide))),
    congrArg QuenchS.pendings ((show e.qch = y.qch from entered.parts .qch (by decide)).trans (released.parts .qch (by decide)))⟩

/-- The pin of the reset input is none that a step drives. -/
theorem Dev.markStep_resetN (d : Dev) (n : Nat) (hold : Bool) : (d.markStep n hold).pin.resetN = d.pin.resetN := by
  unfold Dev.markStep Dev.sqHold
  dsimp only
  split <;> rfl

/-- Step 4 of the boot begins anew: clocks and domains are set up, and nothing of the reset state changes (R364). -/
theorem Dev.enterUp_four (d : Dev) : (d.enterUp 4).step = 4 ∧ (d.enterUp 4).pwr.stepAt = d.now ∧ (d.enterUp 4).rst = d.rst ∧
    (d.enterUp 4).pin.resetN = d.pin.resetN := by
  have marked := d.markStep_frame 4 true
  obtain ⟨-, pwr⟩ := d.markStep_spec 4 true
  have up : (d.markStep 4 true).Frame (d.enterUp 4) (.clk :: serviceParts) (serviceFields.append [.CLK_SRC_SEL_PLL_REF, .CLK_STATUS_TB_COARSE,
      .CLK_SRC_READY_LOCK, .CLK_STATUS_SWITCHING, .CLK_SRC_SEL_WCLK_SOSC, .PWR_PD_ON, .PWR_PD_FAULT_OFF]) := by
    refine .servedMore (.servedMore (.servedMore ?_ (Dev.enablePd_frame ..)) (Dev.enablePd_frame ..)) (Dev.enablePd_frame ..)
    exact .ite (fun _ => .mono (Dev.bootClocks_frame _)) fun _ => .refl _
  refine ⟨(d.enterUp_spec (by decide)).1, (congrArg PwrS.stepAt (up.parts .pwr (by decide))).trans (congrArg PwrS.stepAt pwr), ?_, ?_⟩
  · exact (show _ = (d.markStep 4 true).rst from up.parts .rst (by decide)).trans (marked.parts .rst (by decide))
  · exact (congrArg PinS.resetN (up.parts .pin (by decide))).trans (d.markStep_resetN 4 true)

/-- Settles O17. The drain's end goes by `Dev.assertCore`, the hold's end by the release and the replay of what was taken down. -/
theorem coreResetRunsItsPhases : Obligations.CoreResetRunsItsPhases := by
  unfold Obligations.CoreResetRunsItsPhases
  refine ⟨fun s ha => ?_, fun s h runs past => ?_, fun s p h keep pend level => ?_, fun s ha core ends => ?_, fun s ha core quiet => ?_,
    fun s ha held away => ?_, fun s ha held here => ?_, fun s ha held => ?_⟩
  · have kicked : s.stamped.Frame s.stamped.kickWatchdog [.mgt, .rst] [] := by
      unfold Dev.kickWatchdog
      exact .update (.refl _)
    exact ⟨_, show execWatchdogKick s = _ from State.on_aon ha _, rfl, rfl, kicked.changesOnly⟩
  · have guard : (s.stamped.wdtRuns && decide (s.stamped.rst.kickAt + s.stamped.reg .RST_WDT_PERIOD_MS * 1000000 ≤ s.stamped.now)) = true := by
      have period : s.stamped.reg .RST_WDT_PERIOD_MS = s.dev.reg .RST_WDT_PERIOD_MS := rfl
      have kick : s.stamped.rst.kickAt = s.dev.rst.kickAt := rfl
      have now : s.stamped.now = s.tb := rfl
      rw [runs, period, kick, now, decide_eq_true past]
      rfl
    exact ⟨_, show execWatchdogExpiry s = _ from State.on_when (f := Dev.watchdogBites) h.1 guard,
      s.stamped.watchdogBites_spec h.2.2.2 h.2.2.1⟩
  · have taken : s.stamped.Frame { s.stamped with rst := { s.stamped.rst with pend := none } } [.rst] [] := .update (.refl _)
    obtain ⟨rst, cause, -⟩ := Dev.coreReset_spec { s.stamped with rst := { s.stamped.rst with pend := none } } 6 h.2.2.2 h.2.2.1
    refine ⟨_, show execResetTakesEffect s = _ from State.onPower_to h.1 ?_ ((congrArg RstS.reload rst).trans keep),
      congrArg RstS.core rst, congrArg RstS.pend rst, cause, (Dev.Frame.step (ps := [.regs, .rst]) (fs := noteFields) taken.mono (Dev.coreReset_frame _ 6)).changesOnly⟩
    show (match s.dev.rst.pend with | some p => _ | none => _) = _
    rw [pend]
    exact if_neg level
  · have guard : (decide (s.stamped.rst.core = .draining) && (s.stamped.drained || decide (s.stamped.rst.coreSince + 100000 ≤ s.stamped.now)))
        = true := by
      rw [decide_eq_true (show s.stamped.rst.core = .draining from core), Bool.true_and, Bool.or_eq_true, decide_eq_true_eq]
      exact ends
    exact ⟨_, show execCoreResetDrainEnd s = _ from State.on_when (f := Dev.endCoreDrain) ha guard, s.stamped.endCoreDrain_spec⟩
  · have guard : (decide (s.stamped.rst.core = .hold) && decide (s.stamped.reg .JRN_STATUS_QSTATE = 0)) = true := by
      rw [decide_eq_true (show s.stamped.rst.core = .hold from core), decide_eq_true (show s.stamped.reg .JRN_STATUS_QSTATE = 0 from quiet)]
      rfl
    obtain ⟨e, he, watched⟩ := State.onHealth_to ha (f := fun d => d.when (d.rst.core = .hold && d.reg .JRN_STATUS_QSTATE = 0)
      Dev.endCoreHold) (if_pos guard)
    obtain ⟨none, gone⟩ := s.stamped.endCoreHold_spec
    exact ⟨e, show execCoreResetHoldEnd s = _ from he, (congrArg RstS.core (watched.parts .rst (by decide))).trans none,
      (congrArg QuenchS.pendings (watched.parts .qch (by decide))).trans gone⟩
  · refine ⟨_, show execResetNRelease s = _ from State.on_to ha ((if_pos (show s.stamped.rst.held = true from held)).trans (if_neg away)),
      rfl, rfl, ?_⟩
    have released : s.stamped.Frame { s.stamped with pin := { s.stamped.pin with resetN := true }, rst := { s.stamped.rst with held := false } }
        [.pin, .rst] [] := .update (.refl _)
    exact released.changesOnly
  · refine ⟨_, show execResetNRelease s = _ from State.on_to ha ((if_pos (show s.stamped.rst.held = true from held)).trans (if_pos here)), ?_⟩
    obtain ⟨step, at', rst, pin⟩ := 
      Dev.enterUp_four { s.stamped with pin := { s.stamped.pin with resetN := true }, rst := { s.stamped.rst with held := false } }
    exact ⟨congrArg RstS.held rst, pin, step, at'⟩
  · have stays : ¬ s.stamped.rst.held = true := Bool.eq_false_iff.mp held
    show execResetNRelease s = _
    rw [execResetNRelease, State.on_aon ha]
    exact (congrArg (fun d => Host.Outcome.next { s with dev := d }) (if_neg stays))

end Sys2Proof.Machine
end

section
/-!
O18: the quench from its drain to its ending, and the restart that follows (R264 to R270, R475).
-/
-- Checked one after another: side by side, each waiting for the kernel, the proofs need more threads than the memory admits.
set_option Elab.async false
namespace Sys2Proof.Machine

/-- A flag that is set reads set. -/
theorem Dev.flag_setFlag_true (d : Dev) (f : Fld) (i : Nat) (hf : 1 ≤ f.info.width := by decide) : (d.setFlag f i true).flag f i = true := by
  rw [Dev.flag, d.reg_setFlag f i true hf]
  rfl

section
variable (d : Dev)

/-- The image of the quench under way takes what is stored of it; the others stay. -/
theorem Dev.setImage_all {f : QImage → QImage} {P : QImage → Prop} (h : ∀ i, P (f i)) :
    ∀ i ∈ (d.setImage f).qch.images, i.id = (d.setImage f).qch.id → P i := by
  intro i hi own
  obtain ⟨a, -, rfl⟩ := List.mem_map.mp hi
  have own : (if a.id = d.qch.id then f a else a).id = d.qch.id := own
  show P (if a.id = d.qch.id then f a else a)
  split at own
  · next e => exact if_pos e ▸ h a
  · next ne => exact absurd own ne

theorem Dev.saveMeta_all : ∀ i ∈ d.saveMeta.qch.images, i.id = d.saveMeta.qch.id → i.qmeta.isSome = true := by
  unfold Dev.saveMeta
  split
  extract_lets saved
  exact Dev.setImage_all (P := fun i => i.qmeta.isSome = true) _ fun _ => rfl

/-- What changes of the quench state is the list of its images. -/
def Dev.ImagesOnly (d e : Dev) : Prop := ∃ l, e.qch = { d.qch with images := l }

theorem Dev.setImage_images (f : QImage → QImage) : d.ImagesOnly (d.setImage f) := ⟨_, rfl⟩

theorem Dev.supersede_images : d.ImagesOnly d.supersede := by
  unfold Dev.supersede
  split
  · exact ⟨d.qch.images, rfl⟩
  · exact ⟨_, rfl⟩

theorem Dev.cutPages_images : d.ImagesOnly d.cutPages := by
  unfold Dev.cutPages
  split
  · exact ⟨d.qch.images, rfl⟩
  · exact ⟨_, rfl⟩

/-- A system reset keeps that the quench under way found no gather band. -/
theorem Dev.clearSystem_noGather : d.clearSystem.qch.noGather = d.qch.noGather := by
  unfold Dev.clearSystem
  extract_lets x y marks z w dead persist
  have core : x.qch.noGather = d.qch.noGather := by
    obtain ⟨l, hl⟩ := d.clearCore.cutPages_images
    have cleared : d.clearCore.qch = d.qch := d.clearCore_frame.parts .qch (by decide)
    have same := congrArg QuenchS.noGather hl
    rw [show x.qch.noGather = d.clearCore.qch.noGather from same, cleared]
  have rest : x.Frame w [.regs, .mgt, .evt, .jrn, .med, .cry, .out, .slices, .per, .tier]
      (evtFields.append [.MGT_STATUS_FALLBACK, .DRT_CULLET_CNT_ABANDONED, .DRT_CULLET_CNT_TGT_RETIRED, .GLB_WEAR_STAT_DEBT]) := by
    refine .use y ?_ fun h => ?_
    · exact .ite (fun _ => .mono (Dev.setFlag_frame ..)) fun _ => .refl x
    refine .use z (.thenEach h fun d r => .mono (Dev.abandonRow_frame ..)) fun h => ?_
    exact .thenEach h fun d p => .mono (Dev.metaAgain_frame ..)
  exact (congrArg QuenchS.noGather (rest.parts .qch (by decide))).trans core

theorem Dev.systemReset_noGather : d.systemReset.qch.noGather = d.qch.noGather := by
  unfold Dev.systemReset
  extract_lets +onlyGivenNames x y low z
  have shown : d.Frame y [.regs] [.RST_COUNT_SYSTEM, .RST_CAUSE_LAST_LEVEL, .RST_CAUSE_LAST_SRC] :=
    .step (.step ((Dev.count_frame ..).mono) (Dev.setReg_frame ..)) (Dev.setReg_frame ..)
  have regs : (y.clearSystem.clearRegs .system).qch = y.clearSystem.qch := (y.clearSystem.clearRegs_frame .system).parts .qch (by decide)
  have off : z.qch = (y.clearSystem.clearRegs .system).qch := (Dev.unitsToOff_frame _).parts .qch (by decide)
  have kept : z.qch.noGather = d.qch.noGather :=
    ((congrArg QuenchS.noGather (off.trans regs)).trans y.clearSystem_noGather).trans
      (congrArg QuenchS.noGather (shown.parts .qch (by decide)))
  generalize z = w at kept
  extract_lets +onlyGivenNames _ _ v
  have vq : v.qch = w.qch := rfl
  split
  · exact (congrArg QuenchS.noGather (((v.markStep_frame 4 true).parts .qch (by decide)).trans vq)).trans kept
  · exact (congrArg QuenchS.noGather (((v.enterUp_frame 4).parts .qch (by decide)).trans vq)).trans kept

/-- A warm return shows QSTATE 7 and keeps the pins and the quench state (R269). -/
theorem Dev.enterWarm_spec : d.enterWarm.reg .JRN_STATUS_QSTATE = 7 ∧ d.enterWarm.pin = d.pin ∧ d.enterWarm.qch = d.qch := by
  have measured : d.Frame (d.measureC.setReg .JRN_STATUS_QSTATE 0 7) [.regs, .per]
      [.JRN_HOLDUP_C_MEASURED, .JRN_HOLDUP_C_EFF_PCT, .JRN_STATUS_QSTATE] := .step (d.measureC_frame.mono) (Dev.setReg_frame ..)
  have seven : (d.measureC.setReg .JRN_STATUS_QSTATE 0 7).reg .JRN_STATUS_QSTATE = 7 := Dev.reg_setReg ..
  obtain ⟨-, -, -, asserted⟩ := (d.measureC.setReg .JRN_STATUS_QSTATE 0 7).assertCore_spec
  have released := (d.measureC.setReg .JRN_STATUS_QSTATE 0 7).assertCore.releaseCore_frame
  unfold Dev.enterWarm
  generalize d.measureC.setReg .JRN_STATUS_QSTATE 0 7 = x at *
  generalize x.assertCore = y at *
  generalize y.releaseCore = z at *
  refine ⟨(released.reg .JRN_STATUS_QSTATE 0).trans ((asserted.reg .JRN_STATUS_QSTATE 0 (not_mem_coreFields rfl)).trans seven), ?_, ?_⟩
  · exact (released.parts .pin (by decide)).trans ((asserted.parts .pin (by decide)).trans (measured.parts .pin (by decide)))
  · exact (released.parts .qch (by decide)).trans ((asserted.parts .qch (by decide)).trans (measured.parts .qch (by decide)))

theorem Dev.goDown_qch : d.measureC.goDown.qch = d.qch :=
  (show _ = d.measureC.qch from d.measureC.goDown_frame.parts .qch (by decide)).trans (d.measureC_frame.parts .qch (by decide))

/-- The power-down of a quench shows QSTATE 8 and enters step 10 (R267, R366). -/
theorem Dev.goDown_spec : d.goDown.reg .JRN_STATUS_QSTATE = 8 ∧ d.goDown.step = 10 := by
  unfold Dev.goDown
  extract_lets +onlyGivenNames x _ y
  refine ⟨?_, y.enterDown_step (by decide)⟩
  exact ((y.enterDown_frame 10).reg .JRN_STATUS_QSTATE 0).trans (Dev.reg_setReg (f := .JRN_STATUS_QSTATE) (i := 0) (v := 8) ..)

theorem Dev.takeEnding_noGather : d.takeEnding.qch.noGather = d.qch.noGather := by
  unfold Dev.takeEnding
  split
  · exact d.systemReset_noGather
  split
  · exact congrArg QuenchS.noGather d.goDown_qch
  split
  · exact congrArg QuenchS.noGather d.enterWarm_spec.2.2
  split
  · exact congrArg QuenchS.noGather d.enterWarm_spec.2.2
  split
  · exact congrArg QuenchS.noGather d.goDown_qch
  · rfl

/-- The end of the drain (R264, R475). -/
theorem Dev.leaveFreeze_spec : d.leaveFreeze.reg .JRN_STATUS_QSTATE = 2 ∨ d.leaveFreeze.qch.noGather = true := by
  unfold Dev.leaveFreeze
  extract_lets x
  by_cases none : x.qch.noGather = true
  · rw [if_pos none]
    exact .inr (x.takeEnding_noGather.trans none)
  · rw [if_neg none]
    refine .inl ?_
    revert none
    unfold x Dev.endDrain
    extract_lets +onlyGivenNames a _ b c _ e all n img
    by_cases gather : (!c.canGather) = true
    · rw [if_pos gather]
      exact fun none => absurd rfl none
    · rw [if_neg gather]
      exact fun _ => Dev.reg_setReg ..

/-- The seal of a quench: it is noted with the voltage and the energy, and the ending is taken (R265). -/
def Dev.sealQuench (vBank eUsed : Nat) : Dev :=
  let d := d.quenchPrograms.setImage (fun i => { i with sealed := some d.now })
  let d := { d.supersede with qch := { d.supersede.qch with sealedId := some d.qch.id, vEnd := vBank, eUsed := eUsed } }
  let d := d.setReg .JRN_QDUR_TO_SEAL_US 0 (min ((d.now - d.qch.tq) / 1000) (2 ^ 20 - 1))
  let d := d.setReg .JRN_QDUR_PAGES 0 ((d.newImage.map (·.pages.length)).getD 0)
  d.setFlag .JRN_STATUS_RETAINED 0 true

theorem Dev.sealQuench_spec (v e : Nat) : d.Frame (d.sealQuench v e) [.regs, .med, .qch, .freeCtr]
      [.JRN_QDUR_TO_SEAL_US, .JRN_QDUR_PAGES, .JRN_STATUS_RETAINED] ∧
    ∃ l, (d.sealQuench v e).qch = { d.qch with images := l, sealedId := some d.qch.id, vEnd := v, eUsed := e } := by
  unfold Dev.sealQuench
  extract_lets +onlyGivenNames x _ _ y z w
  have programs := d.quenchPrograms_frame
  obtain ⟨l, hl⟩ : ∃ l, x.qch = { d.qch with images := l } :=
    ⟨_, congrArg (fun q : QuenchS => { q with images := x.qch.images }) (programs.parts .qch (by decide))⟩
  obtain ⟨m, hm⟩ := x.supersede_images
  have shown : y.Frame (w.setFlag .JRN_STATUS_RETAINED 0 true) [.regs] [.JRN_QDUR_TO_SEAL_US, .JRN_QDUR_PAGES, .JRN_STATUS_RETAINED] :=
    .step (.step ((Dev.setReg_frame ..).mono) (Dev.setReg_frame ..)) (Dev.setFlag_frame ..)
  refine ⟨?_, m, ?_⟩
  · exact .step (.update (.step (.step (programs.mono) (Dev.setImage_frame ..)) x.supersede_frame)) shown
  · refine (show _ = y.qch from shown.parts .qch (by decide)).trans ?_
    have sup : x.supersede.qch = { d.qch with images := m } := hm.trans (by rw [hl])
    have id : x.qch.id = d.qch.id := by rw [hl]
    show { x.supersede.qch with sealedId := some x.qch.id, vEnd := v, eUsed := e } = _
    rw [sup, id]
end

/-- The supply reads good, for as long as its input has been high. -/
def Dev.supplyShown (d : Dev) : Dev :=
  let d := { d with pin := { d.pin with pwrfailN := true, pwrfailHighAt := min d.pin.pwrfailHighAt (d.now - 10000000) } }
  d.setFlag .PWR_SUPPLY_VIN_GOOD 0 true

theorem Dev.supplyShown_spec (d : Dev) : d.Frame d.supplyShown [.regs, .pin] [.PWR_SUPPLY_VIN_GOOD] ∧
    d.supplyShown.pin = { d.pin with pwrfailN := true, pwrfailHighAt := min d.pin.pwrfailHighAt (d.now - 10000000) } ∧
    d.supplyShown.flag .PWR_SUPPLY_VIN_GOOD = true := by
  unfold Dev.supplyShown
  extract_lets +onlyGivenNames _ x
  exact ⟨.step (.update (.refl d)) (x.setFlag_frame .PWR_SUPPLY_VIN_GOOD 0 true), rfl, Dev.flag_setFlag_true ..⟩

/-- A command that writes a startup checkpoint raises the stamp ceiling (R258). -/
theorem State.onCheckpoint_to {s : State} (ha : s.dev.aon = true) {c : Dev → Bool} (hc : c s.stamped = true) (f : Dev → Dev) :
    s.onCheckpoint c f = .next { s with dev := f s.stamped, ceiling := max s.ceiling (s.tb + 30000000000) } := by
  unfold State.onCheckpoint
  rw [ha, hc]
  rfl

/-- Settles O18: each command moves JRN_STATUS.QSTATE to the next state, and the ending follows R267's rows. -/
theorem quenchPassesThroughItsStates : Obligations.QuenchPassesThroughItsStates := by
  unfold Obligations.QuenchPassesThroughItsStates
  have at' {d : Dev} {n : Nat} (h : d.reg .JRN_STATUS_QSTATE = n) : decide (d.reg .JRN_STATUS_QSTATE = n) = true := decide_eq_true h
  refine ⟨fun s ha freeze drained => ?_, fun s ha freeze late => ?_, fun s ha index => ?_, fun s ha pages => ?_, fun s ha metadata => ?_,
    fun s v e ha sealed gather down => ?_, fun s v e ha sealed gather supply reset low vin => ?_, fun s ha hold rails late reset => ?_,
    fun s ha warm => ?_, fun s ha step idle free image => ?_⟩
  · have guard : (decide (s.stamped.reg .JRN_STATUS_QSTATE = 1) && s.stamped.drained) = true := by
      rw [at' (show s.stamped.reg .JRN_STATUS_QSTATE = 1 from freeze), drained]
      rfl
    exact ⟨_, show execDrainComplete s = _ from State.on_when ha guard, Dev.leaveFreeze_spec _⟩
  · have guard : (decide (s.stamped.reg .JRN_STATUS_QSTATE = 1) && decide (s.stamped.qch.tq + 100000 ≤ s.stamped.now)) = true := by
      rw [at' (show s.stamped.reg .JRN_STATUS_QSTATE = 1 from freeze),
        decide_eq_true (show s.stamped.qch.tq + 100000 ≤ s.stamped.now from late)]
      rfl
    exact ⟨_, show execDrainTimeout s = _ from State.on_when ha guard, Dev.leaveFreeze_spec _⟩
  · have frame : s.stamped.Frame _ [.regs, .qch, .med, .freeCtr] [.JRN_STATUS_QSTATE] :=
      .step (.step (s.stamped.quenchPrograms_frame.mono) (Dev.setImage_frame _ fun i => { i with indexEnd := true }))
        (Dev.setReg_frame _ .JRN_STATUS_QSTATE 0 3)
    exact ⟨_, show execIndexVerified s = _ from State.on_when ha (at' index), Dev.reg_setReg ..,
      Dev.setImage_all _ (fun _ => rfl), frame.changesOnly, frame.fieldsOnly⟩
  · have frame : s.stamped.Frame _ [.regs, .qch, .med, .freeCtr] [.JRN_STATUS_QSTATE] :=
      .step (.step (s.stamped.quenchPrograms_frame.mono) (Dev.savePages_frame _)) (Dev.setReg_frame _ .JRN_STATUS_QSTATE 0 4)
    exact ⟨_, show execPagesVerified s = _ from State.on_when ha (at' pages), Dev.reg_setReg .., frame.changesOnly, frame.fieldsOnly⟩
  · have frame : s.stamped.Frame _ [.regs, .qch, .med, .cry, .freeCtr] [.JRN_STATUS_QSTATE] :=
      .step (.step (s.stamped.quenchPrograms_frame.mono) (Dev.saveMeta_frame _)) (Dev.setReg_frame _ .JRN_STATUS_QSTATE 0 5)
    have all := s.stamped.quenchPrograms.saveMeta_all
    refine ⟨_, show execMetadataVerified s = _ from State.on_when ha (at' metadata), Dev.reg_setReg .., ?_, frame.changesOnly,
      frame.fieldsOnly⟩
    rw [Dev.setReg_qch]
    exact all
  · have guard : (decide (s.stamped.reg .JRN_STATUS_QSTATE = 5) && !s.stamped.qch.noGather) = true := by
      rw [at' (show s.stamped.reg .JRN_STATUS_QSTATE = 5 from sealed), show s.stamped.qch.noGather = false from gather]
      rfl
    obtain ⟨frame, l, qch⟩ := s.stamped.sealQuench_spec v e
    refine ⟨(s.stamped.sealQuench v e).takeEnding, show execSealVerified v e s = _ from
      State.on_when (f := fun d => (d.sealQuench v e).takeEnding) ha guard, ?_⟩
    generalize s.stamped.sealQuench v e = x at *
    have ending : x.qch.ending = 0 := by rw [qch]; exact down
    have taken : x.takeEnding = x.measureC.goDown := by
      unfold Dev.takeEnding
      rw [if_neg (by simp [ending]), if_pos ending]
    rw [taken]
    obtain ⟨eight, ten⟩ := x.measureC.goDown_spec
    refine ⟨eight, ten, ?_⟩
    rw [x.goDown_qch, qch]
    exact ⟨rfl, rfl, rfl⟩
  · have guard : (decide (s.stamped.reg .JRN_STATUS_QSTATE = 5) && !s.stamped.qch.noGather) = true := by
      rw [at' (show s.stamped.reg .JRN_STATUS_QSTATE = 5 from sealed), show s.stamped.qch.noGather = false from gather]
      rfl
    obtain ⟨frame, l, qch⟩ := s.stamped.sealQuench_spec v e
    refine ⟨(s.stamped.sealQuench v e).takeEnding, show execSealVerified v e s = _ from
      State.on_when (f := fun d => (d.sealQuench v e).takeEnding) ha guard, ?_⟩
    generalize s.stamped.sealQuench v e = x at *
    have ending : x.qch.ending = 2 := by rw [qch]; exact supply
    have saw : x.qch.sawReset = false := by rw [qch]; exact reset
    have pin : x.pin.pwrfailN = false := (congrArg PinS.pwrfailN (frame.parts .pin (by decide))).trans low
    have good : x.flag .PWR_SUPPLY_VIN_GOOD = true := (frame.flag .PWR_SUPPLY_VIN_GOOD 0).trans vin
    have taken : x.takeEnding = x.setReg .JRN_STATUS_QSTATE 0 6 := by
      unfold Dev.takeEnding
      rw [if_neg (by simp [saw]), if_neg (by simp [ending]), if_neg (by simp [ending]), if_neg (by simp [Dev.supplyGood, pin]),
        if_neg (by simp [Dev.vinLow, good])]
    rw [taken]
    exact ⟨Dev.reg_setReg .., congrArg QuenchS.sealedId qch⟩
  · obtain ⟨x, hx⟩ : ∃ x : Dev, x = s.stamped.supplyShown := ⟨_, rfl⟩
    obtain ⟨frame, pin, vin⟩ := s.stamped.supplyShown_spec
    rw [← hx] at frame pin vin
    have rails' : x.railsUp = true := by
      rw [← rails]
      exact congrArg (fun g => (bootRails ++ coreRails).all g) (funext fun r => by rw [Dev.railState, frame.reg .PWR_RAILr_STAT_STATE r]; rfl)
    have good : x.supplyGood = true := by
      have past : x.pin.pwrfailHighAt + 10000000 ≤ x.now := by
        rw [pin, frame.now]
        show min _ (s.tb - 10000000) + 10000000 ≤ s.tb
        omega
      have high : x.pin.pwrfailN = true := by rw [pin]
      rw [Dev.supplyGood, high, decide_eq_true past, vin, rails']
      rfl
    have guard : (decide (x.reg .JRN_STATUS_QSTATE = 6) && x.supplyGood) = true := by
      rw [at' ((frame.reg .JRN_STATUS_QSTATE 0).trans hold), good]
      rfl
    have saw : ¬ x.qch.sawReset = true := by
      rw [show x.qch = s.stamped.qch from frame.parts .qch (by decide), show s.stamped.qch.sawReset = false from reset]
      decide
    obtain ⟨seven, same, -⟩ := x.enterWarm_spec
    refine ⟨x.enterWarm, show execSupplyGood s = _ from State.on_to ha ?_, seven, ?_⟩
    · show s.stamped.supplyShown.when (decide (s.stamped.supplyShown.reg .JRN_STATUS_QSTATE = 6) && s.stamped.supplyShown.supplyGood) _ = _
      rw [← hx]
      exact (if_pos guard).trans (if_neg saw)
    · rw [same, pin]
  · refine ⟨_, show execRestoreComplete s = _ from State.onCheckpoint_to ha (at' warm) _, ?_, rfl, le_max_right _ _⟩
    have zero : (s.stamped.restoreWarm.setReg .JRN_STATUS_QSTATE 0 0).reg .JRN_STATUS_QSTATE = 0 := Dev.reg_setReg ..
    show Dev.reg (Dev.startupCheckpoint _) _ = _
    generalize s.stamped.restoreWarm.setReg .JRN_STATUS_QSTATE 0 0 = x at *
    refine ((Dev.startupCheckpoint_frame _).reg .JRN_STATUS_QSTATE 0).trans (((Dev.spillOverwritten_frame _).reg .JRN_STATUS_QSTATE 0).trans ?_)
    exact ((x.setFlag_frame .JRN_STATUS_LAST_SEALED 0 (!x.qch.noGather)).reg .JRN_STATUS_QSTATE 0).trans zero
  · have guard : (decide (s.stamped.step = 9) && !s.stamped.memActive && !s.stamped.rst.held && s.stamped.cfg.isSome) = true := by
      rw [decide_eq_true (show s.stamped.step = 9 from step), show s.stamped.memActive = false from idle,
        show s.stamped.rst.held = false from free, show s.stamped.cfg.isSome = true from image]
      rfl
    refine ⟨_, show execMemoryActive s = _ from State.onCheckpoint_to ha guard _, ?_, rfl, le_max_right _ _⟩
    refine ((Dev.startupCheckpoint_frame _).flag .GLB_STATUS_MEM_ACTIVE 0).trans ?_
    exact ((Dev.watchHealth_evOnly ..).frame.flag .GLB_STATUS_MEM_ACTIVE 0).trans (Dev.flag_setFlag_true ..)

end Sys2Proof.Machine
end

section
/-!
Operations that write nothing of the journal but append records to it.
-/
-- Checked one after another: side by side, each waiting for the kernel, the proofs need more threads than the memory admits.
set_option Elab.async false
namespace Sys2Proof.Machine

/-- Of the journal state only records are added: what was flushed and mirrored stays. -/
def Dev.Appends (d e : Dev) : Prop :=
  d.jrn.next ≤ e.jrn.next ∧ e.jrn.flushedAt = d.jrn.flushedAt ∧ e.jrn.mirrored = d.jrn.mirrored

namespace Dev.Appends
variable {d e g : Dev}

theorem refl (d : Dev) : d.Appends d := ⟨le_refl _, rfl, rfl⟩

theorem step (h : d.Appends e) (k : e.Appends g) : d.Appends g :=
  ⟨h.1.trans k.1, k.2.1.trans h.2.1, k.2.2.trans h.2.2⟩

/-- An operation that leaves the journal as it is. -/
theorem of {ps : List Part} {fs : List Fld} (k : d.Frame e ps fs) (hp : .jrn ∉ ps := by decide) : d.Appends e := by
  have same : e.jrn = d.jrn := k.parts .jrn hp
  rw [Dev.Appends, same]
  exact ⟨le_refl _, rfl, rfl⟩

theorem thenEach {α : Type} {l : List α} {f : Dev → α → Dev} (h : d.Appends e) (k : ∀ d a, Dev.Appends d (f d a)) :
    d.Appends (e.each l f) := by
  induction l generalizing e with
  | nil => exact h
  | cons a l ih => exact ih (h.step (k e a))

theorem use (x : Dev) (h : d.Appends x) (k : d.Appends x → d.Appends g) : d.Appends g := k h

theorem of_pair {α : Type} {p : α × Dev} {a : α} {x g : Dev} (hx : p = (a, x)) (h : d.Appends p.2)
    (k : d.Appends x → d.Appends g) : d.Appends g := k (by rw [hx] at h; exact h)

theorem ite {c : Prop} [Decidable c] (h : c → d.Appends e) (k : ¬c → d.Appends g) : d.Appends (if c then e else g) := by
  split
  · exact h ‹_›
  · exact k ‹_›

/-- A record update that leaves the journal. -/
theorem update {x : Dev} (h : d.Appends e) (hx : x.jrn = e.jrn := by rfl) : d.Appends x := by
  rw [Dev.Appends, hx]
  exact h

end Dev.Appends

theorem Dev.journal_appends (d : Dev) (code a b c : Nat) : d.Appends (d.journal code a b c) := ⟨Nat.le_succ _, rfl, rfl⟩

theorem Dev.setUnit_appends (d : Dev) (ix : Nat) (st : UState) (cause : Nat) (hw : Bool) : d.Appends (d.setUnit ix st cause hw) := by
  unfold Dev.setUnit
  dsimp only
  split
  · exact .of (Dev.setUnitRec_frame ..)
  · exact .step (.step (.update (.refl _)) (Dev.journal_appends ..)) (.of (Dev.raise_frame ..))

theorem Dev.setMap_appends (d : Dev) (lpn : Nat) (e : Nat) (ver : Nat) : d.Appends (d.setMap lpn e ver) := by
  unfold Dev.setMap
  extract_lets +onlyGivenNames old m _ d
  refine .use d ?_ fun h => ?_
  · unfold d
    exact .update (.refl _)
  · exact .step (.step (h) (.of (Dev.mapTouch_frame ..))) (Dev.journal_appends ..)

theorem Dev.moveUnit_appends (d : Dev) (ix : Nat) (st : UState) (cause : Nat) (hw : Bool) : d.Appends (d.moveUnit ix st cause hw) := by
  unfold Dev.moveUnit
  exact .ite (fun _ => .refl _) fun _ => .step (.refl _) (Dev.setUnit_appends ..)

theorem Dev.openBand_appends (d : Dev) (stream : Nat) : d.Appends (d.openBand stream).2 := by
  unfold Dev.openBand
  split
  · dsimp only
    exact .refl _
  · split
    · dsimp only
      exact .thenEach (.refl _) fun d a => .step (.refl _) (.of (Dev.makeReady_frame ..))
    · dsimp only
      split
      · dsimp only
        exact .refl _
      · dsimp only
        refine .step ?_ (Dev.journal_appends ..)
        exact .thenEach (.update (.refl _)) fun d a => .step (.refl _) (.of (Dev.setBlock_frame ..))

theorem Dev.addToRow_appends (d : Dev) (stream : Nat) (p : RowPage) (avoid : Option Nat) : d.Appends (d.addToRow stream p avoid).2 := by
  unfold Dev.addToRow
  dsimp only
  split
  · dsimp only
    refine .ite (fun _ => ?_) fun _ => ?_
    · refine .step ?_ (.of (Dev.programRow_frame ..))
      refine .ite (fun _ => .step (.update (.refl _)) (.of (Dev.readSource_frame ..))) fun _ => ?_
      exact .ite (fun _ => .step (.update (.refl _)) (.of (Dev.readLeaf_frame ..))) fun _ => .update (.refl _)
    · refine .ite (fun _ => .step (.update (.refl _)) (.of (Dev.readSource_frame ..))) fun _ => ?_
      exact .ite (fun _ => .step (.update (.refl _)) (.of (Dev.readLeaf_frame ..))) fun _ => .update (.refl _)
  · split
    · dsimp only
      refine .ite (fun _ => ?_) fun _ => ?_
      · refine .step ?_ (.of (Dev.programRow_frame ..))
        refine .ite (fun _ => .step (.update (.refl _)) (.of (Dev.readSource_frame ..))) fun _ => ?_
        exact .ite (fun _ => .step (.update (.refl _)) (.of (Dev.readLeaf_frame ..))) fun _ => .update (.refl _)
      · refine .ite (fun _ => .step (.update (.refl _)) (.of (Dev.readSource_frame ..))) fun _ => ?_
        exact .ite (fun _ => .step (.update (.refl _)) (.of (Dev.readLeaf_frame ..))) fun _ => .update (.refl _)
    · split
      · dsimp only
        exact .refl _
      · split
        · rename_i x0 x1 hx
          refine .of_pair hx (.step (.refl _) (Dev.openBand_appends ..)) fun h => ?_
          dsimp only
          exact h
        · rename_i x0 x1 x2 hx
          refine .of_pair hx (.step (.refl _) (Dev.openBand_appends ..)) fun h => ?_
          dsimp only
          refine .ite (fun _ => ?_) fun _ => ?_
          · refine .step ?_ (.of (Dev.programRow_frame ..))
            refine .ite (fun _ => .step (.update (h)) (.of (Dev.readSource_frame ..))) fun _ => ?_
            exact .ite (fun _ => .step (.update (h)) (.of (Dev.readLeaf_frame ..))) fun _ => .update (h)
          · refine .ite (fun _ => .step (.update (h)) (.of (Dev.readSource_frame ..))) fun _ => ?_
            exact .ite (fun _ => .step (.update (h)) (.of (Dev.readLeaf_frame ..))) fun _ => .update (h)

theorem Dev.addMeta_appends (d : Dev) (key : Nat) (version : Nat) (entries : List (Nat × OrcStored)) (avoid : Option Nat) : d.Appends (d.addMeta key version entries avoid).2 := by
  unfold Dev.addMeta
  exact .step (.refl _) (Dev.addToRow_appends ..)

theorem Dev.copyPage_appends (d : Dev) (lpn : Nat) (src : Nat) (stream : Nat) : d.Appends (d.copyPage lpn src stream) := by
  unfold Dev.copyPage
  refine .ite (fun _ => .refl _) fun _ => ?_
  extract_lets +onlyGivenNames lines
  split
  · rename_i x0 x1 hx
    refine .of_pair hx (.step (.refl _) (Dev.addToRow_appends ..)) fun h => ?_
    exact h
  · rename_i x0 x1 hx
    refine .of_pair hx (.step (.refl _) (Dev.addToRow_appends ..)) fun h => ?_
    exact .ite (fun _ => .step (h) (Dev.addToRow_appends ..)) fun _ => .ite (fun _ => .step (h) (.of (Dev.setPdeg_frame ..))) fun _ => h

theorem Dev.regionHealth_appends (d : Dev) (n : Nat) : d.Appends (d.regionHealth n) := by
  unfold Dev.regionHealth
  exact .ite (fun _ => .refl _) fun _ => .step (.refl _) (Dev.moveUnit_appends ..)

theorem Dev.loseMedia_appends (d : Dev) (lpn : Nat) : d.Appends (d.loseMedia lpn) := by
  unfold Dev.loseMedia
  extract_lets +onlyGivenNames heads
  exact .step (.step (.refl _) (Dev.setMap_appends ..)) (.of (Dev.raise_frame ..))

theorem Dev.addOrcPage_appends (d : Dev) (k : Nat) (entries : List (Nat × OrcStored)) : d.Appends (d.addOrcPage k entries).2 := by
  unfold Dev.addOrcPage
  dsimp only
  split
  · dsimp only
    exact .step (.step (.step (.refl _) (Dev.addMeta_appends ..)) (Dev.addMeta_appends ..)) (.of (Dev.setOrc_frame ..))
  · dsimp only
    exact .refl _

theorem Dev.orphan_appends (d : Dev) (level : Nat) (index : Nat) (ki : Nat) (heads : Nat) : d.Appends (d.orphan level index ki heads) := by
  unfold Dev.orphan
  refine .ite (fun _ => .refl _) fun _ => ?_
  extract_lets +onlyGivenNames _ d
  refine .use d ?_ fun h => ?_
  · unfold d
    exact .update (.refl _)
  · extract_lets +onlyGivenNames d
    refine .use d ?_ fun h => ?_
    · unfold d
      exact .step (.step (h) (.of (Dev.count_frame ..))) (.of (Dev.raise_frame ..))
    · extract_lets +onlyGivenNames d
      refine .use d ?_ fun h => ?_
      · unfold d
        exact .thenEach (h) fun d a => .step (.refl _) (Dev.regionHealth_appends ..)
      · exact .ite (fun _ => .step (h) (.of (Dev.lockdown_frame ..))) fun _ => h

theorem Dev.loseOrcPage_appends (d : Dev) (key : Nat) : d.Appends (d.loseOrcPage key) := by
  unfold Dev.loseOrcPage
  extract_lets +onlyGivenNames first ks
  refine .ite (fun _ => ?_) fun _ => ?_
  · exact .step (.step (.refl _) (.of (Dev.count_frame ..))) (Dev.addOrcPage_appends ..)
  · extract_lets +onlyGivenNames d
    refine .use d ?_ fun h => ?_
    · unfold d
      exact .thenEach (.refl _) fun d a => .step (.refl _) (Dev.orphan_appends ..)
    · refine .ite (fun _ => ?_) fun _ => h
      exact .step (.step (h) (.of (Dev.count_frame ..))) (Dev.addOrcPage_appends ..)

theorem Dev.loseRow_appends (d : Dev) (band : Nat) (row : Nat) : d.Appends (d.loseRow band row) := by
  unfold Dev.loseRow
  extract_lets +onlyGivenNames d
  refine .use d ?_ fun h => ?_
  · unfold d
    exact .thenEach (.refl _) fun d a => .step (.refl _) (Dev.loseMedia_appends ..)
  · extract_lets +onlyGivenNames gone _ d
    refine .use d ?_ fun h => ?_
    · unfold d
      exact .update (h)
    · exact .thenEach (h) fun d a => .step (.refl _) (Dev.loseOrcPage_appends ..)

theorem Dev.moveMeta_appends (d : Dev) (key : Nat) : d.Appends (d.moveMeta key) := by
  unfold Dev.moveMeta
  refine .ite (fun _ => .refl _) fun _ => ?_
  extract_lets +onlyGivenNames avoid v
  exact .step (.refl _) (Dev.addMeta_appends ..)

theorem Dev.copyPages_appends (d : Dev) (b : Nat) (stream : Nat) : d.Appends (d.copyPages b stream) := by
  unfold Dev.copyPages
  refine .thenEach (.thenEach (.refl _) fun d a => .step (.refl _) (Dev.copyPage_appends ..)) fun d a => ?_
  exact .step (.refl _) (Dev.moveMeta_appends ..)

theorem Dev.rebuildBand_appends (d : Dev) (n : Nat) : d.Appends (d.rebuildBand n) := by
  unfold Dev.rebuildBand
  split
  · exact .refl _
  · refine .ite (fun _ => ?_) fun _ => .step (.refl _) (Dev.copyPages_appends ..)
    exact .thenEach (.refl _) fun d a => .step (.refl _) (Dev.loseRow_appends ..)

theorem Dev.rebuild_appends (d : Dev) : d.Appends d.rebuild := by
  unfold Dev.rebuild
  extract_lets +onlyGivenNames bs first rest d
  refine .use d ?_ fun h => ?_
  · unfold d
    exact .thenEach (.refl _) fun d a => .step (.refl _) (Dev.rebuildBand_appends ..)
  · exact .thenEach (h) fun d a => .ite (fun _ => .refl _) fun _ => .step (.refl _) (.of (Dev.setPkg_frame ..))

theorem Dev.drainBand_appends (d : Dev) (b : Nat) (stream : Nat) : d.Appends (d.drainBand b stream) := by
  unfold Dev.drainBand
  split
  · exact .refl _
  · extract_lets +onlyGivenNames d
    refine .use d ?_ fun h => ?_
    · unfold d
      exact .step (.refl _) (.of (Dev.setBand_frame ..))
    · extract_lets +onlyGivenNames d
      refine .use d ?_ fun h => ?_
      · unfold d
        refine .thenEach (h) fun d a => ?_
        exact .ite (fun _ => .step (.refl _) (.of (Dev.setBlock_frame ..))) fun _ => .refl _
      · exact .step h (Dev.copyPages_appends ..)

theorem Dev.recopy_appends (d : Dev) : d.Appends d.recopy := by
  unfold Dev.recopy
  extract_lets +onlyGivenNames d
  refine .use d ?_ fun h => ?_
  · unfold d
    exact .thenEach (.refl _) fun d a => .step (.refl _) (Dev.copyPages_appends ..)
  · refine .thenEach (h) fun d a => ?_
    refine .ite (fun _ => ?_) fun _ => ?_
    · exact .ite (fun _ => .step (.refl _) (.of (Dev.gatherBack_frame ..))) fun _ => .step (.refl _) (Dev.copyPages_appends ..)
    · exact .ite (fun _ => .step (.refl _) (Dev.drainBand_appends ..)) fun _ => .refl _

theorem Dev.freeBand_appends (d : Dev) (b : Nat) : d.Appends (d.freeBand b) := by
  unfold Dev.freeBand
  split
  · exact .refl _
  · extract_lets +onlyGivenNames worn d
    refine .use d ?_ fun h => ?_
    · unfold d
      refine .thenEach (.refl _) fun d a => ?_
      extract_lets +onlyGivenNames y y
      refine .ite (fun _ => .refl _) fun _ => ?_
      exact .ite (fun _ => .step (.refl _) (.of (Dev.retireBlock_frame ..))) fun _ => .step (.refl _) (.of (Dev.setBlock_frame ..))
    · extract_lets +onlyGivenNames d
      refine .use d ?_ fun h => ?_
      · unfold d
        exact .ite (fun _ => .step (h) (.of (Dev.count_frame ..))) fun _ => h
      · extract_lets +onlyGivenNames d
        refine .use d ?_ fun h => ?_
        · unfold d
          exact .ite (fun _ => .step (h) (.of (Dev.count_frame ..))) fun _ => h
        · extract_lets +onlyGivenNames _ d
          refine .use d ?_ fun h => ?_
          · unfold d
            exact .update (h)
          · exact .step h (Dev.journal_appends ..)

theorem Dev.sweepVictims_appends (d : Dev) : d.Appends d.sweepVictims := by
  unfold Dev.sweepVictims
  extract_lets +onlyGivenNames vs
  exact .thenEach (.refl _) fun d a => .step (.refl _) (Dev.freeBand_appends ..)

/-- After a flush all that the journal held is mirrored, and the flush has its stamp (R255). -/
theorem Dev.flushJournal_spec (d : Dev) : d.flushJournal.jrn.flushedAt = d.now ∧ d.jrn.next ≤ d.flushJournal.jrn.mirrored := by
  unfold Dev.flushJournal
  extract_lets +onlyGivenNames landed x y
  have cleaned : d.Frame x [.tier, .qch, .per] [] :=
    .step (.thenEach (.refl _) fun d a => .mono (Dev.cleanPage_frame ..)) (Dev.trimClean_frame _)
  have swept : x.Appends y := x.sweepVictims_appends
  have same : x.jrn = d.jrn := cleaned.parts .jrn (by decide)
  have now : y.now = d.now := x.sweepVictims_frame.now.trans cleaned.now
  have pruned := Dev.pruneImages_frame { y with jrn := { y.jrn with mirrored := y.jrn.next, flushedAt := y.now } }
  have jrn := pruned.parts .jrn (by decide)
  refine ⟨(congrArg JrnS.flushedAt jrn).trans now, ?_⟩
  rw [congrArg JrnS.mirrored jrn, ← same]
  exact swept.1

end Sys2Proof.Machine
end

section
/-!
What operations put out: an output once put out stays, and the answer of a request that a head still waits for.
-/
-- Checked one after another: side by side, each waiting for the kernel, the proofs need more threads than the memory admits.
set_option Elab.async false
namespace Sys2Proof.Machine

section
variable {d e g : Dev} {ps : List Part} {fs : List Fld} {o : Output}

theorem Dev.Puts.after (k : d.Puts e o) (h : e.Frame g ps fs) : d.Puts g o := by
  obtain ⟨l, hl, mem⟩ := k
  obtain ⟨m, hm⟩ := h.out
  exact ⟨m ++ l, by rw [hm, hl, List.append_assoc], List.mem_append_right _ mem⟩

theorem Dev.Frame.puts (h : d.Frame e ps fs) (k : e.Puts g o) : d.Puts g o := by
  obtain ⟨l, hl, mem⟩ := k
  obtain ⟨m, hm⟩ := h.out
  exact ⟨l ++ m, by rw [hl, hm, List.append_assoc], List.mem_append_left _ mem⟩

theorem Dev.puts_emit (d : Dev) (o : Output) : d.Puts (d.emit o) o := ⟨[o], rfl, List.mem_singleton_self _⟩

/-- A request that its head waits for is answered, with the head's DevLoad, and waits no longer. -/
theorem Dev.answer_spec (d : Dev) (k : Nat) (r : Req) (cause : Nat) (data : Option Line) (poison : Bool)
    (live : ((d.head r.head).live.find r.rid).isSome = true) :
    d.Puts (d.answer k r cause data poison) (.mem r.head r.tag data poison (d.reg .GLB_HEAD_LOAD_DEVLOAD r.head)) ∧
      (d.answer k r cause data poison).head r.head = { d.head r.head with live := (d.head r.head).live.del r.rid } := by
  unfold Dev.answer
  extract_lets +onlyGivenNames h x
  split
  · next none => rw [none] at live; exact absurd live (by decide)
  · have gone : d.Frame x [.heads] [] := Dev.setHead_frame ..
    have counted : x.Frame ((x.account k r cause).sampleResponse r) [.regs, .evt, .pmc, .out, .freeCtr]
        (evtFields.append [.PMC_SNAPn_COUNT, .PMC_CTRn_COUNT, .GLB_LAT_MISSc_COUNT, .GLB_LAT_WORST_LATE_NS, .GLB_LAT_WORST_CAUSE,
          .PMC_SAMP_STAT_LOST, .PMC_SAMP_STAT_WPTR]) := .step (.mono (Dev.account_frame ..)) (Dev.sampleResponse_frame ..)
    have frame : d.Frame ((x.account k r cause).sampleResponse r) [.regs, .evt, .pmc, .heads, .out, .freeCtr]
        (evtFields.append [.PMC_SNAPn_COUNT, .PMC_CTRn_COUNT, .GLB_LAT_MISSc_COUNT, .GLB_LAT_WORST_LATE_NS, .GLB_LAT_WORST_CAUSE,
          .PMC_SAMP_STAT_LOST, .PMC_SAMP_STAT_WPTR]) := .step gone.mono counted
    unfold Dev.sendMem
    rw [frame.reg .GLB_HEAD_LOAD_DEVLOAD r.head]
    refine ⟨frame.puts (Dev.puts_emit ..), ?_⟩
    refine ((Dev.emit_frame ..).head r.head).trans ((counted.head r.head).trans ?_)
    exact Dev.head_setHead ..
end

section
variable (d : Dev)

@[simp] theorem Dev.slice_setSlice (k : Nat) (s : SliceS) : (d.setSlice k s).slice k = s := AMap.findD_put ..

theorem Dev.slice_setSlice_ne {k j : Nat} (s : SliceS) (h : k ≠ j) : (d.setSlice k s).slice j = d.slice j := AMap.findD_put_ne _ _ _ h

theorem Dev.Frame.slice {d e : Dev} {ps : List Part} {fs : List Fld} (h : d.Frame e ps fs) (k : Nat) (hp : .slices ∉ ps := by decide) :
    e.slice k = d.slice k := by
  rw [Dev.slice, h.parts .slices hp, Dev.slice]

theorem Dev.Frame.entry {d e : Dev} {ps : List Part} {fs : List Fld} (h : d.Frame e ps fs) (k n : Nat) (hp : .slices ∉ ps := by decide) :
    e.entry k n = d.entry k n := by
  rw [Dev.entry, h.slice k hp, Dev.entry]

@[simp] theorem Dev.entry_setEntry (k e : Nat) (t : TtEntry) : (d.setEntry k e t).entry k e = some t := by
  unfold Dev.setEntry Dev.entry
  rw [Dev.slice_setSlice]
  exact AMap.find_put ..

/-- A write whose completion waits no longer is answered as its entry settles (R105). -/
theorem Dev.settle_answers (k e : Nat) {t : TtEntry} (h : d.entry k e = some t) (acked : t.acked = true)
    (through : t.through = false) (sent : t.sent = false) (write : t.req.kind.isRead = false)
    (live : ((d.head t.req.head).live.find t.req.rid).isSome = true) :
    d.Puts (d.settle k e) (.mem t.req.head t.req.tag none false (d.reg .GLB_HEAD_LOAD_DEVLOAD t.req.head)) := by
  have due : (t.acked && !t.through && !t.sent && !t.req.kind.isRead) = true := by simp [acked, through, sent, write]
  unfold Dev.settle
  split
  · next none => rw [none] at h; exact absurd h (by simp)
  next t' ht =>
  obtain rfl : t' = t := Option.some.inj (ht.symm.trans h)
  generalize hq : (if t'.acked && !t'.through && !t'.sent && !t'.req.kind.isRead then _ else _) = q
  obtain ⟨x, u⟩ := q
  rw [if_pos due] at hq
  have answered : d.Puts x (.mem t'.req.head t'.req.tag none false (d.reg .GLB_HEAD_LOAD_DEVLOAD t'.req.head)) := by
    rw [← show _ = x from congrArg Prod.fst hq]
    exact (d.answer_spec k t'.req _ none false live).1.after (Dev.setEntry_frame ..)
  have rest : x.Frame (if u.state = .done && (u.sent || u.req.kind.isRead) then
      let s := x.slice k
      let d := (x.setSlice k { s with tt := s.tt.del e }).unlog k e
      if u.req.kind = .commitDoorbell then d.releaseDropped u.req.region else d else x)
      [.jrn, .slices, .tier, .poison, .med, .shadow, .per] [] := by
    have removed := Dev.Frame.step (ps := [.jrn, .slices, .tier, .poison, .med, .shadow, .per]) (fs := [])
      ((x.setSlice_frame k { x.slice k with tt := (x.slice k).tt.del e }).mono) (Dev.unlog_frame _ k e)
    exact .ite (fun _ => .ite (fun _ => .step removed (Dev.releaseDropped_frame ..)) fun _ => removed) fun _ => .refl x
  exact answered.after rest
end

end Sys2Proof.Machine
end

section
/-!
O19: housekeeping, journal flush, checkpoints, ceiling records, metering and through sheets (R105, R252 to R258).
-/
-- Checked one after another: side by side, each waiting for the kernel, the proofs need more threads than the memory admits.
set_option Elab.async false
namespace Sys2Proof.Machine

/-- A state that runs, as the model's own test has it. -/
theorem State.runs_of_running {s : State} (h : s.Running) : s.stamped.runs = true := by
  obtain ⟨-, active, quiet, none⟩ := h
  unfold Dev.runs
  rw [show s.stamped.memActive = true from active, decide_eq_true (show s.stamped.reg .JRN_STATUS_QSTATE = 0 from quiet),
    decide_eq_true (show s.stamped.rst.core = .none from none)]
  rfl

section
variable (d : Dev)

/-- A partition that waits takes of the configuration the tier section alone. -/
theorem Dev.settleTier_power {c : Cfg} (h : d.cfg = some c) : ∃ k, d.settleTier.cfg = some k ∧ k.power = c.power := by
  unfold Dev.settleTier
  split
  · next t c' _ hc =>
    obtain rfl : c' = c := Option.some.inj (hc.symm.trans h)
    extract_lets o clean freed grow tier _ x
    have put : x.cfg = some { c' with tier } := rfl
    split
    · exact ⟨_, put, rfl⟩
    · exact ⟨_, ((Dev.trimClean_frame x).parts .cfg (by decide)).trans put, rfl⟩
  · exact ⟨c, h, rfl⟩

/-- Metering appends three kinds of records to the journal and no more (R258). -/
def Dev.metered : Dev :=
  let d := d.journal 0x0C 0 d.med.credit.toNat (-d.med.credit).toNat
  let d := d.each d.med.pkgs.keys (fun d p => d.journal 0x0C 1 p (d.pkgDose p))
  d.each d.tal.sets (fun d e => d.journal 0x0C 2 e.1 e.2.snapId)

theorem Dev.metered_spec : d.Frame d.metered [.jrn] [] ∧ d.jrn.next < d.metered.jrn.next ∧ d.metered.jrn.mirrored = d.jrn.mirrored := by
  unfold Dev.metered
  extract_lets x y
  have frame : d.Frame x [.jrn] [] := Dev.journal_frame ..
  have rest : x.Appends (y.each y.tal.sets fun d e => d.journal 0x0C 2 e.1 e.2.snapId) :=
    .thenEach (.thenEach (.refl x) fun d p => d.journal_appends 0x0C 1 p (d.pkgDose p)) fun d e => d.journal_appends 0x0C 2 e.1 e.2.snapId
  refine ⟨.thenEach (.thenEach frame fun d p => d.journal_frame ..) fun d e => d.journal_frame .., ?_, rest.2.2⟩
  exact lt_of_lt_of_le (Nat.lt_succ_self d.jrn.next) rest.1
end

/-- A sheet that is issued keeps all but its dies. -/
theorem Dev.issueSheet_sheet (d : Dev) {n : Nat} {x : ThruSheet} (h : d.per.sheets.find n = some x) :
    ∃ y, (d.issueSheet n).per.sheets.find n = some y ∧ y = { x with dies := y.dies } := by
  unfold Dev.issueSheet
  split
  · next none => rw [none] at h; exact absurd h (by simp)
  next x' hx =>
  obtain rfl : x' = x := Option.some.inj (hx.symm.trans h)
  extract_lets ms
  split
  · exact ⟨x', h, rfl⟩
  · split
    next f w hw =>
    extract_lets +onlyGivenNames a rest dies ps _ _ z
    have put : z.per.sheets.find n = some { x' with dies } := AMap.find_put ..
    have sent : z.Frame (z.each dies fun d die => (d.suspendDie die true).goOn die) [.regs, .evt, .pmc, .med, .out, .freeCtr]
        (evtFields.append [.MCX_SCHED_CNT0_SUSPENDS, .PMC_SNAPn_COUNT, .PMC_CTRn_COUNT, .GLB_WEAR_STAT_DEBT]) :=
      .thenEach (.refl z) fun d die => .step (.mono (Dev.suspendDie_frame ..)) (Dev.goOn_frame ..)
    exact ⟨_, (congrArg (fun p : PerS => p.sheets.find n) (sent.parts .per (by decide))).trans put, rfl⟩

/-- A sheet that is written again keeps all but its dies, and the failure is counted (R256). -/
theorem Dev.rewriteSheet_spec (d : Dev) {n die : Nat} {x : ThruSheet} (h : d.per.sheets.find n = some x) (progr : x.programmed = false)
    (hd : die ∈ x.dies) : (∃ y, (d.rewriteSheet n die).per.sheets.find n = some y ∧ y = { x with dies := y.dies }) ∧
      d.Counted (d.rewriteSheet n die) .JRN_THRU_SHEET_FAIL 0 1 := by
  have open' : ¬ ((x.programmed || !x.dies.contains die) = true) := by simp [progr, hd]
  unfold Dev.rewriteSheet
  split
  · next none => rw [none] at h; exact absurd h (by simp)
  next x' hx =>
  obtain rfl : x' = x := Option.some.inj (hx.symm.trans h)
  rw [if_neg open']
  extract_lets +onlyGivenNames c _ _ y z
  have put : y.per.sheets.find n = some { x' with dies := [] } := AMap.find_put ..
  have marked : y.Frame z [.slices] [] := .thenEach (.refl y) fun d w => by
    split
    · exact Dev.setEntry_frame ..
    · exact .refl d
  have found : z.per.sheets.find n = some { x' with dies := [] } :=
    (congrArg (fun p : PerS => p.sheets.find n) (marked.parts .per (by decide))).trans put
  obtain ⟨w, hw, same⟩ := z.issueSheet_sheet found
  refine ⟨⟨w, hw, same⟩, ?_⟩
  have rest : (d.count .JRN_THRU_SHEET_FAIL).Frame (z.issueSheet n) [.regs, .evt, .pmc, .slices, .med, .per, .out, .freeCtr]
      (evtFields.append [.MCX_SCHED_CNT0_SUSPENDS, .PMC_SNAPn_COUNT, .PMC_CTRn_COUNT, .GLB_WEAR_STAT_DEBT]) := by
    refine .use y (.update (.refl _)) fun hy => ?_
    exact .step (.step hy marked) (z.issueSheet_frame n)
  exact (Dev.Frame.refl (ps := []) (fs := []) d).counted rest

theorem Dev.startupCheckpoint_stamp (d : Dev) : d.startupCheckpoint.jrn.startupAt = d.now :=
  (show d.startupCheckpoint.jrn.startupAt = d.startupCheckpoint.now from rfl).trans d.startupCheckpoint_frame.now

/-- A journal flush, and the upkeep that it gives occasion for (R255). -/
def Dev.flushed (d : Dev) : Dev :=
  ({ d with freeCtr := d.freeCtr + 1 }.flushJournal.rebuild.recopy.checkMigrated).judgeCapacity

theorem Dev.flushed_spec (d : Dev) : d.flushed.jrn.flushedAt = d.now ∧ d.jrn.next ≤ d.flushed.jrn.mirrored := by
  unfold Dev.flushed
  obtain ⟨stamp, mirrored⟩ := Dev.flushJournal_spec { d with freeCtr := d.freeCtr + 1 }
  generalize Dev.flushJournal _ = x at stamp mirrored
  obtain ⟨-, flushedAt, same⟩ : x.Appends x.rebuild.recopy.checkMigrated.judgeCapacity :=
    .step (.step (.step x.rebuild_appends x.rebuild.recopy_appends) (.of (Dev.checkMigrated_frame _))) (.of (Dev.judgeCapacity_frame _))
  rw [flushedAt, same]
  exact ⟨stamp, mirrored⟩

/-- A housekeeping round under the configuration `c` (R252, R253). -/
def Dev.housekept (d : Dev) (sense : Nat) (c : Cfg) : Dev :=
  let d := d.settleTier
  let c := d.cfg.getD c
  let bad := decide (sense < 50) || decide (1150 < sense)
  let d := if bad then d.raise 18 { b := sense } else d
  let samples := (sense * c.power.holdDiv / 100 :: d.per.samples).take 4
  let vb := samples.foldl min (samples.headD 0)
  let d := { d with per := { d.per with samples := samples } }
  let ea := if d.bankC c.power = 0 then 0 else availEnergy c.power.holdEff (d.bankC c.power) vb (c.power.holdVmin * 10)
  let raw := if ea = 0 then 0 else roundBound (energyBound ea d.onlinePackages.length)
  let good := decide (2 ^ 29 ≤ raw)
  let rounds := if good && !bad && c.power.holdC ≠ 0 then min 64 (d.reg .JRN_HOLDUP_ROUNDS + 1) else 0
  let low := if good then 0 else d.per.lowRounds + 1
  let d := { d with per := { d.per with lowRounds := low } }
  let d := d.setReg .JRN_HOLDUP_ROUNDS 0 rounds
  let d := if bad || c.power.holdC = 0 || (d.flag .JRN_STATUS_HOLDUP_OK && decide (2 ≤ low)) then d.setHoldup false
           else if rounds = 64 then d.setHoldup true else d
  let (j, d) := d.drawFree 252
  let d := (d.setReg .JRN_HOLDUP_V_BANK 0 (vb / 10)).setReg .JRN_HOLDUP_E_AVAIL 0 (ea / 10 ^ 10)
  let d := d.setReg .JRN_BUDGET_ENERGY 0 (if d.flag .JRN_STATUS_HOLDUP_OK then raw / 2 ^ 20 else 0)
  let d := d.setReg .JRN_BUDGET_GATHER 0 (roundBound (d.gatherBound (j % (2 ^ 31 + 1))) / 2 ^ 20)
  let img := c.tier.quenchMib / 64 * 64
  let d := d.setReg .JRN_BUDGET_EFFECTIVE 0 (min img (min (d.reg .JRN_BUDGET_ENERGY) (d.reg .JRN_BUDGET_GATHER)))
  d.judgePdeg.checkOverdue

/-- A housekeeping round, in a device that runs. -/
def Dev.housekeep (d : Dev) (sense : Nat) : Dev :=
  match d.cfg with
  | none => d
  | some c => d.when (d.memActive && d.reg .JRN_STATUS_QSTATE = 0 && d.rst.core = .none) fun d => d.housekept sense c

theorem Dev.housekept_spec (d : Dev) (v : Nat) {c : Cfg} (h : d.cfg = some c) :
    (d.housekept v c).per.samples = (v * c.power.holdDiv / 100 :: d.per.samples).take 4 ∧
      (d.housekept v c).reg .JRN_HOLDUP_V_BANK =
        (d.housekept v c).per.samples.foldl min ((d.housekept v c).per.samples.headD 0) / 10 % 2 ^ 16 := by
  obtain ⟨k, hk, power⟩ := d.settleTier_power h
  have settled : d.settleTier.per = d.per := d.settleTier_frame.parts .per (by decide)
  unfold Dev.housekept
  extract_lets +onlyGivenNames a c' bad b samples vb _ w ea raw good rounds low _ x y z img
  have named : c' = k := congrArg (fun o => Option.getD o c) hk
  have raised : b.per = d.per := by
    refine Eq.trans ?_ settled
    unfold b
    split
    · exact (a.raise_frame 18 { b := v }).parts .per (by decide)
    · rfl
  have taken : samples = (v * c.power.holdDiv / 100 :: d.per.samples).take 4 := by
    unfold samples
    rw [raised, named, power]
  have kept : x.per.samples = samples := rfl
  have shown : x.Frame z [.regs, .evt, .out] (evtFields.append [.JRN_HOLDUP_ROUNDS, .JRN_STATUS_HOLDUP_OK, .JRN_STATUS_THROUGH_ALL]) := by
    refine .use y (.mono (Dev.setReg_frame ..)) fun hy => ?_
    exact .ite (fun _ => .step hy (y.setHoldup_frame false)) fun _ => .ite (fun _ => .step hy (y.setHoldup_frame true)) fun _ => hy
  split
  next f u hu =>
  have drawn : z.Frame u [.freeCtr] [] := by
    have k := z.drawFree_frame 252
    rw [hu] at k
    exact k
  extract_lets +onlyGivenNames p q r t
  have bank : p.reg .JRN_HOLDUP_V_BANK = vb / 10 % 2 ^ 16 :=
    ((Dev.setReg_frame ..).reg .JRN_HOLDUP_V_BANK 0).trans (Dev.reg_setReg ..)
  have rest : p.Frame t.judgePdeg.checkOverdue [.regs, .evt, .med, .out] (evtFields.append [.DRT_PDEG_CAUSE, .DRT_PDEG_ACTIVE,
      .GLB_STATUS_PDEG, .JRN_BUDGET_ENERGY, .JRN_BUDGET_GATHER, .JRN_BUDGET_EFFECTIVE]) :=
    .step (.step (.step (.step (.mono (Dev.setReg_frame ..)) (Dev.setReg_frame ..)) (Dev.setReg_frame ..)) t.judgePdeg_frame)
      (Dev.checkOverdue_frame _)
  have all : x.Frame p [.regs, .evt, .out, .freeCtr] (evtFields.append [.JRN_HOLDUP_ROUNDS, .JRN_STATUS_HOLDUP_OK, .JRN_STATUS_THROUGH_ALL,
      .JRN_HOLDUP_V_BANK, .JRN_HOLDUP_E_AVAIL]) := .step (.step (.step shown.mono drawn) (Dev.setReg_frame ..)) (Dev.setReg_frame ..)
  have per : t.judgePdeg.checkOverdue.per.samples = samples :=
    (congrArg PerS.samples (rest.parts .per (by decide))).trans ((congrArg PerS.samples (all.parts .per (by decide))).trans kept)
  rw [per]
  exact ⟨taken, (rest.reg .JRN_HOLDUP_V_BANK 0).trans bank⟩

/-- A sheet that reads programmed answers the writes that wait for no more than it (R105, R256). -/
def Dev.sheetDone (d : Dev) (sheet : Nat) (x : ThruSheet) : Dev :=
  let d := { d with per := { d.per with sheets := d.per.sheets.put sheet { x with programmed := true, waiters := [] } } }
  d.each x.waiters (fun d w =>
    match d.entry w.1 w.2 with
    | some t =>
      let more := d.per.sheets.any (fun q => q.2.waiters.contains w) || (t.req.kind.merges && !t.applied)
      ((d.setEntry w.1 w.2 { t with through := more }).settle w.1 w.2).pump w.1
    | none => d)

/-- A write that waits for this sheet alone is answered. -/
theorem Dev.sheetDone_answers (d : Dev) {n k e : Nat} {x : ThruSheet} {t : TtEntry} (alone : d.per.sheets = [(n, x)])
    (waits : x.waiters = [(k, e)]) (h : d.entry k e = some t) (acked : t.acked = true) (sent : t.sent = false)
    (write : t.req.kind.isRead = false) (merges : t.req.kind.merges = true → t.applied = true)
    (live : ((d.head t.req.head).live.find t.req.rid).isSome = true) :
    d.Puts (d.sheetDone n x) (.mem t.req.head t.req.tag none false (d.reg .GLB_HEAD_LOAD_DEVLOAD t.req.head)) := by
  unfold Dev.sheetDone
  rw [waits]
  extract_lets +onlyGivenNames _ y
  have noted : d.Frame y [.per] [] := .update (.refl d)
  have unheld : y.per.sheets.any (fun q => q.2.waiters.contains (k, e)) = false := by
    show (d.per.sheets.put n { x with programmed := true, waiters := [] }).any _ = false
    rw [alone]
    simp [AMap.put]
  have waitsNot : (y.per.sheets.any (fun q => q.2.waiters.contains (k, e)) || (t.req.kind.merges && !t.applied)) = false := by
    rw [unheld]
    cases hm : t.req.kind.merges
    · rfl
    · simp [merges hm]
  show d.Puts (match y.entry k e with
    | some t => ((y.setEntry k e { t with through := y.per.sheets.any (fun q => q.2.waiters.contains (k, e)) ||
        (t.req.kind.merges && !t.applied) }).settle k e).pump k
    | none => y) _
  rw [show y.entry k e = some t from h]
  dsimp only
  rw [waitsNot]
  have set := y.setEntry_frame k e { t with through := false }
  refine Dev.Puts.after ?_ (Dev.pump_frame ..)
  refine noted.puts (set.puts ?_)
  have answered := Dev.settle_answers (y.setEntry k e { t with through := false }) k e (t := { t with through := false })
    (Dev.entry_setEntry ..) acked rfl sent write (by rw [set.head]; exact live)
  rw [set.reg .GLB_HEAD_LOAD_DEVLOAD t.req.head] at answered
  exact answered

/-- Settles O19. The watch over health adds to what a round shows at most one event; a read-back with more than 8 bits corrected is
written again and counted (log entry 96). -/
theorem persistenceRoundsTakeEffect : Obligations.PersistenceRoundsTakeEffect := by
  unfold Obligations.PersistenceRoundsTakeEffect
  refine ⟨fun s c v runs image => ?_, fun s runs gather due => ?_, fun s runs => ?_, fun s ha near => ?_, fun s runs => ?_,
    fun s x ha sheet whole old => ?_, fun s n corr x ha sheet cut progr dies progs cmds => ?_⟩
  · have running := State.runs_of_running runs
    obtain ⟨samples, bank⟩ := s.stamped.housekept_spec v (c := c) image
    have effect : s.stamped.housekeep v = s.stamped.housekept v c := by
      unfold Dev.housekeep
      rw [show s.stamped.cfg = some c from image]
      exact if_pos running
    obtain ⟨e, he, watched⟩ := State.onHealth_to runs.1 (f := fun d => d.housekeep v) effect
    have per : e.per = (s.stamped.housekept v c).per := watched.parts .per (by decide)
    refine ⟨e, show execHousekeepingRound v s = _ from he, ?_, ?_⟩
    · rw [per]
      exact samples
    · rw [per]
      exact (watched.reg .JRN_HOLDUP_V_BANK 0).trans bank
  · have guard : (s.stamped.runs && s.stamped.canGather && (decide (s.stamped.jrn.flushedAt + s.stamped.reg .JRN_CTL_FLUSH_US * 1000 ≤ s.stamped.now)
        || (Config.free 258 s.stamped.freeCtr % 2 = 1 && decide (s.stamped.jrn.mirrored < s.stamped.jrn.next)))) = true := by
      have period : s.stamped.reg .JRN_CTL_FLUSH_US = s.dev.reg .JRN_CTL_FLUSH_US := rfl
      have flushed : s.stamped.jrn.flushedAt = s.dev.jrn.flushedAt := rfl
      have now : s.stamped.now = s.tb := rfl
      rw [State.runs_of_running runs, show s.stamped.canGather = true from gather, period, flushed, now, decide_eq_true due]
      rfl
    obtain ⟨e, he, watched⟩ := State.onHealth_to runs.1 (f := fun d => d.when (d.runs && d.canGather &&
      (decide (d.jrn.flushedAt + d.reg .JRN_CTL_FLUSH_US * 1000 ≤ d.now) ||
        (Config.free 258 d.freeCtr % 2 = 1 && decide (d.jrn.mirrored < d.jrn.next)))) Dev.flushed) (if_pos guard)
    obtain ⟨stamp, mirrored⟩ := s.stamped.flushed_spec
    have jrn : e.jrn = s.stamped.flushed.jrn := watched.parts .jrn (by decide)
    rw [← jrn] at stamp mirrored
    exact ⟨e, show execJournalFlush s = _ from he, stamp, mirrored⟩
  · have running := State.runs_of_running runs
    refine ⟨_, show execCheckpoint s = _ from State.onCheckpoint_to runs.1 running _, rfl, ?_, rfl, rfl, le_max_right _ _, rfl⟩
    refine (Dev.startupCheckpoint_stamp _).trans ?_
    exact (Dev.Frame.thenEach (.refl (ps := [.regs, .evt, .jrn, .med, .out])
      (fs := evtFields.append [.DRT_LEHR_CNT_RD_BANDS, .DRT_LEHR_CNT_URG_BANDS]) s.stamped) fun d b => d.freeBand_frame b).now
  · show execCeilingRecord s = _
    unfold execCeilingRecord
    rw [if_pos (by rw [ha, decide_eq_true near]; rfl)]
  · have running : s.stamped.runs = true := State.runs_of_running runs
    obtain ⟨frame, more, same⟩ := s.stamped.metered_spec
    exact ⟨_, show execMeter s = _ from State.on_when (f := Dev.metered) runs.1 running, more, same, frame.changesOnly⟩
  · have guard : (!x.cut && decide (x.firstAt + 400 ≤ s.stamped.now)) = true := by
      rw [whole, decide_eq_true (show x.firstAt + 400 ≤ s.stamped.now from old)]
      rfl
    obtain ⟨w, hw⟩ : ∃ w : Dev, w = { s.stamped with per := { s.dev.per with sheets := s.dev.per.sheets.put s.dev.per.nextSheet { x with cut := true } } } :=
      ⟨_, rfl⟩
    have closed : s.stamped.Frame w [.per] [] := hw ▸ .update (.refl _)
    have put : w.per.sheets.find s.dev.per.nextSheet = some { x with cut := true } := hw ▸ AMap.find_put ..
    obtain ⟨y, found, same⟩ := w.issueSheet_sheet put
    have frame : s.stamped.Frame (w.issueSheet s.dev.per.nextSheet) [.per, .med, .regs, .pmc, .evt, .out, .freeCtr]
        (evtFields.append [.MCX_SCHED_CNT0_SUSPENDS, .PMC_SNAPn_COUNT, .PMC_CTRn_COUNT, .GLB_WEAR_STAT_DEBT]) :=
      .step closed.mono (w.issueSheet_frame _)
    refine ⟨w.issueSheet s.dev.per.nextSheet, show execThroughSheetCut s = _ from State.on_to ha ?_, ⟨y, found, same⟩, frame.changesOnly⟩
    show (match s.dev.per.sheets.find s.dev.per.nextSheet with | some x => _ | none => _) = _
    rw [sheet, hw]
    exact if_pos guard
  · have idle : (s.dev.med.progs.any (fun p => p.use = .thru n) ||
        s.dev.med.cmds.any (fun c => c.2.use = .thru n && x.dies.contains c.2.die)) = false := by
      rw [Bool.or_eq_false_iff, List.any_eq_false, List.any_eq_false]
      exact ⟨fun p hp => by simpa using progs p hp, fun c hc => by simpa using cmds c hc⟩
    have guard : (x.cut && !x.programmed && !x.dies.isEmpty && !(s.dev.med.progs.any (fun p => p.use = .thru n) ||
        s.dev.med.cmds.any (fun c => c.2.use = .thru n && x.dies.contains c.2.die))) = true := by
      rw [idle, cut, progr]
      simpa using dies
    have effect : exec (.throughSheetProgrammed n corr) s = .next { s with
        dev := (if 8 < corr then s.stamped.rewriteSheet n (x.dies.headD 0) else s.stamped.sheetDone n x) } := by
      refine show execThroughSheetProgrammed n corr s = _ from State.on_to ha ?_
      show (match s.dev.per.sheets.find n with | some x => _ | none => _) = _
      rw [sheet]
      exact if_pos guard
    refine ⟨fun many => ?_, fun few => ?_⟩
    · rw [effect, if_pos many]
      obtain ⟨die, rest, hd⟩ := List.exists_cons_of_ne_nil dies
      have member : x.dies.headD 0 ∈ x.dies := by simp [hd]
      obtain ⟨⟨y, found, same⟩, counted⟩ := s.stamped.rewriteSheet_spec sheet progr member
      exact ⟨_, y, rfl, found, same, counted⟩
    · rw [effect, if_neg (by omega)]
      refine ⟨_, rfl, fun none => ?_, fun k e t alone waits entry acked sent write merges live => ?_⟩
      · have done : s.stamped.sheetDone n x = { s.stamped with per := { s.dev.per with
            sheets := s.dev.per.sheets.put n { x with programmed := true, waiters := [] } } } := by
          unfold Dev.sheetDone
          rw [none]
          rfl
        have frame : s.stamped.Frame (s.stamped.sheetDone n x) [.per] [] := done ▸ .update (.refl _)
        refine ⟨?_, frame.changesOnly⟩
        rw [done, ← none]
        exact AMap.find_put ..
      · exact s.stamped.sheetDone_answers alone waits entry acked sent write merges live

end Sys2Proof.Machine
end

section
/-!
Which units an operation may move: those in service stay in service under the upkeep of health, requests and replay, and every
other unit keeps its record.
-/
-- Checked one after another: side by side, each waiting for the kernel, the proofs need more threads than the memory admits.
set_option Elab.async false
namespace Sys2Proof.Machine

/-- Units in service stay in service, and the records of the others are as before, but for units of the classes listed. -/
structure Dev.KeepsUnitsBut (cs : List Nat) (d e : Dev) : Prop where
  units : ∀ ix, unitClass ix ∉ cs → (d.serves ix = true → e.serves ix = true) ∧ (d.serves ix = false → e.unit ix = d.unit ix)

/-- Units in service stay in service, and the records of the others are as before. -/
def Dev.KeepsUnits (d e : Dev) : Prop := Dev.KeepsUnitsBut [] d e

theorem Dev.serves_of_unit {d e : Dev} {ix : Nat} (h : e.unit ix = d.unit ix) : e.serves ix = d.serves ix := by
  rw [Dev.serves, Dev.ustate, h, Dev.serves, Dev.ustate]

namespace Dev.KeepsUnitsBut
variable {d e g : Dev} {cs bs : List Nat}

theorem refl (d : Dev) : Dev.KeepsUnitsBut cs d d := ⟨fun _ _ => ⟨id, fun _ => rfl⟩⟩

theorem step (h : Dev.KeepsUnitsBut cs d e) (k : Dev.KeepsUnitsBut cs e g) : Dev.KeepsUnitsBut cs d g := ⟨fun ix hc => by
  obtain ⟨on, off⟩ := h.units ix hc
  obtain ⟨on', off'⟩ := k.units ix hc
  refine ⟨fun s => on' (on s), fun s => ?_⟩
  have same := off s
  exact (off' ((Dev.serves_of_unit same).trans s)).trans same⟩

theorem mono (h : Dev.KeepsUnitsBut bs d e) (hb : bs ⊆ cs := by decide) : Dev.KeepsUnitsBut cs d e :=
  ⟨fun ix hc => h.units ix fun m => hc (hb m)⟩

theorem ite {c : Prop} [Decidable c] (h : c → Dev.KeepsUnitsBut cs d e) (k : ¬c → Dev.KeepsUnitsBut cs d g) :
    Dev.KeepsUnitsBut cs d (if c then e else g) := by
  split
  · exact h ‹_›
  · exact k ‹_›

theorem thenEach {α : Type} {l : List α} {f : Dev → α → Dev} (h : Dev.KeepsUnitsBut cs d e)
    (k : ∀ d a, Dev.KeepsUnitsBut cs d (f d a)) : Dev.KeepsUnitsBut cs d (e.each l f) := by
  induction l generalizing e with
  | nil => exact h
  | cons a l ih => exact ih (h.step (k e a))

end Dev.KeepsUnitsBut

namespace Dev.KeepsUnits
variable {d e g : Dev}

theorem refl (d : Dev) : d.KeepsUnits d := Dev.KeepsUnitsBut.refl d

theorem step (h : d.KeepsUnits e) (k : e.KeepsUnits g) : d.KeepsUnits g := Dev.KeepsUnitsBut.step h k

theorem but (h : d.KeepsUnits e) (cs : List Nat) : Dev.KeepsUnitsBut cs d e := ⟨fun ix _ => h.units ix (by simp)⟩

/-- An operation that moves no unit. -/
theorem of {ps : List Part} {fs : List Fld} (k : d.Frame e ps fs) (hp : .ust ∉ ps := by decide) : d.KeepsUnits e :=
  ⟨fun ix _ => ⟨fun s => (Dev.serves_of_unit (k.unit ix hp)).trans s, fun _ => k.unit ix hp⟩⟩

theorem thenEach {α : Type} {l : List α} {f : Dev → α → Dev} (h : d.KeepsUnits e) (k : ∀ d a, Dev.KeepsUnits d (f d a)) :
    d.KeepsUnits (e.each l f) := Dev.KeepsUnitsBut.thenEach h k

theorem thenFoldl {α : Type} {l : List α} {f : Dev → α → Dev} (h : d.KeepsUnits e) (k : ∀ d a, Dev.KeepsUnits d (f d a)) :
    d.KeepsUnits (l.foldl f e) := Dev.KeepsUnitsBut.thenEach h k

theorem use (x : Dev) (h : d.KeepsUnits x) (k : d.KeepsUnits x → d.KeepsUnits g) : d.KeepsUnits g := k h

theorem of_pair {α : Type} {p : α × Dev} {a : α} {x g : Dev} (hx : p = (a, x)) (h : d.KeepsUnits p.2)
    (k : d.KeepsUnits x → d.KeepsUnits g) : d.KeepsUnits g := k (by rw [hx] at h; exact h)

theorem of_triple {α β : Type} {p : α × β × Dev} {a : α} {b : β} {x g : Dev} (hx : p = (a, b, x)) (h : d.KeepsUnits p.2.2)
    (k : d.KeepsUnits x → d.KeepsUnits g) : d.KeepsUnits g := k (by rw [hx] at h; exact h)

theorem ite {c : Prop} [Decidable c] (h : c → d.KeepsUnits e) (k : ¬c → d.KeepsUnits g) : d.KeepsUnits (if c then e else g) :=
  Dev.KeepsUnitsBut.ite h k

/-- A record update that leaves the table of units. -/
theorem update {x : Dev} (h : d.KeepsUnits e) (hx : x.ust.units = e.ust.units := by rfl) : d.KeepsUnits x := ⟨fun ix hc => by
  have same : x.unit ix = e.unit ix := by rw [Dev.unit, hx, Dev.unit]
  rw [Dev.serves_of_unit same, same]
  exact h.units ix hc⟩

theorem causedBy {t : Option Nat} {f : Dev → Dev} (h : ∀ d, Dev.KeepsUnits d (f d)) (d : Dev) : d.KeepsUnits (d.causedBy t f) :=
  ⟨fun ix hc => (h { d with cause := t }).units ix hc⟩

theorem asOf {t : Nat} {f : Dev → Dev} (h : ∀ d, Dev.KeepsUnits d (f d)) (d : Dev) : d.KeepsUnits (d.asOf t f) :=
  ⟨fun ix hc => (h { d with cfg := d.cfgAt t, cause := some t }).units ix hc⟩

theorem thenCausedBy {t : Option Nat} {f : Dev → Dev} (h : d.KeepsUnits e) (k : ∀ d, Dev.KeepsUnits d (f d)) :
    d.KeepsUnits (e.causedBy t f) := h.step (.causedBy k e)

theorem thenAsOf {t : Nat} {f : Dev → Dev} (h : d.KeepsUnits e) (k : ∀ d, Dev.KeepsUnits d (f d)) : d.KeepsUnits (e.asOf t f) :=
  h.step (.asOf k e)

theorem underKeysAt {α : Type} (d : Dev) (t : Nat) {f : Dev → α × Dev} (h : ∀ d, Dev.KeepsUnits d (f d).2) :
    d.KeepsUnits (d.underKeysAt t f).2 :=
  have under : d.KeepsUnits { d.withKeysAt t with cfg := d.cfgAt t, cause := some t } := .update (.of (d.withKeysAt_frame t))
  ⟨fun ix hc => (under.step (h _)).units ix hc⟩

theorem thenUnderKeysAt {α : Type} {t : Nat} {f : Dev → α × Dev} (h : d.KeepsUnits e) (k : ∀ d, Dev.KeepsUnits d (f d).2) :
    d.KeepsUnits (e.underKeysAt t f).2 := h.step (.underKeysAt e t k)

/-- A unit in service moves to another state of service. -/
theorem moved {ix : Nat} {st : UState} (cause : Nat) (hw : Bool) (hs : d.serves ix = true) (ht : st.serves = true) :
    d.KeepsUnits (d.moveUnit ix st cause hw) := ⟨fun j _ => by
  unfold Dev.moveUnit
  split
  · exact ⟨id, fun _ => rfl⟩
  · by_cases e : ix = j
    · subst e
      refine ⟨fun _ => ?_, fun off => absurd hs (by rw [off]; decide)⟩
      rw [Dev.serves, Dev.setUnit_ustate]
      exact ht
    · have same := d.setUnit_unit_ne e st cause hw
      exact ⟨fun s => (Dev.serves_of_unit same).trans s, fun _ => same⟩⟩

end Dev.KeepsUnits

section
variable (d : Dev)

theorem Dev.sliceHealth_keepsUnits (k : Nat) : d.KeepsUnits (d.sliceHealth k) := by
  unfold Dev.sliceHealth
  split
  · exact .refl d
  next hs =>
  have on : d.serves (sliceIx k) = true := by simpa using hs
  exact .ite (fun _ => .moved _ _ on rfl) fun _ => .moved _ _ on rfl

theorem Dev.groupHealth_keepsUnits (g : Nat) (foreign : Bool) : d.KeepsUnits (d.groupHealth g foreign) := by
  unfold Dev.groupHealth
  split
  · exact .refl d
  next hs =>
  have on : d.serves (groupIx g) = true := by simpa using hs
  exact .ite (fun _ => .moved _ _ on rfl) fun _ => .moved _ _ on rfl

theorem Dev.regionHealth_keepsUnits (n : Nat) : d.KeepsUnits (d.regionHealth n) := by
  unfold Dev.regionHealth
  split
  · exact .refl d
  next hs =>
  have on : d.serves (regionIx n) = true := by simpa using hs
  refine .moved _ _ on ?_
  split <;> rfl

theorem Dev.complexHealth_keepsUnits (n : Nat) : d.KeepsUnits (d.complexHealth n) := by
  unfold Dev.complexHealth
  split
  · exact .refl d
  next hs =>
  have on : d.serves (complexIx n) = true := by simpa using hs
  exact .ite (fun _ => .moved _ _ on rfl) fun _ => .moved _ _ on rfl

theorem Dev.packageHealth_keepsUnits (p : Nat) : d.KeepsUnits (d.packageHealth p) := by
  unfold Dev.packageHealth
  split
  · exact .refl d
  next hs =>
  have on : d.serves (packageIx p) = true := by simpa using hs
  exact .ite (fun _ => .moved _ _ on rfl) fun _ => .moved _ _ on rfl

theorem Dev.doubleFault_keepsUnits (ix other : Nat) : d.KeepsUnits (d.doubleFault ix other) := by
  unfold Dev.doubleFault
  extract_lets +onlyGivenNames _ x
  exact .step (.update (.refl d)) (.of (Dev.raise_frame ..))

theorem Dev.overBudget_keepsUnits (ix : Nat) (old : UState) : d.KeepsUnits (d.overBudget ix old) := by
  unfold Dev.overBudget
  extract_lets +onlyGivenNames u _ x
  exact .step (.update (.refl d)) (.of (Dev.raise_frame ..))
end

theorem Dev.enqueueLine_keepsUnits (d : Dev) (q : Nat) (off : Nat) (data : Line) (poison : Bool) (r : Req) : d.KeepsUnits (d.enqueueLine q off data poison r).2 := by
  unfold Dev.enqueueLine
  dsimp only
  split
  · split
    · dsimp only
      exact .step (.refl _) (.of (Dev.strayLine_frame ..))
    · split
      · dsimp only
        exact .step (.refl _) (.of (Dev.strayLine_frame ..))
      · split
        · rename_i x0 x1 x2 hx
          refine .of_pair hx (.step (.refl _) (.of (Dev.reserveFrame_frame ..))) fun h => ?_
          dsimp only
          exact .step (.step (h) (.of (Dev.dropFrame_frame ..))) (.of (Dev.setQueue_frame ..))
        · rename_i x0 x1 x2 x3 hx
          refine .of_pair hx (.step (.refl _) (.of (Dev.reserveFrame_frame ..))) fun h => ?_
          split
          · refine .step ?_ (.of (Dev.closeFrame_frame ..))
            refine .ite (fun _ => .step (.step (h) (.of (Dev.setQueue_frame ..))) (.of (Dev.setReg_frame ..))) fun _ => ?_
            exact .step (.step (.step (h) (.of (Dev.setQueue_frame ..))) (.of (Dev.setReg_frame ..))) (Dev.groupHealth_keepsUnits ..)
          · split
            · split
              · split
                · dsimp only
                  exact .step (.step (.step (h) (.of (Dev.setQueue_frame ..))) (.of (Dev.setReg_frame ..)))
                      (.of (Dev.storeFrameLine_frame ..))
                · dsimp only
                  exact .step (.step (h) (.of (Dev.setQueue_frame ..))) (.of (Dev.setReg_frame ..))
              · split
                · dsimp only
                  exact .step (.step (.step (h) (.of (Dev.setQueue_frame ..))) (.of (Dev.setReg_frame ..)))
                      (.of (Dev.storeFrameLine_frame ..))
                · dsimp only
                  exact .step (.step (h) (.of (Dev.setQueue_frame ..))) (.of (Dev.setReg_frame ..))
            · split
              · split
                · dsimp only
                  refine .step ?_ (.of (Dev.storeFrameLine_frame ..))
                  exact .step (.step (.step (h) (.of (Dev.setQueue_frame ..))) (.of (Dev.setReg_frame ..)))
                      (Dev.groupHealth_keepsUnits ..)
                · dsimp only
                  exact .step (.step (.step (h) (.of (Dev.setQueue_frame ..))) (.of (Dev.setReg_frame ..)))
                      (Dev.groupHealth_keepsUnits ..)
              · split
                · dsimp only
                  refine .step ?_ (.of (Dev.storeFrameLine_frame ..))
                  exact .step (.step (.step (h) (.of (Dev.setQueue_frame ..))) (.of (Dev.setReg_frame ..)))
                      (Dev.groupHealth_keepsUnits ..)
                · dsimp only
                  exact .step (.step (.step (h) (.of (Dev.setQueue_frame ..))) (.of (Dev.setReg_frame ..)))
                      (Dev.groupHealth_keepsUnits ..)
  · split
    · dsimp only
      exact .step (.refl _) (.of (Dev.strayLine_frame ..))
    · split
      · split
        · dsimp only
          refine .step ?_ (.of (Dev.setQueue_frame ..))
          exact .step (.step (.refl _) (.of (Dev.hostError_frame ..))) (.of (Dev.drawFreeLine_frame ..))
        · split
          · dsimp only
            refine .step ?_ (.of (Dev.closeFrame_frame ..))
            refine .step ?_ (.of (Dev.storeFrameLine_frame ..))
            exact .step (.step (.refl _) (.of (Dev.hostError_frame ..))) (.of (Dev.drawFreeLine_frame ..))
          · dsimp only
            refine .step ?_ (.of (Dev.setQueue_frame ..))
            refine .step ?_ (.of (Dev.storeFrameLine_frame ..))
            exact .step (.step (.refl _) (.of (Dev.hostError_frame ..))) (.of (Dev.drawFreeLine_frame ..))
      · split
        · dsimp only
          exact .step (.step (.refl _) (.of (Dev.storeFrameLine_frame ..))) (.of (Dev.closeFrame_frame ..))
        · dsimp only
          exact .step (.step (.refl _) (.of (Dev.storeFrameLine_frame ..))) (.of (Dev.setQueue_frame ..))
  · split
    · dsimp only
      exact .step (.refl _) (.of (Dev.setQueue_frame ..))
    · dsimp only
      exact .refl _

theorem Dev.updateSolo_keepsUnits (d : Dev) (k : Nat) : d.KeepsUnits (d.updateSolo k) := by
  unfold Dev.updateSolo
  extract_lets +onlyGivenNames solo turns d
  refine .use d ?_ fun h => ?_
  · unfold d
    exact .ite (fun _ => .step (.refl _) (.of (Dev.count_frame ..))) fun _ => .refl _
  · extract_lets +onlyGivenNames d
    refine .use d ?_ fun h => ?_
    · unfold d
      exact .step h (.of (Dev.setFlag_frame ..))
    · extract_lets +onlyGivenNames d
      refine .use d ?_ fun h => ?_
      · unfold d
        exact .ite (fun _ => .thenEach (h) fun d a => .step (.refl _) (.of (Dev.logRec_frame ..))) fun _ => h
      · exact .step h (Dev.sliceHealth_keepsUnits ..)

theorem Dev.orphan_keepsUnits (d : Dev) (level : Nat) (index : Nat) (ki : Nat) (heads : Nat) : d.KeepsUnits (d.orphan level index ki heads) := by
  unfold Dev.orphan
  refine .ite (fun _ => .refl _) fun _ => ?_
  extract_lets +onlyGivenNames _ d
  refine .use d ?_ fun h => ?_
  · unfold d
    exact .update (.refl _)
  · extract_lets +onlyGivenNames d
    refine .use d ?_ fun h => ?_
    · unfold d
      exact .step (.step (h) (.of (Dev.count_frame ..))) (.of (Dev.raise_frame ..))
    · extract_lets +onlyGivenNames d
      refine .use d ?_ fun h => ?_
      · unfold d
        exact .thenEach (h) fun d a => .step (.refl _) (Dev.regionHealth_keepsUnits ..)
      · exact .ite (fun _ => .step (h) (.of (Dev.lockdown_frame ..))) fun _ => h

theorem Dev.loseOrcPage_keepsUnits (d : Dev) (key : Nat) : d.KeepsUnits (d.loseOrcPage key) := by
  unfold Dev.loseOrcPage
  extract_lets +onlyGivenNames first ks
  refine .ite (fun _ => ?_) fun _ => ?_
  · exact .step (.step (.refl _) (.of (Dev.count_frame ..))) (.of (Dev.addOrcPage_frame ..))
  · extract_lets +onlyGivenNames d
    refine .use d ?_ fun h => ?_
    · unfold d
      exact .thenEach (.refl _) fun d a => .step (.refl _) (Dev.orphan_keepsUnits ..)
    · refine .ite (fun _ => ?_) fun _ => h
      exact .step (.step (h) (.of (Dev.count_frame ..))) (.of (Dev.addOrcPage_frame ..))

theorem Dev.loseRow_keepsUnits (d : Dev) (band : Nat) (row : Nat) : d.KeepsUnits (d.loseRow band row) := by
  unfold Dev.loseRow
  extract_lets +onlyGivenNames d
  refine .use d ?_ fun h => ?_
  · unfold d
    exact .thenEach (.refl _) fun d a => .step (.refl _) (.of (Dev.loseMedia_frame ..))
  · extract_lets +onlyGivenNames gone _ d
    refine .use d ?_ fun h => ?_
    · unfold d
      exact .update (h)
    · exact .thenEach (h) fun d a => .step (.refl _) (Dev.loseOrcPage_keepsUnits ..)

theorem Dev.rebuildBand_keepsUnits (d : Dev) (n : Nat) : d.KeepsUnits (d.rebuildBand n) := by
  unfold Dev.rebuildBand
  split
  · exact .refl _
  · refine .ite (fun _ => ?_) fun _ => .step (.refl _) (.of (Dev.copyPages_frame ..))
    exact .thenEach (.refl _) fun d a => .step (.refl _) (Dev.loseRow_keepsUnits ..)

theorem Dev.rebuild_keepsUnits (d : Dev) : d.KeepsUnits d.rebuild := by
  unfold Dev.rebuild
  extract_lets +onlyGivenNames bs first rest d
  refine .use d ?_ fun h => ?_
  · unfold d
    exact .thenEach (.refl _) fun d a => .step (.refl _) (Dev.rebuildBand_keepsUnits ..)
  · exact .thenEach (h) fun d a => .ite (fun _ => .refl _) fun _ => .step (.refl _) (.of (Dev.setPkg_frame ..))

theorem Dev.markRebuild_keepsUnits (d : Dev) (p : Nat) : d.KeepsUnits (d.markRebuild p) := by
  unfold Dev.markRebuild
  extract_lets +onlyGivenNames hit rows d
  refine .use d ?_ fun h => ?_
  · unfold d
    refine .thenEach (.refl _) fun d a => ?_
    extract_lets +onlyGivenNames _ d
    refine .use d ?_ fun h => ?_
    · unfold d
      exact .step (.refl _) (.of (Dev.setBand_frame ..))
    · exact .step h (.of (Dev.closeBand_frame ..))
  · extract_lets +onlyGivenNames _ d
    refine .use d ?_ fun h => ?_
    · unfold d
      exact .step h (.of (Dev.setPkg_frame ..))
    · exact .step (.step (h) (.of (Dev.rejoin_frame ..))) (Dev.rebuild_keepsUnits ..)

theorem Dev.packageGone_keepsUnits (d : Dev) (p : Nat) : d.KeepsUnits (d.packageGone p) := by
  unfold Dev.packageGone
  extract_lets +onlyGivenNames d
  refine .use d ?_ fun h => ?_
  · unfold d
    exact .step (.refl _) (.of (Dev.dropCmds_frame ..))
  · extract_lets +onlyGivenNames dies _ d
    refine .use d ?_ fun h => ?_
    · unfold d
      exact .update (h)
    · extract_lets +onlyGivenNames d
      refine .use d ?_ fun h => ?_
      · unfold d
        refine .thenEach (h) fun d a => ?_
        split
        · exact .step (.refl _) (.of (Dev.rewriteSheet_frame ..))
        · exact .refl _
      · exact .step (.step (.step (h) (.of (Dev.readAroundDie_frame ..))) (Dev.markRebuild_keepsUnits ..)) (.of (Dev.judgePdeg_frame ..))

theorem Dev.stackLostQueues_keepsUnits (d : Dev) (k : Nat) : d.KeepsUnits (d.stackLostQueues k) := by
  unfold Dev.stackLostQueues
  extract_lets +onlyGivenNames hit d
  refine .use d ?_ fun h => ?_
  · unfold d
    exact .thenEach (.refl _) fun d a => .step (.refl _) (.of (Dev.resetQueue_frame ..))
  · refine .thenEach (h) fun d a => ?_
    split
    · exact .refl _
    · extract_lets +onlyGivenNames _ d
      refine .use d ?_ fun h => ?_
      · unfold d
        exact .update (.refl _)
      · exact .step (.step (h) (.of (Dev.setFlag_frame ..))) (Dev.groupHealth_keepsUnits ..)

theorem Dev.stackGone_keepsUnits (d : Dev) (k : Nat) : d.KeepsUnits (d.stackGone k) := by
  unfold Dev.stackGone
  extract_lets +onlyGivenNames again d
  refine .use d ?_ fun h => ?_
  · unfold d
    refine .thenEach (.refl _) fun d a => ?_
    extract_lets +onlyGivenNames rest
    refine .ite (fun _ => .refl _) fun _ => ?_
    refine .ite (fun _ => .update (.refl _)) fun _ => ?_
    refine .ite (fun _ => .step (.update (.refl _)) (.of (Dev.setPage_frame ..))) fun _ => ?_
    refine .ite (fun _ => ?_) fun _ => .step (.refl _) (.of (Dev.losePage_frame ..))
    split
    · rename_i x0 x1 x2 hx
      refine .of_pair hx (.step (.refl _) (.of (Dev.pickStacks_frame ..))) fun h => ?_
      extract_lets +onlyGivenNames lines
      exact .step h (.of (Dev.setPage_frame ..))
  · extract_lets +onlyGivenNames d
    refine .use d ?_ fun h => ?_
    · unfold d
      exact .ite (fun _ => .step (h) (Dev.doubleFault_keepsUnits ..)) fun _ => h
    · extract_lets +onlyGivenNames d
      refine .use d ?_ fun h => ?_
      · unfold d
        refine .ite (fun _ => ?_) fun _ => h
        exact .thenEach (h) fun d a => .step (.refl _) (.of (Dev.loseVolatile_frame ..))
      · refine .step ?_ (.of (Dev.judgePdeg_frame ..))
        exact .step (.step (h) (.of (Dev.remirrorState_frame ..))) (Dev.stackLostQueues_keepsUnits ..)

theorem Dev.effect_keepsUnits (d : Dev) (k : Nat) (e : Nat) (r : Req) : d.KeepsUnits (d.effect k e r).2.2 := by
  unfold Dev.effect
  split
  · dsimp only
    exact .refl _
  · dsimp only
    split
    · dsimp only
      exact .step (.refl _) (.of (Dev.readLine_frame ..))
    · dsimp only
      exact .step (.step (.refl _) (.of (Dev.writeLine_frame ..))) (.of (Dev.writeCached_frame ..))
    · dsimp only
      exact .step (.step (.refl _) (.of (Dev.writeLine_frame ..))) (.of (Dev.writeCached_frame ..))
    · dsimp only
      exact .step (.refl _) (.of (Dev.commitDoorbell_frame ..))
    · dsimp only
      exact .refl _
    · split
      · dsimp only
        exact .step (.step (.refl _) (.of (Dev.checkPtr_frame ..))) (Dev.enqueueLine_keepsUnits ..)
      · dsimp only
        exact .refl _
    · split
      · dsimp only
        exact .step (.step (.refl _) (.of (Dev.checkPtr_frame ..))) (.of (Dev.dequeueLine_frame ..))
      · dsimp only
        exact .refl _
    · split
      · dsimp only
        exact .step (.step (.refl _) (.of (Dev.checkPtr_frame ..))) (.of (Dev.queueDoorbell_frame ..))
      · dsimp only
        exact .refl _
    · split
      · dsimp only
        exact .step (.refl _) (.of (Dev.checkPtr_frame ..))
      · dsimp only
        exact .refl _
    · dsimp only
      exact .update (.refl _)
    · dsimp only
      exact .update (.refl _)
    · dsimp only
      exact .update (.refl _)

theorem Dev.accept_keepsUnits (d : Dev) (k : Nat) (r : Req) : d.KeepsUnits (d.accept k r) := by
  unfold Dev.accept
  split
  · exact .refl _
  · rename_i e he
    refine .causedBy (fun d => ?_) d
    extract_lets +onlyGivenNames s older
    split
    rename_i u x hx
    refine .of_pair hx (.thenUnderKeysAt (.refl _) fun d => .of (Dev.keyError_frame ..)) fun h => ?_
    extract_lets +onlyGivenNames g media y undo merge delta
    refine .use y ?_ fun h => ?_
    · unfold y
      generalize g = c
      cases c with
      | none => exact h
      | some g => exact .step h (.of (Dev.abandonSteps_frame ..))
    split
    rename_i v st z hz
    refine .of_pair hz (.thenUnderKeysAt h fun d => ?_) fun h => ?_
    · split
      rename_i v st x hx
      exact .of_triple hx (.step (.refl _) (Dev.effect_keepsUnits ..)) fun h => h
    extract_lets +onlyGivenNames w s t x1 x2 x3 x4
    refine .use w (.step h (.of (Dev.copyReads_frame ..))) fun h => ?_
    refine .use x1 (.step (.step h (.of (Dev.setSlice_frame ..))) (.of (Dev.logRec_frame ..))) fun h => ?_
    refine .use x2 (.step h (.of (Dev.setReg_frame ..))) fun h => ?_
    refine .use x3 (.step (.step h (.of (Dev.perf_frame ..))) (.of (Dev.perf_frame ..))) fun h => ?_
    refine .use x4 (.step h (.of (Dev.passTag_frame ..))) fun h => ?_
    exact .step (.step h (.of (Dev.waitSheets_frame ..))) (.of (Dev.start_frame ..))

theorem Dev.takeOne_keepsUnits (d : Dev) (k : Nat) : d.KeepsUnits (d.takeOne k) := by
  unfold Dev.takeOne
  split
  · exact .refl _
  · refine .ite (fun _ => ?_) fun _ => .refl _
    extract_lets +onlyGivenNames s
    exact .step (.step (.refl _) (.of (Dev.setSlice_frame ..))) (Dev.accept_keepsUnits ..)

theorem Dev.pumpSlice_keepsUnits (d : Dev) (k : Nat) : d.KeepsUnits (d.pumpSlice k) := by
  unfold Dev.pumpSlice
  exact .thenEach (.refl _) fun d a => .step (.refl _) (Dev.takeOne_keepsUnits ..)

theorem Dev.pump_keepsUnits (d : Dev) (k : Nat) : d.KeepsUnits (d.pump k) := by
  unfold Dev.pump
  refine .step ?_ (Dev.pumpSlice_keepsUnits ..)
  exact .step (.step (.refl _) (.of (Dev.releaseOrdered_frame ..))) (.of (Dev.drainReplay_frame ..))

theorem Dev.replayFor_keepsUnits (d : Dev) (by_ : Nat) (k : Nat) (es : List (Nat × TtEntry)) (fault : Bool) : d.KeepsUnits (d.replayFor by_ k es fault) := by
  unfold Dev.replayFor
  extract_lets +onlyGivenNames rs s
  exact .step (.step (.refl _) (.of (Dev.setSlice_frame ..))) (Dev.pump_keepsUnits ..)

theorem Dev.replay_keepsUnits (d : Dev) (k : Nat) : d.KeepsUnits (d.replay k) := by
  unfold Dev.replay
  exact .step (.refl _) (Dev.replayFor_keepsUnits ..)

theorem Dev.pumpShare_keepsUnits (d : Dev) (share : Nat) : d.KeepsUnits (d.pumpShare share) := by
  unfold Dev.pumpShare
  split
  · exact .refl _
  · exact .step (.refl _) (Dev.pumpSlice_keepsUnits ..)

theorem Dev.sliceBack_keepsUnits (d : Dev) (k : Nat) : d.KeepsUnits (d.sliceBack k) := by
  unfold Dev.sliceBack
  extract_lets +onlyGivenNames b _ d
  refine .use d ?_ fun h => ?_
  · unfold d
    exact .step (.refl _) (.of (Dev.setSlice_frame ..))
  · extract_lets +onlyGivenNames d
    refine .use d ?_ fun h => ?_
    · unfold d
      exact .step h (.of (Dev.setFlag_frame ..))
    · extract_lets +onlyGivenNames d
      refine .use d ?_ fun h => ?_
      · unfold d
        exact .ite (fun _ => .step (h) (.of (Dev.dropCached_frame ..))) fun _ => .refl _
      · extract_lets +onlyGivenNames _ d
        refine .use d ?_ fun h => ?_
        · unfold d
          refine .ite (fun _ => ?_) fun _ => h
          exact .step (.step (h) (.of (Dev.setSlice_frame ..))) (.of (Dev.setFlag_frame ..))
        · extract_lets +onlyGivenNames d
          refine .use d ?_ fun h => ?_
          · unfold d
            exact .step (.step (h) (Dev.updateSolo_keepsUnits ..)) (Dev.updateSolo_keepsUnits ..)
          · extract_lets +onlyGivenNames d
            refine .use d ?_ fun h => ?_
            · unfold d
              exact .step (h) (Dev.replay_keepsUnits ..)
            · extract_lets +onlyGivenNames es d
              refine .use d ?_ fun h => ?_
              · unfold d
                refine .ite (fun _ => h) fun _ => ?_
                exact .step (.step (h) (.of (Dev.clearRecords_frame ..))) (Dev.replayFor_keepsUnits ..)
              · exact .step (.step (h) (Dev.pumpShare_keepsUnits ..)) (Dev.pumpShare_keepsUnits ..)

theorem Dev.adopt_keepsUnits (d : Dev) (k : Nat) : d.KeepsUnits (d.adopt k) := by
  unfold Dev.adopt
  extract_lets +onlyGivenNames b es d
  refine .use d ?_ fun h => ?_
  · unfold d
    exact .step (.step (.refl _) (.of (Dev.clearSlice_frame ..))) (.of (Dev.clearRecords_frame ..))
  · extract_lets +onlyGivenNames _ d
    refine .use d ?_ fun h => ?_
    · unfold d
      exact .step h (.of (Dev.setSlice_frame ..))
    · extract_lets +onlyGivenNames d
      refine .use d ?_ fun h => ?_
      · unfold d
        exact .step h (.of (Dev.setFlag_frame ..))
      · exact .step (.step (h) (Dev.updateSolo_keepsUnits ..)) (Dev.replayFor_keepsUnits ..)

end Sys2Proof.Machine
end

section
/-!
What the loss, the reset and the return of a unit leave of the table of units (R317, R327, R328).
-/
-- Checked one after another: side by side, each waiting for the kernel, the proofs need more threads than the memory admits.
set_option Elab.async false
namespace Sys2Proof.Machine

section
variable (d : Dev)

theorem Dev.setUnit_record (ix : Nat) (st : UState) (cause : Nat) (hw : Bool) :
    ((d.setUnit ix st cause hw).unit ix).state = st ∧ ((d.setUnit ix st cause hw).unit ix).cause = cause ∧
      ((d.setUnit ix st cause hw).unit ix).target = (if (d.unit ix).state = st ∨ st = .draining then (d.unit ix).target else none) ∧
      ((d.setUnit ix st cause hw).unit ix).bound = (if (d.unit ix).state = st then (d.unit ix).bound else none) := by
  refine ⟨d.setUnit_ustate ix st cause hw, ?_⟩
  unfold Dev.setUnit
  extract_lets u u' kept _ x y
  split
  · next e =>
    have put : ((d.setUnitRec ix { u with cause := cause, hw := hw }).unit ix) = { u with cause := cause, hw := hw } := AMap.findD_put ..
    rw [put]
    exact ⟨rfl, (if_pos (.inl e)).symm, rfl⟩
  · next ne =>
    have put : x.unit ix = u' := AMap.findD_put ..
    have journalled : y.unit ix = x.unit ix := rfl
    rw [(Dev.raise_frame ..).unit ix, journalled, put]
    refine ⟨rfl, ?_, rfl⟩
    by_cases draining : st = .draining
    · exact (if_pos draining).trans (if_pos (.inr draining)).symm
    · exact (if_neg draining).trans (if_neg (not_or.2 ⟨ne, draining⟩)).symm

theorem Dev.setUnitRec_unit (ix : Nat) (r : UnitRec) : (d.setUnitRec ix r).unit ix = r := AMap.findD_put ..

theorem Dev.setUnit_keepsBut (ix : Nat) (st : UState) (cause : Nat) (hw : Bool) {cs : List Nat} (h : unitClass ix ∈ cs) :
    Dev.KeepsUnitsBut cs d (d.setUnit ix st cause hw) := ⟨fun j hj => by
  have same := d.setUnit_unit_ne (ix := ix) (iy := j) (fun e => hj (e ▸ h)) st cause hw
  exact ⟨fun s => (Dev.serves_of_unit same).trans s, fun _ => same⟩⟩

theorem Dev.setUnitRec_keepsBut (ix : Nat) (r : UnitRec) {cs : List Nat} (h : unitClass ix ∈ cs) :
    Dev.KeepsUnitsBut cs d (d.setUnitRec ix r) := ⟨fun j hj => by
  have same := d.unit_setUnitRec_ne r (ix := ix) (iy := j) (fun e => hj (e ▸ h))
  exact ⟨fun s => (Dev.serves_of_unit same).trans s, fun _ => same⟩⟩

theorem Dev.moveUnit_keepsBut (ix : Nat) (st : UState) (cause : Nat) (hw : Bool) {cs : List Nat} (h : unitClass ix ∈ cs) :
    Dev.KeepsUnitsBut cs d (d.moveUnit ix st cause hw) := by
  unfold Dev.moveUnit
  exact .ite (fun _ => .refl d) fun _ => d.setUnit_keepsBut ix st cause hw h
end

section
variable {d e : Dev} {cs : List Nat}

theorem Dev.KeepsUnitsBut.thenEachMem {g : Dev} {α : Type} {l : List α} {f : Dev → α → Dev} (h : Dev.KeepsUnitsBut cs d g)
    (k : ∀ d, ∀ a ∈ l, Dev.KeepsUnitsBut cs d (f d a)) : Dev.KeepsUnitsBut cs d (g.each l f) := by
  induction l generalizing g with
  | nil => exact h
  | cons a l ih => exact ih (h.step (k g a List.mem_cons_self)) fun d b hb => k d b (List.mem_cons_of_mem _ hb)

/-- A unit that is not in service, of another class, is as it was. -/
theorem Dev.KeepsUnitsBut.unit (h : Dev.KeepsUnitsBut cs d e) {ix : Nat} (off : d.serves ix = false) (hc : unitClass ix ∉ cs) :
    e.unit ix = d.unit ix := (h.units ix hc).2 off

theorem Dev.KeepsUnitsBut.serves (h : Dev.KeepsUnitsBut cs d e) {ix : Nat} (on : d.serves ix = true) (hc : unitClass ix ∉ cs) :
    e.serves ix = true := (h.units ix hc).1 on

/-- An operation that moves no unit. -/
theorem Dev.Frame.keepsBut {ps : List Part} {fs : List Fld} (k : d.Frame e ps fs) (hp : .ust ∉ ps := by decide) :
    Dev.KeepsUnitsBut cs d e := (Dev.KeepsUnits.of k hp).but cs

end

/-! ## The classes of the units -/

theorem unitClass_sliceIx {k : Nat} (h : k < 16) : unitClass (sliceIx k) = 1 := by
  unfold unitClass sliceIx
  split_ifs <;> omega

theorem unitClass_complexIx {n : Nat} (h : n < 8) : unitClass (complexIx n) = 2 := by
  unfold unitClass complexIx
  split_ifs <;> omega

theorem unitClass_linkIx {m : Nat} (h : m < 128) : unitClass (linkIx m) = 3 := by
  unfold unitClass linkIx
  split_ifs <;> omega

theorem unitClass_packageIx {p : Nat} (h : p < 64) : unitClass (packageIx p) = 4 := by
  unfold unitClass packageIx
  split_ifs <;> omega

theorem unitClass_stackIx {k : Nat} (h : k < 4) : unitClass (stackIx k) = 5 := by
  unfold unitClass stackIx
  split_ifs <;> omega

theorem unitClass_regionIx (n : Nat) : unitClass (regionIx n) ∈ [6, 7] := by
  unfold unitClass regionIx
  split_ifs <;> first | omega | simp

theorem unitClass_groupIx (g : Nat) : unitClass (groupIx g) = 7 := by
  unfold unitClass groupIx
  split_ifs <;> omega

/-! ## Units that go with another (R327) -/

section
variable (d : Dev)

theorem unitClass_packageIx_gt (p : Nat) : unitClass (packageIx p) ∈ [4, 5, 6, 7] := by
  unfold unitClass packageIx
  split_ifs <;> first | omega | simp

theorem Dev.packageFail_keepsBut (p cause : Nat) : Dev.KeepsUnitsBut [4, 5, 6, 7] d (d.packageFail p cause) :=
  (d.setUnit_keepsBut _ _ _ _ (unitClass_packageIx_gt p)).step ((Dev.packageGone_keepsUnits ..).but _)

theorem Dev.linkGone_keepsBut (m : Nat) : Dev.KeepsUnitsBut [4, 5, 6, 7] d (d.linkGone m) := by
  unfold Dev.linkGone
  split
  · exact .refl d
  · extract_lets x y
    have moved : Dev.KeepsUnitsBut [4, 5, 6, 7] d x :=
      (d.rehomeDies_frame m).keepsBut.step (Dev.reissueLink_frame _ m).keepsBut
    have judged : Dev.KeepsUnitsBut [4, 5, 6, 7] d y := moved.step ((x.complexHealth_keepsUnits (m / 16)).but _)
    exact .ite (fun _ => .ite (fun _ => judged.step (y.packageFail_keepsBut ..)) fun _ => judged)
      fun _ => judged.step ((y.packageHealth_keepsUnits _).but _)

theorem Dev.linkFail_keepsBut {m : Nat} (cause : Nat) (hm : m < 128) : Dev.KeepsUnitsBut [3, 4, 5, 6, 7] d (d.linkFail m cause) := by
  unfold Dev.linkFail
  have set : Dev.KeepsUnitsBut [3, 4, 5, 6, 7] d (d.setLink m { d.link m with train := 0, rec_ := false }) :=
    (d.setLink_frame m _).keepsBut
  exact (set.step (Dev.setUnit_keepsBut _ _ _ _ _ (by rw [unitClass_linkIx hm]; decide))).step (Dev.linkGone_keepsBut ..).mono

theorem Dev.bringUp_keepsBut {ix : Nat} (h : unitClass ix ∈ [6, 7]) : Dev.KeepsUnitsBut [6, 7] d (d.bringUp ix) := by
  unfold Dev.bringUp
  exact .ite (fun _ => (d.setUnit_keepsBut _ _ _ _ h).step (Dev.setUnit_keepsBut _ _ _ _ _ h)) fun _ => .refl d

theorem Dev.startRegions_keepsBut : Dev.KeepsUnitsBut [6, 7] d d.startRegions := by
  unfold Dev.startRegions
  extract_lets noTier noMedia off x
  have group : ∀ g, unitClass (groupIx g) ∈ [6, 7] := fun g => by rw [unitClass_groupIx]; decide
  have regions : Dev.KeepsUnitsBut [6, 7] d x := by
    refine .thenEach (.refl d) fun d r => .ite (fun _ => ?_) fun _ => .ite (fun _ => d.bringUp_keepsBut (unitClass_regionIx _)) fun _ => .refl d
    exact .ite (fun _ => d.setUnit_keepsBut _ _ _ _ (unitClass_regionIx _)) fun _ => .refl d
  refine .thenEach regions fun d g => .ite (fun _ => .ite (fun _ => ?_) fun _ => .refl d) fun _ =>
    .ite (fun _ => d.bringUp_keepsBut (group g)) fun _ => .refl d
  exact (d.setUnit_keepsBut _ _ _ _ (group g)).step (Dev.freeGroup_frame ..).keepsBut

/-- A stack that goes FAILED, and the regions and groups that go with it. -/
theorem Dev.stackFail_record {k cause : Nat} (hk : k < 4) : ((d.stackFail k cause).unit (stackIx k)).state = .failed ∧
    ((d.stackFail k cause).unit (stackIx k)).cause = cause := by
  unfold Dev.stackFail
  extract_lets again x y z w
  obtain ⟨state, why, -⟩ := d.setUnit_record (stackIx k) .failed cause true
  have off : x.serves (stackIx k) = false := by rw [Dev.serves, Dev.ustate, state]; rfl
  have raised : x.KeepsUnits y := .of (Dev.raise_frame ..)
  have doubled : x.KeepsUnits z := .ite (fun _ => raised.step (y.doubleFault_keepsUnits ..)) fun _ => raised
  have gone : x.KeepsUnits w := doubled.step (z.stackGone_keepsUnits k)
  have all : Dev.KeepsUnitsBut [6, 7] x (if w.memActive then w.checkNoTier.startRegions else w) :=
    .ite (fun _ => ((gone.but _).step w.checkNoTier_frame.keepsBut).step w.checkNoTier.startRegions_keepsBut) fun _ => gone.but _
  rw [all.unit off (by rw [unitClass_stackIx hk]; decide)]
  exact ⟨state, why⟩

theorem Dev.complexFail_record {n cause : Nat} (hn : n < 8) : ((d.complexFail n cause).unit (complexIx n)).state = .failed ∧
    ((d.complexFail n cause).unit (complexIx n)).cause = cause := by
  unfold Dev.complexFail
  extract_lets x y
  obtain ⟨state, why, -⟩ := d.setUnit_record (complexIx n) .failed cause true
  have off : x.serves (complexIx n) = false := by rw [Dev.serves, Dev.ustate, state]; rfl
  have replayed : Dev.KeepsUnitsBut [3, 4, 5, 6, 7] x y := (x.replayOps_frame n).keepsBut
  have all := Dev.KeepsUnitsBut.thenEachMem (l := ((List.range 16).map (fun i => 16 * n + i)).filter (fun m => (y.linkPkg m).isSome))
    (f := fun d m => if d.ustate (linkIx m) ∈ [.failed, .retired, .absent] then d else d.linkFail m 6) replayed fun d m hm => by
      have small : m < 128 := by
        obtain ⟨i, hi, rfl⟩ := List.mem_map.mp (List.mem_filter.mp hm).1
        have := List.mem_range.mp hi
        omega
      exact .ite (fun _ => .refl d) fun _ => d.linkFail_keepsBut 6 small
  rw [all.unit off (by rw [unitClass_complexIx hn]; decide)]
  exact ⟨state, why⟩

theorem Dev.linkFail_record {m cause : Nat} (hm : m < 128) : ((d.linkFail m cause).unit (linkIx m)).state = .failed ∧
    ((d.linkFail m cause).unit (linkIx m)).cause = cause := by
  unfold Dev.linkFail
  obtain ⟨state, why, -⟩ := (d.setLink m { d.link m with train := 0, rec_ := false }).setUnit_record (linkIx m) .failed cause true
  have off : ((d.setLink m { d.link m with train := 0, rec_ := false }).setUnit (linkIx m) .failed cause).serves (linkIx m) = false := by
    rw [Dev.serves, Dev.ustate, state]; rfl
  rw [(Dev.linkGone_keepsBut ..).unit off (by rw [unitClass_linkIx hm]; decide)]
  exact ⟨state, why⟩

theorem Dev.packageFail_record (p cause : Nat) : ((d.packageFail p cause).unit (packageIx p)).state = .failed ∧
    ((d.packageFail p cause).unit (packageIx p)).cause = cause := by
  unfold Dev.packageFail
  obtain ⟨state, why, -⟩ := d.setUnit_record (packageIx p) .failed cause true
  have off : (d.setUnit (packageIx p) .failed cause).serves (packageIx p) = false := by rw [Dev.serves, Dev.ustate, state]; rfl
  rw [(Dev.packageGone_keepsUnits ..).unit off (by simp)]
  exact ⟨state, why⟩

/-- Of a lost pair the slice that was FAILED already keeps its record. -/
theorem Dev.pairLost_keeps {k ix : Nat} (h : d.ustate ix = .failed) : (d.pairLost k).unit ix = d.unit ix := by
  unfold Dev.pairLost
  extract_lets b x y z
  have doubled : x.unit ix = d.unit ix := ((d.doubleFault_keepsUnits ..).units ix (by simp)).2 (by rw [Dev.serves, h]; rfl)
  have lost : y.unit ix = d.unit ix :=
    ((Dev.loseSlice_frame _ b).unit ix).trans (((x.loseSlice_frame k).unit ix).trans doubled)
  have each : z.unit ix = d.unit ix := by
    refine Dev.each_maintains (P := fun e => e.unit ix = d.unit ix) [k, b] (fun e j he => ?_) y lost
    extract_lets old p q
    have kept : p.unit ix = e.unit ix := by
      unfold p
      split
      · rfl
      · next ne =>
        have other : sliceIx j ≠ ix := fun same => ne (by
          show e.ustate (sliceIx j) = .failed
          rw [same, Dev.ustate, he]
          exact h)
        have set := e.setUnit_unit_ne other .failed 4 true
        exact (((Dev.overBudget_keepsUnits ..).units ix (by simp)).2 (by rw [Dev.serves_of_unit (set.trans he), Dev.serves, h]; rfl)).trans set
    exact ((Dev.setFlag_frame ..).unit ix).trans (((Dev.setSlice_frame ..).unit ix).trans (kept.trans he))
  exact ((Dev.refuseIngress_frame ..).unit ix).trans (((Dev.refuseIngress_frame ..).unit ix).trans each)

theorem Dev.sliceFail_record {k cause : Nat} : ((d.sliceFail k cause).unit (sliceIx k)).state = .failed ∧
    ((d.sliceFail k cause).unit (sliceIx k)).cause = cause := by
  unfold Dev.sliceFail
  extract_lets +onlyGivenNames b x y _ z w
  obtain ⟨state, why, -⟩ := d.setUnit_record (sliceIx k) .failed cause true
  have off : x.serves (sliceIx k) = false := by rw [Dev.serves, Dev.ustate, state]; rfl
  have same : (if x.serves (sliceIx b) then x.adopt k
      else if x.ustate (sliceIx b) = .resetting && (x.unit (sliceIx b)).recovery then x.pairLost k
      else (w.refuseIngress k).refuseIngress b).unit (sliceIx k) = x.unit (sliceIx k) := by
    split
    · exact ((x.adopt_keepsUnits k).units _ (by simp)).2 off
    split
    · exact x.pairLost_keeps state
    · have cleared : x.Frame w [.regs, .evt, .pmc, .slices, .med, .out, .freeCtr] (evtFields.append [.GLB_WEAR_STAT_DEBT, .PMC_SNAPn_COUNT,
          .PMC_CTRn_COUNT, .SLC_STATUS_BYPASS, .SLC_STATUS_SOLO, .SLC_STATUS_RUNAHEAD, .SLC_WAY_TEST_TESTING, .SLC_STATUS_ADOPTED]) :=
        .step (.step (.mono (Dev.clearSlice_frame ..)) (Dev.setSlice_frame ..)) (Dev.setFlag_frame ..)
      have kept := cleared.unit (sliceIx k)
      generalize w = v at kept
      exact (((v.refuseIngress k).refuseIngress_frame b).unit _).trans (((v.refuseIngress_frame k).unit _).trans kept)
  rw [same]
  exact ⟨state, why⟩
end

end Sys2Proof.Machine
end

section
/-!
The record that a unit has after it fails, resets, drains, or returns to service (R317, R318, R328, R332).
-/
-- Checked one after another: side by side, each waiting for the kernel, the proofs need more threads than the memory admits.
set_option Elab.async false
namespace Sys2Proof.Machine

/-! ## The index of a unit by its class -/

theorem sliceIx_of_class {ix : Nat} (h : unitClass ix = 1) : sliceIx (ix - 2) = ix ∧ ix - 2 < 16 := by
  unfold unitClass at h
  unfold sliceIx
  split_ifs at h <;> omega

theorem complexIx_of_class {ix : Nat} (h : unitClass ix = 2) : complexIx (ix - 18) = ix ∧ ix - 18 < 8 := by
  unfold unitClass at h
  unfold complexIx
  split_ifs at h <;> omega

theorem linkIx_of_class {ix : Nat} (h : unitClass ix = 3) : linkIx (ix - 26) = ix ∧ ix - 26 < 128 := by
  unfold unitClass at h
  unfold linkIx
  split_ifs at h <;> omega

theorem packageIx_of_class {ix : Nat} (h : unitClass ix = 4) : packageIx (ix - 154) = ix ∧ ix - 154 < 64 := by
  unfold unitClass at h
  unfold packageIx
  split_ifs at h <;> omega

theorem stackIx_of_class {ix : Nat} (h : unitClass ix = 5) : stackIx (ix - 218) = ix ∧ ix - 218 < 4 := by
  unfold unitClass at h
  unfold stackIx
  split_ifs at h <;> omega

section
variable (d : Dev)

/-- A unit that fails is FAILED with the cause given, whatever goes with it (R317). -/
theorem Dev.failUnit_record {ix cause : Nat} (live : d.ustate ix ≠ .failed) :
    (d.failUnit ix cause).ustate ix = .failed ∧ ((d.failUnit ix cause).unit ix).cause = cause := by
  unfold Dev.failUnit
  extract_lets old x
  have fails : (x.unit ix).state = .failed ∧ (x.unit ix).cause = cause := by
    unfold x
    rw [if_neg live]
    have alone := d.setUnit_record ix .failed cause true
    split
    · rw [(Dev.headDrop_frame ..).unit ix]
      exact ⟨alone.1, alone.2.1⟩
    · next h =>
      have slice := Dev.sliceFail_record (d.abandonSteps fun _ => true) (k := ix - 2) (cause := cause)
      rwa [(sliceIx_of_class h).1] at slice
    · next h =>
      have complex := Dev.complexFail_record d (n := ix - 18) (cause := cause) (complexIx_of_class h).2
      rwa [(complexIx_of_class h).1] at complex
    · next h =>
      have link := Dev.linkFail_record d (m := ix - 26) (cause := cause) (linkIx_of_class h).2
      rwa [(linkIx_of_class h).1] at link
    · next h =>
      have package := Dev.packageFail_record d (ix - 154) cause
      rwa [(packageIx_of_class h).1] at package
    · next h =>
      have stack := Dev.stackFail_record d (k := ix - 218) (cause := cause) (stackIx_of_class h).2
      rwa [(stackIx_of_class h).1] at stack
    · rw [(Dev.freeGroup_frame ..).unit ix]
      exact ⟨alone.1, alone.2.1⟩
    · exact ⟨alone.1, alone.2.1⟩
  have off : x.serves ix = false := by rw [Dev.serves, Dev.ustate, fails.1]; rfl
  have same : (if cause = 4 then x.overBudget ix old else x).unit ix = x.unit ix := by
    split
    · exact ((x.overBudget_keepsUnits ix old).units ix (by simp)).2 off
    · rfl
  rw [Dev.ustate, same]
  exact fails

/-- The state that a unit takes in service is one of service. -/
theorem Dev.serviceState_serves (ix : Nat) : (d.serviceState ix).serves = true := by
  unfold Dev.serviceState
  extract_lets low
  split <;> rfl

theorem Dev.setUnit_serves {ix : Nat} {st : UState} (cause : Nat) (hw : Bool) (h : st.serves = true) :
    (d.setUnit ix st cause hw).serves ix = true := by
  rw [Dev.serves, Dev.setUnit_ustate]
  exact h

/-- A unit other than a head that returns to service serves (R318), and moves no unit out of service. -/
theorem Dev.enterService_serves {ix : Nat} (cause : Nat) (hw : Bool) (h : unitClass ix ≠ 0) :
    (d.enterService ix cause hw).serves ix = true := by
  unfold Dev.enterService
  rw [if_neg h]
  extract_lets +onlyGivenNames x k low m y
  have on : x.serves ix = true := d.setUnit_serves cause hw (d.serviceState_serves ix)
  split
  · exact ((Dev.KeepsUnits.of (x.setFlag_frame .SLC_STATUS_BYPASS k low)).step (Dev.sliceBack_keepsUnits _ k)).units ix (by simp) |>.1 on
  · have judged : x.KeepsUnits y := x.complexHealth_keepsUnits (m / 16)
    split
    · exact ((judged.step (y.packageHealth_keepsUnits _)).units ix (by simp)).1 on
    · exact (judged.units ix (by simp)).1 on
  · exact on

/-- Of the other units none goes out of service with one that returns (R318). -/
theorem Dev.enterService_keepsBut (ix cause : Nat) (hw : Bool) : Dev.KeepsUnitsBut [unitClass ix] d (d.enterService ix cause hw) := by
  have own : unitClass ix ∈ [unitClass ix] := List.mem_singleton_self _
  unfold Dev.enterService
  split
  · unfold Dev.headService
    extract_lets w e wantW wantR
    exact .ite (fun _ => d.moveUnit_keepsBut _ _ _ _ own) fun _ => .ite (fun _ => d.moveUnit_keepsBut _ _ _ _ own)
      fun _ => d.moveUnit_keepsBut _ _ _ _ own
  extract_lets +onlyGivenNames x k low m y
  have set : Dev.KeepsUnitsBut [unitClass ix] d x := d.setUnit_keepsBut _ _ _ _ own
  split
  · exact set.step (((Dev.KeepsUnits.of (x.setFlag_frame .SLC_STATUS_BYPASS k low)).step (Dev.sliceBack_keepsUnits _ k)).but _)
  · have judged : Dev.KeepsUnitsBut [unitClass ix] d y := set.step ((x.complexHealth_keepsUnits (m / 16)).but _)
    split
    · exact judged.step ((y.packageHealth_keepsUnits _).but _)
    · exact judged
  · exact set

/-- What follows once a unit serves moves regions and queue groups alone. -/
theorem Dev.afterService_keepsBut (ix : Nat) : Dev.KeepsUnitsBut [6, 7] d (d.afterService ix) := by
  unfold Dev.afterService
  split
  · exact .ite (fun _ => d.startRegions_keepsBut) fun _ => .refl d
  · exact (Dev.packageStarted_frame ..).keepsBut
  · refine .ite (fun _ => ?_) fun _ => .refl d
    exact ((d.checkNoTier_frame.keepsBut.step (Dev.startRegions_keepsBut _)).step (Dev.remirrorState_frame ..).keepsBut).step
      (Dev.judgePdeg_frame _).keepsBut
  · exact .refl d

/-- A reset that starts: RESETTING, its quiesce request made at the stamp (R385). -/
theorem Dev.startReset_record (ix cause : Nat) (hw recovery : Bool) : (d.startReset ix cause hw recovery).ustate ix = .resetting ∧
    ((d.startReset ix cause hw recovery).unit ix).cause = cause ∧ ((d.startReset ix cause hw recovery).unit ix).recovery = recovery := by
  unfold Dev.startReset
  extract_lets +onlyGivenNames x _ y
  obtain ⟨state, why, -⟩ := d.setUnit_record ix .resetting cause hw
  have same : y.unit ix = x.unit ix := rfl
  rw [Dev.ustate, Dev.setUnitRec_unit, same]
  exact ⟨state, why, rfl⟩

theorem Dev.startReset_keepsBut (ix cause : Nat) (hw recovery : Bool) {cs : List Nat} (h : unitClass ix ∈ cs) :
    Dev.KeepsUnitsBut cs d (d.startReset ix cause hw recovery) := by
  unfold Dev.startReset
  extract_lets +onlyGivenNames x _ y
  have set : Dev.KeepsUnitsBut cs d x := d.setUnit_keepsBut _ _ _ _ h
  have same : x.KeepsUnits y := .update (.refl x)
  exact (set.step (same.but _)).step (y.setUnitRec_keepsBut _ _ h)

/-- A unit that resets is RESETTING with its cause, whatever follows from it (R317, R328). -/
theorem Dev.resetUnit_record (ix cause : Nat) (hw recovery : Bool) : (d.resetUnit ix cause hw recovery).ustate ix = .resetting ∧
    ((d.resetUnit ix cause hw recovery).unit ix).cause = cause ∧ ((d.resetUnit ix cause hw recovery).unit ix).recovery = recovery := by
  unfold Dev.resetUnit
  extract_lets +onlyGivenNames x k
  obtain ⟨state, why, rec⟩ := d.startReset_record ix cause hw recovery
  have off : x.serves ix = false := by rw [Dev.serves, state]; rfl
  suffices same : (match unitClass ix with
      | 0 => if recovery then x.headDrop ix else x
      | 1 =>
        let k := ix - 2
        ((x.abandonSteps (fun _ => true)).clearSlice k).updateSolo (k ^^^ 1)
      | 2 => (x.complexGone (ix - 18)).readAroundDie (fun die => x.complexOf die = ix - 18 && (x.homeLink die).isNone)
      | 3 => x.linkGone (ix - 26)
      | _ => x).unit ix = x.unit ix by
    rw [Dev.ustate]
    refine ⟨(congrArg UnitRec.state same).trans state, (congrArg UnitRec.cause same).trans why, (congrArg UnitRec.recovery same).trans rec⟩
  split
  · split
    · exact (x.headDrop_frame ix).unit ix
    · rfl
  · refine ((Dev.KeepsUnits.step ?_ (Dev.updateSolo_keepsUnits ..)).units ix (by simp)).2 off
    exact (Dev.KeepsUnits.of (x.abandonSteps_frame _)).step (.of (Dev.clearSlice_frame ..))
  · exact ((Dev.readAroundDie_frame ..).unit ix).trans ((x.complexGone_frame _).unit ix)
  · next h => exact (x.linkGone_keepsBut _).unit off (by rw [h]; decide)
  · rfl
end

end Sys2Proof.Machine
end

section
/-!
O22: the ends of recoveries (R317, R328, R335).
-/
-- Checked one after another: side by side, each waiting for the kernel, the proofs need more threads than the memory admits.
set_option Elab.async false
namespace Sys2Proof.Machine

section
variable (d : Dev)

/-- A change of state leaves the counts of faults and recoveries. -/
theorem Dev.setUnit_ust (ix : Nat) (st : UState) (cause : Nat) (hw : Bool) :
    ∃ units seq kept, (d.setUnit ix st cause hw).ust = { d.ust with units, seq, kept } := by
  unfold Dev.setUnit
  extract_lets u u' kept _ x y
  split
  · exact ⟨_, d.ust.seq, d.ust.kept, rfl⟩
  · refine ⟨_, _, _, (Dev.raise_frame ..).parts .ust (by decide) |>.trans (show y.ust = _ from rfl)⟩

/-- A head takes a state that its link gives (R96). -/
theorem Dev.headService_state (h cause : Nat) (hw : Bool) : (d.headService h cause hw).ustate h ∈ [.off, .online, .degraded] := by
  have moved : ∀ st, (d.moveUnit h st cause hw).ustate h = st := fun st => by
    unfold Dev.moveUnit
    split
    · assumption
    · exact d.setUnit_ustate h st cause hw
  unfold Dev.headService
  extract_lets w e wantW wantR
  split
  · rw [moved]; decide
  split
  · rw [moved]; decide
  · rw [moved]; decide

/-- Judging the health of groups moves no group out of service, and nothing of the fault counts. -/
theorem Dev.groupsJudged (l : List Nat) : d.Frame (d.each l fun d g => d.groupHealth g false) [.regs, .ust, .evt, .jrn, .out] evtFields ∧
    (d.each l fun d g => d.groupHealth g false).ust.recovered = d.ust.recovered := by
  refine ⟨.thenEach (.refl d) fun d g => d.groupHealth_frame g false, ?_⟩
  refine Dev.each_keeps (fun e => e.ust.recovered) l _ (fun e g => ?_) d
  have moved : ∀ st, (e.moveUnit (groupIx g) st 7).ust.recovered = e.ust.recovered := fun st => by
    unfold Dev.moveUnit
    split
    · rfl
    · obtain ⟨units, seq, kept, same⟩ := e.setUnit_ust (groupIx g) st 7 true
      rw [same]
  unfold Dev.groupHealth
  split
  · rfl
  split
  · exact moved _
  · exact moved _
end

theorem unitClass_small {u : Nat} (h : unitClass u ∈ [1, 2]) : u < 222 ∧ unitClass u ≠ 3 ∧ unitClass u ≠ 0 := by
  have cases : unitClass u = 1 ∨ unitClass u = 2 := by simpa using h
  refine ⟨?_, by omega, by omega⟩
  unfold unitClass at cases
  split_ifs at cases <;> omega

/-- A recovery that is complete: it is counted, and the unit returns to service (R317). -/
def Dev.recoverUnit (d : Dev) (unit : Nat) : Dev :=
  let u := d.unit unit
  let d := if u.recovery then { d with ust := { d.ust with recovered := satAdd 24 d.ust.recovered 1 } } else d
  let k := unit - 2
  let d := if u.recovery && unitClass unit = 1 && d.serves (sliceIx (k ^^^ 1)) then d.count .SLC_BUDDY_REPLAY_COUNT (k ^^^ 1) else d
  d.enterService unit 3

theorem Dev.recoverUnit_eq (d : Dev) (unit : Nat) : ∃ x, d.recoverUnit unit = x.enterService unit 3 ∧
    d.Frame x [.regs, .ust] [.SLC_BUDDY_REPLAY_COUNT] := by
  unfold Dev.recoverUnit
  extract_lets u _ x k y
  have counted : d.Frame x [.regs, .ust] [.SLC_BUDDY_REPLAY_COUNT] := .ite (fun _ => .update (.refl d)) fun _ => .refl d
  exact ⟨y, rfl, .ite (fun _ => .step counted (Dev.count_frame ..)) fun _ => counted⟩

theorem Dev.recoverUnit_frame (d : Dev) (unit : Nat) :
    d.Frame (d.recoverUnit unit) serviceParts (serviceFields.append [.SLC_BUDDY_REPLAY_COUNT]) := by
  obtain ⟨x, eq, frame⟩ := d.recoverUnit_eq unit
  rw [eq]
  exact .served frame.mono (x.enterService_frame unit 3 true)

/-- What RECOVERY_COMPLETE comes to for a unit that is past its reset. -/
theorem State.recoveryComplete_unit {s : State} {u : Nat} (ha : s.dev.aon = true) (hu : u < 222) (link : unitClass u ≠ 3)
    (state : s.dev.ustate u = .resetting) (test : (s.dev.unit u).testing = false) (phase : (s.dev.unit u).resetPhase = 0) :
    ∃ e, exec (.recoveryComplete u) s = .next { s with dev := e } ∧
      (s.stamped.recoverUnit u).Frame e [.regs, .evt, .out] evtFields := by
  have guard : (decide (u < 222) && unitClass u ≠ 3 && (s.stamped.unit u).state = .resetting && !(s.stamped.unit u).testing &&
      (s.stamped.unit u).resetPhase = 0) = true := by
    have other : u ≠ pipelineIx := by unfold pipelineIx; omega
    rw [show (s.stamped.unit u).testing = false from test]
    simp [hu, link, show (s.stamped.unit u).state = .resetting from state, show (s.stamped.unit u).resetPhase = 0 from phase]
  exact State.onHealth_to ha ((if_neg (by unfold pipelineIx; omega)).trans (if_pos guard))

/-- A unit that fails is FAILED, whether it was so before or not. -/
theorem Dev.failUnit_failed (d : Dev) (ix cause : Nat) : (d.failUnit ix cause).ustate ix = .failed := by
  by_cases h : d.ustate ix = .failed
  · unfold Dev.failUnit
    extract_lets old x
    have same : x = d := if_pos h
    have off : x.serves ix = false := by rw [same, Dev.serves, h]; rfl
    have state : x.ustate ix = .failed := by rw [same]; exact h
    split
    · rw [Dev.ustate, ((x.overBudget_keepsUnits ix old).units ix (by simp)).2 off]
      exact state
    · exact state
  · exact (d.failUnit_record h).1

/-- A group that is FAILED stays so while another one fails. -/
theorem Dev.failUnit_group (d : Dev) (g h cause : Nat) (failed : d.ustate (groupIx g) = .failed) :
    (d.failUnit (groupIx h) cause).ustate (groupIx g) = .failed := by
  by_cases e : h = g
  · subst e
    exact d.failUnit_failed _ cause
  have other : groupIx h ≠ groupIx g := by unfold groupIx; omega
  unfold Dev.failUnit
  extract_lets old x
  have same : x.unit (groupIx g) = d.unit (groupIx g) := by
    unfold x
    split
    · rfl
    rw [unitClass_groupIx h]
    exact ((Dev.freeGroup_frame ..).unit _).trans (d.setUnit_unit_ne other .failed cause true)
  have off : x.serves (groupIx g) = false := by rw [Dev.serves_of_unit same, Dev.serves, failed]; rfl
  have kept : (if cause = 4 then x.overBudget (groupIx h) old else x).unit (groupIx g) = x.unit (groupIx g) := by
    split
    · exact ((x.overBudget_keepsUnits _ old).units _ (by simp)).2 off
    · rfl
  rw [Dev.ustate, kept, same]
  exact failed

/-- A pipeline that does not recover in time loses every group that served (R328). -/
theorem Dev.pipelineFail_groups (d : Dev) {g : Nat} (hg : g < 256) (on : d.serves (groupIx g) = true) :
    d.pipelineFail.ustate (groupIx g) = .failed := by
  have served : g ∈ d.groupsInService := List.mem_filter.mpr ⟨List.mem_range.mpr hg, on⟩
  exact Dev.each_establishes (P := fun e => e.ustate (groupIx g) = .failed) served (fun e => e.failUnit_failed _ 4)
    (fun e h failed => e.failUnit_group g h 4 failed) d

/-- Of the state that a complete recovery gives a slice or a complex, and the state of a head. -/
theorem Dev.recoverUnit_serves (d : Dev) {u : Nat} (h : unitClass u ≠ 0) : (d.recoverUnit u).serves u = true := by
  obtain ⟨x, eq, -⟩ := d.recoverUnit_eq u
  rw [eq]
  exact x.enterService_serves 3 true h

theorem Dev.recoverUnit_head (d : Dev) {h : Nat} (hh : h < 2) : (d.recoverUnit h).ustate h ∈ [.off, .online, .degraded] := by
  obtain ⟨x, eq, -⟩ := d.recoverUnit_eq h
  rw [eq, Dev.enterService, if_pos (by unfold unitClass; rw [if_pos hh])]
  exact x.headService_state h 3 true

/-- The pipeline's recovery that completes (R335): it ends, it is counted, and each group's health is judged. -/
def Dev.pipelineBack (d : Dev) : Dev :=
  let d := { d with qen := { d.qen with recovering := none } }
  let d := { d with ust := { d.ust with recovered := satAdd 24 d.ust.recovered 1 } }
  d.each d.groupsInService (fun d g => d.groupHealth g false)

theorem Dev.pipelineBack_spec (d : Dev) : d.pipelineBack.qen.recovering = none ∧
    d.pipelineBack.ust.recovered = satAdd 24 d.ust.recovered 1 ∧ d.Frame d.pipelineBack [.regs, .ust, .evt, .jrn, .out, .qen] evtFields := by
  unfold Dev.pipelineBack
  extract_lets +onlyGivenNames _ x _ y
  obtain ⟨frame, counted⟩ := y.groupsJudged y.groupsInService
  have start : d.Frame y [.regs, .ust, .evt, .jrn, .out, .qen] evtFields := .update (.update (.refl d))
  refine ⟨?_, counted, .step start frame⟩
  rw [frame.parts .qen (by decide)]

/-- Settles O22: recovery completes by `Dev.enterService`, and its budget ends it by `Dev.failUnit` (R328). -/
theorem recoveryEndsInTimeOrFails : Obligations.RecoveryEndsInTimeOrFails := by
  unfold Obligations.RecoveryEndsInTimeOrFails
  refine ⟨fun s u ha cls state test phase => ?_, fun s u ha head state test phase => ?_, fun s t ha rec => ?_,
    fun s u ha hu link state rec late => ?_, fun s t ha rec late => ?_⟩
  · obtain ⟨range, link, other⟩ := unitClass_small cls
    obtain ⟨e, he, watched⟩ := State.recoveryComplete_unit ha range link state test phase
    refine ⟨e, he, ?_, ((s.stamped.recoverUnit_frame u).step watched).changesOnly⟩
    rw [Dev.serves, watched.ustate]
    exact s.stamped.recoverUnit_serves other
  · have link : unitClass u ≠ 3 := by unfold unitClass; rw [if_pos head]; decide
    obtain ⟨e, he, watched⟩ := State.recoveryComplete_unit ha (by omega) link state test phase
    refine ⟨e, he, ?_, ((s.stamped.recoverUnit_frame u).step watched).changesOnly⟩
    rw [watched.ustate]
    exact s.stamped.recoverUnit_head head
  · obtain ⟨ended, counted, frame⟩ := s.stamped.pipelineBack_spec
    have guard : s.stamped.qen.recovering.isSome = true := by rw [show s.stamped.qen.recovering = some t from rec]; rfl
    obtain ⟨e, he, watched⟩ : ∃ e, exec (.recoveryComplete pipelineIx) s = .next { s with dev := e } ∧
        s.stamped.pipelineBack.Frame e [.regs, .evt, .out] evtFields := State.onHealth_to ha ((if_pos rfl).trans (if_pos guard))
    refine ⟨e, he, ?_, ?_, (frame.step watched).changesOnly⟩
    · rw [watched.parts .qen (by decide)]
      exact ended
    · rw [watched.parts .ust (by decide)]
      exact counted
  · have guard : (decide (u < 222) && unitClass u ≠ 3 && (s.stamped.unit u).state = .resetting && (s.stamped.unit u).recovery &&
        decide ((s.stamped.unit u).since + 40000 ≤ s.stamped.now)) = true := by
      have same : s.stamped.unit u = s.dev.unit u := rfl
      have time : s.stamped.now = s.tb := rfl
      have resetting : (s.dev.unit u).state = .resetting := state
      rw [same, time, rec, decide_eq_true late]
      simp [hu, link, resetting]
    obtain ⟨e, he, watched⟩ : ∃ e, exec (.recoveryBudgetExceeded u) s = .next { s with dev := e } ∧
        (s.stamped.failUnit u 4).Frame e [.regs, .evt, .out] evtFields :=
      State.onHealth_to ha ((if_neg (by unfold pipelineIx; omega)).trans (if_pos guard))
    obtain ⟨failed, why⟩ := s.stamped.failUnit_record (ix := u) (cause := 4) (by
      rw [show s.stamped.ustate u = .resetting from state]; decide)
    refine ⟨e, he, ?_, ?_, ((s.stamped.failUnit_frame u 4).step watched).changesOnly⟩
    · rw [watched.ustate]
      exact failed
    · rw [watched.unit]
      exact why
  · have guard : (match s.stamped.qen.recovering with | some t => decide (t + 40000 ≤ s.stamped.now) | none => false) = true := by
      have time : s.stamped.now = s.tb := rfl
      rw [show s.stamped.qen.recovering = some t from rec, time]
      exact decide_eq_true late
    obtain ⟨e, he, watched⟩ : ∃ e, exec (.recoveryBudgetExceeded pipelineIx) s = .next { s with dev := e } ∧
        s.stamped.pipelineFail.Frame e [.regs, .evt, .out] evtFields := State.onHealth_to ha ((if_pos rfl).trans (if_pos guard))
    refine ⟨e, he, ?_, fun g hg on => ?_, (s.stamped.pipelineFail_frame.step watched).changesOnly⟩
    · rw [watched.parts .qen (by decide)]
      rfl
    · rw [watched.ustate]
      exact s.stamped.pipelineFail_groups hg on

end Sys2Proof.Machine
end

section
/-!
O21: the faults of units (R317, R326, R328, R335, R336).
-/
-- Checked one after another: side by side, each waiting for the kernel, the proofs need more threads than the memory admits.
set_option Elab.async false
namespace Sys2Proof.Machine

/-! ## A slice that resets, and its buddy -/

theorem buddy_ne (k : Nat) (h : k = k ^^^ 1) : False := by
  have same := congrArg (k ^^^ ·) h
  simp at same

theorem Dev.each_mem_maintains {α : Type} {P : Dev → Prop} {f : Dev → α → Dev} (l : List α) (k : ∀ d, ∀ b ∈ l, P d → P (f d b))
    (d : Dev) (hd : P d) : P (d.each l f) := by
  induction l generalizing d with
  | nil => exact hd
  | cons b l ih => exact ih (fun d c hc => k d c (List.mem_cons_of_mem _ hc)) _ (k d b List.mem_cons_self hd)

theorem Dev.serves_cases {d : Dev} {ix : Nat} (h : d.serves ix = true) : d.ustate ix = .online ∨ d.ustate ix = .degraded := by
  simpa [Dev.serves, UState.serves] using h

section
variable (d : Dev)


/-- Logging an entry leaves the line caches. -/
theorem Dev.logRec_ways (k e : Nat) (t : TtEntry) (j : Nat) : ((d.logRec k e t).slice j).ways = (d.slice j).ways := by
  have kept : ∀ (i : Nat) (x : SliceS), x.ways = (d.slice i).ways → ((d.setSlice i x).slice j).ways = (d.slice j).ways :=
    fun i x same => by
      by_cases h : i = j
      · subst h
        rw [Dev.slice_setSlice]
        exact same
      · rw [Dev.slice_setSlice_ne _ _ h]
  unfold Dev.logRec
  split
  · exact (congrArg SliceS.ways ((Dev.journal_frame ..).slice j)).trans (kept k _ rfl)
  · exact kept (k ^^^ 1) _ rfl

/-- A slice that goes solo, or ends to, leaves the line caches. -/
theorem Dev.updateSolo_ways (k j : Nat) : ((d.updateSolo k).slice j).ways = (d.slice j).ways := by
  unfold Dev.updateSolo
  extract_lets solo turns x y z
  have counted : d.Frame x [.regs] [.SLC_BUDDY_SOLO_COUNT] := .ite (fun _ => Dev.count_frame ..) fun _ => .refl d
  have flagged : d.Frame y [.regs] [.SLC_BUDDY_SOLO_COUNT, .SLC_STATUS_SOLO] := .step counted.mono (Dev.setFlag_frame ..)
  have logged : (z.slice j).ways = (d.slice j).ways := by
    rw [← flagged.slice j]
    unfold z
    split
    · refine Dev.each_maintains (P := fun e => (e.slice j).ways = (y.slice j).ways) _ (fun e (a : Nat × TtEntry) same => ?_) y rfl
      exact (e.logRec_ways k a.1 a.2 j).trans same
    · rfl
  rw [(z.sliceHealth_frame k).slice j]
  exact logged

/-- SOLO reads 1 exactly while a slice serves and its buddy does not. -/
theorem Dev.updateSolo_flag (k : Nat) :
    (d.updateSolo k).reg .SLC_STATUS_SOLO k = b2n (d.serves (sliceIx k) && !d.serves (sliceIx (k ^^^ 1))) := by
  unfold Dev.updateSolo
  extract_lets solo turns x y z
  have flagged : y.reg .SLC_STATUS_SOLO k = b2n solo := x.reg_setFlag _ _ _ (by decide)
  have logged : y.Frame z [.jrn, .slices] [] := by
    refine .ite (fun _ => ?_) fun _ => .refl y
    exact .thenEach (.refl y) fun e (a : Nat × TtEntry) => Dev.logRec_frame ..
  rw [(z.sliceHealth_frame k).reg .SLC_STATUS_SOLO k, logged.reg .SLC_STATUS_SOLO k]
  exact flagged

/-- A cleared slice has an empty line cache. -/
theorem Dev.clearSlice_ways (k : Nat) : ((d.clearSlice k).slice k).ways = [] := by
  unfold Dev.clearSlice
  extract_lets +onlyGivenNames x s y
  rw [(Dev.clearUnitRegs_frame ..).slice k, Dev.slice_setSlice]

/-- A reset that starts moves its own unit alone. -/
theorem Dev.startReset_unit_ne {ix iy : Nat} (h : ix ≠ iy) (cause : Nat) (hw recovery : Bool) :
    (d.startReset ix cause hw recovery).unit iy = d.unit iy := by
  unfold Dev.startReset
  extract_lets +onlyGivenNames x _ y
  have counted : y.unit iy = x.unit iy := rfl
  rw [Dev.unit_setUnitRec_ne _ _ h, counted]
  exact d.setUnit_unit_ne h _ _ _

/-- A slice that resets clears its line cache, and its buddy, where it serves, runs solo (R326). -/
theorem Dev.resetSlice_spec {k : Nat} (hk : k < 16) (cause : Nat) (hw recovery : Bool) (buddy : d.serves (sliceIx (k ^^^ 1)) = true) :
    ((d.resetUnit (sliceIx k) cause hw recovery).slice k).ways = [] ∧
      (d.resetUnit (sliceIx k) cause hw recovery).reg .SLC_STATUS_SOLO (k ^^^ 1) = 1 := by
  unfold Dev.resetUnit
  extract_lets +onlyGivenNames x j
  obtain ⟨state, -, -⟩ := d.startReset_record (sliceIx k) cause hw recovery
  have own : j = k := by unfold j sliceIx; omega
  rw [unitClass_sliceIx hk]
  show (((((x.abandonSteps fun _ => true).clearSlice j).updateSolo (j ^^^ 1)).slice k).ways = [] ∧
    (((x.abandonSteps fun _ => true).clearSlice j).updateSolo (j ^^^ 1)).reg .SLC_STATUS_SOLO (k ^^^ 1) = 1)
  rw [own]
  have kept : x.KeepsUnits ((x.abandonSteps fun _ => true).clearSlice k) :=
    (Dev.KeepsUnits.of (x.abandonSteps_frame _)).step (.of (Dev.clearSlice_frame ..))
  generalize hy : (x.abandonSteps fun _ => true).clearSlice k = y at kept
  have off : y.serves (sliceIx k) = false := by
    have reset : x.serves (sliceIx k) = false := by rw [Dev.serves, state]; rfl
    rw [Dev.serves_of_unit ((kept.units _ (by simp)).2 reset)]
    exact reset
  have on : y.serves (sliceIx (k ^^^ 1)) = true := by
    have other : sliceIx k ≠ sliceIx (k ^^^ 1) := fun same => buddy_ne k (by unfold sliceIx at same; omega)
    exact (kept.units _ (by simp)).1 ((Dev.serves_of_unit (d.startReset_unit_ne other cause hw recovery)).trans buddy)
  refine ⟨?_, ?_⟩
  · rw [y.updateSolo_ways, ← hy]
    exact Dev.clearSlice_ways _ k
  · rw [y.updateSolo_flag, on, Nat.xor_xor_cancel_right, off]
    rfl

/-! ## A pair of slices that is lost -/

theorem Dev.doubleFault_ust (ix other : Nat) :
    (d.doubleFault ix other).ust = { d.ust with doubles := satAdd 16 d.ust.doubles 1 } :=
  (Dev.raise_frame ..).parts .ust (by decide)

theorem Dev.overBudget_ust (ix : Nat) (old : UState) :
    (d.overBudget ix old).ust = { d.ust with overBudget := satAdd 16 d.ust.overBudget 1 } :=
  (Dev.raise_frame ..).parts .ust (by decide)

/-- One slice of a lost pair: FAILED for want of a recovery in its budget, adopted by none. -/
def Dev.loseOfPair (d : Dev) (j : Nat) : Dev :=
  let old := d.ustate (sliceIx j)
  let d := if old = .failed then d else (d.setUnit (sliceIx j) .failed 4).overBudget (sliceIx j) old
  let d := d.setSlice j { d.slice j with adoptedAway := false }
  d.setFlag .SLC_STATUS_ADOPTED j false

theorem Dev.loseOfPair_spec (j : Nat) : (d.loseOfPair j).ustate (sliceIx j) = .failed ∧
    (∀ ix, d.ustate ix = .failed → (d.loseOfPair j).ustate ix = .failed) ∧ (d.loseOfPair j).ust.doubles = d.ust.doubles := by
  unfold Dev.loseOfPair
  extract_lets +onlyGivenNames old x _ y
  have rest : x.Frame (y.setFlag .SLC_STATUS_ADOPTED j false) [.slices, .regs] [.SLC_STATUS_ADOPTED] :=
    .step (.mono (Dev.setSlice_frame ..)) (Dev.setFlag_frame ..)
  rw [rest.ustate, rest.parts .ust (by decide)]
  by_cases h : old = .failed
  · have same : x = d := if_pos h
    rw [same]
    exact ⟨h, fun ix failed => by rw [rest.ustate, same]; exact failed, rfl⟩
  · have same : x = (d.setUnit (sliceIx j) .failed 4).overBudget (sliceIx j) old := if_neg h
    have units : ∀ ix, x.ustate ix = (d.setUnit (sliceIx j) .failed 4).ustate ix := fun ix => by
      rw [same, Dev.ustate, Dev.unit, Dev.overBudget_ust]
      rfl
    refine ⟨(units _).trans (d.setUnit_ustate ..), fun ix failed => ?_, ?_⟩
    · rw [rest.ustate, units]
      by_cases own : sliceIx j = ix
      · rw [← own]
        exact d.setUnit_ustate ..
      · rw [Dev.ustate, d.setUnit_unit_ne own]
        exact failed
    · obtain ⟨units, seq, kept, set⟩ := d.setUnit_ust (sliceIx j) .failed 4 true
      rw [same, Dev.overBudget_ust, set]

/-- A pair whose second slice is lost is a double fault: both are FAILED, and it is counted (R326). -/
theorem Dev.pairLost_spec (k : Nat) : (d.pairLost k).ustate (sliceIx k) = .failed ∧
    (d.pairLost k).ustate (sliceIx (k ^^^ 1)) = .failed ∧ (d.pairLost k).ust.doubles = satAdd 16 d.ust.doubles 1 := by
  unfold Dev.pairLost
  extract_lets b x y z
  have z_eq : z = (y.loseOfPair k).loseOfPair b := rfl
  have ended : ((z.refuseIngress k).refuseIngress b).ust = z.ust :=
    ((Dev.refuseIngress_frame ..).parts .ust (by decide)).trans ((Dev.refuseIngress_frame ..).parts .ust (by decide))
  have lost : y.ust = x.ust := ((Dev.loseSlice_frame ..).parts .ust (by decide)).trans ((Dev.loseSlice_frame ..).parts .ust (by decide))
  obtain ⟨first, -, counted⟩ := y.loseOfPair_spec k
  obtain ⟨second, kept, counted'⟩ := (y.loseOfPair k).loseOfPair_spec b
  have state : ∀ ix, ((z.refuseIngress k).refuseIngress b).ustate ix = z.ustate ix := fun ix => by
    rw [Dev.ustate, Dev.unit, ended]
    rfl
  rw [state, state, ended, z_eq]
  refine ⟨kept _ first, second, (counted'.trans counted).trans ?_⟩
  rw [lost, Dev.doubleFault_ust]

/-! ## FAILED units stay FAILED -/

/-- No FAILED unit leaves its state. -/
structure Dev.KeepsFailed (d e : Dev) : Prop where
  failed : ∀ ix, d.ustate ix = .failed → e.ustate ix = .failed

section
variable {d}
variable {e g : Dev}

theorem Dev.KeepsFailed.refl (d : Dev) : d.KeepsFailed d := ⟨fun _ h => h⟩

theorem Dev.KeepsFailed.step (h : d.KeepsFailed e) (k : e.KeepsFailed g) : d.KeepsFailed g :=
  ⟨fun ix f => k.failed ix (h.failed ix f)⟩

theorem Dev.KeepsUnits.keepsFailed (h : d.KeepsUnits e) : d.KeepsFailed e := ⟨fun ix failed => by
  rw [Dev.ustate, (h.units ix (by simp)).2 (by rw [Dev.serves, failed]; rfl)]
  exact failed⟩

theorem Dev.Frame.keepsFailed {ps : List Part} {fs : List Fld} (h : d.Frame e ps fs) (hp : .ust ∉ ps := by decide) :
    d.KeepsFailed e := (Dev.KeepsUnits.of h hp).keepsFailed

theorem Dev.KeepsFailed.thenEach {α : Type} {l : List α} {f : Dev → α → Dev} (h : d.KeepsFailed e)
    (k : ∀ d a, Dev.KeepsFailed d (f d a)) : d.KeepsFailed (e.each l f) := by
  induction l generalizing e with
  | nil => exact h
  | cons a l ih => exact ih (h.step (k e a))

theorem Dev.KeepsFailed.ite {c : Prop} [Decidable c] (h : c → d.KeepsFailed e) (k : ¬c → d.KeepsFailed g) :
    d.KeepsFailed (if c then e else g) := by
  split
  · exact h ‹_›
  · exact k ‹_›
end

theorem Dev.setFailed_keepsFailed (ix cause : Nat) : d.KeepsFailed (d.setUnit ix .failed cause) := ⟨fun iy failed => by
  by_cases own : ix = iy
  · subst own
    exact d.setUnit_ustate ..
  · rw [Dev.ustate, d.setUnit_unit_ne own]
    exact failed⟩

theorem Dev.packageFail_keepsFailed (p cause : Nat) : d.KeepsFailed (d.packageFail p cause) :=
  (d.setFailed_keepsFailed ..).step (Dev.packageGone_keepsUnits ..).keepsFailed

theorem Dev.linkGone_keepsFailed (m : Nat) : d.KeepsFailed (d.linkGone m) := by
  unfold Dev.linkGone
  split
  · exact .refl d
  · extract_lets x y
    have moved : d.KeepsFailed x := (d.rehomeDies_frame m).keepsFailed.step (Dev.reissueLink_frame _ m).keepsFailed
    have judged : d.KeepsFailed y := moved.step (x.complexHealth_keepsUnits (m / 16)).keepsFailed
    exact .ite (fun _ => .ite (fun _ => judged.step (y.packageFail_keepsFailed ..)) fun _ => judged)
      fun _ => judged.step (y.packageHealth_keepsUnits _).keepsFailed

theorem Dev.linkFail_keepsFailed (m cause : Nat) : d.KeepsFailed (d.linkFail m cause) := by
  unfold Dev.linkFail
  exact ((Dev.setLink_frame ..).keepsFailed.step (Dev.setFailed_keepsFailed ..)).step (Dev.linkGone_keepsFailed ..)

theorem Dev.complexFail_keepsFailed (n cause : Nat) : d.KeepsFailed (d.complexFail n cause) := by
  unfold Dev.complexFail
  extract_lets x y
  have start : d.KeepsFailed y := (d.setFailed_keepsFailed ..).step (x.replayOps_frame n).keepsFailed
  exact .thenEach start fun d m => .ite (fun _ => .refl d) fun _ => d.linkFail_keepsFailed m 6

/-- A complex that fails leaves every FAILED unit FAILED. -/
theorem Dev.failUnit_complex_keepsFailed {n : Nat} (hn : n < 8) (cause : Nat) : d.KeepsFailed (d.failUnit (complexIx n) cause) := by
  unfold Dev.failUnit
  extract_lets old x
  have fails : d.KeepsFailed x := by
    unfold x
    refine .ite (fun _ => .refl d) fun _ => ?_
    rw [unitClass_complexIx hn]
    exact d.complexFail_keepsFailed (complexIx n - 18) cause
  exact .ite (fun _ => fails.step (x.overBudget_keepsUnits ..).keepsFailed) fun _ => fails

theorem Dev.headCount_le_two : d.headCount ≤ 2 := by
  unfold Dev.headCount
  split <;> decide

/-! ## The failure of a stack -/

/-- A stack in service that is lost is FAILED (R327). -/
theorem Dev.unitLoss_failed {ix : Nat} (on : d.serves ix = true) : (d.unitLoss ix).ustate ix = .failed := by
  unfold Dev.unitLoss
  rcases Dev.serves_cases on with h | h <;> rw [h] <;> exact Dev.failUnit_failed _ ix 2

/-- A stack that fails, and the recoveries of complexes that fail with it (R327). -/
def Dev.stackFailure (d : Dev) (k : Nat) : Dev :=
  let again := d.med.remirror
  let d := d.unitLoss (stackIx k)
  d.each ((List.range 8).filter (fun n => (d.unit (complexIx n)).recovery)) (fun d n =>
    let (f, d) := d.drawFree 334
    if d.onlineStacks.isEmpty || (again && f % 2 = 1) then
      (d.doubleFault (complexIx n) (stackIx k)).failUnit (complexIx n) 4
    else d)

theorem Dev.stackFailure_failed {k : Nat} (on : d.serves (stackIx k) = true) : (d.stackFailure k).ustate (stackIx k) = .failed := by
  unfold Dev.stackFailure
  extract_lets again x
  refine Dev.each_mem_maintains (P := fun e => e.ustate (stackIx k) = .failed) _ (fun e n hn failed => ?_) x (d.unitLoss_failed on)
  have small : n < 8 := List.mem_range.mp (List.mem_filter.mp hn).1
  generalize hp : e.drawFree 334 = p
  obtain ⟨f, y⟩ := p
  have drawn : e.Frame y [.freeCtr] [] := by
    have := e.drawFree_frame 334
    rw [hp] at this
    exact this
  have still : y.ustate (stackIx k) = .failed := by rw [drawn.ustate]; exact failed
  show (if y.onlineStacks.isEmpty || (again && f % 2 = 1) then (y.doubleFault (complexIx n) (stackIx k)).failUnit (complexIx n) 4
    else y).ustate (stackIx k) = .failed
  split
  · exact (Dev.failUnit_complex_keepsFailed _ small 4).failed _ ((y.doubleFault_keepsUnits _ _).keepsFailed.failed _ still)
  · exact still

theorem Dev.stackFailure_frame (k : Nat) : d.Frame (d.stackFailure k) serviceParts serviceFields := by
  unfold Dev.stackFailure
  extract_lets again x
  refine .thenEach (d.unitLoss_frame _) fun e n => ?_
  generalize hp : e.drawFree 334 = p
  refine .of_pair (p := p) (a := p.1) (x := p.2) rfl (hp ▸ .mono (e.drawFree_frame 334)) fun drawn => ?_
  exact .ite (fun _ => .served (.step drawn (Dev.doubleFault_frame ..)) (Dev.failUnit_frame ..)) fun _ => drawn

/-! ## A fault of the engines' pipeline -/

/-- A group whose health is judged while the pipeline recovers is DEGRADED, and no other unit moves (R335). -/
theorem Dev.groupHealth_recovering (g : Nat) (rec : d.qen.recovering.isSome = true) :
    (d.serves (groupIx g) = true → (d.groupHealth g false).ustate (groupIx g) = .degraded) ∧
      ∀ ix, groupIx g ≠ ix → (d.groupHealth g false).unit ix = d.unit ix := by
  have moved : ∀ st, ∀ ix, groupIx g ≠ ix → (d.moveUnit (groupIx g) st 7).unit ix = d.unit ix := fun st ix other => by
    unfold Dev.moveUnit
    split
    · rfl
    · exact d.setUnit_unit_ne other _ _ _
  unfold Dev.groupHealth
  refine ⟨fun on => ?_, fun ix other => ?_⟩
  · rw [on, rec, Bool.or_true, if_neg (by decide), if_pos rfl]
    unfold Dev.moveUnit
    split
    · assumption
    · exact d.setUnit_ustate ..
  · split
    · rfl
    split
    · exact moved _ ix other
    · exact moved _ ix other

/-- A pipeline fault outside a recovery (R335): every group in service is judged, with an event. -/
def Dev.judgeFaulted (d : Dev) (g : Nat) : Dev := (d.faultEvent (groupIx g) .degraded).groupHealth g false

theorem Dev.judgeFaulted_frame (g : Nat) : d.Frame (d.judgeFaulted g) [.regs, .ust, .evt, .jrn, .out] evtFields :=
  .step (.mono (Dev.faultEvent_frame ..)) (Dev.groupHealth_frame ..)

theorem Dev.judgeFaulted_spec (g : Nat) (rec : d.qen.recovering.isSome = true) :
    (d.serves (groupIx g) = true → (d.judgeFaulted g).ustate (groupIx g) = .degraded) ∧
      ∀ ix, groupIx g ≠ ix → (d.judgeFaulted g).unit ix = d.unit ix := by
  have event := d.faultEvent_frame (groupIx g) .degraded
  obtain ⟨own, others⟩ := (d.faultEvent (groupIx g) .degraded).groupHealth_recovering g (by
    rw [event.parts .qen (by decide)]; exact rec)
  refine ⟨fun on => own (by rw [Dev.serves, event.ustate]; exact on), fun ix other => (others ix other).trans (event.unit ix)⟩

/-- Every group of the list that serves is DEGRADED afterwards, and the units below the groups keep their records. -/
theorem Dev.judgeFaulted_each (l : List Nat) (rec : d.qen.recovering.isSome = true) :
    (∀ g ∈ l, d.serves (groupIx g) = true → (d.each l Dev.judgeFaulted).ustate (groupIx g) = .degraded) ∧
      (∀ g, d.ustate (groupIx g) = .degraded → (d.each l Dev.judgeFaulted).ustate (groupIx g) = .degraded) ∧
      ∀ ix < 286, (d.each l Dev.judgeFaulted).unit ix = d.unit ix := by
  induction l generalizing d with
  | nil => exact ⟨fun g hg => by simp at hg, fun g h => h, fun ix _ => rfl⟩
  | cons a l ih =>
    obtain ⟨own, others⟩ := d.judgeFaulted_spec a rec
    obtain ⟨each, kept, small⟩ := ih (d.judgeFaulted a) (by
      rw [(d.judgeFaulted_frame a).parts .qen (by decide)]; exact rec)
    have degraded : ∀ g, d.ustate (groupIx g) = .degraded → (d.judgeFaulted a).ustate (groupIx g) = .degraded := fun g h => by
      by_cases same : a = g
      · subst same
        exact own (by rw [Dev.serves, h]; rfl)
      · rw [Dev.ustate, others _ (by unfold groupIx; omega)]
        exact h
    refine ⟨fun g hg on => ?_, fun g h => kept g (degraded g h), fun ix hix => (small ix hix).trans (others ix (by unfold groupIx; omega))⟩
    by_cases same : a = g
    · subst same
      exact kept a (own on)
    · refine each g ((List.mem_cons.mp hg).resolve_left (Ne.symm same)) ?_
      rw [Dev.serves_of_unit (others _ (by unfold groupIx; omega))]
      exact on

def Dev.pipelineFaulted (d : Dev) : Dev :=
  let d := { d with qen := { d.qen with recovering := some d.now } }
  let d := d.each d.groupsInService Dev.judgeFaulted
  match (List.range 16).find? (fun k => (d.unit (sliceIx k)).recovery && (d.records k).any (fun e => e.2.req.kind.isEngine)) with
  | some k => d.pipelineDouble k
  | none => d

/-- With no slice in recovery a pipeline fault begins the pipeline's recovery, and each group in service is DEGRADED. -/
theorem Dev.pipelineFaulted_spec (calm : ∀ k < 16, (d.unit (sliceIx k)).recovery = false) :
    d.pipelineFaulted.qen.recovering = some d.now ∧
      (∀ g < 256, d.serves (groupIx g) = true → d.pipelineFaulted.ustate (groupIx g) = .degraded) ∧
      d.Frame d.pipelineFaulted [.regs, .ust, .evt, .jrn, .out, .qen] evtFields := by
  unfold Dev.pipelineFaulted
  extract_lets +onlyGivenNames _ x y
  obtain ⟨each, -, small⟩ := x.judgeFaulted_each x.groupsInService rfl
  have frame : x.Frame y [.regs, .ust, .evt, .jrn, .out] evtFields := .thenEach (.refl x) fun e g => e.judgeFaulted_frame g
  have start : d.Frame y [.regs, .ust, .evt, .jrn, .out, .qen] evtFields := .step (.update (.refl d)) frame
  have alone : (List.range 16).find? (fun k => (y.unit (sliceIx k)).recovery && (y.records k).any (fun e => e.2.req.kind.isEngine)) = none := by
    rw [List.find?_eq_none]
    intro k hk
    have low := List.mem_range.mp hk
    rw [small (sliceIx k) (by unfold sliceIx; omega), show (x.unit (sliceIx k)).recovery = false from calm k low]
    simp
  rw [alone]
  refine ⟨frame.parts .qen (by decide) ▸ rfl, fun g hg on => each g (List.mem_filter.mpr ⟨List.mem_range.mpr hg, on⟩) on, start⟩
end


section
variable {d : Dev}

/-- A unit in service that meets a fault it can recover from (R317). -/
theorem Dev.recoverableFault_of_serves {ix : Nat} (on : d.serves ix = true) :
    d.recoverableFault ix = (d.faultEvent ix .resetting).resetUnit ix 2 true true := by
  unfold Dev.recoverableFault
  rcases Dev.serves_cases on with h | h <;> rw [h]

/-- A slice that serves, its buddy too: the fault is one to recover from (R326). -/
theorem Dev.sliceFault_of_pair {k : Nat} (on : d.serves (sliceIx k) = true) (buddy : d.serves (sliceIx (k ^^^ 1)) = true)
    (calm : d.qen.recovering = none) : d.sliceFault k = (d.faultEvent (sliceIx k) .resetting).resetUnit (sliceIx k) 2 true true := by
  unfold Dev.sliceFault
  extract_lets b u v replaying inReset solo live d'
  have live_eq : u.state = .online ∨ u.state = .degraded := Dev.serves_cases on
  have buddy_eq : v.state = .online ∨ v.state = .degraded := Dev.serves_cases buddy
  have first : ((live && (inReset || solo)) || replaying) = false := by
    have noReset : inReset = false := by unfold inReset; rcases buddy_eq with h | h <;> rw [h] <;> rfl
    have noSolo : decide solo = false := decide_eq_false (by unfold solo; rcases buddy_eq with h | h <;> rw [h] <;> decide)
    have noReplay : replaying = false := by unfold replaying; rcases live_eq with h | h <;> rw [h] <;> rfl
    rw [noReset, noSolo, noReplay, Bool.or_false, Bool.or_false, Bool.and_false]
  have recovers : d' = d.recoverableFault (sliceIx k) := if_neg (by rw [first]; decide)
  rw [calm, recovers, d.recoverableFault_of_serves on]
  rfl

/-- A slice that serves while its buddy is in reset: a double fault (R326). -/
theorem Dev.sliceFault_of_double {k : Nat} (on : d.serves (sliceIx k) = true) (buddy : d.ustate (sliceIx (k ^^^ 1)) = .resetting)
    (test : (d.unit (sliceIx (k ^^^ 1))).testing = false) (calm : d.qen.recovering = none) :
    d.sliceFault k = (d.faultEvent (sliceIx k) .failed).pairLost k := by
  unfold Dev.sliceFault
  extract_lets b u v replaying inReset solo live d'
  have live_eq : live = true := by
    have cases : u.state = .online ∨ u.state = .degraded := Dev.serves_cases on
    unfold live
    rcases cases with h | h <;> rw [h] <;> rfl
  have reset : inReset = true := by
    have state : v.state = .resetting := buddy
    have noTest : v.testing = false := test
    unfold inReset
    rw [state, noTest]
    rfl
  have lost : d' = (d.faultEvent (sliceIx k) .failed).pairLost k := if_pos (by rw [live_eq, reset]; rfl)
  rw [calm, lost]
  rfl
end

/-- Settles O21: recoverable faults reset their unit (`Dev.resetUnit`), losses fail it (`Dev.failUnit`), and the pipeline's fault
judges its groups. -/
theorem unitFaultsTakeEffect : Obligations.UnitFaultsTakeEffect := by
  unfold Obligations.UnitFaultsTakeEffect
  refine ⟨fun s k ha hk on buddy calm => ?_, fun s k ha hk on buddy test calm => ?_, fun s n ha hn on => ?_, fun s h ha hh on => ?_,
    fun s k ha hk on => ?_, fun s p ha hp on => ?_, fun s ha calm quiet => ?_⟩
  · obtain ⟨e, he, watched⟩ : ∃ e, exec (.sliceFault k) s = .next { s with dev := e } ∧
        (s.stamped.sliceFault k).Frame e [.regs, .evt, .out] evtFields := State.onHealth_to ha (if_pos (decide_eq_true hk))
    have frame := s.stamped.sliceFault_frame k
    rw [Dev.sliceFault_of_pair (d := s.stamped) on buddy calm] at watched frame
    have event := s.stamped.faultEvent_frame (sliceIx k) .resetting
    generalize s.stamped.faultEvent (sliceIx k) .resetting = x at watched frame event
    obtain ⟨state, why, rec⟩ := x.resetUnit_record (sliceIx k) 2 true true
    obtain ⟨ways, solo⟩ := x.resetSlice_spec hk 2 true true (by rw [Dev.serves, event.ustate]; exact buddy)
    refine ⟨e, he, ?_, ?_, ?_, ?_, ?_, (frame.step watched).changesOnly⟩
    · rw [watched.ustate]; exact state
    · rw [watched.unit]; exact rec
    · rw [watched.unit]; exact why
    · rw [watched.slice]; exact ways
    · rw [watched.reg .SLC_STATUS_SOLO]; exact solo
  · obtain ⟨e, he, watched⟩ : ∃ e, exec (.sliceFault k) s = .next { s with dev := e } ∧
        (s.stamped.sliceFault k).Frame e [.regs, .evt, .out] evtFields := State.onHealth_to ha (if_pos (decide_eq_true hk))
    have frame := s.stamped.sliceFault_frame k
    rw [Dev.sliceFault_of_double (d := s.stamped) on buddy test calm] at watched frame
    have event := (s.stamped.faultEvent_frame (sliceIx k) .failed).parts .ust (by decide)
    generalize s.stamped.faultEvent (sliceIx k) .failed = x at watched frame event
    obtain ⟨first, second, counted⟩ := x.pairLost_spec k
    refine ⟨e, he, ?_, ?_, ?_, (frame.step watched).changesOnly⟩
    · rw [watched.ustate]; exact first
    · rw [watched.ustate]; exact second
    · rw [watched.parts .ust (by decide), counted, event]
  · obtain ⟨e, he, watched⟩ : ∃ e, exec (.mediaComplexFault n) s = .next { s with dev := e } ∧
        (s.stamped.recoverableFault (complexIx n)).Frame e [.regs, .evt, .out] evtFields :=
      State.onHealth_to ha (if_pos (decide_eq_true hn))
    have frame := s.stamped.recoverableFault_frame (complexIx n)
    rw [Dev.recoverableFault_of_serves (d := s.stamped) on] at watched frame
    obtain ⟨state, -, rec⟩ := (s.stamped.faultEvent (complexIx n) .resetting).resetUnit_record (complexIx n) 2 true true
    refine ⟨e, he, ?_, ?_, (frame.step watched).changesOnly⟩
    · rw [watched.ustate]; exact state
    · rw [watched.unit]; exact rec
  · have two : h < 2 := Nat.lt_of_lt_of_le hh s.dev.headCount_le_two
    obtain ⟨e, he, watched⟩ : ∃ e, exec (.headInternalError h) s = .next { s with dev := e } ∧
        (s.stamped.recoverableFault (headIx h)).Frame e [.regs, .evt, .out] evtFields :=
      State.onHealth_to ha (if_pos (decide_eq_true hh))
    have frame := s.stamped.recoverableFault_frame (headIx h)
    rw [Dev.recoverableFault_of_serves (d := s.stamped) on] at watched frame
    generalize s.stamped.faultEvent (headIx h) .resetting = x at watched frame
    obtain ⟨state, -, rec⟩ := x.resetUnit_record (headIx h) 2 true true
    have dropped : ((x.resetUnit (headIx h) 2 true true).head h).live = [] := by
      unfold Dev.resetUnit
      extract_lets +onlyGivenNames y k
      rw [show unitClass (headIx h) = 0 by unfold unitClass headIx; rw [if_pos two]]
      show ((y.headDrop h).head h).live = []
      rw [y.headDrop_head]
    refine ⟨e, he, ?_, ?_, ?_, (frame.step watched).changesOnly⟩
    · rw [watched.ustate]; exact state
    · rw [watched.unit]; exact rec
    · rw [watched.head]; exact dropped
  · obtain ⟨e, he, watched⟩ : ∃ e, exec (.dramStackFailure k) s = .next { s with dev := e } ∧
        (s.stamped.stackFailure k).Frame e [.regs, .evt, .out] evtFields := State.onHealth_to ha (if_pos (decide_eq_true hk))
    refine ⟨e, he, ?_, ((s.stamped.stackFailure_frame k).step watched).changesOnly⟩
    rw [watched.ustate]
    exact s.stamped.stackFailure_failed on
  · obtain ⟨e, he, watched⟩ : ∃ e, exec (.packageFailure p) s = .next { s with dev := e } ∧
        (s.stamped.unitLoss (packageIx p)).Frame e [.regs, .evt, .out] evtFields := State.onHealth_to ha (if_pos (decide_eq_true hp))
    refine ⟨e, he, ?_, ((s.stamped.unitLoss_frame (packageIx p)).step watched).changesOnly⟩
    rw [watched.ustate]
    exact s.stamped.unitLoss_failed on
  · obtain ⟨rec, groups, frame⟩ := s.stamped.pipelineFaulted_spec quiet
    obtain ⟨e, he, watched⟩ : ∃ e, exec .pipelineFault s = .next { s with dev := e } ∧
        s.stamped.pipelineFaulted.Frame e [.regs, .evt, .out] evtFields := by
      refine State.onHealth_to ha ?_
      rw [show s.stamped.qen.recovering = none from calm]
      rfl
    refine ⟨e, he, ?_, fun g hg on => ?_, (frame.step watched).changesOnly⟩
    · rw [watched.parts .qen (by decide)]
      exact rec
    · rw [watched.ustate]
      exact groups g hg on

end Sys2Proof.Machine
end

section
/-!
O23: the drains, resets, starts and tests of units (R330, R332, R337, R385).
-/
-- Checked one after another: side by side, each waiting for the kernel, the proofs need more threads than the memory admits.
set_option Elab.async false
namespace Sys2Proof.Machine

theorem unitClass_range {u : Nat} (h : unitClass u ∈ [1, 2, 3, 5]) : unitClass u ∉ [4, 6, 7] ∧ unitClass u ≠ 0 := by
  have cases : unitClass u = 1 ∨ unitClass u = 2 ∨ unitClass u = 3 ∨ unitClass u = 5 := by simpa using h
  rcases cases with e | e | e | e <;> rw [e] <;> decide

section
variable (d : Dev)

/-- A drain that ends leaves its unit in the state commanded, whatever goes with it (R330). -/
theorem Dev.endDrainOf_state {ix : Nat} {t : UState} (ht : t ∈ [.quiesced, .off, .retired]) : (d.endDrainOf ix t).ustate ix = t := by
  have out : t.serves = false := by
    have cases : t = .quiesced ∨ t = .off ∨ t = .retired := by simpa using ht
    rcases cases with e | e | e <;> rw [e] <;> rfl
  unfold Dev.endDrainOf
  extract_lets +onlyGivenNames x _ y z
  have off : x.serves ix = false := by
    rw [Dev.serves, d.setUnit_ustate]
    exact out
  have same : z.unit ix = x.unit ix := by
    unfold z
    split
    · exact ((x.adopt_keepsUnits _).units ix (by simp)).2 off
    · exact (x.complexGone_frame _).unit ix
    · next h =>
      have set : (x.setLink (ix - 26) { x.link (ix - 26) with train := 0, rec_ := false, enabled := false }).serves ix = false := off
      exact (Dev.linkGone_keepsBut _ _).unit set (by rw [h]; decide)
    · next h =>
      have gone : y.unit ix = x.unit ix := ((x.stackGone_keepsUnits _).units ix (by simp)).2 off
      have still : y.serves ix = false := (Dev.serves_of_unit gone).trans off
      show (if y.memActive then y.checkNoTier.startRegions else y).unit ix = x.unit ix
      split
      · rw [← gone]
        exact (y.checkNoTier_frame.keepsBut.step y.checkNoTier.startRegions_keepsBut).unit still (by rw [h]; decide)
      · exact gone
    · rfl
  have ended : (if t = .off || t = .retired then z.domainOff ix else z).unit ix = z.unit ix := by
    split
    · exact (z.domainOff_frame ix).unit ix
    · rfl
  rw [Dev.ustate]
  refine (congrArg UnitRec.state (ended.trans same)).trans ?_
  exact d.setUnit_ustate ..

/-- The quiesce request is answered, or lets its time pass: the unit's reset is asserted at the stamp, and counted (R385). -/
def Dev.assertReset (d : Dev) (ix : Nat) : Dev :=
  (d.setUnitRec ix { d.unit ix with resetPhase := 2, phaseAt := d.now }).count .RST_COUNT_UNIT

theorem Dev.assertReset_unit (ix : Nat) : (d.assertReset ix).unit ix = { d.unit ix with resetPhase := 2, phaseAt := d.now } :=
  ((Dev.count_frame ..).unit ix).trans (d.setUnitRec_unit ix _)

theorem Dev.assertReset_frame (ix : Nat) : d.Frame (d.assertReset ix) [.ust, .regs] [.RST_COUNT_UNIT] :=
  .step (.mono (Dev.setUnitRec_frame ..)) (Dev.count_frame ..)

/-- A starting unit whose initialisation passes, and a reset unit whose test passes, serve (R318). -/
theorem Dev.enterAfter_serves {ix : Nat} (cause : Nat) (h : unitClass ix ∉ [0, 6, 7]) :
    ((d.enterService ix cause).afterService ix).serves ix = true :=
  (Dev.afterService_keepsBut _ ix).serves (d.enterService_serves cause true fun e => h (by rw [e]; decide))
    fun m => h (List.mem_cons_of_mem _ m)

theorem Dev.enterAfter_frame (ix cause : Nat) : d.Frame ((d.enterService ix cause).afterService ix) serviceParts serviceFields :=
  .step (d.enterService_frame ix cause true) (Dev.afterService_frame ..)

theorem Dev.linkTested_keepsBut {m : Nat} (h : m < 128) : Dev.KeepsUnitsBut [3] d (d.linkTested m) := by
  unfold Dev.linkTested
  have entered := (d.setLink m { d.link m with train := 6, mode := 0, enabled := true, rec_ := false, fulls := [], activeAt := d.now }).enterService_keepsBut
    (linkIx m) 3 true
  rw [unitClass_linkIx h] at entered
  exact (d.setLink_frame m _).keepsBut.step entered

theorem Dev.testedLinks_lt {n m : Nat} (hn : n < 8) (h : m ∈ d.testedLinks n) : m < 128 := by
  obtain ⟨i, hi, rfl⟩ := List.mem_map.mp (List.mem_filter.mp h).1
  have := List.mem_range.mp hi
  omega

/-- A link that fails leaves a unit above it that does not serve as it is. -/
theorem Dev.failUnit_link_keepsBut {m : Nat} (cause : Nat) (h : m < 128) :
    Dev.KeepsUnitsBut [3, 4, 5, 6, 7] d (d.failUnit (linkIx m) cause) := by
  unfold Dev.failUnit
  extract_lets old x
  have fails : Dev.KeepsUnitsBut [3, 4, 5, 6, 7] d x := by
    unfold x
    refine .ite (fun _ => .refl d) fun _ => ?_
    rw [unitClass_linkIx h]
    have same : linkIx m - 26 = m := by unfold linkIx; omega
    show Dev.KeepsUnitsBut [3, 4, 5, 6, 7] d (d.linkFail (linkIx m - 26) cause)
    rw [same]
    exact d.linkFail_keepsBut cause h
  exact .ite (fun _ => fails.step ((x.overBudget_keepsUnits ..).but _)) fun _ => fails

/-- The end of the built-in test of REPAIR (R330). -/
def Dev.testDone (d : Dev) (unit : Nat) (pass : Bool) : Dev :=
  match unitClass unit, pass with
  | 3, true => d.linkTested (unit - 26)
  | 2, true =>
    let ms := d.testedLinks (unit - 18)
    let d := (d.enterService unit 3).afterService unit
    d.each ms Dev.linkTested
  | 2, false => (d.each (d.testedLinks (unit - 18)) (fun d m => d.failUnit (linkIx m) 6)).failUnit unit 8
  | _, true => (d.enterService unit 3).afterService unit
  | _, false => d.failUnit unit 8

theorem Dev.testDone_frame (unit : Nat) (pass : Bool) : d.Frame (d.testDone unit pass) serviceParts serviceFields := by
  unfold Dev.testDone
  split
  · exact d.linkTested_frame _
  · exact .thenEach (d.enterAfter_frame unit 3) fun e m => e.linkTested_frame m
  · exact .step (.thenEach (.refl d) fun e m => e.failUnit_frame (linkIx m) 6) (Dev.failUnit_frame ..)
  · exact d.enterAfter_frame unit 3
  · exact d.failUnit_frame unit 8

theorem Dev.testDone_passed {u : Nat} (h : unitClass u ∈ [1, 2, 3, 5]) : (d.testDone u true).serves u = true := by
  have other : unitClass u ∉ [0, 6, 7] := by
    obtain ⟨no, zero⟩ := unitClass_range h
    simp only [List.mem_cons, List.not_mem_nil, or_false, not_or] at no ⊢
    exact ⟨zero, no.2⟩
  unfold Dev.testDone
  split
  · next e _ =>
    have link := linkIx_of_class e
    unfold Dev.linkTested
    rw [link.1]
    exact Dev.enterService_serves _ 3 true (by rw [e]; decide)
  · next e _ =>
    have small := (complexIx_of_class e).2
    refine (Dev.KeepsUnitsBut.thenEachMem (cs := [3]) (.refl _) fun x m hm => x.linkTested_keepsBut (d.testedLinks_lt small hm)).serves
      (d.enterAfter_serves 3 other) (by rw [e]; decide)
  · contradiction
  · exact d.enterAfter_serves 3 other
  · contradiction

theorem Dev.testDone_failed {u : Nat} (live : d.ustate u = .resetting) :
    (d.testDone u false).ustate u = .failed ∧ ((d.testDone u false).unit u).cause = 8 := by
  unfold Dev.testDone
  split
  · contradiction
  · contradiction
  · next e _ =>
    have small := (complexIx_of_class e).2
    have kept : Dev.KeepsUnitsBut [3, 4, 5, 6, 7] d (d.each (d.testedLinks (u - 18)) fun d m => d.failUnit (linkIx m) 6) :=
      .thenEachMem (.refl d) fun x m hm => x.failUnit_link_keepsBut 6 (d.testedLinks_lt small hm)
    refine Dev.failUnit_record _ ?_
    rw [Dev.ustate, kept.unit (by rw [Dev.serves, live]; rfl) (by rw [e]; decide)]
    show d.ustate u ≠ .failed
    rw [live]
    decide
  · contradiction
  · exact d.failUnit_record (by rw [live]; decide)

/-- A reset that is released (R385): a complex replays its operations and resets its dies. -/
def Dev.releaseReset (d : Dev) (unit : Nat) : Dev :=
  let d := d.setUnitRec unit { d.unit unit with resetPhase := 0, phaseAt := d.now }
  if unitClass unit = 2 then (d.replayOps (unit - 18)).resetDies (unit - 18) else d

theorem Dev.releaseReset_spec (u : Nat) : (d.releaseReset u).unit u = { d.unit u with resetPhase := 0, phaseAt := d.now } ∧
    d.ChangesOnly (d.releaseReset u) (if unitClass u = 2 then
      [.cry, .evt, .freeCtr, .jrn, .med, .out, .pmc, .regs, .tier, .ust] else [.ust]) := by
  unfold Dev.releaseReset
  extract_lets +onlyGivenNames _ x
  have set : d.Frame x [.ust] [] := Dev.setUnitRec_frame ..
  have own : x.unit u = { d.unit u with resetPhase := 0, phaseAt := d.now } := d.setUnitRec_unit u _
  split
  · have replayed := x.replayOps_frame (u - 18)
    have reset := (x.replayOps (u - 18)).resetDies_frame (u - 18)
    refine ⟨(reset.unit u).trans ((replayed.unit u).trans own), ?_⟩
    have all : d.Frame ((x.replayOps (u - 18)).resetDies (u - 18)) [.cry, .evt, .freeCtr, .jrn, .med, .out, .pmc, .regs, .tier, .ust]
        (evtFields.append [.DRT_CULLET_CNT_ABANDONED, .DRT_CULLET_CNT_TGT_RETIRED, .GLB_WEAR_STAT_DEBT, .ORC_CACHE_HITS,
          .PMC_SNAPn_COUNT, .PMC_CTRn_COUNT, .MCX_SCHED_CNT1_SUS_EXHAUST, .MCX_SCHED_CNT0_SUSPENDS, .MCX_SCHED_CNT0_READAROUND,
          .DRT_TWIN_STAGING, .DRT_PDEG_CAUSE, .DRT_PDEG_ACTIVE, .GLB_STATUS_PDEG]) := .step (.step set.mono replayed) reset
    exact all.changesOnly
  · exact ⟨own, set.changesOnly⟩
end


/-- A digest snapshot is freed (R337). -/
def Dev.dropSnapshot (d : Dev) (i : Nat) : Dev := { d with ust := { d.ust with snaps := d.ust.snaps.del i } }

theorem State.snapshotExpires {s : State} {i : Nat} {x : Snapshot} (ha : s.dev.aon = true) (found : s.dev.ust.snaps.find i = some x)
    (late : x.lastRead + 60000000000 ≤ s.tb) :
    exec (.stateDigestExpiry i) s = .next { s with dev := s.stamped.dropSnapshot i } := by
  show execStateDigestExpiry i s = _
  unfold execStateDigestExpiry
  refine State.on_to ha ?_
  have time : s.stamped.now = s.tb := rfl
  split
  · next y hy =>
    obtain rfl := Option.some.inj (hy.symm.trans found)
    rw [time]
    exact if_pos (decide_eq_true late)
  · next missing => exact absurd (missing.symm.trans found) (by simp)

/-- Settles O23: each command moves its unit by `Dev.endDrainOf`, `Dev.assertReset`, `Dev.releaseReset`, `Dev.enterService`,
`Dev.failUnit` or `Dev.testDone`. -/
theorem unitDrainsAndResetsFollowTheirTimers : Obligations.UnitDrainsAndResetsFollowTheirTimers := by
  unfold Obligations.UnitDrainsAndResetsFollowTheirTimers
  refine ⟨fun s u t ha state target ht empty => ?_, fun s u ha state phase => ?_, fun s u t ha state target ht cls late => ?_,
    fun s u ha state phase late => ?_, fun s u ha state phase late => ?_, fun s u ha state ready => ?_,
    fun s u t ha state bound late => ?_, fun s u pass ha state test cls => ?_, fun s i x ha found late => ?_⟩
  · obtain ⟨e, he, watched⟩ : ∃ e, exec (.unitIdle u) s = .next { s with dev := e } ∧
        (s.stamped.endDrainOf u t).Frame e [.regs, .evt, .out] evtFields := by
      refine State.onHealth_to ha ?_
      extract_lets v
      split
      · next t' _ ht' =>
        obtain rfl := Option.some.inj (ht'.symm.trans target)
        exact if_pos empty
      · next h => exact absurd (h.symm.trans state) (by decide)
      · next no => exact (no t state target).elim
    refine ⟨e, he, ?_, ((s.stamped.endDrainOf_frame u t).step watched).changesOnly⟩
    rw [watched.ustate]
    exact s.stamped.endDrainOf_state ht
  · obtain ⟨e, he, watched⟩ : ∃ e, exec (.unitIdle u) s = .next { s with dev := e } ∧
        (s.stamped.assertReset u).Frame e [.regs, .evt, .out] evtFields := by
      refine State.onHealth_to ha ?_
      extract_lets v
      split
      · next h _ => exact absurd (h.symm.trans state) (by decide)
      · exact if_pos (decide_eq_true phase)
      · next no _ => exact (no state).elim
    have own := s.stamped.assertReset_unit u
    have set : s.stamped.Frame (s.stamped.setUnitRec u { s.stamped.unit u with resetPhase := 2, phaseAt := s.stamped.now }) [.ust] [] :=
      Dev.setUnitRec_frame ..
    have all : s.stamped.Frame e [.evt, .out, .regs, .ust] (evtFields.append [.RST_COUNT_UNIT]) :=
      .step (s.stamped.assertReset_frame u).mono watched
    refine ⟨e, he, ?_, ?_, ?_, set.counted watched, all.changesOnly⟩
    · rw [watched.unit, own]
    · rw [watched.unit, own]
    · rw [watched.ustate, Dev.ustate, own]
      exact state
  · obtain ⟨e, he, watched⟩ : ∃ e, exec (.idleHandshakeTimeout u) s = .next { s with dev := e } ∧
        ((s.stamped.count .RST_HS_TIMEOUTS).endDrainOf u t).Frame e [.regs, .evt, .out] evtFields := by
      refine State.onHealth_to ha ?_
      extract_lets v n
      split
      · next t' _ ht' =>
        obtain rfl := Option.some.inj (ht'.symm.trans target)
        exact if_pos (by rw [decide_eq_true cls]; exact decide_eq_true late)
      · next h => exact absurd (h.symm.trans state) (by decide)
      · next no => exact (no t state target).elim
    have drained := (s.stamped.count .RST_HS_TIMEOUTS).endDrainOf_frame u t
    have all : s.stamped.Frame e serviceParts (serviceFields.append [.PWR_PD_ON, .RST_HS_TIMEOUTS]) :=
      .step (.step (.mono (Dev.count_frame ..)) drained) watched
    refine ⟨e, he, ?_, ?_, all.changesOnly⟩
    · rw [watched.ustate]
      exact Dev.endDrainOf_state _ ht
    · have later : (s.stamped.count .RST_HS_TIMEOUTS).Frame e serviceParts (serviceFields.append [.PWR_PD_ON]) :=
        .step drained watched
      exact (Dev.Frame.refl (ps := []) (fs := []) s.stamped).counted later
  · obtain ⟨e, he, watched⟩ : ∃ e, exec (.idleHandshakeTimeout u) s = .next { s with dev := e } ∧
        ((s.stamped.assertReset u).count .RST_HS_TIMEOUTS).Frame e [.regs, .evt, .out] evtFields := by
      refine State.onHealth_to ha ?_
      extract_lets v n
      split
      · next h _ => exact absurd (h.symm.trans state) (by decide)
      · exact if_pos (by rw [decide_eq_true (show v.resetPhase = 1 from phase)]; exact decide_eq_true late)
      · next no _ => exact (no state).elim
    have own := s.stamped.assertReset_unit u
    have set : s.stamped.Frame (s.stamped.setUnitRec u { s.stamped.unit u with resetPhase := 2, phaseAt := s.stamped.now }) [.ust] [] :=
      Dev.setUnitRec_frame ..
    have second := (s.stamped.assertReset u).count_frame .RST_HS_TIMEOUTS 0 1
    have later : (s.stamped.assertReset u).Frame e [.regs, .evt, .out] (evtFields.append [.RST_HS_TIMEOUTS]) :=
      .step second.mono watched
    have all : s.stamped.Frame e [.evt, .out, .regs, .ust] (evtFields.append [.RST_COUNT_UNIT, .RST_HS_TIMEOUTS]) :=
      .step (s.stamped.assertReset_frame u).mono later
    refine ⟨e, he, ?_, set.counted later, (s.stamped.assertReset_frame u).counted watched, all.changesOnly⟩
    rw [watched.unit, second.unit, own]
  · obtain ⟨own, only⟩ := s.stamped.releaseReset_spec u
    refine ⟨s.stamped.releaseReset u, ?_, ?_, ?_, ?_, only⟩
    · show exec (.unitResetRelease u) s = _
      refine State.on_to ha (if_pos ?_)
      rw [decide_eq_true (show (s.stamped.unit u).state = .resetting from state),
        decide_eq_true (show (s.stamped.unit u).resetPhase = 2 from phase)]
      exact decide_eq_true late
    · rw [own]
    · rw [own]
    · rw [Dev.ustate, own]
      exact state
  · obtain ⟨e, he, watched⟩ : ∃ e, exec (.initialisationPassed u) s = .next { s with dev := e } ∧
        ((s.stamped.enterService u (s.stamped.unit u).cause).afterService u).Frame e [.regs, .evt, .out] evtFields := by
      refine State.onHealth_to ha (if_pos ?_)
      rw [decide_eq_true (show (s.stamped.unit u).state = .starting from state)]
      rcases ready with cls | ⟨package, served⟩
      · have cases : unitClass u = 1 ∨ unitClass u = 2 ∨ unitClass u = 5 := by simpa using cls
        rcases cases with h | h | h <;> rw [h] <;> rfl
      · rw [package]
        exact served
    refine ⟨e, he, ?_, ((s.stamped.enterAfter_frame u _).step watched).changesOnly⟩
    rw [Dev.serves, watched.ustate]
    refine s.stamped.enterAfter_serves _ ?_
    have cases : unitClass u = 1 ∨ unitClass u = 2 ∨ unitClass u = 5 ∨ unitClass u = 4 := by
      rcases ready with cls | ⟨package, -⟩
      · have three : unitClass u = 1 ∨ unitClass u = 2 ∨ unitClass u = 5 := by simpa using cls
        omega
      · omega
    rcases cases with h | h | h | h <;> rw [h] <;> decide
  · obtain ⟨e, he, watched⟩ : ∃ e, exec (.startBoundExpiry u) s = .next { s with dev := e } ∧
        (s.stamped.failUnit u 8).Frame e [.regs, .evt, .out] evtFields := by
      refine State.onHealth_to ha (if_pos ?_)
      rw [decide_eq_true (show (s.stamped.unit u).state = .starting from state), show (s.stamped.unit u).bound = some t from bound]
      exact decide_eq_true late
    obtain ⟨failed, why⟩ := s.stamped.failUnit_record (ix := u) (cause := 8) (by
      rw [show s.stamped.ustate u = .starting from state]; decide)
    refine ⟨e, he, ?_, ?_, ((s.stamped.failUnit_frame u 8).step watched).changesOnly⟩
    · rw [watched.ustate]
      exact failed
    · rw [watched.unit]
      exact why
  · obtain ⟨e, he, watched⟩ : ∃ e, exec (.builtInTestDone u pass) s = .next { s with dev := e } ∧
        (s.stamped.testDone u pass).Frame e [.regs, .evt, .out] evtFields := by
      refine State.onHealth_to ha (if_pos ?_)
      rw [decide_eq_true (show (s.stamped.unit u).state = .resetting from state)]
      exact test
    refine ⟨e, he, fun h => ?_, fun h => ?_, ((s.stamped.testDone_frame u pass).step watched).changesOnly⟩
    · subst h
      rw [Dev.serves, watched.ustate]
      exact s.stamped.testDone_passed cls
    · subst h
      rw [watched.ustate, watched.unit]
      exact s.stamped.testDone_failed state
  · exact ⟨_, State.snapshotExpires ha found late, rfl, (Dev.Frame.update (ps := [.ust]) (fs := []) (.refl s.stamped)).changesOnly⟩

end Sys2Proof.Machine
end

section
/-!
O26: management commands and their answers (R429 to R435).
-/
-- Checked one after another: side by side, each waiting for the kernel, the proofs need more threads than the memory admits.
set_option Elab.async false
namespace Sys2Proof.Machine

/-! ## Answers among the outputs -/

/-- What is put out on the way holds no answer to a management command. -/
def Dev.Unanswered (d e : Dev) : Prop := ∃ l, e.out = l ++ d.out ∧ ∀ j q r x, Output.reply j q r x ∉ l

namespace Dev.Unanswered
variable {d e g : Dev}

theorem same (h : e.out = d.out) : d.Unanswered e := ⟨[], h, fun _ _ _ _ => List.not_mem_nil⟩

theorem refl (d : Dev) : d.Unanswered d := .same rfl

theorem step (h : d.Unanswered e) (k : e.Unanswered g) : d.Unanswered g := by
  obtain ⟨l, hl, nl⟩ := h
  obtain ⟨m, hm, nm⟩ := k
  refine ⟨m ++ l, by rw [hm, hl, List.append_assoc], fun j q r x mem => ?_⟩
  rcases List.mem_append.mp mem with in_m | in_l
  · exact nm j q r x in_m
  · exact nl j q r x in_l

theorem ite {c : Prop} [Decidable c] (h : d.Unanswered e) (k : d.Unanswered g) : d.Unanswered (if c then e else g) := by
  split
  · exact h
  · exact k

theorem each {α : Type} {f : Dev → α → Dev} (l : List α) (k : ∀ d a, Dev.Unanswered d (f d a)) (d : Dev) :
    d.Unanswered (d.each l f) := by
  induction l generalizing d with
  | nil => exact .refl d
  | cons a l ih => exact (k d a).step (ih (f d a))

end Dev.Unanswered

section
variable (d : Dev)

theorem Dev.count_unanswered (f : Fld) (i n : Nat) : d.Unanswered (d.count f i n) := .same rfl

theorem Dev.msix_unanswered (h v : Nat) : d.Unanswered (d.msix h v) := by
  have sent : ∀ e : Dev, e.out = d.out → d.Unanswered (e.emit (.msix h v)) := fun e same =>
    ⟨[.msix h v], by show _ :: e.out = _; rw [same]; rfl, fun _ _ _ _ m => by simp at m⟩
  unfold Dev.msix
  extract_lets +onlyGivenNames k n
  split
  · exact .same rfl
  split
  · exact sent d rfl
  exact .ite (.same rfl) (sent _ rfl)

theorem Dev.notifyMctp_unanswered (r : EvRec) : d.Unanswered (d.notifyMctp r) := by
  unfold Dev.notifyMctp
  exact .ite (d.count_unanswered ..) (.ite (d.count_unanswered ..) (.same rfl))

theorem Dev.logRecord_unanswered (src heads : Nat) (r : EvRec) : d.Unanswered (d.logRecord src heads r) := by
  unfold Dev.logRecord
  extract_lets +onlyGivenNames ifaces waits ht
  exact Dev.Unanswered.each waits (fun e h => e.msix_unanswered h _) _

theorem Dev.placeRecord_unanswered (src heads : Nat) (r : EvRec) : d.Unanswered (d.placeRecord src heads r) := by
  unfold Dev.placeRecord
  extract_lets +onlyGivenNames key route _ x y
  have logged : d.Unanswered y := by
    refine .ite (.step (.same rfl) (x.logRecord_unanswered ..)) (.same rfl)
  exact .ite (.refl d) (.ite (d.count_unanswered ..) (.ite (logged.step (y.notifyMctp_unanswered r)) logged))

/-- An event puts out no answer to a command. -/
theorem Dev.raise_unanswered (src : Nat) (i : EvInfo) : d.Unanswered (d.raise src i) := by
  unfold Dev.raise
  extract_lets +onlyGivenNames x v r _ y was z w
  refine .ite (.same rfl) ?_
  have marked : d.Unanswered z := .same rfl
  have sent : d.Unanswered w := .ite (marked.step (Dev.Unanswered.each _ (fun e h => e.msix_unanswered h _) z)) marked
  exact sent.step (w.placeRecord_unanswered ..)

theorem Dev.watchHealth_unanswered (f : Dev → Dev) : (f d).Unanswered (d.watchHealth f) := by
  unfold Dev.watchHealth
  exact .ite (.refl _) ((f d).raise_unanswered 40 {})
end

/-! ## What a command comes to -/

section
variable {s : State} {c : CmdHdr} {opcode need : Nat} {k : CmdKind} {f : Dev → CmdOut}

/-- A command whose interface is up is answered under its opcode, and nothing later answers it again. -/
theorem State.command_answered (ha : s.dev.aon = true) (up : s.stamped.ifaceUp c = true) :
    ∃ d rc p l rest, s.command c opcode need k f = .next { s with dev := d } ∧
      d.out = l ++ .reply c.iface opcode rc p :: rest ∧ ∀ j q r x, Output.reply j q r x ∉ l := by
  have answered : ∃ rc p rest, (s.stamped.command c opcode need k f).out = .reply c.iface opcode rc p :: rest := by
    unfold Dev.command
    rw [if_neg (by rw [up]; decide)]
    split
    · exact ⟨_, _, _, Dev.reply_out ..⟩
    · exact ⟨_, _, _, Dev.reply_out ..⟩
  obtain ⟨rc, p, rest, out⟩ := answered
  obtain ⟨l, more, none_⟩ := s.stamped.watchHealth_unanswered (fun d => d.command c opcode need k f)
  exact ⟨_, rc, p, l, rest, State.command_aon ha .., by rw [more, out], none_⟩

theorem State.command_down (ha : s.dev.aon = true) (down : s.stamped.ifaceUp c = false) :
    s.command c opcode need k f = .next { s with dev := s.stamped } := by
  have same : s.stamped.command c opcode need k f = s.stamped := by
    unfold Dev.command
    exact if_pos (by rw [down]; rfl)
  rw [State.command_aon ha, (Dev.Frame.refl (ps := []) (fs := []) s.stamped).watchHealth same]

/-- A refusal of the common checks puts its answer out and counts it. -/
theorem State.command_refused {rc : Nat} (ha : s.dev.aon = true) (up : s.stamped.ifaceUp c = true)
    (stop : s.stamped.gate c need k = some rc) :
    s.command c opcode need k f = .next { s with dev := s.stamped.reply c opcode rc [] } := by
  have same : s.stamped.command c opcode need k f = s.stamped.reply c opcode rc [] := by
    unfold Dev.command
    rw [if_neg (by rw [up]; decide), stop]
  rw [State.command_aon ha, (s.stamped.reply_frame c opcode rc []).watchHealth same]
end

theorem Dev.reply_refused (d : Dev) (c : CmdHdr) (opcode : Nat) {rc : Nat} (p : List Byte) (h : rc ∉ [0, 1]) :
    d.Frame (d.reply c opcode rc p) [.regs, .out] [.MGT_CMD_REFUSED] ∧ d.Counted (d.reply c opcode rc p) .MGT_CMD_REFUSED 0 1 := by
  have counts : d.reply c opcode rc p = (d.count .MGT_CMD_REFUSED).emit (.reply c.iface opcode rc p) := by
    have other : ¬ (decide (rc = rcOk) || decide (rc = rcBackground)) = true := by
      simp only [List.mem_cons, List.not_mem_nil, or_false, not_or] at h
      rw [decide_eq_false (p := rc = rcOk) h.1, decide_eq_false (p := rc = rcBackground) h.2]
      decide
    unfold Dev.reply
    rw [if_neg other]
  rw [counts]
  exact ⟨.step (.mono (Dev.count_frame ..)) (Dev.emit_frame ..),
    (Dev.Frame.refl (ps := []) (fs := []) d).counted (Dev.emit_frame ..)⟩

/-- Every management command other than RESET at system level is a command of its opcode, its length and its kind. -/
theorem managementCmd_command {i : Instr} {c : CmdHdr} {op need : Nat} {k : CmdKind} (h : managementCmd i = some (c, op, need, k)) :
    (i = .resetSystem c ∧ op = 0xC070 ∧ need = 8 ∧ k = .change) ∨ ∃ f, ∀ s, exec i s = s.command c op need k f := by
  unfold managementCmd at h
  split at h
  case h_68 =>
    cases h
    exact .inl ⟨rfl, rfl, rfl, rfl⟩
  all_goals cases h
  all_goals exact .inr ⟨_, fun _ => rfl⟩

/-- RESET at system level is a command of its opcode, of any kind in the halt of step 15 (R372). -/
theorem resetSystem_command (c : CmdHdr) (s : State) : ∃ k f, exec (.resetSystem c) s = s.command c 0xC070 8 k f ∧
    (s.dev.step ≠ 15 → k = .change) := by
  refine ⟨_, _, rfl, fun other => ?_⟩
  rw [decide_eq_false other, Bool.and_false, Bool.false_and]
  rfl

/-- Settles O26: every management command is a `State.command` of its opcode, which answers once. -/
theorem everyManagementCommandIsAnswered : Obligations.EveryManagementCommandIsAnswered := by
  unfold Obligations.EveryManagementCommandIsAnswered
  refine ⟨fun i s c op need k cmd ha up => ?_, fun i s c op need k cmd ha down => ?_,
    fun i s c op need rc k cmd running ha up stop refused => ?_⟩
  · rcases managementCmd_command cmd with ⟨rfl, rfl, -, -⟩ | ⟨f, run⟩
    · obtain ⟨k, f, run, -⟩ := resetSystem_command c s
      rw [run]
      exact State.command_answered ha up
    · rw [run]
      exact State.command_answered ha up
  · rcases managementCmd_command cmd with ⟨rfl, rfl, -, -⟩ | ⟨f, run⟩
    · obtain ⟨k, f, run, -⟩ := resetSystem_command c s
      rw [run]
      exact State.command_down ha down
    · rw [run]
      exact State.command_down ha down
  · have run : ∃ f, exec i s = s.command c op need k f := by
      rcases managementCmd_command cmd with ⟨rfl, rfl, rfl, rfl⟩ | ⟨f, run⟩
      · obtain ⟨k, f, run, kind⟩ := resetSystem_command c s
        obtain rfl := kind fun halt => running halt rfl
        exact ⟨f, run⟩
      · exact ⟨f, run s⟩
    obtain ⟨f, run⟩ := run
    obtain ⟨frame, counted⟩ := s.stamped.reply_refused c op (rc := rc) [] refused
    exact ⟨_, run.trans (State.command_refused ha up stop), Dev.reply_out .., counted, frame.changesOnly, frame.fieldsOnly⟩

end Sys2Proof.Machine
end

section
/-!
O24 and O25: UNIT SET STATE (R317, R320, R321, R434).
-/
-- Checked one after another: side by side, each waiting for the kernel, the proofs need more threads than the memory admits.
set_option Elab.async false
namespace Sys2Proof.Machine

section
variable {s : State} {c : CmdHdr} {need : Nat} {k : CmdKind}

/-- An admitted command puts its answer out after its effect, and health is watched over it. -/
theorem State.Admits.runs (a : s.Admits c need k) (opcode : Nat) {f : Dev → CmdOut} {rc : Nat} {p : List Byte} {d : Dev}
    (hf : f s.stamped = (rc, p, d)) : ∃ e, s.command c opcode need k f = .next { s with dev := e } ∧
      d.Frame e [.regs, .evt, .out] (evtFields.append [.MGT_CMD_EXECUTED, .MGT_CMD_REFUSED]) ∧
      d.Puts e (.reply c.iface opcode rc p) := by
  obtain ⟨aon, up, pass⟩ := a
  obtain ⟨e, he, watched⟩ := State.onHealth_to aon (f := fun d => d.command c opcode need k f) (d := d.reply c opcode rc p) (by
    rw [Dev.command_of_gate up pass, hf])
  refine ⟨e, he, .step (.mono (Dev.reply_frame ..)) watched, ?_⟩
  exact Dev.Puts.after ⟨[.reply c.iface opcode rc p], Dev.reply_out .., List.mem_singleton_self _⟩ watched
end

/-! ## The answers of UNIT SET STATE -/

section
variable (d : Dev)

/-- The unit reply is read off the table of units alone. -/
theorem Dev.unitReply_of_ust {d e : Dev} (h : e.ust = d.ust) (uid : Nat) : e.unitReply uid = d.unitReply uid := by
  unfold Dev.unitReply Dev.unit
  rw [h]

theorem Dev.unitAnswer_busy (uid : Nat) : d.unitAnswer uid 6 = (6, d.unitReply uid, d.count .UST_STALE_BUSY) := rfl

theorem Dev.unitAnswer_other (uid : Nat) {rc : Nat} (h : rc ≠ 6) : d.unitAnswer uid rc = (rc, d.unitReply uid, d) := by
  unfold Dev.unitAnswer
  rw [if_neg (show ¬ rc = rcBusy from h)]

/-- A stale generation is counted (R321). -/
theorem Dev.stale_counted (ix : Nat) : (d.count .UST_STALE_STALE).Frame (d.stale ix) [.regs, .evt, .out] evtFields := by
  unfold Dev.stale
  extract_lets u x
  exact .ite (fun _ => Dev.raise_frame ..) fun _ => .refl x
end

/-! ## The checks of UNIT SET STATE in their order (R321) -/

section
variable {d : Dev} {uid gen ix : Nat} {op : UnitOp}

theorem Dev.unitSet_quenched (q : d.reg .JRN_STATUS_QSTATE ≠ 0) :
    d.unitSet uid gen op = (6, d.unitReply uid, d.count .UST_STALE_BUSY) := if_pos q

section
variable (calm : d.reg .JRN_STATUS_QSTATE = 0)
include calm

theorem Dev.unitSet_unknown (no : indexOfId uid = none) : d.unitSet uid gen op = (2, d.unitReply uid, d) := by
  unfold Dev.unitSet
  rw [if_neg (not_not_intro calm), no]
  exact d.unitAnswer_other uid (by decide)

variable (names : indexOfId uid = some ix)
include names

theorem Dev.unitSet_unsupported (bad : (allowedOps (unitClass ix)).contains op = false) :
    d.unitSet uid gen op = (3, d.unitReply uid, d) := by
  unfold Dev.unitSet
  rw [if_neg (not_not_intro calm), names]
  refine (if_pos (by rw [bad]; rfl)).trans ?_
  exact d.unitAnswer_other uid (by decide)

variable (good : (allowedOps (unitClass ix)).contains op = true)
include good

theorem Dev.unitSet_stale (old : gen ≠ (d.unit ix).gen) :
    d.unitSet uid gen op = (0xC000, d.unitReply uid, d.stale ix) := by
  have same : (d.stale ix).unitReply uid = d.unitReply uid := Dev.unitReply_of_ust ((d.stale_frame ix).parts .ust (by decide)) uid
  unfold Dev.unitSet
  rw [if_neg (not_not_intro calm), names]
  refine (if_neg (by rw [good]; decide)).trans ((if_pos old).trans ?_)
  rw [← same]
  exact (d.stale ix).unitAnswer_other uid (by decide)

variable (now : gen = (d.unit ix).gen)
include now

theorem Dev.unitSet_busy (runs : (d.unit ix).running = true) :
    d.unitSet uid gen op = (6, d.unitReply uid, d.count .UST_STALE_BUSY) := by
  unfold Dev.unitSet
  rw [if_neg (not_not_intro calm), names]
  exact (if_neg (by rw [good]; decide)).trans ((if_neg (not_not_intro now)).trans (if_pos runs))

variable (idle : (d.unit ix).running = false)
include idle

theorem Dev.unitSet_noRow (row : d.ustate ix ∉ rowsFrom (unitClass ix) op) : d.unitSet uid gen op = (2, d.unitReply uid, d) := by
  have missing : (rowsFrom (unitClass ix) op).contains (d.unit ix).state = false := by simpa [Dev.ustate] using row
  unfold Dev.unitSet
  rw [if_neg (not_not_intro calm), names]
  refine (if_neg (by rw [good]; decide)).trans ((if_neg (not_not_intro now)).trans ((if_neg (by rw [idle]; decide)).trans
    ((if_pos ?_).trans ?_)))
  · rw [missing]
    rfl
  · exact d.unitAnswer_other uid (by decide)
end

/-- With every check passing, the operation is done and answered with the state left. -/
theorem Dev.unitSet_allowed (h : d.UnitAllows op uid gen ix) :
    d.unitSet uid gen op = (0, (d.unitDo ix op).unitReply uid, d.unitDo ix op) := by
  obtain ⟨names, good, now, calm, idle, row, free, noted⟩ := h
  have found : (rowsFrom (unitClass ix) op).contains (d.unit ix).state = true := by simpa [Dev.ustate] using row
  unfold Dev.unitSet
  rw [if_neg (not_not_intro calm), names]
  refine (if_neg (by rw [good]; decide)).trans ((if_neg (not_not_intro now)).trans ((if_neg (by rw [idle]; decide)).trans
    ((if_neg ?_).trans ((if_neg ?_).trans ?_))))
  · rw [found, free]
    decide
  · rw [noted]
    decide
  · exact (d.unitDo ix op).unitAnswer_other uid (by decide)
end

theorem exec_unitCmd (op : UnitOp) (c : CmdHdr) (uid gen : Nat) (s : State) :
    exec (unitCmd op c uid gen) s = s.command c 0xC010 8 .own (fun d => d.unitSet uid gen op) := by
  cases op <;> rfl

/-- A refusal leaves the table of units, and its answer carries the unit reply of that table. -/
theorem Dev.refusal_spec {d x e : Dev} {ps : List Part} {fs hs : List Fld} {i op rc uid : Nat} (frame : d.Frame x ps fs)
    (watched : x.Frame e [.regs, .evt, .out] hs) (put : x.Puts e (.reply i op rc (d.unitReply uid))) (hp : .ust ∉ ps := by decide) :
    e.ust = d.ust ∧ d.Puts e (.reply i op rc (e.unitReply uid)) := by
  have kept : e.ust = d.ust := (watched.parts .ust (by decide)).trans (frame.parts .ust hp)
  refine ⟨kept, ?_⟩
  rw [Dev.unitReply_of_ust kept]
  exact frame.puts put

/-- Settles O25. That a quench makes the command Busy ahead of every other check is log entry 84. -/
theorem unitSetStateRefusalsChangeNoUnit : Obligations.UnitSetStateRefusalsChangeNoUnit := by
  unfold Obligations.UnitSetStateRefusalsChangeNoUnit
  intro op s c uid gen a
  obtain ⟨e, he, watched, put⟩ := a.runs 0xC010 (f := fun d => d.unitSet uid gen op)
    (rc := (s.stamped.unitSet uid gen op).1) (p := (s.stamped.unitSet uid gen op).2.1) (d := (s.stamped.unitSet uid gen op).2.2) rfl
  have refl : s.stamped.Frame s.stamped [] [] := .refl _
  refine ⟨e, (exec_unitCmd ..).trans he, fun q => ?_, fun calm no => ?_, fun ix calm names bad => ?_, fun ix calm names good old => ?_,
    fun ix calm names good now runs => ?_, fun ix calm names good now idle row => ?_⟩
  · rw [Dev.unitSet_quenched (d := s.stamped) q] at watched put
    obtain ⟨kept, puts⟩ := Dev.refusal_spec (s.stamped.count_frame .UST_STALE_BUSY 0 1) watched put
    exact ⟨kept, refl.counted watched, puts⟩
  · rw [Dev.unitSet_unknown (d := s.stamped) calm no] at watched put
    exact Dev.refusal_spec (d := s.stamped) refl watched put
  · rw [Dev.unitSet_unsupported (d := s.stamped) calm names bad] at watched put
    exact Dev.refusal_spec (d := s.stamped) refl watched put
  · rw [Dev.unitSet_stale (d := s.stamped) calm names good old] at watched put
    obtain ⟨kept, puts⟩ := Dev.refusal_spec (s.stamped.stale_frame ix) watched put
    have later : (s.stamped.count .UST_STALE_STALE).Frame e [.regs, .evt, .out] (evtFields.append [.MGT_CMD_EXECUTED, .MGT_CMD_REFUSED]) :=
      .step (s.stamped.stale_counted ix).mono watched
    exact ⟨kept, refl.counted later, puts⟩
  · rw [Dev.unitSet_busy (d := s.stamped) calm names good now runs] at watched put
    obtain ⟨kept, puts⟩ := Dev.refusal_spec (s.stamped.count_frame .UST_STALE_BUSY 0 1) watched put
    exact ⟨kept, refl.counted watched, puts⟩
  · rw [Dev.unitSet_noRow (d := s.stamped) calm names good now idle row] at watched put
    exact Dev.refusal_spec (d := s.stamped) refl watched put

end Sys2Proof.Machine
end

section
/-!
O24: what each operation of UNIT SET STATE makes of its unit (R317, R320).
-/
-- Checked one after another: side by side, each waiting for the kernel, the proofs need more threads than the memory admits.
set_option Elab.async false
namespace Sys2Proof.Machine

/-- The fields that an operation on a unit may change. -/
def unitOpFields : List Fld :=
  serviceFields.append [.PWR_PD_ON, .GLB_HEAD_LINK_RATE, .GLB_HEAD_LINK_WIDTH, .GLB_HEAD_LINK_FLIT, .GLB_HEAD_LINK_CXL,
    .GLB_HEAD_LINK_IDE_MEM, .GLB_HEAD_LINK_IDE_IO, .GLB_HEAD_LINK_REVERSED, .GLB_HEAD_LOAD_DEVLOAD, .GLB_HEAD_LOAD_OCC_LVL,
    .GLB_HEAD_LOAD_WB_LVL, .GLB_HEAD_LOAD_WEAR_LVL, .GLB_HEAD_LOAD_THERM_LVL, .MGT_CMD_EXECUTED, .MGT_CMD_REFUSED]

section
variable (d : Dev) (ix : Nat)

/-- RESET of a head (R317): its state goes, and it starts again. -/
def Dev.resetHead (d : Dev) (h : Nat) : Dev :=
  let d := (d.headReset h).setUnit h .resetting 1 false
  d.setUnit h .starting 1 false

/-- An operation other than RETIRE leaves boot state. -/
theorem Dev.unitDo_frame_kept {op : UnitOp} (h : op ≠ .retire) : d.Frame (d.unitDo ix op) (.mgt :: serviceParts) unitOpFields := by
  have drained : ∀ t, d.Frame (d.drainUnit ix t) (.mgt :: serviceParts) unitOpFields := fun t => .mono (d.drainUnit_frame ix t)
  cases op with
  | online =>
    show d.Frame (if d.ustate ix = .off then d.startUnit ix else (d.enterService ix 1 false).afterService ix) _ _
    refine .ite (fun _ => .mono (d.startUnit_frame ix)) fun _ => ?_
    exact .step (.mono (Dev.enterService_frame ..)) (Dev.afterService_frame ..)
  | draining => exact drained none
  | quiesced => exact drained (some .quiesced)
  | off => exact drained (some .off)
  | reset =>
    show d.Frame (if unitClass ix = 0 then d.resetHead ix else d.resetUnit ix 1 false false) _ _
    refine .ite (fun _ => ?_) fun _ => .mono (Dev.resetUnit_frame ..)
    exact .step (.step (.mono (d.headReset_frame ix)) (Dev.setUnit_frame ..)) (Dev.setUnit_frame ..)
  | repair => exact .mono (d.repairUnit_frame ix)
  | retire => exact absurd rfl h

/-! ## The unit after each operation -/

theorem Dev.startUnit_starting (h : unitClass ix ∈ [1, 2]) :
    (d.startUnit ix).ustate ix = .starting ∧ ((d.startUnit ix).unit ix).bound.isSome = true := by
  have cases : unitClass ix = 1 ∨ unitClass ix = 2 := by simpa using h
  have started : ∀ n, (((d.domainOn ix).setUnit ix .starting 1 false).setUnitRec ix
      { ((d.domainOn ix).setUnit ix .starting 1 false).unit ix with bound := some n }).unit ix =
      { ((d.domainOn ix).setUnit ix .starting 1 false).unit ix with bound := some n } := fun n => Dev.setUnitRec_unit ..
  have state := (d.domainOn ix).setUnit_ustate ix .starting 1 false
  unfold Dev.startUnit
  rcases cases with e | e <;> rw [e, Dev.ustate] <;> refine ⟨(congrArg UnitRec.state (started _)).trans state, ?_⟩ <;>
    exact congrArg (fun u => u.bound.isSome) (started _)

theorem Dev.startUnit_serves (h : unitClass ix ∈ [6, 7]) : (d.startUnit ix).serves ix = true := by
  have cases : unitClass ix = 6 ∨ unitClass ix = 7 := by simpa using h
  have served : ∀ e : Dev, (e.setUnit ix (e.serviceState ix) 1 false).serves ix = true := fun e =>
    e.setUnit_serves 1 false (e.serviceState_serves ix)
  unfold Dev.startUnit
  rcases cases with e | e <;> rw [e] <;> exact served _

/-- ONLINE of a unit that is not OFF (R317). -/
theorem Dev.onlineAgain_serves (h : unitClass ix ≠ 0) : ((d.enterService ix 1 false).afterService ix).serves ix = true := by
  have served := d.enterService_serves (ix := ix) 1 false h
  by_cases domain : unitClass ix ∈ [6, 7]
  · have cases : unitClass ix = 6 ∨ unitClass ix = 7 := by simpa using domain
    unfold Dev.afterService
    rcases cases with e | e <;> rw [e] <;> exact served
  · exact (Dev.afterService_keepsBut _ ix).serves served domain

theorem Dev.drainUnit_domain {t : Option UState} (h : unitClass ix ∈ [6, 7]) :
    (d.drainUnit ix t).ustate ix = t.getD .draining ∧ ((d.drainUnit ix t).unit ix).cause = 1 := by
  have domain : (decide (unitClass ix = 6) || decide (unitClass ix = 7)) = true := by simpa using h
  have set : ∀ (e : Dev) st, (e.setUnit ix st 1 false).ustate ix = st ∧ ((e.setUnit ix st 1 false).unit ix).cause = 1 := fun e st =>
    ⟨e.setUnit_ustate .., (e.setUnit_record ix st 1 false).2.1⟩
  unfold Dev.drainUnit
  extract_lets x
  rw [if_pos domain]
  cases t with
  | none => exact set d .draining
  | some st =>
    have freed : ∀ e : Dev, (if unitClass ix = 7 then e.freeGroup (ix - 286) else e).unit ix = e.unit ix := fun e => by
      split
      · exact (Dev.freeGroup_frame ..).unit ix
      · rfl
    show (if unitClass ix = 7 then (x.setUnit ix st 1 false).freeGroup (ix - 286) else x.setUnit ix st 1 false).ustate ix = st ∧
      ((if unitClass ix = 7 then (x.setUnit ix st 1 false).freeGroup (ix - 286) else x.setUnit ix st 1 false).unit ix).cause = 1
    rw [Dev.ustate, freed]
    exact set x st

theorem Dev.drainUnit_toward (t : UState) (h : unitClass ix ∉ [6, 7]) :
    (d.drainUnit ix (some t)).ustate ix = .draining ∧ ((d.drainUnit ix (some t)).unit ix).target = some t := by
  have other : ¬ (decide (unitClass ix = 6) || decide (unitClass ix = 7)) = true := by simpa using h
  unfold Dev.drainUnit
  extract_lets x
  rw [if_neg other, Dev.ustate, Dev.setUnitRec_unit]
  exact ⟨d.setUnit_ustate .., rfl⟩

theorem Dev.unitDo_reset : (d.unitDo ix .reset).ustate ix = (if unitClass ix = 0 then .starting else .resetting) := by
  show (if unitClass ix = 0 then d.resetHead ix else d.resetUnit ix 1 false false).ustate ix = _
  split
  · exact Dev.setUnit_ustate ..
  · exact (d.resetUnit_record ix 1 false false).1

/-- The built-in test of one unit begins (R330). -/
def Dev.beginTest (d : Dev) (i : Nat) : Dev :=
  let d := (d.domainOn i).setUnit i .resetting 1 false
  d.setUnitRec i { d.unit i with testing := true, since := d.now }

theorem Dev.beginTest_unit : (d.beginTest ix).ustate ix = .resetting ∧ ((d.beginTest ix).unit ix).testing = true := by
  unfold Dev.beginTest
  extract_lets +onlyGivenNames x
  rw [Dev.ustate, Dev.setUnitRec_unit]
  exact ⟨(d.domainOn ix).setUnit_ustate .., rfl⟩

theorem Dev.beginTest_unit_ne {iy : Nat} (h : iy ≠ ix) : (d.beginTest iy).unit ix = d.unit ix := by
  unfold Dev.beginTest
  extract_lets +onlyGivenNames x
  rw [Dev.unit_setUnitRec_ne _ _ h]
  exact ((d.domainOn iy).setUnit_unit_ne h ..).trans ((d.domainOn_frame iy).unit ix)

theorem Dev.repairUnit_unit : (d.repairUnit ix).ustate ix = .resetting ∧ ((d.repairUnit ix).unit ix).testing = true := by
  have own := d.beginTest_unit ix
  have alone : (d.repairUnit ix).unit ix = (d.beginTest ix).unit ix := by
    show (if unitClass ix = 2 then (d.beginTest ix).each ((List.range 16).map (fun i => 16 * (ix - 18) + i)) (fun d m =>
      if d.ustate (linkIx m) = .failed && d.ucause (linkIx m) = 6 then d.beginTest (linkIx m) else d) else d.beginTest ix).unit ix = _
    split
    · next complex =>
      refine Dev.each_keeps (fun e => e.unit ix) _ _ (fun e m => ?_) _
      have other : linkIx m ≠ ix := fun same => by
        have := complexIx_of_class complex
        unfold complexIx at this
        unfold linkIx at same
        omega
      split
      · exact e.beginTest_unit_ne ix other
      · rfl
    · rfl
  rw [Dev.ustate, alone]
  exact own

/-- RETIRE of anything but a stack that serves (R317). -/
def Dev.retireNow (d : Dev) (ix : Nat) : Dev :=
  let d := (d.setUnit ix .retired 1 false).domainOff ix
  if unitClass ix = 6 then d.releaseRegion (ix - 222) else d

theorem Dev.retireNow_state : (d.retireNow ix).ustate ix = .retired := by
  unfold Dev.retireNow
  extract_lets x
  have set : x.ustate ix = .retired := by
    show ((d.setUnit ix .retired 1 false).domainOff ix).ustate ix = .retired
    rw [(Dev.domainOff_frame ..).ustate]
    exact d.setUnit_ustate ..
  split
  · rw [(Dev.releaseRegion_frame ..).ustate]
    exact set
  · exact set

theorem Dev.unitDo_retire : d.unitDo ix .retire = if unitClass ix = 5 && d.serves ix then d.drainUnit ix (some .retired) else d.retireNow ix := rfl
end

/-! ## The command -/

section
variable {s : State} {c : CmdHdr} {uid gen ix : Nat} {op : UnitOp}

/-- UNIT SET STATE whose checks all pass: the operation is done, and the unit reply of the state left is its answer. -/
theorem State.unitDone (a : s.Admits c 8 .own) (allows : s.stamped.UnitAllows op uid gen ix) (opcode : Nat) {ps : List Part}
    (frame : s.stamped.Frame (s.stamped.unitDo ix op) ps unitOpFields) (hp : [.regs, .evt, .out] ⊆ ps := by decide) :
    ∃ e, s.command c opcode 8 .own (fun d => d.unitSet uid gen op) = .next { s with dev := e } ∧
      (∀ i, e.unit i = (s.stamped.unitDo ix op).unit i) ∧ s.dev.Puts e (.reply c.iface opcode 0 (e.unitReply uid)) ∧
      s.stamped.Frame e ps unitOpFields := by
  obtain ⟨e, he, watched, put⟩ := a.runs opcode (f := fun d => d.unitSet uid gen op) (Dev.unitSet_allowed allows)
  refine ⟨e, he, fun i => watched.unit i, ?_, .step (frame.mono (List.Subset.refl _) (List.Subset.refl _)) watched hp⟩
  rw [Dev.unitReply_of_ust (watched.parts .ust (by decide))]
  exact frame.puts put
end

theorem class_of_draining {n : Nat} (h : (allowedOps n).contains .draining = true) : n ∈ [6, 7] := by
  unfold allowedOps at h
  split at h
  all_goals first | exact absurd h (by decide) | decide

theorem class_of_quiesced {n : Nat} (h : (allowedOps n).contains .quiesced = true) : n ∉ [6, 7] := by
  intro m
  have cases : n = 6 ∨ n = 7 := by simpa using m
  rcases cases with e | e <;> rw [e] at h <;> exact absurd h (by decide)

/-- Settles O24: each operation by the lemma about what it makes of its unit. -/
theorem unitSetStateMovesTheUnit : Obligations.UnitSetStateMovesTheUnit := by
  unfold Obligations.UnitSetStateMovesTheUnit
  refine ⟨fun s c uid gen ix a allows => ?_, fun s c uid gen ix a allows => ?_, fun s c uid gen ix a allows => ?_,
    fun s c uid gen ix a allows => ?_, fun s c uid gen ix a allows => ?_, fun s c uid gen ix a allows => ?_,
    fun s c uid gen ix a allows => ?_⟩
  all_goals have ops := allows.2.1
  · obtain ⟨e, he, unit, put, only⟩ := State.unitDone a allows 0xC010 (s.stamped.unitDo_frame_kept ix (by decide))
    have class_pos : unitClass ix ≠ 0 := fun zero => by rw [zero] at ops; exact absurd ops (by decide)
    have online : s.stamped.unitDo ix .online =
      if s.stamped.ustate ix = .off then s.stamped.startUnit ix else (s.stamped.enterService ix 1 false).afterService ix := rfl
    refine ⟨e, he, fun on => ?_, fun off cls => ?_, fun domain => ?_, put, only.changesOnly⟩
    · rw [Dev.serves_of_unit (unit ix), online, if_neg (show ¬ s.stamped.ustate ix = .off from on)]
      exact s.stamped.onlineAgain_serves ix class_pos
    · rw [Dev.ustate, unit ix, online, if_pos (show s.stamped.ustate ix = .off from off)]
      exact s.stamped.startUnit_starting ix cls
    · rw [Dev.serves_of_unit (unit ix), online]
      split
      · exact s.stamped.startUnit_serves ix domain
      · exact s.stamped.onlineAgain_serves ix class_pos
  · obtain ⟨e, he, unit, put, only⟩ := State.unitDone a allows 0xC010 (s.stamped.unitDo_frame_kept ix (by decide))
    obtain ⟨state, why⟩ := s.stamped.drainUnit_domain ix (t := none) (class_of_draining ops)
    refine ⟨e, he, ?_, ?_, put, only.changesOnly⟩
    · rw [Dev.ustate, unit ix]; exact state
    · rw [unit ix]; exact why
  · obtain ⟨e, he, unit, put, only⟩ := State.unitDone a allows 0xC010 (s.stamped.unitDo_frame_kept ix (by decide))
    obtain ⟨state, target⟩ := s.stamped.drainUnit_toward ix .quiesced (class_of_quiesced ops)
    refine ⟨e, he, ?_, ?_, put, only.changesOnly⟩
    · rw [Dev.ustate, unit ix]; exact state
    · rw [unit ix]; exact target
  · obtain ⟨e, he, unit, put, only⟩ := State.unitDone a allows 0xC010 (s.stamped.unitDo_frame_kept ix (by decide))
    refine ⟨e, he, fun domain => ?_, fun cls => ?_, put, only.changesOnly⟩
    · rw [Dev.ustate, unit ix]
      exact s.stamped.drainUnit_domain ix (t := some .off) domain
    · rw [Dev.ustate, unit ix]
      refine s.stamped.drainUnit_toward ix .off ?_
      have cases : unitClass ix = 1 ∨ unitClass ix = 3 := by simpa using cls
      rcases cases with e | e <;> rw [e] <;> decide
  · have frame := s.stamped.unitDo_frame_kept ix (op := .reset) (by decide)
    have reset := s.stamped.unitDo_reset ix
    obtain ⟨e, he, unit, put, only⟩ := State.unitDone a allows 0xC010 frame
    obtain ⟨e', he', unit', put', only'⟩ := State.unitDone a allows 0xC070 frame
    refine ⟨⟨e, he, ?_, put, only.changesOnly⟩, ⟨e', he', ?_, put', only'.changesOnly⟩⟩
    · rw [Dev.ustate, unit ix]; exact reset
    · rw [Dev.ustate, unit' ix]; exact reset
  · obtain ⟨e, he, unit, put, only⟩ := State.unitDone a allows 0xC010 (s.stamped.unitDo_frame_kept ix (by decide))
    obtain ⟨state, test⟩ := s.stamped.repairUnit_unit ix
    refine ⟨e, he, ?_, ?_, put, only.changesOnly⟩
    · rw [Dev.ustate, unit ix]; exact state
    · rw [unit ix]; exact test
  · obtain ⟨e, he, unit, put, only⟩ := State.unitDone a allows 0xC010 (ps := .boot :: .mgt :: serviceParts) (.mono (s.stamped.unitDo_frame ix .retire))
    have same : s.stamped.serves ix = s.dev.serves ix := rfl
    refine ⟨e, he, fun no => ?_, fun ⟨stack, on⟩ => ?_, put, only.changesOnly⟩
    · rw [Dev.ustate, unit ix, Dev.unitDo_retire, if_neg (by simpa [same] using no)]
      exact s.stamped.retireNow_state ix
    · rw [Dev.ustate, unit ix, Dev.unitDo_retire, if_pos (by rw [same, stack, on]; rfl)]
      exact s.stamped.drainUnit_toward ix .retired (by rw [stack]; decide)

end Sys2Proof.Machine
end

section
/-!
O37: RESET and QUENCH commands (R436).
-/
-- Checked one after another: side by side, each waiting for the kernel, the proofs need more threads than the memory admits.
set_option Elab.async false
namespace Sys2Proof.Machine

section
variable {s : State} {c : CmdHdr} {k : CmdKind}

/-- A RESET that finds none waiting is noted, and answers its acceptance stamp. -/
theorem State.Admits.resetNoted (a : s.Admits c 8 k) (free : s.dev.rst.pend = none) (level : Nat) :
    s.command c 0xC070 8 k (·.resetCommand c level) = .next { s with
      dev := Dev.reply { s.stamped with rst := { s.dev.rst with pend := some ⟨level, c.iface, s.tb⟩ } } c 0xC070 0 (leBytes 8 s.tb) } := by
  have free' : s.stamped.rst.pend.isSome = false := by rw [show s.stamped.rst.pend = none from free]; rfl
  have noted : s.stamped.resetCommand c level = (0, leBytes 8 s.tb,
      { s.stamped with rst := { s.dev.rst with pend := some ⟨level, c.iface, s.tb⟩ } }) := if_neg (by rw [free']; decide)
  exact a.command 0xC070 noted (Dev.Frame.update (ps := [.rst]) (fs := []) (.refl s.stamped))

/-- While the device serves, a quench begun by command takes the ending that it names. -/
theorem Dev.triggerWith_of_serving {d : Dev} (h : d.Serving) {code : Nat} (ending : Nat) (small : code < 8) :
    (d.triggerWith code ending).QuenchBegun code ending d.now ∧ d.Frame (d.triggerWith code ending) quenchParts quenchFields := by
  have begins : d.triggerWith code ending = d.beginQuench code ending := (if_neg (not_not.2 h.2)).trans (if_pos h.1)
  rw [begins]
  exact ⟨(d.beginQuench_spec _ small).1, (d.beginQuench_frame ..).mono⟩
end

theorem Dev.QuenchBegun.after {d e : Dev} {code ending stamp : Nat} {ps : List Part} {fs : List Fld} (h : d.QuenchBegun code ending stamp)
    (k : d.Frame e ps fs) (hq : .qch ∉ ps := by decide) (hc : .cfg ∉ ps := by decide)
    (hf : Fld.JRN_STATUS_QSTATE ∉ fs ∧ Fld.JRN_STATUS_TRIGGER ∉ fs ∧ Fld.JRN_QLAST_T_Q ∉ fs := by decide) :
    e.QuenchBegun code ending stamp := by
  unfold Dev.QuenchBegun
  rw [k.reg .JRN_STATUS_QSTATE 0 hf.1 hc, k.reg .JRN_STATUS_TRIGGER 0 hf.2.1 hc, k.reg .JRN_QLAST_T_Q 0 hf.2.2 hc, k.parts .qch hq]
  exact h

/-- Settles O37. -/
theorem resetAndQuenchCommandsTakeEffect : Obligations.ResetAndQuenchCommandsTakeEffect := by
  unfold Obligations.ResetAndQuenchCommandsTakeEffect
  refine ⟨fun s c a free => ⟨a.resetNoted free 1, fun other => ?_⟩, fun s c ha up mctp len step halted free => ?_,
    fun s c a waits => ⟨?_, ?_⟩, fun s c e running a small free => ?_⟩
  · have kind : (if decide (c.iface = 2) && decide (s.dev.step = 15) && s.dev.flag .PWR_STEP_HALTED then CmdKind.minimal else .change) = .change := by
      rw [decide_eq_false other, Bool.and_false, Bool.false_and]
      rfl
    show s.command c 0xC070 8 (if decide (c.iface = 2) && decide (s.dev.step = 15) && s.dev.flag .PWR_STEP_HALTED then CmdKind.minimal
      else .change) (·.resetCommand c 2) = _
    rw [kind]
    exact a.resetNoted free 2
  · have kind : (if decide (c.iface = 2) && decide (s.dev.step = 15) && s.dev.flag .PWR_STEP_HALTED then CmdKind.minimal else .change) = .minimal := by
      rw [decide_eq_true mctp, decide_eq_true step, halted]
      rfl
    have pass : s.stamped.gate c 8 .minimal = none := (if_pos rfl).trans (if_neg (by omega))
    show s.command c 0xC070 8 (if decide (c.iface = 2) && decide (s.dev.step = 15) && s.dev.flag .PWR_STEP_HALTED then CmdKind.minimal
      else .change) (·.resetCommand c 2) = _
    rw [kind]
    exact State.Admits.resetNoted ⟨ha, up, pass⟩ free 2
  · exact a.answers 0xC070 (if_pos waits)
  · exact a.answers 0xC080 ((if_neg (by decide)).trans (if_pos waits))
  · obtain ⟨begun, frame⟩ := Dev.triggerWith_of_serving (d := s.stamped) ⟨running.2.1, running.2.2.1⟩ (code := 5) e (by decide)
    have free' : s.stamped.rst.pend.isSome = false := by rw [show s.stamped.rst.pend = none from free]; rfl
    obtain ⟨d, hd, watched, put⟩ := a.runs 0xC080 (f := fun d => if 2 ≤ e then d.refuse rcInvalid else if d.rst.pend.isSome then d.refuse rcBusy
      else (rcOk, leBytes 8 (d.triggerWith 5 e).qch.id ++ leBytes 8 (d.triggerWith 5 e).now, d.triggerWith 5 e))
      ((if_neg (by omega)).trans (if_neg (by rw [free']; decide)))
    refine ⟨d, hd, Dev.QuenchBegun.after begun watched, ?_⟩
    have same : d.qch = (s.stamped.triggerWith 5 e).qch := watched.parts .qch (by decide)
    have time : (s.stamped.triggerWith 5 e).now = s.tb := frame.now
    rw [same, ← time]
    exact frame.puts put

end Sys2Proof.Machine
end

section
/-!
O35: keys (R277 to R279, R310).
-/
-- Checked one after another: side by side, each waiting for the kernel, the proofs need more threads than the memory admits.
set_option Elab.async false
namespace Sys2Proof

/-- What a table gives under a key is one of its entries. -/
theorem AMap.mem_of_find {α : Type} {m : AMap α} {k : Nat} {v : α} (h : m.find k = some v) : (k, v) ∈ m := by
  induction m with
  | nil => simp at h
  | cons e r ih =>
    obtain ⟨j, w⟩ := e
    rw [AMap.find_cons] at h
    split at h
    · next same =>
      obtain rfl := Option.some.inj h
      subst same
      exact List.mem_cons_self
    · exact List.mem_cons_of_mem _ (ih h)

namespace Machine

section
variable (d : Dev)

/-- A slot that changes (R278): its generation increments. -/
theorem Dev.setSlot_cry (n : Nat) (st : SlotSt) (key : Key) (sweep : Nat) : (d.setSlot n st key sweep).cry.slots =
    d.cry.slots.put n { st, gen := ((d.slot n).gen + 1) % 65536, key, sweep } ∧ (d.setSlot n st key sweep).cry.sweeps = d.cry.sweeps ∧
      (d.setSlot n st key sweep).cry.owner = d.cry.owner := by
  unfold Dev.setSlot
  extract_lets +onlyGivenNames x g _ y heads
  have cry : ((y.journal 0x07 n st.ctorIdx g).raise 807 { a := n, heads }).cry = y.cry :=
    ((Dev.raise_frame ..).parts .cry (by decide)).trans ((Dev.journal_frame ..).parts .cry (by decide))
  rw [cry]
  exact ⟨rfl, rfl, rfl⟩

theorem Dev.slot_setSlot (n : Nat) (st : SlotSt) (key : Key) (sweep : Nat) :
    (d.setSlot n st key sweep).slot n = { st, gen := ((d.slot n).gen + 1) % 65536, key, sweep } := by
  rw [Dev.slot, (d.setSlot_cry ..).1]
  exact AMap.findD_put ..

theorem Dev.slot_setSlot_ne {n m : Nat} (st : SlotSt) (key : Key) (sweep : Nat) (h : m ≠ n) : (d.setSlot n st key sweep).slot m = d.slot m := by
  rw [Dev.slot, (d.setSlot_cry ..).1]
  exact AMap.findD_put_ne _ _ _ (Ne.symm h)

theorem Dev.slot_of_cry {d e : Dev} (h : e.cry.slots = d.cry.slots) (n : Nat) : e.slot n = d.slot n := by rw [Dev.slot, h, Dev.slot]

theorem Dev.slotReply_of_cry {d e : Dev} {n : Nat} (h : e.slot n = d.slot n) : e.slotReply n = d.slotReply n := by
  rw [Dev.slotReply, h, Dev.slotReply]

variable {d}

/-- A key that unwraps changes nothing; one that does not is counted (R279). -/
theorem Dev.unwrap_some {n : Nat} {o blob : List Byte} {k : Key} (owner : d.cry.owner = some o)
    (h : Config.keyUnwrap o n (d.slot n).gen (blob.take 40) = some k) : d.unwrap n blob = (some k, d) := by
  unfold Dev.unwrap
  rw [owner, Option.bind_some, h]

theorem Dev.unwrap_none {n : Nat} {blob : List Byte}
    (h : d.cry.owner.bind (fun o => Config.keyUnwrap o n (d.slot n).gen (blob.take 40)) = none) :
    (d.unwrap n blob).1 = none ∧ (d.unwrap n blob).2.cry.slots = d.cry.slots ∧ (d.unwrap n blob).2.cry.sweeps = d.cry.sweeps ∧
      (d.count .CRY_ERR1_UNWRAP).Frame (d.unwrap n blob).2 [.regs, .evt, .out, .cry]
        (evtFields.append [.CRY_STATUS_LOCKED, .CRY_STATUS_LOCK_CAUSE]) := by
  unfold Dev.unwrap
  rw [h]
  extract_lets +onlyGivenNames x _ y
  have raised : (d.count .CRY_ERR1_UNWRAP).Frame y [.regs, .evt, .out, .cry] evtFields :=
    .step (.update (.refl _)) (Dev.raise_frame ..)
  have cry : y.cry = { d.cry with unwraps := d.cry.unwraps + 1 } := (Dev.raise_frame ..).parts .cry (by decide)
  have locked : y.Frame (if 8 ≤ y.cry.unwraps then y.lockdown 3 else y) [.regs, .evt, .out]
      (evtFields.append [.CRY_STATUS_LOCKED, .CRY_STATUS_LOCK_CAUSE]) := .ite (fun _ => y.lockdown_frame 3) fun _ => .refl y
  have same : (if 8 ≤ y.cry.unwraps then y.lockdown 3 else y).cry = y.cry := locked.parts .cry (by decide)
  refine ⟨rfl, ?_, ?_, .step raised.mono locked⟩
  · show (if 8 ≤ y.cry.unwraps then y.lockdown 3 else y).cry.slots = _
    rw [same, cry]
  · show (if 8 ≤ y.cry.unwraps then y.lockdown 3 else y).cry.sweeps = _
    rw [same, cry]
end

/-! ## The commands -/

def Dev.loadDataKey (d : Dev) (c : CmdHdr) (slot gen : Nat) (reserved : Bool) (blob : List Byte) : CmdOut :=
  if decide (4096 ≤ slot) || reserved then d.refuse rcInvalid
  else match d.keyGate c with
    | some rc => (rc, d.slotReply slot, d)
    | none =>
      if d.cry.owner.isNone then (rcSecurity, d.slotReply slot, d)
      else if gen ≠ (d.slot slot).gen || (d.slot slot).st ≠ .empty then (rcStale, d.slotReply slot, d)
      else if 2 ≤ (d.slotAlloc slot).1 then (rcInvalid, d.slotReply slot, d)
      else match d.unwrap slot blob with
        | (some k, d) =>
          let d := d.setSlot slot .active k 0
          (rcOk, d.slotReply slot, d)
        | (none, d) => (rcInvalid, d.slotReply slot, d)

/-- KEY LOAD of a data key whose checks pass. -/
theorem Dev.loadDataKey_of {d : Dev} {c : CmdHdr} {n : Nat} {blob o : List Byte} (hn : n < 4096) (path : d.keyGate c = none)
    (owner : d.cry.owner = some o) (free : (d.slot n).st = .empty) (alloc : (d.slotAlloc n).1 < 2) :
    d.loadDataKey c n (d.slot n).gen false blob = match d.unwrap n blob with
      | (some k, d) => (rcOk, (d.setSlot n .active k 0).slotReply n, d.setSlot n .active k 0)
      | (none, d) => (rcInvalid, d.slotReply n, d) := by
  unfold Dev.loadDataKey
  rw [if_neg (by rw [decide_eq_false (by omega)]; decide), path]
  refine (if_neg (by rw [owner]; exact Bool.false_ne_true)).trans ((if_neg ?_).trans (if_neg (by omega)))
  rw [decide_eq_false (not_not_intro rfl), decide_eq_false (not_not_intro free)]
  decide

def Dev.retireKey (d : Dev) (c : CmdHdr) (slot gen : Nat) : CmdOut :=
  if 4096 ≤ slot then d.refuse rcInvalid
  else match d.keyGate c with
    | some rc => (rc, d.slotReply slot, d)
    | none =>
      if gen ≠ (d.slot slot).gen || (d.slot slot).st ≠ .active then (rcStale, d.slotReply slot, d)
      else
        let d := d.setSlot slot .empty 0 0
        (rcOk, d.slotReply slot, d)

theorem Dev.retireKey_of {d : Dev} {c : CmdHdr} {n : Nat} (hn : n < 4096) (path : d.keyGate c = none) (active : (d.slot n).st = .active) :
    d.retireKey c n (d.slot n).gen = (0, (d.setSlot n .empty 0 0).slotReply n, d.setSlot n .empty 0 0) := by
  unfold Dev.retireKey
  rw [if_neg (by omega), path]
  refine if_neg ?_
  rw [decide_eq_false (not_not_intro rfl), decide_eq_false (not_not_intro active)]
  decide

def Dev.loadOwnerSecret (d : Dev) (c : CmdHdr) (slot gen : Nat) (secret : List Byte) : CmdOut :=
  if 4096 ≤ slot then d.refuse rcInvalid
  else match d.keyGate c with
    | some rc => (rc, d.slotReply slot, d)
    | none =>
      if gen ≠ (d.slot slot).gen || (d.slot slot).st ≠ .empty then (rcStale, d.slotReply slot, d)
      else if !c.secured || d.cry.slots.any (fun e => e.2.st ≠ .empty) then (rcSecurity, d.slotReply slot, d)
      else (rcOk, d.slotReply slot, { d with cry := { d.cry with owner := some (secret.take 32) } })

theorem Dev.loadOwnerSecret_of {d : Dev} {c : CmdHdr} {n : Nat} {secret : List Byte} (hn : n < 4096) (path : d.keyGate c = none)
    (sec : c.secured = true) (free : ∀ e ∈ d.cry.slots, e.2.st = .empty) :
    d.loadOwnerSecret c n (d.slot n).gen secret =
      (0, d.slotReply n, { d with cry := { d.cry with owner := some (secret.take 32) } }) := by
  have own : (d.slot n).st = .empty := by
    unfold Dev.slot AMap.findD
    cases h : d.cry.slots.find n with
    | none => rfl
    | some x => exact free _ (AMap.mem_of_find h)
  have none_used : d.cry.slots.any (fun e => e.2.st ≠ .empty) = false := by
    rw [List.any_eq_false]
    intro e he
    simp [free e he]
  unfold Dev.loadOwnerSecret
  rw [if_neg (by omega), path]
  refine (if_neg ?_).trans (if_neg ?_)
  · rw [decide_eq_false (not_not_intro rfl), decide_eq_false (not_not_intro own)]
    decide
  · rw [sec, none_used]
    decide

/-- Settles O35. That the owner secret's load skips the allocation check of R279 step 4 is log entry 45. -/
theorem keyCommandsTakeEffect : Obligations.KeyCommandsTakeEffect := by
  unfold Obligations.KeyCommandsTakeEffect
  refine ⟨fun s c n o blob a hn path owner free alloc => ?_, fun s c n secret a hn path sec free => ?_, fun s c n a hn path active => ?_,
    fun s ha open_ => ?_⟩
  · have run := Dev.loadDataKey_of (d := s.stamped) (blob := blob) hn path owner free alloc
    have gen : (s.stamped.slot n).gen = (s.dev.slot n).gen := rfl
    cases unwraps : Config.keyUnwrap o n (s.dev.slot n).gen (blob.take 40) with
    | some k =>
      rw [Dev.unwrap_some (d := s.stamped) owner unwraps] at run
      obtain ⟨e, he, watched, put⟩ := a.runs 0xC030 (f := fun d => d.loadDataKey c n (s.dev.slot n).gen false blob) run
      have frame := s.stamped.setSlot_frame n .active k 0
      have all : s.stamped.Frame e [.cry, .evt, .jrn, .out, .regs] (evtFields.append [.MGT_CMD_EXECUTED, .MGT_CMD_REFUSED]) :=
        .step frame.mono watched
      have slots : ∀ m, e.slot m = (s.stamped.setSlot n .active k 0).slot m := fun m =>
        Dev.slot_of_cry (by rw [watched.parts .cry (by decide)]) m
      refine ⟨e, he, fun m hm => (slots m).trans (s.stamped.slot_setSlot_ne _ _ _ hm), all.changesOnly, ?_, ?_⟩
      · rw [slots, s.stamped.slot_setSlot]
        rfl
      · rw [Dev.slotReply_of_cry (slots n)]
        exact frame.puts put
    | none =>
      obtain ⟨none_, kept, -, counted⟩ := Dev.unwrap_none (d := s.stamped) (n := n) (blob := blob) (by
        rw [show s.stamped.cry.owner = some o from owner]; exact unwraps)
      have frame := s.stamped.unwrap_frame n blob
      generalize hp : s.stamped.unwrap n blob = p at run none_ kept counted frame
      obtain ⟨k, x⟩ := p
      obtain rfl : k = none := none_
      obtain ⟨e, he, watched, put⟩ := a.runs 0xC030 (f := fun d => d.loadDataKey c n (s.dev.slot n).gen false blob) run
      have all : s.stamped.Frame e [.cry, .evt, .jrn, .out, .regs] (evtFields.append [.CRY_ERR1_UNWRAP, .CRY_STATUS_LOCKED,
          .CRY_STATUS_LOCK_CAUSE, .MGT_CMD_EXECUTED, .MGT_CMD_REFUSED]) := .step frame.mono watched
      have later : (s.stamped.count .CRY_ERR1_UNWRAP).Frame e [.regs, .evt, .out, .cry]
          (evtFields.append [.CRY_STATUS_LOCKED, .CRY_STATUS_LOCK_CAUSE, .MGT_CMD_EXECUTED, .MGT_CMD_REFUSED]) := .step counted.mono watched
      have slots : ∀ m, e.slot m = s.dev.slot m := fun m => Dev.slot_of_cry (by rw [watched.parts .cry (by decide)]; exact kept) m
      have reply : e.slotReply n = x.slotReply n := Dev.slotReply_of_cry ((slots n).trans (Dev.slot_of_cry (d := s.stamped) kept n).symm)
      refine ⟨e, he, fun m _ => slots m, all.changesOnly, slots n, (Dev.Frame.refl (ps := []) (fs := []) s.stamped).counted later, ?_⟩
      rw [reply]
      exact frame.puts put
  · exact a.command 0xC030 (f := fun d => d.loadOwnerSecret c n (s.dev.slot n).gen secret)
      (Dev.loadOwnerSecret_of (d := s.stamped) hn path sec free) (Dev.Frame.update (ps := [.cry]) (fs := []) (.refl s.stamped))
  · obtain ⟨e, he, watched, put⟩ := a.runs 0xC031 (f := fun d => d.retireKey c n (s.dev.slot n).gen)
      (Dev.retireKey_of (d := s.stamped) hn path active)
    have frame := s.stamped.setSlot_frame n .empty 0 0
    have all : s.stamped.Frame e [.cry, .evt, .jrn, .out, .regs] (evtFields.append [.MGT_CMD_EXECUTED, .MGT_CMD_REFUSED]) :=
      .step frame.mono watched
    have slots : ∀ m, e.slot m = (s.stamped.setSlot n .empty 0 0).slot m := fun m =>
      Dev.slot_of_cry (by rw [watched.parts .cry (by decide)]) m
    refine ⟨e, he, ?_, fun m hm => (slots m).trans (s.stamped.slot_setSlot_ne _ _ _ hm), ?_, all.changesOnly⟩
    · rw [slots, s.stamped.slot_setSlot]
      rfl
    · rw [Dev.slotReply_of_cry (slots n)]
      exact frame.puts put
  · have set : s.stamped.Frame (s.stamped.setFlag .CRY_CTL_LOCKDOWN 0 true) [.regs] [.CRY_CTL_LOCKDOWN] := Dev.setFlag_frame ..
    generalize hx : s.stamped.setFlag .CRY_CTL_LOCKDOWN 0 true = x at set
    have open' : x.flag .CRY_STATUS_LOCKED = false := (set.flag .CRY_STATUS_LOCKED 0).trans open_
    have locks : x.lockdown 0 = ((x.setFlag .CRY_STATUS_LOCKED 0 true).setReg .CRY_STATUS_LOCK_CAUSE 0 0).raise 806 := if_neg (by rw [open']; decide)
    have event := ((x.setFlag .CRY_STATUS_LOCKED 0 true).setReg .CRY_STATUS_LOCK_CAUSE 0 0).raise_frame 806 {}
    have marked : x.Frame ((x.setFlag .CRY_STATUS_LOCKED 0 true).setReg .CRY_STATUS_LOCK_CAUSE 0 0) [.regs]
        [.CRY_STATUS_LOCKED, .CRY_STATUS_LOCK_CAUSE] := .step (.mono (Dev.setFlag_frame ..)) (Dev.setReg_frame ..)
    have all : s.stamped.Frame (x.lockdown 0) [.evt, .out, .regs] (evtFields.append [.CRY_CTL_LOCKDOWN, .CRY_STATUS_LOCKED, .CRY_STATUS_LOCK_CAUSE]) := by
      rw [locks]
      exact .step (.step set.mono marked) event
    refine ⟨x.lockdown 0, show execCryLockdownWrite s = _ from State.on_to ha (by rw [hx]), ?_, ?_, ?_, all.changesOnly⟩
    · rw [locks, event.reg .CRY_STATUS_LOCKED, (Dev.setReg_frame ..).reg .CRY_STATUS_LOCKED]
      exact Dev.reg_setFlag _ _ _ _ (by decide)
    · rw [locks, event.reg .CRY_STATUS_LOCK_CAUSE]
      exact Dev.reg_setReg ..
    · rw [locks, event.reg .CRY_CTL_LOCKDOWN, marked.reg .CRY_CTL_LOCKDOWN, ← hx]
      exact Dev.reg_setFlag _ _ _ _ (by decide)

end Machine
end Sys2Proof
end

section
/-!
O32: Secure Erase and Sanitize (R433).
-/
-- Checked one after another: side by side, each waiting for the kernel, the proofs need more threads than the memory admits.
set_option Elab.async false
namespace Sys2Proof

theorem AMap.find_del_none {α : Type} {m : AMap α} {k : Nat} (j : Nat) (h : m.find k = none) : (m.del j).find k = none := by
  by_cases e : j = k
  · subst e
    exact m.find_del j
  · rw [m.find_del_ne e, h]

theorem AMap.find_foldl_del {α : Type} (l : List Nat) (m : AMap α) {k : Nat} (h : k ∈ l ∨ m.find k = none) :
    (l.foldl AMap.del m).find k = none := by
  induction l generalizing m with
  | nil => simpa using h
  | cons j l ih =>
    refine ih (m.del j) ?_
    rcases h with mem | gone
    · rcases List.mem_cons.mp mem with rfl | mem
      · exact .inr (m.find_del k)
      · exact .inl mem
    · exact .inr (AMap.find_del_none j gone)

/-- A table from which each of its keys is removed is empty. -/
theorem AMap.find_del_keys {α : Type} (m : AMap α) (k : Nat) : (m.keys.foldl AMap.del m).find k = none := by
  refine AMap.find_foldl_del _ _ ?_
  cases h : m.find k with
  | none => exact .inr rfl
  | some v => exact .inl (List.mem_map_of_mem (AMap.mem_of_find h))

namespace Machine

section
variable (d : Dev)

theorem Dev.setMap_unwritten (l : Nat) : (d.setMap l mapUnwritten).med.map = d.med.map.del l := by
  unfold Dev.setMap
  extract_lets +onlyGivenNames old m _ x
  have journalled : ((x.mapTouch (l / mapPageEntries) true).journal 0x02 l mapUnwritten 0).med = (x.mapTouch (l / mapPageEntries) true).med :=
    (Dev.journal_frame ..).parts .med (by decide)
  rw [journalled]
  exact (show m = d.med.map.del l from if_pos rfl)

theorem Dev.unmap_each (l : List Nat) : (d.each l fun d k => d.setMap k mapUnwritten).med.map = l.foldl AMap.del d.med.map := by
  induction l generalizing d with
  | nil => rfl
  | cons k l ih =>
    show ((d.setMap k mapUnwritten).each l fun d k => d.setMap k mapUnwritten).med.map = l.foldl AMap.del (d.med.map.del k)
    rw [ih, d.setMap_unwritten]

theorem Dev.emptySlots (n : Nat) : ((d.each ((d.cry.slots.filter (fun e => e.2.st ≠ .empty)).map (·.1)) fun d n =>
    d.setSlot n .empty 0 0).slot n).st = .empty := by
  have keeps : ∀ (e : Dev) m, (e.slot n).st = .empty → ((e.setSlot m .empty 0 0).slot n).st = .empty := fun e m h => by
    by_cases same : n = m
    · subst same
      rw [e.slot_setSlot]
    · rw [e.slot_setSlot_ne _ _ _ same]
      exact h
  by_cases used : (d.slot n).st = .empty
  · exact Dev.each_maintains _ keeps d used
  · refine Dev.each_establishes (P := fun e => (e.slot n).st = .empty) ?_ (fun e => by rw [e.slot_setSlot]) keeps d
    cases found : d.cry.slots.find n with
    | none => exact absurd (by rw [Dev.slot, AMap.findD, found]; rfl) used
    | some x =>
      rw [Dev.slot, AMap.findD, found] at used
      exact List.mem_map_of_mem (List.mem_filter.mpr ⟨AMap.mem_of_find found, decide_eq_true used⟩)

/-- What an erase leaves (R433). -/
theorem Dev.erase_spec : (∀ n, (d.erase.slot n).st = .empty) ∧ d.erase.cry.sweeps = [] ∧ (∀ l, d.erase.mapEntry l = mapUnwritten) ∧
    d.erase.poison.lines = [] ∧ (∀ p, isLpn p = true → d.erase.tier.find p = none) ∧ d.erase.per.thru = [] ∧
    d.erase.qch.images = [] ∧ d.erase.med.staged = [] := by
  unfold Dev.erase
  extract_lets +onlyGivenNames x _ y z
  have unmapped : y.Frame z [.jrn, .med] [] := .thenEach (.refl y) fun e l => Dev.setMap_frame ..
  have cry : z.cry = y.cry := unmapped.parts .cry (by decide)
  have maps : z.med.map = y.med.map.keys.foldl AMap.del y.med.map := y.unmap_each _
  refine ⟨fun n => ?_, ?_, fun l => ?_, rfl, fun p hp => ?_, rfl, rfl, rfl⟩
  · have same : ∀ e : Dev, e.cry.slots = x.cry.slots → e.slot n = x.slot n := fun e h => Dev.slot_of_cry h n
    refine (congrArg KeySlot.st (same _ ?_)).trans (d.emptySlots n)
    show z.cry.slots = x.cry.slots
    rw [cry]
  · show z.cry.sweeps = []
    rw [cry]
  · show z.med.map.findD l 0xFFFFFFFF = mapUnwritten
    rw [maps, AMap.findD, AMap.find_del_keys]
    rfl
  · exact AMap.find_keep_none z.tier (fun p _ => !isLpn p) p fun _ => by rw [hp]; rfl

/-! ## The end of Sanitize -/

theorem Dev.retireBlock_map (k : Nat) :
    ((d.retireBlock k).med.map, (d.retireBlock k).med.pages) = (d.med.map, d.med.pages) := by
  unfold Dev.retireBlock
  extract_lets x die
  rw [(Dev.raise_frame ..).parts .med (by decide)]
  rfl

/-- A band that is freed leaves the map and the pages written. -/
theorem Dev.freeBand_map (b : Nat) : ((d.freeBand b).med.map, (d.freeBand b).med.pages) = (d.med.map, d.med.pages) := by
  unfold Dev.freeBand
  split
  · rfl
  · next x found =>
    extract_lets +onlyGivenNames worn y z w _ v
    have blocks : (y.med.map, y.med.pages) = (d.med.map, d.med.pages) := by
      refine Dev.each_keeps (fun e => (e.med.map, e.med.pages)) (d.bandBlocks x) _ (fun e k => ?_) d
      extract_lets q p
      split
      · rfl
      split
      · exact e.retireBlock_map k
      · rfl
    have first : z.med = y.med := by
      unfold z
      split
      · exact (Dev.count_frame ..).parts .med (by decide)
      · rfl
    have second : w.med = y.med := by
      unfold w
      split
      · exact ((Dev.count_frame ..).parts .med (by decide)).trans first
      · exact first
    have journalled : (v.journal 0x0A b 0).med = v.med := (Dev.journal_frame ..).parts .med (by decide)
    rw [journalled, ← blocks, ← second]

theorem Dev.clearedBlock_map (k wear : Nat) :
    ((d.clearedBlock k wear).med.map, (d.clearedBlock k wear).med.pages) = (d.med.map, d.med.pages) := by
  unfold Dev.clearedBlock
  extract_lets x
  split
  · generalize hp : d.drawFree 433 = p
    obtain ⟨f, y⟩ := p
    have drawn : y.med = d.med := by
      have := (d.drawFree_frame 433).parts .med (by decide)
      rwa [hp] at this
    show ((y.setBlock k _).med.map, (y.setBlock k _).med.pages) = _
    rw [← drawn]
    rfl
  · rfl

/-- A band that holds nothing is freed, and its blocks are cleared. -/
def Dev.clearBand (d : Dev) (e : Nat × Band) : Dev :=
  let ks := d.bandBlocks e.2
  (d.freeBand e.1).each ks (fun d k => d.clearedBlock k (if e.2.stream = 5 then 1 else 50))

theorem Dev.clearBand_map (b : Nat × Band) : ((d.clearBand b).med.map, (d.clearBand b).med.pages) = (d.med.map, d.med.pages) := by
  unfold Dev.clearBand
  extract_lets ks
  have cleared := Dev.each_keeps (fun e => (e.med.map, e.med.pages)) ks (fun d k => d.clearedBlock k (if b.2.stream = 5 then 1 else 50))
    (fun e k => e.clearedBlock_map k _) (d.freeBand b.1)
  exact cleared.trans (d.freeBand_map b.1)

theorem Dev.clearBand_frame (b : Nat × Band) : d.Frame (d.clearBand b) [.evt, .freeCtr, .jrn, .med, .out, .regs]
    (evtFields.append [.DRT_LEHR_CNT_RD_BANDS, .DRT_LEHR_CNT_URG_BANDS]) :=
  .thenEach (.mono (Dev.freeBand_frame ..)) fun e k => .mono (Dev.clearedBlock_frame ..)

/-- SANITIZE_COMPLETE for an interface: the bands that hold nothing are freed and their blocks cleared. -/
def Dev.sanitized (d : Dev) (i : Nat) : Dev :=
  let keepGather := decide (0 < d.spillPages)
  let bands := d.med.bands.filter (fun e => d.bandEmpty e.1 && !d.med.rows.any (fun r => r.band = e.1) &&
    !(keepGather && e.2.stream = 5))
  let d := d.each bands Dev.clearBand
  let gone := bands.map (·.1)
  let d := { d with med := { d.med with gatherPending := d.med.gatherPending.filter (fun b => !gone.contains b) }
                    mgt := { d.mgt with sanitizing := none } }
  d.endBg i 0x4400 rcOk

theorem Dev.sanitized_spec (i : Nat) : (d.sanitized i).mgt.sanitizing = none ∧
    (∀ b, d.mgt.bg.find i = some b → b.opcode = 0x4400 → b.running = true →
      (d.sanitized i).mgt.bg.find i = some { b with pct := 100, rc := 0, running := false }) ∧
    (d.sanitized i).med.map = d.med.map ∧ (d.sanitized i).med.pages = d.med.pages ∧
    d.Frame (d.sanitized i) [.evt, .freeCtr, .jrn, .med, .mgt, .out, .regs]
      (evtFields.append [.DRT_LEHR_CNT_RD_BANDS, .DRT_LEHR_CNT_URG_BANDS]) := by
  unfold Dev.sanitized
  extract_lets +onlyGivenNames keepGather bands x gone _ _ y
  have freed : d.Frame x [.evt, .freeCtr, .jrn, .med, .out, .regs] (evtFields.append [.DRT_LEHR_CNT_RD_BANDS, .DRT_LEHR_CNT_URG_BANDS]) :=
    .thenEach (.refl d) fun e b => e.clearBand_frame b
  have kept : (x.med.map, x.med.pages) = (d.med.map, d.med.pages) :=
    Dev.each_keeps (fun e => (e.med.map, e.med.pages)) bands Dev.clearBand (fun e b => e.clearBand_map b) d
  have mgt : x.mgt = d.mgt := freed.parts .mgt (by decide)
  refine ⟨rfl, fun b found opcode runs => ?_, congrArg Prod.fst kept, congrArg Prod.snd kept,
    .step (.update (.mono freed)) (Dev.endBg_frame ..)⟩
  show (x.mgt.bg.alter i fun b => if b.opcode = 0x4400 && b.running then { b with pct := 100, rc := rcOk, running := false } else b).find i = _
  rw [mgt, AMap.find_alter, found, Option.map_some, opcode, runs]
  rfl
end

/-- A state in which an erase has been answered. -/
def Dev.Erased (d : Dev) : Prop :=
  (∀ n, (d.slot n).st = .empty) ∧ d.cry.sweeps = [] ∧ (∀ l, d.mapEntry l = mapUnwritten) ∧ d.poison.lines = [] ∧
    (∀ p, isLpn p = true → d.tier.find p = none) ∧ d.per.thru = [] ∧ d.qch.images = [] ∧ d.med.staged = []

/-- What an erase left stays through an operation on other parts. -/
theorem Dev.Erased.after {d e : Dev} {ps : List Part} {fs : List Fld} (h : d.Erased) (k : d.Frame e ps fs)
    (hp : ∀ p ∈ [Part.cry, .med, .poison, .tier, .per, .qch], p ∉ ps := by decide) : e.Erased := by
  have kept : ∀ p ∈ [Part.cry, .med, .poison, .tier, .per, .qch], d.same e p := fun p m => k.parts p (hp p m)
  have cry : e.cry = d.cry := kept .cry (by decide)
  have med : e.med = d.med := kept .med (by decide)
  have poison : e.poison = d.poison := kept .poison (by decide)
  have tier : e.tier = d.tier := kept .tier (by decide)
  have per : e.per = d.per := kept .per (by decide)
  have qch : e.qch = d.qch := kept .qch (by decide)
  simp only [Dev.Erased, Dev.slot, Dev.mapEntry, cry, med, poison, tier, per, qch]
  exact h

/-- Settles O32: an erase leaves what `Dev.erase_spec` says, and the end of Sanitize leaves the map. -/
theorem eraseRemovesKeysAndData : Obligations.EraseRemovesKeysAndData := by
  unfold Obligations.EraseRemovesKeysAndData
  refine ⟨fun s c a open_ slotsWf mapWf idle i hi => ?_, fun s i ha running ready => ?_⟩
  · have erased : s.stamped.erase.Erased := s.stamped.erase_spec
    have frame := s.stamped.erase_frame
    have open' : s.stamped.eraseRefusal = none := open_
    simp only [List.mem_cons, List.not_mem_nil, or_false] at hi
    rcases hi with rfl | rfl
    · obtain ⟨e, he, watched, put⟩ := a.runs 0x4401 (f := fun d => match d.eraseRefusal with
        | some rc => d.refuse rc
        | none => (rcOk, [], d.erase)) (rc := 0) (p := []) (d := s.stamped.erase) (by rw [open']; rfl)
      have all : s.stamped.Frame e [.cry, .evt, .jrn, .med, .mgt, .out, .per, .poison, .qch, .regs, .tier]
          (evtFields.append [.MGT_CMD_EXECUTED, .MGT_CMD_REFUSED]) := .step frame.mono watched
      obtain ⟨slots, sweeps, maps, lines, tier, thru, images, staged⟩ := erased.after watched
      exact ⟨e, 0, 0x4401, he, slots, sweeps, maps, lines, tier, thru, images, staged, frame.puts put, fun _ => ⟨rfl, rfl⟩,
        fun other => by injection other, all.changesOnly⟩
    · obtain ⟨x, hx⟩ : ∃ x, x = { s.stamped.erase.startBg c.iface 0x4400 with
          mgt := { (s.stamped.erase.startBg c.iface 0x4400).mgt with sanitizing := some c.iface } } := ⟨_, rfl⟩
      have begun : s.stamped.erase.Frame x [.mgt] [] := hx ▸ .update (Dev.startBg_frame ..)
      have idle' : s.stamped.bgRuns c.iface = false := idle
      obtain ⟨e, he, watched, put⟩ := a.runs 0x4400 (f := fun d => match d.eraseRefusal with
        | some rc => d.refuse rc
        | none =>
          if d.bgRuns c.iface then d.refuse rcBusy
          else
            let d := d.erase.startBg c.iface 0x4400
            (rcBackground, [], { d with mgt := { d.mgt with sanitizing := some c.iface } })) (rc := 1) (p := []) (d := x) (by
          rw [open', idle', hx]; rfl)
      have start : s.stamped.Frame x [.cry, .evt, .jrn, .med, .mgt, .out, .per, .poison, .qch, .regs, .tier] evtFields :=
        .step frame.mono begun
      have all : s.stamped.Frame e [.cry, .evt, .jrn, .med, .mgt, .out, .per, .poison, .qch, .regs, .tier]
          (evtFields.append [.MGT_CMD_EXECUTED, .MGT_CMD_REFUSED]) := .step start.mono watched
      obtain ⟨slots, sweeps, maps, lines, tier, thru, images, staged⟩ := (erased.after begun).after watched
      have mgt : e.mgt = x.mgt := watched.parts .mgt (by decide)
      refine ⟨e, 1, 0x4400, he, slots, sweeps, maps, lines, tier, thru, images, staged, start.puts put,
        fun other => by injection other, fun _ => ⟨rfl, rfl, ?_, ?_⟩, all.changesOnly⟩
      · rw [mgt, hx]
      · have runs : x.bgRuns c.iface = true := hx ▸ s.stamped.erase.startBg_runs c.iface 0x4400
        rw [Dev.bgRuns, mgt]
        exact runs
  · obtain ⟨none_, ended, map, pages, frame⟩ := s.stamped.sanitized_spec i
    obtain ⟨e, he, watched⟩ : ∃ e, exec .sanitizeComplete s = .next { s with dev := e } ∧
        (s.stamped.sanitized i).Frame e [.regs, .evt, .out] evtFields := by
      refine State.onHealth_to ha ?_
      rw [show s.stamped.mgt.sanitizing = some i from running]
      exact if_pos ready
    refine ⟨e, he, ?_, fun b found opcode runs => ?_, ?_, ?_, (frame.step watched).changesOnly⟩
    · rw [watched.parts .mgt (by decide)]; exact none_
    · rw [watched.parts .mgt (by decide)]; exact ended b found opcode runs
    · rw [watched.parts .med (by decide)]; exact map
    · rw [watched.parts .med (by decide)]; exact pages

end Machine
end Sys2Proof
end

section
/-!
O33: the staging of an image (R35, R37).
-/
-- Checked one after another: side by side, each waiting for the kernel, the proofs need more threads than the memory admits.
set_option Elab.async false
namespace Sys2Proof.Machine

section
variable (b : BootS) (n : Nat) (st : SlotState) (x : List Byte)

theorem BootS.slotState_setSlotState : (b.setSlotState n st).slotState n = st := by
  unfold BootS.setSlotState BootS.writeRecord BootS.putSlot BootS.slotState
  by_cases h : n = 0 <;> simp [h]

theorem BootS.bytes_setSlotState (m : Nat) : (b.setSlotState n st).bytes m = b.bytes m := by
  unfold BootS.setSlotState BootS.writeRecord BootS.putSlot BootS.bytes
  by_cases h : n = 0 <;> simp [h]

theorem BootS.bytes_setBytes (h : n < 2) : (b.setBytes n x).bytes n = x := by
  have cases : n = 0 ∨ n = 1 := by omega
  unfold BootS.setBytes BootS.bytes
  rcases cases with e | e <;> subst e <;> rfl

theorem BootS.slotState_setBytes (m : Nat) : (b.setBytes n x).slotState m = b.slotState m := by
  unfold BootS.setBytes BootS.slotState
  by_cases h : n = 0 <;> simp [h]

/-- Staging leaves what the health is read off. -/
theorem BootS.health_setBytes : (b.setBytes n x).oldBands = b.oldBands ∧ (b.setBytes n x).part = b.part := by
  unfold BootS.setBytes
  split <;> exact ⟨rfl, rfl⟩

theorem BootS.health_setSlotState : (b.setSlotState n st).oldBands = b.oldBands ∧ (b.setSlotState n st).part = b.part := by
  unfold BootS.setSlotState BootS.writeRecord BootS.putSlot
  by_cases h : n = 0 <;> simp [h]
end

section
variable (d : Dev)

theorem Dev.stageTarget_lt : d.stageTarget < 2 := by
  unfold Dev.stageTarget
  extract_lets src rank
  split
  · omega
  · split <;> decide

/-- The reply of IMAGE STAGE is read off one field. -/
theorem Dev.stageReply_of_reg {d e : Dev} (h : e.reg .IMG_STATUS_STAGE_STATE = d.reg .IMG_STATUS_STAGE_STATE) (result slot next : Nat) :
    e.stageReply result slot next = d.stageReply result slot next := by
  unfold Dev.stageReply
  rw [h]

/-- A chunk is taken into its session. -/
def Dev.takeChunk (d : Dev) (t : StageSession) (data : List Byte) : Dev :=
  { d with boot := { d.boot.setBytes t.slot (d.boot.bytes t.slot ++ data) with
      stage := some { t with next := t.next + data.length, lastAt := d.now } } }

/-- The last chunk is taken, the session closes, and validation begins. -/
def Dev.takeLast (d : Dev) (i : Nat) (t : StageSession) (data : List Byte) : Dev :=
  ({ d with boot := { d.boot.setBytes t.slot (d.boot.bytes t.slot ++ data) with
      stage := none, validating := some (t.slot, i) } }).setReg .IMG_STATUS_STAGE_STATE 0 2

theorem Dev.stageTake_chunk (c : CmdHdr) {t : StageSession} {data : List Byte} (fits : t.next + data.length ≤ 2 ^ 22) :
    d.stageTake c t data false = (0, (d.takeChunk t data).stageReply 0 t.slot (t.next + data.length), d.takeChunk t data) := by
  unfold Dev.stageTake
  exact if_neg (by omega)

theorem Dev.stageTake_last (c : CmdHdr) {t : StageSession} {data : List Byte} (fits : t.next + data.length ≤ 2 ^ 22) :
    d.stageTake c t data true = (1, (d.takeLast c.iface t data).stageReply 0 t.slot (t.next + data.length),
      (d.takeLast c.iface t data).startBg c.iface 0xC020) := by
  unfold Dev.stageTake
  exact if_neg (by omega)

theorem Dev.takeLast_frame (i : Nat) (t : StageSession) (data : List Byte) :
    d.Frame (d.takeLast i t data) [.boot, .regs] [.IMG_STATUS_STAGE_STATE] := .step (.update (.refl d)) (Dev.setReg_frame ..)

theorem Dev.stageEnd_spec (t : StageSession) (result : Nat) : (d.stageEnd t result).boot.stage = none ∧
    (d.stageEnd t result).boot.slotState t.slot = .invalid ∧ (d.stageEnd t result).reg .IMG_STATUS_STAGE_STATE = 4 ∧
    (d.stageEnd t result).reg .IMG_STATUS_LAST_RESULT = result % 2 ^ (Fld.info .IMG_STATUS_LAST_RESULT).width ∧
    (d.stageEnd t result).boot.oldBands = d.boot.oldBands ∧ (d.stageEnd t result).boot.part = d.boot.part ∧
    d.Frame (d.stageEnd t result) [.boot, .regs] [.IMG_STATUS_STAGE_STATE, .IMG_STATUS_LAST_RESULT, .IMG_STATUS_LAST_SECTION] := by
  obtain ⟨bands, part⟩ := d.boot.health_setSlotState t.slot .invalid
  unfold Dev.stageEnd
  extract_lets +onlyGivenNames _ x
  have last := ((x.setReg .IMG_STATUS_STAGE_STATE 0 4).setReg .IMG_STATUS_LAST_RESULT 0 result).setReg_frame .IMG_STATUS_LAST_SECTION 0 0
  have result_ := (x.setReg .IMG_STATUS_STAGE_STATE 0 4).setReg_frame .IMG_STATUS_LAST_RESULT 0 result
  refine ⟨rfl, d.boot.slotState_setSlotState t.slot .invalid, ?_, ?_, bands, part,
    .step (.step (.step (.update (.refl d)) (Dev.setReg_frame ..)) result_) last⟩
  · rw [last.reg .IMG_STATUS_STAGE_STATE, result_.reg .IMG_STATUS_STAGE_STATE]
    exact Dev.reg_setReg ..
  · rw [last.reg .IMG_STATUS_LAST_RESULT]
    exact Dev.reg_setReg ..

variable {d}

theorem Dev.stageChunk_open {c : CmdHdr} {data : List Byte} {last : Bool} (some_ : data ≠ []) (small : data.length ≤ 4096)
    (idle : d.boot.validating = none) (free : last = true → d.bgRuns c.iface = false) (off : Nat) {t : StageSession}
    (session : d.boot.stage = some t) (own : t.iface = c.iface) : d.stageChunk c off data last =
      if off = t.next then d.stageTake c t data last
      else (imgRc imgOrder, (d.stageEnd t imgOrder).stageReply imgOrder t.slot t.next, d.stageEnd t imgOrder) := by
  have nonempty : data.isEmpty = false := by simpa using some_
  unfold Dev.stageChunk
  rw [if_neg (by rw [nonempty, decide_eq_false (by omega)]; decide), session]
  refine (if_neg ?_).trans (if_neg (not_not_intro own))
  rw [idle]
  cases last with
  | false => exact Bool.false_ne_true
  | true => rw [free rfl]; exact Bool.false_ne_true

/-- The device in which a session has been opened on the target slot. -/
def Dev.openStaging (d : Dev) (i : Nat) : Dev :=
  ({ d with boot := { (d.boot.setSlotState d.stageTarget .receiving).setBytes d.stageTarget [] with
      stage := some { iface := i, slot := d.stageTarget, next := 0, lastAt := d.now } } }).setReg .IMG_STATUS_STAGE_STATE 0 1

theorem Dev.stageChunk_first {c : CmdHdr} {data : List Byte} (some_ : data ≠ []) (small : data.length ≤ 4096)
    (idle : d.boot.validating = none) (closed : d.boot.stage = none) : d.stageChunk c 0 data false =
      (d.openStaging c.iface).stageTake c { iface := c.iface, slot := d.stageTarget, next := 0, lastAt := d.now } data false := by
  have nonempty : data.isEmpty = false := by simpa using some_
  unfold Dev.stageChunk
  rw [if_neg (by rw [nonempty, decide_eq_false (by omega)]; decide), closed]
  refine (if_neg ?_).trans (if_neg (not_not_intro rfl))
  rw [idle]
  exact Bool.false_ne_true
end

/-- The end of the background validation (R35). -/
def Dev.validated (d : Dev) (n i r sec : Nat) : Dev :=
  let d := { d with boot := { d.boot.setSlotState n (if r = 0 then .staged else .invalid) with validating := none } }
  let d := d.setReg .IMG_STATUS_STAGE_STATE 0 (if r = 0 then 3 else 4)
  ((d.setReg .IMG_STATUS_LAST_RESULT 0 r).setReg .IMG_STATUS_LAST_SECTION 0 sec).endBg i 0xC020 (imgRc r)

theorem Dev.validated_spec (d : Dev) (n i r sec : Nat) : (d.validated n i r sec).boot.validating = none ∧
    (d.validated n i r sec).boot.slotState n = (if r = 0 then .staged else .invalid) ∧
    (d.validated n i r sec).reg .IMG_STATUS_LAST_RESULT = r % 2 ^ (Fld.info .IMG_STATUS_LAST_RESULT).width ∧
    (d.validated n i r sec).reg .IMG_STATUS_LAST_SECTION = sec % 2 ^ (Fld.info .IMG_STATUS_LAST_SECTION).width ∧
    d.Frame (d.validated n i r sec) [.boot, .mgt, .regs] [.IMG_STATUS_STAGE_STATE, .IMG_STATUS_LAST_RESULT, .IMG_STATUS_LAST_SECTION] := by
  unfold Dev.validated
  extract_lets +onlyGivenNames _ x y
  have last := (y.setReg .IMG_STATUS_LAST_RESULT 0 r).setReg_frame .IMG_STATUS_LAST_SECTION 0 sec
  have ended := ((y.setReg .IMG_STATUS_LAST_RESULT 0 r).setReg .IMG_STATUS_LAST_SECTION 0 sec).endBg_frame i 0xC020 (imgRc r)
  have all : d.Frame (((y.setReg .IMG_STATUS_LAST_RESULT 0 r).setReg .IMG_STATUS_LAST_SECTION 0 sec).endBg i 0xC020 (imgRc r))
      [.boot, .mgt, .regs] [.IMG_STATUS_STAGE_STATE, .IMG_STATUS_LAST_RESULT, .IMG_STATUS_LAST_SECTION] :=
    .step (.step (.step (.step (.update (.refl d)) (Dev.setReg_frame ..)) (Dev.setReg_frame ..)) last) ended
  refine ⟨rfl, d.boot.slotState_setSlotState n _, ?_, ?_, all⟩
  · rw [ended.reg .IMG_STATUS_LAST_RESULT, last.reg .IMG_STATUS_LAST_RESULT]
    exact Dev.reg_setReg ..
  · rw [ended.reg .IMG_STATUS_LAST_SECTION]
    exact Dev.reg_setReg ..


theorem Dev.openStaging_spec (d : Dev) (i : Nat) : (d.openStaging i).boot.slotState d.stageTarget = .receiving ∧
    (d.openStaging i).boot.bytes d.stageTarget = [] ∧ (d.openStaging i).reg .IMG_STATUS_STAGE_STATE = 1 ∧
    (d.openStaging i).boot.oldBands = d.boot.oldBands ∧ (d.openStaging i).boot.part = d.boot.part ∧
    d.Frame (d.openStaging i) [.boot, .regs] [.IMG_STATUS_STAGE_STATE] := by
  obtain ⟨bands, part⟩ := (d.boot.setSlotState d.stageTarget .receiving).health_setBytes d.stageTarget []
  obtain ⟨bands', part'⟩ := d.boot.health_setSlotState d.stageTarget .receiving
  have state := (d.boot.setSlotState d.stageTarget .receiving).slotState_setBytes d.stageTarget [] d.stageTarget
  exact ⟨state.trans (d.boot.slotState_setSlotState ..), BootS.bytes_setBytes _ _ _ d.stageTarget_lt, Dev.reg_setReg .., bands.trans bands',
    part.trans part', .step (.update (.refl d)) (Dev.setReg_frame ..)⟩

/-- A chunk that is taken leaves the reply's field and what the health is read off. -/
theorem Dev.takeChunk_spec (d : Dev) {t : StageSession} (data : List Byte) (ht : t.slot < 2) :
    (d.takeChunk t data).boot.stage = some { t with next := t.next + data.length, lastAt := d.now } ∧
    (d.takeChunk t data).boot.bytes t.slot = d.boot.bytes t.slot ++ data ∧
    (∀ m, (d.takeChunk t data).boot.slotState m = d.boot.slotState m) ∧
    (d.takeChunk t data).boot.oldBands = d.boot.oldBands ∧ (d.takeChunk t data).boot.part = d.boot.part ∧
    d.Frame (d.takeChunk t data) [.boot] [] := by
  obtain ⟨bands, part⟩ := d.boot.health_setBytes t.slot (d.boot.bytes t.slot ++ data)
  exact ⟨rfl, d.boot.bytes_setBytes t.slot _ ht, d.boot.slotState_setBytes t.slot _, bands, part, .update (.refl d)⟩

theorem Dev.takeLast_spec (d : Dev) (i : Nat) {t : StageSession} (data : List Byte) (ht : t.slot < 2) :
    (d.takeLast i t data).boot.stage = none ∧ (d.takeLast i t data).boot.validating = some (t.slot, i) ∧
    (d.takeLast i t data).boot.bytes t.slot = d.boot.bytes t.slot ++ data ∧ (d.takeLast i t data).reg .IMG_STATUS_STAGE_STATE = 2 ∧
    (d.takeLast i t data).boot.oldBands = d.boot.oldBands ∧ (d.takeLast i t data).boot.part = d.boot.part := by
  obtain ⟨bands, part⟩ := d.boot.health_setBytes t.slot (d.boot.bytes t.slot ++ data)
  exact ⟨rfl, rfl, d.boot.bytes_setBytes t.slot _ ht, Dev.reg_setReg .., bands, part⟩

/-- An IMAGE STAGE command that leaves the device `x`: its answer carries the reply that stands. -/
theorem State.Admits.staged {s : State} {c : CmdHdr} {need rc result slot next : Nat} {f : Dev → CmdOut} {x : Dev} {ps : List Part}
    {fs : List Fld} (a : s.Admits c need .change) (run : f s.stamped = (rc, x.stageReply result slot next, x))
    (frame : s.stamped.Frame x ps fs) (bands : x.boot.oldBands = s.dev.boot.oldBands) (part : x.boot.part = s.dev.boot.part)
    (ho : .out ∉ ps := by decide) (hp : ∀ p ∈ .ust :: healthParts, p ∉ ps := by decide) (hr : ∀ f ∈ healthFields, f ∉ fs := by decide) :
    ∃ e, s.command c 0xC020 need .change f = .next { s with dev := e } ∧
      x.Frame e [.regs, .out] [.MGT_CMD_EXECUTED, .MGT_CMD_REFUSED] ∧
      e.out = .reply c.iface 0xC020 rc (e.stageReply result slot next) :: s.dev.out := by
  have replied := x.reply_frame c 0xC020 rc (x.stageReply result slot next)
  refine ⟨_, a.command_boot 0xC020 run frame bands part hp hr, replied, ?_⟩
  rw [Dev.reply_out, Dev.stageReply_of_reg (replied.reg .IMG_STATUS_STAGE_STATE 0), frame.parts .out ho]

/-- Settles O33. The target slot and the payload of a refused chunk, which names the session's slot and its next offset, are log
entry 61. -/
theorem imageStagingTakesEffect : Obligations.ImageStagingTakesEffect := by
  unfold Obligations.ImageStagingTakesEffect
  refine ⟨fun s c data a some_ small closed idle => ?_, fun s c t data a some_ small session idle own slot fits free => ⟨?_, ?_, fun off ne => ?_⟩,
    fun s t ha session late => ?_, fun s n i ha running ready => ?_⟩
  · obtain ⟨state, bytes, reg, bands, part, opened⟩ := s.stamped.openStaging_spec c.iface
    have run := Dev.stageChunk_first (d := s.stamped) (c := c) some_ small idle closed
    generalize s.stamped.openStaging c.iface = x at state bytes reg bands part opened run
    obtain ⟨t, ht⟩ : ∃ t : StageSession, t = { iface := c.iface, slot := s.stamped.stageTarget, next := 0, lastAt := s.stamped.now } := ⟨_, rfl⟩
    have slot : t.slot = s.dev.stageTarget := by rw [ht]; rfl
    rw [← ht] at run
    rw [x.stageTake_chunk c (t := t) (by rw [ht]; show 0 + data.length ≤ _; omega)] at run
    obtain ⟨stage, taken, states, bands', part', frame⟩ := x.takeChunk_spec (t := t) data (by rw [slot]; exact s.dev.stageTarget_lt)
    have start : s.stamped.Frame (x.takeChunk t data) [.boot, .regs] [.IMG_STATUS_STAGE_STATE] := .step opened frame
    obtain ⟨e, he, replied, out⟩ := a.staged (f := fun d => d.stageChunk c 0 data false) run start (bands'.trans bands) (part'.trans part)
    have boot := replied.parts .boot (by decide)
    have all : s.stamped.Frame e [.boot, .regs, .out] [.IMG_STATUS_STAGE_STATE, .MGT_CMD_EXECUTED, .MGT_CMD_REFUSED] :=
      .step start.mono replied
    have next : t.next + data.length = data.length := by rw [ht]; exact Nat.zero_add _
    refine ⟨e, he, ?_, ?_, ?_, ?_, ?_, all.changesOnly⟩
    · rw [boot, stage, show x.now = s.tb from opened.now, next, ht]
      rfl
    · rw [boot, states]
      exact state
    · rw [boot, ← slot, taken, show x.boot.bytes t.slot = [] by rw [slot]; exact bytes, List.nil_append]
    · rw [replied.reg .IMG_STATUS_STAGE_STATE, frame.reg .IMG_STATUS_STAGE_STATE]
      exact reg
    · rw [out, slot, next]
  · obtain ⟨stage, taken, states, bands, part, frame⟩ := s.stamped.takeChunk_spec (t := t) data slot
    have run := Dev.stageChunk_open (d := s.stamped) (c := c) (last := false) some_ small idle (fun h => absurd h (by decide)) t.next session own
    rw [if_pos rfl, s.stamped.stageTake_chunk c fits] at run
    obtain ⟨e, he, replied, out⟩ := a.staged (f := fun d => d.stageChunk c t.next data false) run frame bands part
    have boot := replied.parts .boot (by decide)
    have all : s.stamped.Frame e [.boot, .regs, .out] [.MGT_CMD_EXECUTED, .MGT_CMD_REFUSED] := .step frame.mono replied
    refine ⟨e, he, ?_, ?_, out, all.changesOnly⟩
    · rw [boot, stage]
    · rw [boot, taken]
  · obtain ⟨stage, validating, taken, stageReg, bands, part⟩ := s.stamped.takeLast_spec c.iface (t := t) data slot
    have frame := s.stamped.takeLast_frame c.iface t data
    have run := Dev.stageChunk_open (d := s.stamped) (c := c) (last := true) some_ small idle (fun _ => free) t.next session own
    rw [if_pos rfl, s.stamped.stageTake_last c fits] at run
    generalize s.stamped.takeLast c.iface t data = x at *
    have begun := x.startBg_frame c.iface 0xC020
    rw [← Dev.stageReply_of_reg (begun.reg .IMG_STATUS_STAGE_STATE 0)] at run
    have start : s.stamped.Frame (x.startBg c.iface 0xC020) [.boot, .mgt, .regs] [.IMG_STATUS_STAGE_STATE] := .step frame.mono begun
    have same : (x.startBg c.iface 0xC020).boot = x.boot := begun.parts .boot (by decide)
    obtain ⟨e, he, replied, out⟩ := a.staged (f := fun d => d.stageChunk c t.next data true) run start (by rw [same]; exact bands)
      (by rw [same]; exact part)
    have boot := (replied.parts .boot (by decide)).trans same
    have all : s.stamped.Frame e [.boot, .mgt, .regs, .out] [.IMG_STATUS_STAGE_STATE, .MGT_CMD_EXECUTED, .MGT_CMD_REFUSED] :=
      .step start.mono replied
    refine ⟨e, he, ?_, ?_, ?_, ?_, ?_, out, all.changesOnly⟩
    · rw [boot, stage]
    · rw [boot, validating]
    · rw [boot, taken]
    · rw [replied.reg .IMG_STATUS_STAGE_STATE, begun.reg .IMG_STATUS_STAGE_STATE]
      exact stageReg
    · rw [Dev.bgRuns, replied.parts .mgt (by decide)]
      exact x.startBg_runs c.iface 0xC020
  · obtain ⟨stage, state, stageReg, result, bands, part, frame⟩ := s.stamped.stageEnd_spec t imgOrder
    have run := Dev.stageChunk_open (d := s.stamped) (c := c) (last := false) some_ small idle (fun h => absurd h (by decide)) off session own
    rw [if_neg ne] at run
    obtain ⟨e, he, replied, out⟩ := a.staged (f := fun d => d.stageChunk c off data false) run frame bands part
    have boot := replied.parts .boot (by decide)
    refine ⟨e, he, ?_, ?_, ?_, ?_, out⟩
    · rw [boot, stage]
    · rw [boot, state]
    · rw [replied.reg .IMG_STATUS_STAGE_STATE, stageReg]
    · rw [replied.reg .IMG_STATUS_LAST_RESULT, result]
      rfl
  · obtain ⟨stage, state, stageReg, -, -, -, frame⟩ := s.stamped.stageEnd_spec t imgOrder
    refine ⟨s.stamped.stageEnd t imgOrder, show execStagingTimeout s = _ from State.on_to ha ?_, stage, state, stageReg, frame.changesOnly⟩
    have time : s.stamped.now = s.tb := rfl
    rw [show s.stamped.boot.stage = some t from session, time]
    exact if_pos (decide_eq_true late)
  · obtain ⟨over_, state, result, sec, frame⟩ := s.stamped.validated_spec n i (s.dev.validate (s.dev.boot.bytes n)).1
      (s.dev.validate (s.dev.boot.bytes n)).2.1
    refine ⟨_, show execImageValidationDone s = _ from State.on_to ha ?_, over_, state, result, sec, frame.changesOnly⟩
    rw [show s.stamped.boot.validating = some (n, i) from running]
    exact if_pos ready

end Sys2Proof.Machine
end

section
/-!
Operations that leave one reading of the device as it is.
-/
-- Checked one after another: side by side, each waiting for the kernel, the proofs need more threads than the memory admits.
set_option Elab.async false
namespace Sys2Proof.Machine

/-- The reading `g` of the device is as before. -/
structure Dev.Keeps {β : Type} (g : Dev → β) (d e : Dev) : Prop where
  same : g e = g d

namespace Dev.Keeps
variable {β : Type} {g : Dev → β} {d e f : Dev}

theorem refl (d : Dev) : Dev.Keeps g d d := ⟨rfl⟩

theorem step (h : Dev.Keeps g d e) (k : Dev.Keeps g e f) : Dev.Keeps g d f := ⟨k.same.trans h.same⟩

theorem ite {c : Prop} [Decidable c] (h : c → Dev.Keeps g d e) (k : ¬c → Dev.Keeps g d f) : Dev.Keeps g d (if c then e else f) := by
  split
  · exact h ‹_›
  · exact k ‹_›

theorem thenEach {α : Type} {l : List α} {o : Dev → α → Dev} (h : Dev.Keeps g d e) (k : ∀ d a, Dev.Keeps g d (o d a)) :
    Dev.Keeps g d (e.each l o) := by
  induction l generalizing e with
  | nil => exact h
  | cons a l ih => exact ih (h.step (k e a))

theorem thenFoldl {α : Type} {l : List α} {o : Dev → α → Dev} (h : Dev.Keeps g d e) (k : ∀ d a, Dev.Keeps g d (o d a)) :
    Dev.Keeps g d (l.foldl o e) := thenEach h k

theorem use (x : Dev) (h : Dev.Keeps g d x) (k : Dev.Keeps g d x → Dev.Keeps g d f) : Dev.Keeps g d f := k h

theorem of_pair {α : Type} {p : α × Dev} {a : α} {x : Dev} (hx : p = (a, x)) (h : Dev.Keeps g d p.2)
    (k : Dev.Keeps g d x → Dev.Keeps g d f) : Dev.Keeps g d f := k (by rw [hx] at h; exact h)

theorem of_triple {α β' : Type} {p : α × β' × Dev} {a : α} {b : β'} {x : Dev} (hx : p = (a, b, x)) (h : Dev.Keeps g d p.2.2)
    (k : Dev.Keeps g d x → Dev.Keeps g d f) : Dev.Keeps g d f := k (by rw [hx] at h; exact h)

/-- A record update that leaves the reading. -/
theorem update {x : Dev} (h : Dev.Keeps g d e) (hx : g x = g e := by rfl) : Dev.Keeps g d x := ⟨hx.trans h.same⟩

end Dev.Keeps

/-! ## The keys and the sweeps -/

/-- Key slots, the owner secret and the sweeps. -/
def Dev.keyState (d : Dev) : AMap KeySlot × Option (List Byte) × AMap Sweep := (d.cry.slots, d.cry.owner, d.cry.sweeps)

theorem Dev.Frame.keepsKeys {d e : Dev} {ps : List Part} {fs : List Fld} (h : d.Frame e ps fs) (hp : .cry ∉ ps := by decide) :
    Dev.Keeps Dev.keyState d e := ⟨by unfold Dev.keyState; rw [h.parts .cry hp]⟩

section
variable (d : Dev)

theorem Dev.orcUse_keepsKeys (k : Nat) : Dev.Keeps Dev.keyState d (d.orcUse k) := by
  unfold Dev.orcUse
  split
  · exact .update (.refl d)
  · exact .refl d

theorem Dev.fetchChain_keepsKeys (r : MRead) (lpn : Nat) : Dev.Keeps Dev.keyState d (d.fetchChain r lpn).2 := by
  unfold Dev.fetchChain
  dsimp only
  refine .thenEach ((Dev.count_frame ..).keepsKeys.step (Dev.orcUse_keepsKeys ..)) fun d a => ?_
  split
  · exact (Dev.fetch_frame ..).keepsKeys
  · exact .refl d

theorem Dev.issueRead_keepsKeys (slice entry e lpn g deadline epoch : Nat) (spec : Bool) :
    Dev.Keeps Dev.keyState d (d.issueRead slice entry e lpn g deadline epoch spec) := by
  unfold Dev.issueRead
  split
  · exact .refl d
  · refine .ite (fun _ => .refl d) fun _ => ?_
    extract_lets +onlyGivenNames idle late r
    split
    · rename_i x0 x1 x2 hx
      refine .of_pair hx ?_ fun h => h.step (Dev.putMedia_frame ..).keepsKeys
      split
      · exact Dev.fetchChain_keepsKeys ..
      · exact .refl d

theorem Dev.internalReads_keepsKeys (pid : Nat) (subs : List Nat) : Dev.Keeps Dev.keyState d (d.internalReads pid subs) := by
  unfold Dev.internalReads
  extract_lets +onlyGivenNames gs
  refine .ite (fun _ => ?_) fun _ => .refl d
  exact .thenEach (.refl d) fun d a => Dev.issueRead_keepsKeys ..

/-- Re-encrypting a page leaves the keys. -/
theorem Dev.rekeyPage_keepsKeys (k : Nat) (old new : Key) (pid : Nat) : Dev.Keeps Dev.keyState d (d.rekeyPage k old new pid) := by
  unfold Dev.rekeyPage
  extract_lets +onlyGivenNames x
  refine .thenEach (d.internalReads_keepsKeys pid _) fun d a => ?_
  extract_lets +onlyGivenNames lost
  split
  · exact .ite (fun _ => .refl d) fun _ => (Dev.storeCell_frame ..).keepsKeys
  · exact .refl d
end

end Sys2Proof.Machine
end

section
/-!
O36: reheat sweeps (R303 to R308).
-/
-- Checked one after another: side by side, each waiting for the kernel, the proofs need more threads than the memory admits.
set_option Elab.async false
namespace Sys2Proof.Machine

section
variable (d : Dev)

theorem Dev.unwrap_fst (n : Nat) (blob : List Byte) :
    (d.unwrap n blob).1 = d.cry.owner.bind (fun o => Config.keyUnwrap o n (d.slot n).gen (blob.take 40)) := by
  unfold Dev.unwrap
  split
  · next k h => exact h.symm
  · next h => exact h.symm

theorem Dev.unwrap_of_some {n : Nat} {blob : List Byte} {k : Key}
    (h : d.cry.owner.bind (fun o => Config.keyUnwrap o n (d.slot n).gen (blob.take 40)) = some k) : d.unwrap n blob = (some k, d) := by
  unfold Dev.unwrap
  rw [h]

theorem Dev.slot_setSweep (n m : Nat) (w : Sweep) : (d.setSweep n w).slot m = d.slot m := rfl

theorem Dev.sweeps_setSweep (n : Nat) (w : Sweep) : (d.setSweep n w).cry.sweeps.find n = some w := AMap.find_put ..

theorem Dev.sweepReply_of_cry {d e : Dev} {n : Nat} (h : e.cry.sweeps.find n = d.cry.sweeps.find n) : e.sweepReply n = d.sweepReply n := by
  unfold Dev.sweepReply
  rw [h]

/-- A sweep that starts (R303). -/
def Dev.startSweep (d : Dev) (n region k j base limit : Nat) (key : Key) : Dev :=
  let d := (d.setSlot k .sweepOld (d.slot k).key n).setSlot j .sweepNew key n
  d.setSweep n { st := 1, region, k, j, base, limit, d := base, step := some d.now }

theorem Dev.startSweep_spec {k j : Nat} (other : k ≠ j) (n region base limit : Nat) (key : Key) :
    ((d.startSweep n region k j base limit key).slot k).st = .sweepOld ∧ ((d.startSweep n region k j base limit key).slot k).key = (d.slot k).key ∧
    ((d.startSweep n region k j base limit key).slot j).st = .sweepNew ∧ ((d.startSweep n region k j base limit key).slot j).key = key ∧
    (d.startSweep n region k j base limit key).cry.sweeps.find n =
      some { st := 1, region, k, j, base, limit, d := base, step := some d.now } ∧
    d.Frame (d.startSweep n region k j base limit key) [.regs, .evt, .jrn, .cry, .out] evtFields := by
  unfold Dev.startSweep
  extract_lets x
  have first := d.setSlot_frame k .sweepOld (d.slot k).key n
  have set : d.Frame x [.regs, .evt, .jrn, .cry, .out] evtFields := .step first (Dev.setSlot_frame ..)
  have old : x.slot k = { st := .sweepOld, gen := ((d.slot k).gen + 1) % 65536, key := (d.slot k).key, sweep := n } :=
    (Dev.slot_setSlot_ne _ _ _ _ other).trans (d.slot_setSlot ..)
  have new : (x.slot j).st = .sweepNew ∧ (x.slot j).key = key := by
    have slot := (d.setSlot k .sweepOld (d.slot k).key n).slot_setSlot j .sweepNew key n
    exact ⟨congrArg KeySlot.st slot, congrArg KeySlot.key slot⟩
  refine ⟨?_, ?_, new.1, new.2, ?_, .step set (Dev.setSweep_frame ..)⟩
  · rw [Dev.slot_setSweep, old]
  · rw [Dev.slot_setSweep, old]
  · rw [Dev.sweeps_setSweep, set.now]

def Dev.reheatStart (d : Dev) (c : CmdHdr) (region k gen j base limit : Nat) (blob : List Byte) : CmdOut :=
  match d.keyGate c with
  | some rc => d.refuse rc
  | none =>
    if (d.slot k).st ≠ .active || gen ≠ (d.slot k).gen then
      let (f, d) := d.drawFree 303
      (rcStale, leBytes 16 f, d)
    else match d.region region with
      | none => d.refuse rcInvalid
      | some r =>
        if r.rtype = .queue then d.refuse rcUnsupported
        else match freeKey d.cry.sweeps 4 with
          | none => d.refuse rcBusy
          | some n =>
            let forms := decide (r.keyBase ≤ k) && decide (k < r.keyBase + 2 ^ r.aliasW)
            let spare := (d.slot j).st = .empty && (d.slotAlloc j).1 = 2
            let range := decide (base % 4096 = 0) && decide (limit % 4096 = 0) && decide (base < limit) &&
              decide (limit ≤ d.sweepEnd r)
            if !forms || !spare || !range then d.refuse rcInvalid
            else match d.unwrap j blob with
              | (none, d) => d.refuse rcInvalid
              | (some key, d) =>
                let d := (d.setSlot k .sweepOld (d.slot k).key n).setSlot j .sweepNew key n
                let d := d.setSweep n { st := 1, region, k, j, base, limit, d := base, step := some d.now }
                (rcOk, d.sweepReply n, d.regionHealth region)

variable {d}

/-- REHEAT_START whose checks pass comes to the unwrapping of its key. -/
theorem Dev.reheatStart_of {c : CmdHdr} {r : RegionRec} {k j base limit n : Nat} {blob : List Byte} (path : d.keyGate c = none)
    (active : (d.slot k).st = .active) (found : d.region r.number = some r) (type : r.rtype ≠ .queue)
    (free : freeKey d.cry.sweeps 4 = some n) (low : r.keyBase ≤ k) (high : k < r.keyBase + 2 ^ r.aliasW) (empty : (d.slot j).st = .empty)
    (alloc : (d.slotAlloc j).1 = 2) (hb : base % 4096 = 0) (hl : limit % 4096 = 0) (lt : base < limit) (le : limit ≤ d.sweepEnd r) :
    d.reheatStart c r.number k (d.slot k).gen j base limit blob = match d.unwrap j blob with
      | (none, d) => d.refuse rcInvalid
      | (some key, d) => (rcOk, (d.startSweep n r.number k j base limit key).sweepReply n,
          (d.startSweep n r.number k j base limit key).regionHealth r.number) := by
  unfold Dev.reheatStart
  rw [path]
  refine (if_neg ?_).trans ?_
  · rw [decide_eq_false (not_not_intro active), decide_eq_false (not_not_intro rfl)]
    exact Bool.false_ne_true
  rw [found]
  refine (if_neg type).trans ?_
  rw [free]
  refine if_neg ?_
  rw [decide_eq_true low, decide_eq_true high, decide_eq_true empty, decide_eq_true alloc, decide_eq_true hb, decide_eq_true hl,
    decide_eq_true lt, decide_eq_true le]
  exact Bool.false_ne_true
end

/-! ## The boundary -/

section
variable (d : Dev)

theorem Dev.moveBoundary_short {n b : Nat} {w : Sweep} (h : b < w.limit) :
    (d.moveBoundary n w b).cry.sweeps.find n = some { w with d := b, abandons := 0 } ∧
      d.Frame (d.moveBoundary n w b) [.cry, .jrn] [] := by
  have moved : d.moveBoundary n w b = (d.keepKeys.setSweep n { w with d := b, abandons := 0 }).journal 0x07 (2 ^ 16 + n) b := if_neg (by
    show ¬ w.limit ≤ b
    omega)
  have noted := (d.keepKeys.setSweep n { w with d := b, abandons := 0 }).journal_frame 0x07 (2 ^ 16 + n) b 0
  rw [moved]
  refine ⟨?_, .step (.step (.mono (Dev.keepKeys_frame ..)) (Dev.setSweep_frame ..)) noted⟩
  rw [noted.parts .cry (by decide)]
  exact Dev.sweeps_setSweep ..

/-- A sweep that ends (R307): k holds the new key, and j is EMPTY. -/
theorem Dev.endSweep_spec (n : Nat) {w : Sweep} (other : w.k ≠ w.j) : (d.endSweep n w).cry.sweeps.find n = none ∧
    ((d.endSweep n w).slot w.k).st = .active ∧ ((d.endSweep n w).slot w.k).key = (d.slot w.j).key ∧
    ((d.endSweep n w).slot w.j).st = .empty := by
  unfold Dev.endSweep
  extract_lets +onlyGivenNames new x _ y
  have cry : ((y.raise 809 { a := w.k, c := w.limit, heads := y.regionHeads w.region }).regionHealth w.region).cry = y.cry :=
    ((Dev.regionHealth_frame ..).parts .cry (by decide)).trans ((Dev.raise_frame ..).parts .cry (by decide))
  have slots : ∀ m, ((y.raise 809 { a := w.k, c := w.limit, heads := y.regionHeads w.region }).regionHealth w.region).slot m = x.slot m :=
    fun m => Dev.slot_of_cry (by rw [cry]) m
  have kept := (d.setSlot w.k .active new 0).slot_setSlot_ne .empty 0 0 other
  have active : x.slot w.k = { st := .active, gen := ((d.slot w.k).gen + 1) % 65536, key := new, sweep := 0 } :=
    kept.trans (d.slot_setSlot ..)
  refine ⟨?_, ?_, ?_, ?_⟩
  · rw [cry]
    exact AMap.find_del ..
  · rw [slots, active]
  · rw [slots, active]
  · rw [slots, (d.setSlot w.k .active new 0).slot_setSlot]

theorem Dev.moveBoundary_last {n b : Nat} {w : Sweep} (h : w.limit ≤ b) (other : w.k ≠ w.j) :
    (d.moveBoundary n w b).cry.sweeps.find n = none ∧ ((d.moveBoundary n w b).slot w.k).st = .active ∧
      ((d.moveBoundary n w b).slot w.k).key = (d.slot w.j).key ∧ ((d.moveBoundary n w b).slot w.j).st = .empty := by
  have moved : d.moveBoundary n w b = ((d.keepKeys.setSweep n { w with d := b, abandons := 0 }).journal 0x07 (2 ^ 16 + n) b).endSweep n
      { w with d := b, abandons := 0 } := if_pos h
  have noted := (d.keepKeys.setSweep n { w with d := b, abandons := 0 }).journal_frame 0x07 (2 ^ 16 + n) b 0
  obtain ⟨gone, active, key, empty⟩ := ((d.keepKeys.setSweep n { w with d := b, abandons := 0 }).journal 0x07 (2 ^ 16 + n) b).endSweep_spec n
    (w := { w with d := b, abandons := 0 }) other
  have slot := Dev.slot_of_cry (d := d) (by rw [noted.parts .cry (by decide)]; rfl) w.j
  rw [moved]
  exact ⟨gone, active, key.trans (congrArg KeySlot.key slot), empty⟩

/-- An abandoned step (R306): it waits for its retry, and is counted. -/
theorem Dev.abandonStep_spec {n t : Nat} {w : Sweep} (found : d.cry.sweeps.find n = some w) (step : w.step = some t) (late : t ≤ d.now) :
    (d.abandonStep n).cry.sweeps.find n = some { w with
      step := none, abandons := w.abandons + 1, retryAt := d.now + ((d.cfg.map (·.crypto.rhRetryUs)).getD 50) * 1000 } ∧
      d.Counted (d.abandonStep n) .CRY_RHs_CNT_ABANDONS n 1 := by
  unfold Dev.abandonStep
  split
  · next missing => exact absurd (missing.symm.trans found) (by simp)
  next w' found' =>
  obtain rfl := Option.some.inj (found'.symm.trans found)
  split
  · next idle => exact absurd (idle.symm.trans step) (by simp)
  next t' step' =>
  obtain rfl := Option.some.inj (step'.symm.trans step)
  rw [if_neg (by omega)]
  extract_lets +onlyGivenNames retry v _ x
  have event : x.Frame (if v.abandons % 1000 = 0 then x.raise 808 { a := v.k, c := v.d, heads := x.regionHeads v.region } else x)
      [.regs, .evt, .out] evtFields := .ite (fun _ => Dev.raise_frame ..) fun _ => .refl x
  refine ⟨?_, Dev.Frame.counted (ps := [.cry]) (fs := []) (.update (.refl d)) event⟩
  rw [event.parts .cry (by decide)]
  exact AMap.find_put ..
end


/-- A step of a sweep that ends in time (R305): the page is under the new key, and the boundary moves. -/
def Dev.sweepStepped (d : Dev) (n t : Nat) (w : Sweep) (r : RegionRec) : Dev :=
  let d := d.each (d.sweepPids r (w.d / 4096)) (·.rekeyPage w.k (d.slot w.k).key (d.slot w.j).key)
  let pace := 4096000 / max 1 ((d.cfg.map (·.crypto.rhMbps)).getD 2000)
  d.moveBoundary n { w with pages := w.pages + 1, step := some (max d.now (t + pace)) } (w.d + 4096)

theorem Dev.sweepStepped_spec (d : Dev) (n t : Nat) (w : Sweep) (r : RegionRec) (other : w.k ≠ w.j) :
    (w.d + 4096 < w.limit → ∃ u, d.now ≤ u ∧ (d.sweepStepped n t w r).cry.sweeps.find n =
      some { w with d := w.d + 4096, pages := w.pages + 1, step := some u, abandons := 0 }) ∧
    (w.limit ≤ w.d + 4096 → (d.sweepStepped n t w r).cry.sweeps.find n = none ∧ ((d.sweepStepped n t w r).slot w.k).st = .active ∧
      ((d.sweepStepped n t w r).slot w.k).key = (d.slot w.j).key ∧ ((d.sweepStepped n t w r).slot w.j).st = .empty) := by
  unfold Dev.sweepStepped
  extract_lets x pace
  have keys : Dev.Keeps Dev.keyState d x := .thenEach (.refl d) fun e pid => e.rekeyPage_keepsKeys ..
  have time : x.now = d.now := Dev.each_keeps (fun e => e.now) _ _ (fun e pid => (e.rekeyPage_frame ..).now) d
  refine ⟨fun short => ⟨max x.now (t + pace), by rw [time]; exact le_max_left .., ?_⟩, fun last => ?_⟩
  · exact (x.moveBoundary_short (w := { w with pages := w.pages + 1, step := some (max x.now (t + pace)) }) short).1
  · obtain ⟨gone, active, key, empty⟩ := x.moveBoundary_last (n := n)
      (w := { w with pages := w.pages + 1, step := some (max x.now (t + pace)) }) last other
    exact ⟨gone, active, key.trans (congrArg KeySlot.key (Dev.slot_of_cry (congrArg Prod.fst keys.same) w.j)), empty⟩

/-- PAUSE and RESUME (R304): the sweep takes the state named, its step gone or begun. -/
theorem Dev.sweepState_of {d : Dev} {n st : Nat} {w : Sweep} (found : d.cry.sweeps.find n = some w) (h : w.st ≠ st) :
    d.sweepState n st = (0, (d.setSweep n { w with st, step := if st = 1 then some d.now else none, retryAt := d.now }).sweepReply n,
      d.setSweep n { w with st, step := if st = 1 then some d.now else none, retryAt := d.now }) := by
  unfold Dev.sweepState
  rw [found]
  dsimp only
  rw [if_neg h]
  rfl

/-- A sweep whose state is commanded answers the sweep left. -/
theorem State.Admits.sweepSet {s : State} {c : CmdHdr} {n st : Nat} {w : Sweep} (a : s.Admits c 72 .change)
    (found : s.dev.cry.sweeps.find n = some w) (h : w.st ≠ st) : ∃ d, s.command c 0xC032 72 .change (·.sweepState n st) = .next { s with dev := d } ∧
      d.cry.sweeps.find n = some { w with st, step := if st = 1 then some s.tb else none, retryAt := s.tb } ∧
      d.out = .reply c.iface 0xC032 0 (d.sweepReply n) :: s.dev.out ∧ s.stamped.ChangesOnly d [.cry, .out, .regs] := by
  have run := Dev.sweepState_of (d := s.stamped) found h
  obtain ⟨x, hx⟩ : ∃ x, x = s.stamped.setSweep n { w with st, step := if st = 1 then some s.stamped.now else none, retryAt := s.stamped.now } :=
    ⟨_, rfl⟩
  have set : s.stamped.Frame x [.cry] [] := hx ▸ Dev.setSweep_frame ..
  have sweep : x.cry.sweeps.find n = some { w with st, step := if st = 1 then some s.tb else none, retryAt := s.tb } :=
    hx ▸ Dev.sweeps_setSweep ..
  rw [← hx] at run
  have replied := x.reply_frame c 0xC032 0 (x.sweepReply n)
  have cry := replied.parts .cry (by decide)
  have all : s.stamped.Frame (x.reply c 0xC032 0 (x.sweepReply n)) [.cry, .out, .regs] [.MGT_CMD_EXECUTED, .MGT_CMD_REFUSED] :=
    .step set.mono replied
  refine ⟨_, a.command 0xC032 run set, ?_, ?_, all.changesOnly⟩
  · rw [cry]
    exact sweep
  · rw [Dev.reply_out, Dev.sweepReply_of_cry (d := x) rfl, set.parts .out (by decide)]
    rfl

/-- Settles O36. That pages passed at once leave PAGES, and that PAUSE and RESUME pass no key gate, is log entry 46. -/
theorem sweepCommandsTakeEffect : Obligations.SweepCommandsTakeEffect := by
  unfold Obligations.SweepCommandsTakeEffect
  refine ⟨fun s c r k j base limit n blob a path active found type free low high empty alloc hb hl lt le => ?_,
    fun s c n w a found => ⟨fun h => a.sweepSet found h, fun h => a.sweepSet found h⟩, fun s c a => a.answers 0xC033 rfl,
    fun s n w r running found region runs clear short => ?_, fun s n t w r running found region runs held step soon late other => ?_,
    fun s n t w ha found step late => ?_, fun s n w running found runs idle late => ?_⟩
  · have run := Dev.reheatStart_of (d := s.stamped) (c := c) (blob := blob) path active found type free low high empty alloc hb hl lt le
    have other : k ≠ j := fun e => by rw [e, empty] at active; injection active
    rw [Dev.unwrap_fst]
    cases key : s.dev.cry.owner.bind (fun o => Config.keyUnwrap o j (s.dev.slot j).gen (blob.take 40)) with
    | some x =>
      rw [Dev.unwrap_of_some (d := s.stamped) key] at run
      obtain ⟨e, he, watched, put⟩ := a.runs 0xC032 (f := fun d => d.reheatStart c r.number k (s.dev.slot k).gen j base limit blob) run
      obtain ⟨oldSt, oldKey, newSt, newKey, sweep, frame⟩ := s.stamped.startSweep_spec other n r.number base limit x
      generalize s.stamped.startSweep n r.number k j base limit x = y at *
      have judged := y.regionHealth_frame r.number
      have cry := (watched.parts .cry (by decide)).trans (judged.parts .cry (by decide))
      have slots : ∀ m, e.slot m = y.slot m := fun m => Dev.slot_of_cry (by rw [cry]) m
      refine ⟨e, he, ?_, ?_, ?_, ?_, ?_, ?_⟩
      · rw [slots]; exact oldSt
      · rw [slots]; exact oldKey
      · rw [slots]; exact newSt
      · rw [slots]; exact newKey
      · rw [cry]; exact sweep
      · rw [Dev.sweepReply_of_cry (d := y) (by rw [cry])]
        exact frame.puts (judged.puts put)
    | none =>
      obtain ⟨none_, slots, sweeps, counted⟩ := Dev.unwrap_none (d := s.stamped) (n := j) (blob := blob) key
      have frame := s.stamped.unwrap_frame j blob
      generalize s.stamped.unwrap j blob = p at run none_ slots sweeps frame
      obtain ⟨x, y⟩ := p
      obtain rfl : x = none := none_
      obtain ⟨e, he, watched, put⟩ := a.runs 0xC032 (f := fun d => d.reheatStart c r.number k (s.dev.slot k).gen j base limit blob) run
      refine ⟨e, he, ?_, ?_, frame.puts put⟩
      · rw [watched.parts .cry (by decide)]; exact sweeps
      · rw [watched.parts .cry (by decide)]; exact slots
  · obtain ⟨sweep, frame⟩ := s.stamped.moveBoundary_short (n := n) (w := w) short
    refine ⟨_, show execReheatStep n s = _ from State.on_to running.1 ?_, sweep, frame.changesOnly⟩
    rw [show s.stamped.cry.sweeps.find n = some w from found]
    dsimp only
    rw [show s.stamped.region w.region = some r from region]
    exact (if_pos (by rw [State.runs_of_running running, decide_eq_true runs]; rfl)).trans (if_pos clear)
  · obtain ⟨short, last⟩ := s.stamped.sweepStepped_spec n t w r other
    refine ⟨_, show execReheatStep n s = .next { s with dev := s.stamped.sweepStepped n t w r } from State.on_to running.1 ?_, short, last⟩
    have time : s.stamped.now = s.tb := rfl
    rw [show s.stamped.cry.sweeps.find n = some w from found]
    dsimp only
    rw [show s.stamped.region w.region = some r from region]
    refine (if_pos (by rw [State.runs_of_running running, decide_eq_true runs]; rfl)).trans
      ((if_neg (by rw [show s.stamped.sweepClear r (w.d / 4096) = false from held]; decide)).trans ?_)
    rw [step, time]
    exact if_pos (by rw [decide_eq_true soon, decide_eq_true late]; rfl)
  · have frame := s.stamped.abandonStep_frame n
    obtain ⟨sweep, counted⟩ := s.stamped.abandonStep_spec found step (show t ≤ s.tb by omega)
    refine ⟨_, show execReheatStepTimeout n s = .next { s with dev := s.stamped.abandonStep n } from State.on_to ha ?_, sweep, counted,
      frame.changesOnly⟩
    have time : s.stamped.now = s.tb := rfl
    rw [show s.stamped.cry.sweeps.find n = some w from found, Option.bind_some, step, time]
    exact if_pos (decide_eq_true late)
  · have set := s.stamped.setSweep_frame n { w with step := some s.tb }
    refine ⟨_, show execReheatStepRetry n s = .next { s with dev := s.stamped.setSweep n { w with step := some s.tb } } from
      State.on_to running.1 ?_, Dev.sweeps_setSweep .., set.changesOnly⟩
    rw [show s.stamped.cry.sweeps.find n = some w from found]
    exact if_pos (by rw [State.runs_of_running running, decide_eq_true runs, idle, decide_eq_true (show w.retryAt ≤ s.stamped.now from late)]; rfl)

end Sys2Proof.Machine
end

section
/-!
O38: QUEUE PARAM and QUEUE RESET (R205, R223).
-/
-- Checked one after another: side by side, each waiting for the kernel, the proofs need more threads than the memory admits.
set_option Elab.async false
namespace Sys2Proof.Machine

/-! ## The descriptors of queues -/

section
variable (d : Dev) (q : Nat)

@[simp] theorem Dev.queue_setQueue (x : QDesc) : (d.setQueue q x).queue q = x := AMap.findD_put ..

theorem Dev.queue_setQueue_ne {q p : Nat} (x : QDesc) (h : p ≠ q) : (d.setQueue q x).queue p = d.queue p :=
  AMap.findD_put_ne _ _ _ h.symm

theorem Dev.Frame.queue {d e : Dev} {ps : List Part} {fs : List Fld} (h : d.Frame e ps fs) (hp : .qen ∉ ps := by decide) :
    e.queue = d.queue := by
  have same : e.qen = d.qen := h.parts .qen hp
  funext p
  unfold Dev.queue
  rw [same]

@[simp] theorem Dev.queue_qChanged : (d.qChanged q).queue = d.queue := by
  unfold Dev.qChanged
  split <;> rfl

theorem Dev.queue_dropOpen_ne {q p : Nat} (h : p ≠ q) : (d.dropOpen q).queue p = d.queue p := by
  unfold Dev.dropOpen
  extract_lets x y
  rw [Dev.queue_qChanged, Dev.queue_setQueue_ne d _ h]

theorem Dev.queue_dropOpen : ((d.dropOpen q).queue q).tailSeq = (d.queue q).tailSeq ∧
    ((d.dropOpen q).queue q).resets = (d.queue q).resets := by
  unfold Dev.dropOpen
  extract_lets x y
  rw [Dev.queue_qChanged, Dev.queue_setQueue]
  show y.tailSeq = x.tailSeq ∧ y.resets = x.resets
  unfold y
  split
  · split <;> exact ⟨rfl, rfl⟩
  · exact ⟨rfl, rfl⟩

theorem Dev.queue_resetQueue_ne {q p : Nat} (h : p ≠ q) : (d.resetQueue q).queue p = d.queue p := by
  unfold Dev.resetQueue
  extract_lets e x
  rw [Dev.queue_qChanged]
  exact (Dev.queue_setQueue_ne e _ h).trans (d.queue_dropOpen_ne h)

/-- A queue without frames and without an open one. -/
def Dev.QueueEmptied (d : Dev) (q : Nat) : Prop := (d.queue q).frames = [] ∧ (d.queue q).asm = .idle

theorem Dev.resetQueue_spec : (d.resetQueue q).QueueEmptied q ∧ ((d.resetQueue q).queue q).headSeq = (d.queue q).tailSeq ∧
    ((d.resetQueue q).queue q).tailSeq = (d.queue q).tailSeq ∧
    ((d.resetQueue q).queue q).resets = ((d.queue q).resets + 1) % 256 ∧ (d.resetQueue q).stranded q = true := by
  obtain ⟨tail, resets⟩ := d.queue_dropOpen q
  unfold Dev.QueueEmptied
  unfold Dev.resetQueue
  extract_lets e x
  rw [Dev.queue_qChanged]
  have now := e.queue_setQueue q { x with frames := [], asm := .idle, headSeq := x.tailSeq, resets := (x.resets + 1) % 256, spillPages := 0 }
  refine ⟨⟨congrArg QDesc.frames now, congrArg QDesc.asm now⟩, (congrArg QDesc.headSeq now).trans tail,
    (congrArg QDesc.tailSeq now).trans tail, (congrArg QDesc.resets now).trans (by rw [← resets]), ?_⟩
  unfold Dev.stranded
  rw [(Dev.qChanged_frame ..).reg .QEN_STRANDw_STRANDED (q / 32)]
  exact Dev.testBit_setFieldBit _ .QEN_STRANDw_STRANDED _ _ _ (Nat.mod_lt _ (by decide))

theorem Dev.queue_resetEach_ne {p : Nat} (l : List Nat) (h : p ∉ l) : (d.each l Dev.resetQueue).queue p = d.queue p := by
  induction l generalizing d with
  | nil => rfl
  | cons a l ih =>
    obtain ⟨ne, rest⟩ := not_or.1 fun m => h (List.mem_cons.2 m)
    exact (ih _ rest).trans (d.queue_resetQueue_ne ne)

theorem Dev.resetEach_emptied {p : Nat} (l : List Nat) (h : p ∈ l ∨ d.QueueEmptied p) : (d.each l Dev.resetQueue).QueueEmptied p := by
  induction l generalizing d with
  | nil => exact h.resolve_left (by simp)
  | cons a l ih =>
    refine ih _ ?_
    by_cases here : p = a
    · exact .inr (here ▸ (d.resetQueue_spec a).1)
    · refine h.imp (fun m => (List.mem_cons.1 m).resolve_left here) fun k => ?_
      unfold Dev.QueueEmptied
      rw [d.queue_resetQueue_ne here]
      exact k

theorem mem_groupQueues {g p : Nat} : p ∈ groupQueues g ↔ groupOf p = g := by
  unfold groupQueues groupOf
  rw [List.mem_map]
  constructor
  · rintro ⟨i, hi, rfl⟩
    have := List.mem_range.1 hi
    omega
  · rintro rfl
    exact ⟨p % 512, List.mem_range.2 (Nat.mod_lt _ (by decide)), by omega⟩

theorem Dev.resetGroup_spec (g : Nat) : (∀ p, groupOf p = g → (d.resetGroup g).QueueEmptied p) ∧
    ∀ p, groupOf p ≠ g → (d.resetGroup g).queue p = d.queue p :=
  ⟨fun _ h => d.resetEach_emptied _ (.inl (mem_groupQueues.2 h)),
   fun _ h => d.queue_resetEach_ne _ fun m => h (mem_groupQueues.1 m)⟩
end

theorem State.stamped_ustate (s : State) (ix : Nat) : s.stamped.ustate ix = s.dev.ustate ix := rfl

theorem State.stamped_unit (s : State) (ix : Nat) : s.stamped.unit ix = s.dev.unit ix := rfl

/-! ## QUEUE PARAM -/

/-- The parameters given, stored (R205). -/
def Dev.storeParams (d : Dev) (q : Nat) (ki maxKib timeoutUs : Option Nat) : Dev :=
  d.setQueue q { d.queue q with ki := ki.orElse (fun _ => (d.queue q).ki), maxKib := maxKib.orElse (fun _ => (d.queue q).maxKib)
                                timeoutUs := timeoutUs.orElse (fun _ => (d.queue q).timeoutUs) }

theorem Dev.storeParams_only (d : Dev) (q : Nat) (ki maxKib t : Option Nat) : (d.storeParams q ki maxKib t).queue q =
    { d.queue q with ki := ((d.storeParams q ki maxKib t).queue q).ki, maxKib := ((d.storeParams q ki maxKib t).queue q).maxKib,
                     timeoutUs := ((d.storeParams q ki maxKib t).queue q).timeoutUs } := by
  have now : (d.storeParams q ki maxKib t).queue q = _ := Dev.queue_setQueue ..
  rw [now]

theorem Dev.storeParams_spec (d : Dev) {q : Nat} {x : QueueSet} (hx : d.setOfQueue q = some x) (ki maxKib t : Option Nat) :
    (∀ k, ki = some k → (d.storeParams q ki maxKib t).queueKey q = k) ∧
    (∀ m, maxKib = some m → (d.storeParams q ki maxKib t).queueLimit q = m * 1024) ∧
    (∀ u, t = some u → (d.storeParams q ki maxKib t).queueTimeout q = u) := by
  have now : (d.storeParams q ki maxKib t).queue q = _ := Dev.queue_setQueue ..
  have set : (d.storeParams q ki maxKib t).setOfQueue q = some x := hx
  refine ⟨?_, ?_, ?_⟩
  · rintro k rfl
    unfold Dev.queueKey
    rw [now, set]
    rfl
  · rintro m rfl
    unfold Dev.queueLimit
    rw [now]
    rfl
  · rintro u rfl
    unfold Dev.queueTimeout
    rw [now]
    rfl

/-! ## QUEUE RESET -/

theorem Dev.queueReset_done {d e : Dev} {g gen : Nat} {row : UState → Bool} {f : Dev → Dev} (he : f d = e) (hn : e.now = d.now)
    (hg : g < 256) (calm : d.reg .JRN_STATUS_QSTATE = 0) (now : gen = (d.unit (groupIx g)).gen)
    (idle : (d.unit (groupIx g)).running = false) (fits : row (d.ustate (groupIx g)) = true) :
    d.queueReset g gen row f = (0, e.unitReply (unitIdOf (groupIx g)) ++ leBytes 8 d.now, e) := by
  subst he
  rw [← hn]
  unfold Dev.queueReset
  refine (if_neg (Nat.not_le.2 hg)).trans ((if_neg (not_not_intro calm)).trans ((if_neg (not_not_intro now)).trans
    ((if_neg (by rw [idle]; decide)).trans (if_neg ?_))))
  show ¬ (!row (d.ustate (groupIx g))) = true
  rw [fits]
  decide

def Dev.param (d : Dev) (queue : Nat) (ki maxKib timeoutUs : Option Nat) : CmdOut :=
  match d.setOfQueue queue with
  | none => d.refuse rcInvalid
  | some q =>
    let x := d.queue queue
    let badKey := match ki with | some k => !d.queueKeyAllowed q.setId k | none => false
    let badMax := match maxKib with | some m => decide (4194304 < m) | none => false
    let badTime := match timeoutUs with | some t => decide (t < 10) || decide (60000 < t) | none => false
    let moves := match ki with | some k => decide (k ≠ d.queueKey queue) | none => false
    if badKey || badMax || badTime then d.refuse rcInvalid
    else if moves && (!x.frames.isEmpty || x.isOpen) then d.refuse rcBusy
    else
      let d := d.storeParams queue ki maxKib timeoutUs
      (rcOk, d.queueReply queue, d)

/-- Parameters inside their ranges are stored (R205). -/
theorem Dev.param_done (d : Dev) {q : Nat} {x : QueueSet} (hx : d.setOfQueue q = some x) {ki maxKib t : Option Nat}
    (key : ∀ k, ki = some k → d.queueKeyAllowed x.setId k = true ∧
      (k ≠ d.queueKey q → (d.queue q).frames = [] ∧ (d.queue q).isOpen = false))
    (size : ∀ m, maxKib = some m → m ≤ 4194304) (time : ∀ u, t = some u → 10 ≤ u ∧ u ≤ 60000) :
    d.param q ki maxKib t = (rcOk, (d.storeParams q ki maxKib t).queueReply q, d.storeParams q ki maxKib t) := by
  unfold Dev.param
  rw [hx]
  refine (if_neg (ne_true_of_eq_false (Bool.or_eq_false_iff.2 ⟨Bool.or_eq_false_iff.2 ⟨?_, ?_⟩, ?_⟩))).trans
    (if_neg (ne_true_of_eq_false ?_))
  · cases ki with
    | none => rfl
    | some k => exact congrArg not (key k rfl).1
  · cases maxKib with
    | none => rfl
    | some m => exact decide_eq_false (Nat.not_lt.2 (size m rfl))
  · cases t with
    | none => rfl
    | some u => simpa using time u rfl
  · cases ki with
    | none => rfl
    | some k =>
      by_cases same : k = d.queueKey q
      · exact (congrArg (· && _) (decide_eq_false (not_not_intro same))).trans (Bool.false_and _)
      · obtain ⟨frames, shut⟩ := (key k rfl).2 same
        rw [frames, shut]
        exact Bool.and_false _

/-- The group passes through RESETTING, and comes back to the state it had (R223). -/
def Dev.cycleGroup (d : Dev) (g : Nat) : Dev :=
  ((d.setUnit (groupIx g) .resetting 1 false).resetGroup g).setUnit (groupIx g) (d.ustate (groupIx g)) 3

theorem Dev.setUnit_gen (d : Dev) {ix : Nat} {st : UState} (h : d.ustate ix ≠ st) (cause : Nat) (hw : Bool) :
    ((d.setUnit ix st cause hw).unit ix).gen = ((d.unit ix).gen + 1) % 65536 := by
  unfold Dev.setUnit
  extract_lets u u' kept _ x y
  split
  · next e => exact absurd e h
  · have put : x.unit ix = u' := AMap.findD_put ..
    have journalled : y.unit ix = x.unit ix := rfl
    rw [(Dev.raise_frame ..).unit ix, journalled, put]

theorem Dev.cycleGroup_spec (d : Dev) {g : Nat} (h : d.ustate (groupIx g) ≠ .resetting) :
    (∀ p, groupOf p = g → (d.cycleGroup g).QueueEmptied p) ∧ (∀ p, groupOf p ≠ g → (d.cycleGroup g).queue p = d.queue p) ∧
    (d.cycleGroup g).ustate (groupIx g) = d.ustate (groupIx g) ∧
    ((d.cycleGroup g).unit (groupIx g)).gen = ((d.unit (groupIx g)).gen + 2) % 65536 ∧ 
    d.Frame (d.cycleGroup g) [.ust, .jrn, .regs, .evt, .out, .qen] (evtFields.append [.QEN_STRANDw_STRANDED]) := by
  unfold Dev.cycleGroup
  have fa := d.setUnit_frame (groupIx g) .resetting 1 false
  have inA := d.setUnit_ustate (groupIx g) .resetting 1 false
  have genA := d.setUnit_gen h 1 false
  generalize d.setUnit (groupIx g) .resetting 1 false = a at fa inA genA ⊢
  have fb := a.resetGroup_frame g
  obtain ⟨empty, other⟩ := a.resetGroup_spec g
  generalize a.resetGroup g = b at fb empty other ⊢
  have inB : b.unit (groupIx g) = a.unit (groupIx g) := fb.unit _
  have reset : b.ustate (groupIx g) = .resetting := (fb.ustate _).trans inA
  have turned : b.ustate (groupIx g) ≠ d.ustate (groupIx g) := fun e => h (e.symm.trans reset)
  have genC := b.setUnit_gen turned 3 true
  have fc := b.setUnit_frame (groupIx g) (d.ustate (groupIx g)) 3 true
  have back := fc.queue
  refine ⟨fun p hp => ?_, fun p hp => ?_, b.setUnit_ustate .., ?_, ?_⟩
  · unfold Dev.QueueEmptied
    rw [back]
    exact empty p hp
  · rw [back, other p hp, fa.queue]
  · rw [genC, inB, genA, Nat.mod_add_mod]
  · exact .step (.step (.mono fa) fb) fc

theorem exec_queueResetGroup (c : CmdHdr) (g gen : Nat) (s : State) : exec (.queueResetGroup c g gen) s = s.command c 0xC051 8 .own
    (·.queueReset g gen (fun st => st ∈ [.online, .degraded, .draining]) (·.cycleGroup g)) := rfl

/-- Settles O38. -/
theorem queueCommandsTakeEffect : Obligations.QueueCommandsTakeEffect := by
  unfold Obligations.QueueCommandsTakeEffect
  refine ⟨fun s c q x ki maxKib t a hx key size time => ?_, fun s c q a hg calm idle fits => ?_, fun s c g a hg calm idle fits => ?_⟩
  · obtain ⟨keyed, limit, timed⟩ := s.stamped.storeParams_spec hx ki maxKib t
    have frame : s.stamped.Frame (s.stamped.storeParams q ki maxKib t) [.qen] [] := Dev.setQueue_frame ..
    have replied := (s.stamped.storeParams q ki maxKib t).reply_frame c 0xC050 0 ((s.stamped.storeParams q ki maxKib t).queueReply q)
    have he := a.command 0xC050 (f := fun d => d.param q ki maxKib t) (s.stamped.param_done hx key size time) frame
    refine ⟨_, he, keyed, limit, timed, ?_, fun p hp => ?_, ?_, ?_⟩
    · exact s.stamped.storeParams_only ..
    · exact Dev.queue_setQueue_ne _ _ hp
    · exact Dev.reply_out ..
    · have all : s.stamped.Frame (Dev.reply (s.stamped.storeParams q ki maxKib t) c 0xC050 0 ((s.stamped.storeParams q ki maxKib t).queueReply q))
          [.qen, .regs, .out] [.MGT_CMD_EXECUTED, .MGT_CMD_REFUSED] := .step (.mono frame) replied
      exact all.changesOnly
  · obtain ⟨⟨frames, asm⟩, head, tail, resets, strand⟩ := s.stamped.resetQueue_spec q
    have frame := s.stamped.resetQueue_frame q
    obtain ⟨e, he, watched, put⟩ := a.runs 0xC051
      (f := fun d => d.queueReset (groupOf q) (s.dev.unit (groupIx (groupOf q))).gen (fun st => st ≠ .absent) (·.resetQueue q))
      (Dev.queueReset_done (d := s.stamped) rfl frame.now hg calm rfl idle (decide_eq_true fits))
    have ust : e.ust = s.dev.ust := (watched.parts .ust (by decide)).trans (frame.parts .ust (by decide))
    have queues := watched.queue
    refine ⟨e, he, queues ▸ frames, queues ▸ asm, queues ▸ head, queues ▸ tail, queues ▸ resets, ?_, fun p hp => ?_, ust, ?_⟩
    · unfold Dev.stranded
      rw [watched.reg .QEN_STRANDw_STRANDED (q / 32)]
      exact strand
    · rw [queues]
      exact s.stamped.queue_resetQueue_ne hp
    · rw [Dev.unitReply_of_ust (watched.parts .ust (by decide))]
      exact frame.puts put
  · have stamp : s.stamped.ustate (groupIx g) = s.dev.ustate (groupIx g) := s.stamped_ustate _
    have serves : s.stamped.ustate (groupIx g) ∈ [.online, .degraded, .draining] := by rw [stamp]; exact fits
    have served : s.stamped.ustate (groupIx g) ≠ .resetting := fun e => by
      rw [← stamp, e] at fits
      exact absurd fits (by decide)
    obtain ⟨empty, other, state, gen, frame⟩ := s.stamped.cycleGroup_spec served
    obtain ⟨e, he, watched, put⟩ := a.runs 0xC051
      (f := fun d => d.queueReset g (s.dev.unit (groupIx g)).gen (fun st => st ∈ [.online, .degraded, .draining]) (·.cycleGroup g))
      (Dev.queueReset_done (d := s.stamped) rfl frame.now hg calm (by rw [s.stamped_unit]) (by rw [s.stamped_unit, idle]) (decide_eq_true serves))
    have queues := watched.queue
    refine ⟨e, (exec_queueResetGroup ..).trans he, fun i hi => ?_, ?_, ?_, fun p hp => ?_, ?_⟩
    · rw [queues]
      exact empty _ (by unfold groupOf; omega)
    · exact ((watched.ustate _).trans state).trans stamp
    · rw [watched.unit, gen, s.stamped_unit]
    · rw [queues]
      exact other p hp
    · rw [Dev.unitReply_of_ust (watched.parts .ust (by decide))]
      exact frame.puts put

end Sys2Proof.Machine
end

section
/-!
O39: TALLY SNAPSHOT (R245), REGION COMMIT (R62 to R64) and ORCHARD REGRAFT (R300).
-/
-- Checked one after another: side by side, each waiting for the kernel, the proofs need more threads than the memory admits.
set_option Elab.async false
namespace Sys2Proof.Machine

/-! ## Snapshots -/

section
variable (d : Dev)

@[simp] theorem Dev.talSet_setTalSet (n : Nat) (x : TalSet) : (d.setTalSet n x).talSet n = x := AMap.findD_put ..

theorem Dev.Frame.talSet {d e : Dev} {ps : List Part} {fs : List Fld} (h : d.Frame e ps fs) (n : Nat) (hp : .tal ∉ ps := by decide) :
    e.talSet n = d.talSet n := by
  have same : e.tal = d.tal := h.parts .tal hp
  unfold Dev.talSet
  rw [same]

theorem Dev.counterSet_id {d : Dev} {n : Nat} {x : CounterSet} (h : d.counterSet n = some x) : x.setId = n := by
  unfold Dev.counterSet at h
  obtain ⟨c, -, hc⟩ := Option.bind_eq_some_iff.1 h
  exact of_decide_eq_true (List.find?_some (p := fun r : CounterSet => decide (r.setId = n)) hc)

/-- A commanded boundary that is next is the one that was noted. -/
theorem Dev.nextBoundary_commanded {d : Dev} {cs : CounterSet} {b b' : Nat} {a : Bool} (noted : (d.talSet cs.setId).at_ = some b)
    (h : d.nextBoundary cs = some (b', true, a)) : b' = b := by
  unfold Dev.nextBoundary at h
  rw [noted] at h
  split at h
  · cases h
  · cases h
  · next e => cases h; exact (Option.some.inj e).symm
  · next _ e =>
    obtain ⟨rfl, he, -⟩ : _ ∧ _ ∧ _ := by simpa using h
    obtain rfl := Option.some.inj e
    exact Nat.min_eq_left he

/-- A commanded snapshot noted (R245). -/
def Dev.noteBoundary (d : Dev) (set b : Nat) : Dev := (d.drawFree 245).2.setTalSet set { d.talSet set with at_ := some b }

theorem Dev.noteBoundary_frame (set b : Nat) : d.Frame (d.noteBoundary set b) [.tal, .freeCtr] [] :=
  .step (.mono (Dev.drawFree_frame ..)) (Dev.setTalSet_frame ..)

theorem Dev.tallySnapshot_noted {d : Dev} {set b : Nat} {x : CounterSet} (hx : d.counterSet set = some x) (region : x.snapRegion ≠ 255)
    (lo : d.now ≤ b) (hi : b ≤ d.now + 10000000000) (copy : (d.talSet set).copy = none) (free : (d.talSet set).at_ = none)
    (live : d.memActive = true) :
    ∃ id, d.tallySnapshot set b = (0, leBytes 8 id ++ leBytes 8 b ++ leBytes 1 (id % 2) ++ zeros 7, (d.noteBoundary set b).takeBoundary set false) := by
  unfold Dev.tallySnapshot
  rw [hx]
  extract_lets y
  refine ⟨_, (if_neg ?_).trans ((if_neg ?_).trans rfl)⟩
  · simp only [Bool.or_eq_true, decide_eq_true_eq, not_or]
    exact ⟨⟨region, Nat.not_lt.2 lo⟩, Nat.not_lt.2 hi⟩
  · rw [show y.copy = none from copy, show y.at_ = none from free, live]
    decide

theorem Dev.startSnapshot_copy (cs : CounterSet) (b epoch : Nat) : ((d.startSnapshot cs b epoch).talSet cs.setId).copy.isSome = true := by
  unfold Dev.startSnapshot
  extract_lets x id bank c noted begun zeroed
  have write : begun.Frame zeroed [.regs, .evt, .jrn, .slices, .tier, .poison, .per, .out, .freeCtr]
      (evtFields.append [.DRT_PDEG_CAUSE, .DRT_PDEG_ACTIVE, .GLB_STATUS_PDEG, .DRT_PDEG_LOST, .JRN_THRU_LINES]) :=
    .thenEach (.refl _) fun d i => .ite (fun _ => .refl _) fun _ => Dev.snapWrite_frame ..
  rw [(Dev.snapWrite_frame ..).talSet, write.talSet]
  have begin : begun.talSet cs.setId = noted.talSet cs.setId := rfl
  rw [begin, show noted.talSet cs.setId = _ from Dev.talSet_setTalSet ..]
  rfl

/-- A commanded boundary that the merge takes starts the copy where none runs (R245). -/
theorem Dev.mergeBoundary_copy {d : Dev} {cs : CounterSet} (region : cs.snapRegion ≠ 255) (copy : (d.talSet cs.setId).copy = none)
    (b : Nat) (a : Bool) : ((d.mergeBoundary cs b true a).talSet cs.setId).copy.isSome = true := by
  unfold Dev.mergeBoundary
  extract_lets x epoch y
  refine (congrArg (fun e : Dev => (e.talSet cs.setId).copy.isSome) ((if_neg ?_).trans (if_neg ?_))).trans (Dev.startSnapshot_copy ..)
  · simpa using region
  · rw [show x.copy = none from copy]
    decide

theorem Dev.takeBoundary_none {d : Dev} {set : Nat} {x : CounterSet} (hx : d.counterSet set = some x) (next : d.nextBoundary x = none) :
    d.takeBoundary set false = d := by
  unfold Dev.takeBoundary
  rw [hx]
  dsimp only
  rw [next]

theorem Dev.takeBoundary_next {d : Dev} {set b : Nat} {c a : Bool} {x : CounterSet} (hx : d.counterSet set = some x)
    (next : d.nextBoundary x = some (b, c, a)) :
    d.takeBoundary set false = d.when (c && d.watermark b && d.tal.items.all (fun i => decide (b ≤ i.stamp)))
      fun d => d.asOf b fun d => d.mergeBoundary ((d.counterSet set).getD x) b c a := by
  unfold Dev.takeBoundary
  rw [hx]
  dsimp only
  rw [next]
  rfl

/-- What comes of a commanded boundary: it waits, or the clock has reached it and its snapshot starts. -/
theorem Dev.takeBoundary_commanded {d : Dev} {set b : Nat} {x : CounterSet} (hx : d.counterSet set = some x) (region : x.snapRegion ≠ 255)
    (noted : (d.talSet set).at_ = some b) (copy : (d.talSet set).copy = none) :
    d.takeBoundary set false = d ∨
      b ≤ d.now ∧ (d.cfgAt b = d.cfg → ((d.takeBoundary set false).talSet set).copy.isSome = true) := by
  have own := Dev.counterSet_id hx
  cases next : d.nextBoundary x with
  | none => exact .inl (Dev.takeBoundary_none hx next)
  | some t =>
    obtain ⟨b', c, a⟩ := t
    rw [Dev.takeBoundary_next hx next]
    cases taken : (c && d.watermark b' && d.tal.items.all (fun i => decide (b' ≤ i.stamp))) with
    | false => exact .inl rfl
    | true =>
      obtain ⟨⟨rfl, reached⟩, -⟩ : (c = true ∧ d.watermark b' = true) ∧ _ := by
        simpa only [Bool.and_eq_true] using taken
      obtain rfl := Dev.nextBoundary_commanded (own.symm ▸ noted) next
      refine .inr ⟨?_, fun same => ?_⟩
      · unfold Dev.watermark at reached
        simp only [Bool.and_eq_true, decide_eq_true_eq] at reached
        exact reached.1.1.1
      · have now : ({ d with cfg := d.cfgAt b', cause := some b' } : Dev).counterSet set = some x := by
          rw [same]
          exact hx
        rw [Dev.when_true]
        show ((Dev.mergeBoundary { d with cfg := d.cfgAt b', cause := some b' } _ b' true a).talSet set).copy.isSome = true
        rw [now, ← own]
        refine Dev.mergeBoundary_copy region ?_ b' a
        rw [own]
        exact copy
end

/-! ## Commits -/

section
variable (d : Dev)

theorem Dev.shadowOf_setShadow (n : Nat) (x : ShadowS) : (d.setShadow n x).shadowOf n = x := AMap.findD_put ..

theorem Dev.Frame.shadowOf {d e : Dev} {ps : List Part} {fs : List Fld} (h : d.Frame e ps fs) (n : Nat) (hp : .shadow ∉ ps := by decide) :
    e.shadowOf n = d.shadowOf n := by
  have same : e.shadow = d.shadow := h.parts .shadow hp
  unfold Dev.shadowOf
  rw [same]

theorem Dev.Frame.region {d e : Dev} {ps : List Part} {fs : List Fld} (h : d.Frame e ps fs) (n : Nat) (hp : .cfg ∉ ps := by decide) :
    e.region n = d.region n := by
  unfold Dev.region
  rw [h.cfg hp]

/-- The record of a dropped delta goes with its pages. -/
theorem Dev.releaseDropped_shadow {d : Dev} {n : Nat} {r : RegionRec} (h : d.region n = some r) :
    (d.releaseDropped n).shadowOf n = { d.shadowOf n with dropped := [] } := by
  unfold Dev.releaseDropped
  extract_lets s
  split
  · split
    · next empty =>
      have bare : s.dropped = [] := List.isEmpty_iff.1 empty
      show s = { s with dropped := [] }
      rw [← bare]
    · extract_lets e x
      have pages : d.Frame e [.jrn, .tier, .poison, .med, .per] [] := .thenEach (.refl _) fun d a => Dev.forgetPage_frame ..
      rw [Dev.shadowOf_setShadow, show x = s from pages.shadowOf n]
  · next e => exact absurd (h.symm.trans e) (by simp)

theorem Dev.fold_shadow (r : RegionRec) : (d.fold r).shadowOf r.number = { d.shadowOf r.number with folding := [] } := by
  unfold Dev.fold
  extract_lets s e x
  have pages : d.Frame e [.jrn, .tier, .poison, .med, .per, .cry] [] := .thenEach (.refl _) fun d a => Dev.movePage_frame ..
  rw [Dev.shadowOf_setShadow, show x = s from pages.shadowOf _]

theorem Dev.commitDelta_shadow (r : RegionRec) (t : Nat) : ∃ spill dropped, (d.commitDelta r t).shadowOf r.number =
    { state := 0, epoch := ((d.shadowOf r.number).epoch + 1) % 2 ^ 64, committedAt := t, delta := [],
      folding := (d.shadowOf r.number).delta, spill, dropped } := by
  unfold Dev.commitDelta
  extract_lets e s f g
  have folded : s.epoch = (d.shadowOf r.number).epoch ∧ s.delta = (d.shadowOf r.number).delta := by
    unfold s e
    split
    · exact ⟨rfl, rfl⟩
    · rw [d.fold_shadow]
      exact ⟨rfl, rfl⟩
  obtain ⟨epoch, delta⟩ := folded
  rw [(Dev.journal_frame _ _ _ _ 0).shadowOf, (Dev.dropCached_frame ..).shadowOf, ← epoch, ← delta]
  exact ⟨[], s.dropped, Dev.shadowOf_setShadow ..⟩

theorem Dev.dropDelta_shadow {d : Dev} {r : RegionRec} (h : d.region r.number = some r) :
    ((d.dropDelta r).shadowOf r.number).state = 0 ∧ ((d.dropDelta r).shadowOf r.number).delta = [] ∧
    ((d.dropDelta r).shadowOf r.number).epoch = (d.shadowOf r.number).epoch := by
  unfold Dev.dropDelta
  extract_lets e s f g x
  have logged : e.Frame g [.jrn, .slices] [] :=
    .step (.thenEach (.refl _) fun d a => .mono (Dev.journal_frame _ _ _ _ 0)) (Dev.dropCached_frame ..)
  have same : x.epoch = (d.shadowOf r.number).epoch := by
    rw [show x = s from logged.shadowOf _, show s = _ from Dev.releaseDropped_shadow h]
  rw [Dev.shadowOf_setShadow]
  exact ⟨rfl, rfl, same⟩

end

section
variable {d : Dev} {r : RegionRec} {e : Nat}

theorem Dev.shadowCommand_stale (op t : Nat) (h : e ≠ (d.shadowOf r.number).epoch) :
    d.shadowCommand r op e t = d.setReg .RGN_SHADOW_LAST_RESULT r.number resStale := if_pos h

theorem Dev.shadowCommand_discard (t : Nat) (h : e = (d.shadowOf r.number).epoch) :
    d.shadowCommand r 2 e t = (d.dropDelta r).setReg .RGN_SHADOW_LAST_RESULT r.number resDiscarded :=
  (if_neg (not_not_intro h)).trans (if_pos rfl)

/-- A COMMIT with the epoch expected succeeds, or reports an overflow or a page without two copies (R62, R71). -/
theorem Dev.shadowCommand_commit (t : Nat) (h : e = (d.shadowOf r.number).epoch) :
    d.shadowCommand r 1 e t = (d.commitDelta r t).setReg .RGN_SHADOW_LAST_RESULT r.number resOk ∨
    ((d.shadowCommand r 1 e t).reg .RGN_SHADOW_LAST_RESULT r.number ≠ 0 ∧ ((d.shadowOf r.number).state = 2 ∨
      ∃ x ∈ (d.shadowOf r.number).delta, (d.page (d.pid r true x.2)).unpers = true)) := by
  have run : d.shadowCommand r 1 e t =
      if (d.shadowOf r.number).state = 2 then d.setReg .RGN_SHADOW_LAST_RESULT r.number resOverflow
      else if (d.shadowOf r.number).delta.any (fun e => (d.page (d.pid r true e.2)).unpers) then
        d.setReg .RGN_SHADOW_LAST_RESULT r.number resDegraded
      else (d.commitDelta r t).setReg .RGN_SHADOW_LAST_RESULT r.number resOk :=
    (if_neg (not_not_intro h)).trans (if_neg (by decide))
  rw [run]
  split
  · next full => exact .inr ⟨by rw [Dev.reg_setReg]; decide, .inl full⟩
  · split
    · next some => exact .inr ⟨by rw [Dev.reg_setReg]; decide, .inr (List.any_eq_true.1 some)⟩
    · exact .inl rfl
end

/-- REGION COMMIT where its region is in service: the doorbell's command, and its record. -/
def Dev.commandRun (d : Dev) (r : RegionRec) (op e : Nat) : Dev := (d.shadowCommand r op e d.now).releaseDropped r.number

section
variable {d : Dev} {r : RegionRec} (found : d.region r.number = some r) (op e : Nat)
include found

theorem Dev.commandRun_shadow : (d.commandRun r op e).shadowOf r.number =
    { (d.shadowCommand r op e d.now).shadowOf r.number with dropped := [] } :=
  Dev.releaseDropped_shadow (((d.shadowCommand_frame r op e d.now).region _).trans found)

omit found in
theorem Dev.commandRun_result : (d.commandRun r op e).reg .RGN_SHADOW_LAST_RESULT r.number =
    (d.shadowCommand r op e d.now).reg .RGN_SHADOW_LAST_RESULT r.number := (Dev.releaseDropped_frame ..).reg _ _

omit found in
theorem Dev.commandRun_frame : d.Frame (d.commandRun r op e) [.regs, .jrn, .slices, .tier, .poison, .med, .shadow, .per, .cry]
    [.RGN_SHADOW_LAST_RESULT] := .step (Dev.shadowCommand_frame ..) (Dev.releaseDropped_frame ..)

theorem Dev.commandRun_stale (h : e ≠ (d.shadowOf r.number).epoch) :
    (d.commandRun r op e).shadowOf r.number = { d.shadowOf r.number with dropped := [] } ∧
    (d.commandRun r op e).reg .RGN_SHADOW_LAST_RESULT r.number = 1 := by
  rw [Dev.commandRun_shadow found, Dev.commandRun_result, Dev.shadowCommand_stale _ _ h, (Dev.setReg_frame ..).shadowOf, Dev.reg_setReg]
  exact ⟨rfl, rfl⟩

theorem Dev.commandRun_discard (h : e = (d.shadowOf r.number).epoch) :
    ((d.commandRun r 2 e).shadowOf r.number).state = 0 ∧ ((d.commandRun r 2 e).shadowOf r.number).delta = [] ∧
    ((d.commandRun r 2 e).shadowOf r.number).epoch = e ∧ (d.commandRun r 2 e).reg .RGN_SHADOW_LAST_RESULT r.number = 5 := by
  rw [Dev.commandRun_shadow found, Dev.commandRun_result, Dev.shadowCommand_discard _ h, (Dev.setReg_frame ..).shadowOf, Dev.reg_setReg]
  obtain ⟨state, delta, epoch⟩ := Dev.dropDelta_shadow found
  exact ⟨state, delta, epoch.trans h.symm, rfl⟩

theorem Dev.commandRun_commit (h : e = (d.shadowOf r.number).epoch) :
    ((d.commandRun r 1 e).reg .RGN_SHADOW_LAST_RESULT r.number = 0 →
      ∃ spill, (d.commandRun r 1 e).shadowOf r.number =
        { state := 0, epoch := (e + 1) % 2 ^ 64, committedAt := d.now, delta := [],
          folding := (d.shadowOf r.number).delta, spill, dropped := [] }) ∧
    ((d.shadowOf r.number).state ≠ 2 → (∀ x ∈ (d.shadowOf r.number).delta, (d.page (d.pid r true x.2)).unpers = false) →
      (d.commandRun r 1 e).reg .RGN_SHADOW_LAST_RESULT r.number = 0) := by
  rw [Dev.commandRun_shadow found, Dev.commandRun_result]
  obtain done | ⟨bad, why⟩ := Dev.shadowCommand_commit (d := d) (r := r) d.now h
  · rw [done, (Dev.setReg_frame ..).shadowOf, Dev.reg_setReg]
    obtain ⟨spill, dropped, committed⟩ := d.commitDelta_shadow r d.now
    rw [committed, h]
    exact ⟨fun _ => ⟨spill, rfl⟩, fun _ _ => rfl⟩
  · refine ⟨fun zero => absurd zero bad, fun state whole => ?_⟩
    obtain full | ⟨x, hx, unpers⟩ := why
    · exact absurd full state
    · exact absurd (unpers.symm.trans (whole x hx)) (by decide)

theorem Dev.regionCommit_runs (type : r.rtype = .table) (shadow : r.shadow = true) (on : d.offline r (.control 0) false = false) :
    d.regionCommit r.number op e =
      (if e = (d.shadowOf r.number).epoch then rcOk else rcStale, (d.commandRun r op e).commitReply r.number, d.commandRun r op e) := by
  unfold Dev.regionCommit
  rw [found]
  refine (if_neg ?_).trans ((if_neg ?_).trans ?_)
  · rw [type, shadow]
    decide
  · rw [on]
    decide
  · refine Prod.ext ?_ rfl
    show (if decide (e ≠ _) = true then rcStale else rcOk) = _
    by_cases same : e = (d.shadowOf r.number).epoch <;> simp [same]
end

theorem Dev.commitReply_of_frame {d e : Dev} {ps : List Part} {fs : List Fld} (h : d.Frame e ps fs) (n : Nat) (hs : .shadow ∉ ps := by decide)
    (hc : .cfg ∉ ps := by decide) (hf : .RGN_SHADOW_LAST_RESULT ∉ fs := by decide) : e.commitReply n = d.commitReply n := by
  unfold Dev.commitReply
  rw [h.shadowOf n hs, h.reg .RGN_SHADOW_LAST_RESULT n hf hc]

/-! ## Grafts -/

/-- The entries left without a parent, and the graft that runs. -/
def Dev.graftState (d : Dev) : List (Nat × Nat) × Option (Nat × Nat) := (d.cry.orphans, d.cry.regraft)

section
variable (d : Dev)

theorem Dev.Frame.keepsGraft {d e : Dev} {ps : List Part} {fs : List Fld} (h : d.Frame e ps fs) (hp : .cry ∉ ps := by decide) :
    Dev.Keeps Dev.graftState d e := ⟨by unfold Dev.graftState; rw [h.parts .cry hp]⟩

theorem Dev.orcEnter_keepsGraft (k : Nat) : Dev.Keeps Dev.graftState d (d.orcEnter k) := by
  unfold Dev.orcEnter
  split
  · exact .refl d
  · exact .update (.refl d)

theorem Dev.orcMark_keepsGraft (k : Nat) (slots : List Nat) : Dev.Keeps Dev.graftState d (d.orcMark k slots) := by
  unfold Dev.orcMark
  extract_lets x adv
  exact .update (.thenEach (.refl d) fun d a => d.orcEnter_keepsGraft a)

theorem Dev.regraftLines_keepsGraft (lpn : Nat) : Dev.Keeps Dev.graftState d (d.regraftLines lpn) := by
  unfold Dev.regraftLines
  extract_lets e g
  have lost : Dev.Keeps Dev.graftState d e := .thenEach (.refl d) fun d a => (Dev.poisonLine_frame ..).keepsGraft
  exact (lost.update).step (Dev.orcMark_keepsGraft ..)

theorem Dev.graftCounter_keepsGraft (k : Nat) : Dev.Keeps Dev.graftState d (d.graftCounter k) := by
  unfold Dev.graftCounter
  extract_lets o
  exact (Dev.Keeps.refl d).update.step (Dev.orcMark_keepsGraft ..)

theorem Dev.graftEntry_keepsGraft (k : Nat) : Dev.Keeps Dev.graftState d (d.graftEntry k) := by
  unfold Dev.graftEntry
  exact .thenEach (.refl d) fun d a => .ite (fun _ => d.graftCounter_keepsGraft a) fun _ => .refl d

theorem Dev.graftAbove_keepsGraft (level index top : Nat) : Dev.Keeps Dev.graftState d (d.graftAbove level index top) := by
  unfold Dev.graftAbove
  exact .thenEach (.refl d) fun d a => d.graftCounter_keepsGraft _
end

/-- A graft of the entry, with what goes with it (R300). -/
def Dev.regraftEntry (d : Dev) (level index : Nat) : Dev :=
  let e := (level, index)
  let d := d.each (d.entryPages level index) Dev.regraftLines
  let top := ((d.cry.orphans.filter (fun o => underEntry e o)).map (·.1)).foldl max level
  let d := { d with cry := { d.cry with orphans := graftAt d.cry.orphans e, regraft := some e } }
  let d := (d.each (d.freshEntries level index) Dev.graftEntry).graftAbove level index top
  d.each (List.range 64) Dev.regionHealth

theorem Dev.regraftEntry_spec (d : Dev) (level index : Nat) :
    (d.regraftEntry level index).graftState = (graftAt d.cry.orphans (level, index), some (level, index)) ∧
    d.Frame (d.regraftEntry level index) [.jrn, .slices, .tier, .poison, .med, .cry, .regs, .ust, .evt, .out] evtFields := by
  unfold Dev.regraftEntry
  extract_lets e x top _ y z
  have pages : Dev.Keeps Dev.graftState d x := .thenEach (.refl d) fun d a => d.regraftLines_keepsGraft a
  have entries : Dev.Keeps Dev.graftState y z := by
    unfold z
    exact (Dev.Keeps.thenEach (.refl y) fun d a => d.graftEntry_keepsGraft a).step (Dev.graftAbove_keepsGraft ..)
  have lost : d.Frame x [.jrn, .slices, .tier, .poison, .med, .cry] [] := .thenEach (.refl d) fun d a => d.regraftLines_frame a
  have noted : d.Frame y [.jrn, .slices, .tier, .poison, .med, .cry] [] := .update lost
  have grafted : y.Frame z [.cry] [] := by
    unfold z
    exact .step (.thenEach (.refl y) fun d a => d.graftEntry_frame a) (Dev.graftAbove_frame ..)
  have shown : z.Frame (z.each (List.range 64) Dev.regionHealth) [.regs, .ust, .evt, .jrn, .out] evtFields :=
    .thenEach (.refl z) fun d a => d.regionHealth_frame a
  refine ⟨?_, .step (.step (.mono noted) grafted) shown⟩
  rw [shown.keepsGraft.same, entries.same]
  have orphans : x.cry.orphans = d.cry.orphans := congrArg Prod.fst pages.same
  show (graftAt x.cry.orphans e, some e) = _
  rw [orphans]

/-- ORCHARD REGRAFT with FORCE (R300). -/
def Dev.forceGraft (level index : Nat) (d : Dev) : CmdOut :=
  if decide (10 < level) || decide (ceilDiv (2 ^ 32) (8 ^ level) ≤ index) ||
      (!true && !d.cry.orphans.any (fun o => underEntry o (level, index) || underEntry (level, index) o)) then d.refuse rcInvalid
  else (rcOk, leBytes 1 level ++ zeros 7 ++ leBytes 8 index ++ leBytes 8 d.cry.graft, d.regraftEntry level index)

theorem exec_orchardRegraft (c : CmdHdr) (level index : Nat) (s : State) :
    exec (.orchardRegraft c level index true) s = s.command c 0xC0D0 16 .change (Dev.forceGraft level index) := rfl

theorem Dev.forceGraft_done (d : Dev) {level index : Nat} (hl : level ≤ 10) (hi : index < ceilDiv (2 ^ 32) (8 ^ level)) :
    Dev.forceGraft level index d = (0, leBytes 1 level ++ zeros 7 ++ leBytes 8 index ++ leBytes 8 d.cry.graft, d.regraftEntry level index) := by
  unfold Dev.forceGraft
  refine if_neg ?_
  rw [decide_eq_false (Nat.not_lt.2 hl), decide_eq_false (Nat.not_le.2 hi)]
  exact Bool.false_ne_true

/-- Settles O39. -/
theorem snapshotCommitAndRegraftCommands : Obligations.SnapshotCommitAndRegraftCommands := by
  unfold Obligations.SnapshotCommitAndRegraftCommands
  refine ⟨fun s c set b x a hx region ahead near copy free live => ?_, fun s c set x a hx region copy free live same => ?_,
    fun s c r e a found type shadow on => ?_, fun s c level index a hl hi => ?_, fun s run goes => ?_⟩
  · obtain ⟨id, run⟩ := Dev.tallySnapshot_noted (d := s.stamped) hx region (Nat.le_of_lt ahead) near copy free live
    have frame := s.stamped.noteBoundary_frame set b
    have noted : (s.stamped.noteBoundary set b).talSet set = { s.dev.talSet set with at_ := some b } := Dev.talSet_setTalSet ..
    have waits : (s.stamped.noteBoundary set b).takeBoundary set false = s.stamped.noteBoundary set b := by
      have at_ : ((s.stamped.noteBoundary set b).talSet set).at_ = some b := by rw [noted]
      have none : ((s.stamped.noteBoundary set b).talSet set).copy = none := by rw [noted]; exact copy
      refine (Dev.takeBoundary_commanded (d := s.stamped.noteBoundary set b) (x := x) hx region at_ none).resolve_right fun early => ?_
      exact absurd early.1 (Nat.not_le.2 (frame.now.symm ▸ ahead))
    rw [waits] at run
    have he := a.command 0xC060 (f := fun d => d.tallySnapshot set b) run frame
    have all : s.stamped.Frame _ [.tal, .freeCtr, .regs, .out] [.MGT_CMD_EXECUTED, .MGT_CMD_REFUSED] :=
      .step (.mono frame) (Dev.reply_frame _ c 0xC060 0 (leBytes 8 id ++ leBytes 8 b ++ leBytes 1 (id % 2) ++ zeros 7))
    refine ⟨_, id, he, (congrArg TalSet.at_ noted :), ?_, ?_, all.changesOnly⟩
    · exact (congrArg TalSet.copy noted).trans copy
    · refine ⟨[_], ?_, List.mem_singleton_self _⟩
      rw [Dev.reply_out]
      rfl
  · obtain ⟨id, run⟩ := Dev.tallySnapshot_noted (d := s.stamped) hx region (Nat.le_refl s.tb) (Nat.le_add_right ..) copy free live
    have noted : (s.stamped.noteBoundary set s.tb).talSet set = { s.dev.talSet set with at_ := some s.tb } := Dev.talSet_setTalSet ..
    have at_ : ((s.stamped.noteBoundary set s.tb).talSet set).at_ = some s.tb := by rw [noted]
    have none : ((s.stamped.noteBoundary set s.tb).talSet set).copy = none := by rw [noted]; exact copy
    have taken := Dev.takeBoundary_commanded (d := s.stamped.noteBoundary set s.tb) (x := x) hx region at_ none
    have frame : s.stamped.Frame _ [.regs, .evt, .jrn, .slices, .tier, .poison, .tal, .per, .out, .freeCtr] _ :=
      .step (.mono (s.stamped.noteBoundary_frame set s.tb) (hf := List.nil_subset _)) (Dev.takeBoundary_frame _ set false)
        (hf := List.Subset.refl _)
    obtain ⟨e, he, watched, put⟩ := a.runs 0xC060 (f := fun d => d.tallySnapshot set d.now) run
    refine ⟨e, id, he, ?_, frame.puts put⟩
    rw [watched.talSet]
    exact taken.imp (fun waits => by rw [waits, at_]) fun started => started.2 same
  · have here : s.stamped.region r.number = some r := found
    have frame (op : Nat) := s.stamped.commandRun_frame (r := r) op e
    have runs (op : Nat) := a.runs 0xC040 (f := fun d => d.regionCommit r.number op e) (Dev.regionCommit_runs here op e type shadow on)
    obtain ⟨d, hd, watchedD, putD⟩ := runs 1
    obtain ⟨g, hg, watchedG, putG⟩ := runs 2
    refine ⟨d, g, hd, hg, fun (expected : e = (s.stamped.shadowOf r.number).epoch) => ?_,
      fun (stale : e ≠ (s.stamped.shadowOf r.number).epoch) => ?_⟩
    · rw [if_pos expected, ← Dev.commitReply_of_frame watchedD] at putD
      rw [if_pos expected, ← Dev.commitReply_of_frame watchedG] at putG
      obtain ⟨committed, whole⟩ := Dev.commandRun_commit here e expected
      obtain ⟨state, delta, epoch, result⟩ := Dev.commandRun_discard here e expected
      rw [← watchedD.shadowOf, ← watchedD.reg .RGN_SHADOW_LAST_RESULT] at committed
      rw [← watchedD.reg .RGN_SHADOW_LAST_RESULT] at whole
      rw [← watchedG.shadowOf] at state delta epoch
      rw [← watchedG.reg .RGN_SHADOW_LAST_RESULT] at result
      refine ⟨fun zero => ?_, whole, (frame 1).puts putD, state, delta, epoch, result, (frame 2).puts putG⟩
      obtain ⟨spill, now⟩ := committed zero
      rw [now]
      exact ⟨rfl, rfl, rfl, rfl, rfl⟩
    · rw [if_neg stale, ← Dev.commitReply_of_frame watchedD] at putD
      obtain ⟨shadowD, result⟩ := Dev.commandRun_stale here 1 e stale
      obtain ⟨shadowG, -⟩ := Dev.commandRun_stale here 2 e stale
      rw [← watchedD.shadowOf] at shadowD
      rw [← watchedD.reg .RGN_SHADOW_LAST_RESULT] at result
      rw [← watchedG.shadowOf] at shadowG
      exact ⟨shadowD, result, (frame 1).puts putD, shadowG⟩
  · obtain ⟨grafted, frame⟩ := s.stamped.regraftEntry_spec level index
    obtain ⟨e, he, watched, put⟩ := a.runs 0xC0D0 (f := Dev.forceGraft level index) (s.stamped.forceGraft_done hl hi)
    have state := watched.keepsGraft.same.trans grafted
    exact ⟨e, (exec_orchardRegraft ..).trans he, congrArg Prod.snd state, congrArg Prod.fst state, frame.puts put⟩
  · have runs := State.runs_of_running run
    refine State.on_to run.1 ?_
    rw [runs, show s.stamped.cry.regraft.isSome = true from goes]
    rfl

end Sys2Proof.Machine
end

section
/-!
The lines of the store: what a stored, a lost and a poisoned line leave of it and of every other line.
-/
-- Checked one after another: side by side, each waiting for the kernel, the proofs need more threads than the memory admits.
set_option Elab.async false
namespace Sys2Proof.Machine

section
variable {d e f : Dev} {pid sub p n : Nat}

/-- No line changes. -/
def Dev.SameLines (d e : Dev) : Prop := ∀ p n, e.cellAt p n = d.cellAt p n ∧ e.poisoned p n = d.poisoned p n

theorem Dev.SameLines.trans (h : d.SameLines e) (k : e.SameLines f) : d.SameLines f :=
  fun p n => ⟨(k p n).1.trans (h p n).1, (k p n).2.trans (h p n).2⟩

theorem Dev.SameLines.but (h : d.SameLines e) : d.LinesBut e pid sub := fun p n _ _ => h p n

theorem Dev.LinesBut.trans (h : d.LinesBut e pid sub) (k : e.LinesBut f pid sub) : d.LinesBut f pid sub :=
  fun p n hn ne => ⟨(k p n hn ne).1.trans (h p n hn ne).1, (k p n hn ne).2.trans (h p n hn ne).2⟩

/-- Lines are read off the tier, the media and the poison. -/
theorem Dev.sameLines_of (tier : e.tier = d.tier) (map : e.med.map = d.med.map) (pages : e.med.pages = d.med.pages)
    (lines : e.poison.lines = d.poison.lines) (whole : e.poison.pages = d.poison.pages) : d.SameLines e := by
  intro p n
  unfold Dev.cellAt Dev.poisoned Dev.inTier Dev.mapEntry
  rw [tier, map, pages, lines, whole]
  exact ⟨rfl, rfl⟩

theorem Dev.Frame.lines {ps : List Part} {fs : List Fld} (h : d.Frame e ps fs)
    (hp : ∀ p ∈ [Part.tier, .poison, .med], p ∉ ps := by decide) : d.SameLines e := by
  have tier : e.tier = d.tier := h.parts .tier (hp _ (by decide))
  have poison : e.poison = d.poison := h.parts .poison (hp _ (by decide))
  have med : e.med = d.med := h.parts .med (hp _ (by decide))
  exact Dev.sameLines_of tier (by rw [med]) (by rw [med]) (by rw [poison]) (by rw [poison])

end

/-! ## Poison -/

section
variable (d : Dev) (pid sub : Nat)

theorem AMap.find_foldl_put_range (m : AMap Nat) (l : List Nat) (base v k : Nat) :
    (l.foldl (fun (m : AMap Nat) s => m.put (base + s) v) m).find k = if ∃ s ∈ l, base + s = k then some v else m.find k := by
  induction l generalizing m with
  | nil => simp
  | cons a l ih =>
    rw [List.foldl_cons, ih, AMap.find_put_eq]
    by_cases here : base + a = k <;> simp [here]

theorem lineKey_inj {p q n m : Nat} (hn : n < 64) (hm : m < 64) (h : p * 64 + n = q * 64 + m) : p = q ∧ n = m := by omega

/-- Splitting the record of a whole page into its lines leaves each line as poisoned as it was. -/
theorem Dev.splitPoison_eq : ∃ lines pages, d.splitPoison pid = { d with poison := { d.poison with lines, pages } } ∧
    pages.contains pid = false ∧
    ∀ p n, n < 64 → (lines.has (p * 64 + n) || pages.contains p) = (d.poison.lines.has (p * 64 + n) || d.poison.pages.contains p) := by
  unfold Dev.splitPoison
  split
  · next whole =>
    refine ⟨_, _, rfl, by simp [setErase], fun p n hn => ?_⟩
    unfold AMap.has
    rw [AMap.find_foldl_put_range]
    by_cases own : p = pid
    · subst own
      rw [if_pos ⟨n, List.mem_range.2 hn, rfl⟩, whole]
      simp
    · have other : ¬ ∃ s ∈ List.range 64, pid * 64 + s = p * 64 + n := fun ⟨s, hs, e⟩ =>
        own (lineKey_inj (List.mem_range.1 hs) hn e).1.symm
      rw [if_neg other]
      simp [setErase, own]
  · next h => exact ⟨_, _, rfl, eq_false_of_ne_true h, fun _ _ _ => rfl⟩

/-- Poison recorded for a line: of it alone, or of its page. -/
def Dev.marked (d : Dev) (p n : Nat) : Bool := d.poison.lines.has (p * 64 + n) || d.poison.pages.contains p

theorem Dev.linesBut_of {d e : Dev} {pid sub : Nat} (cells : ∀ p n, n < 64 → (p ≠ pid ∨ n ≠ sub) →
      (e.tier.find p).bind (fun x => x.lines.find n) = (d.tier.find p).bind (fun x => x.lines.find n))
    (marked : ∀ p n, n < 64 → (p ≠ pid ∨ n ≠ sub) → e.marked p n = d.marked p n) (med : e.med = d.med) : d.LinesBut e pid sub := by
  intro p n hn ne
  unfold Dev.cellAt Dev.poisoned Dev.inTier Dev.mapEntry
  rw [cells p n hn ne, med]
  refine ⟨rfl, ?_⟩
  have same := marked p n hn ne
  unfold Dev.marked at same
  rw [same]

theorem Dev.splitPoison_lines : d.LinesBut (d.splitPoison pid) pid sub := by
  obtain ⟨lines, pages, e, -, marked⟩ := d.splitPoison_eq pid
  rw [e]
  exact Dev.linesBut_of (fun _ _ _ _ => rfl) (fun p n hn _ => marked p n hn) rfl

theorem Dev.notePoison_marks : d.notePoison.poison.lines = d.poison.lines ∧ d.notePoison.poison.pages = d.poison.pages := by
  unfold Dev.notePoison
  split <;> exact ⟨rfl, rfl⟩

/-- What poisoning a line leaves of the poison, the tier and the media. -/
theorem Dev.poisonLine_eq (src : Nat) : ∃ lines pages, (d.poisonLine pid sub src).poison.lines = AMap.put lines (pid * 64 + sub) src ∧
    (d.poisonLine pid sub src).poison.pages = pages ∧
    (d.poisonLine pid sub src).tier = d.tier.alter pid (fun p => { p with lines := p.lines.del sub }) ∧
    (d.poisonLine pid sub src).med = d.med ∧ ∀ p n, n < 64 → (lines.has (p * 64 + n) || pages.contains p) = d.marked p n := by
  obtain ⟨lines, pages, e, -, marked⟩ := d.splitPoison_eq pid
  unfold Dev.poisonLine
  rw [e]
  extract_lets _ _ _ x y z
  have dropped : y.Frame z [.slices] [] := by
    unfold z
    split
    · exact Dev.dropLine_frame ..
    · exact .refl y
  have logged : y.Frame (z.journal 0x0B (pid * 64 + sub) (src + 1)) [.slices, .jrn] [] :=
    .step (.mono dropped) (Dev.journal_frame _ _ _ _ 0)
  have poison : (z.journal 0x0B (pid * 64 + sub) (src + 1)).poison = y.poison := logged.parts .poison (by decide)
  have tier : (z.journal 0x0B (pid * 64 + sub) (src + 1)).tier = y.tier := logged.parts .tier (by decide)
  have med : (z.journal 0x0B (pid * 64 + sub) (src + 1)).med = y.med := logged.parts .med (by decide)
  have noted := Dev.notePoison_frame
    { d with poison := { d.poison with lines := AMap.put lines (pid * 64 + sub) src, pages } }
  have marks := Dev.notePoison_marks
    { d with poison := { d.poison with lines := AMap.put lines (pid * 64 + sub) src, pages } }
  refine ⟨lines, pages, ?_, ?_, ?_, ?_, marked⟩
  · rw [poison]
    exact marks.1
  · rw [poison]
    exact marks.2
  · rw [tier]
    have kept : x.tier = d.tier := noted.parts .tier (by decide)
    show x.tier.alter pid _ = _
    rw [kept]
  · rw [med]
    exact noted.parts .med (by decide)

theorem AMap.find_put_lineKey (m : AMap Nat) {p n sub : Nat} (v : Nat) (hs : sub < 64) (hn : n < 64) (ne : p ≠ pid ∨ n ≠ sub) :
    (m.put (pid * 64 + sub) v).find (p * 64 + n) = m.find (p * 64 + n) := by
  refine AMap.find_put_ne _ _ fun e => ?_
  obtain ⟨rfl, rfl⟩ := lineKey_inj hs hn e
  exact ne.elim (absurd rfl) (absurd rfl)

theorem Dev.tierCell_alter {p n : Nat} (t : AMap TPage) (ne : p ≠ pid ∨ n ≠ sub) :
    ((t.alter pid (fun p => { p with lines := p.lines.del sub })).find p).bind (fun x => x.lines.find n) =
      (t.find p).bind (fun x => x.lines.find n) := by
  by_cases own : p = pid
  · subst own
    rw [AMap.find_alter]
    cases t.find p with
    | none => rfl
    | some x => exact AMap.find_del_ne _ (ne.resolve_left (absurd rfl)).symm
  · rw [AMap.find_alter_ne _ _ (Ne.symm own)]

theorem Dev.poisonLine_lines {sub : Nat} (src : Nat) (hs : sub < 64) : d.LinesBut (d.poisonLine pid sub src) pid sub ∧
    (d.poisonLine pid sub src).poison.lines.find (pid * 64 + sub) = some src := by
  obtain ⟨lines, pages, el, ep, tier, med, marked⟩ := d.poisonLine_eq pid sub src
  refine ⟨Dev.linesBut_of (fun p n hn ne => ?_) (fun p n hn ne => ?_) med, by rw [el, AMap.find_put]⟩
  · rw [tier]
    exact Dev.tierCell_alter _ _ _ ne
  · rw [← marked p n hn]
    unfold Dev.marked AMap.has
    rw [el, ep, AMap.find_put_lineKey _ _ _ hs hn ne]

theorem Dev.poisoned_of_find {d : Dev} {pid sub src : Nat} (h : d.poison.lines.find (pid * 64 + sub) = some src) : d.poisoned pid sub = true := by
  unfold Dev.poisoned AMap.has
  rw [h]
  rfl

/-- A line that a write takes is free of its own record of poison, and of its page's. -/
theorem Dev.unpoison_lines {sub : Nat} (hs : sub < 64) : d.LinesBut (d.unpoison pid sub) pid sub ∧ (d.unpoison pid sub).marked pid sub = false ∧
    (d.unpoison pid sub).poison.lines.find (pid * 64 + sub) = none ∧ (d.unpoison pid sub).tier = d.tier ∧ (d.unpoison pid sub).med = d.med := by
  obtain ⟨lines, pages, e, whole, marked⟩ := d.splitPoison_eq pid
  have start := e ▸ d.splitPoison_lines pid sub
  unfold Dev.unpoison
  rw [e]
  extract_lets _ x
  cases has : lines.has (pid * 64 + sub) with
  | false =>
    have none : lines.find (pid * 64 + sub) = none := by simpa [AMap.has] using has
    refine ⟨start, ?_, none, rfl, rfl⟩
    show (lines.has _ || pages.contains pid) = false
    rw [has, whole]
    rfl
  | true =>
    have gone : (lines.del (pid * 64 + sub)).find (pid * 64 + sub) = none := AMap.find_del ..
    refine ⟨start.trans (Dev.linesBut_of (fun _ _ _ _ => rfl) (fun p n hn ne => ?_) rfl), ?_, gone, rfl, rfl⟩
    · unfold Dev.marked AMap.has
      refine congrArg (fun o : Option Nat => o.isSome || _) (AMap.find_del_ne _ fun e => ?_)
      obtain ⟨rfl, rfl⟩ := lineKey_inj hs hn e
      exact ne.elim (absurd rfl) (absurd rfl)
    · show ((lines.del _).has _ || pages.contains pid) = false
      rw [AMap.has, gone, whole]
      rfl

/-! ## Storing a cell -/

theorem Dev.setPage_lines {c : Cell} {q : TPage} {sub : Nat} (hq : q.lines = (d.page pid).lines.put sub c) :
    d.LinesBut (d.setPage pid q) pid sub ∧ (d.setPage pid q).cellAt pid sub = some c ∧ (d.setPage pid q).inTier pid sub = true := by
  have now : (d.setPage pid q).tier.find pid = some q := AMap.find_put ..
  have cell : ((d.setPage pid q).tier.find pid).bind (fun x => x.lines.find sub) = some c := by
    rw [now, Option.bind_some, hq, AMap.find_put]
  refine ⟨Dev.linesBut_of (fun p n hn ne => ?_) (fun _ _ _ _ => rfl) rfl, ?_, ?_⟩
  · by_cases own : p = pid
    · subst own
      rw [now, Option.bind_some, hq, AMap.find_put_ne _ _ (ne.resolve_left (absurd rfl)).symm]
      unfold Dev.page AMap.findD
      cases d.tier.find p <;> rfl
    · exact congrArg (fun o : Option TPage => o.bind _) (AMap.find_put_ne _ _ (Ne.symm own))
  · unfold Dev.cellAt
    rw [cell]
  · unfold Dev.inTier
    rw [cell]
    rfl

/-- The line holds the cell, free of poison. -/
def Dev.Holds (d : Dev) (pid sub : Nat) (c : Cell) : Prop :=
  d.cellAt pid sub = some c ∧ d.poisoned pid sub = false ∧ d.poison.lines.find (pid * 64 + sub) = none

/-- A device whose poison does not name the line, and whose tier takes the cell, holds it. -/
theorem Dev.setPage_holds {d : Dev} {pid sub : Nat} {c : Cell} {q : TPage} (hq : q.lines = (d.page pid).lines.put sub c)
    (free : d.marked pid sub = false) : (d.setPage pid q).Holds pid sub c := by
  obtain ⟨-, cell, tier⟩ := d.setPage_lines pid hq
  refine ⟨cell, ?_, ?_⟩
  · unfold Dev.poisoned
    have unmarked : (d.setPage pid q).marked pid sub = false := free
    unfold Dev.marked at unmarked
    rw [tier, unmarked]
    simp
  · unfold Dev.marked AMap.has at free
    exact Option.isSome_eq_false_iff.1 (Bool.or_eq_false_iff.1 free).1 |> Option.isNone_iff_eq_none.1

theorem Dev.Holds.after {d e : Dev} {pid sub : Nat} {c : Cell} {ps : List Part} {fs : List Fld} (k : d.Holds pid sub c) (h : d.Frame e ps fs)
    (hp : ∀ p ∈ [Part.tier, .poison, .med], p ∉ ps := by decide) : e.Holds pid sub c := by
  obtain ⟨cell, clean, mark⟩ := k
  have poison : e.poison = d.poison := h.parts .poison (hp _ (by decide))
  exact ⟨((h.lines hp) pid sub).1.trans cell, ((h.lines hp) pid sub).2.trans clean, poison ▸ mark⟩

theorem Dev.Frame.page {d e : Dev} {ps : List Part} {fs : List Fld} (h : d.Frame e ps fs) (pid : Nat)
    (hp : ∀ p ∈ [Part.tier, .poison, .med], p ∉ ps := by decide) : e.page pid = d.page pid := by
  have tier : e.tier = d.tier := h.parts .tier (hp _ (by decide))
  have med : e.med = d.med := h.parts .med (hp _ (by decide))
  unfold Dev.page Dev.mapEntry
  rw [tier, med]

/-- From a line free of poison to a page of the tier that holds its cell. -/
theorem Dev.stored_of {d x y z : Dev} {pid sub : Nat} {c : Cell} {q : TPage} {ps qs : List Part} {fs hs : List Fld}
    (start : d.LinesBut x pid sub) (free : x.marked pid sub = false) (h : x.Frame y ps fs) (hq : q.lines = (x.page pid).lines.put sub c)
    (k : (y.setPage pid q).Frame z qs hs) (hp : ∀ p ∈ [Part.tier, .poison, .med], p ∉ ps := by decide)
    (hp' : ∀ p ∈ [Part.tier, .poison, .med], p ∉ qs := by decide) : d.LinesBut z pid sub ∧ z.Holds pid sub c := by
  have poison : y.poison = x.poison := h.parts .poison (hp _ (by decide))
  have clean : y.marked pid sub = false := by
    unfold Dev.marked
    rw [poison]
    exact free
  rw [← h.page pid hp] at hq
  exact ⟨((start.trans (h.lines hp).but).trans (y.setPage_lines pid hq).1).trans (k.lines hp').but, (Dev.setPage_holds hq clean).after k hp'⟩

/-- A cell stored in a volatile page is held; in a persistent one it is held, or the line is lost to poison and counted (R71). -/
theorem Dev.storeCell_lines {sub : Nat} (hs : sub < 64) (c : Cell) : d.LinesBut (d.storeCell pid sub c).2 pid sub ∧
    ((d.storeCell pid sub c).2.Holds pid sub c ∧ (d.storeCell pid sub c).1 ≠ .lost ∨
      isLpn pid = true ∧ (d.storeCell pid sub c).1 = .lost ∧ (d.storeCell pid sub c).2.poison.lines.find (pid * 64 + sub) = some poisonInternal ∧
      d.Counted (d.storeCell pid sub c).2 .DRT_PDEG_LOST 0 1) := by
  obtain ⟨start, free, -, tier, med⟩ := d.unpoison_lines pid hs
  have first := d.unpoison_frame pid sub
  unfold Dev.storeCell
  extract_lets +onlyGivenNames x p
  split
  · generalize hq : (if p.copies.isEmpty then x.pickStacks 1 else (p.copies, x)) = q
    obtain ⟨st, y⟩ := q
    have picked : x.Frame y [.freeCtr] [] := by
      refine .of_pair hq ?_ id
      split
      · exact x.pickStacks_frame 1
      · exact .refl x
    obtain ⟨others, held⟩ := Dev.stored_of (q := { p with lines := p.lines.put sub c, copies := st, usedAt := y.now })
      (ps := [.freeCtr]) (qs := []) (hs := []) start free picked rfl (.refl _)
    exact ⟨others, .inl ⟨held, Stored.noConfusion⟩⟩
  · next persistent =>
    extract_lets +onlyGivenNames want pair space thru y unpers limit adds
    have noted : x.Frame y [.regs, .evt, .out] (evtFields.append [.DRT_PDEG_CAUSE, .DRT_PDEG_ACTIVE, .GLB_STATUS_PDEG]) :=
      .ite (fun _ => Dev.setPdeg_frame ..) fun _ => .ite (fun _ => Dev.setPdeg_frame ..) fun _ => .refl x
    split
    · extract_lets +onlyGivenNames z heads
      obtain ⟨others, gone⟩ := z.poisonLine_lines pid poisonInternal hs
      have counting : y.Frame z [.regs] [.DRT_PDEG_LOST] := Dev.count_frame ..
      have last := Dev.raise_frame (z.poisonLine pid sub poisonInternal) 865 { dpa := (z.dpaOf pid sub).getD 0, b := 1, heads := heads }
      have mark := congrArg PoisonS.lines (last.parts .poison (by decide) :)
      refine ⟨(((start.trans noted.lines.but).trans counting.lines.but).trans others).trans last.lines.but, .inr ⟨?_, rfl, ?_, ?_⟩⟩
      · simpa using persistent
      · exact (congrArg (fun m : AMap Nat => m.find _) mark).trans gone
      · have before : d.Frame y [.jrn, .poison, .regs, .evt, .out] (evtFields.append [.DRT_PDEG_CAUSE, .DRT_PDEG_ACTIVE, .GLB_STATUS_PDEG]) :=
          .step (.mono first) noted
        have after : z.Frame _ [.jrn, .slices, .tier, .poison, .regs, .evt, .out] evtFields :=
          .step (.mono (z.poisonLine_frame pid sub poisonInternal)) last
        exact before.counted after
    · extract_lets +onlyGivenNames covered
      generalize hq : (if p.dirty && !p.copies.isEmpty then (p.copies, y) else y.pickStacks 2) = q
      obtain ⟨st, z⟩ := q
      have picked : y.Frame z [.freeCtr] [] := .of_pair hq (y.copiesOr_frame ..) id
      dsimp -zeta only
      extract_lets +onlyGivenNames mark w ver v per u
      have logged : z.Frame w [.jrn] [] := .ite (fun _ => Dev.journal_frame ..) fun _ => .refl z
      have all : x.Frame w [.regs, .evt, .out, .freeCtr, .jrn] (evtFields.append [.DRT_PDEG_CAUSE, .DRT_PDEG_ACTIVE, .GLB_STATUS_PDEG]) :=
        .step (.step (.mono noted) picked) logged
      have peak : v.Frame u [.per] [] := .update (.refl v)
      obtain ⟨others, held⟩ := Dev.stored_of (d := d) (x := x) (y := w) (c := c) start free all rfl peak
      split
      · have sheet := u.through_frame pid sub ver c
        exact ⟨others.trans sheet.lines.but, .inl ⟨held.after sheet, Stored.noConfusion⟩⟩
      · exact ⟨others, .inl ⟨held, Stored.noConfusion⟩⟩

/-- A line stored poisoned (R75). -/
theorem Dev.storePoison_lines {sub : Nat} (hs : sub < 64) (src : Nat) : d.LinesBut (d.storePoison pid sub src).2 pid sub ∧
    (d.storePoison pid sub src).2.poison.lines.find (pid * 64 + sub) = some src := by
  unfold Dev.storePoison
  have stored := (d.storeCell_lines pid hs { data := 0, ki := 0, key := 0 }).1
  split
  next st e hst =>
  rw [hst] at stored
  obtain ⟨others, mark⟩ := e.poisonLine_lines pid src hs
  exact ⟨stored.trans others, mark⟩
end

end Sys2Proof.Machine
end

section
/-!
Losing a link leaves the records of the packages, but for whether their rebuild is over, and of the links.
-/
-- Checked one after another: side by side, each waiting for the kernel, the proofs need more threads than the memory admits.
set_option Elab.async false
namespace Sys2Proof.Machine

/-- The record of a package without its mark of a rebuild that is over. -/
def Dev.pkgRecord (d : Dev) (p : Nat) : PkgS := { d.pkg p with rebuilt := false }

/-- The records of the packages, without that mark, and of the links. -/
def Dev.portSide (d : Dev) : (Nat → PkgS) × AMap LinkS := (d.pkgRecord, d.med.links)

/-- The records of the packages, but for that mark, and of the links are as before. -/
abbrev Dev.KeepsPackages (d e : Dev) : Prop := Dev.Keeps Dev.portSide d e

theorem Dev.KeepsPackages.record {d e : Dev} (k : d.KeepsPackages e) (p : Nat) : e.pkgRecord p = d.pkgRecord p :=
  congrFun (congrArg Prod.fst k.same) p

theorem Dev.KeepsPackages.link {d e : Dev} (k : d.KeepsPackages e) (m : Nat) : e.link m = d.link m :=
  congrArg (fun l : AMap LinkS => l.findD m {}) (congrArg Prod.snd k.same)

theorem Dev.KeepsPackages.of {d e : Dev} {ps : List Part} {fs : List Fld} (h : d.Frame e ps fs) (hp : .med ∉ ps := by decide) :
    d.KeepsPackages e := ⟨by
  have same : e.med = d.med := h.parts .med hp
  refine Prod.ext (funext fun p => ?_) (congrArg MediaS.links same)
  unfold Dev.portSide Dev.pkgRecord Dev.pkg
  rw [same]⟩

theorem Dev.setPkg_keepsPackages (d : Dev) {p : Nat} {x : PkgS} (hx : { x with rebuilt := false } = d.pkgRecord p) :
    d.KeepsPackages (d.setPkg p x) := ⟨by
  refine Prod.ext (funext fun q => ?_) rfl
  unfold Dev.portSide Dev.pkgRecord
  by_cases own : p = q
  · subst own
    have now : (d.setPkg p x).pkg p = x := AMap.findD_put ..
    dsimp only
    rw [now, hx]
    rfl
  · exact congrArg (fun x : PkgS => { x with rebuilt := false }) (AMap.findD_put_ne _ _ _ own)⟩

theorem Dev.KeepsPackages.thenCausedBy {d e : Dev} {t : Option Nat} {f : Dev → Dev} (h : d.KeepsPackages e)
    (k : ∀ d, Dev.KeepsPackages d (f d)) : d.KeepsPackages (e.causedBy t f) := ⟨(k { e with cause := t }).same.trans h.same⟩

theorem Dev.setRead_keepsPackages (d : Dev) (n : Nat) (r : MRead) : d.KeepsPackages (d.setRead n r) := by
  unfold Dev.setRead
  exact .update (.refl _)

theorem Dev.setBlock_keepsPackages (d : Dev) (k : Nat) (b : Block) : d.KeepsPackages (d.setBlock k b) := by
  unfold Dev.setBlock
  exact .update (.refl _)

theorem Dev.countDie_keepsPackages (d : Dev) (band : Nat) (die : Nat) (n : Nat) : d.KeepsPackages (d.countDie band die n) := by
  unfold Dev.countDie
  split
  · exact .refl _
  · extract_lets +onlyGivenNames k x
    exact .step (.refl _) (Dev.setBlock_keepsPackages ..)

theorem Dev.readAgain_keepsPackages (d : Dev) (c : MCmd) : d.KeepsPackages (d.readAgain c) := by
  unfold Dev.readAgain
  split
  · split
    · exact .step (.step (.refl _) (Dev.setRead_keepsPackages ..)) (Dev.countDie_keepsPackages ..)
    · exact .refl _
  · exact .step (.refl _) (Dev.countDie_keepsPackages ..)
  · exact .refl _

theorem Dev.mapTouch_keepsPackages (d : Dev) (page : Nat) (change : Bool) : d.KeepsPackages (d.mapTouch page change) := by
  unfold Dev.mapTouch
  extract_lets +onlyGivenNames x x
  exact .update (.refl _)

theorem Dev.setDie_keepsPackages (d : Dev) (n : Nat) (x : Die) : d.KeepsPackages (d.setDie n x) := by
  unfold Dev.setDie
  exact .update (.refl _)

theorem Dev.sendCmd_keepsPackages (d : Dev) (op : Nat) (die : Nat) (use : CmdUse) (refs : Nat) : d.KeepsPackages (d.sendCmd op die use refs) := by
  unfold Dev.sendCmd
  split
  · exact .refl _
  · extract_lets +onlyGivenNames x opid d
    refine .use d ?_ fun h => ?_
    · unfold d
      exact .step (.refl _) (Dev.setDie_keepsPackages ..)
    · exact .update (h)

theorem Dev.sendRead_keepsPackages (d : Dev) (die : Nat) (q : QRead) : d.KeepsPackages (d.sendRead die q) := by
  unfold Dev.sendRead
  extract_lets +onlyGivenNames x d
  refine .use d ?_ fun h => ?_
  · unfold d
    exact .step (.refl _) (Dev.setDie_keepsPackages ..)
  · split
    · split
      · exact .step h (Dev.sendCmd_keepsPackages ..)
      · extract_lets +onlyGivenNames band before refs _ d
        refine .use d ?_ fun h => ?_
        · unfold d
          exact .ite (fun _ => h) fun _ => .update (h)
        · exact .step (.step (h) (Dev.countDie_keepsPackages ..)) (Dev.sendCmd_keepsPackages ..)
    · exact .step (.step (h) (Dev.countDie_keepsPackages ..)) (Dev.sendCmd_keepsPackages ..)
    · exact .step h (Dev.sendCmd_keepsPackages ..)

theorem Dev.resumeDie_keepsPackages (d : Dev) (die : Nat) : d.KeepsPackages (d.resumeDie die) := by
  unfold Dev.resumeDie
  extract_lets +onlyGivenNames x
  split
  · exact .refl _
  · split
    · exact .refl _
    · exact .step (.step (.refl _) (Dev.setDie_keepsPackages ..)) (Dev.sendCmd_keepsPackages ..)

theorem Dev.kick_keepsPackages (d : Dev) (die : Nat) : d.KeepsPackages (d.kick die) := by
  unfold Dev.kick
  extract_lets +onlyGivenNames x
  refine .ite (fun _ => .refl _) fun _ => ?_
  extract_lets +onlyGivenNames ok
  split
  · exact .step (.refl _) (Dev.sendRead_keepsPackages ..)
  · exact .ite (fun _ => .step (.refl _) (Dev.resumeDie_keepsPackages ..)) fun _ => .refl _

theorem Dev.wearDebit_keepsPackages (d : Dev) (bytes : Nat) : d.KeepsPackages (d.wearDebit bytes) := by
  unfold Dev.wearDebit
  extract_lets +onlyGivenNames c _ d
  refine .use d ?_ fun h => ?_
  · unfold d
    exact .update (.refl _)
  · exact .ite (fun _ => .step (.step (h) (Dev.KeepsPackages.of (Dev.setFlag_frame ..))) (Dev.KeepsPackages.of (Dev.raise_frame ..))) fun _ => h

theorem Dev.startProg_keepsPackages (d : Dev) (p : ProgReq) : d.KeepsPackages (d.startProg p) := by
  unfold Dev.startProg
  extract_lets +onlyGivenNames d
  refine .use d ?_ fun h => ?_
  · unfold d
    exact .ite (fun _ => .step (.refl _) (Dev.wearDebit_keepsPackages ..)) fun _ => .refl _
  · extract_lets +onlyGivenNames x w add g _ _ _ d
    refine .use d ?_ fun h => ?_
    · unfold d
      exact .update (h)
    · extract_lets +onlyGivenNames d
      refine .use d ?_ fun h => ?_
      · unfold d
        exact .step h (Dev.sendCmd_keepsPackages ..)
      · extract_lets +onlyGivenNames y
        exact .ite (fun _ => .step (h) (Dev.setDie_keepsPackages ..)) fun _ => .step (h) (Dev.setDie_keepsPackages ..)

theorem Dev.startProgs_keepsPackages (d : Dev) : d.KeepsPackages d.startProgs := by
  unfold Dev.startProgs
  extract_lets +onlyGivenNames cap hot ps host before after ps
  refine .thenEach (.refl _) fun d a => ?_
  exact .ite (fun _ => .step (.refl _) (Dev.startProg_keepsPackages ..)) fun _ => .refl _

theorem Dev.goOn_keepsPackages (d : Dev) (die : Nat) : d.KeepsPackages (d.goOn die) := by
  unfold Dev.goOn
  exact .step (.step (.step (.refl _) (Dev.kick_keepsPackages ..)) (Dev.startProgs_keepsPackages ..)) (Dev.kick_keepsPackages ..)

theorem Dev.queueRead_keepsPackages (d : Dev) (die : Nat) (use : CmdUse) (rank : Nat) (deadline : Nat) : d.KeepsPackages (d.queueRead die use rank deadline) := by
  unfold Dev.queueRead
  extract_lets +onlyGivenNames x d
  refine .use d ?_ fun h => ?_
  · unfold d
    exact .step (.refl _) (Dev.setDie_keepsPackages ..)
  · exact .update (h)

theorem Dev.suspendDie_keepsPackages (d : Dev) (die : Nat) (thru : Bool) : d.KeepsPackages (d.suspendDie die thru) := by
  unfold Dev.suspendDie
  extract_lets +onlyGivenNames x
  split
  · exact .refl _
  · refine .ite (fun _ => .refl _) fun _ => ?_
    extract_lets +onlyGivenNames d
    refine .use d ?_ fun h => ?_
    · unfold d
      exact .step (.refl _) (Dev.setDie_keepsPackages ..)
    · extract_lets +onlyGivenNames d
      refine .use d ?_ fun h => ?_
      · unfold d
        exact .step h (Dev.sendCmd_keepsPackages ..)
      · split
        · exact .step (.step (h) (Dev.KeepsPackages.of (Dev.count_frame ..))) (Dev.KeepsPackages.of (Dev.perf_frame ..))
        · exact h

theorem Dev.startAround_keepsPackages (d : Dev) (n : Nat) (r : MRead) : d.KeepsPackages (d.startAround n r) := by
  unfold Dev.startAround
  split
  · exact .step (.refl _) (Dev.setRead_keepsPackages ..)
  · extract_lets +onlyGivenNames only ms
    refine .ite (fun _ => .step (.refl _) (Dev.setRead_keepsPackages ..)) fun _ => ?_
    extract_lets +onlyGivenNames d
    refine .use d ?_ fun h => ?_
    · unfold d
      exact .step (.refl _) (Dev.setRead_keepsPackages ..)
    · extract_lets +onlyGivenNames d
      refine .use d ?_ fun h => ?_
      · unfold d
        refine .thenEach (h) fun d a => ?_
        extract_lets +onlyGivenNames d
        refine .use d ?_ fun h => ?_
        · unfold d
          exact .step (.refl _) (Dev.queueRead_keepsPackages ..)
        · extract_lets +onlyGivenNames d
          refine .use d ?_ fun h => ?_
          · unfold d
            exact .ite (fun _ => .step (h) (Dev.suspendDie_keepsPackages ..)) fun _ => h
          · exact .step h (Dev.kick_keepsPackages ..)
      · exact .step (.step (h) (Dev.KeepsPackages.of (Dev.count_frame ..))) (Dev.KeepsPackages.of (Dev.perf_frame ..))

theorem Dev.putRead_keepsPackages (d : Dev) (die : Nat) (use : CmdUse) (rank : Nat) (deadline : Nat) : d.KeepsPackages (d.putRead die use rank deadline) := by
  unfold Dev.putRead
  exact .step (.step (.refl _) (Dev.queueRead_keepsPackages ..)) (Dev.kick_keepsPackages ..)

theorem Dev.startRead_keepsPackages (d : Dev) (n : Nat) (r : MRead) : d.KeepsPackages (d.startRead n r) := by
  unfold Dev.startRead
  extract_lets +onlyGivenNames d
  refine .use d ?_ fun h => ?_
  · unfold d
    exact .step (.refl _) (Dev.setRead_keepsPackages ..)
  · split
    · exact .step h (Dev.startAround_keepsPackages ..)
    · exact .step (.step (.step (h) (Dev.queueRead_keepsPackages ..)) (Dev.suspendDie_keepsPackages ..)) (Dev.kick_keepsPackages ..)
    · exact .step h (Dev.putRead_keepsPackages ..)

theorem Dev.decideRead_keepsPackages (d : Dev) (n : Nat) (r : MRead) : d.KeepsPackages (d.decideRead n r) := by
  unfold Dev.decideRead
  split
  · exact .step (.refl _) (Dev.setRead_keepsPackages ..)
  · split
    · extract_lets +onlyGivenNames susMax exhausted d
      refine .use d ?_ fun h => ?_
      · unfold d
        exact .ite (fun _ => .step (.refl _) (Dev.KeepsPackages.of (Dev.count_frame ..))) fun _ => .refl _
      · exact .step h (Dev.startRead_keepsPackages ..)

theorem Dev.putMedia_keepsPackages (d : Dev) (r : MRead) : d.KeepsPackages (d.putMedia r) := by
  unfold Dev.putMedia
  extract_lets +onlyGivenNames n _ d
  refine .use d ?_ fun h => ?_
  · unfold d
    exact .update (.refl _)
  · refine Dev.KeepsPackages.thenCausedBy (h) fun d => ?_
    extract_lets +onlyGivenNames d
    refine .use d ?_ fun h => ?_
    · unfold d
      exact .step (.refl _) (Dev.KeepsPackages.of (Dev.perf_frame ..))
    · exact .ite (fun _ => .step (h) (Dev.decideRead_keepsPackages ..)) fun _ => .step (h) (Dev.startRead_keepsPackages ..)

theorem Dev.fetch_keepsPackages (d : Dev) (r : MRead) (key : Nat) (loc : Nat) (grain : Nat) (goal : Option Nat) (again : Bool) : d.KeepsPackages (d.fetch r key loc grain goal again) := by
  unfold Dev.fetch
  split
  · exact .refl _
  · exact .step (.refl _) (Dev.putMedia_keepsPackages ..)

theorem Dev.fetchChain_keepsPackages (d : Dev) (r : MRead) (lpn : Nat) : d.KeepsPackages (d.fetchChain r lpn).2 := by
  unfold Dev.fetchChain
  dsimp only
  refine .thenEach (.step (.step (.refl _) (Dev.KeepsPackages.of (Dev.count_frame ..))) (Dev.KeepsPackages.of (Dev.orcUse_frame ..))) fun d a => ?_
  split
  · exact .step (.refl _) (Dev.fetch_keepsPackages ..)
  · exact .refl _

theorem Dev.issueRead_keepsPackages (d : Dev) (slice : Nat) (entry : Nat) (e : Nat) (lpn : Nat) (g : Nat) (deadline : Nat) (epoch : Nat) (spec : Bool) : d.KeepsPackages (d.issueRead slice entry e lpn g deadline epoch spec) := by
  unfold Dev.issueRead
  split
  · exact .refl _
  · refine .ite (fun _ => .refl _) fun _ => ?_
    extract_lets +onlyGivenNames idle late r
    split
    · rename_i x0 x1 x2 hx
      refine .of_pair hx ?_ fun h => ?_
      · split
        · exact .step (.refl _) (Dev.fetchChain_keepsPackages ..)
        · dsimp only
          exact .refl _
      · exact .step h (Dev.putMedia_keepsPackages ..)

theorem Dev.setMap_keepsPackages (d : Dev) (lpn : Nat) (e : Nat) (ver : Nat) : d.KeepsPackages (d.setMap lpn e ver) := by
  unfold Dev.setMap
  extract_lets +onlyGivenNames old m _ d
  refine .use d ?_ fun h => ?_
  · unfold d
    exact .update (.refl _)
  · exact .step (.step (h) (Dev.mapTouch_keepsPackages ..)) (Dev.KeepsPackages.of (Dev.journal_frame ..))

theorem Dev.setBand_keepsPackages (d : Dev) (b : Nat) (x : Band) : d.KeepsPackages (d.setBand b x) := by
  unfold Dev.setBand
  exact .update (.refl _)

theorem Dev.closeBand_keepsPackages (d : Dev) (b : Nat) (st : BandState) : d.KeepsPackages (d.closeBand b st) := by
  unfold Dev.closeBand
  split
  · exact .refl _
  · extract_lets +onlyGivenNames d
    refine .use d ?_ fun h => ?_
    · unfold d
      exact .step (.refl _) (Dev.setBand_keepsPackages ..)
    · extract_lets +onlyGivenNames _ d
      refine .use d ?_ fun h => ?_
      · unfold d
        exact .update (h)
      · extract_lets +onlyGivenNames d
        refine .use d ?_ fun h => ?_
        · unfold d
          refine .thenEach (h) fun d a => ?_
          extract_lets +onlyGivenNames y
          exact .ite (fun _ => .step (.refl _) (Dev.setBlock_keepsPackages ..)) fun _ => .refl _
        · exact .step h (Dev.KeepsPackages.of (Dev.journal_frame ..))

theorem Dev.readSource_keepsPackages (d : Dev) (p : RowPage) (band : Nat) (row : Nat) : d.KeepsPackages (d.readSource p band row) := by
  unfold Dev.readSource
  exact .thenEach (.refl _) fun d a => .step (.refl _) (Dev.issueRead_keepsPackages ..)

theorem Dev.readLeaf_keepsPackages (d : Dev) (p : RowPage) (band : Nat) (row : Nat) : d.KeepsPackages (d.readLeaf p band row) := by
  unfold Dev.readLeaf
  extract_lets +onlyGivenNames keeps d
  refine .use d ?_ fun h => ?_
  · unfold d
    exact .thenEach (.refl _) fun d a => .step (.refl _) (Dev.issueRead_keepsPackages ..)
  · exact .step h (Dev.fetchChain_keepsPackages ..)

theorem Dev.programRow_keepsPackages (d : Dev) (r : RowFill) : d.KeepsPackages (d.programRow r) := by
  unfold Dev.programRow
  split
  · exact .refl _
  · extract_lets +onlyGivenNames d
    refine .use d ?_ fun h => ?_
    · unfold d
      exact .ite (fun _ => .step (.refl _) (Dev.setBand_keepsPackages ..)) fun _ => .refl _
    · extract_lets +onlyGivenNames dur rebuild ps
      exact .step (.update (h)) (Dev.startProgs_keepsPackages ..)

theorem Dev.retireBlock_keepsPackages (d : Dev) (k : Nat) : d.KeepsPackages (d.retireBlock k) := by
  unfold Dev.retireBlock
  extract_lets +onlyGivenNames x die
  exact .step (.step (.refl _) (Dev.setBlock_keepsPackages ..)) (Dev.KeepsPackages.of (Dev.raise_frame ..))

theorem Dev.clearOne_keepsPackages (d : Dev) (die : Nat) : d.KeepsPackages (d.clearOne die) := by
  unfold Dev.clearOne
  split
  · exact .refl _
  · split
    · rename_i x0 x1 x2 hx
      refine .of_pair hx (.step (.refl _) (Dev.KeepsPackages.of (Dev.drawFree_frame ..))) fun h => ?_
      extract_lets +onlyGivenNames k
      refine .ite (fun _ => .step (h) (Dev.retireBlock_keepsPackages ..)) fun _ => ?_
      extract_lets +onlyGivenNames _ d
      refine .use d ?_ fun h => ?_
      · unfold d
        exact .step h (Dev.setBlock_keepsPackages ..)
      · extract_lets +onlyGivenNames p
        exact .step (.update (h)) (Dev.startProgs_keepsPackages ..)

theorem Dev.makeReady_keepsPackages (d : Dev) (die : Nat) : d.KeepsPackages (d.makeReady die) := by
  unfold Dev.makeReady
  exact .ite (fun _ => .refl _) fun _ => .step (.refl _) (Dev.clearOne_keepsPackages ..)

theorem Dev.openBand_keepsPackages (d : Dev) (stream : Nat) : d.KeepsPackages (d.openBand stream).2 := by
  unfold Dev.openBand
  split
  · dsimp only
    exact .refl _
  · split
    · dsimp only
      exact .thenEach (.refl _) fun d a => .step (.refl _) (Dev.makeReady_keepsPackages ..)
    · dsimp only
      split
      · dsimp only
        exact .refl _
      · dsimp only
        refine .step ?_ (Dev.KeepsPackages.of (Dev.journal_frame ..))
        exact .thenEach (.update (.refl _)) fun d a => .step (.refl _) (Dev.setBlock_keepsPackages ..)

theorem Dev.addToRow_keepsPackages (d : Dev) (stream : Nat) (p : RowPage) (avoid : Option Nat) : d.KeepsPackages (d.addToRow stream p avoid).2 := by
  unfold Dev.addToRow
  dsimp only
  split
  · dsimp only
    refine .ite (fun _ => ?_) fun _ => ?_
    · refine .step ?_ (Dev.programRow_keepsPackages ..)
      refine .ite (fun _ => .step (.update (.refl _)) (Dev.readSource_keepsPackages ..)) fun _ => ?_
      exact .ite (fun _ => .step (.update (.refl _)) (Dev.readLeaf_keepsPackages ..)) fun _ => .update (.refl _)
    · refine .ite (fun _ => .step (.update (.refl _)) (Dev.readSource_keepsPackages ..)) fun _ => ?_
      exact .ite (fun _ => .step (.update (.refl _)) (Dev.readLeaf_keepsPackages ..)) fun _ => .update (.refl _)
  · split
    · dsimp only
      refine .ite (fun _ => ?_) fun _ => ?_
      · refine .step ?_ (Dev.programRow_keepsPackages ..)
        refine .ite (fun _ => .step (.update (.refl _)) (Dev.readSource_keepsPackages ..)) fun _ => ?_
        exact .ite (fun _ => .step (.update (.refl _)) (Dev.readLeaf_keepsPackages ..)) fun _ => .update (.refl _)
      · refine .ite (fun _ => .step (.update (.refl _)) (Dev.readSource_keepsPackages ..)) fun _ => ?_
        exact .ite (fun _ => .step (.update (.refl _)) (Dev.readLeaf_keepsPackages ..)) fun _ => .update (.refl _)
    · split
      · dsimp only
        exact .refl _
      · split
        · rename_i x0 x1 hx
          refine .of_pair hx (.step (.refl _) (Dev.openBand_keepsPackages ..)) fun h => ?_
          dsimp only
          exact h
        · rename_i x0 x1 x2 hx
          refine .of_pair hx (.step (.refl _) (Dev.openBand_keepsPackages ..)) fun h => ?_
          dsimp only
          refine .ite (fun _ => ?_) fun _ => ?_
          · refine .step ?_ (Dev.programRow_keepsPackages ..)
            refine .ite (fun _ => .step (.update (h)) (Dev.readSource_keepsPackages ..)) fun _ => ?_
            exact .ite (fun _ => .step (.update (h)) (Dev.readLeaf_keepsPackages ..)) fun _ => .update (h)
          · refine .ite (fun _ => .step (.update (h)) (Dev.readSource_keepsPackages ..)) fun _ => ?_
            exact .ite (fun _ => .step (.update (h)) (Dev.readLeaf_keepsPackages ..)) fun _ => .update (h)

theorem Dev.addMeta_keepsPackages (d : Dev) (key : Nat) (version : Nat) (entries : List (Nat × OrcStored)) (avoid : Option Nat) : d.KeepsPackages (d.addMeta key version entries avoid).2 := by
  unfold Dev.addMeta
  exact .step (.refl _) (Dev.addToRow_keepsPackages ..)

theorem Dev.metaAgain_keepsPackages (d : Dev) (p : RowPage) : d.KeepsPackages (d.metaAgain p) := by
  unfold Dev.metaAgain
  extract_lets +onlyGivenNames d
  refine .use d ?_ fun h => ?_
  · unfold d
    exact .thenEach (.refl _) fun d a => .step (.refl _) (Dev.KeepsPackages.of (Dev.orcAgain_frame ..))
  · exact .ite (fun _ => .update (h)) fun _ => h

theorem Dev.writeBack_keepsPackages (d : Dev) (pid : Nat) : d.KeepsPackages (d.writeBack pid) := by
  unfold Dev.writeBack
  extract_lets +onlyGivenNames p
  refine .ite (fun _ => .refl _) fun _ => ?_
  extract_lets +onlyGivenNames rp
  split
  · rename_i x0 x1 hx
    refine .of_pair hx (.step (.refl _) (Dev.addToRow_keepsPackages ..)) fun h => ?_
    exact h
  · rename_i x0 x1 hx
    refine .of_pair hx (.step (.refl _) (Dev.addToRow_keepsPackages ..)) fun h => ?_
    refine .ite (fun _ => ?_) fun _ => ?_
    · split
      · rename_i x0 x1 hx
        refine .of_pair hx (.step (h) (Dev.addToRow_keepsPackages ..)) fun h => ?_
        exact .step h (Dev.KeepsPackages.of (Dev.setFlag_frame ..))
      · rename_i x0 x1 hx
        refine .of_pair hx (.step (h) (Dev.addToRow_keepsPackages ..)) fun h => ?_
        exact .ite (fun _ => .step (.step (h) (Dev.KeepsPackages.of (Dev.setPdeg_frame ..))) (Dev.KeepsPackages.of (Dev.setPage_frame ..))) fun _ => h
    · exact .ite (fun _ => .step (.step (h) (Dev.KeepsPackages.of (Dev.setPdeg_frame ..))) (Dev.KeepsPackages.of (Dev.setPage_frame ..))) fun _ => h

theorem Dev.copyPage_keepsPackages (d : Dev) (lpn : Nat) (src : Nat) (stream : Nat) : d.KeepsPackages (d.copyPage lpn src stream) := by
  unfold Dev.copyPage
  refine .ite (fun _ => .refl _) fun _ => ?_
  extract_lets +onlyGivenNames lines
  split
  · rename_i x0 x1 hx
    refine .of_pair hx (.step (.refl _) (Dev.addToRow_keepsPackages ..)) fun h => ?_
    exact h
  · rename_i x0 x1 hx
    refine .of_pair hx (.step (.refl _) (Dev.addToRow_keepsPackages ..)) fun h => ?_
    exact .ite (fun _ => .step (h) (Dev.addToRow_keepsPackages ..)) fun _ => .ite (fun _ => .step (h) (Dev.KeepsPackages.of (Dev.setPdeg_frame ..))) fun _ => h

theorem Dev.rejoin_keepsPackages (d : Dev) (rows : List RowFill) : d.KeepsPackages (d.rejoin rows) := by
  unfold Dev.rejoin
  refine .thenEach (.refl _) fun d a => ?_
  extract_lets +onlyGivenNames stream
  refine .thenEach (.refl _) fun d a => ?_
  refine .ite (fun _ => ?_) fun _ => ?_
  · split
    · rename_i x0 x1 hx
      refine .of_pair hx (.step (.refl _) (Dev.addMeta_keepsPackages ..)) fun h => ?_
      exact h
    · rename_i x0 x1 hx
      refine .of_pair hx (.step (.refl _) (Dev.addMeta_keepsPackages ..)) fun h => ?_
      exact .step h (Dev.metaAgain_keepsPackages ..)
  · exact .ite (fun _ => .step (.refl _) (Dev.writeBack_keepsPackages ..)) fun _ => .step (.refl _) (Dev.copyPage_keepsPackages ..)

theorem Dev.issueSheet_keepsPackages (d : Dev) (n : Nat) : d.KeepsPackages (d.issueSheet n) := by
  unfold Dev.issueSheet
  split
  · exact .refl _
  · extract_lets +onlyGivenNames ms
    refine .ite (fun _ => .refl _) fun _ => ?_
    split
    · rename_i x0 x1 x2 hx
      refine .of_pair hx (.step (.refl _) (Dev.KeepsPackages.of (Dev.drawFree_frame ..))) fun h => ?_
      extract_lets +onlyGivenNames a rest dies ps _ _ d
      refine .use d ?_ fun h => ?_
      · unfold d
        exact .update (h)
      · exact .thenEach (h) fun d a => .step (.step (.refl _) (Dev.suspendDie_keepsPackages ..)) (Dev.goOn_keepsPackages ..)

theorem Dev.dropCmds_keepsPackages (d : Dev) (p : MCmd → Bool) : d.KeepsPackages (d.dropCmds p) := by
  unfold Dev.dropCmds
  exact .update (.refl _)

theorem Dev.unqueue_keepsPackages (d : Dev) (p : CmdUse → Bool) : d.KeepsPackages (d.unqueue p) := by
  unfold Dev.unqueue
  exact .update (.refl _)

theorem Dev.rehomeDies_keepsPackages (d : Dev) (m : Nat) : d.KeepsPackages (d.rehomeDies m) := by
  unfold Dev.rehomeDies
  split
  · exact .refl _
  · refine .thenEach (.refl _) fun d a => ?_
    split
    · exact .step (.refl _) (Dev.setDie_keepsPackages ..)
    · exact .refl _

theorem Dev.reissueLink_keepsPackages (d : Dev) (m : Nat) : d.KeepsPackages (d.reissueLink m) := by
  unfold Dev.reissueLink
  extract_lets +onlyGivenNames cs _ d
  refine .use d ?_ fun h => ?_
  · unfold d
    exact .update (.refl _)
  · refine .thenEach (h) fun d a => ?_
    split
    · extract_lets +onlyGivenNames d
      refine .use d ?_ fun h => ?_
      · unfold d
        exact .step (.refl _) (Dev.KeepsPackages.of (Dev.count_frame ..))
      · extract_lets +onlyGivenNames d
        refine .use d ?_ fun h => ?_
        · unfold d
          exact .step h (Dev.readAgain_keepsPackages ..)
        · extract_lets +onlyGivenNames op
          exact .update (h)
    · exact .refl _

theorem Dev.rewriteSheet_keepsPackages (d : Dev) (n : Nat) (die : Nat) : d.KeepsPackages (d.rewriteSheet n die) := by
  unfold Dev.rewriteSheet
  split
  · exact .refl _
  · refine .ite (fun _ => .refl _) fun _ => ?_
    extract_lets +onlyGivenNames d
    refine .use d ?_ fun h => ?_
    · unfold d
      exact .step (.refl _) (Dev.KeepsPackages.of (Dev.count_frame ..))
    · extract_lets +onlyGivenNames _ _ d
      refine .use d ?_ fun h => ?_
      · unfold d
        exact .update (h)
      · extract_lets +onlyGivenNames d
        refine .use d ?_ fun h => ?_
        · unfold d
          refine .thenEach (h) fun d a => ?_
          split
          · exact .step (.refl _) (Dev.KeepsPackages.of (Dev.setEntry_frame ..))
          · exact .refl _
        · exact .step h (Dev.issueSheet_keepsPackages ..)

theorem Dev.readAroundDie_keepsPackages (d : Dev) (p : Nat → Bool) : d.KeepsPackages (d.readAroundDie p) := by
  unfold Dev.readAroundDie
  extract_lets +onlyGivenNames d
  refine .use d ?_ fun h => ?_
  · unfold d
    refine .thenEach (.refl _) fun d a => ?_
    extract_lets +onlyGivenNames own
    exact .step (.step (.step (.refl _) (Dev.dropCmds_keepsPackages ..)) (Dev.unqueue_keepsPackages ..)) (Dev.startAround_keepsPackages ..)
  · extract_lets +onlyGivenNames lost
    refine .thenEach (h) fun d a => ?_
    split
    · extract_lets +onlyGivenNames _ d
      refine .use d ?_ fun h => ?_
      · unfold d
        exact .update (.refl _)
      · extract_lets +onlyGivenNames y d
        refine .use d ?_ fun h => ?_
        · unfold d
          exact .step h (Dev.setDie_keepsPackages ..)
        · split
          · split
            · split
              · exact .step (.step (h) (Dev.setRead_keepsPackages ..)) (Dev.putRead_keepsPackages ..)
              · extract_lets +onlyGivenNames r
                exact .ite (fun _ => .step (h) (Dev.setRead_keepsPackages ..)) fun _ => .step (h) (Dev.decideRead_keepsPackages ..)
            · exact h
          · exact h
    · exact .refl _

theorem Dev.loseMedia_keepsPackages (d : Dev) (lpn : Nat) : d.KeepsPackages (d.loseMedia lpn) := by
  unfold Dev.loseMedia
  extract_lets +onlyGivenNames heads
  exact .step (.step (.refl _) (Dev.setMap_keepsPackages ..)) (Dev.KeepsPackages.of (Dev.raise_frame ..))

theorem Dev.addOrcPage_keepsPackages (d : Dev) (k : Nat) (entries : List (Nat × OrcStored)) : d.KeepsPackages (d.addOrcPage k entries).2 := by
  unfold Dev.addOrcPage
  dsimp only
  split
  · dsimp only
    exact .step (.step (.step (.refl _) (Dev.addMeta_keepsPackages ..)) (Dev.addMeta_keepsPackages ..)) (Dev.KeepsPackages.of (Dev.setOrc_frame ..))
  · dsimp only
    exact .refl _

theorem Dev.loseOrcPage_keepsPackages (d : Dev) (key : Nat) : d.KeepsPackages (d.loseOrcPage key) := by
  unfold Dev.loseOrcPage
  extract_lets +onlyGivenNames first ks
  refine .ite (fun _ => ?_) fun _ => ?_
  · exact .step (.step (.refl _) (Dev.KeepsPackages.of (Dev.count_frame ..))) (Dev.addOrcPage_keepsPackages ..)
  · extract_lets +onlyGivenNames d
    refine .use d ?_ fun h => ?_
    · unfold d
      exact .thenEach (.refl _) fun d a => .step (.refl _) (Dev.KeepsPackages.of (Dev.orphan_frame ..))
    · refine .ite (fun _ => ?_) fun _ => h
      exact .step (.step (h) (Dev.KeepsPackages.of (Dev.count_frame ..))) (Dev.addOrcPage_keepsPackages ..)

theorem Dev.loseRow_keepsPackages (d : Dev) (band : Nat) (row : Nat) : d.KeepsPackages (d.loseRow band row) := by
  unfold Dev.loseRow
  extract_lets +onlyGivenNames d
  refine .use d ?_ fun h => ?_
  · unfold d
    exact .thenEach (.refl _) fun d a => .step (.refl _) (Dev.loseMedia_keepsPackages ..)
  · extract_lets +onlyGivenNames gone _ d
    refine .use d ?_ fun h => ?_
    · unfold d
      exact .update (h)
    · exact .thenEach (h) fun d a => .step (.refl _) (Dev.loseOrcPage_keepsPackages ..)

theorem Dev.moveMeta_keepsPackages (d : Dev) (key : Nat) : d.KeepsPackages (d.moveMeta key) := by
  unfold Dev.moveMeta
  refine .ite (fun _ => .refl _) fun _ => ?_
  extract_lets +onlyGivenNames avoid v
  exact .step (.refl _) (Dev.addMeta_keepsPackages ..)

theorem Dev.copyPages_keepsPackages (d : Dev) (b : Nat) (stream : Nat) : d.KeepsPackages (d.copyPages b stream) := by
  unfold Dev.copyPages
  refine .thenEach (.thenEach (.refl _) fun d a => .step (.refl _) (Dev.copyPage_keepsPackages ..)) fun d a => ?_
  exact .step (.refl _) (Dev.moveMeta_keepsPackages ..)

theorem Dev.rebuildBand_keepsPackages (d : Dev) (n : Nat) : d.KeepsPackages (d.rebuildBand n) := by
  unfold Dev.rebuildBand
  split
  · exact .refl _
  · refine .ite (fun _ => ?_) fun _ => .step (.refl _) (Dev.copyPages_keepsPackages ..)
    exact .thenEach (.refl _) fun d a => .step (.refl _) (Dev.loseRow_keepsPackages ..)

theorem Dev.rebuild_keepsPackages (d : Dev) : d.KeepsPackages d.rebuild := by
  unfold Dev.rebuild
  extract_lets +onlyGivenNames bs first rest d
  refine .use d ?_ fun h => ?_
  · unfold d
    exact .thenEach (.refl _) fun d a => .step (.refl _) (Dev.rebuildBand_keepsPackages ..)
  · exact .thenEach (h) fun d a => .ite (fun _ => .refl _) fun _ => .step (.refl _) (Dev.setPkg_keepsPackages _ (by rfl))

theorem Dev.markRebuild_keepsPackages (d : Dev) (p : Nat) : d.KeepsPackages (d.markRebuild p) := by
  unfold Dev.markRebuild
  extract_lets +onlyGivenNames hit rows d
  refine .use d ?_ fun h => ?_
  · unfold d
    refine .thenEach (.refl _) fun d a => ?_
    extract_lets +onlyGivenNames _ d
    refine .use d ?_ fun h => ?_
    · unfold d
      exact .step (.refl _) (Dev.setBand_keepsPackages ..)
    · exact .step h (Dev.closeBand_keepsPackages ..)
  · extract_lets +onlyGivenNames _ d
    refine .use d ?_ fun h => ?_
    · unfold d
      exact .step h (Dev.setPkg_keepsPackages _ (by rfl))
    · exact .step (.step (h) (Dev.rejoin_keepsPackages ..)) (Dev.rebuild_keepsPackages ..)

theorem Dev.packageGone_keepsPackages (d : Dev) (p : Nat) : d.KeepsPackages (d.packageGone p) := by
  unfold Dev.packageGone
  extract_lets +onlyGivenNames d
  refine .use d ?_ fun h => ?_
  · unfold d
    exact .step (.refl _) (Dev.dropCmds_keepsPackages ..)
  · extract_lets +onlyGivenNames dies _ d
    refine .use d ?_ fun h => ?_
    · unfold d
      exact .update (h)
    · extract_lets +onlyGivenNames d
      refine .use d ?_ fun h => ?_
      · unfold d
        refine .thenEach (h) fun d a => ?_
        split
        · exact .step (.refl _) (Dev.rewriteSheet_keepsPackages ..)
        · exact .refl _
      · exact .step (.step (.step (h) (Dev.readAroundDie_keepsPackages ..)) (Dev.markRebuild_keepsPackages ..)) (Dev.KeepsPackages.of (Dev.judgePdeg_frame ..))

theorem Dev.packageFail_keepsPackages (d : Dev) (p : Nat) (cause : Nat) : d.KeepsPackages (d.packageFail p cause) := by
  unfold Dev.packageFail
  exact .step (.step (.refl _) (Dev.KeepsPackages.of (Dev.setUnit_frame ..))) (Dev.packageGone_keepsPackages ..)

theorem Dev.linkGone_keepsPackages (d : Dev) (m : Nat) : d.KeepsPackages (d.linkGone m) := by
  unfold Dev.linkGone
  split
  · exact .refl _
  · extract_lets +onlyGivenNames d
    refine .use d ?_ fun h => ?_
    · unfold d
      exact .step (.step (.refl _) (Dev.rehomeDies_keepsPackages ..)) (Dev.reissueLink_keepsPackages ..)
    · extract_lets +onlyGivenNames d
      refine .use d ?_ fun h => ?_
      · unfold d
        exact .step h (Dev.KeepsPackages.of (Dev.complexHealth_frame ..))
      · exact .ite (fun _ => .ite (fun _ => .step (h) (Dev.packageFail_keepsPackages ..)) fun _ => h) fun _ => .step (h)
          (Dev.KeepsPackages.of (Dev.packageHealth_frame ..))

end Sys2Proof.Machine
end

section
/-!
O40: MEDIA HEALTH, PACKAGE REPLACE and the poison commands.
-/
-- Checked one after another: side by side, each waiting for the kernel, the proofs need more threads than the memory admits.
set_option Elab.async false
namespace Sys2Proof.Machine

/-! ## Withdrawing a package (R176) -/

section
variable (d : Dev)

theorem Dev.KeepsUnits.retired {d e : Dev} (k : d.KeepsUnits e) {ix : Nat} (h : d.ustate ix = .retired) : e.ustate ix = .retired := by
  have same : e.unit ix = d.unit ix := k.unit (by rw [Dev.serves, h]; rfl) (by simp)
  rw [Dev.ustate, same]
  exact h

theorem Dev.setUnit_retired {ix iy : Nat} (other : iy ≠ ix) (h : d.ustate ix = .retired) (st : UState) (cause : Nat) (hw : Bool) :
    (d.setUnit iy st cause hw).ustate ix = .retired := by
  rw [Dev.ustate, d.setUnit_unit_ne other]
  exact h

theorem Dev.moveUnit_retired {ix iy : Nat} (other : iy ≠ ix) (h : d.ustate ix = .retired) (st : UState) (cause : Nat) (hw : Bool) :
    (d.moveUnit iy st cause hw).ustate ix = .retired := by
  unfold Dev.moveUnit
  split
  · exact h
  · exact d.setUnit_retired other h st cause hw

/-- A retired unit stays as it is when a link goes. -/
theorem Dev.linkGone_retired {ix : Nat} (h : d.ustate ix = .retired) (m : Nat) : (d.linkGone m).ustate ix = .retired := by
  unfold Dev.linkGone
  split
  · exact h
  · next p _ _ =>
    extract_lets x y
    have atX : x.ustate ix = .retired := ((Dev.reissueLink_frame ..).ustate ix).trans (((Dev.rehomeDies_frame ..).ustate ix).trans h)
    have atY : y.ustate ix = .retired := (x.complexHealth_keepsUnits _).retired atX
    split
    · split
      · next live =>
        have other : packageIx p ≠ ix := fun e => by
          rw [Dev.serves, e, atY] at live
          exact absurd live (by decide)
        exact (Dev.packageGone_keepsUnits ..).retired (y.setUnit_retired other atY ..)
      · exact atY
    · exact (y.packageHealth_keepsUnits p).retired atY

/-- The package is withdrawn, and waits for its replacement. -/
def Dev.Withdrawn (d : Dev) (p : Nat) : Prop := d.ustate (packageIx p) = .retired ∧ (d.pkg p).replacing = true

theorem Dev.KeepsPackages.replacing {d e : Dev} (k : d.KeepsPackages e) {p : Nat} (h : (d.pkg p).replacing = true) :
    (e.pkg p).replacing = true := by
  have same : e.pkgRecord p = d.pkgRecord p := k.record p
  exact (congrArg PkgS.replacing same).trans h

theorem Dev.dropLink_withdrawn {d : Dev} {p m : Nat} (other : linkIx m ≠ packageIx p) (h : d.Withdrawn p) (x : Dev → LinkS) :
    (((d.moveUnit (linkIx m) .off 1 false).linkGone m).setLink m (x ((d.moveUnit (linkIx m) .off 1 false).linkGone m))).Withdrawn p := by
  obtain ⟨state, mark⟩ := h
  have moved := d.moveUnit_retired other state .off 1 false
  have frame := d.moveUnit_frame (linkIx m) .off 1 false
  generalize d.moveUnit (linkIx m) .off 1 false = y at moved frame ⊢
  have gone := y.linkGone_retired moved m
  have pkgs := y.linkGone_keepsPackages m
  generalize y.linkGone m = z at gone pkgs ⊢
  have set := z.setLink_frame m (x z)
  refine ⟨(set.ustate _).trans gone, ?_⟩
  exact pkgs.replacing ((Dev.KeepsPackages.of frame).replacing mark)

theorem Dev.withdrawPackage_spec (p : Nat) : (d.withdrawPackage p).Withdrawn p := by
  unfold Dev.withdrawPackage
  extract_lets _ x y z keys
  have first : y.Withdrawn p := by
    refine ⟨x.setUnit_ustate .., ?_⟩
    have now : x.pkg p = _ := AMap.findD_put ..
    have kept := (Dev.KeepsPackages.of (x.setUnit_frame (packageIx p) .retired 1 false)).replacing (p := p)
    exact kept (by rw [now])
  have links : z.Withdrawn p := by
    refine Dev.each_mem_maintains (P := fun e => e.Withdrawn p) _ (fun e b hb h => ?_) y first
    have live : y.ustate (linkIx b.2) ∉ [.absent, .failed, .retired] := of_decide_eq_true (List.mem_filter.1 hb).2
    have other : linkIx b.2 ≠ packageIx p := fun e => by
      rw [e, first.1] at live
      exact absurd live (by decide)
    exact Dev.dropLink_withdrawn other h fun z => { z.link b.2 with train := 0, enabled := false }
  have blocks : (z.each keys fun d k => d.setBlock k { d.block k with state := .absent }).Withdrawn p := by
    have frame : z.Frame (z.each keys fun d k => d.setBlock k { d.block k with state := .absent }) [.med] [] :=
      .thenEach (.refl z) fun d k => d.setBlock_frame k _
    have pkgs : z.KeepsPackages (z.each keys fun d k => d.setBlock k { d.block k with state := .absent }) :=
      .thenEach (.refl z) fun d k => d.setBlock_keepsPackages k _
    exact ⟨(frame.ustate _).trans links.1, pkgs.replacing links.2⟩
  have last := Dev.judgeCapacity_frame (z.each keys fun d k => d.setBlock k { d.block k with state := .absent })
  exact ⟨(last.ustate _).trans blocks.1, (Dev.KeepsPackages.of last).replacing blocks.2⟩
end

/-- The answer of PACKAGE REPLACE: the unit reply and the percentage. -/
def Dev.replaceAnswer (pkg rc : Nat) (d : Dev) : CmdOut :=
  let (f, d) := d.drawFree 176
  let pct := if d.ustate (packageIx pkg) = .retired || (d.pagesOnPackage pkg = 0 && (d.pkg pkg).rebuilt) then 100 else f % 100
  let (rc, p, d) := d.unitAnswer (unitIdOf (packageIx pkg)) rc
  (rc, p ++ leBytes 1 pct ++ zeros 7, d)

theorem Dev.replaceAnswer_frame (pkg rc : Nat) (d : Dev) :
    d.Frame (Dev.replaceAnswer pkg rc d).2.2 [.freeCtr, .regs] [.UST_STALE_BUSY] := by
  unfold Dev.replaceAnswer Dev.unitAnswer
  exact .step (.mono (d.drawFree_frame 176)) (.ite (fun _ => Dev.count_frame ..) fun _ => .refl _)

/-- PACKAGE REPLACE of a package that there is, outside a quench and under its generation. -/
def Dev.replaceNow (pkg : Nat) (evacuate : Bool) (d : Dev) : CmdOut :=
  match (d.unit (packageIx pkg)).state with
  | .online | .degraded =>
    if evacuate then Dev.replaceAnswer pkg rcOk ((d.setUnit (packageIx pkg) .draining 1 false).markRebuild pkg)
    else Dev.replaceAnswer pkg rcInvalid d
  | .failed => if (d.pkg pkg).rebuilt then Dev.replaceAnswer pkg rcOk (d.withdrawPackage pkg) else Dev.replaceAnswer pkg rcBusy d
  | .draining => if d.pagesOnPackage pkg = 0 then Dev.replaceAnswer pkg rcOk (d.withdrawPackage pkg) else Dev.replaceAnswer pkg rcBusy d
  | _ => Dev.replaceAnswer pkg rcInvalid d

def Dev.replacePackage (pkg : Nat) (evacuate : Bool) (gen : Nat) (d : Dev) : CmdOut :=
  if 64 ≤ pkg then d.refuse (if d.reg .JRN_STATUS_QSTATE ≠ 0 then rcBusy else rcInvalid)
  else if d.reg .JRN_STATUS_QSTATE ≠ 0 then Dev.replaceAnswer pkg rcBusy d
  else if gen ≠ (d.unit (packageIx pkg)).gen then Dev.replaceAnswer pkg rcStale (d.stale (packageIx pkg))
  else Dev.replaceNow pkg evacuate d

theorem exec_packageReplace (c : CmdHdr) (pkg : Nat) (evacuate : Bool) (gen : Nat) (s : State) :
    exec (.packageReplace c pkg evacuate gen) s = s.command c 0xC0C0 4 .own (Dev.replacePackage pkg evacuate gen) := rfl

theorem Dev.replacePackage_allowed {d : Dev} {pkg : Nat} (hp : pkg < 64) (calm : d.reg .JRN_STATUS_QSTATE = 0) (evacuate : Bool) :
    Dev.replacePackage pkg evacuate (d.unit (packageIx pkg)).gen d = Dev.replaceNow pkg evacuate d :=
  (if_neg (Nat.not_le.2 hp)).trans ((if_neg (not_not_intro calm)).trans (if_neg (not_not_intro rfl)))

/-- What the answer leaves of the unit, and of the mark of replacement. -/
theorem Dev.Withdrawn.answered {d e : Dev} {p rc : Nat} (h : d.Withdrawn p) {hs : List Fld}
    (k : (Dev.replaceAnswer p rc d).2.2.Frame e [.regs, .evt, .out] hs) : e.Withdrawn p := by
  have answer := Dev.replaceAnswer_frame p rc d
  refine ⟨(k.ustate _).trans ((answer.ustate _).trans h.1), ?_⟩
  exact Dev.KeepsPackages.replacing ((Dev.KeepsPackages.of answer).step (Dev.KeepsPackages.of k)) h.2

section
variable {d : Dev} {p : Nat} {e : Bool}

theorem Dev.replaceNow_withdraws (h : d.ustate (packageIx p) = .failed ∧ (d.pkg p).rebuilt = true ∨
    d.ustate (packageIx p) = .draining ∧ d.pagesOnPackage p = 0) : Dev.replaceNow p e d = Dev.replaceAnswer p rcOk (d.withdrawPackage p) := by
  unfold Dev.ustate at h
  unfold Dev.replaceNow
  obtain ⟨state, ready⟩ | ⟨state, ready⟩ := h
  · rw [state]
    exact if_pos ready
  · rw [state]
    exact if_pos ready

theorem Dev.replaceNow_serving (h : d.serves (packageIx p) = true) : Dev.replaceNow p e d =
    if e then Dev.replaceAnswer p rcOk ((d.setUnit (packageIx p) .draining 1 false).markRebuild p) else Dev.replaceAnswer p rcInvalid d := by
  have state := Dev.serves_cases h
  unfold Dev.ustate at state
  unfold Dev.replaceNow
  obtain on | on := state <;> rw [on]
end

/-! ## Poison (R75, R82, R83) -/

section
variable {d : Dev} {g : RegionRec} {off : Nat}

/-- A write to a main window goes to the page that a read of it names. -/
theorem Dev.writePid_main (h : d.window g off = .main) : d.writePid g off = (some (d.readPid g off), .done, d) := by
  have inside : ¬ (g.rtype = .table ∧ g.size ≤ off) := fun ⟨type, beyond⟩ => by
    unfold Dev.window at h
    rw [type] at h
    simp only [if_neg (Nat.not_lt.2 beyond)] at h
    split at h <;> cases h
  unfold Dev.writePid
  refine if_neg ?_
  simpa using inside

/-- A whole line written (R66): sealed under its key, and stored. -/
theorem Dev.writeLine_full {pid : Nat} (h : d.writePid g off = (some pid, .done, d)) (ki : Nat) (l : Line) (be : BitVec 64) :
    (d.writeLine g off ki l be true false).2.2 =
      ((d.seal l ki g.number (sweepOff g off)).2.storeCell pid (off % 4096 / 64) (d.seal l ki g.number (sweepOff g off)).1).2 := by
  unfold Dev.writeLine
  rw [h]
  rfl
end

/-! ## Reports -/

/-- MEDIA HEALTH (R200): which scope it reports, and whether what it names is there. -/
def Dev.mediaHealth (scope pkg die first count : Nat) (d : Dev) : CmdOut :=
  let head := leBytes 1 scope ++ zeros 7 ++ leBytes 8 d.now
  let noPkg := decide (64 ≤ pkg) || decide (d.ustate (packageIx pkg) = .absent)
  let noDie := noPkg || decide (16 ≤ die) || decide (d.diesPerPkg ≤ die)
  let n := pkg * 16 + die
  match scope with
  | 0 => (rcOk, head ++ d.healthDevice, d)
  | 1 => if noPkg then d.refuse rcInvalid else (rcOk, head ++ d.unitReply (unitIdOf (packageIx pkg)) ++ d.healthPackage pkg, d)
  | 2 => if noDie then d.refuse rcInvalid else (rcOk, head ++ d.healthDie n, d)
  | 3 =>
    if noDie || decide (1024 ≤ first) || count = 0 || decide (256 < count) then d.refuse rcInvalid
    else
      let m := min count (1024 - first)
      (rcOk, head ++ leBytes 2 m ++ zeros 6 ++ (List.range m).flatMap (fun i => d.healthBlock (blockKey n (first + i))), d)
  | _ => d.refuse rcInvalid

theorem exec_mediaHealth (c : CmdHdr) (scope pkg die first count : Nat) (s : State) :
    exec (.mediaHealth c scope pkg die first count) s = s.command c 0xC0B0 8 .read (Dev.mediaHealth scope pkg die first count) := rfl

section
variable {d : Dev} {p k : Nat} (hp : p < 64) (there : d.ustate (packageIx p) ≠ .absent)
include hp there

theorem Dev.mediaHealth_package (first count : Nat) : Dev.mediaHealth 1 p k first count d =
    (rcOk, leBytes 1 1 ++ zeros 7 ++ leBytes 8 d.now ++ d.unitReply (unitIdOf (packageIx p)) ++ d.healthPackage p, d) := by
  refine if_neg ?_
  rw [decide_eq_false (Nat.not_le.2 hp), decide_eq_false there]
  decide

variable (hk : k < 16) (die : k < d.diesPerPkg)
include hk die

theorem Dev.mediaHealth_die (first count : Nat) : Dev.mediaHealth 2 p k first count d =
    (rcOk, leBytes 1 2 ++ zeros 7 ++ leBytes 8 d.now ++ d.healthDie (p * 16 + k), d) := by
  refine if_neg ?_
  rw [decide_eq_false (Nat.not_le.2 hp), decide_eq_false there, decide_eq_false (Nat.not_le.2 hk), decide_eq_false (Nat.not_le.2 die)]
  decide

theorem Dev.mediaHealth_blocks {first count : Nat} (some_ : 0 < count) (few : count ≤ 256) (inside : first + count ≤ 1024) :
    Dev.mediaHealth 3 p k first count d = (rcOk, leBytes 1 3 ++ zeros 7 ++ leBytes 8 d.now ++ (leBytes 2 count ++ zeros 6 ++
      (List.range count).flatMap (fun i => d.healthBlock (blockKey (p * 16 + k) (first + i)))), d) := by
  refine (if_neg ?_).trans ?_
  · rw [decide_eq_false (Nat.not_le.2 hp), decide_eq_false there, decide_eq_false (Nat.not_le.2 hk), decide_eq_false (Nat.not_le.2 die),
      decide_eq_false (show ¬ 1024 ≤ first by omega), decide_eq_false (show ¬ count = 0 by omega),
      decide_eq_false (Nat.not_lt.2 few)]
    decide
  · rw [show min count (1024 - first) = count by omega]
    simp only [List.append_assoc]
end

/-- Get Poison List (R83): the lines of poison in the range, and where the next request goes on. -/
def Dev.poisonList (c : CmdHdr) (start n : Nat) (d : Dev) : CmdOut :=
  let lo := match d.mgt.poisonPos.find c.iface with
    | some (a, m, p) => if a = start && m = n then p else start
    | none => start
  let mine := mergePoison ((d.poisonLines (d.reaches c.iface)).filter (fun r => decide (r.1 < d.poisonEnd)))
  let clip := mine.filterMap (fun r =>
    let a := max r.1 lo
    let b := min (r.1 + 64 * r.2.1) (start + 64 * n)
    if a < b then some (a, ceilDiv (b - a) 64, r.2.2) else none)
  let rs := clip.take 510
  let d := { d with mgt := { d.mgt with poisonPos := match clip.drop 510 with
    | r :: _ => d.mgt.poisonPos.put c.iface (start, n, r.1)
    | [] => d.mgt.poisonPos.del c.iface } }
  let src := fun (x : Nat) => if x = 3 then 7 else x + 1
  (rcOk, leBytes 1 (b2n (decide (510 < clip.length)) + 2 * b2n d.poison.overflow.isSome) ++ zeros 1 ++
    leBytes 8 (d.poison.overflow.getD 0) ++ leBytes 2 rs.length ++ zeros 20 ++
    rs.flatMap (fun r => leBytes 8 (r.1 + src r.2.2) ++ leBytes 4 r.2.1 ++ zeros 4), d)

/-! ## The commands on one line -/

section
variable {d : Dev} {c : CmdHdr} {dpa off ki pid : Nat} {r : RegionRec}

theorem Dev.onLine_main (live : d.memActive = true)
    (at_ : d.locate (dpa / 64 * 64) (if c.iface = 2 then 3 else 2 ^ c.iface) = some (r, off, ki)) (main : d.window r off = .main)
    (f : RegionRec → Nat → Nat → Win → Dev) : d.onLine c dpa f = (rcOk, [], f r off ki .main) := by
  unfold Dev.onLine
  rw [at_]
  simp only [main, live, if_true]

/-- Inject Poison (R82). -/
def Dev.injectPoison (c : CmdHdr) (dpa : Nat) (d : Dev) : CmdOut := d.onLine c dpa fun g off _ w =>
  match w with
  | .counter m => let (pid, sub) := d.homePlace g m; (d.storePoison pid sub poisonInjected).2
  | _ => match d.writePid g off with
    | (some pid, _, d) => (d.storePoison pid (off % 4096 / 64) poisonInjected).2
    | (none, _, d) => d

/-- Clear Poison (R82). -/
def Dev.clearPoison (c : CmdHdr) (dpa : Nat) (data : Line) (d : Dev) : CmdOut := d.onLine c dpa fun g off ki w =>
  match w, d.counterSet g.setId with
  | .counter m, some cs => (d.counterWrite g cs m data (BitVec.allOnes 64) false).2
  | .counter _, none => d
  | _, _ =>
    let (_, l, d) := d.writeLine g off ki data (BitVec.allOnes 64) true false
    d.writeCached (d.ownerOf g w off) g.number (g.base + off) ki true l

variable (live : d.memActive = true)
  (at_ : d.locate (dpa / 64 * 64) (if c.iface = 2 then 3 else 2 ^ c.iface) = some (r, off, ki)) (main : d.window r off = .main)
include live at_ main

theorem Dev.injectPoison_main : Dev.injectPoison c dpa d = (rcOk, [], (d.storePoison (d.readPid r off) (off % 4096 / 64) poisonInjected).2) := by
  refine (Dev.onLine_main live at_ main _).trans ?_
  dsimp only
  rw [Dev.writePid_main main]

theorem Dev.clearPoison_main (data : Line) : ∃ e, Dev.clearPoison c dpa data d = (rcOk, [], e) ∧
    Dev.Frame (d.writeLine r off ki data (BitVec.allOnes 64) true false).2.2 e [.regs, .evt, .pmc, .slices, .out, .freeCtr]
      (evtFields.append [.PMC_SNAPn_COUNT, .PMC_CTRn_COUNT]) :=
  ⟨_, (Dev.onLine_main live at_ main _).trans rfl, Dev.writeCached_frame ..⟩
end

/-- Settles O40. -/
theorem healthPackageAndPoisonCommands : Obligations.HealthPackageAndPoisonCommands := by
  unfold Obligations.HealthPackageAndPoisonCommands
  refine ⟨fun s c p k a => ?_, fun s c p e a hp calm => ?_, fun s c start n a => ?_, fun s c dpa off ki pid r a live at_ main place => ?_,
    fun s c dpa off ki pid r data a live at_ main place => ?_⟩
  · have answers (scope first count : Nat) {reply : List Byte} := a.answers 0xC0B0 (f := Dev.mediaHealth scope p k first count)
      (rc := rcOk) (p := reply)
    refine ⟨answers 0 0 0 rfl, fun hp there => ?_, fun hp there hk die => ?_, fun first count hp there hk die some_ few inside => ?_⟩
    · rw [← s.stamped_ustate] at there
      exact answers 1 0 0 (Dev.mediaHealth_package hp there 0 0)
    · rw [← s.stamped_ustate] at there
      exact answers 2 0 0 (Dev.mediaHealth_die hp there hk die 0 0)
    · rw [← s.stamped_ustate] at there
      exact answers 3 first count (Dev.mediaHealth_blocks hp there hk die some_ few inside)
  · obtain ⟨d, he, watched, put⟩ := a.runs 0xC0C0 (f := Dev.replacePackage p e (s.dev.unit (packageIx p)).gen)
      (rc := (Dev.replaceNow p e s.stamped).1) (p := (Dev.replaceNow p e s.stamped).2.1) (d := (Dev.replaceNow p e s.stamped).2.2)
      (by rw [← s.stamped_unit, Dev.replacePackage_allowed (d := s.stamped) hp calm])
    refine ⟨d, (exec_packageReplace ..).trans he, fun ready => ?_, fun on evacuate => ?_, fun on keep => ?_⟩
    · rw [Dev.replaceNow_withdraws (d := s.stamped) ready] at watched
      exact (s.stamped.withdrawPackage_spec p).answered watched
    · rw [Dev.replaceNow_serving (d := s.stamped) on, if_pos evacuate] at watched
      obtain ⟨state, cause, -⟩ := s.stamped.setUnit_record (packageIx p) .draining 1 false
      have evacuating : ((s.stamped.setUnit (packageIx p) .draining 1 false).markRebuild p).unit (packageIx p) =
          (s.stamped.setUnit (packageIx p) .draining 1 false).unit (packageIx p) :=
        (Dev.markRebuild_keepsUnits ..).unit (by rw [Dev.serves, Dev.ustate, state]; rfl) (by simp)
      have same := (watched.unit (packageIx p)).trans (((Dev.replaceAnswer_frame ..).unit (packageIx p)).trans evacuating)
      rw [Dev.ustate, same]
      exact ⟨state, cause⟩
    · rw [Dev.replaceNow_serving (d := s.stamped) on, if_neg (by rw [keep]; decide)] at watched
      exact (watched.parts .ust (by decide)).trans ((Dev.replaceAnswer_frame ..).parts .ust (by decide))
  · have he := a.command 0x4300 (ps := [.mgt]) (fs := []) (f := Dev.poisonList c start n) rfl (.update (.refl s.stamped))
    have frame : s.stamped.Frame (Dev.poisonList c start n s.stamped).2.2 [.mgt] [] := .update (.refl s.stamped)
    have all : s.stamped.Frame ((Dev.poisonList c start n s.stamped).2.2.reply c 0x4300 0 (Dev.poisonList c start n s.stamped).2.1)
        [.mgt, .out, .regs] [.MGT_CMD_EXECUTED, .MGT_CMD_REFUSED] := .step (.mono frame) (Dev.reply_frame ..)
    exact ⟨_, _, he, Dev.reply_out .., all.parts .poison (by decide), all.changesOnly⟩
  · have inLine : off % 4096 / 64 < 64 := by omega
    have named : s.stamped.readPid r off = pid := by
      rw [Dev.writePid_main main] at place
      exact Option.some.inj place
    obtain ⟨-, mark⟩ := s.stamped.storePoison_lines (s.stamped.readPid r off) inLine poisonInjected
    have frame := s.stamped.storePoison_frame (s.stamped.readPid r off) (off % 4096 / 64) poisonInjected
    obtain ⟨e, he, watched, put⟩ := a.runs 0x4301 (f := Dev.injectPoison c dpa) (Dev.injectPoison_main (d := s.stamped) live at_ main)
    have poison : e.poison = _ := watched.parts .poison (by decide)
    exact ⟨e, he, by rw [poison, ← named]; exact mark, frame.puts put⟩
  · have inLine : off % 4096 / 64 < 64 := by omega
    have named : s.stamped.readPid r off = pid := by
      rw [Dev.writePid_main main] at place
      exact Option.some.inj place
    obtain ⟨x, hx, cached⟩ := Dev.clearPoison_main (d := s.stamped) (c := c) live at_ main data
    rw [Dev.writeLine_full (d := s.stamped) (Dev.writePid_main main)] at cached
    have sealing := s.stamped.seal_frame data ki r.number (sweepOff r off)
    generalize s.stamped.seal data ki r.number (sweepOff r off) = q at cached sealing
    obtain ⟨-, outcome⟩ := q.2.storeCell_lines (s.stamped.readPid r off) inLine q.1
    have stored := q.2.storeCell_frame (s.stamped.readPid r off) (off % 4096 / 64) q.1
    obtain ⟨e, he, watched, put⟩ := a.runs 0x4302 (f := Dev.clearPoison c dpa data) hx
    have after : (q.2.storeCell (s.stamped.readPid r off) (off % 4096 / 64) q.1).2.Frame e [.regs, .evt, .pmc, .slices, .out, .freeCtr]
        (evtFields.append [.PMC_SNAPn_COUNT, .PMC_CTRn_COUNT, .MGT_CMD_EXECUTED, .MGT_CMD_REFUSED]) := .step cached.mono watched
    have poison : e.poison = _ := after.parts .poison (by decide)
    refine ⟨e, he, ?_, ?_⟩
    · rw [poison, ← named]
      obtain ⟨held, -⟩ | ⟨-, -, mark, counted⟩ := outcome
      · exact .inl held.2.2
      · refine .inr ⟨mark, ?_⟩
        unfold Dev.Counted at counted ⊢
        rw [after.reg .DRT_PDEG_LOST 0, counted, sealing.reg .DRT_PDEG_LOST 0]
        rfl
    · exact sealing.puts (stored.puts (cached.puts put))

end Sys2Proof.Machine
end

section
/-!
O41: STATE DIGEST and DEVICE STATUS (R337, R338, R437).
-/
-- Checked one after another: side by side, each waiting for the kernel, the proofs need more threads than the memory admits.
set_option Elab.async false
namespace Sys2Proof.Machine

theorem length_pagesOf (n : Nat) (b : List Byte) : (pagesOf n b).length = n := by simp [pagesOf]

theorem length_fit (n : Nat) (b : List Byte) : (fit n b).length = n := by simp [fit, zeros]

theorem length_of_mem_pagesOf {n : Nat} {b p : List Byte} (h : p ∈ pagesOf n b) : p.length = 4096 := by
  obtain ⟨i, -, rfl⟩ := List.mem_map.1 h
  exact length_fit ..

/-- The pages of a capture: the head, then the sections in their order (R338). -/
theorem Dev.digest_pages (d : Dev) (id first count : Nat) : (d.digest id first count).length = 14 + 2 * count ∧
    (∀ p ∈ d.digest id first count, p.length = 4096) ∧
    ((d.digest id first count).drop 1).take 2 = pagesOf 2 ((List.range 542).flatMap d.unitRecord) := by
  unfold Dev.digest Dev.digestSections
  extract_lets ss body head
  have flat : body = pagesOf 2 ((List.range 542).flatMap d.unitRecord) ++ (ss.tail.flatMap (·.2)) := rfl
  refine ⟨?_, fun p hp => ?_, ?_⟩
  · simp only [body, ss, List.length_cons, List.flatMap_cons, List.flatMap_nil, List.length_append, length_pagesOf, List.length_nil]
    omega
  · obtain rfl | hb := List.mem_cons.1 hp
    · exact length_fit ..
    · obtain ⟨e, he, hp⟩ := List.mem_flatMap.1 hb
      simp only [ss, List.mem_cons, List.not_mem_nil, or_false] at he
      rcases he with rfl | rfl | rfl | rfl | rfl | rfl | rfl <;> exact length_of_mem_pagesOf hp
  · rw [List.drop_one, List.tail_cons, flat]
    exact List.take_left' (length_pagesOf ..)

theorem Dev.unitRecord_of_frame {d e : Dev} {ps : List Part} {fs : List Fld} (h : d.Frame e ps fs) (hu : .ust ∉ ps := by decide)
    (hc : .cfg ∉ ps := by decide) (hq : .qen ∉ ps := by decide) (hf : .DRT_PDEG_ACTIVE ∉ fs := by decide) : e.unitRecord = d.unitRecord := by
  have qen : e.qen = d.qen := h.parts .qen hq
  funext ix
  unfold Dev.unitRecord
  rw [h.unit ix hu, h.flag .DRT_PDEG_ACTIVE 0 hf hc, h.region _ hc, qen]

/-- A number taken for a capture. -/
def Dev.numbered (d : Dev) : Dev :=
  { d with mgt := { d.mgt with snapId := d.mgt.snapId + 1 } }.setReg .UST_DIGEST_SNAP_ID 0 (d.mgt.snapId + 1)

/-- The capture of the device as it stands (R338). -/
def Dev.newSnapshot (d : Dev) (first count : Nat) : Snapshot :=
  { id := d.mgt.snapId + 1, stamp := d.now, qgFirst := first, qgCount := count,
    pages := d.numbered.digest (d.mgt.snapId + 1) first count, lastRead := d.now }

/-- A snapshot kept for an interface. -/
def Dev.keepSnapshot (d : Dev) (i : Nat) (x : Snapshot) : Dev := { d with ust := { d.ust with snaps := d.ust.snaps.put i x } }

def Dev.captureDigest (c : CmdHdr) (first count : Nat) (d : Dev) : CmdOut :=
  if decide (16 < count) || decide (256 < first + count) then d.refuse rcInvalid
  else (rcOk, (d.newSnapshot first count).reply 0, d.numbered.keepSnapshot c.iface (d.newSnapshot first count))

theorem exec_stateDigestCapture (c : CmdHdr) (first count : Nat) (s : State) :
    exec (.stateDigestCapture c first count) s = s.command c 0xC001 16 .read (Dev.captureDigest c first count) := rfl

theorem Dev.numbered_frame (d : Dev) : d.Frame d.numbered [.mgt, .regs] [.UST_DIGEST_SNAP_ID] := by
  unfold Dev.numbered
  have first : d.Frame { d with mgt := { d.mgt with snapId := d.mgt.snapId + 1 } } [.mgt] [] := .update (.refl d)
  exact .step (.mono first) (Dev.setReg_frame ..)

theorem Dev.keepSnapshot_frame (d : Dev) (i : Nat) (x : Snapshot) : d.Frame (d.keepSnapshot i x) [.ust] [] := .update (.refl d)

def Dev.readDigest (c : CmdHdr) (id page : Nat) (d : Dev) : CmdOut :=
  match d.ust.snaps.find c.iface with
  | some x =>
    if x.id ≠ id then (rcStale, x.reply 0, d)
    else if x.pages.length ≤ page then d.refuse rcInvalid
    else (rcOk, x.reply page, d.keepSnapshot c.iface { x with lastRead := d.now })
  | none => (rcStale, zeros 4112, d)

theorem exec_stateDigestPageRead (c : CmdHdr) (id page : Nat) (s : State) :
    exec (.stateDigestPageRead c id page) s = s.command c 0xC001 16 .read (Dev.readDigest c id page) := rfl

/-- Settles O41. That a stale answer carries page 0, and which ranges a capture takes, is log entry 56. -/
theorem digestAndStatusCommandsReport : Obligations.DigestAndStatusCommandsReport := by
  unfold Obligations.DigestAndStatusCommandsReport
  refine ⟨fun s c first count a few inside => ?_, fun s c first count a bad => ?_, fun s c id page x a held => ⟨fun own here => ?_, fun own beyond => ?_,
    fun other => ?_⟩, fun s c a => ?_⟩
  · obtain ⟨length, size, units⟩ := s.stamped.numbered.digest_pages (s.dev.mgt.snapId + 1) first count
    have fits : Dev.captureDigest c first count s.stamped = (rcOk, (s.stamped.newSnapshot first count).reply 0,
        s.stamped.numbered.keepSnapshot c.iface (s.stamped.newSnapshot first count)) := by
      refine if_neg ?_
      rw [decide_eq_false (Nat.not_lt.2 few), decide_eq_false (Nat.not_lt.2 inside)]
      decide
    have frame : s.stamped.Frame (s.stamped.numbered.keepSnapshot c.iface (s.stamped.newSnapshot first count)) [.mgt, .regs, .ust]
        [.UST_DIGEST_SNAP_ID] := .step (.mono s.stamped.numbered_frame) (Dev.keepSnapshot_frame ..)
    have he := a.command_units 0xC001 fits frame rfl rfl rfl
    have all : s.stamped.Frame (Dev.reply (s.stamped.numbered.keepSnapshot c.iface (s.stamped.newSnapshot first count)) c 0xC001 rcOk
        ((s.stamped.newSnapshot first count).reply 0)) [.mgt, .ust, .out, .regs] [.UST_DIGEST_SNAP_ID, .MGT_CMD_EXECUTED, .MGT_CMD_REFUSED] :=
      .step (.mono frame) (Dev.reply_frame ..)
    have replied := Dev.reply_frame (s.stamped.numbered.keepSnapshot c.iface (s.stamped.newSnapshot first count)) c 0xC001 rcOk
      ((s.stamped.newSnapshot first count).reply 0)
    have ust : Dev.ust _ = Dev.ust (s.stamped.numbered.keepSnapshot c.iface (s.stamped.newSnapshot first count)) :=
      replied.parts .ust (by decide)
    have mgt : Dev.mgt _ = Dev.mgt (s.stamped.numbered.keepSnapshot c.iface (s.stamped.newSnapshot first count)) :=
      replied.parts .mgt (by decide)
    refine ⟨_, s.stamped.newSnapshot first count, (exec_stateDigestCapture ..).trans he, ?_, rfl, (congrArg MgtS.snapId mgt :), rfl, length, size,
      ?_, fun i other => ?_, (congrArg UstS.units ust :), Dev.reply_out .., all.changesOnly⟩
    · exact (congrArg (fun u : UstS => u.snaps.find c.iface) ust).trans (AMap.find_put ..)
    · rw [← Dev.unitRecord_of_frame s.stamped.numbered_frame]
      exact units
    · exact (congrArg (fun u : UstS => u.snaps.find i) ust).trans (AMap.find_put_ne _ _ other.symm)
  · refine a.answers 0xC001 (f := Dev.captureDigest c first count) (if_pos ?_)
    simpa using bad
  · have ok : Dev.readDigest c id page s.stamped =
        (rcOk, x.reply page, s.stamped.keepSnapshot c.iface { x with lastRead := s.tb }) := by
      unfold Dev.readDigest
      rw [show s.stamped.ust.snaps.find c.iface = some x from held]
      exact (if_neg (not_not_intro own.symm)).trans (if_neg (Nat.not_le.2 here))
    exact a.command_units 0xC001 ok (s.stamped.keepSnapshot_frame c.iface { x with lastRead := s.tb }) rfl rfl rfl
  · have ok : Dev.readDigest c id page s.stamped = (rcInvalid, [], s.stamped) := by
      unfold Dev.readDigest
      rw [show s.stamped.ust.snaps.find c.iface = some x from held]
      exact (if_neg (not_not_intro own.symm)).trans (if_pos beyond)
    exact a.answers 0xC001 ok
  · have ok : Dev.readDigest c id page s.stamped = (rcStale, x.reply 0, s.stamped) := by
      unfold Dev.readDigest
      rw [show s.stamped.ust.snaps.find c.iface = some x from held]
      exact if_pos (Ne.symm other)
    exact a.answers 0xC001 ok
  · exact a.answers 0xC002 rfl

end Sys2Proof.Machine
end

section
/-!
O43: register writes (R448 to R456).
-/
-- Checked one after another: side by side, each waiting for the kernel, the proofs need more threads than the memory admits.
set_option Elab.async false
namespace Sys2Proof.Machine

/-- An access noted for its stamp (R450). -/
def Dev.noteWrite (d : Dev) (src addr size : Nat) : Dev :=
  { d with ust := { d.ust with barAt := d.now, barWrites := (if d.ust.barAt = d.now then d.ust.barWrites else []) ++ [(src, addr, size)] } }

/-- The bits of a write that a source after it has written at the same stamp (R450). -/
def Dev.lateMask (d : Dev) (src addr size o : Nat) : Nat :=
  (List.range size).foldl (fun m i => if d.writtenLater src (addr + i) then m + 255 * 256 ^ (o + i) else m) 0

/-- The part of a register write that goes to one field. -/
def Dev.fieldWrite (n m late v : Nat) (d : Dev) (f : Fld) : Dev :=
  let fm := bits (if f.info.access = .rw then m - (m &&& late) else m) f.info.lo f.info.width
  if fm = 0 || !d.writable f n then d else d.writeField f n fm (bits v f.info.lo f.info.width) v

section
variable (d : Dev) (src addr v : Nat)

theorem Dev.noteWrite_frame (size : Nat) : d.Frame (d.noteWrite src addr size) [.ust] [] := .update (.refl d)

/-- A write of a whole 32-bit register. -/
theorem Dev.writeBar2_word {r : RegInfo} {n : Nat} (at_ : regAt addr = some (r, n, 0)) (aligned : addr % 4 = 0) :
    d.writeBar2 src addr 4 v =
      (d.each r.fields (Dev.fieldWrite n (2 ^ 32 - 1) (d.lateMask src addr 4 0) (v % 2 ^ 32))).noteWrite src addr 4 := by
  have ok : accessOk addr 4 = true := by simp [accessOk, aligned]
  have word : d.writeAt src addr 4 v = d.each r.fields (Dev.fieldWrite n (2 ^ 32 - 1) (d.lateMask src addr 4 0) (v % 2 ^ 32)) := by
    unfold Dev.writeAt
    rw [at_]
    show d.writeReg r n ((2 ^ (8 * 4) - 1) * 256 ^ 0) (d.lateMask src addr 4 0) (v % 2 ^ (8 * 4) * 256 ^ 0) = _
    rw [Nat.pow_zero, Nat.mul_one, Nat.mul_one]
    rfl
  unfold Dev.writeBar2
  refine (if_neg (by rw [ok]; decide)).trans ?_
  rw [← word]
  rfl

theorem Dev.lateMask_free (h : ∀ i < 4, d.writtenLater src (addr + i) = false) : d.lateMask src addr 4 0 = 0 := by
  unfold Dev.lateMask
  refine (List.foldl_ext _ (fun m _ => m) 0 fun m i hi => ?_).trans rfl
  rw [h i (List.mem_range.1 hi)]
  exact if_neg (by decide)

theorem Dev.lateMask_full (h : ∀ i < 4, d.writtenLater src (addr + i) = true) : d.lateMask src addr 4 0 = 2 ^ 32 - 1 := by
  unfold Dev.lateMask
  refine (List.foldl_ext _ (fun m i => m + 255 * 256 ^ (0 + i)) 0 fun m i hi => ?_).trans (by decide)
  rw [h i (List.mem_range.1 hi)]
  exact if_pos rfl
end

theorem regAt_evtStatus : ∀ w < 32, regAt (0x1400000 + 4 * w) = some (⟨0x1400000, 4, 0x0, 1, 0x4, 32, [.EVT_STATUSw_STATUS]⟩, w, 0) := by
  decide

theorem regAt_evtCtl : regAt 0x1400200 = some (⟨0x1400200, 4, 0x0, 1, 0x0, 1, [.EVT_CTL_RATE, .EVT_CTL_MCTP_EID]⟩, 0, 0) := by decide

theorem regAt_slcCtl : ∀ k < 16, regAt (0x400008 + 0x10000 * k) = some (⟨0x400008, 4, 0x0, 1, 0x10000, 16,
    [.SLC_CTL_DRAM_SPEC_EN, .SLC_CTL_MEDIA_SPEC_EN, .SLC_CTL_RUNAHEAD_EN, .SLC_CTL_PF_EN, .SLC_CTL_SPECRD_EN]⟩, k, 0) := by decide

/-! ## One field -/

section
variable (d : Dev) (n v : Nat)

/-- A register of which no field can be written is left as it is. -/
theorem Dev.each_fieldWrite_ro {fs : List Fld} (ro : ∀ f ∈ fs, f.info.access = .ro) (m late : Nat) :
    d.each fs (Dev.fieldWrite n m late v) = d := by
  induction fs with
  | nil => rfl
  | cons f fs ih =>
    have fixed : Dev.fieldWrite n m late v d f = d := by
      refine if_pos ?_
      have : d.writable f n = false := by simp [Dev.writable, ro f List.mem_cons_self]
      rw [this]
      exact Bool.or_true _
    exact (congrArg (fun e : Dev => e.each fs (Dev.fieldWrite n m late v)) fixed).trans (ih fun g h => ro g (List.mem_cons_of_mem _ h))

/-- A field that belongs to no unit takes the value written where that lies in its range. -/
theorem Dev.setField_plain {f : Fld} (noUnit : unitOfField f n = none) :
    d.setField f n v = if (f.info.range.map (fun r => decide (v < r.1) || decide (r.2 < v))).getD false then d else d.setReg f n v := by
  unfold Dev.setField
  rw [noUnit]

theorem Dev.fieldWrite_status (late : Nat) (hv : v < 2 ^ 32) : Dev.fieldWrite n (2 ^ 32 - 1) late v d .EVT_STATUSw_STATUS =
    d.setReg .EVT_STATUSw_STATUS n (d.reg .EVT_STATUSw_STATUS n - (d.reg .EVT_STATUSw_STATUS n &&& v)) := by
  have all : bits v 0 32 &&& bits (2 ^ 32 - 1) 0 32 = v := by
    unfold bits
    rw [Nat.shiftRight_zero, Nat.mod_eq_of_lt hv]
    exact (Nat.and_two_pow_sub_one_eq_mod v 32).trans (Nat.mod_eq_of_lt hv)
  exact congrArg (fun x => d.setReg .EVT_STATUSw_STATUS n (d.reg .EVT_STATUSw_STATUS n - (d.reg .EVT_STATUSw_STATUS n &&& x))) all

/-- A field of whole bytes whose bytes are all written takes the value written. -/
theorem byteField_value {x old : Nat} (h : old < 256) : (x % 256 &&& 255) ||| (old - (old &&& 255)) = x % 256 := by
  have low : ∀ y, y &&& 255 = y % 256 := fun y => Nat.and_two_pow_sub_one_eq_mod y 8
  rw [low, low, Nat.mod_mod, Nat.mod_eq_of_lt h, Nat.sub_self, Nat.or_zero]

theorem Dev.fieldWrite_rate (h : d.reg .EVT_CTL_RATE n < 256) : Dev.fieldWrite n (2 ^ 32 - 1) 0 v d .EVT_CTL_RATE =
    if v % 256 = 0 then d else d.setReg .EVT_CTL_RATE n (v % 256) := by
  have go : Dev.fieldWrite n (2 ^ 32 - 1) 0 v d .EVT_CTL_RATE =
      d.setField .EVT_CTL_RATE n ((v % 256 &&& 255) ||| (d.reg .EVT_CTL_RATE n - (d.reg .EVT_CTL_RATE n &&& 255))) := rfl
  rw [go, byteField_value h, Dev.setField_plain _ _ _ rfl]
  refine if_congr ?_ rfl rfl
  show (decide (v % 256 < 1) || decide (255 < v % 256)) = true ↔ _
  simp only [Bool.or_eq_true, decide_eq_true_eq]
  omega

theorem Dev.fieldWrite_eid (h : d.reg .EVT_CTL_MCTP_EID n < 256) : Dev.fieldWrite n (2 ^ 32 - 1) 0 v d .EVT_CTL_MCTP_EID =
    d.setReg .EVT_CTL_MCTP_EID n (v / 256 % 256) := by
  have go : Dev.fieldWrite n (2 ^ 32 - 1) 0 v d .EVT_CTL_MCTP_EID = d.setField .EVT_CTL_MCTP_EID n
      (((v >>> 8) % 256 &&& 255) ||| (d.reg .EVT_CTL_MCTP_EID n - (d.reg .EVT_CTL_MCTP_EID n &&& 255))) := rfl
  rw [go, byteField_value h, Dev.setField_plain _ _ _ rfl, Nat.shiftRight_eq_div_pow]
  rfl

/-- A byte that a later source has written at the stamp keeps its value. -/
theorem Dev.fieldWrite_late {f : Fld} (rw_ : f.info.access = .rw) : Dev.fieldWrite n (2 ^ 32 - 1) (2 ^ 32 - 1) v d f = d := by
  refine if_pos ?_
  rw [if_pos rw_, show (2 ^ 32 - 1 - (2 ^ 32 - 1 &&& 2 ^ 32 - 1) : Nat) = 0 from by decide,
    show bits 0 f.info.lo f.info.width = 0 from by simp [bits]]
  rfl

theorem Dev.fieldWrite_evtCtl_frame (late : Nat) {f : Fld} (h : f = .EVT_CTL_RATE ∨ f = .EVT_CTL_MCTP_EID) :
    d.Frame (Dev.fieldWrite n (2 ^ 32 - 1) late v d f) [.regs] [f] := by
  have set : ∀ x, d.Frame (d.setField f n x) [.regs] [f] := fun x => by
    have noUnit : unitOfField f n = none := by rcases h with rfl | rfl <;> rfl
    rw [Dev.setField_plain _ _ _ noUnit]
    split
    · exact .refl d
    · exact d.setReg_frame f n x
  have access : f.info.access = .rw := by rcases h with rfl | rfl <;> rfl
  unfold Dev.fieldWrite
  rw [if_pos access]
  dsimp only
  split
  · exact .refl d
  · rcases h with rfl | rfl
    · exact set _
    · exact set _
end

/-- A write of an event status word clears the bits written as 1. -/
theorem Dev.writeBar2_status (d : Dev) {src w v : Nat} (hw : w < 32) (hv : v < 2 ^ 32) : d.writeBar2 src (0x1400000 + 4 * w) 4 v =
    Dev.noteWrite (d.setReg .EVT_STATUSw_STATUS w (d.reg .EVT_STATUSw_STATUS w - (d.reg .EVT_STATUSw_STATUS w &&& v))) src (0x1400000 + 4 * w) 4 :=
  (d.writeBar2_word src _ v (regAt_evtStatus w hw) (by omega)).trans
    ((Nat.mod_eq_of_lt hv).symm ▸ congrArg (Dev.noteWrite · src (0x1400000 + 4 * w) 4) (d.fieldWrite_status w v _ hv))

/-! ## SLC_CTL -/

abbrev slcCtl : List Fld :=
  [.SLC_CTL_DRAM_SPEC_EN, .SLC_CTL_MEDIA_SPEC_EN, .SLC_CTL_RUNAHEAD_EN, .SLC_CTL_PF_EN, .SLC_CTL_SPECRD_EN]

section
variable {d e : Dev} {g : Fld} {i : Nat}

theorem Dev.regInForce_kept {x : Nat × Nat} (h : d.ust.kept.find (g.key i) = some x) : d.regInForce g i = x.2 := by
  unfold Dev.regInForce
  rw [h]

theorem Dev.regInForce_fresh (h : d.ust.kept.find (g.key i) = none) : d.regInForce g i = d.reg g i := by
  unfold Dev.regInForce
  rw [h]

theorem Dev.regInForce_congr (kept : e.ust.kept.find (g.key i) = d.ust.kept.find (g.key i)) (reg : e.reg g i = d.reg g i) :
    e.regInForce g i = d.regInForce g i := by
  unfold Dev.regInForce
  rw [kept, reg]
end

/-- What a write of slice `k`'s control fields leaves: the unit table, what is kept of a slice in service, and the values by
which a slice out of service goes on acting (R455). -/
structure Dev.SlcKept (k : Nat) (d e : Dev) : Prop where
  units : e.ust.units = d.ust.units
  serving : d.serves (sliceIx k) = true → e.ust.kept = d.ust.kept
  stopped : d.ustate (sliceIx k) = .resetting ∨ d.ustate (sliceIx k) = .off ∨ d.ustate (sliceIx k) = .failed →
    ∀ g i, e.regInForce g i = d.regInForce g i

theorem Dev.ustate_of_units {d e : Dev} (h : e.ust.units = d.ust.units) (ix : Nat) : e.ustate ix = d.ustate ix := by
  unfold Dev.ustate Dev.unit
  rw [h]

theorem Dev.SlcKept.trans {k : Nat} {d e g : Dev} (h : d.SlcKept k e) (h' : e.SlcKept k g) : d.SlcKept k g where
  units := h'.units.trans h.units
  serving := fun sv => by
    have : e.serves (sliceIx k) = true := (congrArg UState.serves (Dev.ustate_of_units h.units _)).trans sv
    exact (h'.serving this).trans (h.serving sv)
  stopped := fun st f i => by
    have : e.ustate (sliceIx k) = d.ustate (sliceIx k) := Dev.ustate_of_units h.units _
    exact (h'.stopped (this ▸ st) f i).trans (h.stopped st f i)

theorem Dev.setReg_slcKept (d : Dev) {f : Fld} {k v : Nat} 
    (h : d.ustate (sliceIx k) = .resetting ∨ d.ustate (sliceIx k) = .off ∨ d.ustate (sliceIx k) = .failed →
      d.ust.kept.has (f.key k) = true) : d.SlcKept k (d.setReg f k v) where
  units := rfl
  serving := fun _ => rfl
  stopped := fun st g i => by
    cases hk : d.ust.kept.find (g.key i) with
    | some e => exact (Dev.regInForce_kept (d := d.setReg f k v) hk).trans (Dev.regInForce_kept hk).symm
    | none =>
      refine Dev.regInForce_congr rfl (d.reg_setReg_ne v (not_and_or.1 fun same => ?_))
      obtain ⟨rfl, rfl⟩ := same
      have has := h st
      unfold AMap.has at has
      rw [hk] at has
      exact absurd has (by decide)

/-- The old value kept of a field of a unit that is out of service. -/
def Dev.keepField (d : Dev) (ix : Nat) (f : Fld) (n : Nat) : Dev :=
  { d with ust := { d.ust with kept := d.ust.kept.put (f.key n) (ix, d.reg f n) } }

theorem Dev.keepField_slcKept (d : Dev) {f : Fld} {k : Nat} (stopped : [UState.resetting, .off, .failed].contains (d.ustate (sliceIx k)) = true)
    (fresh : d.ust.kept.has (f.key k) = false) : d.SlcKept k (d.keepField (sliceIx k) f k) where
  units := rfl
  serving := fun sv => by
    have never : ∀ u : UState, u.serves = true → [UState.resetting, .off, .failed].contains u = false := fun u => by
      cases u <;> decide
    exact absurd stopped (Bool.not_eq_true _ ▸ never _ sv)
  stopped := fun _ g i => by
    by_cases same : f.key k = g.key i
    · obtain ⟨rfl, rfl⟩ := Fld.key_inj same
      have fresh' : d.ust.kept.find (f.key k) = none := by simpa [AMap.has] using fresh
      exact (Dev.regInForce_kept (AMap.find_put ..)).trans (Dev.regInForce_fresh fresh').symm
    · exact Dev.regInForce_congr (AMap.find_put_ne _ _ same) rfl

theorem Dev.keepField_frame (d : Dev) (ix : Nat) (f : Fld) (n : Nat) : d.Frame (d.keepField ix f n) [.ust] [] := .update (.refl d)

/-- A field of a unit, without a range of its own. -/
theorem Dev.setField_ofUnit (d : Dev) (n v : Nat) {f : Fld} {ix : Nat} (range : f.info.range = none) (unit : unitOfField f n = some ix) :
    d.setField f n v = (if ([UState.resetting, .off, .failed].contains (d.ustate ix) && !d.ust.kept.has (f.key n)) = true
      then d.keepField ix f n else d).setReg f n v := by
  unfold Dev.setField
  rw [range, unit]
  rfl

theorem Dev.setField_slc (d : Dev) {f : Fld} (hf : f ∈ slcCtl) (k v : Nat) :
    d.Frame (d.setField f k v) [.regs, .ust] [f] ∧ (d.setField f k v).reg f k = v % 2 ∧ d.SlcKept k (d.setField f k v) := by
  have width : f.info.width = 1 := (by decide : ∀ f ∈ slcCtl, f.info.width = 1) f hf
  have range : f.info.range = none := (by decide : ∀ f ∈ slcCtl, f.info.range = none) f hf
  have unit : unitOfField f k = some (sliceIx k) := by
    fin_cases hf <;> rfl
  have value : ∀ e : Dev, (e.setReg f k v).reg f k = v % 2 := fun e => by rw [Dev.reg_setReg, width, Nat.pow_one]
  rw [Dev.setField_ofUnit _ _ _ range unit]
  split
  case isTrue c =>
    obtain ⟨stopped, fresh⟩ := (Bool.and_eq_true_iff).1 c
    have fresh : d.ust.kept.has (f.key k) = false := by simpa using fresh
    exact ⟨.step (.mono (d.keepField_frame (sliceIx k) f k) (by decide) (List.nil_subset _)) (Dev.setReg_frame ..) (by decide) (List.Subset.refl _), value _,
      (d.keepField_slcKept stopped fresh).trans (Dev.setReg_slcKept _ fun _ => by simp [AMap.has, Dev.keepField])⟩
  case isFalse c =>
    refine ⟨.mono (d.setReg_frame f k v) (by decide) (List.Subset.refl _), value _, d.setReg_slcKept fun st => ?_⟩
    have stopped : [UState.resetting, .off, .failed].contains (d.ustate (sliceIx k)) = true := by
      rcases st with h | h | h <;> rw [h] <;> rfl
    rw [stopped] at c
    simpa using c

/-- A write of one control field of a slice, by a source that is not too late. -/
theorem Dev.fieldWrite_slc (d : Dev) {f : Fld} (hf : f ∈ slcCtl) (k v : Nat) (cfg : d.cfg.isSome = true) :
    d.Frame (Dev.fieldWrite k (2 ^ 32 - 1) 0 v d f) [.regs, .ust] [f] ∧
    (Dev.fieldWrite k (2 ^ 32 - 1) 0 v d f).reg f k = (v >>> f.info.lo) % 2 ∧ d.SlcKept k (Dev.fieldWrite k (2 ^ 32 - 1) 0 v d f) := by
  have writable : d.writable f k = true := by
    have unhidden : d.hiddenField f k = false := by fin_cases hf <;> rfl
    have structured : d.structured f k = true := by fin_cases hf <;> exact cfg
    have fixed : f.info.access ≠ .ro ∧ f.info.clrC = false := (by decide : ∀ f ∈ slcCtl, f.info.access ≠ .ro ∧ f.info.clrC = false) f hf
    simp [Dev.writable, unhidden, structured, fixed]
  have mask : bits (2 ^ 32 - 1) f.info.lo f.info.width = 1 := (by decide : ∀ f ∈ slcCtl, bits (2 ^ 32 - 1) f.info.lo f.info.width = 1) f hf
  have bit : bits v f.info.lo f.info.width = (v >>> f.info.lo) % 2 := by
    rw [(by decide : ∀ f ∈ slcCtl, f.info.width = 1) f hf]
    rfl
  have go : Dev.fieldWrite k (2 ^ 32 - 1) 0 v d f =
      d.setField f k (((v >>> f.info.lo) % 2 &&& 1) ||| (d.reg f k - (d.reg f k &&& 1))) := by
    unfold Dev.fieldWrite
    rw [if_pos ((by decide : ∀ f ∈ slcCtl, f.info.access = .rw) f hf), Nat.and_zero, Nat.sub_zero, mask, writable, bit]
    fin_cases hf <;> rfl
  obtain ⟨frame, value, kept⟩ := d.setField_slc hf k (((v >>> f.info.lo) % 2 &&& 1) ||| (d.reg f k - (d.reg f k &&& 1)))
  rw [go]
  refine ⟨frame, value.trans ?_, kept⟩
  have low : ∀ y, y &&& 1 = y % 2 := fun y => Nat.and_two_pow_sub_one_eq_mod y 1
  have even : (d.reg f k - d.reg f k % 2) % 2 = 0 := by omega
  rw [low, low, Nat.mod_mod]
  exact (Nat.or_mod_two_pow (n := 1)).trans (by rw [Nat.pow_one, even, Nat.mod_mod, Nat.or_zero])

/-- A write of a whole control register of a slice. -/
theorem Dev.each_slc (d : Dev) (k v : Nat) (cfg : d.cfg.isSome = true) {fs : List Fld} (sub : fs ⊆ slcCtl) (nodup : fs.Nodup) :
    d.Frame (d.each fs (Dev.fieldWrite k (2 ^ 32 - 1) 0 v)) [.regs, .ust] fs ∧
    (∀ f ∈ fs, (d.each fs (Dev.fieldWrite k (2 ^ 32 - 1) 0 v)).reg f k = (v >>> f.info.lo) % 2) ∧
    d.SlcKept k (d.each fs (Dev.fieldWrite k (2 ^ 32 - 1) 0 v)) := by
  induction fs generalizing d with
  | nil => exact ⟨.refl d, fun _ h => absurd h List.not_mem_nil, ⟨rfl, fun _ => rfl, fun _ _ _ => rfl⟩⟩
  | cons f fs ih =>
    obtain ⟨frame, value, kept⟩ := d.fieldWrite_slc (sub List.mem_cons_self) k v cfg
    have cfg' : (Dev.fieldWrite k (2 ^ 32 - 1) 0 v d f).cfg = d.cfg := frame.parts .cfg (by decide)
    obtain ⟨frames, values, keeps⟩ := ih (Dev.fieldWrite k (2 ^ 32 - 1) 0 v d f) (cfg'.symm ▸ cfg)
      (fun _ h => sub (List.mem_cons_of_mem _ h)) (List.nodup_cons.1 nodup).2
    refine ⟨.step (.mono frame (by decide) (List.cons_subset_cons _ (List.nil_subset _))) frames (by decide) (List.subset_cons_self _ _),
      fun g hg => ?_, kept.trans keeps⟩
    rcases List.mem_cons.1 hg with rfl | hg
    · exact (frames.reg g k (List.nodup_cons.1 nodup).1).trans value
    · exact values g hg

/-! ## The command -/

theorem exec_registerWrite (head addr size v : Nat) (s : State) : exec (.registerWrite head addr size v) s =
    s.onHealth fun d => d.when (decide (head < d.headCount) && d.reg .GLB_HEAD_LINK_WIDTH head ≠ 0) (·.writeBar2 head addr size v) := rfl

/-- The outcome of a register write by a head that is there with its link up. -/
theorem registerWrite_done {s : State} {head addr size v : Nat} (aon : s.dev.aon = true) (there : head < s.dev.headCount)
    (up : s.dev.reg .GLB_HEAD_LINK_WIDTH head ≠ 0) {e : Dev} {fs : List Fld} (he : s.stamped.writeBar2 head addr size v = e)
    (frame : s.stamped.Frame e [.regs, .ust] fs) (units : e.ust.units = s.dev.ust.units) (hr : ∀ f ∈ healthFields, f ∉ fs := by decide) :
    exec (.registerWrite head addr size v) s = .next { s with dev := e } := by
  have go : s.stamped.when (decide (head < s.stamped.headCount) && s.stamped.reg .GLB_HEAD_LINK_WIDTH head ≠ 0)
      (·.writeBar2 head addr size v) = e := by
    refine (if_pos ?_).trans he
    simpa using ⟨there, up⟩
  have boot : e.boot = s.stamped.boot := frame.parts .boot (by decide)
  refine (State.onHealth_aon aon _).trans (congrArg (fun d : Dev => (.next { s with dev := d } : Out)) ?_)
  exact frame.watchHealth_units go units (by rw [boot]) (by rw [boot]) (by decide) hr

/-- Settles O43. That a field of a unit out of service reads back what was written while the unit goes on acting by the old
value is log entry 57; the order of the writes of one stamp uses log entry 97. -/
theorem registerWritesFollowTheirAccessTypes : Obligations.RegisterWritesFollowTheirAccessTypes := by
  unfold Obligations.RegisterWritesFollowTheirAccessTypes
  refine ⟨fun s head addr size v aon bad => ?_, fun s head addr v n o r aon there up found ro => ?_,
    fun s head w v aon there up hw hv => ?_, fun s head v aon there up rate eid => ?_, fun s head k v aon there up hk cfg hv early => ?_⟩
  · have fixed : s.stamped.when (decide (head < s.stamped.headCount) && s.stamped.reg .GLB_HEAD_LINK_WIDTH head ≠ 0)
        (·.writeBar2 head addr size v) = s.stamped := by
      by_cases live : (decide (head < s.stamped.headCount) && s.stamped.reg .GLB_HEAD_LINK_WIDTH head ≠ 0) = true
      case neg => exact if_neg live
      refine (if_pos live).trans (if_pos ?_)
      obtain ⟨there, up⟩ := Bool.and_eq_true_iff.1 live
      rcases bad with h | h | h | h
      · exact absurd h (Nat.not_le.2 (of_decide_eq_true there))
      · exact absurd h (of_decide_eq_true up)
      · simp [accessOk, h.1, h.2]
      · simp [accessOk, h]
    refine (State.onHealth_aon aon _).trans (congrArg (fun d : Dev => (.next { s with dev := d } : Out)) ?_)
    exact (Dev.Frame.refl s.stamped (ps := []) (fs := [])).watchHealth fixed
  · by_cases aligned : addr % 4 = 0
    case neg =>
      have same : s.stamped.writeBar2 head addr 4 v = s.stamped := if_pos (by simp [accessOk, aligned])
      exact ⟨_, registerWrite_done aon there up same (.refl _ (fs := [])) rfl, (Dev.Frame.refl _ (ps := []) (fs := [])).changesOnly, rfl⟩
    have noted : s.stamped.writeBar2 head addr 4 v = s.stamped.noteWrite head addr 4 := by
      have none : s.stamped.writeAt head addr 4 v = s.stamped := by
        unfold Dev.writeAt
        rw [found]
        exact Dev.each_fieldWrite_ro _ _ _ ro _ _
      refine (if_neg (by simp [accessOk, aligned])).trans ?_
      exact congrArg (Dev.noteWrite · head addr 4) none
    exact ⟨_, registerWrite_done aon there up noted (.mono (Dev.noteWrite_frame ..) (fs := [])) rfl, (Dev.noteWrite_frame ..).changesOnly, rfl⟩
  · have written : s.stamped.writeBar2 head (0x1400000 + 4 * w) 4 v = Dev.noteWrite (s.stamped.setReg .EVT_STATUSw_STATUS w
        (s.stamped.reg .EVT_STATUSw_STATUS w - (s.stamped.reg .EVT_STATUSw_STATUS w &&& v))) head (0x1400000 + 4 * w) 4 :=
      s.stamped.writeBar2_status hw hv
    have frame : s.stamped.Frame (Dev.noteWrite (s.stamped.setReg .EVT_STATUSw_STATUS w
        (s.stamped.reg .EVT_STATUSw_STATUS w - (s.stamped.reg .EVT_STATUSw_STATUS w &&& v))) head (0x1400000 + 4 * w) 4) [.regs, .ust]
        [.EVT_STATUSw_STATUS] := .step (.mono (Dev.setReg_frame ..)) (Dev.noteWrite_frame ..)
    refine ⟨_, registerWrite_done aon there up written frame rfl, Dev.reg_setReg .., fun f i other => ?_, frame.changesOnly⟩
    exact s.stamped.reg_setReg_ne _ (not_and_or.1 fun same => other (by rw [← same.1, ← same.2]))
  · have written := s.stamped.writeBar2_word head _ v regAt_evtCtl (by decide)
    have frame : ∀ late x, s.stamped.Frame (Dev.noteWrite (s.stamped.each [.EVT_CTL_RATE, .EVT_CTL_MCTP_EID]
        (Dev.fieldWrite 0 (2 ^ 32 - 1) late x)) head 0x1400200 4) [.regs, .ust] [.EVT_CTL_RATE, .EVT_CTL_MCTP_EID] := fun late x =>
      .step (.step (.mono (Dev.fieldWrite_evtCtl_frame _ _ _ _ (.inl rfl))) (Dev.fieldWrite_evtCtl_frame _ _ _ _ (.inr rfl)))
        (Dev.noteWrite_frame ..)
    have units : ∀ late x, (s.stamped.each [.EVT_CTL_RATE, .EVT_CTL_MCTP_EID] (Dev.fieldWrite 0 (2 ^ 32 - 1) late x)).ust = s.stamped.ust :=
      fun late x => (Dev.Frame.step (.mono (Dev.fieldWrite_evtCtl_frame _ _ _ _ (.inl rfl)) (fs := [.EVT_CTL_RATE, .EVT_CTL_MCTP_EID]))
        (Dev.fieldWrite_evtCtl_frame _ _ _ _ (.inr rfl)) (ps := [.regs])).parts .ust (by decide)
    have now : ∀ late x, (s.stamped.each [.EVT_CTL_RATE, .EVT_CTL_MCTP_EID] (Dev.fieldWrite 0 (2 ^ 32 - 1) late x)).now = s.tb := fun late x =>
      (Dev.Frame.now (Dev.noteWrite_frame ..)).symm.trans (frame late x).now
    refine ⟨_, registerWrite_done aon there up written (frame ..) (congrArg UstS.units (units (s.stamped.lateMask head 0x1400200 4 0) (v % 2 ^ 32)) :), fun early => ?_, fun late => ?_,
      fun f i h => (frame ..).reg f i h, (frame ..).changesOnly, now .., List.mem_append_right _ List.mem_cons_self⟩
    · rw [Dev.lateMask_free _ _ _ early]
      have first := s.stamped.fieldWrite_rate 0 (v % 2 ^ 32) rate
      rw [(by omega : v % 2 ^ 32 % 256 = v % 256)] at first
      have kept : (Dev.fieldWrite 0 (2 ^ 32 - 1) 0 (v % 2 ^ 32) s.stamped .EVT_CTL_RATE).reg .EVT_CTL_MCTP_EID = s.dev.reg .EVT_CTL_MCTP_EID :=
        (Dev.fieldWrite_evtCtl_frame _ _ _ _ (.inl rfl)).reg .EVT_CTL_MCTP_EID 0
      have second := Dev.fieldWrite_eid (Dev.fieldWrite 0 (2 ^ 32 - 1) 0 (v % 2 ^ 32) s.stamped .EVT_CTL_RATE) 0 (v % 2 ^ 32) (kept.symm ▸ eid)
      rw [(by omega : v % 2 ^ 32 / 256 % 256 = v / 256 % 256)] at second
      have both : s.stamped.each [.EVT_CTL_RATE, .EVT_CTL_MCTP_EID] (Dev.fieldWrite 0 (2 ^ 32 - 1) 0 (v % 2 ^ 32)) =
          Dev.setReg (if v % 256 = 0 then s.stamped else s.stamped.setReg .EVT_CTL_RATE 0 (v % 256)) .EVT_CTL_MCTP_EID 0 (v / 256 % 256) :=
        second.trans (congrArg (Dev.setReg · .EVT_CTL_MCTP_EID 0 (v / 256 % 256)) first)
      rw [both]
      refine ⟨?_, (Dev.reg_setReg ..).trans (Nat.mod_mod ..)⟩
      refine (Dev.reg_setReg_ne _ _ (.inl (by decide))).trans ?_
      split
      · rfl
      · exact (Dev.reg_setReg ..).trans (Nat.mod_mod ..)
    · rw [Dev.lateMask_full _ _ _ late]
      have same : s.stamped.each [.EVT_CTL_RATE, .EVT_CTL_MCTP_EID] (Dev.fieldWrite 0 (2 ^ 32 - 1) (2 ^ 32 - 1) (v % 2 ^ 32)) = s.stamped :=
        (congrArg (Dev.fieldWrite 0 (2 ^ 32 - 1) (2 ^ 32 - 1) (v % 2 ^ 32) · .EVT_CTL_MCTP_EID) 
          (s.stamped.fieldWrite_late 0 (v % 2 ^ 32) (f := .EVT_CTL_RATE) rfl)).trans
          (s.stamped.fieldWrite_late 0 (v % 2 ^ 32) (f := .EVT_CTL_MCTP_EID) rfl)
      rw [same]
      exact ⟨rfl, rfl⟩
  · have five : s.stamped.lateMask head (0x400008 + 0x10000 * k) 4 0 = 0 := Dev.lateMask_free _ _ _ early
    have written := s.stamped.writeBar2_word head _ v (regAt_slcCtl k hk) (by omega)
    rw [five, Nat.mod_eq_of_lt (by omega : v < 2 ^ 32)] at written
    obtain ⟨frame, values, kept⟩ := s.stamped.each_slc k v cfg (List.Subset.refl slcCtl) (by decide)
    have all : s.stamped.Frame (Dev.noteWrite (s.stamped.each slcCtl (Dev.fieldWrite k (2 ^ 32 - 1) 0 v)) head (0x400008 + 0x10000 * k) 4)
      [.regs, .ust] slcCtl := .step (.mono frame) (Dev.noteWrite_frame ..)
    refine ⟨_, registerWrite_done aon there up written all kept.units, ?_, kept.serving, kept.units, fun st f _ => kept.stopped st f k, all.changesOnly⟩
    show slcCtl.map (fun f => (s.stamped.each slcCtl (Dev.fieldWrite k (2 ^ 32 - 1) 0 v)).reg f k != 0) = _
    rw [List.map_congr_left fun f hf => congrArg (· != 0) (values f hf)]
    have bit : ∀ i, v.testBit i = ((v >>> i) % 2 != 0) := fun i => by
      unfold Nat.testBit
      rw [Nat.one_and_eq_mod_two]
    rw [List.map_congr_left fun i _ => bit i]
    rfl

end Sys2Proof.Machine
end

section
/-!
O42: the debug unlock (R310) and JTAG (R443).
-/
-- Checked one after another: side by side, each waiting for the kernel, the proofs need more threads than the memory admits.
set_option Elab.async false
namespace Sys2Proof.Machine

/-! ## Debug unlock -/

/-- A nonce younger than 60 s, and the key and signature for it. -/
def Dev.unlockHolds (d : Dev) (n : List Byte) (t slot : Nat) (pub sig : List Byte) : Prop :=
  d.now < t + 60000000000 ∧ d.unlocks n slot pub sig = true

section
variable {d : Dev} {n : List Byte} {t : Nat} (src slot : Nat) (pub sig : List Byte)

theorem Dev.unlock_opens (nonce : d.mgt.nonce = some (n, t)) (holds : d.unlockHolds n t slot pub sig) :
    d.unlock src slot pub sig = (leBytes 1 1 ++ leBytes 1 d.triesLeft ++ zeros 6,
      Dev.setFlag { d with mgt := { d.mgt with nonce := none } } .CRY_STATUS_DEBUG_AUTH 0 true) := by
  have ok : (d.nonceLives && (d.mgt.nonce.map (fun x => d.unlocks x.1 slot pub sig)).getD false) = true := by
    unfold Dev.nonceLives
    rw [nonce]
    exact Bool.and_eq_true_iff.2 ⟨decide_eq_true holds.1, holds.2⟩
  unfold Dev.unlock
  rw [ok]
  rfl

theorem Dev.triesLeft_of {e : Dev} (cfg : e.cfg = d.cfg) (mgt : e.mgt = d.mgt) : e.triesLeft = d.triesLeft := by
  unfold Dev.triesLeft
  rw [cfg, mgt]

/-- The device after a try that failed. -/
def Dev.failedTry (d : Dev) (src : Nat) : Dev :=
  ({ d with mgt := { d.mgt with nonce := none, unlockFails := d.mgt.unlockFails + 1 } } : Dev).raise 961 { a := 0xC0A0, c := src }

theorem Dev.unlock_fails (nonce : d.mgt.nonce = some (n, t)) (bad : ¬ d.unlockHolds n t slot pub sig) :
    d.unlock src slot pub sig = (leBytes 1 0 ++ leBytes 1 (d.unlock src slot pub sig).2.triesLeft ++ zeros 6,
      if (d.failedTry src).triesLeft = 0 then (d.failedTry src).lockdown 1 else d.failedTry src) := by
  have no : (d.nonceLives && (d.mgt.nonce.map (fun x => d.unlocks x.1 slot pub sig)).getD false) = false := by
    unfold Dev.nonceLives
    rw [nonce]
    exact Bool.eq_false_iff.2 fun h => bad ((Bool.and_eq_true_iff.1 h).imp_left of_decide_eq_true)
  unfold Dev.unlock
  rw [no]
  rfl

theorem Dev.failedTry_frame : d.Frame (d.failedTry src) [.mgt, .regs, .evt, .out] evtFields := .step (.update (.refl d)) (Dev.raise_frame ..)

theorem Dev.failedTry_mgt : (d.failedTry src).mgt = { d.mgt with nonce := none, unlockFails := d.mgt.unlockFails + 1 } :=
  (Dev.raise_frame ..).parts .mgt (by decide)

/-- A lockdown of a device that is not locked yet. -/
theorem Dev.lockdown_regs {d : Dev} (free : d.flag .CRY_STATUS_LOCKED = false) (cause : Nat) :
    (d.lockdown cause).reg .CRY_STATUS_LOCKED = 1 ∧ (d.lockdown cause).reg .CRY_STATUS_LOCK_CAUSE = cause % 2 ^ Fld.CRY_STATUS_LOCK_CAUSE.info.width := by
  unfold Dev.lockdown
  rw [free]
  have raised := Dev.raise_frame ((d.setFlag .CRY_STATUS_LOCKED 0 true).setReg .CRY_STATUS_LOCK_CAUSE 0 cause) 806 {}
  refine ⟨(raised.reg _ 0).trans ?_, (raised.reg _ 0).trans (Dev.reg_setReg ..)⟩
  exact (Dev.reg_setReg_ne _ _ (.inl (by decide))).trans (Dev.reg_setReg ..)

/-- What a failed try leaves (R310): the last one locks the device down. -/
theorem Dev.unlock_failed (nonce : d.mgt.nonce = some (n, t)) (free : d.flag .CRY_STATUS_LOCKED = false)
    (bad : ¬ d.unlockHolds n t slot pub sig) :
    (d.unlock src slot pub sig).2.mgt = { d.mgt with nonce := none, unlockFails := d.mgt.unlockFails + 1 } ∧
    (d.unlock src slot pub sig).2.reg .CRY_STATUS_DEBUG_AUTH = d.reg .CRY_STATUS_DEBUG_AUTH ∧
    ((d.unlock src slot pub sig).2.triesLeft = 0 →
      (d.unlock src slot pub sig).2.reg .CRY_STATUS_LOCKED = 1 ∧ (d.unlock src slot pub sig).2.reg .CRY_STATUS_LOCK_CAUSE = 1) := by
  have tried := Dev.failedTry_frame (d := d) src
  have mgt := Dev.failedTry_mgt (d := d) src
  rw [congrArg Prod.snd (Dev.unlock_fails src slot pub sig nonce bad)]
  dsimp only
  split
  case isTrue last =>
    have locked := (d.failedTry src).lockdown_frame 1
    have stillFree : (d.failedTry src).flag .CRY_STATUS_LOCKED = false := (congrArg (· != 0) (tried.reg .CRY_STATUS_LOCKED 0)).trans free
    exact ⟨(locked.parts .mgt (by decide)).trans mgt, (locked.reg _ 0).trans (tried.reg _ 0), fun _ => Dev.lockdown_regs stillFree 1⟩
  case isFalse more =>
    exact ⟨mgt, tried.reg _ 0, fun h => absurd h more⟩

theorem Dev.unlock_opened (nonce : d.mgt.nonce = some (n, t)) (holds : d.unlockHolds n t slot pub sig) :
    (d.unlock src slot pub sig).2.mgt = { d.mgt with nonce := none } ∧
    (d.unlock src slot pub sig).2.reg .CRY_STATUS_DEBUG_AUTH = 1 := by
  rw [Dev.unlock_opens src slot pub sig nonce holds]
  exact ⟨rfl, Dev.reg_setReg ..⟩

/-- Phase 1 takes the nonce and sets the authorisation where it holds. -/
theorem Dev.unlock_authorises (nonce : d.mgt.nonce = some (n, t)) (free : d.flag .CRY_STATUS_LOCKED = false) :
    (d.unlock src slot pub sig).2.mgt.nonce = none ∧ (d.unlock src slot pub sig).2.mgt.jtagIr = d.mgt.jtagIr ∧
    (d.unlockHolds n t slot pub sig → (d.unlock src slot pub sig).2.reg .CRY_STATUS_DEBUG_AUTH = 1) ∧
    (¬ d.unlockHolds n t slot pub sig → (d.unlock src slot pub sig).2.reg .CRY_STATUS_DEBUG_AUTH = d.reg .CRY_STATUS_DEBUG_AUTH) := by
  by_cases holds : d.unlockHolds n t slot pub sig
  case pos =>
    obtain ⟨mgt, auth⟩ := Dev.unlock_opened src slot pub sig nonce holds
    exact ⟨congrArg MgtS.nonce mgt, (congrArg MgtS.jtagIr mgt :), fun _ => auth, fun h => absurd holds h⟩
  case neg =>
    obtain ⟨mgt, auth, -⟩ := Dev.unlock_failed src slot pub sig nonce free holds
    exact ⟨congrArg MgtS.nonce mgt, (congrArg MgtS.jtagIr mgt :), fun h => absurd h holds, fun _ => auth⟩
end

/-! ## The unlock commands -/

/-- A phase of the unlock, as a command's effect. -/
def Dev.unlockPhase (f : Dev → List Byte × Dev) (d : Dev) : CmdOut :=
  if d.flag .CRY_STATUS_LOCKED then d.refuse rcSecurity else (rcOk, (f d).1, (f d).2)

theorem exec_debugUnlockChallenge (c : CmdHdr) (s : State) :
    exec (.debugUnlockChallenge c) s = s.command c 0xC0A0 4 .change (Dev.unlockPhase Dev.challenge) := rfl

theorem exec_debugUnlockResponse (c : CmdHdr) (slot : Nat) (pub sig : List Byte) (s : State) :
    exec (.debugUnlockResponse c slot pub sig) s =
      s.command c 0xC0A0 196 .change (Dev.unlockPhase (·.unlock c.iface slot (fit 96 pub) (fit 96 sig))) := rfl

theorem Dev.unlockPhase_locked {d : Dev} (f : Dev → List Byte × Dev) (locked : d.flag .CRY_STATUS_LOCKED = true) :
    d.unlockPhase f = (0x13, [], d) := if_pos locked

theorem Dev.unlockPhase_free {d : Dev} (f : Dev → List Byte × Dev) (free : d.flag .CRY_STATUS_LOCKED = false) :
    d.unlockPhase f = (rcOk, (f d).1, (f d).2) := if_neg (by rw [free]; decide)

/-! ## JTAG -/

/-- The device in which an instruction of the JTAG port acts. -/
theorem State.jtagged_frame (s : State) (ir : Nat) : s.stamped.Frame (s.jtagged ir) [.mgt] [] := .update (.refl _)

/-- An instruction that leaves what the health is read off. -/
theorem State.jtag_done {s : State} (aon : s.dev.aon = true) {ir : Nat} {f : Dev → Dev} {e : Dev} {ps : List Part} {fs : List Fld}
    (he : f (s.jtagged ir) = e) (frame : s.stamped.Frame e ps fs) (units : e.ust.units = s.dev.ust.units)
    (hp : ∀ p ∈ .boot :: healthParts, p ∉ ps := by decide) (hr : ∀ f ∈ healthFields, f ∉ fs := by decide) :
    s.jtag ir f = .next { s with dev := e } := by
  have boot : e.boot = s.stamped.boot := frame.parts .boot (hp .boot (by decide))
  refine (State.onHealth_aon aon _).trans (congrArg (fun d : Dev => (.next { s with dev := d } : Out)) ?_)
  exact frame.watchHealth_units he units (by rw [boot]) (by rw [boot]) (fun p h => hp p (List.mem_cons_of_mem _ h)) hr

theorem State.jtag_emit {s : State} (aon : s.dev.aon = true) {ir : Nat} {f : Dev → Dev} {o : Output}
    (he : f (s.jtagged ir) = (s.jtagged ir).emit o) : s.jtag ir f = .next { s with dev := (s.jtagged ir).emit o } :=
  s.jtag_done aon he (.step (.mono (s.jtagged_frame ir) (ps := [.mgt, .out]) (fs := [])) (Dev.emit_frame ..)) rfl

/-- IDCODE's answer. -/
def idBytes (stepping : Nat) : List Byte :=
  leBytes 4 (1 + 2 * (Config.jedecId % 2 ^ 11) + 0x9400 * 2 ^ 12 + stepping % 16 * 2 ^ 28)

section
variable (s : State) (data : List Byte)

theorem exec_idcode : exec .idcode s = s.jtag 0x01 fun d => d.emit (.jtag (idBytes d.boot.stepping)) := rfl
theorem exec_bypass : exec (.bypass data) s = s.jtag 0xFF (·.bypass data) := rfl
theorem exec_clamp : exec (.clamp data) s = s.jtag 0x08 (·.bypass data) := rfl
theorem exec_highz : exec (.highz data) s = s.jtag 0x09 (·.bypass data) := rfl
theorem exec_samplePreload : exec (.samplePreload data) s = s.jtag 0x02 (·.scanBoundary data) := rfl
theorem exec_extest : exec (.extest data) s = s.jtag 0x00 fun d => d.inReset data (·.scanBoundary data) := rfl
end

theorem Dev.inReset_high {d : Dev} (data : List Byte) (f : Dev → Dev) (h : d.pin.resetN = true) : d.inReset data f = d.bypass data := if_pos h

theorem Dev.inReset_low {d : Dev} (data : List Byte) (f : Dev → Dev) (h : d.pin.resetN = false) : d.inReset data f = f d :=
  if_neg (by rw [h]; decide)

/-- The boundary register scanned under an instruction. -/
theorem State.jtag_scan {s : State} (aon : s.dev.aon = true) {ir : Nat} {f : Dev → Dev} {data : List Byte}
    (he : f (s.jtagged ir) = (s.jtagged ir).scanBoundary data) :
    ∃ d b, s.jtag ir f = .next { s with dev := d } ∧ d.mgt = { s.dev.mgt with jtagIr := ir, boundary := data } ∧
      b.length = data.length ∧ d.out = .jtag b :: s.dev.out ∧ s.stamped.ChangesOnly d [.mgt, .out, .freeCtr] := by
  have frame : s.stamped.Frame ((s.jtagged ir).scanBoundary data) [.mgt, .out, .freeCtr] [] :=
    .step (.mono (s.jtagged_frame ir)) (Dev.scanBoundary_frame ..)
  have ust : ((s.jtagged ir).scanBoundary data).ust = s.stamped.ust := frame.parts .ust (by decide)
  exact ⟨_, leBytes data.length (Config.free 443 s.dev.freeCtr), s.jtag_done aon he frame (by rw [ust]), rfl, leBytes_length .., rfl,
    frame.changesOnly⟩

/-- A debug access to the DPA space while memory is active. -/
def Dev.debugAccess (d : Dev) (addr : Nat) (data : Option Line) : Dev :=
  (d.masterAccess 0 addr data).2.2.emit (.jtag (leBytes 1 (d.masterAccess 0 addr data).1 ++ ((d.masterAccess 0 addr data).2.1.map lineBytes).getD []))

theorem Dev.masterAccess_nowhere {d : Dev} {dpa : Nat} (master : Nat) (data : Option Line) (h : d.locate (dpa / 64 * 64) 3 = none) :
    d.masterAccess master dpa data = (1, none,
      (d.drawFree 309).2.raise (800 + (d.drawFree 309).1 % 64) { dpa := dpa / 64 * 64 }) := by
  unfold Dev.masterAccess
  rw [h]
  rfl

/-- DBG_CHAL's effect. -/
def Dev.jtagChallenge (d : Dev) : Dev :=
  if d.flag .CRY_STATUS_LOCKED then (d.drawFree 443).2.emit (.jtag (leBytes 48 (d.drawFree 443).1))
  else d.challenge.2.emit (.jtag d.challenge.1)

/-- DBG_RESP's effect. -/
def Dev.jtagResponse (req : List Byte) (d : Dev) : Dev :=
  if d.flag .CRY_STATUS_LOCKED || decide (req.length < 196) || decide (u8 req 0 ≠ 1) then d
  else (d.unlock 3 (u8 req 1) (Sys2Proof.slice req 4 96) (Sys2Proof.slice req 100 96)).2

/-- DBG_ACCESS once debug is authorised. -/
def Dev.jtagAccess (a : DbgAcc) (d : Dev) : Dev :=
  match a with
  | .dpaRead addr => if !d.memActive then d.emit (.jtag []) else d.debugAccess addr none
  | .dpaWrite addr data => if !d.memActive then d.emit (.jtag []) else d.debugAccess addr (some data)
  | .barRead addr size => (d.readBar2 addr size).2.emit (.jtag (leBytes size (d.readBar2 addr size).1))
  | .barWrite addr size v => d.writeBar2 2 addr size v
  | .halt stop => { d with rst := { d.rst with fwHalted := stop } }

theorem exec_dbgChal (s : State) : exec .dbgChal s = s.jtag 0x20 Dev.jtagChallenge := rfl
theorem exec_dbgResp (req : List Byte) (s : State) : exec (.dbgResp req) s = s.jtag 0x21 (Dev.jtagResponse req) := rfl

theorem exec_dbgAccess (a : DbgAcc) (s : State) :
    exec (.dbgAccess a) s = s.jtag 0x22 fun d => if !d.flag .CRY_STATUS_DEBUG_AUTH then d.bypass [] else d.jtagAccess a := by
  cases a <;> rfl

theorem exec_dbgAccess_open {s : State} (auth : s.dev.flag .CRY_STATUS_DEBUG_AUTH = true) {a : DbgAcc} {e : Dev}
    (he : (s.jtagged 0x22).jtagAccess a = e) :
    (if !(s.jtagged 0x22).flag .CRY_STATUS_DEBUG_AUTH then (s.jtagged 0x22).bypass [] else (s.jtagged 0x22).jtagAccess a) = e :=
  (if_neg (by rw [show (s.jtagged 0x22).flag .CRY_STATUS_DEBUG_AUTH = true from auth]; decide)).trans he

theorem Dev.debugAccess_nowhere {d : Dev} {addr : Nat} (data : Option Line) (h : d.locate (addr / 64 * 64) 3 = none) :
    d.Puts (d.debugAccess addr data) (.jtag (leBytes 1 1)) := by
  unfold Dev.debugAccess
  rw [Dev.masterAccess_nowhere 0 data h]
  have before : d.Frame ((d.drawFree 309).2.raise (800 + (d.drawFree 309).1 % 64) { dpa := addr / 64 * 64 }) [.regs, .evt, .out, .freeCtr] evtFields :=
    .step (.mono (Dev.drawFree_frame ..)) (Dev.raise_frame ..)
  exact before.puts (Dev.puts_emit ..)

/-- What an instruction puts out is put out by its command. -/
theorem jtag_puts {s : State} (aon : s.dev.aon = true) {ir : Nat} {f : Dev → Dev} {e : Dev} {o : Output}
    (he : f (s.jtagged ir) = e) (puts : (s.jtagged ir).Puts e o) : ∃ d, s.jtag ir f = .next { s with dev := d } ∧ s.dev.Puts d o := by
  obtain ⟨d, hd, watched⟩ := State.onHealth_to (s := s) aon (f := fun x => f { x with mgt := { x.mgt with jtagIr := ir } }) he
  exact ⟨d, hd, Dev.Puts.after puts watched⟩

/-- The end of a nonce that is past its time. -/
def Dev.endNonce (d : Dev) : Dev :=
  d.when (d.mgt.nonce.isSome && !d.nonceLives) fun d => { d with mgt := { d.mgt with nonce := none } }

theorem exec_nonceExpiry (s : State) : exec .nonceExpiry s = s.on Dev.endNonce := rfl

theorem Dev.nonceLives_iff {d : Dev} {n : List Byte} {t : Nat} (nonce : d.mgt.nonce = some (n, t)) :
    d.nonceLives = decide (d.now < t + 60000000000) := by
  unfold Dev.nonceLives
  rw [nonce]

theorem Dev.endNonce_past {d : Dev} {n : List Byte} {t : Nat} (nonce : d.mgt.nonce = some (n, t)) (past : t + 60000000000 ≤ d.now) :
    d.endNonce = { d with mgt := { d.mgt with nonce := none } } := by
  unfold Dev.endNonce
  rw [Dev.nonceLives_iff nonce, decide_eq_false (Nat.not_lt.2 past), nonce]
  exact if_pos rfl

theorem Dev.endNonce_young {d : Dev} {n : List Byte} {t : Nat} (nonce : d.mgt.nonce = some (n, t)) (young : d.now < t + 60000000000) :
    d.endNonce = d := by
  unfold Dev.endNonce
  rw [Dev.nonceLives_iff nonce, decide_eq_true young, Bool.not_true, Bool.and_false]
  exact if_neg Bool.false_ne_true

/-- Settles O42. Success with UNLOCKED 0 on a failed proof is log entry 54, the code 0x13 log entry 40, the layouts of the
JTAG registers log entry 42, and that a DPA access needs Memory Active log entry 55. -/
theorem debugUnlockAndJtagTakeEffect : Obligations.DebugUnlockAndJtagTakeEffect := by
  unfold Obligations.DebugUnlockAndJtagTakeEffect
  refine ⟨fun s c a free => ?_, fun s c slot t n pub sig a free nonce => ?_, fun s c slot pub sig locked => ⟨fun a => ?_, fun a => ?_⟩,
    fun s n t aon nonce => ⟨fun late => ?_, fun early => ?_⟩, fun s data aon => ⟨?_, ?_, ?_, ?_, ?_, fun low => ?_, fun high => ?_⟩,
    fun s aon free => ?_, fun s req n t aon free long one nonce => ?_, fun s a aon shut => ?_,
    fun s stop addr size aon auth => ⟨?_, ?_⟩, fun s addr data aon auth => ⟨fun idle => ⟨?_, ?_⟩, fun act nowhere => ⟨?_, ?_⟩⟩,
    fun s w v aon auth hw hv => ?_⟩
  · have frame := s.stamped.challenge_frame
    have he := a.command 0xC0A0 (Dev.unlockPhase_free Dev.challenge free) frame
    have replied := Dev.reply_frame s.stamped.challenge.2 c 0xC0A0 rcOk s.stamped.challenge.1
    have all : s.stamped.Frame (s.stamped.challenge.2.reply c 0xC0A0 rcOk s.stamped.challenge.1) [.mgt, .out, .regs, .freeCtr]
      [.MGT_CMD_EXECUTED, .MGT_CMD_REFUSED] := .step (.mono frame) replied
    exact ⟨_, leBytes 32 (Config.free 444 s.dev.freeCtr), (exec_debugUnlockChallenge ..).trans he, leBytes_length .., replied.parts .mgt (by decide),
      Dev.reply_out .., all.changesOnly⟩
  · rw [exec_debugUnlockResponse]
    have frame := s.stamped.unlock_frame c.iface slot (fit 96 pub) (fit 96 sig)
    have he := a.command 0xC0A0 (Dev.unlockPhase_free (·.unlock c.iface slot (fit 96 pub) (fit 96 sig)) free) frame
    obtain ⟨taken, -, -, -⟩ := Dev.unlock_authorises (d := s.stamped) c.iface slot (fit 96 pub) (fit 96 sig) nonce free
    have replied := Dev.reply_frame (s.stamped.unlock c.iface slot (fit 96 pub) (fit 96 sig)).2 c 0xC0A0 rcOk
      (s.stamped.unlock c.iface slot (fit 96 pub) (fit 96 sig)).1
    have puts : s.dev.Puts _ _ := frame.puts ⟨[_], Dev.reply_out (s.stamped.unlock c.iface slot (fit 96 pub) (fit 96 sig)).2 c 0xC0A0 rcOk
      (s.stamped.unlock c.iface slot (fit 96 pub) (fit 96 sig)).1, List.mem_singleton_self _⟩
    have mgt : Dev.mgt _ = _ := replied.parts .mgt (by decide)
    have all : s.stamped.Frame _ [.mgt, .evt, .out, .regs] (evtFields.append [.CRY_STATUS_DEBUG_AUTH, .CRY_STATUS_LOCKED,
      .CRY_STATUS_LOCK_CAUSE, .MGT_CMD_EXECUTED, .MGT_CMD_REFUSED]) := .step (.mono frame) replied
    refine ⟨_, he, (congrArg MgtS.nonce mgt).trans taken, fun holds => ?_, fun bad => ?_, all.changesOnly⟩
    · obtain ⟨left, auth⟩ := Dev.unlock_opened (d := s.stamped) c.iface slot (fit 96 pub) (fit 96 sig) nonce holds
      refine ⟨(replied.reg _ 0).trans auth, (congrArg MgtS.unlockFails mgt).trans (congrArg MgtS.unlockFails left :), ?_⟩
      have answer := congrArg Prod.fst (Dev.unlock_opens (d := s.stamped) c.iface slot (fit 96 pub) (fit 96 sig) nonce holds)
      exact Eq.subst (motive := fun o => s.dev.Puts _ o) (congrArg (Output.reply c.iface 0xC0A0 rcOk) answer) puts
    · obtain ⟨left, auth, last⟩ := Dev.unlock_failed (d := s.stamped) c.iface slot (fit 96 pub) (fit 96 sig) nonce free bad
      have tries := Dev.triesLeft_of (replied.parts .cfg (by decide)) mgt
      refine ⟨(replied.reg _ 0).trans auth, (congrArg MgtS.unlockFails mgt).trans (congrArg MgtS.unlockFails left :), fun zero => ?_, ?_⟩
      · obtain ⟨locked, cause⟩ := last (tries ▸ zero)
        exact ⟨(replied.reg _ 0).trans locked, (replied.reg _ 0).trans cause⟩
      · rw [tries]
        have answer := congrArg Prod.fst (Dev.unlock_fails (d := s.stamped) c.iface slot (fit 96 pub) (fit 96 sig) nonce bad)
        exact Eq.subst (motive := fun o => s.dev.Puts _ o) (congrArg (Output.reply c.iface 0xC0A0 rcOk) answer) puts
  · exact (exec_debugUnlockChallenge ..).trans (a.answers 0xC0A0 (Dev.unlockPhase_locked _ locked))
  · exact (exec_debugUnlockResponse ..).trans (a.answers 0xC0A0 (Dev.unlockPhase_locked _ locked))
  · rw [exec_nonceExpiry, State.on_aon aon, Dev.endNonce_past (d := s.stamped) nonce late]
  · rw [exec_nonceExpiry, State.on_aon aon, Dev.endNonce_young (d := s.stamped) nonce early]
  · exact (exec_idcode s).trans (s.jtag_emit aon rfl)
  · exact (exec_bypass s data).trans (s.jtag_emit aon rfl)
  · exact (exec_clamp s data).trans (s.jtag_emit aon rfl)
  · exact (exec_highz s data).trans (s.jtag_emit aon rfl)
  · rw [exec_samplePreload]
    exact s.jtag_scan aon rfl
  · rw [exec_extest]
    exact s.jtag_scan aon (Dev.inReset_low (d := s.jtagged 0) data (·.scanBoundary data) low)
  · rw [exec_extest]
    exact s.jtag_emit aon (Dev.inReset_high (d := s.jtagged 0) data (·.scanBoundary data) high)
  · rw [exec_dbgChal]
    have shut : (s.jtagged 0x20).jtagChallenge = (s.jtagged 0x20).challenge.2.emit (.jtag (s.jtagged 0x20).challenge.1) :=
      if_neg (by rw [show (s.jtagged 0x20).flag .CRY_STATUS_LOCKED = false from free]; decide)
    have frame : s.stamped.Frame ((s.jtagged 0x20).challenge.2.emit (.jtag (s.jtagged 0x20).challenge.1)) [.mgt, .freeCtr, .out] [] :=
      .step (.step (.mono (s.jtagged_frame 0x20)) (Dev.challenge_frame ..)) (Dev.emit_frame ..)
    exact ⟨_, leBytes 32 (Config.free 444 s.dev.freeCtr), s.jtag_done aon shut frame rfl, leBytes_length .., rfl, rfl⟩
  · rw [exec_dbgResp]
    have go : (s.jtagged 0x21).jtagResponse req =
        ((s.jtagged 0x21).unlock 3 (u8 req 1) (Sys2Proof.slice req 4 96) (Sys2Proof.slice req 100 96)).2 := by
      refine if_neg ?_
      rw [show (s.jtagged 0x21).flag .CRY_STATUS_LOCKED = false from free]
      simp [one, long]
    have frame := (s.jtagged 0x21).unlock_frame 3 (u8 req 1) (Sys2Proof.slice req 4 96) (Sys2Proof.slice req 100 96)
    obtain ⟨taken, ir, pass, fail⟩ := Dev.unlock_authorises (d := s.jtagged 0x21) 3 (u8 req 1) (Sys2Proof.slice req 4 96)
      (Sys2Proof.slice req 100 96) nonce free
    have ust : Dev.ust _ = s.dev.ust := frame.parts .ust (by decide)
    refine ⟨_, s.jtag_done aon go (.step (.mono (s.jtagged_frame 0x21) (hf := List.nil_subset _) (ps := [.mgt, .regs, .evt, .out])) frame (by decide) (List.Subset.refl _))
      (by rw [ust]), taken, ir, ?_⟩
    split
    case isTrue holds => exact pass holds
    case isFalse bad => exact fail bad
  · rw [exec_dbgAccess]
    exact s.jtag_emit aon (if_pos (by rw [show (s.jtagged 0x22).flag .CRY_STATUS_DEBUG_AUTH = false from shut]; rfl))
  · rw [exec_dbgAccess]
    have frame : s.stamped.Frame { s.jtagged 0x22 with rst := { s.dev.rst with fwHalted := stop } } [.mgt, .rst] [] :=
      .update (.mono (s.jtagged_frame 0x22))
    exact s.jtag_done aon (exec_dbgAccess_open auth rfl) frame rfl
  · rw [exec_dbgAccess]
    have read := (s.jtagged 0x22).readBar2_frame addr size
    have frame : s.stamped.Frame ((s.jtagged 0x22).jtagAccess (.barRead addr size)) [.mgt, .regs, .out, .freeCtr] [.CLK_TB_HI_TB_HI] :=
      .step (.step (.mono (s.jtagged_frame 0x22)) read) (Dev.emit_frame ..)
    have out : ((s.jtagged 0x22).readBar2 addr size).2.out = s.dev.out := read.parts .out (by decide)
    have ust : ((s.jtagged 0x22).readBar2 addr size).2.ust = s.dev.ust := read.parts .ust (by decide)
    exact ⟨_, s.jtag_done aon (exec_dbgAccess_open auth rfl) frame (congrArg UstS.units ust :), congrArg (List.cons _) out, frame.changesOnly⟩
  · rw [exec_dbgAccess]
    exact s.jtag_emit aon (exec_dbgAccess_open auth (if_pos (by rw [show (s.jtagged 0x22).memActive = false from idle]; rfl)))
  · rw [exec_dbgAccess]
    exact s.jtag_emit aon (exec_dbgAccess_open auth (if_pos (by rw [show (s.jtagged 0x22).memActive = false from idle]; rfl)))
  · rw [exec_dbgAccess]
    exact jtag_puts aon (exec_dbgAccess_open auth (if_neg (by rw [show (s.jtagged 0x22).memActive = true from act]; decide)))
      (Dev.debugAccess_nowhere (d := s.jtagged 0x22) none nowhere)
  · rw [exec_dbgAccess]
    exact jtag_puts aon (exec_dbgAccess_open auth (if_neg (by rw [show (s.jtagged 0x22).memActive = true from act]; decide)))
      (Dev.debugAccess_nowhere (d := s.jtagged 0x22) (some data) nowhere)
  · rw [exec_dbgAccess]
    have written : (s.jtagged 0x22).writeBar2 2 (0x1400000 + 4 * w) 4 v = Dev.noteWrite ((s.jtagged 0x22).setReg .EVT_STATUSw_STATUS w
        ((s.jtagged 0x22).reg .EVT_STATUSw_STATUS w - ((s.jtagged 0x22).reg .EVT_STATUSw_STATUS w &&& v))) 2 (0x1400000 + 4 * w) 4 :=
      Dev.writeBar2_status _ hw hv
    have frame : s.stamped.Frame (Dev.noteWrite ((s.jtagged 0x22).setReg .EVT_STATUSw_STATUS w
        ((s.jtagged 0x22).reg .EVT_STATUSw_STATUS w - ((s.jtagged 0x22).reg .EVT_STATUSw_STATUS w &&& v))) 2 (0x1400000 + 4 * w) 4)
        [.mgt, .regs, .ust] [.EVT_STATUSw_STATUS] :=
      .step (.step (.mono (s.jtagged_frame 0x22)) (Dev.setReg_frame ..)) (Dev.noteWrite_frame ..)
    exact ⟨_, s.jtag_done aon (exec_dbgAccess_open auth written) frame rfl, Dev.reg_setReg .., frame.changesOnly⟩

end Sys2Proof.Machine
end

section
/-!
What a line of the tier and of the media is read off, and the media traffic that leaves it as it is.
-/
-- Checked one after another: side by side, each waiting for the kernel, the proofs need more threads than the memory admits.
set_option Elab.async false
namespace Sys2Proof.Machine

/-- The media but for what traffic on the dies moves: reads, commands, programs, the dies and the blocks' wear. -/
def Dev.mediaStore (d : Dev) : MediaS :=
  { d.med with
    bands := [], blocks := [], dies := [], reads := [], nextRead := 0, nextQ := 0, progs := [], denseWin := [], govWin := (0, 0), cmds := []
    nextTag := 0, links := [], pkgs := [], mapCache := [], tables := [], credit := 0 }

/-- What the value of a line depends on beside the tier and the poison marks. -/
def Dev.lineSource (d : Dev) : MediaS × (Nat → List Key) × AMap KeySlot × List (Nat × Nat) :=
  (d.mediaStore, d.keysOf, d.cry.slots, d.cry.orphans)

abbrev Dev.KeepsSource (d e : Dev) : Prop := Dev.Keeps Dev.lineSource d e

theorem Dev.KeepsSource.of {d e : Dev} {ps : List Part} {fs : List Fld} (h : d.Frame e ps fs) (hp : .med ∉ ps := by decide)
    (hc : .cry ∉ ps := by decide) : d.KeepsSource e := ⟨by
  have med : e.med = d.med := h.parts .med hp
  have cry : e.cry = d.cry := h.parts .cry hc
  have keys : e.keysOf = d.keysOf := by
    funext ki
    unfold Dev.keysOf Dev.slot
    rw [cry]
  unfold Dev.lineSource Dev.mediaStore
  rw [med, cry, keys]⟩

theorem Dev.KeepsSource.thenCausedBy {d e : Dev} {t : Option Nat} {f : Dev → Dev} (h : d.KeepsSource e)
    (k : ∀ d, Dev.KeepsSource d (f d)) : d.KeepsSource (e.causedBy t f) := ⟨(k { e with cause := t }).same.trans h.same⟩

theorem Dev.orcUse_keepsSource (d : Dev) (k : Nat) : d.KeepsSource (d.orcUse k) := by
  unfold Dev.orcUse
  split
  · exact .update (.refl d)
  · exact .refl d

theorem Dev.setRead_keepsSource (d : Dev) (n : Nat) (r : MRead) : d.KeepsSource (d.setRead n r) := by
  unfold Dev.setRead
  exact .update (.refl _)

theorem Dev.setBlock_keepsSource (d : Dev) (k : Nat) (b : Block) : d.KeepsSource (d.setBlock k b) := by
  unfold Dev.setBlock
  exact .update (.refl _)

theorem Dev.countDie_keepsSource (d : Dev) (band : Nat) (die : Nat) (n : Nat) : d.KeepsSource (d.countDie band die n) := by
  unfold Dev.countDie
  split
  · exact .refl _
  · extract_lets +onlyGivenNames k x
    exact .step (.refl _) (Dev.setBlock_keepsSource ..)

theorem Dev.setDie_keepsSource (d : Dev) (n : Nat) (x : Die) : d.KeepsSource (d.setDie n x) := by
  unfold Dev.setDie
  exact .update (.refl _)

theorem Dev.sendCmd_keepsSource (d : Dev) (op : Nat) (die : Nat) (use : CmdUse) (refs : Nat) : d.KeepsSource (d.sendCmd op die use refs) := by
  unfold Dev.sendCmd
  split
  · exact .refl _
  · extract_lets +onlyGivenNames x opid d
    refine .use d ?_ fun h => ?_
    · unfold d
      exact .step (.refl _) (Dev.setDie_keepsSource ..)
    · exact .update (h)

theorem Dev.sendRead_keepsSource (d : Dev) (die : Nat) (q : QRead) : d.KeepsSource (d.sendRead die q) := by
  unfold Dev.sendRead
  extract_lets +onlyGivenNames x d
  refine .use d ?_ fun h => ?_
  · unfold d
    exact .step (.refl _) (Dev.setDie_keepsSource ..)
  · split
    · split
      · exact .step h (Dev.sendCmd_keepsSource ..)
      · extract_lets +onlyGivenNames band before refs _ d
        refine .use d ?_ fun h => ?_
        · unfold d
          exact .ite (fun _ => h) fun _ => .update (h)
        · exact .step (.step (h) (Dev.countDie_keepsSource ..)) (Dev.sendCmd_keepsSource ..)
    · exact .step (.step (h) (Dev.countDie_keepsSource ..)) (Dev.sendCmd_keepsSource ..)
    · exact .step h (Dev.sendCmd_keepsSource ..)

theorem Dev.resumeDie_keepsSource (d : Dev) (die : Nat) : d.KeepsSource (d.resumeDie die) := by
  unfold Dev.resumeDie
  extract_lets +onlyGivenNames x
  split
  · exact .refl _
  · split
    · exact .refl _
    · exact .step (.step (.refl _) (Dev.setDie_keepsSource ..)) (Dev.sendCmd_keepsSource ..)

theorem Dev.kick_keepsSource (d : Dev) (die : Nat) : d.KeepsSource (d.kick die) := by
  unfold Dev.kick
  extract_lets +onlyGivenNames x
  refine .ite (fun _ => .refl _) fun _ => ?_
  extract_lets +onlyGivenNames ok
  split
  · exact .step (.refl _) (Dev.sendRead_keepsSource ..)
  · exact .ite (fun _ => .step (.refl _) (Dev.resumeDie_keepsSource ..)) fun _ => .refl _

theorem Dev.queueRead_keepsSource (d : Dev) (die : Nat) (use : CmdUse) (rank : Nat) (deadline : Nat) : d.KeepsSource (d.queueRead die use rank deadline) := by
  unfold Dev.queueRead
  extract_lets +onlyGivenNames x d
  refine .use d ?_ fun h => ?_
  · unfold d
    exact .step (.refl _) (Dev.setDie_keepsSource ..)
  · exact .update (h)

theorem Dev.suspendDie_keepsSource (d : Dev) (die : Nat) (thru : Bool) : d.KeepsSource (d.suspendDie die thru) := by
  unfold Dev.suspendDie
  extract_lets +onlyGivenNames x
  split
  · exact .refl _
  · refine .ite (fun _ => .refl _) fun _ => ?_
    extract_lets +onlyGivenNames d
    refine .use d ?_ fun h => ?_
    · unfold d
      exact .step (.refl _) (Dev.setDie_keepsSource ..)
    · extract_lets +onlyGivenNames d
      refine .use d ?_ fun h => ?_
      · unfold d
        exact .step h (Dev.sendCmd_keepsSource ..)
      · split
        · exact .step (.step (h) (Dev.KeepsSource.of (Dev.count_frame ..))) (Dev.KeepsSource.of (Dev.perf_frame ..))
        · exact h

theorem Dev.startAround_keepsSource (d : Dev) (n : Nat) (r : MRead) : d.KeepsSource (d.startAround n r) := by
  unfold Dev.startAround
  split
  · exact .step (.refl _) (Dev.setRead_keepsSource ..)
  · extract_lets +onlyGivenNames only ms
    refine .ite (fun _ => .step (.refl _) (Dev.setRead_keepsSource ..)) fun _ => ?_
    extract_lets +onlyGivenNames d
    refine .use d ?_ fun h => ?_
    · unfold d
      exact .step (.refl _) (Dev.setRead_keepsSource ..)
    · extract_lets +onlyGivenNames d
      refine .use d ?_ fun h => ?_
      · unfold d
        refine .thenEach (h) fun d a => ?_
        extract_lets +onlyGivenNames d
        refine .use d ?_ fun h => ?_
        · unfold d
          exact .step (.refl _) (Dev.queueRead_keepsSource ..)
        · extract_lets +onlyGivenNames d
          refine .use d ?_ fun h => ?_
          · unfold d
            exact .ite (fun _ => .step (h) (Dev.suspendDie_keepsSource ..)) fun _ => h
          · exact .step h (Dev.kick_keepsSource ..)
      · exact .step (.step (h) (Dev.KeepsSource.of (Dev.count_frame ..))) (Dev.KeepsSource.of (Dev.perf_frame ..))

theorem Dev.putRead_keepsSource (d : Dev) (die : Nat) (use : CmdUse) (rank : Nat) (deadline : Nat) : d.KeepsSource (d.putRead die use rank deadline) := by
  unfold Dev.putRead
  exact .step (.step (.refl _) (Dev.queueRead_keepsSource ..)) (Dev.kick_keepsSource ..)

theorem Dev.startRead_keepsSource (d : Dev) (n : Nat) (r : MRead) : d.KeepsSource (d.startRead n r) := by
  unfold Dev.startRead
  extract_lets +onlyGivenNames d
  refine .use d ?_ fun h => ?_
  · unfold d
    exact .step (.refl _) (Dev.setRead_keepsSource ..)
  · split
    · exact .step h (Dev.startAround_keepsSource ..)
    · exact .step (.step (.step (h) (Dev.queueRead_keepsSource ..)) (Dev.suspendDie_keepsSource ..)) (Dev.kick_keepsSource ..)
    · exact .step h (Dev.putRead_keepsSource ..)

theorem Dev.decideRead_keepsSource (d : Dev) (n : Nat) (r : MRead) : d.KeepsSource (d.decideRead n r) := by
  unfold Dev.decideRead
  split
  · exact .step (.refl _) (Dev.setRead_keepsSource ..)
  · split
    · extract_lets +onlyGivenNames susMax exhausted d
      refine .use d ?_ fun h => ?_
      · unfold d
        exact .ite (fun _ => .step (.refl _) (Dev.KeepsSource.of (Dev.count_frame ..))) fun _ => .refl _
      · exact .step h (Dev.startRead_keepsSource ..)

theorem Dev.putMedia_keepsSource (d : Dev) (r : MRead) : d.KeepsSource (d.putMedia r) := by
  unfold Dev.putMedia
  extract_lets +onlyGivenNames n _ d
  refine .use d ?_ fun h => ?_
  · unfold d
    exact .update (.refl _)
  · refine Dev.KeepsSource.thenCausedBy (h) fun d => ?_
    extract_lets +onlyGivenNames d
    refine .use d ?_ fun h => ?_
    · unfold d
      exact .step (.refl _) (Dev.KeepsSource.of (Dev.perf_frame ..))
    · exact .ite (fun _ => .step (h) (Dev.decideRead_keepsSource ..)) fun _ => .step (h) (Dev.startRead_keepsSource ..)

theorem Dev.fetch_keepsSource (d : Dev) (r : MRead) (key : Nat) (loc : Nat) (grain : Nat) (goal : Option Nat) (again : Bool) : d.KeepsSource (d.fetch r key loc grain goal again) := by
  unfold Dev.fetch
  split
  · exact .refl _
  · exact .step (.refl _) (Dev.putMedia_keepsSource ..)

theorem Dev.fetchChain_keepsSource (d : Dev) (r : MRead) (lpn : Nat) : d.KeepsSource (d.fetchChain r lpn).2 := by
  unfold Dev.fetchChain
  dsimp only
  refine .thenEach (.step (.step (.refl _) (Dev.KeepsSource.of (Dev.count_frame ..))) (Dev.orcUse_keepsSource ..)) fun d a => ?_
  split
  · exact .step (.refl _) (Dev.fetch_keepsSource ..)
  · exact .refl _

theorem Dev.issueRead_keepsSource (d : Dev) (slice : Nat) (entry : Nat) (e : Nat) (lpn : Nat) (g : Nat) (deadline : Nat) (epoch : Nat) (spec : Bool) : d.KeepsSource (d.issueRead slice entry e lpn g deadline epoch spec) := by
  unfold Dev.issueRead
  split
  · exact .refl _
  · refine .ite (fun _ => .refl _) fun _ => ?_
    extract_lets +onlyGivenNames idle late r
    split
    · rename_i x0 x1 x2 hx
      refine .of_pair hx ?_ fun h => ?_
      · split
        · exact .step (.refl _) (Dev.fetchChain_keepsSource ..)
        · dsimp only
          exact .refl _
      · exact .step h (Dev.putMedia_keepsSource ..)

theorem Dev.internalReads_keepsSource (d : Dev) (pid : Nat) (subs : List Nat) : d.KeepsSource (d.internalReads pid subs) := by
  unfold Dev.internalReads
  extract_lets +onlyGivenNames gs
  refine .ite (fun _ => ?_) fun _ => .refl _
  exact .thenEach (.refl _) fun d a => .step (.refl _) (Dev.issueRead_keepsSource ..)

theorem Dev.copyReads_keepsSource (d : Dev) (before : AMap Nat) (n : Nat) : d.KeepsSource (d.copyReads before n) := by
  unfold Dev.copyReads
  split
  · extract_lets +onlyGivenNames new
    exact .thenEach (.refl _) fun d a => .step (.refl _) (Dev.internalReads_keepsSource ..)
  · exact .refl _

theorem Dev.keysOf_congr {d e : Dev} (slots : e.cry.slots = d.cry.slots)
    (targets : ∀ n, (e.cry.sweeps.find n).map (·.j) = (d.cry.sweeps.find n).map (·.j)) : e.keysOf = d.keysOf := by
  funext ki
  have slot : ∀ n, e.slot n = d.slot n := fun n => by unfold Dev.slot; rw [slots]
  unfold Dev.keysOf
  simp only [slot]
  have target := targets (d.slot ki).sweep
  cases (d.slot ki).st
  case sweepOld =>
    cases old : d.cry.sweeps.find (d.slot ki).sweep <;> cases new : e.cry.sweeps.find (d.slot ki).sweep <;>
      rw [old, new] at target <;> simp_all
  all_goals rfl

/-- A sweep put back with its new slot unchanged leaves the keys under which a line may verify. -/
theorem Dev.putSweep_keepsSource (d : Dev) {n : Nat} {w v : Sweep} (found : d.cry.sweeps.find n = some w) (slot : v.j = w.j) :
    d.KeepsSource { d with cry := { d.cry with sweeps := d.cry.sweeps.put n v } } := ⟨by
  have keys : Dev.keysOf { d with cry := { d.cry with sweeps := d.cry.sweeps.put n v } } = d.keysOf :=
    Dev.keysOf_congr rfl fun m => by
      by_cases own : n = m
      · subst own
        show ((d.cry.sweeps.put n v).find n).map _ = _
        rw [AMap.find_put, found]
        exact congrArg some slot
      · exact congrArg (Option.map _) (AMap.find_put_ne _ _ own)
  exact congrArg (fun k => (d.mediaStore, k, d.cry.slots, d.cry.orphans)) keys⟩

theorem Dev.abandonStep_keepsSource (d : Dev) (n : Nat) : d.KeepsSource (d.abandonStep n) := by
  unfold Dev.abandonStep
  split
  · exact .refl d
  · rename_i w found
    split
    · exact .refl d
    · refine .ite (fun _ => .refl d) fun _ => ?_
      extract_lets +onlyGivenNames retry v _ x
      have counted : d.KeepsSource x := by
        unfold x
        exact .step (d.putSweep_keepsSource (v := v) found rfl) (Dev.KeepsSource.of (Dev.count_frame ..))
      exact .ite (fun _ => .step counted (Dev.KeepsSource.of (Dev.raise_frame ..))) fun _ => counted

theorem Dev.abandonSteps_keepsSource (d : Dev) (p : Sweep → Bool) : d.KeepsSource (d.abandonSteps p) := by
  unfold Dev.abandonSteps
  exact .thenEach (.refl d) fun d a => Dev.abandonStep_keepsSource d a

/-! ## What follows for the lines -/

section
variable {d e : Dev}

theorem Dev.KeepsSource.store (k : d.KeepsSource e) : e.mediaStore = d.mediaStore := congrArg Prod.fst k.same

theorem Dev.KeepsSource.segs (k : d.KeepsSource e) : e.med.segs = d.med.segs := (congrArg MediaS.segs k.store :)

theorem Dev.KeepsSource.lines (k : d.KeepsSource e) (tier : e.tier = d.tier) (poison : e.poison = d.poison) : d.SameLines e :=
  Dev.sameLines_of tier (congrArg MediaS.map k.store :) (congrArg MediaS.pages k.store :) (by rw [poison]) (by rw [poison])

theorem Dev.Holds.afterSource {pid sub : Nat} {c : Cell} (h : d.Holds pid sub c) (k : d.KeepsSource e) (tier : e.tier = d.tier)
    (poison : e.poison = d.poison) : e.Holds pid sub c := by
  obtain ⟨cell, clean, mark⟩ := h
  exact ⟨(k.lines tier poison pid sub).1.trans cell, (k.lines tier poison pid sub).2.trans clean, poison ▸ mark⟩

/-- The page that a read goes to is named by the segments and the deltas. -/
theorem Dev.readPid_of (segs : e.med.segs = d.med.segs) (shadow : e.shadow = d.shadow) (g : RegionRec) (off : Nat) :
    e.readPid g off = d.readPid g off := by
  unfold Dev.readPid Dev.shadowPid Dev.mainPid Dev.pid Dev.shadowOf
  rw [segs, shadow]

/-- The value of a line under a key that is there: it depends on the line's source, the tier, the poison and the configuration. -/
theorem Dev.lineVal_congr (k : d.KeepsSource e) (tier : e.tier = d.tier) (poison : e.poison = d.poison) (cfg : e.cfg = d.cfg)
    {pid sub ki : Nat} (key : (d.slot ki).st ≠ .empty ∧ (d.slot ki).st ≠ .sweepNew) :
    (e.lineVal pid sub ki).1 = (d.lineVal pid sub ki).1 := by
  have same : e.lineSource = d.lineSource := k.same
  have keys : e.keysOf = d.keysOf := congrArg (fun x => x.2.1) same
  have slots : e.cry.slots = d.cry.slots := congrArg (fun x => x.2.2.1) same
  have orphans : e.cry.orphans = d.cry.orphans := congrArg (fun x => x.2.2.2) same
  have map : e.med.map = d.med.map := (congrArg MediaS.map k.store :)
  have pages : e.med.pages = d.med.pages := (congrArg MediaS.pages k.store :)
  have leaves : e.med.leaves = d.med.leaves := (congrArg MediaS.leaves k.store :)
  have slot : e.slot ki = d.slot ki := by unfold Dev.slot; rw [slots]
  have line := k.lines tier poison pid sub
  have entry : e.mapEntry pid = d.mapEntry pid := by unfold Dev.mapEntry; rw [map]
  have inTier : e.inTier pid sub = d.inTier pid sub := by unfold Dev.inTier; rw [tier]
  have orphan : e.orphanOf pid = d.orphanOf pid := by unfold Dev.orphanOf; rw [orphans]
  have owner : e.pageOwner pid = d.pageOwner pid := by unfold Dev.pageOwner; rw [k.segs]
  have strict : e.strictOf pid = d.strictOf pid := by unfold Dev.strictOf Dev.region; rw [owner, cfg]
  have stale : e.staleLine pid sub = d.staleLine pid sub := by unfold Dev.staleLine; rw [inTier, entry, pages, leaves]
  have verifies : ∀ c, e.verifies c ki = d.verifies c ki := fun c => by unfold Dev.verifies; rw [keys]
  unfold Dev.lineVal
  rw [line.1, line.2, slot, orphan, strict, entry, stale, inTier, leaves]
  have there : ¬ (decide ((d.slot ki).st = .empty) || decide ((d.slot ki).st = .sweepNew)) = true := by simp [key]
  by_cases poisoned : d.poisoned pid sub = true
  case pos => rw [if_pos poisoned, if_pos poisoned]
  rw [if_neg poisoned, if_neg poisoned]
  cases d.cellAt pid sub with
  | none =>
    cases d.orphanOf pid with
    | none => rfl
    | some l =>
      dsimp only
      split <;> rfl
  | some c =>
    dsimp only
    rw [verifies, if_neg there, if_neg there]
    by_cases stale : d.staleLine pid sub = true
    case pos => rw [if_pos stale, if_pos stale]
    rw [if_neg stale, if_neg stale]
    by_cases bad : (!d.verifies c ki) = true
    case pos => rw [if_pos bad, if_pos bad]
    rw [if_neg bad, if_neg bad]
    cases (if d.inTier pid sub = true then none else d.orphanOf pid) with
    | none => rfl
    | some l =>
      dsimp only
      have counted : ∀ (x : Dev) (b : Bool), (if b = true then x.count .CRY_ERR0_SECOND_KEY else x).strictOf pid = x.strictOf pid := fun x b => by
        cases b <;> rfl
      rw [counted, counted, strict]
      split <;> rfl
end

end Sys2Proof.Machine
end

section
/-!
O44: accesses of the debug masters to the memory (R309).
-/
-- Checked one after another: side by side, each waiting for the kernel, the proofs need more threads than the memory admits.
set_option Elab.async false
namespace Sys2Proof.Machine

/-- An access that the rights refuse. -/
def Dev.maRefuse (d : Dev) (line ki heads : Nat) : Dev :=
  (d.drawFree 309).2.raise (800 + (d.drawFree 309).1 % 64) { dpa := line, a := ki, heads }

/-- What a read of a line hands the master, by the line's value. -/
def Dev.maValue (ki line n : Nat) (p : RdVal × Dev) : Nat × Option Line × Dev :=
  match p.1 with
  | .data l => (maDone, some l, p.2)
  | .macFail => (maPoison, none, p.2.macFailed line ki n)
  | _ => (maPoison, none, p.2)

theorem Dev.maValue_data {ki line n : Nat} {p : RdVal × Dev} {l : Line} (h : p.1 = .data l) :
    Dev.maValue ki line n p = (maDone, some l, p.2) := by
  unfold Dev.maValue
  rw [h]

/-- An access ends the sweep's step on its page. -/
def Dev.maBegin (d : Dev) (g : RegionRec) (off : Nat) : Dev :=
  d.abandonSteps (fun x => x.region = g.number && x.d / 4096 = sweepOff g off / 4096)

/-- A read also fetches its grain where the line lies on the media. -/
def Dev.maFetch (d : Dev) (g : RegionRec) (off : Nat) : Dev := d.internalReads (d.readPid g off) [off % 4096 / 64]

theorem Dev.maRefuse_frame (d : Dev) (line ki heads : Nat) : d.Frame (d.maRefuse line ki heads) [.regs, .evt, .out, .freeCtr] evtFields :=
  .step (.mono (Dev.drawFree_frame ..)) (Dev.raise_frame ..)

theorem Dev.maBegin_frame (d : Dev) (g : RegionRec) (off : Nat) :
    d.Frame (d.maBegin g off) [.regs, .evt, .cry, .out] (evtFields.append [.CRY_RHs_CNT_ABANDONS]) := Dev.abandonSteps_frame ..

theorem Dev.maValue_frame (ki line n : Nat) (p : RdVal × Dev) :
    p.2.Frame (Dev.maValue ki line n p).2.2 [.regs, .evt, .out] (evtFields.append [.CRY_ERR0_MAC_FAIL]) := by
  obtain ⟨v, e⟩ := p
  cases v with
  | macFail => exact Dev.macFailed_frame ..
  | data l => exact .refl e
  | stored => exact .refl e
  | offline => exact .refl e

section
variable {d : Dev} {dpa off ki m : Nat} {g : RegionRec} (at_ : d.locate (dpa / 64 * 64) 3 = some (g, off, ki))
  (main : d.window g off = .main)
include at_ main

theorem Dev.masterAccess_read_refused (rights : d.rights m ki = 0) :
    d.masterAccess m dpa none = (maRefused, none, (d.maBegin g off).maRefuse (g.base + off) ki (d.regionHeads g.number)) := by
  unfold Dev.masterAccess
  rw [at_]
  dsimp only
  rw [main]
  dsimp only [Win.queue?]
  exact if_pos rights

theorem Dev.masterAccess_read_cipher (rights : d.rights m ki = 1) :
    ∃ l, d.masterAccess m dpa none = (maCipher, some l, (((d.maBegin g off).maFetch g off).storedForm g off).2) := by
  refine ⟨(((d.maBegin g off).maFetch g off).storedForm g off).1, ?_⟩
  unfold Dev.masterAccess
  rw [at_]
  dsimp only
  rw [main]
  dsimp only [Win.queue?]
  exact (if_neg (by rw [rights]; decide)).trans (if_pos rights)

theorem Dev.masterAccess_write_refused (l : Line) (rights : d.rights m ki ≠ 3) :
    d.masterAccess m dpa (some l) = (maRefused, none, (d.maBegin g off).maRefuse (g.base + off) ki (d.regionHeads g.number)) := by
  unfold Dev.masterAccess
  rw [at_]
  dsimp only
  rw [main]
  dsimp only [Win.queue?]
  exact if_pos rights

/-- The request under which a master's access takes effect. -/
def Dev.maReq (g : RegionRec) (off ki : Nat) (kind : ReqKind) (data : Line) (now rid : Nat) : Req :=
  { rid, head := 0, tag := 0, kind, dpa := g.base + off, region := g.number, off, ki, stamp := now, deadline := now, answerAt := now
    latclass := g.latclass, data, be := BitVec.allOnes 64, poison := false }

/-- The line is read in a region in service. -/
theorem Dev.masterAccess_read (rights : 2 ≤ d.rights m ki)
    (online : ((d.maBegin g off).maFetch g off).offline g .main true = false)
    (there : ((d.maBegin g off).maFetch g off).region g.number = some g) :
    d.masterAccess m dpa none = Dev.maValue ki (g.base + off) g.number (((d.maBegin g off).maFetch g off).readLine g off ki) := by
  unfold Dev.masterAccess
  rw [at_]
  dsimp only
  rw [main]
  dsimp only [Win.queue?]
  refine (if_neg (by omega)).trans ((if_neg (by omega)).trans ?_)
  show (if ((d.maBegin g off).maFetch g off).offline g .main true then _ else _) = _
  rw [online]
  refine (if_neg Bool.false_ne_true).trans ?_
  have read : ∀ share e r, (((d.maBegin g off).maFetch g off).effect share e (Dev.maReq g off ki .read r (d.maBegin g off).now (d.maBegin g off).rid)) =
      (some (((d.maBegin g off).maFetch g off).readLine g off ki).1, .done, (((d.maBegin g off).maFetch g off).readLine g off ki).2) := fun share e r => by
    unfold Dev.effect
    rw [show ((d.maBegin g off).maFetch g off).region (Dev.maReq g off ki .read r (d.maBegin g off).now (d.maBegin g off).rid).region = some g from there]
    rfl
  exact congrArg (fun p : Option RdVal × Stored × Dev => Dev.maValue ki (g.base + off) g.number (p.1.getD .offline, p.2.2))
    (read ((d.maBegin g off).ownerOf g .main off) 8192 0)

omit at_ main in
theorem Dev.effect_write {e : Dev} (l : Line) (now rid : Nat) (there : e.region g.number = some g) (share n : Nat) :
    (e.effect share n (Dev.maReq g off ki .write l now rid)).2.2 =
      (e.writeLine g off ki l (BitVec.allOnes 64) true false).2.2.writeCached share g.number (g.base + off) ki true
        (e.writeLine g off ki l (BitVec.allOnes 64) true false).2.1 := by
  unfold Dev.effect
  rw [show e.region (Dev.maReq g off ki .write l now rid).region = some g from there]
  rfl

/-- The line stored, and taken into the slice's copies. -/
def Dev.maStore (d : Dev) (g : RegionRec) (off ki : Nat) (l : Line) : Dev :=
  (d.writeLine g off ki l (BitVec.allOnes 64) true false).2.2.writeCached (d.ownerOf g .main off) g.number (g.base + off) ki true
    (d.writeLine g off ki l (BitVec.allOnes 64) true false).2.1

/-- A line written by a master: pages that the write has copied are fetched too. -/
def Dev.maWrite (d : Dev) (g : RegionRec) (off ki : Nat) (l : Line) : Dev :=
  let e := (d.maStore g off ki l).copyReads (d.shadowOf g.number).delta g.number
  { e with rid := e.rid + 1 }

/-- The line written in a region in service. -/
theorem Dev.masterAccess_write (l : Line) (rights : d.rights m ki = 3) (online : (d.maBegin g off).offline g .main false = false)
    (there : (d.maBegin g off).region g.number = some g) :
    d.masterAccess m dpa (some l) = (maDone, none, (d.maBegin g off).maWrite g off ki l) := by
  unfold Dev.masterAccess
  rw [at_]
  dsimp only
  rw [main]
  dsimp only [Win.queue?]
  refine (if_neg (not_not_intro rights)).trans ?_
  show (if (d.maBegin g off).offline g .main false then _ else _) = _
  rw [online]
  refine (if_neg Bool.false_ne_true).trans ?_
  exact congrArg (fun e : Dev => (maDone, (none : Option Line),
      { (e.copyReads ((d.maBegin g off).shadowOf g.number).delta g.number) with
        rid := (e.copyReads ((d.maBegin g off).shadowOf g.number).delta g.number).rid + 1 }))
    (Dev.effect_write (e := d.maBegin g off) l (d.maBegin g off).now (d.maBegin g off).rid there ((d.maBegin g off).ownerOf g .main off) 8192)

end

theorem Dev.seal_data (d : Dev) (l : Line) (ki n off : Nat) : (d.seal l ki n off).1.data = l := by
  unfold Dev.seal
  split <;> rfl

theorem Dev.maStore_frame (d : Dev) (g : RegionRec) (off ki : Nat) (l : Line) :
    (d.writeLine g off ki l (BitVec.allOnes 64) true false).2.2.Frame (d.maStore g off ki l) [.regs, .evt, .pmc, .slices, .out, .freeCtr]
      (evtFields.append [.PMC_SNAPn_COUNT, .PMC_CTRn_COUNT]) := Dev.writeCached_frame ..

/-- A line written by a master is held, or lost to poison. -/
theorem Dev.maWrite_line (d : Dev) {g : RegionRec} {off : Nat} (main : d.window g off = .main) (ki : Nat) (l : Line) :
    (d.maWrite g off ki l).poisoned (d.readPid g off) (off % 4096 / 64) = true ∨
      ∃ c, (d.maWrite g off ki l).cellAt (d.readPid g off) (off % 4096 / 64) = some c ∧ c.data = l := by
  have sub : off % 4096 / 64 < 64 := by omega
  have stored := Dev.storeCell_lines (d := (d.seal l ki g.number (sweepOff g off)).2) (pid := d.readPid g off) sub (d.seal l ki g.number (sweepOff g off)).1
  rw [← Dev.writeLine_full (Dev.writePid_main main) ki l (BitVec.allOnes 64)] at stored
  have cached := d.maStore_frame g off ki l
  have copied := (d.maStore g off ki l).copyReads_frame (d.shadowOf g.number).delta g.number
  have source := (d.maStore g off ki l).copyReads_keepsSource (d.shadowOf g.number).delta g.number
  have tier : (d.maWrite g off ki l).tier = (d.maStore g off ki l).tier := copied.parts .tier (by decide)
  have poison : (d.maWrite g off ki l).poison = (d.maStore g off ki l).poison := copied.parts .poison (by decide)
  obtain ⟨-, ⟨holds, -⟩ | ⟨-, -, mark, -⟩⟩ := stored
  · obtain ⟨cell, -, -⟩ := (holds.after cached).afterSource (e := d.maWrite g off ki l) ⟨source.same⟩ tier poison
    exact .inr ⟨_, cell, Dev.seal_data ..⟩
  · refine .inl (Dev.poisoned_of_find (src := poisonInternal) ?_)
    have before : (d.maStore g off ki l).poison = _ := cached.parts .poison (by decide)
    rw [poison, before]
    exact mark

/-! ## The mailbox -/

/-- What the mailbox shows of an access. -/
def Dev.mailboxShow (p : Nat × Option Line × Dev) : Dev :=
  match p.2.1 with
  | some x => (p.2.2.setReg .DBG_MA_CTL_RESULT 0 p.1).setReg .DBG_MA_DATA_LINE 0 x.toNat
  | none => p.2.2.setReg .DBG_MA_CTL_RESULT 0 p.1

/-- The mailbox's operand. -/
def Dev.mailboxData (d : Dev) (write : Bool) : Option Line :=
  if write then some (BitVec.ofNat 512 (d.reg .DBG_MA_DATA_LINE)) else none

section
variable {d : Dev} (write : Bool)

theorem Dev.mailboxAccess_idle (h : d.flag .CRY_STATUS_DEBUG_AUTH = false ∨ d.memActive = false) :
    d.mailboxAccess write = d.setFlag .DBG_MA_CTL_WRITE 0 write := by
  have auth : (d.setFlag .DBG_MA_CTL_WRITE 0 write).flag .CRY_STATUS_DEBUG_AUTH = d.flag .CRY_STATUS_DEBUG_AUTH :=
    congrArg (· != 0) ((d.setFlag_frame .DBG_MA_CTL_WRITE 0 write).reg .CRY_STATUS_DEBUG_AUTH 0)
  refine if_pos ?_
  rw [auth]
  rw [show (d.setFlag .DBG_MA_CTL_WRITE 0 write).memActive = d.memActive from
    congrArg (· != 0) ((d.setFlag_frame .DBG_MA_CTL_WRITE 0 write).reg .GLB_STATUS_MEM_ACTIVE 0)]
  rcases h with h | h <;> simp [h]

theorem Dev.mailboxAccess_runs (auth : d.flag .CRY_STATUS_DEBUG_AUTH = true) (act : d.memActive = true) : d.mailboxAccess write =
    Dev.mailboxShow ((d.setFlag .DBG_MA_CTL_WRITE 0 write).masterAccess 3 (d.reg .DBG_MA_ADDR_DPA) (d.mailboxData write)) := by
  have set := d.setFlag_frame .DBG_MA_CTL_WRITE 0 write
  have auth' : (d.setFlag .DBG_MA_CTL_WRITE 0 write).flag .CRY_STATUS_DEBUG_AUTH = true :=
    (congrArg (· != 0) (set.reg .CRY_STATUS_DEBUG_AUTH 0)).trans auth
  unfold Dev.mailboxAccess Dev.mailboxData
  rw [← set.reg .DBG_MA_ADDR_DPA 0, ← set.reg .DBG_MA_DATA_LINE 0]
  refine (if_neg ?_).trans rfl
  rw [auth', show (d.setFlag .DBG_MA_CTL_WRITE 0 write).memActive = true from
    (congrArg (· != 0) (set.reg .GLB_STATUS_MEM_ACTIVE 0)).trans act]
  decide
end

theorem Dev.mailboxShow_frame (p : Nat × Option Line × Dev) :
    p.2.2.Frame (Dev.mailboxShow p) [.regs] [.DBG_MA_CTL_RESULT, .DBG_MA_DATA_LINE] := by
  obtain ⟨r, l, e⟩ := p
  cases l with
  | none => exact .mono (Dev.setReg_frame ..)
  | some x => exact .step (.mono (Dev.setReg_frame ..)) (Dev.setReg_frame ..)

section
variable {r : Nat} {l : Option Line} {e : Dev}

theorem Dev.mailboxShow_result (small : r < 4) : (Dev.mailboxShow (r, l, e)).reg .DBG_MA_CTL_RESULT = r := by
  have set : ∀ x : Dev, (x.setReg .DBG_MA_CTL_RESULT 0 r).reg .DBG_MA_CTL_RESULT = r := fun x =>
    (Dev.reg_setReg ..).trans (Nat.mod_eq_of_lt (Nat.lt_of_lt_of_le small (by decide)))
  cases l with
  | none => exact set e
  | some x => exact (Dev.reg_setReg_ne _ _ (.inl (by decide))).trans (set e)

theorem Dev.mailboxShow_line (x : Line) : (Dev.mailboxShow (r, some x, e)).reg .DBG_MA_DATA_LINE = x.toNat := by
  exact (Dev.reg_setReg ..).trans (BitVec.toNat_mod_cancel x)

theorem Dev.mailboxShow_kept : (Dev.mailboxShow (r, none, e)).reg .DBG_MA_DATA_LINE = e.reg .DBG_MA_DATA_LINE :=
  Dev.reg_setReg_ne _ _ (.inl (by decide))
end

/-- A main window's line is read without a look at the delta. -/
theorem Dev.readLine_main {d : Dev} {g : RegionRec} {off : Nat} (main : d.window g off = .main) (ki : Nat) :
    d.readLine g off ki = d.lineVal (d.readPid g off) (off % 4096 / 64) ki := by
  have inside : ¬ (g.rtype = .table ∧ g.size ≤ off) := fun ⟨type, beyond⟩ => by
    unfold Dev.window at main
    rw [type] at main
    simp only [if_neg (Nat.not_lt.2 beyond)] at main
    split at main <;> cases main
  refine if_neg ?_
  simp only [Bool.and_eq_true, decide_eq_true_eq]
  exact fun h => inside h.1.1

/-- Which window an offset lies in is a matter of the configuration. -/
theorem Dev.window_of {d e : Dev} (cfg : e.cfg = d.cfg) (g : RegionRec) (off : Nat) : e.window g off = d.window g off := by
  unfold Dev.window Dev.regionCount Dev.counterSet
  rw [cfg]

theorem Dev.offline_main {d e : Dev} (units : ∀ ix, e.ustate ix = d.ustate ix) (g : RegionRec) (rd : Bool) :
    e.offline g .main rd = d.offline g .main rd := by
  unfold Dev.offline
  rw [units]
  rfl

/-- A region that takes writes takes reads. -/
theorem Dev.offline_read {d : Dev} {g : RegionRec} (h : d.offline g .main false = false) : d.offline g .main true = false := by
  unfold Dev.offline at h ⊢
  dsimp only [Win.queue?] at h ⊢
  simp_all

theorem Dev.rights_of {d e : Dev} (cfg : e.cfg = d.cfg) (auth : e.reg .CRY_STATUS_DEBUG_AUTH = d.reg .CRY_STATUS_DEBUG_AUTH)
    (locked : e.reg .CRY_STATUS_LOCKED = d.reg .CRY_STATUS_LOCKED) (m ki : Nat) : e.rights m ki = d.rights m ki := by
  unfold Dev.rights Dev.flag
  rw [cfg, auth, locked]

theorem Dev.locate_of {d e : Dev} (cfg : e.cfg = d.cfg) (pin : e.pin = d.pin) (dpa heads : Nat) : e.locate dpa heads = d.locate dpa heads := by
  have set : ∀ n, e.counterSet n = d.counterSet n := fun n => by unfold Dev.counterSet; rw [cfg]
  have region : ∀ n, e.region n = d.region n := fun n => by unfold Dev.region; rw [cfg]
  unfold Dev.locate Dev.extent Dev.span Dev.regionCount Dev.regionHeads
  simp only [cfg, pin, set, region]

/-! ## The accesses of the obligation -/

/-- The device in which a mailbox access begins. -/
def State.mailbox (s : State) (write : Bool) : Dev := s.stamped.setFlag .DBG_MA_CTL_WRITE 0 write

section
variable {s : State} {g : RegionRec} {off ki : Nat} (write : Bool)

theorem State.mailbox_frame (s : State) (write : Bool) : s.stamped.Frame (s.mailbox write) [.regs] [.DBG_MA_CTL_WRITE] := Dev.setFlag_frame ..

/-- A mailbox access that runs, by what the master's access answers. -/
theorem mailbox_done (aon : s.dev.aon = true) (auth : s.dev.flag .CRY_STATUS_DEBUG_AUTH = true) (act : s.dev.memActive = true)
    {p : Nat × Option Line × Dev} (h : (s.mailbox write).masterAccess 3 (s.dev.reg .DBG_MA_ADDR_DPA) (s.stamped.mailboxData write) = p) :
    ∃ d, s.onHealth (·.mailboxAccess write) = .next { s with dev := d } ∧ (Dev.mailboxShow p).Frame d [.regs, .evt, .out] evtFields := by
  have go : s.stamped.mailboxAccess write = Dev.mailboxShow p := by
    exact (Dev.mailboxAccess_runs (d := s.stamped) write auth act).trans (congrArg Dev.mailboxShow h)
  exact State.onHealth_to aon go
/-- The line that a mailbox access names, as the access finds it. -/
theorem mailbox_at {dpa : Nat} (at_ : s.dev.locate dpa 3 = some (g, off, ki)) : (s.mailbox write).locate dpa 3 = some (g, off, ki) :=
  (Dev.locate_of (d := s.dev) rfl rfl dpa 3).trans at_

theorem mailbox_rights (m : Nat) : (s.mailbox write).rights m ki = s.dev.rights m ki :=
  Dev.rights_of (d := s.dev) (e := s.mailbox write) rfl ((s.mailbox_frame write).reg .CRY_STATUS_DEBUG_AUTH 0) ((s.mailbox_frame write).reg .CRY_STATUS_LOCKED 0) m ki

theorem mailbox_window (main : s.dev.window g off = .main) : (s.mailbox write).window g off = .main :=
  (Dev.window_of (d := s.dev) rfl g off).trans main

/-- The registers a refused access leaves, but for its result. -/
theorem mailbox_refuse_frame (s : State) (g : RegionRec) (off ki : Nat) :
    s.stamped.Frame (((s.mailbox write).maBegin g off).maRefuse (g.base + off) ki ((s.mailbox write).regionHeads g.number))
      [.cry, .evt, .out, .regs, .freeCtr] (evtFields.append [.DBG_MA_CTL_WRITE, .CRY_RHs_CNT_ABANDONS]) :=
  .step (.step (.mono (s.mailbox_frame write)) (Dev.maBegin_frame ..)) (Dev.maRefuse_frame ..)

/-- The device in which a read of the mailbox takes the line. -/
theorem mailbox_fetch_frame (s : State) (g : RegionRec) (off : Nat) :
    s.stamped.Frame (((s.mailbox write).maBegin g off).maFetch g off) [.cry, .evt, .out, .regs, .freeCtr, .pmc, .med]
      (evtFields.append [.DBG_MA_CTL_WRITE, .CRY_RHs_CNT_ABANDONS, .ORC_CACHE_HITS, .PMC_SNAPn_COUNT, .PMC_CTRn_COUNT,
        .MCX_SCHED_CNT1_SUS_EXHAUST, .MCX_SCHED_CNT0_SUSPENDS, .MCX_SCHED_CNT0_READAROUND]) :=
  .step (.step (.mono (s.mailbox_frame write)) (Dev.maBegin_frame ..)) (Dev.internalReads_frame ..)

theorem mailbox_fetch_source (s : State) (g : RegionRec) (off : Nat) :
    Dev.KeepsSource s.stamped (((s.mailbox write).maBegin g off).maFetch g off) :=
  ((Dev.KeepsSource.of (s.mailbox_frame write)).step (Dev.abandonSteps_keepsSource ..)).step (Dev.internalReads_keepsSource ..)
end

section
variable {s : State} {g : RegionRec} {off ki : Nat} (aon : s.dev.aon = true) (auth : s.dev.flag .CRY_STATUS_DEBUG_AUTH = true)
  (act : s.dev.memActive = true) (at_ : s.dev.locate (s.dev.reg .DBG_MA_ADDR_DPA / 64 * 64) 3 = some (g, off, ki))
  (region : s.dev.region g.number = some g) (main : s.dev.window g off = .main) (on : s.dev.offline g .main false = false)
include aon auth act at_ region main on

theorem mailbox_read : ∃ d, s.onHealth (·.mailboxAccess false) = .next { s with dev := d } ∧
    (s.dev.rights 3 ki = 0 → d.reg .DBG_MA_CTL_RESULT = 1 ∧ d.reg .DBG_MA_DATA_LINE = s.dev.reg .DBG_MA_DATA_LINE) ∧
    (s.dev.rights 3 ki = 1 → d.reg .DBG_MA_CTL_RESULT = 3) ∧
    (2 ≤ s.dev.rights 3 ki → ∀ l, (s.dev.lineVal (s.dev.readPid g off) (off % 4096 / 64) ki).1 = .data l →
      (s.dev.slot ki).st ≠ .empty → (s.dev.slot ki).st ≠ .sweepNew →
      d.reg .DBG_MA_CTL_RESULT = 0 ∧ d.reg .DBG_MA_DATA_LINE = l.toNat) ∧ d.tier = s.dev.tier := by
  have at' := mailbox_at false at_
  have main' := mailbox_window false main
  rcases (by omega : s.dev.rights 3 ki = 0 ∨ s.dev.rights 3 ki = 1 ∨ 2 ≤ s.dev.rights 3 ki) with r | r | r
  · have frame := mailbox_refuse_frame false s g off ki
    obtain ⟨d, hd, watched⟩ := mailbox_done false aon auth act
      (Dev.masterAccess_read_refused at' main' ((mailbox_rights false 3).trans r))
    refine ⟨d, hd, fun _ => ⟨(watched.reg _ 0).trans (Dev.mailboxShow_result (by decide)),
      (watched.reg _ 0).trans (Dev.mailboxShow_kept.trans (frame.reg _ 0))⟩, fun h => absurd h (by omega), fun h => absurd h (by omega), ?_⟩
    exact (watched.parts .tier (by decide)).trans (((Dev.mailboxShow_frame _).parts .tier (by decide)).trans (frame.parts .tier (by decide)))
  · obtain ⟨l, hl⟩ := Dev.masterAccess_read_cipher at' main' ((mailbox_rights false 3).trans r)
    obtain ⟨d, hd, watched⟩ := mailbox_done false aon auth act hl
    refine ⟨d, hd, fun h => absurd h (by omega), fun _ => (watched.reg _ 0).trans (Dev.mailboxShow_result (by decide)),
      fun h => absurd h (by omega), ?_⟩
    exact (watched.parts .tier (by decide)).trans (((Dev.mailboxShow_frame _).parts .tier (by decide)).trans
      (((Dev.storedForm_frame ..).parts .tier (by decide)).trans ((mailbox_fetch_frame false s g off).parts .tier (by decide))))
  · have frame := mailbox_fetch_frame false s g off
    have source := mailbox_fetch_source false s g off
    have cfg : _ = s.dev.cfg := frame.parts .cfg (by decide)
    have online := (Dev.offline_main (fun ix => frame.ustate ix) g true).trans (Dev.offline_read on)
    have value := Dev.masterAccess_read at' main' ((mailbox_rights false 3).symm ▸ r : 2 ≤ (s.mailbox false).rights 3 ki) online
      ((frame.region g.number).trans region)
    rw [Dev.readLine_main ((Dev.window_of cfg g off).trans main), Dev.readPid_of source.segs (frame.parts .shadow (by decide))] at value
    obtain ⟨d, hd, watched⟩ := mailbox_done false aon auth act value
    refine ⟨d, hd, fun h => absurd h (by omega), fun h => absurd h (by omega), fun _ l hl held ready => ?_, ?_⟩
    · have from_ : Dev.KeepsSource s.dev s.stamped := ⟨rfl⟩
      have same := (Dev.lineVal_congr (from_.step source) (frame.parts .tier (by decide)) (frame.parts .poison (by decide)) cfg
        (pid := s.stamped.readPid g off) (sub := off % 4096 / 64) (ki := ki) ⟨held, ready⟩).trans hl
      rw [Dev.maValue_data same] at watched
      exact ⟨(watched.reg _ 0).trans (Dev.mailboxShow_result (by decide)), (watched.reg _ 0).trans (Dev.mailboxShow_line l)⟩
    · exact (watched.parts .tier (by decide)).trans (((Dev.mailboxShow_frame _).parts .tier (by decide)).trans
        (((Dev.maValue_frame ..).parts .tier (by decide)).trans (((Dev.lineVal_frame ..).parts .tier (by decide)).trans
          (frame.parts .tier (by decide)))))

theorem mailbox_write : ∃ d, s.onHealth (·.mailboxAccess true) = .next { s with dev := d } ∧
    (s.dev.rights 3 ki ≠ 3 → d.reg .DBG_MA_CTL_RESULT = 1 ∧ s.stamped.ChangesOnly d [.cry, .evt, .out, .regs, .freeCtr]) ∧
    (s.dev.rights 3 ki = 3 → d.reg .DBG_MA_CTL_RESULT = 0 ∧
      (d.poisoned (s.dev.readPid g off) (off % 4096 / 64) = true ∨
        ∃ c, d.cellAt (s.dev.readPid g off) (off % 4096 / 64) = some c ∧ c.data = BitVec.ofNat 512 (s.dev.reg .DBG_MA_DATA_LINE))) := by
  have at' := mailbox_at true at_
  have main' := mailbox_window true main
  by_cases r : s.dev.rights 3 ki = 3
  case neg =>
    have frame := mailbox_refuse_frame true s g off ki
    obtain ⟨d, hd, watched⟩ := mailbox_done true aon auth act
      (Dev.masterAccess_write_refused at' main' _ (mt (mailbox_rights true 3).symm.trans r))
    have all : s.stamped.Frame d [.cry, .evt, .out, .regs, .freeCtr]
        (evtFields.append [.DBG_MA_CTL_WRITE, .CRY_RHs_CNT_ABANDONS, .DBG_MA_CTL_RESULT, .DBG_MA_DATA_LINE]) :=
      .step (.step (.mono frame) (Dev.mailboxShow_frame (maRefused, none, _))) watched
    exact ⟨d, hd, fun _ => ⟨(watched.reg _ 0).trans (Dev.mailboxShow_result (by decide)), all.changesOnly⟩, fun h => absurd h r⟩
  case pos =>
    have frame : s.stamped.Frame ((s.mailbox true).maBegin g off) [.regs, .evt, .cry, .out]
      (evtFields.append [.CRY_RHs_CNT_ABANDONS, .DBG_MA_CTL_WRITE]) := .step (.mono (s.mailbox_frame true)) (Dev.maBegin_frame ..)
    have cfg : _ = s.dev.cfg := frame.parts .cfg (by decide)
    have med : _ = s.dev.med := frame.parts .med (by decide)
    have online := (Dev.offline_main (fun ix => frame.ustate ix) g false).trans on
    have value := Dev.masterAccess_write at' main' (BitVec.ofNat 512 (s.dev.reg .DBG_MA_DATA_LINE)) ((mailbox_rights true 3).trans r) online
      ((frame.region g.number).trans region)
    obtain ⟨d, hd, watched⟩ := mailbox_done true aon auth act value
    have line := Dev.maWrite_line _ ((Dev.window_of cfg g off).trans main) ki (BitVec.ofNat 512 (s.dev.reg .DBG_MA_DATA_LINE))
    rw [Dev.readPid_of (congrArg MediaS.segs med :) (frame.parts .shadow (by decide))] at line
    have shown := ((Dev.Frame.lines (Dev.mailboxShow_frame _)).trans watched.lines) (s.dev.readPid g off) (off % 4096 / 64)
    refine ⟨d, hd, fun h => absurd r h, fun _ => ⟨(watched.reg _ 0).trans (Dev.mailboxShow_result (by decide)), ?_⟩⟩
    rw [shown.1, shown.2]
    exact line
end

/-- Settles O44. That GO is ignored while memory is not active is log entry 55. -/
theorem mailboxAccessesFollowTheRights : Obligations.MailboxAccessesFollowTheRights := by
  unfold Obligations.MailboxAccessesFollowTheRights
  have read : ∀ s, exec .dbgMaRead s = s.onHealth (·.mailboxAccess false) := fun s => rfl
  have write : ∀ s, exec .dbgMaWrite s = s.onHealth (·.mailboxAccess true) := fun s => rfl
  simp only [read, write]
  refine ⟨fun s aon idle => ?_, fun s aon auth act nowhere => ?_, fun s g off ki aon auth act at_ region main on =>
    ⟨mailbox_read aon auth act at_ region main on, mailbox_write aon auth act at_ region main on⟩⟩
  · have done : ∀ w, s.onHealth (·.mailboxAccess w) = .next { s with dev := s.stamped.setFlag .DBG_MA_CTL_WRITE 0 w } := fun w =>
      (State.onHealth_aon aon _).trans (congrArg (fun d : Dev => (.next { s with dev := d } : Out))
        ((s.mailbox_frame w).watchHealth (Dev.mailboxAccess_idle (d := s.stamped) w idle)))
    exact ⟨done false, done true⟩
  · have done : ∀ w, ∃ d, s.onHealth (·.mailboxAccess w) = .next { s with dev := d } ∧ d.reg .DBG_MA_CTL_RESULT = 1 := fun w => by
      obtain ⟨d, hd, watched⟩ := mailbox_done w aon auth act (Dev.masterAccess_nowhere 3 (s.stamped.mailboxData w)
        ((Dev.locate_of (d := s.dev) (e := s.mailbox w) rfl rfl _ 3).trans nowhere))
      exact ⟨d, hd, (watched.reg _ 0).trans (Dev.mailboxShow_result (by decide))⟩
    exact ⟨done false, done true⟩

end Sys2Proof.Machine
end

section
/-!
O47: the training of M-links (R345).
-/
-- Checked one after another: side by side, each waiting for the kernel, the proofs need more threads than the memory admits.
set_option Elab.async false
namespace Sys2Proof.Machine

/-! ## The links, when a package or a stack goes -/

theorem Dev.remirrorState_keepsPackages (d : Dev) (on : Bool) : d.KeepsPackages (d.remirrorState on) := by
  unfold Dev.remirrorState
  extract_lets +onlyGivenNames owed
  exact .step (.update (.refl _)) (Dev.KeepsPackages.of (Dev.setFlag_frame ..))

theorem Dev.losePage_keepsPackages (d : Dev) (lpn : Nat) (source : Nat) : d.KeepsPackages (d.losePage lpn source) := by
  unfold Dev.losePage
  extract_lets +onlyGivenNames dpa heads d
  refine .use d ?_ fun h => ?_
  · unfold d
    exact .update (.refl _)
  · extract_lets +onlyGivenNames d
    refine .use d ?_ fun h => ?_
    · unfold d
      exact .step (.step (h) (Dev.setMap_keepsPackages ..)) (Dev.KeepsPackages.of (Dev.notePoison_frame ..))
    · extract_lets +onlyGivenNames d
      refine .use d ?_ fun h => ?_
      · unfold d
        exact .step h (Dev.KeepsPackages.of (Dev.dropCached_frame ..))
      · exact .step h (Dev.KeepsPackages.of (Dev.raise_frame ..))

theorem Dev.stackGone_keepsPackages (d : Dev) (k : Nat) : d.KeepsPackages (d.stackGone k) := by
  unfold Dev.stackGone
  extract_lets +onlyGivenNames again d
  refine .use d ?_ fun h => ?_
  · unfold d
    refine .thenEach (.refl _) fun d a => ?_
    extract_lets +onlyGivenNames rest
    refine .ite (fun _ => .refl _) fun _ => ?_
    refine .ite (fun _ => .update (.refl _)) fun _ => ?_
    refine .ite (fun _ => .step (.update (.refl _)) (Dev.KeepsPackages.of (Dev.setPage_frame ..))) fun _ => ?_
    refine .ite (fun _ => ?_) fun _ => .step (.refl _) (Dev.losePage_keepsPackages ..)
    split
    · rename_i x0 x1 x2 hx
      refine .of_pair hx (.step (.refl _) (Dev.KeepsPackages.of (Dev.pickStacks_frame ..))) fun h => ?_
      extract_lets +onlyGivenNames lines
      exact .step h (Dev.KeepsPackages.of (Dev.setPage_frame ..))
  · extract_lets +onlyGivenNames d
    refine .use d ?_ fun h => ?_
    · unfold d
      exact .ite (fun _ => .step (h) (Dev.KeepsPackages.of (Dev.doubleFault_frame ..))) fun _ => h
    · extract_lets +onlyGivenNames d
      refine .use d ?_ fun h => ?_
      · unfold d
        refine .ite (fun _ => ?_) fun _ => h
        exact .thenEach (h) fun d a => .step (.refl _) (Dev.KeepsPackages.of (Dev.loseVolatile_frame ..))
      · refine .step ?_ (Dev.KeepsPackages.of (Dev.judgePdeg_frame ..))
        exact .step (.step (h) (Dev.remirrorState_keepsPackages ..)) (Dev.KeepsPackages.of (Dev.stackLostQueues_frame ..))

theorem Dev.checkNoTier_keepsPackages (d : Dev) : d.KeepsPackages d.checkNoTier := by
  unfold Dev.checkNoTier
  refine .ite (fun _ => ?_) fun _ => ?_
  · refine .ite (fun _ => .refl _) fun _ => ?_
    extract_lets +onlyGivenNames d
    refine .use d ?_ fun h => ?_
    · unfold d
      exact .step (.step (.refl _) (Dev.KeepsPackages.of (Dev.setFlag_frame ..))) (Dev.KeepsPackages.of (Dev.setFlag_frame ..))
    · exact .update (h)
  · refine .ite (fun _ => ?_) fun _ => .refl _
    exact .step (.step (.refl _) (Dev.KeepsPackages.of (Dev.setFlag_frame ..))) (Dev.KeepsPackages.of (Dev.setFlag_frame ..))

theorem Dev.stackFail_keepsPackages (d : Dev) (k : Nat) (cause : Nat) : d.KeepsPackages (d.stackFail k cause) := by
  unfold Dev.stackFail
  extract_lets +onlyGivenNames again d
  refine .use d ?_ fun h => ?_
  · unfold d
    exact .step (.refl _) (Dev.KeepsPackages.of (Dev.setUnit_frame ..))
  · extract_lets +onlyGivenNames d
    refine .use d ?_ fun h => ?_
    · unfold d
      exact .step h (Dev.KeepsPackages.of (Dev.raise_frame ..))
    · extract_lets +onlyGivenNames d
      refine .use d ?_ fun h => ?_
      · unfold d
        exact .ite (fun _ => .step (h) (Dev.KeepsPackages.of (Dev.doubleFault_frame ..))) fun _ => h
      · extract_lets +onlyGivenNames d
        refine .use d ?_ fun h => ?_
        · unfold d
          exact .step h (Dev.stackGone_keepsPackages ..)
        · refine .ite (fun _ => ?_) fun _ => h
          exact .step (.step (h) (Dev.checkNoTier_keepsPackages ..)) (Dev.KeepsPackages.of (Dev.startRegions_frame ..))

/-- A package that goes, or the unit that its index names, leaves the links. -/
theorem Dev.failUnit_package_keepsPackages (d : Dev) (p cause : Nat) : d.KeepsPackages (d.failUnit (packageIx p) cause) := by
  unfold Dev.failUnit
  extract_lets old x
  have gone : d.KeepsPackages x := by
    unfold x
    refine .ite (fun _ => .refl d) fun _ => ?_
    have above := unitClass_packageIx_gt p
    split
    · next h => rw [h] at above; exact absurd above (by decide)
    · next h => rw [h] at above; exact absurd above (by decide)
    · next h => rw [h] at above; exact absurd above (by decide)
    · next h => rw [h] at above; exact absurd above (by decide)
    · exact Dev.packageFail_keepsPackages ..
    · exact Dev.stackFail_keepsPackages ..
    · exact .step (Dev.KeepsPackages.of (Dev.setUnit_frame ..)) (Dev.KeepsPackages.of (Dev.freeGroup_frame ..))
    · exact Dev.KeepsPackages.of (Dev.setUnit_frame ..)
  exact .ite (fun _ => gone.step (Dev.KeepsPackages.of (Dev.overBudget_frame ..))) fun _ => gone

theorem Dev.portsLost_keepsPackages (d : Dev) (m : Nat) : d.KeepsPackages (d.portsLost m) := by
  unfold Dev.portsLost
  split
  · exact .refl d
  · refine .ite (fun _ => ?_) fun _ => .refl d
    refine .ite (fun _ => ?_) fun _ => Dev.failUnit_package_keepsPackages ..
    exact .step (Dev.KeepsPackages.of (Dev.setUnit_frame ..)) (Dev.KeepsPackages.of (Dev.raise_frame ..))

/-! ## The link's own unit -/

section
variable (d : Dev)

theorem Dev.stackFail_keepsBut {k : Nat} (cause : Nat) (hk : unitClass (stackIx k) ∈ [4, 5, 6, 7]) :
    Dev.KeepsUnitsBut [4, 5, 6, 7] d (d.stackFail k cause) := by
  unfold Dev.stackFail
  extract_lets again x y z w
  have set : Dev.KeepsUnitsBut [4, 5, 6, 7] d x := d.setUnit_keepsBut _ _ _ _ hk
  have raised : Dev.KeepsUnitsBut [4, 5, 6, 7] d y := set.step (Dev.KeepsUnits.of (Dev.raise_frame ..) |>.but _)
  have doubled : Dev.KeepsUnitsBut [4, 5, 6, 7] d z := .ite (fun _ => raised.step ((y.doubleFault_keepsUnits ..).but _)) fun _ => raised
  have gone : Dev.KeepsUnitsBut [4, 5, 6, 7] d w := doubled.step ((z.stackGone_keepsUnits k).but _)
  exact .ite (fun _ => (gone.step w.checkNoTier_frame.keepsBut).step w.checkNoTier.startRegions_keepsBut.mono) fun _ => gone

theorem Dev.failUnit_package_keepsBut (p cause : Nat) : Dev.KeepsUnitsBut [4, 5, 6, 7] d (d.failUnit (packageIx p) cause) := by
  have above := unitClass_packageIx_gt p
  unfold Dev.failUnit
  extract_lets old x
  have gone : Dev.KeepsUnitsBut [4, 5, 6, 7] d x := by
    unfold x
    refine .ite (fun _ => .refl d) fun _ => ?_
    split
    · next h => rw [h] at above; exact absurd above (by decide)
    · next h => rw [h] at above; exact absurd above (by decide)
    · next h => rw [h] at above; exact absurd above (by decide)
    · next h => rw [h] at above; exact absurd above (by decide)
    · exact d.packageFail_keepsBut ..
    · next h => exact d.stackFail_keepsBut cause (by rw [(stackIx_of_class h).1]; exact above)
    · exact (d.setUnit_keepsBut _ _ _ _ above).step (Dev.freeGroup_frame ..).keepsBut
    · exact d.setUnit_keepsBut _ _ _ _ above
  exact .ite (fun _ => gone.step ((x.overBudget_keepsUnits ..).but _)) fun _ => gone

theorem Dev.portsLost_keepsBut (m : Nat) : Dev.KeepsUnitsBut [4, 5, 6, 7] d (d.portsLost m) := by
  unfold Dev.portsLost
  split
  · exact .refl d
  · refine .ite (fun _ => ?_) fun _ => .refl d
    refine .ite (fun _ => ?_) fun _ => d.failUnit_package_keepsBut ..
    exact (d.setUnit_keepsBut _ _ _ _ (unitClass_packageIx_gt _)).step (Dev.raise_frame ..).keepsBut

/-- A link that leaves training FAILED (R345). -/
theorem Dev.failUnit_link_train {m cause : Nat} (hm : m < 128) (off : (d.link m).train = 0) :
    ((d.failUnit (linkIx m) cause).link m).train = 0 := by
  unfold Dev.failUnit
  extract_lets old x
  have gone : (x.link m).train = 0 := by
    unfold x
    split
    · exact off
    rw [unitClass_linkIx hm]
    have own : linkIx m - 26 = m := by unfold linkIx; omega
    show ((d.linkFail (linkIx m - 26) cause).link m).train = 0
    rw [own]
    unfold Dev.linkFail
    rw [(Dev.linkGone_keepsPackages ..).link m, (Dev.KeepsPackages.of (Dev.setUnit_frame ..)).link m]
    exact congrArg LinkS.train (AMap.findD_put ..)
  split
  · rw [(Dev.KeepsPackages.of (Dev.overBudget_frame ..)).link m]
    exact gone
  · exact gone

theorem Dev.trainFail_spec {m : Nat} (hm : m < 128) (cause train : Nat) :
    (d.trainFail m cause train).ustate (linkIx m) = .failed ∧ ((d.trainFail m cause train).link m).train = 0 := by
  unfold Dev.trainFail
  extract_lets _ x
  have off : ((x.linkEvent m train).link m).train = 0 := by
    rw [(Dev.KeepsPackages.of (Dev.linkEvent_frame ..)).link m]
    exact congrArg LinkS.train (AMap.findD_put ..)
  have failed := (x.linkEvent m train).failUnit_failed (linkIx m) cause
  have idle : ((x.linkEvent m train).failUnit (linkIx m) cause).serves (linkIx m) = false := by rw [Dev.serves, failed]; rfl
  refine ⟨?_, ?_⟩
  · rw [Dev.ustate, (Dev.portsLost_keepsBut _ m).unit idle (by rw [unitClass_linkIx hm]; decide)]
    exact failed
  · rw [(Dev.portsLost_keepsPackages ..).link m]
    exact Dev.failUnit_link_train _ hm off

end

/-! ## The health -/

/-- What the health event watches (R191, R198). -/
def Dev.healthView (d : Dev) : Nat × Nat × Nat × Nat := (d.healthStatus, d.lifeUsed, d.spareLevel, d.tempState)

theorem Dev.watchHealth_of {d e : Dev} {f : Dev → Dev} (hf : f d = e) (same : e.healthView = d.healthView) : d.watchHealth f = e := by
  subst hf
  exact if_pos same

theorem Dev.setLink_healthView (d : Dev) (m : Nat) (x : LinkS) : (d.setLink m x).healthView = d.healthView := rfl

theorem Dev.Frame.healthView {d e : Dev} {ps : List Part} {fs : List Fld} (k : d.Frame e ps fs)
    (hp : ∀ p ∈ .boot :: .ust :: healthParts, p ∉ ps := by decide) (hr : ∀ f ∈ healthFields, f ∉ fs := by decide) :
    e.healthView = d.healthView := by
  have boot : e.boot = d.boot := k.parts .boot (hp .boot (by decide))
  have ust : e.ust = d.ust := k.parts .ust (hp .ust (by decide))
  have cfg : e.cfg = d.cfg := k.parts .cfg (hp .cfg (by decide))
  have med : e.med = d.med := k.parts .med (hp .med (by decide))
  have regs : ∀ f ∈ healthFields, ∀ i, e.reg f i = d.reg f i := fun f h i => k.reg f i (hr f h) (hp .cfg (by decide))
  unfold Dev.healthView
  rw [Dev.healthStatus_congr k.now cfg med (by rw [ust]) (by rw [boot]) regs, Dev.lifeUsed_congr cfg med (by rw [boot]),
    Dev.spareLevel_congr cfg med (by rw [boot]), Dev.tempState_congr (by rw [boot]) regs]

/-! ## The commands -/

section
variable (m : Nat) (s : State)

theorem exec_detectTimeout : exec (.detectTimeout m) s = s.onHealth fun d =>
    d.when (decide (m < 128) && (d.link m).train = 1 && decide ((d.link m).since + 1000000 ≤ d.now)) (·.nextMode m) := rfl

theorem exec_trainBlockReceived (port ptype pol : Nat) (rev : Bool) : exec (.trainBlockReceived m port ptype rev pol) s = s.onHealth fun d =>
    d.when (decide (m < 128) && (d.link m).train = 2) fun d =>
      if (d.linkPkg m).map (·.2) = some port && ptype = (d.cfg.map (·.wiring.pkgType)).getD 0 then
        ((d.setFlag .MCX_LINKi_STAT_REVERSED m rev).setReg .MCX_LINKi_STAT_POLARITY m pol).setLink m
          { d.link m with train := if (d.link m).rec_ then 4 else 3 }
      else d.trainFail m 8 2 := rfl

/-- A passed check (R345). -/
def Dev.linkActive (d : Dev) (m : Nat) : Dev :=
  let e := d.setLink m { d.link m with train := 6, rec_ := false, activeAt := d.now }
  if (d.unit (linkIx m)).state = .resetting then
    { e with ust := { e.ust with recovered := satAdd 24 e.ust.recovered 1 } }.enterService (linkIx m) 3
  else e.enterService (linkIx m) (d.unit (linkIx m)).cause

theorem exec_checkPass : exec (.checkPass m) s = s.onHealth fun d =>
    if (decide (m < 128) && (d.link m).train = 5 && (!(d.link m).rec_ || decide (d.now < (d.link m).since + 50000))) = true
    then d.linkActive m else d := rfl

theorem exec_blockLockLost : exec (.blockLockLost m) s = s.onHealth fun d =>
    d.when (decide (m < 128) && (d.link m).train = 6) (·.enterRecovery m) := rfl

theorem exec_recoveryTimeout : exec (.recoveryTimeout m) s = s.onHealth fun d =>
    d.when (decide (m < 128) && (d.link m).rec_ && decide ((d.link m).since + 50000 ≤ d.now)) (·.fullTraining m 5) := rfl

theorem exec_blockLockAcquired : exec (.blockLockAcquired m) s = s.on fun d =>
    d.when (decide (m < 128) && ((d.link m).train = 1 || (d.link m).train = 7)) (·.setLink m { d.link m with train := 2 }) := rfl

theorem exec_eqComplete : exec (.eqComplete m) s = s.on fun d =>
    d.when (decide (m < 128) && (d.link m).train = 3) (·.setLink m { d.link m with train := 4 }) := rfl

theorem exec_deskewComplete : exec (.deskewComplete m) s = s.on fun d =>
    d.when (decide (m < 128) && (d.link m).train = 4) (·.setLink m { d.link m with train := 5 }) := rfl
end

/-- A command that watches the health, by what holds after it and any health event. -/
theorem State.onHealth_then {s : State} (aon : s.dev.aon = true) {f : Dev → Dev} {x : Dev} {P : Dev → Prop} (h : f s.stamped = x)
    (k : ∀ e, x.Frame e [.regs, .evt, .out] evtFields → P e) : ∃ d, s.onHealth f = .next { s with dev := d } ∧ P d := by
  obtain ⟨e, he, watched⟩ := State.onHealth_to aon h
  exact ⟨e, he, k e watched⟩

theorem Dev.when_of {d : Dev} {c : Bool} (h : c = true) (f : Dev → Dev) : d.when c f = f d := if_pos h

section
variable (d : Dev) {m : Nat}

theorem linkIx_sub (m : Nat) : linkIx m - 26 = m := by unfold linkIx; omega

theorem Dev.moveUnit_unit_ne {ix iy : Nat} (other : ix ≠ iy) (st : UState) (cause : Nat) (hw : Bool) :
    (d.moveUnit ix st cause hw).unit iy = d.unit iy := by
  unfold Dev.moveUnit
  split
  · rfl
  · exact d.setUnit_unit_ne other ..

/-- The health of what stands above a link leaves the link's unit. -/
theorem Dev.complexHealth_unit_link (hm : m < 128) (n : Nat) (hn : n < 8) : (d.complexHealth n).unit (linkIx m) = d.unit (linkIx m) := by
  have other : complexIx n ≠ linkIx m := by unfold complexIx linkIx; omega
  unfold Dev.complexHealth
  split
  · rfl
  split
  · exact d.moveUnit_unit_ne other ..
  · exact d.moveUnit_unit_ne other ..

theorem Dev.packageHealth_unit_link (hm : m < 128) (p : Nat) : (d.packageHealth p).unit (linkIx m) = d.unit (linkIx m) := by
  have other : packageIx p ≠ linkIx m := by unfold packageIx linkIx; omega
  unfold Dev.packageHealth
  split
  · rfl
  split
  · exact d.moveUnit_unit_ne other ..
  · exact d.moveUnit_unit_ne other ..

/-- The count of recoveries stands while units change their states. -/
theorem Dev.setUnit_recovered (ix : Nat) (st : UState) (cause : Nat) (hw : Bool) :
    (d.setUnit ix st cause hw).ust.recovered = d.ust.recovered := by
  unfold Dev.setUnit
  dsimp only
  split
  · rfl
  · have raised : ∀ (x : Dev) (src : Nat) (i : EvInfo), (x.raise src i).ust = x.ust := fun x src i => (x.raise_frame src i).parts .ust (by decide)
    rw [raised]
    rfl

theorem Dev.moveUnit_recovered (ix : Nat) (st : UState) (cause : Nat) (hw : Bool) :
    (d.moveUnit ix st cause hw).ust.recovered = d.ust.recovered := by
  unfold Dev.moveUnit
  split
  · rfl
  · exact d.setUnit_recovered ..

theorem Dev.complexHealth_recovered (n : Nat) : (d.complexHealth n).ust.recovered = d.ust.recovered := by
  unfold Dev.complexHealth
  split
  · rfl
  split
  · exact d.moveUnit_recovered ..
  · exact d.moveUnit_recovered ..

theorem Dev.packageHealth_recovered (p : Nat) : (d.packageHealth p).ust.recovered = d.ust.recovered := by
  unfold Dev.packageHealth
  split
  · rfl
  split
  · exact d.moveUnit_recovered ..
  · exact d.moveUnit_recovered ..

/-- What stands above a link is judged again. -/
def Dev.aboveLink (d : Dev) (m : Nat) : Dev :=
  let d := d.complexHealth (m / 16)
  match d.linkPkg m with
  | some (p, _) => d.packageHealth p
  | none => d

theorem Dev.enterService_link_eq (hm : m < 128) (cause : Nat) :
    d.enterService (linkIx m) cause = (d.setUnit (linkIx m) (d.serviceState (linkIx m)) cause).aboveLink m := by
  have class_ := unitClass_linkIx hm
  unfold Dev.enterService Dev.aboveLink
  rw [if_neg (by rw [class_]; decide), class_]
  dsimp only
  rw [linkIx_sub] <;> rfl

theorem Dev.aboveLink_keeps (hm : m < 128) : (d.aboveLink m).unit (linkIx m) = d.unit (linkIx m) ∧ (d.aboveLink m).link m = d.link m ∧
    (d.aboveLink m).ust.recovered = d.ust.recovered := by
  unfold Dev.aboveLink
  extract_lets x
  have unit : x.unit (linkIx m) = d.unit (linkIx m) := d.complexHealth_unit_link hm _ (by omega)
  have link : x.link m = d.link m := (Dev.KeepsPackages.of (Dev.complexHealth_frame ..)).link m
  have count : x.ust.recovered = d.ust.recovered := d.complexHealth_recovered _
  split
  · exact ⟨(x.packageHealth_unit_link hm _).trans unit, ((Dev.KeepsPackages.of (Dev.packageHealth_frame ..)).link m).trans link,
      (x.packageHealth_recovered _).trans count⟩
  · exact ⟨unit, link, count⟩

/-- A link's unit in service is ONLINE in mode 0 and DEGRADED otherwise. -/
theorem Dev.serviceState_link (hm : m < 128) : d.serviceState (linkIx m) = (if (d.link m).mode = 0 then .online else .degraded) := by
  unfold Dev.serviceState
  rw [unitClass_linkIx hm]
  dsimp only
  rw [linkIx_sub]
  by_cases h : (d.link m).mode = 0 <;> simp [h]

/-- A link that enters service (R345). -/
theorem Dev.enterService_link (hm : m < 128) (cause : Nat) :
    (d.enterService (linkIx m) cause).ustate (linkIx m) = (if (d.link m).mode = 0 then .online else .degraded) ∧
    (d.enterService (linkIx m) cause).link m = d.link m ∧ (d.enterService (linkIx m) cause).ust.recovered = d.ust.recovered := by
  rw [d.enterService_link_eq hm]
  obtain ⟨unit, link, count⟩ := (d.setUnit (linkIx m) (d.serviceState (linkIx m)) cause).aboveLink_keeps hm
  refine ⟨?_, link.trans ((Dev.KeepsPackages.of (Dev.setUnit_frame ..)).link m), count.trans (d.setUnit_recovered ..)⟩
  exact (congrArg UnitRec.state unit).trans ((d.setUnit_ustate ..).trans (d.serviceState_link hm))

/-- A link whose check has passed. -/
def Dev.passed (d : Dev) (m : Nat) : Dev := d.setLink m { d.link m with train := 6, rec_ := false, activeAt := d.now }

def Dev.countRecovered (d : Dev) : Dev := { d with ust := { d.ust with recovered := satAdd 24 d.ust.recovered 1 } }

theorem Dev.linkActive_eq (m : Nat) : d.linkActive m = if d.ustate (linkIx m) = .resetting
    then (d.passed m).countRecovered.enterService (linkIx m) 3 else (d.passed m).enterService (linkIx m) (d.unit (linkIx m)).cause := rfl

theorem Dev.passed_link (m : Nat) : (d.passed m).link m = { d.link m with train := 6, rec_ := false, activeAt := d.now } := AMap.findD_put ..

theorem Dev.linkActive_spec (hm : m < 128) : (d.linkActive m).link m = { d.link m with train := 6, rec_ := false, activeAt := d.now } ∧
    (d.linkActive m).ustate (linkIx m) = (if (d.link m).mode = 0 then .online else .degraded) ∧
    (d.ustate (linkIx m) = .resetting → (d.linkActive m).ust.recovered = satAdd 24 d.ust.recovered 1) := by
  have mode : ∀ l : LinkS, l = { d.link m with train := 6, rec_ := false, activeAt := d.now } →
      (if l.mode = 0 then UState.online else .degraded) = (if (d.link m).mode = 0 then .online else .degraded) := fun l h => by rw [h]
  rw [Dev.linkActive_eq]
  split
  case isTrue _ =>
    have same : (d.passed m).countRecovered.link m = (d.passed m).link m := rfl
    obtain ⟨state, link, count⟩ := (d.passed m).countRecovered.enterService_link hm 3
    exact ⟨link.trans (same.trans (d.passed_link m)), state.trans (mode _ (same.trans (d.passed_link m))), fun _ => count⟩
  case isFalse h =>
    obtain ⟨state, link, -⟩ := (d.passed m).enterService_link hm (d.unit (linkIx m)).cause
    exact ⟨link.trans (d.passed_link m), state.trans (mode _ (d.passed_link m)), fun r => absurd r h⟩

/-- A link that leaves ACTIVE is counted and noted. -/
def Dev.noteRetrain (d : Dev) (m : Nat) : Dev :=
  let d := d.count .MCX_LINKi_ERR_RETRAINS m
  (d.setLink m { d.link m with train := 7, rec_ := true, since := d.now }).linkEvent m 7

/-- Its unit resets, and what used the link goes elsewhere. -/
def Dev.resetLink (d : Dev) (m : Nat) : Dev :=
  let d := d.setUnit (linkIx m) .resetting 5
  (d.setUnitRec (linkIx m) { d.unit (linkIx m) with recovery := true }).linkGone m

theorem Dev.enterRecovery_eq (m : Nat) : d.enterRecovery m =
    if (d.noteRetrain m).ustate (linkIx m) ∈ [UState.failed, .retired, .absent, .off] then d.noteRetrain m else (d.noteRetrain m).resetLink m := rfl

theorem Dev.noteRetrain_spec (m : Nat) : (d.noteRetrain m).link m = { d.link m with train := 7, rec_ := true, since := d.now } ∧
    d.Counted (d.noteRetrain m) .MCX_LINKi_ERR_RETRAINS m 1 ∧ (d.noteRetrain m).ustate (linkIx m) = d.ustate (linkIx m) := by
  unfold Dev.noteRetrain
  extract_lets x
  have counted : d.Frame x [.regs] [.MCX_LINKi_ERR_RETRAINS] := d.count_frame ..
  have set := x.setLink_frame m { x.link m with train := 7, rec_ := true, since := x.now }
  have noted := (x.setLink m { x.link m with train := 7, rec_ := true, since := x.now }).linkEvent_frame m 7
  have one : d.Counted x .MCX_LINKi_ERR_RETRAINS m 1 := (Dev.Frame.refl (ps := []) (fs := []) d).counted (Dev.Frame.refl x (ps := []) (fs := []))
  refine ⟨((Dev.KeepsPackages.of noted).link m).trans (AMap.findD_put ..), (noted.reg _ m).trans ((set.reg _ m).trans one), ?_⟩
  exact (noted.ustate _).trans ((set.ustate _).trans (counted.ustate _))

theorem Dev.resetLink_spec (hm : m < 128) : (d.resetLink m).link m = d.link m ∧
    (d.resetLink m).reg .MCX_LINKi_ERR_RETRAINS m = d.reg .MCX_LINKi_ERR_RETRAINS m ∧ (d.resetLink m).ustate (linkIx m) = .resetting ∧
    ((d.resetLink m).unit (linkIx m)).cause = 5 ∧ ((d.resetLink m).unit (linkIx m)).recovery = true := by
  unfold Dev.resetLink
  extract_lets x
  obtain ⟨reset, why, -⟩ := d.setUnit_record (linkIx m) .resetting 5 true
  have set : d.Frame x [.ust, .jrn, .regs, .evt, .out] evtFields := d.setUnit_frame ..
  have marked : (x.setUnitRec (linkIx m) { x.unit (linkIx m) with recovery := true }).unit (linkIx m) =
    { x.unit (linkIx m) with recovery := true } := Dev.setUnitRec_unit ..
  have rec_ := x.setUnitRec_frame (linkIx m) { x.unit (linkIx m) with recovery := true }
  have idle : (x.setUnitRec (linkIx m) { x.unit (linkIx m) with recovery := true }).serves (linkIx m) = false := by
    rw [Dev.serves, Dev.ustate, marked]
    exact congrArg UState.serves reset
  have gone := (Dev.linkGone_keepsBut _ m).unit idle (by rw [unitClass_linkIx hm]; decide)
  refine ⟨?_, ?_, ?_⟩
  · exact ((Dev.linkGone_keepsPackages _ m).link m).trans (((Dev.KeepsPackages.of rec_).link m).trans ((Dev.KeepsPackages.of set).link m))
  · exact ((Dev.linkGone_frame _ m).reg _ m).trans ((rec_.reg _ m).trans (set.reg _ m))
  · rw [Dev.ustate, gone, marked]
    exact ⟨reset, why, rfl⟩

theorem Dev.enterRecovery_spec (hm : m < 128) : (d.enterRecovery m).link m = { d.link m with train := 7, rec_ := true, since := d.now } ∧
    d.Counted (d.enterRecovery m) .MCX_LINKi_ERR_RETRAINS m 1 ∧ (d.serves (linkIx m) = true →
      (d.enterRecovery m).ustate (linkIx m) = .resetting ∧ ((d.enterRecovery m).unit (linkIx m)).cause = 5 ∧
        ((d.enterRecovery m).unit (linkIx m)).recovery = true) := by
  obtain ⟨link, count, state⟩ := d.noteRetrain_spec m
  rw [Dev.enterRecovery_eq]
  split
  case isTrue out =>
    refine ⟨link, count, fun serves => ?_⟩
    rw [state] at out
    have never : ∀ u : UState, u.serves = true → u ∉ [UState.failed, .retired, .absent, .off] := fun u => by cases u <;> decide
    exact absurd out (never _ serves)
  case isFalse _ =>
    obtain ⟨link', count', unit⟩ := (d.noteRetrain m).resetLink_spec hm
    exact ⟨link'.trans link, count'.trans count, fun _ => unit⟩
end

section
variable {m : Nat} {s : State} (aon : s.dev.aon = true) (hm : m < 128)
include aon hm

theorem detectTimeout_done (train : (s.dev.link m).train = 1) (late : (s.dev.link m).since + 1000000 ≤ s.tb) :
    ((s.dev.link m).mode < 5 → exec (.detectTimeout m) s = .next { s with
      dev := s.stamped.setLink m { s.dev.link m with mode := (s.dev.link m).mode + 1, since := s.tb, rec_ := false } }) ∧
    (5 ≤ (s.dev.link m).mode → ∃ d, exec (.detectTimeout m) s = .next { s with dev := d } ∧ d.ustate (linkIx m) = .failed ∧
      (d.link m).train = 0) := by
  have goes : (decide (m < 128) && (s.stamped.link m).train = 1 && decide ((s.stamped.link m).since + 1000000 ≤ s.stamped.now)) = true := by
    rw [show (s.stamped.link m).train = 1 from train, decide_eq_true hm, decide_eq_true (show (s.stamped.link m).since + 1000000 ≤ s.stamped.now from late)]
    rfl
  rw [exec_detectTimeout]
  refine ⟨fun few => ?_, fun last => ?_⟩
  · have next : s.stamped.nextMode m =
        s.stamped.setLink m { s.dev.link m with mode := (s.dev.link m).mode + 1, since := s.tb, rec_ := false } := by
      refine (if_neg (Nat.not_le.2 few)).trans ?_
      rw [← train]
      rfl
    rw [State.onHealth_aon aon]
    exact congrArg (fun d : Dev => (.next { s with dev := d } : Out)) (Dev.watchHealth_of ((Dev.when_of goes _).trans next) (Dev.setLink_healthView ..))
  · have next : s.stamped.nextMode m = s.stamped.trainFail m 8 1 := if_pos last
    obtain ⟨failed, off⟩ := s.stamped.trainFail_spec hm 8 1
    refine State.onHealth_then aon ((Dev.when_of goes _).trans next) fun d watched => ?_
    exact ⟨(watched.ustate _).trans failed, (congrArg LinkS.train ((Dev.KeepsPackages.of watched).link m)).trans off⟩

theorem checkPass_done (train : (s.dev.link m).train = 5) (young : (s.dev.link m).rec_ = false ∨ s.tb < (s.dev.link m).since + 50000) :
    ∃ d, exec (.checkPass m) s = .next { s with dev := d } ∧
      d.link m = { s.dev.link m with train := 6, rec_ := false, activeAt := s.tb } ∧
      d.ustate (linkIx m) = (if (s.dev.link m).mode = 0 then .online else .degraded) ∧
      (s.dev.ustate (linkIx m) = .resetting → d.ust.recovered = satAdd 24 s.dev.ust.recovered 1) := by
  have goes : (decide (m < 128) && (s.stamped.link m).train = 5 &&
      (!(s.stamped.link m).rec_ || decide (s.stamped.now < (s.stamped.link m).since + 50000))) = true := by
    rw [show (s.stamped.link m).train = 5 from train, decide_eq_true hm]
    rcases young with h | h
    · rw [show (s.stamped.link m).rec_ = false from h]
      rfl
    · rw [decide_eq_true (show s.stamped.now < (s.stamped.link m).since + 50000 from h), Bool.or_true]
      rfl
  obtain ⟨link, state, count⟩ := s.stamped.linkActive_spec hm
  rw [exec_checkPass]
  refine State.onHealth_then aon (if_pos goes) fun d watched => ?_
  have ust : d.ust = _ := watched.parts .ust (by decide)
  refine ⟨((Dev.KeepsPackages.of watched).link m).trans link, (watched.ustate _).trans state, fun h => ?_⟩
  rw [ust]
  exact count h

theorem blockLockLost_done (train : (s.dev.link m).train = 6) :
    ∃ d, exec (.blockLockLost m) s = .next { s with dev := d } ∧
      d.link m = { s.dev.link m with train := 7, rec_ := true, since := s.tb } ∧ s.dev.Counted d .MCX_LINKi_ERR_RETRAINS m 1 ∧
      (s.dev.serves (linkIx m) = true → d.ustate (linkIx m) = .resetting ∧ (d.unit (linkIx m)).cause = 5 ∧
        (d.unit (linkIx m)).recovery = true) := by
  have goes : (decide (m < 128) && (s.stamped.link m).train = 6) = true := by
    rw [show (s.stamped.link m).train = 6 from train, decide_eq_true hm]
    rfl
  obtain ⟨link, count, unit⟩ := s.stamped.enterRecovery_spec hm
  rw [exec_blockLockLost]
  refine State.onHealth_then aon (Dev.when_of goes _) fun d watched => ?_
  refine ⟨((Dev.KeepsPackages.of watched).link m).trans link, (watched.reg _ m).trans count, fun serves => ?_⟩
  rw [watched.ustate, watched.unit]
  exact unit serves
end

/-- The full trainings of the last second (R345). -/
def LinkS.recent (x : LinkS) (now : Nat) : List Nat := x.fulls.filter (fun t => decide (now < t + 1000000000))

/-- A link that begins a full training. -/
def Dev.inDetect (d : Dev) (m : Nat) : Dev :=
  d.setLink m { d.link m with train := 1, mode := 0, since := d.now, rec_ := false, fulls := (d.link m).recent d.now ++ [d.now] }

theorem Dev.fullTraining_eq (d : Dev) (m cause : Nat) : d.fullTraining m cause =
    if 3 ≤ ((d.link m).recent d.now ++ [d.now]).length
    then (d.setLink m { d.link m with fulls := (d.link m).recent d.now ++ [d.now] }).trainFail m 4 1
    else if (d.inDetect m).ustate (linkIx m) = .starting then d.inDetect m else (d.inDetect m).setUnit (linkIx m) .starting cause := rfl

theorem Dev.fullTraining_starts {d : Dev} {m : Nat} (cause : Nat) (few : ((d.link m).recent d.now).length < 2) :
    (d.fullTraining m cause).link m = (d.inDetect m).link m ∧ (d.fullTraining m cause).ustate (linkIx m) = .starting := by
  rw [Dev.fullTraining_eq, if_neg (by rw [List.length_append]; exact Nat.not_le.2 (Nat.add_lt_add_right few 1))]
  split
  case isTrue h => exact ⟨rfl, h⟩
  case isFalse _ => exact ⟨(Dev.KeepsPackages.of (Dev.setUnit_frame ..)).link m, Dev.setUnit_ustate ..⟩

theorem Dev.fullTraining_fails {d : Dev} {m : Nat} (cause : Nat) (hm : m < 128) (many : 2 ≤ ((d.link m).recent d.now).length) :
    (d.fullTraining m cause).ustate (linkIx m) = .failed ∧ ((d.fullTraining m cause).link m).train = 0 := by
  rw [Dev.fullTraining_eq, if_pos (by rw [List.length_append]; exact Nat.add_le_add_right many 1)]
  exact Dev.trainFail_spec _ hm 4 1

section
variable {m : Nat} {s : State} (aon : s.dev.aon = true) (hm : m < 128)
include aon hm

theorem recoveryTimeout_done (inRec : (s.dev.link m).rec_ = true) (late : (s.dev.link m).since + 50000 ≤ s.tb) :
    ∃ d, exec (.recoveryTimeout m) s = .next { s with dev := d } ∧
      (((s.dev.link m).fulls.filter (fun t => decide (s.tb < t + 1000000000))).length < 2 →
        (d.link m).train = 1 ∧ (d.link m).mode = 0 ∧ (d.link m).since = s.tb ∧ (d.link m).rec_ = false ∧
        d.ustate (linkIx m) = .starting) ∧
      (2 ≤ ((s.dev.link m).fulls.filter (fun t => decide (s.tb < t + 1000000000))).length →
        (d.link m).train = 0 ∧ d.ustate (linkIx m) = .failed) := by
  have goes : (decide (m < 128) && (s.stamped.link m).rec_ && decide ((s.stamped.link m).since + 50000 ≤ s.stamped.now)) = true := by
    rw [show (s.stamped.link m).rec_ = true from inRec, decide_eq_true hm,
      decide_eq_true (show (s.stamped.link m).since + 50000 ≤ s.stamped.now from late)]
    rfl
  rw [exec_recoveryTimeout]
  refine State.onHealth_then aon (Dev.when_of goes _) fun d watched => ⟨fun few => ?_, fun many => ?_⟩
  · obtain ⟨link, state⟩ := Dev.fullTraining_starts (d := s.stamped) 5 few
    have same : d.link m = { s.dev.link m with train := 1, mode := 0, since := s.tb, rec_ := false, fulls := (s.dev.link m).recent s.tb ++ [s.tb] } :=
      ((Dev.KeepsPackages.of watched).link m).trans (link.trans (AMap.findD_put ..))
    rw [same]
    exact ⟨rfl, rfl, rfl, rfl, (watched.ustate _).trans state⟩
  · obtain ⟨failed, off⟩ := Dev.fullTraining_fails (d := s.stamped) 5 hm many
    exact ⟨(congrArg LinkS.train ((Dev.KeepsPackages.of watched).link m)).trans off, (watched.ustate _).trans failed⟩

theorem trainBlock_done {p port ptype pol : Nat} {rev : Bool} {c : Cfg} (train : (s.dev.link m).train = 2) (cfg : s.dev.cfg = some c)
    (wired : s.dev.linkPkg m = some (p, port)) :
    (ptype = c.wiring.pkgType → ∃ d, exec (.trainBlockReceived m port ptype rev pol) s = .next { s with dev := d } ∧
      d.link m = { s.dev.link m with train := if (s.dev.link m).rec_ then 4 else 3 } ∧
      d.flag .MCX_LINKi_STAT_REVERSED m = rev ∧ d.reg .MCX_LINKi_STAT_POLARITY m = pol % 4 ∧
      s.dev.FieldsOnly d [.MCX_LINKi_STAT_REVERSED, .MCX_LINKi_STAT_POLARITY] ∧ s.stamped.ChangesOnly d [.med, .regs]) ∧
    (∀ q, (q ≠ port ∨ ptype ≠ c.wiring.pkgType) → ∃ d, exec (.trainBlockReceived m q ptype rev pol) s = .next { s with dev := d } ∧
      d.ustate (linkIx m) = .failed ∧ (d.link m).train = 0) := by
  have goes : (decide (m < 128) && (s.stamped.link m).train = 2) = true := by
    rw [show (s.stamped.link m).train = 2 from train, decide_eq_true hm]
    rfl
  have want : (s.stamped.cfg.map (·.wiring.pkgType)).getD 0 = c.wiring.pkgType := by
    rw [show s.stamped.cfg = some c from cfg]
    rfl
  have wired' : s.stamped.linkPkg m = some (p, port) := wired
  refine ⟨fun type => ?_, fun q other => ?_⟩
  · rw [exec_trainBlockReceived, State.onHealth_aon aon]
    have fits : ((s.stamped.linkPkg m).map (·.2) = some port && ptype = (s.stamped.cfg.map (·.wiring.pkgType)).getD 0) = true := by
      rw [want, wired', type]
      simp
    have regs : s.stamped.Frame ((s.stamped.setFlag .MCX_LINKi_STAT_REVERSED m rev).setReg .MCX_LINKi_STAT_POLARITY m pol) [.regs]
      [.MCX_LINKi_STAT_REVERSED, .MCX_LINKi_STAT_POLARITY] := .step (.mono (Dev.setFlag_frame ..)) (Dev.setReg_frame ..)
    have set := Dev.setLink_frame ((s.stamped.setFlag .MCX_LINKi_STAT_REVERSED m rev).setReg .MCX_LINKi_STAT_POLARITY m pol) m
      { s.dev.link m with train := if (s.dev.link m).rec_ then 4 else 3 }
    have all : s.stamped.Frame _ [.med, .regs] [.MCX_LINKi_STAT_REVERSED, .MCX_LINKi_STAT_POLARITY] := .step (.mono regs) set
    refine ⟨_, congrArg (fun d : Dev => (.next { s with dev := d } : Out)) (Dev.watchHealth_of ((Dev.when_of goes _).trans (if_pos fits)) ?_),
      AMap.findD_put .., ?_, ?_, fun f i h => all.reg f i h, all.changesOnly⟩
    · exact regs.healthView
    · have shown : Dev.reg _ .MCX_LINKi_STAT_REVERSED m = _ := (set.reg _ m).trans ((Dev.reg_setReg_ne _ _ (.inl (by decide))).trans (Dev.reg_setReg ..))
      exact (congrArg (· != 0) shown).trans (by cases rev <;> rfl)
    · exact (set.reg _ m).trans (Dev.reg_setReg ..)
  · have unfit : ¬ ((s.stamped.linkPkg m).map (·.2) = some q && ptype = (s.stamped.cfg.map (·.wiring.pkgType)).getD 0) = true := by
      rw [want, wired']
      rcases other with h | h
      · simp [Ne.symm h]
      · simp [h]
    obtain ⟨failed, off⟩ := s.stamped.trainFail_spec hm 8 2
    rw [exec_trainBlockReceived]
    refine State.onHealth_then aon ((Dev.when_of goes _).trans (if_neg unfit)) fun d watched => ?_
    exact ⟨(watched.ustate _).trans failed, (congrArg LinkS.train ((Dev.KeepsPackages.of watched).link m)).trans off⟩
end

/-- Settles O47. -/
theorem linkTrainingFollowsItsStates : Obligations.LinkTrainingFollowsItsStates := by
  unfold Obligations.LinkTrainingFollowsItsStates
  refine ⟨fun s m aon hm train late => detectTimeout_done aon hm train late, fun s m aon hm => ⟨fun train => ?_, fun train => ?_, fun train => ?_⟩,
    fun s m p port ptype pol rev c aon hm train cfg wired => trainBlock_done aon hm train cfg wired,
    fun s m aon hm train young => checkPass_done aon hm train young, fun s m aon hm train => blockLockLost_done aon hm train,
    fun s m aon hm inRec late => recoveryTimeout_done aon hm inRec late⟩
  · rw [exec_blockLockAcquired, State.on_aon aon]
    refine congrArg (fun d : Dev => (.next { s with dev := d } : Out)) (Dev.when_of ?_ _)
    rw [decide_eq_true hm]
    rcases train with h | h <;> rw [show (s.stamped.link m).train = _ from h] <;> rfl
  · rw [exec_eqComplete, State.on_aon aon]
    refine congrArg (fun d : Dev => (.next { s with dev := d } : Out)) (Dev.when_of ?_ _)
    rw [decide_eq_true hm, show (s.stamped.link m).train = _ from train]
    rfl
  · rw [exec_deskewComplete, State.on_aon aon]
    refine congrArg (fun d : Dev => (.next { s with dev := d } : Out)) (Dev.when_of ?_ _)
    rw [decide_eq_true hm, show (s.stamped.link m).train = _ from train]
    rfl

end Sys2Proof.Machine
end

section
/-!
O49: the sideband of the packages (R352 to R354).
-/
-- Checked one after another: side by side, each waiting for the kernel, the proofs need more threads than the memory admits.
set_option Elab.async false
namespace Sys2Proof.Machine

section
variable (d : Dev)

/-- What the health reads off a package's record. -/
def PkgS.healthPart (x : PkgS) : Bool × Bool × Option Nat × Nat := (x.denseClosed, x.rebuilt, x.temp, x.doseAt)

theorem PkgS.healthPart_missed (x : PkgS) (n : Nat) : ({ x with missed := n } : PkgS).healthPart = x.healthPart := rfl

/-- A package's record rewritten with what the health reads unchanged. -/
theorem Dev.setPkg_healthView {p : Nat} {x : PkgS} (same : x.healthPart = (d.pkg p).healthPart) : (d.setPkg p x).healthView = d.healthView := by
  have parts : ∀ q, ((d.setPkg p x).pkg q).healthPart = (d.pkg q).healthPart := fun q => by
    by_cases own : p = q
    · subst own
      exact (congrArg PkgS.healthPart (AMap.findD_put ..)).trans same
    · exact congrArg PkgS.healthPart (AMap.findD_put_ne _ _ _ own)
  have dense : ∀ q, ((d.setPkg p x).pkg q).denseClosed = (d.pkg q).denseClosed := fun q => congrArg (·.1) (parts q)
  have built : ∀ q, ((d.setPkg p x).pkg q).rebuilt = (d.pkg q).rebuilt := fun q => congrArg (·.2.1) (parts q)
  have temp : ∀ q, ((d.setPkg p x).pkg q).temp = (d.pkg q).temp := fun q => congrArg (·.2.2.1) (parts q)
  have doseAt : ∀ q, ((d.setPkg p x).pkg q).doseAt = (d.pkg q).doseAt := fun q => congrArg (·.2.2.2) (parts q)
  have dose : ∀ q, (d.setPkg p x).pkgDose q = d.pkgDose q := fun q => by
    unfold Dev.pkgDose Dev.doseNow
    rw [temp, doseAt]
    rfl
  have overdue : ∀ b, (d.setPkg p x).bandOverdue b = d.bandOverdue b := fun b => by
    simp only [Dev.bandOverdue, Dev.bandDose, dose]
    rfl
  have maintenance : (d.setPkg p x).maintenance = d.maintenance := by
    simp only [Dev.maintenance, Dev.anyOverdue, overdue]
    rfl
  have perf : (d.setPkg p x).perfDegraded = d.perfDegraded := by
    simp only [Dev.perfDegraded, dense, built]
    rfl
  have replacement : (d.setPkg p x).replacement = d.replacement := by
    simp only [Dev.replacement, built]
    rfl
  have status : (d.setPkg p x).healthStatus = d.healthStatus := by
    unfold Dev.healthStatus
    rw [maintenance, perf, replacement]
  unfold Dev.healthView
  rw [status]
  rfl

/-! ## Occurrences of other events -/

/-- An occurrence leaves the counts of the other sources. -/
theorem Dev.raise_count_ne (src : Nat) (i : EvInfo) {j : Nat} (other : src ≠ j) :
    (d.raise src i).reg .EVT_CFGn_COUNT j = d.reg .EVT_CFGn_COUNT j := by
  have counted : (d.count .EVT_CFGn_COUNT src).reg .EVT_CFGn_COUNT j = d.reg .EVT_CFGn_COUNT j := Dev.reg_setReg_ne _ _ (.inr other)
  unfold Dev.raise
  dsimp only
  split
  · exact counted
  · rw [Dev.placeRecord_reg _ _ _ _ (by decide) (by decide)]
    have status : ∀ v, (({ d.count .EVT_CFGn_COUNT src with evt := v } : Dev).setFieldBit .EVT_STATUSw_STATUS
        (src / 32) (src % 32) true).reg .EVT_CFGn_COUNT j = (d.count .EVT_CFGn_COUNT src).reg .EVT_CFGn_COUNT j :=
      fun v => (Dev.reg_setReg_ne _ _ (.inl (by decide))).trans (Dev.reg_congr rfl rfl _ _)
    split
    · rw [(Dev.msixHeads_evOnly _ _ _).reg_of_regs (Dev.msixHeads_regs _ _ _)]
      exact (status _).trans counted
    · exact (status _).trans counted

/-- A unit's change of state is an occurrence of its own class's event alone. -/
theorem Dev.setUnit_count_ne (ix : Nat) (st : UState) (cause : Nat) (hw : Bool) {j : Nat} (other : 928 + 4 * unitClass ix ≠ j) :
    (d.setUnit ix st cause hw).reg .EVT_CFGn_COUNT j = d.reg .EVT_CFGn_COUNT j := by
  unfold Dev.setUnit
  dsimp only
  split
  · exact Dev.reg_congr rfl rfl _ _
  · exact (Dev.raise_count_ne _ _ _ other).trans (Dev.reg_congr rfl rfl _ _)

theorem Dev.watchHealth_count_ne (f : Dev → Dev) {j : Nat} (other : 40 ≠ j) :
    (d.watchHealth f).reg .EVT_CFGn_COUNT j = (f d).reg .EVT_CFGn_COUNT j := by
  unfold Dev.watchHealth
  dsimp only
  split
  · rfl
  · exact Dev.raise_count_ne _ _ _ other
end

/-- A command that watches the health, by what holds after it and any health event, which counts for its own source alone. -/
theorem State.onHealth_counts {s : State} (aon : s.dev.aon = true) {f : Dev → Dev} {x : Dev} {P : Dev → Prop} (h : f s.stamped = x)
    (k : ∀ e, x.Frame e [.regs, .evt, .out] evtFields → (∀ j, 40 ≠ j → e.reg .EVT_CFGn_COUNT j = x.reg .EVT_CFGn_COUNT j) → P e) :
    ∃ d, s.onHealth f = .next { s with dev := d } ∧ P d := by
  refine ⟨_, State.onHealth_aon aon f, k _ (h ▸ (s.stamped.watchHealth_evOnly f).frame) fun j other => ?_⟩
  rw [← h]
  exact s.stamped.watchHealth_count_ne f other

/-- A command that watches the health and leaves what it watches. -/
theorem State.onHealth_same {s : State} (aon : s.dev.aon = true) {f : Dev → Dev} {x : Dev} (h : f s.stamped = x)
    (same : x.healthView = s.stamped.healthView) : s.onHealth f = .next { s with dev := x } := by
  rw [State.onHealth_aon aon, Dev.watchHealth_of h same]

/-! ## The effects -/

/-- A poll that the bus brings through (R353, R354). -/
def Dev.pollAnswer (d : Dev) (p : Nat) (ack : Bool) (ptype dies serial : Nat) (caps : PkgCaps) : Dev :=
  if ack then
    if !(d.pkg p).present && (d.ustate (packageIx p) = .absent || d.ustate (packageIx p) = .off) then
      d.identify p ptype dies serial caps.susp caps.refs
    else d.setPkg p { d.pkg p with missed := 0 }
  else d.silent p

def Dev.poll (d : Dev) (p : Nat) (ack : Bool) (crc ptype dies serial : Nat) (caps : PkgCaps) : Dev :=
  let d := d.count .MCX_SB_STAT_CRC (p / d.groupSize) (min crc 4)
  if decide (4 ≤ crc) then d else d.pollAnswer p ack ptype dies serial caps

theorem exec_sidebandPoll (p : Nat) (ack : Bool) (crc ptype dies serial : Nat) (caps : PkgCaps) (s : State) :
    exec (.sidebandPoll p ack crc ptype dies serial caps) s = s.onHealth fun d =>
      d.when (decide (p < (d.cfg.map (·.wiring.pkgCount)).getD 0) && decide (8 ≤ d.step)) (·.poll p ack crc ptype dies serial caps) := by
  show execSidebandPoll p ack crc ptype dies serial caps s = _
  unfold execSidebandPoll Dev.poll Dev.pollAnswer
  rfl

theorem exec_sidebandAlert (p a : Nat) (s : State) : exec (.sidebandAlert p a) s = s.on fun d =>
    if (decide (p < 64) && (d.pkg p).present && decide (0 < a) &&
      (d.regInForce .MCX_SB_CTL_ALERT_EN (p / d.groupSize)).testBit (p % d.groupSize)) = true
    then d.raise (388 + 16 * (p / d.groupSize)) { unitId := unitIdOf (packageIx p), a := p } else d := rfl

/-- The ports of a package with power enabled. -/
def Dev.powerPorts (d : Dev) (p : Nat) : Dev :=
  let mask := d.portMask p
  let d := d.setPkg p { d.pkg p with pwrGood := true, portEn := mask }
  d.each ((d.pkgLinks p).filter (fun y => mask.testBit y.1)) (fun d y => d.enableLink y.2 (d.unit (packageIx p)).cause)

theorem exec_pwrGood (p : Nat) (s : State) : exec (.pwrGood p) s = s.onHealth fun d =>
    if (decide (p < 64) && d.ustate (packageIx p) = .starting && (d.pkg p).present && !(d.pkg p).pwrGood) = true then d.powerPorts p else d := rfl

section
variable {d : Dev} {p : Nat}

theorem Dev.setPkg_pkg (d : Dev) (p : Nat) (x : PkgS) : (d.setPkg p x).pkg p = x := AMap.findD_put ..

theorem Dev.Frame.pkg {e : Dev} {ps : List Part} {fs : List Fld} (h : d.Frame e ps fs) (hp : .med ∉ ps := by decide) (q : Nat) :
    e.pkg q = d.pkg q := congrArg (fun m : MediaS => m.pkgs.findD q {}) (h.parts .med hp)

/-- A package that answers and is not known yet, once its record is made. -/
def Dev.found (d : Dev) (p ptype dies serial susp : Nat) : Dev :=
  let fresh := d.ustate (packageIx p) = .absent
  let d := d.setFieldBit .MCX_SB_STAT_PRESENT (p / d.groupSize) (p % d.groupSize) true
  let d := d.setPkg p { d.pkg p with present := true, serial := serial, ptype := ptype, dies := dies, caps := susp
                                     pwrGood := false, portEn := 0, missed := 0, replacing := (d.pkg p).replacing || fresh }
  if fresh then d.setUnit (packageIx p) .off 0 else d

theorem Dev.identify_eq (ptype dies serial susp : Nat) (refs : List Nat) : d.identify p ptype dies serial susp refs =
    if ptype = (d.found p ptype dies serial susp).wantType p && dies = (d.found p ptype dies serial susp).diesPerPkg then
      ((d.found p ptype dies serial susp).setPkg p { (d.found p ptype dies serial susp).pkg p with refTable := refs.take 480 }).setUnit
        (packageIx p) .starting 0
    else (d.found p ptype dies serial susp).raise (387 + 16 * (p / d.groupSize))
      { unitId := unitIdOf (packageIx p), state := 1, gen := ((d.found p ptype dies serial susp).unit (packageIx p)).gen, a := p } := by
  unfold Dev.identify Dev.found
  rfl

theorem Dev.found_spec (hp : p < 64) (ptype dies serial susp : Nat) (off : d.ustate (packageIx p) = .absent ∨ d.ustate (packageIx p) = .off) :
    ((d.found p ptype dies serial susp).pkg p).present = true ∧ ((d.found p ptype dies serial susp).pkg p).serial = serial ∧
    ((d.found p ptype dies serial susp).pkg p).ptype = ptype ∧ ((d.found p ptype dies serial susp).pkg p).caps = susp ∧
    (d.found p ptype dies serial susp).ustate (packageIx p) = .off ∧ (d.found p ptype dies serial susp).cfg = d.cfg ∧
    (∀ j, 944 ≠ j → (d.found p ptype dies serial susp).reg .EVT_CFGn_COUNT j = d.reg .EVT_CFGn_COUNT j) := by
  unfold Dev.found
  extract_lets +onlyGivenNames fresh marked _old put
  have same : put.unit (packageIx p) = d.unit (packageIx p) :=
    ((marked.setPkg_frame p _).unit _).trans ((d.setFieldBit_frame _ _ _ _).unit _)
  have record : (put.pkg p).present = true ∧ (put.pkg p).serial = serial ∧ (put.pkg p).ptype = ptype ∧ (put.pkg p).caps = susp := by
    rw [show put.pkg p = _ from Dev.setPkg_pkg ..]
    exact ⟨rfl, rfl, rfl, rfl⟩
  have counts : ∀ j, put.reg .EVT_CFGn_COUNT j = d.reg .EVT_CFGn_COUNT j := fun j =>
    ((marked.setPkg_frame p _).reg .EVT_CFGn_COUNT j (by decide)).trans ((d.setFieldBit_frame _ _ _ _).reg .EVT_CFGn_COUNT j (by decide))
  have class4 : unitClass (packageIx p) = 4 := unitClass_packageIx hp
  obtain ⟨present, ser, typ, cap⟩ := record
  by_cases absent : d.ustate (packageIx p) = .absent
  · rw [if_pos absent]
    rw [(put.setUnit_frame ..).pkg]
    refine ⟨present, ser, typ, cap, Dev.setUnit_ustate .., Dev.setUnit_cfg .., fun j other => ?_⟩
    rw [put.setUnit_count_ne _ _ _ _ (by rw [class4]; exact other)]
    exact counts j
  · rw [if_neg absent]
    exact ⟨present, ser, typ, cap, (congrArg UnitRec.state same).trans (off.resolve_left absent), rfl, fun j _ => counts j⟩
end

/-! ## A package that does not answer -/

section
variable (d : Dev) (p : Nat)

/-- A poll without an answer, once its NAKs are counted (R354). -/
def Dev.unanswered : Dev :=
  let x := d.pkg p
  match d.ustate (packageIx p) with
  | .absent | .failed => d
  | .retired =>
    if x.missed + 1 < 3 then d.setPkg p { x with missed := x.missed + 1 }
    else
      let d := (d.setPkg p { doseAt := x.doseAt, temp := x.temp }).setFieldBit .MCX_SB_STAT_PRESENT (p / d.groupSize) (p % d.groupSize) false
      d.setUnit (packageIx p) .absent 0
  | .off => (d.setPkg p { x with present := false }).setFieldBit .MCX_SB_STAT_PRESENT (p / d.groupSize) (p % d.groupSize) false
  | _ =>
    if !x.present then d
    else if (d.pkgLinks p).any (fun y => (d.link y.2).train = 6) then
      (d.setPkg p { x with denseClosed := true }).packageHealth p
    else d.unitLoss (packageIx p)

theorem Dev.silent_eq : d.silent p = (d.count .MCX_SB_STAT_NAK (p / d.groupSize) 4).unanswered p := rfl

theorem Dev.unanswered_frame : d.Frame (d.unanswered p) serviceParts (serviceFields.append [.MCX_SB_STAT_PRESENT]) := by
  unfold Dev.unanswered
  extract_lets +onlyGivenNames x
  split
  case h_1 | h_2 => exact .refl d
  case h_3 =>
    refine .ite (fun _ => .step (.refl d) (Dev.setPkg_frame ..)) fun _ => ?_
    exact .step (.step (.step (.refl d) (Dev.setPkg_frame ..)) (Dev.setFieldBit_frame ..)) (Dev.setUnit_frame ..)
  case h_4 => exact .step (.step (.refl d) (Dev.setPkg_frame ..)) (Dev.setFieldBit_frame ..)
  case h_5 =>
    refine .ite (fun _ => .refl d) fun _ => .ite (fun _ => ?_) fun _ => .served (.refl d) (Dev.unitLoss_frame ..)
    exact .step (.step (.refl d) (Dev.setPkg_frame ..)) (Dev.packageHealth_frame ..)

variable {d p}

/-- A RETIRED package that has missed fewer than three polls. -/
theorem Dev.unanswered_few (retired : d.ustate (packageIx p) = .retired) (few : (d.pkg p).missed + 1 < 3) :
    d.unanswered p = d.setPkg p { d.pkg p with missed := (d.pkg p).missed + 1 } := by
  unfold Dev.unanswered
  rw [retired]
  exact if_pos few

/-- A RETIRED package that misses its third poll is gone. -/
theorem Dev.unanswered_gone (retired : d.ustate (packageIx p) = .retired) (many : 2 ≤ (d.pkg p).missed) :
    (d.unanswered p).ustate (packageIx p) = .absent ∧ ((d.unanswered p).pkg p).present = false := by
  unfold Dev.unanswered
  rw [retired]
  extract_lets +onlyGivenNames x
  rw [if_neg (Nat.not_lt.2 (Nat.succ_le_succ many))]
  refine ⟨Dev.setUnit_ustate .., ?_⟩
  rw [(Dev.setUnit_frame ..).pkg, (Dev.setFieldBit_frame ..).pkg, Dev.setPkg_pkg]

/-- A package in service none of whose links is active fails. -/
theorem Dev.unanswered_lost (on : d.serves (packageIx p) = true) (present : (d.pkg p).present = true)
    (down : ∀ x ∈ d.pkgLinks p, (d.link x.2).train ≠ 6) : (d.unanswered p).ustate (packageIx p) = .failed := by
  have quiet : (d.pkgLinks p).any (fun y => (d.link y.2).train = 6) = false := by simpa using down
  have lost := d.unitLoss_failed on
  have fails : d.unanswered p = d.unitLoss (packageIx p) := by
    unfold Dev.unanswered
    rcases Dev.serves_cases on with h | h <;> rw [h] <;> dsimp only <;> rw [present, quiet] <;> rfl
  rw [fails]
  exact lost
end

/-! ## Ports that are enabled -/

section
variable {m : Nat}

/-- An operation on one link: the records of the packages stand, a port once enabled stays so, and the other links and those
of their units that do not serve are as before. -/
structure Dev.MovesLink (m : Nat) (d e : Dev) : Prop where
  records : ∀ q, e.pkgRecord q = d.pkgRecord q
  enabled : ∀ q, (d.link q).enabled = true → (e.link q).enabled = true
  other : ∀ q, q ≠ m → e.link q = d.link q
  unit : ∀ q, q < 128 → q ≠ m → d.serves (linkIx q) = false → e.unit (linkIx q) = d.unit (linkIx q)

theorem Dev.MovesLink.refl (d : Dev) : Dev.MovesLink m d d := ⟨fun _ => rfl, fun _ => id, fun _ _ => rfl, fun _ _ _ _ => rfl⟩

theorem Dev.MovesLink.trans {d e g : Dev} (h : Dev.MovesLink m d e) (k : Dev.MovesLink m e g) : Dev.MovesLink m d g where
  records := fun q => (k.records q).trans (h.records q)
  enabled := fun q on => k.enabled q (h.enabled q on)
  other := fun q hq => (k.other q hq).trans (h.other q hq)
  unit := fun q small hq off => by
    have same := h.unit q small hq off
    exact (k.unit q small hq (by rw [Dev.serves, Dev.ustate, same]; exact off)).trans same

theorem Dev.MovesLink.ofKeeps {d e : Dev} (records : d.KeepsPackages e) (units : Dev.KeepsUnitsBut [4, 5, 6, 7] d e) :
    Dev.MovesLink m d e where
  records := records.record
  enabled := fun q on => (congrArg LinkS.enabled (records.link q)).trans on
  other := fun q _ => records.link q
  unit := fun q small _ off => units.unit off (by rw [unitClass_linkIx small]; decide)

theorem Dev.MovesLink.ofFrame {d e : Dev} {ps : List Part} {fs : List Fld} (k : d.Frame e ps fs) (hm : .med ∉ ps := by decide)
    (hu : .ust ∉ ps := by decide) : Dev.MovesLink m d e := .ofKeeps (.of k hm) (k.keepsBut hu)

theorem Dev.setLink_moves (d : Dev) {x : LinkS} (on : (d.link m).enabled = true → x.enabled = true) : Dev.MovesLink m d (d.setLink m x) where
  records := fun _ => rfl
  enabled := fun q => by
    by_cases own : m = q
    · subst own
      intro h
      exact (congrArg LinkS.enabled (AMap.findD_put ..)).trans (on h)
    · exact fun h => (congrArg LinkS.enabled (AMap.findD_put_ne _ _ _ own)).trans h
  other := fun q hq => AMap.findD_put_ne _ _ _ (Ne.symm hq)
  unit := fun _ _ _ _ => rfl

theorem Dev.setUnit_movesLink (d : Dev) (st : UState) (cause : Nat) (hw : Bool) : Dev.MovesLink m d (d.setUnit (linkIx m) st cause hw) where
  records := (Dev.KeepsPackages.of (d.setUnit_frame ..)).record
  enabled := fun q on => (congrArg LinkS.enabled ((Dev.KeepsPackages.of (d.setUnit_frame ..)).link q)).trans on
  other := fun q _ => (Dev.KeepsPackages.of (d.setUnit_frame ..)).link q
  unit := fun q _ hq _ => d.setUnit_unit_ne (fun h => hq (by unfold linkIx at h; omega)) st cause hw

theorem Dev.linkFail_moves (d : Dev) (cause : Nat) : Dev.MovesLink m d (d.linkFail m cause) := by
  have idle : Dev.MovesLink m d (d.setLink m { d.link m with train := 0, rec_ := false }) := d.setLink_moves id
  exact (idle.trans (Dev.setUnit_movesLink _ .failed cause true)).trans
    (.ofKeeps (Dev.linkGone_keepsPackages ..) (Dev.linkGone_keepsBut ..))

theorem Dev.failUnit_moves (d : Dev) (hm : m < 128) (cause : Nat) : Dev.MovesLink m d (d.failUnit (linkIx m) cause) := by
  unfold Dev.failUnit
  extract_lets old x
  have fails : Dev.MovesLink m d x := by
    unfold x
    split
    · exact .refl d
    rw [unitClass_linkIx hm]
    show Dev.MovesLink m d (d.linkFail (linkIx m - 26) cause)
    rw [linkIx_sub]
    exact d.linkFail_moves cause
  split
  · exact fails.trans (.ofKeeps (.of (Dev.overBudget_frame ..)) ((x.overBudget_keepsUnits ..).but _))
  · exact fails

theorem Dev.trainFail_moves (d : Dev) (hm : m < 128) (cause train : Nat) : Dev.MovesLink m d (d.trainFail m cause train) := by
  have idle : Dev.MovesLink m d (d.setLink m { d.link m with train := 0, rec_ := false }) := d.setLink_moves id
  exact ((idle.trans (.ofFrame (Dev.linkEvent_frame ..))).trans (Dev.failUnit_moves _ hm cause)).trans
    (.ofKeeps (Dev.portsLost_keepsPackages ..) (Dev.portsLost_keepsBut _ m))

theorem Dev.fullTraining_moves (d : Dev) (hm : m < 128) (cause : Nat) : Dev.MovesLink m d (d.fullTraining m cause) := by
  rw [Dev.fullTraining_eq]
  split
  case isTrue =>
    have noted : Dev.MovesLink m d (d.setLink m { d.link m with fulls := (d.link m).recent d.now ++ [d.now] }) := d.setLink_moves id
    exact noted.trans (Dev.trainFail_moves _ hm 4 1)
  case isFalse =>
    have begun : Dev.MovesLink m d (d.inDetect m) := d.setLink_moves id
    split
    · exact begun
    · exact begun.trans (Dev.setUnit_movesLink ..)

/-- A port whose enable is set, before it trains. -/
def Dev.portOn (d : Dev) (m : Nat) : Dev := d.setLink m { d.link m with enabled := true }

theorem Dev.enableLink_eq (d : Dev) (m cause : Nat) : d.enableLink m cause =
    if ((d.portOn m).ustate (linkIx m) = .off || (d.portOn m).ustate (linkIx m) = .starting) && ((d.portOn m).link m).train = 0
    then (d.portOn m).fullTraining m cause else d.portOn m := rfl

theorem Dev.enableLink_moves (d : Dev) (hm : m < 128) (cause : Nat) :
    Dev.MovesLink m d (d.enableLink m cause) ∧ ((d.enableLink m cause).link m).enabled = true := by
  have on : Dev.MovesLink m d (d.portOn m) := d.setLink_moves fun _ => rfl
  have here : ((d.portOn m).link m).enabled = true := congrArg LinkS.enabled (AMap.findD_put ..)
  rw [Dev.enableLink_eq]
  split
  · have trains := (d.portOn m).fullTraining_moves hm cause
    exact ⟨on.trans trains, trains.enabled m here⟩
  · exact ⟨on, here⟩

/-- A port that is OFF, and one that has begun to train. -/
def Dev.portWaits (d : Dev) (m : Nat) : Prop := d.ustate (linkIx m) = .off ∧ (d.link m).train = 0 ∧ (d.link m).fulls = []
def Dev.portTrains (d : Dev) (m : Nat) : Prop := (d.link m).train = 1 ∧ d.ustate (linkIx m) = .starting

/-- A port that is OFF begins to train, and one that trains goes on. -/
theorem Dev.enableLink_trains {d : Dev} (cause : Nat) (h : d.portWaits m ∨ d.portTrains m) : (d.enableLink m cause).portTrains m := by
  have own : (d.portOn m).link m = { d.link m with enabled := true } := AMap.findD_put ..
  have unit : (d.portOn m).ustate (linkIx m) = d.ustate (linkIx m) := rfl
  rw [Dev.enableLink_eq]
  rcases h with ⟨off, idle, fresh⟩ | ⟨trains, starting⟩
  · rw [if_pos (by rw [unit, off, own, idle]; decide)]
    have few : (((d.portOn m).link m).recent (d.portOn m).now).length < 2 := by
      rw [own]
      unfold LinkS.recent
      rw [fresh]
      exact Nat.zero_lt_two
    obtain ⟨link, starting⟩ := Dev.fullTraining_starts cause few
    exact ⟨(congrArg LinkS.train (link.trans (AMap.findD_put ..))).trans rfl, starting⟩
  · rw [if_neg (by rw [own, trains]; simp)]
    exact ⟨(congrArg LinkS.train own).trans trains, unit.trans starting⟩

/-- A port as it is while another link moves. -/
theorem Dev.MovesLink.port {n : Nat} {d e : Dev} (h : Dev.MovesLink n d e) (hm : m < 128) (other : m ≠ n)
    (was : d.portWaits m ∨ d.portTrains m) : (d.portWaits m → e.portWaits m) ∧ (d.portTrains m → e.portTrains m) := by
  have idle : d.serves (linkIx m) = false := by
    rcases was with ⟨off, -, -⟩ | ⟨-, starting⟩
    · rw [Dev.serves, off]; rfl
    · rw [Dev.serves, starting]; rfl
  have unit : e.ustate (linkIx m) = d.ustate (linkIx m) := congrArg UnitRec.state (h.unit m hm other idle)
  unfold Dev.portWaits Dev.portTrains
  rw [unit, h.other m other]
  exact ⟨id, id⟩

/-- What one element of a list establishes under what every element keeps, and every element keeps too, holds afterwards. -/
theorem Dev.each_reaches {α : Type} {Q P : Dev → Prop} {f : Dev → α → Dev} {a : α} {l : List α} (ha : a ∈ l)
    (keepQ : ∀ d, ∀ b ∈ l, Q d → Q (f d b)) (own : ∀ d, Q d → P (f d a)) (keepP : ∀ d, ∀ b ∈ l, P d → P (f d b)) {d : Dev}
    (start : Q d) : P (d.each l f) := by
  induction l generalizing d with
  | nil => exact absurd ha List.not_mem_nil
  | cons b l ih =>
    rcases List.mem_cons.mp ha with rfl | ha
    · exact Dev.each_mem_maintains l (fun d c hc => keepP d c (List.mem_cons_of_mem _ hc)) _ (own d start)
    · exact ih ha (fun d c hc => keepQ d c (List.mem_cons_of_mem _ hc)) (fun d c hc => keepP d c (List.mem_cons_of_mem _ hc))
        (keepQ d b List.mem_cons_self start)

/-- The links of a package are links of the device. -/
theorem Dev.pkgLinks_lt {d : Dev} {c : Cfg} (cfg : d.cfg = some c) {p : Nat} {x : Nat × Nat} (h : x ∈ d.pkgLinks p) :
    x.2 < c.wiring.link.length := by
  unfold Dev.pkgLinks at h
  rw [cfg] at h
  obtain ⟨k, -, found⟩ := List.mem_filterMap.mp h
  obtain ⟨m, hm, same⟩ := List.mem_filterMap.mp (List.mem_of_find?_eq_some found)
  have small := List.mem_range.mp hm
  split at same
  · split at same
    · cases same
      exact small
    · cases same
  · cases same
end

/-! ## The clauses -/

section
variable {s : State} {p : Nat} (aon : s.dev.aon = true)
include aon

theorem sidebandAlert_done {a : Nat} (hp : p < 64) (present : (s.dev.pkg p).present = true) (ha : 0 < a) :
    ((s.dev.regInForce .MCX_SB_CTL_ALERT_EN (p / s.dev.groupSize)).testBit (p % s.dev.groupSize) = true →
      ∃ d, exec (.sidebandAlert p a) s = .next { s with dev := d } ∧
        s.dev.Counted d .EVT_CFGn_COUNT (388 + 16 * (p / s.dev.groupSize)) 1 ∧ s.stamped.ChangesOnly d [.evt, .out, .regs]) ∧
    ((s.dev.regInForce .MCX_SB_CTL_ALERT_EN (p / s.dev.groupSize)).testBit (p % s.dev.groupSize) = false →
      exec (.sidebandAlert p a) s = .next { s with dev := s.stamped }) := by
  rw [exec_sidebandAlert, State.on_aon aon]
  have gate : (decide (p < 64) && (s.stamped.pkg p).present && decide (0 < a) &&
      (s.stamped.regInForce .MCX_SB_CTL_ALERT_EN (p / s.stamped.groupSize)).testBit (p % s.stamped.groupSize))
      = (s.dev.regInForce .MCX_SB_CTL_ALERT_EN (p / s.dev.groupSize)).testBit (p % s.dev.groupSize) := by
    rw [show (s.stamped.pkg p).present = true from present, decide_eq_true hp, decide_eq_true ha]
    rfl
  rw [gate]
  refine ⟨fun on => ?_, fun off => ?_⟩
  · rw [if_pos on]
    exact ⟨_, rfl, s.stamped.raise_counted .., (s.stamped.raise_evOnly ..).changesOnly⟩
  · rw [if_neg (by rw [off]; decide)]

variable {c : Cfg} (cfg : s.dev.cfg = some c) (known : p < c.wiring.pkgCount) (late : 8 ≤ s.dev.step)
include cfg known late

omit aon in
theorem poll_gate : (decide (p < (s.stamped.cfg.map (·.wiring.pkgCount)).getD 0) && decide (8 ≤ s.stamped.step)) = true := by
  rw [show s.stamped.cfg = some c from cfg, show s.stamped.step = s.dev.step from rfl, decide_eq_true late]
  exact (Bool.and_true _).trans (decide_eq_true known)

/-- A poll that fails its CRC four times is counted alone. -/
theorem sidebandPoll_lost (ack : Bool) {crc : Nat} (ptype dies serial : Nat) (caps : PkgCaps) (lost : 4 ≤ crc) :
    exec (.sidebandPoll p ack crc ptype dies serial caps) s = .next { s with
      dev := s.stamped.count .MCX_SB_STAT_CRC (p / s.dev.groupSize) 4 } := by
  rw [exec_sidebandPoll]
  refine State.onHealth_same aon ?_ (Dev.count_frame ..).healthView
  rw [Dev.when_of (poll_gate cfg known late)]
  unfold Dev.poll
  rw [if_pos (decide_eq_true lost), Nat.min_eq_right lost]
  rfl

omit aon in
/-- The effect of a poll that the bus brings through. -/
theorem poll_few {crc : Nat} (ack : Bool) (ptype dies serial : Nat) (caps : PkgCaps) (few : crc < 4) :
    s.stamped.when (decide (p < (s.stamped.cfg.map (·.wiring.pkgCount)).getD 0) && decide (8 ≤ s.stamped.step))
      (·.poll p ack crc ptype dies serial caps) =
    (s.stamped.count .MCX_SB_STAT_CRC (p / s.dev.groupSize) crc).pollAnswer p ack ptype dies serial caps := by
  rw [Dev.when_of (poll_gate cfg known late)]
  unfold Dev.poll
  rw [if_neg (by rw [decide_eq_true_eq]; exact Nat.not_le.2 few), Nat.min_eq_left (Nat.le_of_lt few)]
  rfl

theorem sidebandPoll_known {crc : Nat} (ptype dies serial : Nat) (caps : PkgCaps) (few : crc < 4) (present : (s.dev.pkg p).present = true) :
    exec (.sidebandPoll p true crc ptype dies serial caps) s = .next { s with
      dev := (s.stamped.count .MCX_SB_STAT_CRC (p / s.dev.groupSize) crc).setPkg p { s.dev.pkg p with missed := 0 } } := by
  rw [exec_sidebandPoll]
  have counted := s.stamped.count_frame .MCX_SB_STAT_CRC (p / s.dev.groupSize) crc
  have answer := poll_few cfg known late true ptype dies serial caps few
  generalize s.stamped.count .MCX_SB_STAT_CRC (p / s.dev.groupSize) crc = x at counted answer ⊢
  have same : x.pkg p = s.dev.pkg p := counted.pkg (by decide) p
  have noted : x.pollAnswer p true ptype dies serial caps = x.setPkg p { s.dev.pkg p with missed := 0 } := by
    unfold Dev.pollAnswer
    rw [if_pos rfl, if_neg (by rw [same, present]; exact Bool.false_ne_true), same]
  exact State.onHealth_same aon (answer.trans noted) ((Dev.setPkg_healthView x ((PkgS.healthPart_missed ..).trans (congrArg PkgS.healthPart same.symm))).trans counted.healthView)

theorem sidebandPoll_new {crc : Nat} (hp : p < 64) (ptype dies serial : Nat) (caps : PkgCaps) (few : crc < 4)
    (present : (s.dev.pkg p).present = false) (off : s.dev.ustate (packageIx p) = .absent ∨ s.dev.ustate (packageIx p) = .off) :
    ∃ d, exec (.sidebandPoll p true crc ptype dies serial caps) s = .next { s with dev := d } ∧
      (d.pkg p).present = true ∧ (d.pkg p).serial = serial ∧ (d.pkg p).ptype = ptype ∧ (d.pkg p).caps = caps.susp ∧
      (ptype = s.dev.wantType p ∧ dies = s.dev.diesPerPkg → d.ustate (packageIx p) = .starting ∧ (d.pkg p).refTable = caps.refs.take 480) ∧
      (¬(ptype = s.dev.wantType p ∧ dies = s.dev.diesPerPkg) → d.ustate (packageIx p) = .off ∧
        s.dev.Counted d .EVT_CFGn_COUNT (387 + 16 * (p / s.dev.groupSize)) 1) := by
  rw [exec_sidebandPoll]
  have counted := s.stamped.count_frame .MCX_SB_STAT_CRC (p / s.dev.groupSize) crc
  generalize hx : s.stamped.count .MCX_SB_STAT_CRC (p / s.dev.groupSize) crc = x at counted
  have answer := poll_few cfg known late true ptype dies serial caps few
  rw [hx] at answer
  refine State.onHealth_counts aon answer fun e watched counts => ?_
  have config : x.cfg = s.dev.cfg := counted.parts .cfg (by decide)
  have was : x.ustate (packageIx p) = s.dev.ustate (packageIx p) := counted.ustate _
  have offNow : x.ustate (packageIx p) = .absent ∨ x.ustate (packageIx p) = .off := by rw [was]; exact off
  have identify : x.pollAnswer p true ptype dies serial caps = x.identify p ptype dies serial caps.susp caps.refs := by
    unfold Dev.pollAnswer
    rw [if_pos rfl, if_pos]
    rw [show (x.pkg p).present = false from (congrArg PkgS.present (counted.pkg (by decide) p)).trans present]
    rcases offNow with h | h <;> rw [h] <;> decide
  obtain ⟨here, ser, typ, cap, isOff, sameCfg, events⟩ := Dev.found_spec hp ptype dies serial caps.susp offNow
  rw [identify, Dev.identify_eq] at watched counts
  generalize x.found p ptype dies serial caps.susp = f at *
  have want : f.wantType p = s.dev.wantType p := by unfold Dev.wantType; rw [sameCfg, config]
  have hold : f.diesPerPkg = s.dev.diesPerPkg := by unfold Dev.diesPerPkg; rw [sameCfg, config]
  have size : x.groupSize = s.dev.groupSize := by unfold Dev.groupSize; rw [config]
  rw [want, hold] at watched counts
  by_cases fits : ptype = s.dev.wantType p ∧ dies = s.dev.diesPerPkg
  · rw [if_pos (by simpa using fits)] at watched
    have record : e.pkg p = { f.pkg p with refTable := caps.refs.take 480 } :=
      (watched.pkg (by decide) p).trans (((Dev.setUnit_frame ..).pkg (by decide) p).trans (Dev.setPkg_pkg ..))
    rw [record]
    refine ⟨here, ser, typ, cap, fun _ => ⟨?_, rfl⟩, fun h => absurd fits h⟩
    rw [watched.ustate]
    exact Dev.setUnit_ustate ..
  · rw [if_neg (by simpa using fits)] at watched counts
    have record : e.pkg p = f.pkg p := (watched.pkg (by decide) p).trans ((f.raise_frame ..).pkg (by decide) p)
    rw [record]
    refine ⟨here, ser, typ, cap, fun h => absurd h fits, fun _ => ⟨?_, ?_⟩⟩
    · rw [watched.ustate, (f.raise_frame ..).ustate]
      exact isOff
    · have raised := f.raise_counted (387 + 16 * (p / x.groupSize))
        { unitId := unitIdOf (packageIx p), state := 1, gen := (f.unit (packageIx p)).gen, a := p }
      unfold Dev.Counted at raised ⊢
      rw [size] at raised
      rw [counts _ (by omega), size, raised, events _ (by omega), counted.reg .EVT_CFGn_COUNT _]
      rfl

theorem sidebandPoll_silent {crc : Nat} (ptype dies serial : Nat) (caps : PkgCaps) (few : crc < 4) :
    ∃ d, exec (.sidebandPoll p false crc ptype dies serial caps) s = .next { s with dev := d } ∧
      s.dev.Counted d .MCX_SB_STAT_NAK (p / s.dev.groupSize) 4 ∧
      (s.dev.ustate (packageIx p) = .retired → (s.dev.pkg p).missed + 1 < 3 →
        d.pkg p = { s.dev.pkg p with missed := (s.dev.pkg p).missed + 1 } ∧ d.ustate (packageIx p) = .retired) ∧
      (s.dev.ustate (packageIx p) = .retired → 2 ≤ (s.dev.pkg p).missed → d.ustate (packageIx p) = .absent ∧
        (d.pkg p).present = false) ∧
      (s.dev.serves (packageIx p) = true → (s.dev.pkg p).present = true →
        (∀ x ∈ s.dev.pkgLinks p, (s.dev.link x.2).train ≠ 6) → d.ustate (packageIx p) = .failed) := by
  rw [exec_sidebandPoll]
  have counted := s.stamped.count_frame .MCX_SB_STAT_CRC (p / s.dev.groupSize) crc
  have answer := poll_few cfg known late false ptype dies serial caps few
  generalize s.stamped.count .MCX_SB_STAT_CRC (p / s.dev.groupSize) crc = x at counted answer
  have config : x.cfg = s.dev.cfg := counted.parts .cfg (by decide)
  have size : x.groupSize = s.dev.groupSize := by unfold Dev.groupSize; rw [config]
  have silent : x.pollAnswer p false ptype dies serial caps = (x.count .MCX_SB_STAT_NAK (p / x.groupSize) 4).unanswered p := x.silent_eq p
  refine State.onHealth_then aon (answer.trans silent) fun e watched => ?_
  have naks := x.count_frame .MCX_SB_STAT_NAK (p / x.groupSize) 4
  have count := Dev.Frame.counted (f := .MCX_SB_STAT_NAK) (i := p / x.groupSize) (n := 4) counted
    ((Dev.unanswered_frame _ p).step watched)
  have both : s.stamped.Frame (x.count .MCX_SB_STAT_NAK (p / x.groupSize) 4) [.regs] [.MCX_SB_STAT_CRC, .MCX_SB_STAT_NAK] := .step (.mono counted) naks
  generalize x.count .MCX_SB_STAT_NAK (p / x.groupSize) 4 = n at watched count both
  have unit : n.ustate (packageIx p) = s.dev.ustate (packageIx p) := both.ustate _
  have pkg : n.pkg p = s.dev.pkg p := both.pkg (by decide) p
  have med : n.med = s.dev.med := both.parts .med (by decide)
  have cfgs : n.cfg = s.dev.cfg := both.parts .cfg (by decide)
  rw [watched.ustate, watched.pkg (by decide)]
  refine ⟨by rw [size] at count; exact count, fun retired few => ?_, fun retired many => ?_, fun on present down => ?_⟩
  · rw [Dev.unanswered_few (unit.trans retired) (by rw [pkg]; exact few), Dev.setPkg_pkg, pkg]
    exact ⟨rfl, ((n.setPkg_frame ..).ustate _).trans (unit.trans retired)⟩
  · exact Dev.unanswered_gone (unit.trans retired) (by rw [pkg]; exact many)
  · refine Dev.unanswered_lost (by rw [Dev.serves, unit]; exact on) (by rw [pkg]; exact present) fun y hy => ?_
    have link : n.link y.2 = s.dev.link y.2 := congrArg (fun m : MediaS => m.links.findD y.2 {}) med
    rw [link]
    refine down y ?_
    unfold Dev.pkgLinks at hy ⊢
    rw [← cfgs]
    exact hy

omit known late in
theorem pwrGood_done (wires : c.wiring.link.length ≤ 128) (hp : p < 64) (starting : s.dev.ustate (packageIx p) = .starting)
    (present : (s.dev.pkg p).present = true) (dark : (s.dev.pkg p).pwrGood = false) :
    ∃ d, exec (.pwrGood p) s = .next { s with dev := d } ∧ (d.pkg p).pwrGood = true ∧ (d.pkg p).portEn = s.dev.portMask p ∧
      ∀ x ∈ s.dev.pkgLinks p, (s.dev.portMask p).testBit x.1 = true → (d.link x.2).enabled = true ∧
        (s.dev.ustate (linkIx x.2) = .off → (s.dev.link x.2).train = 0 → (s.dev.link x.2).fulls = [] →
          (d.link x.2).train = 1 ∧ d.ustate (linkIx x.2) = .starting) := by
  rw [exec_pwrGood]
  have powered : (if (decide (p < 64) && s.stamped.ustate (packageIx p) = .starting && (s.stamped.pkg p).present && !(s.stamped.pkg p).pwrGood) = true
      then s.stamped.powerPorts p else s.stamped) = s.stamped.powerPorts p := by
    refine if_pos ?_
    rw [s.stamped_ustate, starting, show s.stamped.pkg p = s.dev.pkg p from rfl, present, dark, decide_eq_true hp]
    rfl
  refine State.onHealth_then aon powered fun e watched => ?_
  unfold Dev.powerPorts at watched
  extract_lets +onlyGivenNames mask _old on at watched
  have record : (on.pkgRecord p).pwrGood = true ∧ (on.pkgRecord p).portEn = mask := by
    unfold Dev.pkgRecord
    rw [show on.pkg p = _ from Dev.setPkg_pkg ..]
    exact ⟨rfl, rfl⟩
  have links : ∀ m, on.link m = s.dev.link m := fun _ => rfl
  have units : ∀ m, on.ustate (linkIx m) = s.dev.ustate (linkIx m) := fun m => (s.stamped.setPkg_frame p _).ustate _
  have same : on.pkgLinks p = s.dev.pkgLinks p := rfl
  rw [same] at watched
  clear_value on
  have small : ∀ x ∈ (s.dev.pkgLinks p).filter (fun y => mask.testBit y.1), x.2 < 128 := fun x hx =>
    Nat.lt_of_lt_of_le (Dev.pkgLinks_lt cfg (List.mem_filter.mp hx).1) wires
  have moves : ∀ (d : Dev), ∀ x ∈ (s.dev.pkgLinks p).filter (fun y => mask.testBit y.1),
      Dev.MovesLink x.2 d (d.enableLink x.2 (d.unit (packageIx p)).cause) ∧
      ((d.enableLink x.2 (d.unit (packageIx p)).cause).link x.2).enabled = true := fun d x hx => d.enableLink_moves (small x hx) _
  have kept := Dev.each_mem_maintains (P := fun d => (d.pkgRecord p).pwrGood = true ∧ (d.pkgRecord p).portEn = mask) _
    (fun d x hx h => by rw [(moves d x hx).1.records p]; exact h) on record
  obtain ⟨pwr, en⟩ := kept
  rw [watched.pkg (by decide)]
  refine ⟨pwr, en, fun x hx bit => ?_⟩
  have mem : x ∈ (s.dev.pkgLinks p).filter (fun y => mask.testBit y.1) := List.mem_filter.mpr ⟨hx, bit⟩
  rw [(Dev.KeepsPackages.of watched).link, watched.ustate]
  refine ⟨?_, fun off idle fresh => ?_⟩
  · exact Dev.each_reaches (Q := fun _ => True) (P := fun d => (d.link x.2).enabled = true) mem (fun _ _ _ _ => trivial)
      (fun d _ => (moves d x mem).2) (fun d y hy h => (moves d y hy).1.enabled x.2 h) trivial
  · refine Dev.each_reaches (Q := fun d => d.portWaits x.2 ∨ d.portTrains x.2) (P := fun d => d.portTrains x.2) mem (fun d y hy h => ?_)
      (fun d h => Dev.enableLink_trains _ h) (fun d y hy h => ?_) (.inl ⟨(units _).trans off, (congrArg LinkS.train (links _)).trans idle,
        (congrArg LinkS.fulls (links _)).trans fresh⟩)
    · by_cases own : x.2 = y.2
      · rw [← own]
        exact .inr (Dev.enableLink_trains _ h)
      · obtain ⟨waits, trains⟩ := (moves d y hy).1.port (small x mem) own h
        exact h.imp waits trains
    · by_cases own : x.2 = y.2
      · rw [← own]
        exact Dev.enableLink_trains _ (.inr h)
      · exact ((moves d y hy).1.port (small x mem) own (.inr h)).2 h
end

/-- Settles O49. A package's polls, alert and power go through one effect each (`Dev.poll`, `Dev.powerPorts`); that a poll is
tried four times before it counts as unanswered, and counts four NAKs, and that four failed CRCs only count, is log entry 68. -/
theorem sidebandCommandsTakeEffect : Obligations.SidebandCommandsTakeEffect := by
  unfold Obligations.SidebandCommandsTakeEffect
  refine ⟨fun s p a aon hp present ha => sidebandAlert_done aon hp present ha,
    fun s c p crc ptype dies serial caps ack aon cfg hp known late => ⟨?_, ?_, ?_, ?_⟩,
    fun s c p aon cfg wires hp starting present dark => pwrGood_done aon cfg wires hp starting present dark⟩
  · exact sidebandPoll_lost aon cfg known late ack ptype dies serial caps
  · exact fun few absent off => sidebandPoll_new aon cfg known late hp ptype dies serial caps few absent off
  · exact sidebandPoll_known aon cfg known late ptype dies serial caps
  · exact sidebandPoll_silent aon cfg known late ptype dies serial caps

end Sys2Proof.Machine
end

section
/-!
O48: M-link responses. In a quench a die with a suspended operation and no read waiting is left suspended (R142), so after
SUSPENDED no command need be listed for it.
-/
-- Checked one after another: side by side, each waiting for the kernel, the proofs need more threads than the memory admits.
set_option Elab.async false
namespace Sys2Proof.Machine

/-- A die whose suspended operation nothing follows: a quench has begun, and no read waits for the die. -/
def suspendedInQuench : State :=
  Tests.st { Tests.dv.setReg .JRN_STATUS_QSTATE 0 1 with med := { Tests.dv.med with
    cmds := [(31 * 4096 + 4095, ⟨4, 16, 0, 5, .control, 0⟩)]
    dies := [(16, { op := some { clear := false, endAt := 5, opid := 0, suspended := some 999999999000 } })] } }

/-- The commands listed after the die has reported its suspension. -/
def listedAfter (o : Out) : AMap MCmd :=
  match o with
  | .next t => t.dev.med.cmds
  | _ => []

theorem suspendedInQuench_cmds : listedAfter (exec (.suspendedResponse 31 4095) suspendedInQuench) = [] := by decide +kernel

/-- Refutes O48. In `suspendedInQuench` the die of the SUSPENDED response has a suspended operation, no read waits for it and
`JRN_STATUS.QSTATE` is 1: the die neither takes a read nor resumes, and the command table is empty afterwards, where the
clause of SUSPENDED asks for a listed command of the die under the next tag whatever QSTATE is. -/
theorem not_linkResponsesEndOrReissueCommands : ¬ Obligations.LinkResponsesEndOrReissueCommands := by
  unfold Obligations.LinkResponsesEndOrReissueCommands
  rintro ⟨-, -, suspended, -⟩
  obtain ⟨-, goesOn⟩ := suspended suspendedInQuench 31 4095 ⟨4, 16, 0, 5, .control, 0⟩ (by decide +kernel) (by decide +kernel) rfl rfl
  obtain ⟨d, x, ran, listed, -⟩ := goesOn 2 { clear := false, endAt := 5, opid := 0, suspended := some 999999999000 } 999999999000
    (by decide +kernel) (by decide +kernel) (by decide +kernel) (by decide +kernel) (by decide +kernel) rfl
  have empty : d.med.cmds = [] := (congrArg listedAfter ran).symm.trans suspendedInQuench_cmds
  rw [empty] at listed
  cases listed

end Sys2Proof.Machine
end

section
/-!
O51: the queue engine's own work: spill pages, tail timeouts and pointer records (R217 to R220, R229, R230).
-/
-- Checked one after another: side by side, each waiting for the kernel, the proofs need more threads than the memory admits.
set_option Elab.async false
namespace Sys2Proof.Machine

/-! ## Spilling -/

section
variable (d : Dev) (q : Nat)

/-- The device once the state of spilling has been noted. -/
def Dev.noteSpilling : Dev := { d with qen := { d.qen with spilling := d.poolSpills } }

/-- A spill page written. -/
def Dev.spillPage : Dev :=
  let x := d.queue q
  let w := ((d.setOfQueue q).map (·.headWin)).getD 128
  ((d.setQueue q { x with frames := spillCells x.frames (x.headSeg w) 16, spillPages := x.spillPages + 1 }).count .QEN_SPILL_WRITTEN).noteSpilling

/-- Whether a spill page is to be written. -/
def Dev.spills : Bool := d.runs && d.spillDue q && decide (4096 ≤ d.spillSpace) && !d.mustShrink

theorem exec_spill (s : State) : exec (.spill q) s = s.on fun d => d.noteSpilling.when (d.noteSpilling.spills q) (·.spillPage q) := rfl

theorem Dev.poolSpills_noteSpilling : d.noteSpilling.poolSpills = d.poolSpills := by
  show (d.poolAbove (d.reg .QEN_CTL_SPILL_POOL) || (d.poolSpills && d.poolAbove (d.reg .QEN_CTL_SPILL_POOL - 5))) = d.poolSpills
  unfold Dev.poolSpills
  cases d.poolAbove (d.reg .QEN_CTL_SPILL_POOL) <;> cases d.qen.spilling <;>
    cases d.poolAbove (d.reg .QEN_CTL_SPILL_POOL - 5) <;> rfl

theorem Dev.spillDue_noteSpilling : d.noteSpilling.spillDue q = d.spillDue q := by
  unfold Dev.spillDue
  rw [d.poolSpills_noteSpilling]
  rfl

theorem Dev.spills_noteSpilling : d.noteSpilling.spills q =
    (d.runs && d.spillDue q && decide (4096 ≤ d.spillSpace) && !d.mustShrink) := by
  unfold Dev.spills
  rw [d.spillDue_noteSpilling]
  rfl
end

theorem Dev.spillPage_spec (d : Dev) {q : Nat} {c : QueueSet} (own : d.setOfQueue q = some c) :
    (d.spillPage q).queue q = { d.queue q with frames := spillCells (d.queue q).frames ((d.queue q).headSeg c.headWin) 16
                                               spillPages := (d.queue q).spillPages + 1 } ∧
    (∀ r, r ≠ q → (d.spillPage q).queue r = d.queue r) ∧ d.Counted (d.spillPage q) .QEN_SPILL_WRITTEN 0 1 ∧
    d.Frame (d.spillPage q) [.qen, .regs] [.QEN_SPILL_WRITTEN] := by
  have wide : ((d.setOfQueue q).map (·.headWin)).getD 128 = c.headWin := by rw [own]; rfl
  unfold Dev.spillPage
  rw [wide]
  extract_lets x y
  have put : d.Frame (d.setQueue q
      { x with frames := spillCells x.frames (x.headSeg c.headWin) 16, spillPages := x.spillPages + 1 }) [.qen] [] := .update (.refl _)
  have here := d.queue_setQueue q { x with frames := spillCells x.frames (x.headSeg c.headWin) 16, spillPages := x.spillPages + 1 }
  have others := fun r (h : r ≠ q) => d.queue_setQueue_ne
    { x with frames := spillCells x.frames (x.headSeg c.headWin) 16, spillPages := x.spillPages + 1 } h
  generalize d.setQueue q { x with frames := spillCells x.frames (x.headSeg c.headWin) 16, spillPages := x.spillPages + 1 } = e at *
  have counted := e.count_counted .QEN_SPILL_WRITTEN 0 1
  refine ⟨here, others, ?_, .update (.step (.mono put) (e.count_frame .QEN_SPILL_WRITTEN 0 1))⟩
  unfold Dev.Counted at counted ⊢
  rw [put.reg .QEN_SPILL_WRITTEN 0] at counted
  exact counted

section
variable {s : State} {q : Nat} {c : QueueSet} (running : s.Running) (own : s.dev.setOfQueue q = some c)
include running

theorem spills_of_running : s.stamped.noteSpilling.spills q =
    (s.dev.spillDue q && decide (4096 ≤ s.dev.spillSpace) && !s.stamped.mustShrink) := by
  rw [Dev.spills_noteSpilling, State.runs_of_running running]
  rfl

theorem spill_kept (off : s.dev.spillDue q = false ∨ s.dev.spillSpace < 4096 ∨ s.stamped.mustShrink = true) :
    exec (.spill q) s = .next { s with dev := { s.stamped with qen := { s.dev.qen with spilling := s.dev.poolSpills } } } := by
  have idle : s.stamped.noteSpilling.spills q = false := by
    rw [spills_of_running running]
    rcases off with h | h | h
    · rw [h]; rfl
    · rw [decide_eq_false (Nat.not_le.2 h), Bool.and_false]; rfl
    · rw [h]; exact Bool.and_false _
  rw [exec_spill, State.on_aon running.1, idle]
  rfl

include own

theorem spill_done (due : s.dev.spillDue q = true) (space : 4096 ≤ s.dev.spillSpace) (free : s.stamped.mustShrink = false) :
    ∃ d, exec (.spill q) s = .next { s with dev := d } ∧
      d.queue q = { s.dev.queue q with frames := spillCells (s.dev.queue q).frames ((s.dev.queue q).headSeg c.headWin) 16
                                       spillPages := (s.dev.queue q).spillPages + 1 } ∧
      (∀ r, r ≠ q → d.queue r = s.dev.queue r) ∧ s.dev.Counted d .QEN_SPILL_WRITTEN 0 1 ∧
      s.dev.FieldsOnly d [.QEN_SPILL_WRITTEN] ∧ s.stamped.ChangesOnly d [.qen, .regs] := by
  have spills : s.stamped.noteSpilling.spills q = true := by
    rw [spills_of_running running, due, free, decide_eq_true space]
    rfl
  have wide : ((s.stamped.noteSpilling.setOfQueue q).map (·.headWin)).getD 128 = c.headWin := by
    rw [show s.stamped.noteSpilling.setOfQueue q = some c from own]
    rfl
  obtain ⟨here, others, counted, all⟩ := s.stamped.noteSpilling.spillPage_spec (q := q) (c := c) own
  have noted : s.stamped.Frame s.stamped.noteSpilling [.qen] [] := .update (.refl _)
  have whole : s.stamped.Frame (s.stamped.noteSpilling.spillPage q) [.qen, .regs] ([].append [.QEN_SPILL_WRITTEN]) := .step (.mono noted) all
  rw [exec_spill, State.on_aon running.1, spills]
  exact ⟨_, rfl, here, others, counted, whole.fieldsOnly, whole.changesOnly⟩
end

/-! ## Spill pages read back -/

section
variable (d : Dev) (q : Nat)

/-- Spilled cells read back into pool cells. -/
def Dev.readBack (st : List Nat) : Dev :=
  let x := d.queue q
  let fs := takeBack x.frames st
  d.setQueue q { x with frames := fs, spillPages := ceilDiv (spilledCells fs) 16 }

theorem exec_spillPagePrefetch (decoded : Bool) (s : State) : exec (.spillPagePrefetch q decoded) s = s.on fun d =>
    d.when (d.runs && decide (0 < min 16 (spilledCells (d.queue q).frames)) &&
        decide (headCells (d.queue q).frames < ((d.setOfQueue q).map (·.headWin)).getD 128)) fun e =>
      match e.takeCells (e.homeStack (groupOf q)) (min 16 (spilledCells (d.queue q).frames)) with
      | none => e
      | some st => (if decoded then e else e.spillLost q (min 16 (spilledCells (d.queue q).frames))).readBack q st := by
  show execSpillPagePrefetch q decoded s = _
  unfold execSpillPagePrefetch
  refine congrArg s.on (funext fun d => congrArg (Dev.when d _) (funext fun e => ?_))
  dsimp only
  cases e.takeCells (e.homeStack (groupOf q)) (min 16 (spilledCells (d.queue q).frames)) <;> rfl

/-- The queue whose spill page is lost is stranded, its frames marked, and no other queue changes. -/
theorem Dev.spillLost_spec (n : Nat) : ((d.spillLost q n).queue q).frames = loseCells (d.queue q).frames n ∧
    (d.spillLost q n).stranded q = true ∧ ∀ r, r ≠ q → (d.spillLost q n).queue r = d.queue r := by
  unfold Dev.spillLost
  extract_lets x seq
  have put := d.queue_setQueue q { x with frames := loseCells x.frames n }
  have others := fun r (h : r ≠ q) => d.queue_setQueue_ne { x with frames := loseCells x.frames n } h
  generalize d.setQueue q { x with frames := loseCells x.frames n } = e at *
  have bit : (e.strand q).stranded q = true := Dev.testBit_setFieldBit _ .QEN_STRANDw_STRANDED _ _ _ (Nat.mod_lt _ (by decide))
  have strand := (e.strand_frame q).queue
  unfold Dev.stranded
  rw [((e.strand q).raise_frame ..).queue, ((e.strand q).raise_frame ..).reg .QEN_STRANDw_STRANDED (q / 32), strand]
  exact ⟨congrArg QDesc.frames put, bit, others⟩
end

section
variable {s : State} {q : Nat} {c : QueueSet} {st : List Nat} (running : s.Running) (own : s.dev.setOfQueue q = some c)
  (spilled : 0 < spilledCells (s.dev.queue q).frames) (room : headCells (s.dev.queue q).frames < c.headWin)
  (cells : s.dev.takeCells (s.dev.homeStack (groupOf q)) (min 16 (spilledCells (s.dev.queue q).frames)) = some st)
include running own spilled room cells

theorem spillPagePrefetch_eq (decoded : Bool) : exec (.spillPagePrefetch q decoded) s = .next { s with
    dev := (if decoded then s.stamped else s.stamped.spillLost q (min 16 (spilledCells (s.dev.queue q).frames))).readBack q st } := by
  have due : (s.stamped.runs && decide (0 < min 16 (spilledCells (s.stamped.queue q).frames)) &&
      decide (headCells (s.stamped.queue q).frames < ((s.stamped.setOfQueue q).map (·.headWin)).getD 128)) = true := by
    rw [State.runs_of_running running, show s.stamped.setOfQueue q = some c from own, show s.stamped.queue q = s.dev.queue q from rfl,
      decide_eq_true (show 0 < min 16 (spilledCells (s.dev.queue q).frames) by omega)]
    exact decide_eq_true room
  rw [exec_spillPagePrefetch, State.on_aon running.1, Dev.when_of due]
  rw [show s.stamped.takeCells (s.stamped.homeStack (groupOf q)) (min 16 (spilledCells (s.stamped.queue q).frames)) = some st from cells]
  rfl

theorem spillPagePrefetch_lost : ∃ d, exec (.spillPagePrefetch q false) s = .next { s with dev := d } ∧ d.stranded q = true ∧
    (∀ r, r ≠ q → d.queue r = s.dev.queue r) ∧
    (d.queue q).frames = takeBack (loseCells (s.dev.queue q).frames (min 16 (spilledCells (s.dev.queue q).frames))) st := by
  refine ⟨_, spillPagePrefetch_eq running own spilled room cells false, ?_⟩
  obtain ⟨lost, stranded, others⟩ := s.stamped.spillLost_spec q (min 16 (spilledCells (s.dev.queue q).frames))
  rw [if_neg Bool.false_ne_true]
  generalize s.stamped.spillLost q (min 16 (spilledCells (s.dev.queue q).frames)) = e at *
  unfold Dev.readBack
  extract_lets x fs
  refine ⟨stranded, fun r h => (e.queue_setQueue_ne _ h).trans (others r h), ?_⟩
  rw [Dev.queue_setQueue]
  exact congrArg (takeBack · st) lost
end

/-! ## Frames that end -/

section
variable (d : Dev) (q : Nat)

/-- A queue's open frame goes without a frame being made: its assembly ends, and nothing else but the ring's next cell moves. -/
theorem Dev.dropOpen_queue : ((d.dropOpen q).queue q).asm = .idle ∧ ((d.dropOpen q).queue q).frames = (d.queue q).frames ∧
    ((d.dropOpen q).queue q).headSeq = (d.queue q).headSeq ∧ ((d.dropOpen q).queue q).tailSeq = (d.queue q).tailSeq := by
  unfold Dev.dropOpen
  extract_lets x y
  rw [Dev.queue_qChanged, Dev.queue_setQueue]
  show Asm.idle = .idle ∧ y.frames = x.frames ∧ y.headSeq = x.headSeq ∧ y.tailSeq = x.tailSeq
  unfold y
  split
  · split <;> exact ⟨rfl, rfl, rfl, rfl⟩
  · exact ⟨rfl, rfl, rfl, rfl⟩

theorem flags_timeout (a b : Bool) : (b2n a + 2 * b2n b) % 2 = b2n a := by cases a <;> cases b <;> rfl

/-- The frame that closing an open frame makes (R210). -/
structure Frame.Closes (fr : Frame) (f : OpenFrame) (seq stamp : Nat) (r : Option Req) : Prop where
  len : fr.len = f.len
  user : fr.user = f.user
  seq : fr.seq = seq
  stamp : fr.stamp = stamp
  timeout : fr.flags % 2 = b2n r.isNone
  clean : r.isSome = true → f.bad = [] → fr.flags = 0

/-- A queue after its open frame has closed: the frame is the newest, under the tail SEQ (R210). -/
theorem Dev.closeFrame_queue (f : OpenFrame) (stamp : Nat) (r : Option Req) :
    (∃ fr : Machine.Frame, fr.Closes f (d.queue q).tailSeq stamp r ∧ (d.closeFrame q f stamp r).2.queue q = { d.queue q with
      frames := (d.queue q).frames ++ [fr], tailSeq := ((d.queue q).tailSeq + 1) % 2 ^ 32, asm := .idle, newest := stamp }) ∧
    ∀ p, p ≠ q → (d.closeFrame q f stamp r).2.queue p = d.queue p := by
  unfold Dev.closeFrame
  extract_lets +onlyGivenNames timeout missing noted bad marked x flags l0
  have first : noted.queue = d.queue := by
    unfold noted
    split
    · rfl
    · split
      · rfl
      · exact (d.hostError_frame _).queue
  have second : marked.queue = d.queue := by
    refine Eq.trans ?_ first
    unfold marked
    split
    · exact Dev.each_keeps Dev.queue _ _ (fun e k => by
        split
        · exact (e.storePoison_frame ..).queue
        · rfl) _
    · rfl
  have stored := (marked.storeFrameLine_frame q f 0 l0 (bad.contains 0)).queue
  generalize marked.storeFrameLine q f 0 l0 (bad.contains 0) = p at *
  obtain ⟨stored', f', e⟩ := p
  have same : e.queue = d.queue := stored.trans second
  have tail : x = d.queue q := congrFun second q
  dsimp only
  rw [Dev.queue_qChanged, (Dev.perf_frame ..).queue, same, tail]
  refine ⟨⟨_, ?_, Dev.queue_setQueue ..⟩, fun p h => (e.queue_setQueue_ne _ h).trans (congrFun same p)⟩
  refine ⟨rfl, rfl, rfl, rfl, ?_, fun known clean => ?_⟩
  · show (b2n r.isNone + 2 * b2n (!bad.isEmpty)) % 2 = b2n r.isNone
    exact flags_timeout _ _
  · have none : timeout = false := by unfold timeout; cases r <;> simp_all
    have empty : bad = [] := by unfold bad; rw [none]; exact clean
    show b2n timeout + 2 * b2n (!bad.isEmpty) = 0
    rw [none, empty]
    rfl
end

/-! ## Tail timeouts -/

section
variable (d : Dev) (q : Nat)

/-- An open frame that has passed its boundary (R220). -/
def Dev.timeOut (f : OpenFrame) : Dev :=
  let x := d.queue q
  let d := ((d.count .QEN_TIMEOUT_COUNT).strand q).timeoutEvent q x.tailSeq
  if ((d.setOfQueue q).map (·.deliver)).getD false then
    ((d.drawFree 220).2.closeFrame q f ((d.drawFree 220).1 % 2 ^ 64) none).2
  else d.dropOpen q

/-- Whether the tail timeout of a boundary is due. -/
def Dev.timesOut (b : Nat) : Bool := d.queuesRun && decide (b ≤ d.now) && !d.queueWaits q b

variable {q} {s : State} (aon : s.dev.aon = true)
include aon

theorem exec_tailTimeout_dropping {a us last : Nat} (dropping : (s.dev.queue q).asm = .dropping a us last) :
    exec (.tailTimeout q) s = .next { s with
      dev := s.stamped.when (s.stamped.timesOut q (a + us * 1000)) (·.setQueue q { s.dev.queue q with asm := .idle }) } := by
  show execTailTimeout q s = _
  unfold execTailTimeout
  rw [State.on_aon aon]
  dsimp only
  rw [show (s.stamped.queue q).asm = .dropping a us last from dropping]
  rfl

theorem exec_tailTimeout_opened {f : OpenFrame} (opened : (s.dev.queue q).asm = .opened f) :
    exec (.tailTimeout q) s = .next { s with
      dev := s.stamped.when (s.stamped.timesOut q (f.openedAt + f.timeoutUs * 1000)) (·.timeOut q f) } := by
  show execTailTimeout q s = _
  unfold execTailTimeout
  rw [State.on_aon aon]
  dsimp only
  rw [show (s.stamped.queue q).asm = .opened f from opened]
  rfl

omit aon in
/-- Before the boundary nothing is due. -/
theorem timesOut_early {b : Nat} (early : s.tb < b) : s.stamped.timesOut q b = false := by
  unfold Dev.timesOut
  rw [decide_eq_false (show ¬ b ≤ s.stamped.now from Nat.not_le.2 early), Bool.and_false]
  rfl

omit aon in
theorem timesOut_due {b : Nat} (late : b ≤ s.tb) (none : s.dev.queueWaits q b = false) (runs : s.dev.queuesRun = true) :
    s.stamped.timesOut q b = true := by
  unfold Dev.timesOut
  rw [show s.stamped.queuesRun = true from runs, show s.stamped.queueWaits q b = false from none,
    decide_eq_true (show b ≤ s.stamped.now from late)]
  rfl

omit aon in
/-- A frame that times out is counted, its queue stranded, and no other queue changes; under DISCARD the frames stand, under
DELIVER the frame is appended (R220). -/
theorem Dev.timeOut_spec (d : Dev) (q : Nat) (f : OpenFrame) {c : QueueSet} (own : d.setOfQueue q = some c) :
    ((d.timeOut q f).queue q).asm = .idle ∧ d.Counted (d.timeOut q f) .QEN_TIMEOUT_COUNT 0 1 ∧ (d.timeOut q f).stranded q = true ∧
    (∀ r, r ≠ q → (d.timeOut q f).queue r = d.queue r) ∧
    (c.deliver = false → ((d.timeOut q f).queue q).frames = (d.queue q).frames ∧ ((d.timeOut q f).queue q).tailSeq = (d.queue q).tailSeq) ∧
    (c.deliver = true → ((d.timeOut q f).queue q).tailSeq = ((d.queue q).tailSeq + 1) % 2 ^ 32 ∧
      ∃ fr : Machine.Frame, ((d.timeOut q f).queue q).frames = (d.queue q).frames ++ [fr] ∧ fr.flags % 2 = 1 ∧
        fr.seq = (d.queue q).tailSeq ∧ fr.len = f.len) := by
  unfold Dev.timeOut
  extract_lets +onlyGivenNames x e
  have bit : (((d.count .QEN_TIMEOUT_COUNT).strand q).stranded q) = true :=
    Dev.testBit_setFieldBit _ .QEN_STRANDw_STRANDED _ _ _ (Nat.mod_lt _ (by decide))
  have counted := d.count_counted .QEN_TIMEOUT_COUNT 0 1
  have stranding := (d.count .QEN_TIMEOUT_COUNT).strand_frame q
  have told := ((d.count .QEN_TIMEOUT_COUNT).strand q).timeoutEvent_frame q x.tailSeq
  have noted : d.Frame e [.regs, .evt, .out] (evtFields.append [.QEN_TIMEOUT_COUNT, .QEN_STRANDw_STRANDED]) :=
    .step (.step (.step (.refl d) (d.count_frame ..)) stranding) told
  have once : d.Counted e .QEN_TIMEOUT_COUNT 0 1 := by
    unfold Dev.Counted at counted ⊢
    rw [told.reg .QEN_TIMEOUT_COUNT 0, stranding.reg .QEN_TIMEOUT_COUNT 0]
    exact counted
  have stranded : e.stranded q = true := by
    unfold Dev.stranded at bit ⊢
    rw [told.reg .QEN_STRANDw_STRANDED (q / 32)]
    exact bit
  have queues : e.queue = d.queue := noted.queue
  have cfg : e.setOfQueue q = some c := by
    unfold Dev.setOfQueue Dev.setOfGroup at own ⊢
    rw [noted.cfg]
    exact own
  rw [cfg, show ((some c).map (·.deliver)).getD false = c.deliver from rfl]
  clear_value e
  unfold Dev.Counted at once ⊢
  unfold Dev.stranded at stranded ⊢
  by_cases deliver : c.deliver = true
  · rw [if_pos deliver]
    have drawn := e.drawFree_frame 220
    generalize e.drawFree 220 = p at *
    have closing := p.2.closeFrame_frame q f (p.1 % 2 ^ 64) none
    obtain ⟨⟨fr, made, here⟩, others⟩ := p.2.closeFrame_queue q f (p.1 % 2 ^ 64) none
    rw [closing.reg .QEN_TIMEOUT_COUNT 0, closing.reg .QEN_STRANDw_STRANDED (q / 32), drawn.reg .QEN_TIMEOUT_COUNT 0,
      drawn.reg .QEN_STRANDw_STRANDED (q / 32), here]
    have same : p.2.queue = d.queue := drawn.queue.trans queues
    rw [same] at made ⊢
    refine ⟨rfl, once, stranded, fun r h => (others r h).trans (congrFun same r), fun off => ?_, fun _ => ⟨rfl, fr, rfl, made.timeout, made.seq, made.len⟩⟩
    rw [deliver] at off
    cases off
  · rw [if_neg deliver]
    have dropping := e.dropOpen_frame q
    obtain ⟨idle, frames, -, tail⟩ := e.dropOpen_queue q
    rw [dropping.reg .QEN_TIMEOUT_COUNT 0, dropping.reg .QEN_STRANDw_STRANDED (q / 32), frames, tail, queues]
    refine ⟨idle, once, stranded, fun r h => ?_, fun _ => ⟨rfl, rfl⟩, fun on => absurd on deliver⟩
    rw [e.queue_dropOpen_ne h, queues]
end

/-! ## Pointer records -/

section
variable (d : Dev)

/-- The record of a queue's pointers (R229). -/
def Dev.recordPointers (q : Nat) : Dev :=
  { d.journal 0x08 q (d.queue q).pointers.1 (d.queue q).pointers.2.1 with
    qen := { d.qen with journalled := d.qen.journalled.put q (d.queue q).pointers } }

/-- The pointers of the changed queues recorded. -/
def Dev.pointersJournalled : Dev :=
  let d := d.each d.qen.changed Dev.recordPointers
  { d with qen := { d.qen with changed := [] } }

theorem exec_qptrJournal (s : State) : exec .qptrJournal s = s.on fun d => d.when d.runs Dev.pointersJournalled := rfl

/-- A device whose records of pointers alone have changed, one of them that of `q`. -/
structure Dev.Pointed (e : Dev) : Prop where
  frame : d.Frame e [.qen, .jrn] []
  queues : e.qen.queues = d.qen.queues

/-- The journal and the table of records name the pointers of `q` as the device holds them. -/
def Dev.HasPointers (e : Dev) (q : Nat) : Prop := e.qen.journalled.find q = some (d.queue q).pointers ∧
  ∃ r ∈ e.jrn.recs, r.code = 0x08 ∧ r.a = q ∧ r.b = (d.queue q).headSeq ∧ r.c = (d.queue q).tailSeq

variable {d}

theorem Dev.Pointed.record {e : Dev} (h : d.Pointed e) (q : Nat) : d.Pointed (e.recordPointers q) ∧ d.HasPointers (e.recordPointers q) q := by
  have same : e.queue q = d.queue q := congrArg (fun m : AMap QDesc => m.findD q {}) h.queues
  refine ⟨⟨.update (.step h.frame (e.journal_frame ..)), h.queues⟩, ?_⟩
  unfold Dev.recordPointers
  rw [same]
  exact ⟨AMap.find_put .., _, List.mem_cons_self, rfl, rfl, rfl, rfl⟩

/-- A later record leaves the pointers of a queue that have been recorded as they are, its own being the same. -/
theorem Dev.HasPointers.record {e : Dev} {q : Nat} (h : d.Pointed e) (k : d.HasPointers e q) (p : Nat) : d.HasPointers (e.recordPointers p) q := by
  by_cases own : p = q
  · exact own ▸ (h.record p).2
  · obtain ⟨found, r, mem, what⟩ := k
    exact ⟨(AMap.find_put_ne _ _ own).trans found, r, List.mem_cons_of_mem _ mem, what⟩

theorem Dev.pointersJournalled_spec (d : Dev) : d.Pointed d.pointersJournalled ∧ d.pointersJournalled.qen.changed = [] ∧
    ∀ q ∈ d.qen.changed, d.HasPointers d.pointersJournalled q := by
  unfold Dev.pointersJournalled
  extract_lets e
  have pointed : d.Pointed e := Dev.each_maintains (P := d.Pointed) _ (fun e q h => (h.record q).1) d ⟨.refl d, rfl⟩
  refine ⟨⟨.update pointed.frame, pointed.queues⟩, rfl, fun q mem => ?_⟩
  exact Dev.each_reaches (Q := d.Pointed) (P := fun e => d.Pointed e ∧ d.HasPointers e q) mem (fun e q _ h => (h.record q).1)
    (fun e h => h.record q) (fun e p _ h => ⟨(h.1.record p).1, h.2.record h.1 p⟩) ⟨.refl d, rfl⟩ |>.2
end

/-- Settles O51. Each command is one effect of the queue engine, done where its guard holds; that nothing is spilled while the
gather zone must shrink is the model's own reading of R170 and R219. -/
theorem queueEngineOwnWork : Obligations.QueueEngineOwnWork := by
  unfold Obligations.QueueEngineOwnWork
  refine ⟨fun s q c running own => ⟨spill_done running own, spill_kept running⟩,
    fun s q c st running own spilled room cells => ⟨spillPagePrefetch_eq running own spilled room cells true,
      spillPagePrefetch_lost running own spilled room cells⟩,
    fun s q a us last aon dropping => ⟨fun early => ?_, fun late none runs => ?_⟩,
    fun s q f c aon opened own => ⟨fun early => ?_, fun late none runs => ?_⟩, fun s running => ?_⟩
  · rw [exec_tailTimeout_dropping aon dropping, timesOut_early early]
    rfl
  · rw [exec_tailTimeout_dropping aon dropping, timesOut_due late none runs]
    rfl
  · rw [exec_tailTimeout_opened aon opened, timesOut_early early]
    rfl
  · rw [exec_tailTimeout_opened aon opened, timesOut_due late none runs]
    exact ⟨_, rfl, s.stamped.timeOut_spec q f own⟩
  · obtain ⟨pointed, emptied, recorded⟩ := s.stamped.pointersJournalled_spec
    rw [exec_qptrJournal, State.on_aon running.1, Dev.when_of (State.runs_of_running running)]
    exact ⟨_, rfl, emptied, pointed.queues, pointed.frame.changesOnly, recorded⟩

end Sys2Proof.Machine
end

section
/-!
O54: the media's upkeep. The numbers of queued reads are not held apart by the model's state, so a read that is sent may take
the scan read of the same number with it.
-/
-- Checked one after another: side by side, each waiting for the kernel, the proofs need more threads than the memory admits.
set_option Elab.async false
namespace Sys2Proof.Machine

/-- A band whose row 0 holds valid data, and a die of it in whose queue a read of higher rank stands under the number that the
scan's read takes next there. -/
def sharedNumber : State :=
  Tests.st { Tests.dv.setFlag .DRT_LEHR_CTL_SCAN_EN 0 true with med := { Tests.dv.med with
    bands := [(0, { set := 0, blocks := List.replicate 10 0, stream := 0, state := .full, openedAt := 0, rows := 1 })]
    map := [(0, entryOf 0 0 0)]
    dies := [(16, { queue := [⟨.grain 7 false, 0, 0, 1⟩] })] } }

/-- The uses of what waits or is listed for die 16. -/
def usesOfDie (o : Out) : List CmdUse :=
  match o with
  | .next t => ((t.dev.die 16).queue.map (·.use)) ++ (t.dev.med.cmds.filter (fun c => c.2.die = 16)).map (·.2.use)
  | _ => []

theorem sharedNumber_uses : usesOfDie (exec (.mediaScan 0 0) sharedNumber) = [.grain 7 false] := by decide +kernel

/-- Refutes O54. In `sharedNumber` the scan's read of die 16 joins the queue under number 1, which a demand read there has too:
the die takes the demand read, and every read of its number leaves the queue. So die 16, which is reachable and a member of
the band, has neither a queued nor a listed read of the scan, as the clause of the media scan asks. (The remaining clauses
rest on log entries 17, 18, 88 and 95.) -/
theorem not_mediaUpkeepTakesEffect : ¬ Obligations.MediaUpkeepTakesEffect := by
  unfold Obligations.MediaUpkeepTakesEffect
  rintro ⟨-, -, -, -, -, -, -, scan, -⟩
  obtain ⟨d, ran, -, onEach⟩ := scan sharedNumber 0 0
    { set := 0, blocks := List.replicate 10 0, stream := 0, state := .full, openedAt := 0, rows := 1 }
    ⟨by decide +kernel, by decide +kernel, by decide +kernel, by decide +kernel⟩ rfl (by decide +kernel) Nat.zero_lt_one
    ⟨(0, entryOf 0 0 0), by decide +kernel, by decide +kernel⟩
  have uses : usesOfDie (.next { sharedNumber with dev := d }) = [.grain 7 false] := (congrArg usesOfDie ran).symm.trans sharedNumber_uses
  have absent : CmdUse.scan 0 0 ∉ usesOfDie (.next { sharedNumber with dev := d }) := by rw [uses]; decide
  refine absent (List.mem_append.mpr ?_)
  rcases onEach 16 (by decide +kernel) (by decide +kernel) with ⟨q, queued, use⟩ | ⟨tag, c, listed, -, die, use⟩
  · exact .inl (List.mem_map.mpr ⟨q, queued, use⟩)
  · exact .inr (List.mem_map.mpr ⟨(tag, c), List.mem_filter.mpr ⟨AMap.mem_of_find listed, decide_eq_true die⟩, use⟩)

end Sys2Proof.Machine
end
